-- ==== Sys2Proof/Word.lean ====
section
/-! DEFINITION. The words of the model: a 32-bit register word and a byte (spec/00 R4). -/

namespace Sys2Proof

/-- A 32-bit register word. -/
abbrev Word := BitVec 32

/-- A byte of a message, of a spool item or of a pattern image. -/
abbrev Byte := BitVec 8

end Sys2Proof
end

