-- ==== Sys2Proof/Machine/Bits.lean ====
section
/-! DEFINITION. Bit fields of register words, integer rounding (spec/03 R68, R84 `rhe`; spec/04 `sat24`, `rdiv`),
byte order, and the sparse tables every block keeps its objects in. -/

namespace Sys2Proof.Machine

/-- Bits `[lo + n - 1 : lo]` of a word, as a number. -/
def fld (w : Word) (lo n : Nat) : Nat := (w.toNat / 2 ^ lo) % 2 ^ n

/-- Bit `i` of a word. -/
def bit (w : Word) (i : Nat) : Bool := fld w i 1 == 1

/-- The word with value `n` (taken modulo 2^32). -/
def word (n : Nat) : Word := BitVec.ofNat 32 n

/-- A number placed at bit `lo` of a word. -/
def at_ (lo n : Nat) : Nat := n * 2 ^ lo

/-- One flag bit as a number. -/
def b2n (b : Bool) : Nat := if b then 1 else 0

/-- The low `n` bits of `v` in two's complement, as an integer. -/
def sext (n v : Nat) : Int :=
  if v % 2 ^ n < 2 ^ (n - 1) then ((v % 2 ^ n : Nat) : Int) else ((v % 2 ^ n : Nat) : Int) - (2 ^ n : Nat)

/-- An integer as an `n`-bit two's complement field. -/
def field (n : Nat) (v : Int) : Nat := (v % (2 ^ n : Nat)).toNat

/-- `v / 2^k` rounded half to even (R68, R84). -/
def rhe (v : Int) (k : Nat) : Int :=
  let q := v / (2 ^ k : Nat)
  let r := v - q * (2 ^ k : Nat)
  if 2 * r > (2 ^ k : Nat) ∨ (2 * r = (2 ^ k : Nat) ∧ q % 2 = 1) then q + 1 else q

/-- `n / d` rounded half to even, `d` positive (R93 `rdiv`). -/
def rdiv (n d : Int) : Int :=
  let q := n / d
  let r := n - q * d
  if 2 * r > d ∨ (2 * r = d ∧ q % 2 = 1) then q + 1 else q

/-- The value held between two bounds. -/
def clampI (lo hi v : Int) : Int := if v < lo then lo else if hi < v then hi else v

/-- Saturation to a signed 24-bit sample (R87). -/
def sat24 (v : Int) : Int := clampI (-8388608) 8388607 v

/-- Saturation to a signed 32-bit value (R90). -/
def sat32 (v : Int) : Int := clampI (-2147483648) 2147483647 v

/-- Saturation to a signed 16-bit value (R129). -/
def sat16 (v : Int) : Int := clampI (-32768) 32767 v

/-- One more on a counter that saturates at `m`. -/
def satInc (m n : Nat) : Nat := if n < m then n + 1 else n

/-- A counter that saturates at `m`, raised by `k`. -/
def satAdd (m n k : Nat) : Nat := if n + k < m then n + k else m

/-- The number spelled by bytes, least significant byte first (R334). -/
def leNat : List Byte → Nat
  | [] => 0
  | b :: bs => b.toNat + 256 * leNat bs

/-- `n` bytes of a number, least significant byte first (R334). -/
def leBytes : Nat → Nat → List Byte
  | 0, _ => []
  | n + 1, v => BitVec.ofNat 8 v :: leBytes n (v / 256)

/-- The number spelled by bytes, most significant byte first. -/
def beNat (bs : List Byte) : Nat := bs.foldl (fun a b => a * 256 + b.toNat) 0

/-- `n` bytes of a number, most significant byte first. -/
def beBytes (n v : Nat) : List Byte := (leBytes n v).reverse

/-! ## Sparse tables: key and value pairs, keys strictly rising. -/

/-- A sparse table from numbers. An absent key stands for the default its owner names. -/
abbrev Tbl (α : Type) := List (Nat × α)

/-- The entry under a key. -/
def Tbl.get? {α : Type} : Tbl α → Nat → Option α
  | [], _ => none
  | (j, v) :: t, k => if j = k then some v else Tbl.get? t k

/-- The entry under a key, or the default. -/
def Tbl.getD {α : Type} (t : Tbl α) (k : Nat) (d : α) : α := (Tbl.get? t k).getD d

/-- The table with an entry put under a key. -/
def Tbl.put {α : Type} : Tbl α → Nat → α → Tbl α
  | [], k, v => [(k, v)]
  | (j, w) :: t, k, v =>
    if j = k then (k, v) :: t else if k < j then (k, v) :: (j, w) :: t else (j, w) :: Tbl.put t k v

/-- The table without a key. -/
def Tbl.del {α : Type} : Tbl α → Nat → Tbl α
  | [], _ => []
  | (j, w) :: t, k => if j = k then t else if k < j then (j, w) :: t else (j, w) :: Tbl.del t k

/-- Write a value: a value equal to the default removes the entry, so that equal contents are equal data. -/
def Tbl.set {α : Type} [DecidableEq α] (d : α) (t : Tbl α) (k : Nat) (v : α) : Tbl α :=
  if v = d then Tbl.del t k else Tbl.put t k v

/-- Change the entry under a key, if there is one. -/
def Tbl.upd {α : Type} (t : Tbl α) (k : Nat) (f : α → α) : Tbl α :=
  match Tbl.get? t k with
  | some v => Tbl.put t k (f v)
  | none => t

/-- Change the value under a key, an absent one counting as the default. -/
def Tbl.mod {α : Type} (d : α) (t : Tbl α) (k : Nat) (f : α → α) : Tbl α :=
  Tbl.put t k (f (Tbl.getD t k d))

/-- Change every entry. -/
def Tbl.mapV {α β : Type} (t : Tbl α) (f : Nat → α → β) : Tbl β := t.map fun e => (e.1, f e.1 e.2)

/-- Keep the entries that satisfy a test. -/
def Tbl.keep {α : Type} (t : Tbl α) (p : Nat → α → Bool) : Tbl α := t.filter fun e => p e.1 e.2

/-- Keys rise strictly, from above a bound. -/
def Tbl.risingFrom {α : Type} : Nat → Tbl α → Bool
  | _, [] => true
  | lo, (k, _) :: t => decide (lo ≤ k) && Tbl.risingFrom (k + 1) t

/-- The canonical form of a sparse table: keys rise strictly. -/
def Tbl.wf {α : Type} (t : Tbl α) : Bool := Tbl.risingFrom 0 t

/-- The lowest number below `n` that is not a key, from `i` on. -/
def Tbl.freeFrom {α : Type} (t : Tbl α) : Nat → Nat → Option Nat
  | 0, _ => none
  | n + 1, i => if (Tbl.get? t i).isSome then Tbl.freeFrom t n (i + 1) else some i

end Sys2Proof.Machine
end

