-- ==== Sys2Proof/Machine/Types.lean ====
section
/-! DEFINITION. The plain data of the blocks of the audio path: result codes, ramps, the mixing objects, the
dynamics, the bridges, the lanes, the fabric and admission (spec/01 to spec/06). -/

namespace Sys2Proof.Machine

/-- Result codes (Table 01-3). -/
inductive Code where
  | ok | badValue | locked | busy | noCapacity | timePast | noRole | wrongState
  | access | stale | notFound | conflict | integrity | markLost | passive | internal
  deriving DecidableEq, Repr

/-- Gain ramp (R72): from `start`, the value at the last sample before it, to `target` over `len` stitches, of which
`done` are complete. `len = 0` stands at its target. -/
structure Ramp where
  start : Int := 0
  target : Int := 0
  len : Nat := 0
  done : Nat := 0
  deriving DecidableEq, Repr

/-- One side of a crossfade and its weight (R76, R479). -/
structure Side (α : Type) where
  what : α
  w : Ramp
  deriving DecidableEq, Repr

/-- How the blocks of one input or output are played around a fault (R54, R121, R137, R181). -/
inductive Play where
  /-- Plays what it is given. -/
  | run
  /-- The next block is the fade from the last sample. -/
  | fade
  /-- The next block is the fade, and the one after it ramps in (R120). -/
  | refade
  /-- Zero until something brings it back. -/
  | zero
  /-- The next block ramps in over one stitch. -/
  | rampIn
  deriving DecidableEq, Repr

/-- Who sends a request or owns a basting set: the register path or a session (R43, R78). -/
inductive Requester where
  | regPath
  | session (k : Nat)
  deriving DecidableEq, Repr

/-! ## Mix (spec/03) -/

/-- A talk assignment (R61, R77): its slot, bus, class, key reference and talk gain; `eff` is the ramped and gated gain.
-/
structure Talk where
  slot : Nat
  bus : Nat
  cls : Nat
  key : Nat
  gain : Nat
  gateOpen : Bool
  eff : Ramp
  dying : Bool := false
  seq : Nat := 0
  deriving DecidableEq, Repr

/-- A listener bus subscription (R61, R65). -/
structure Sub where
  slot : Nat
  bus : Nat
  cls : Nat
  gain : Nat
  ramp : Ramp
  dying : Bool := false
  seq : Nat := 0
  deriving DecidableEq, Repr

/-- A source (R61): input selector last committed and the sides that play (R76); `dying` counts the ramp of its
dependents; `live` is false while a set of R79 names it before it creates it. -/
structure Source where
  live : Bool := true
  cls : Nat := 2
  input : Word := 0
  sides : List (Side Word) := []
  dying : Option Ramp := none
  talks : List Talk := []
  seq : Nat := 0
  deriving DecidableEq, Repr

/-- A bus (Table 03-10). -/
structure Bus where
  cls : Nat := 2
  act : Nat := 0
  active : Bool := false
  deriving DecidableEq, Repr

/-- A listener: own list committed last, the own-list variants that play, its subscriptions (R65, R76). -/
structure Listener where
  own : List Nat := [0xFFFF, 0xFFFF, 0xFFFF, 0xFFFF]
  sides : List (Side (List Nat)) := []
  subs : List Sub := []
  deriving DecidableEq, Repr

/-- A direct crosspoint (Table 03-12). -/
structure Xp where
  src : Nat
  dst : Nat
  cls : Nat
  gain : Nat
  ramp : Ramp
  dying : Bool := false
  seq : Nat := 0
  deriving DecidableEq, Repr

/-- What a missed fence left of a destination's output (R54). -/
inductive FenceMute where
  | none
  /-- Plays zero until it completes a stitch. -/
  | zero
  /-- Ramps in from mute. -/
  | ramp (r : Ramp)
  deriving DecidableEq, Repr

/-- A destination (R61, R67 to R71): `out` is the block computed last, `prev` the last sample of the block before. -/
structure Dst where
  live : Bool := true
  cls : Nat := 2
  gain : Ramp := {}
  feed : Nat := 0xFFFF
  sides : List (Side Nat) := []
  duckGain : Nat := 16384
  duckAct : Nat := 0
  duckRel : Nat := 400
  duck : Ramp := { start := 16384, target := 16384 }
  ducked : Bool := false
  dying : Option Ramp := none
  fence : FenceMute := .none
  out : List Int := []
  prev : Int := 0
  seq : Nat := 0
  deriving DecidableEq, Repr

/-- A change record of four words (R85). -/
structure Rec where
  w0 : Word
  w1 : Word
  w2 : Word
  w3 : Word
  deriving DecidableEq, Repr

/-- States of a basting set (Table 03-9). -/
inductive SetState where
  | free | open | deciding | pending | armed
  deriving DecidableEq, Repr

/-- A basting set (R78 to R83). `owner` is `none` for 31; `seq` and `created` are the admission sequence numbers of the
objects the set creates, by change index (R47); `lost` holds the changes whose objects were shed before they came to be
(R83). -/
structure BSet where
  state : SetState := .free
  owner : Option Requester := none
  recs : List Rec := []
  code : Code := .ok
  index : Nat := 0
  skip : Nat := 0
  stitch : Nat := 0
  seq : Nat := 0
  created : List Nat := []
  lost : List Nat := []
  deriving DecidableEq, Repr

/-- The objects that an enable request names (R43, R347). -/
inductive ObjKind where
  | rx | tx | meter | vox | seam | conv
  deriving DecidableEq, Repr

/-- An enable or disable waiting for its boundary (R14). -/
structure Enable where
  acceptedAt : Nat
  obj : ObjKind
  index : Nat
  cls : Nat
  on : Bool
  seq : Nat := 0
  deriving DecidableEq, Repr

/-- A commit waiting for its boundary (R82): immediate ones from their decision, scheduled ones, which carry their
entry, from the instant they fire. -/
structure Commit where
  acceptedAt : Nat
  set : Nat
  entry : Option Nat := none
  deriving DecidableEq, Repr

/-- Last refused commit (Table 03-8). -/
structure Refuse where
  code : Code := .ok
  set : Nat := 0
  reason : Nat := 0
  change : Nat := 0
  deriving DecidableEq, Repr

/-- The mixing tables as a stitch has them; `ran` says that it has been computed. -/
structure Tables where
  ran : Bool := false
  sources : Tbl Source := []
  buses : Tbl Bus := []
  listeners : Tbl Listener := []
  xps : Tbl Xp := []
  dests : Tbl Dst := []
  deriving DecidableEq, Repr

/-- The mixing engine (spec/03) and the stitch (spec/01 R8, R9); `ran` says that a stitch has been computed since audio
start, `shown` holds the tables of the stitch before, which an entry shows while its stitch is being computed (R86). -/
structure Mix where
  stitch : Nat := 0
  audioOn : Bool := false
  ran : Bool := false
  boundaryAt : Nat := 0
  sources : Tbl Source := []
  buses : Tbl Bus := []
  listeners : Tbl Listener := []
  xps : Tbl Xp := []
  dests : Tbl Dst := []
  sets : Tbl BSet := []
  commits : List Commit := []
  enables : List Enable := []
  refuse : Refuse := {}
  shown : Tables := {}
  deriving DecidableEq, Repr

/-! ## Demand (R31) -/

/-- Demand by class: what one item adds to its class. -/
structure Demand where
  d0 : Nat := 0
  d1 : Nat := 0
  d2 : Nat := 0
  d3 : Nat := 0
  deriving DecidableEq, Repr

/-! ## Dynamics (spec/04) -/

/-- One high-pass filter side with its own output history (R89, R90). -/
structure Filt where
  hpf : Nat := 0
  y1 : Int := 0
  y2 : Int := 0
  deriving DecidableEq, Repr

/-- A source chain (R87 to R97). `sqs` holds the latest squares, newest first; `naRun` the input samples since the last
trigger; `gsWas` is `gs` at the end of the last completed stitch (R94); `hits` the inputs whose last raw word was the
first preamble word; `naTrig` a trigger found in the last stitch. -/
structure Chain where
  trim : Ramp := { start := 16384, target := 16384 }
  t1 : Int := 0
  t2 : Int := 0
  filts : List (Side Filt) := [{ what := {}, w := { start := 16384, target := 16384 } }]
  gs : Int := 0
  gsWas : Int := 0
  sqs : List Nat := []
  mute : Ramp := { start := 16384, target := 16384 }
  naCause : Nat := 0
  naRun : Nat := 0
  hits : List Word := []
  naTrig : Nat := 0
  csNon : Bool := false
  clips : Nat := 0
  x : List Int := []
  deriving DecidableEq, Repr

/-- The dual hem of a destination (R100 to R103). `prevA` and `prevB` are the gains before the block computed last, `was`
copy A's gain at the end of the stitch before, which HEM_CLR leaves as it is; `raw` is the block of smaller magnitude
that the copies gave last, before any ramp. -/
structure Hem where
  gA : Nat := 1073741824
  gB : Nat := 1073741824
  prevA : Nat := 1073741824
  prevB : Nat := 1073741824
  was : Nat := 1073741824
  raw : List Int := []
  muted : Bool := false
  ramp : Option Ramp := none
  clearReq : Option Nat := none
  limited : Nat := 0
  deriving DecidableEq, Repr

/-- A meter (R104 to R107): maxima and sums of squares per block, newest first. -/
structure Meter where
  enabled : Bool := false
  cls : Nat := 0
  peaks : List Nat := []
  sums : List Nat := []
  peak : Int := -8192
  rms : Int := -8192
  hold : Int := -8192
  clips : Nat := 0
  holdFrom : Option Nat := none
  clrReq : Bool := false
  pubHold : Int := -8192
  pubClips : Nat := 0
  seq : Nat := 0
  deriving DecidableEq, Repr

/-- A VOX detector (R108, R109); `wasOn`, `wasAbove` and `wasBelow` are its state before the block of this stitch. -/
structure Vox where
  enabled : Bool := false
  cls : Nat := 0
  on : Bool := false
  seen : Bool := false
  above : Nat := 0
  below : Nat := 0
  wasOn : Bool := false
  wasAbove : Nat := 0
  wasBelow : Nat := 0
  seq : Nat := 0
  deriving DecidableEq, Repr

/-- Dynamics and meters (spec/04). -/
structure Dyn where
  chains : Tbl Chain := []
  hems : Tbl Hem := []
  meters : Tbl Meter := []
  vox : Tbl Vox := []
  deriving DecidableEq, Repr

/-! ## Bridges (spec/05) -/

/-- Seam states (Table 05-7). -/
inductive SeamState where
  | off | training | running | hold | range
  deriving DecidableEq, Repr

/-- Triggers of Table 05-2 that arrive between boundaries; `ratio` is the 20 ms measurement in 2^-40. -/
inductive SeamTrig where
  | stop | trainEnd | jump | ratio (r : Nat) | recover
  deriving DecidableEq, Repr

/-- A seam channel (R117 to R123): ratio in 2^-40, on a standby the mirrored one, with `shadow` its own estimate (R123),
each with the second state of its loop, `loop` and `shadowLoop` (R118); `trainFrom` runs TRAIN, in HOLD the 20 ms after
input returned; `trig` is the trigger of this stitch that stands first; `hist` its latest input samples, oldest first;
`out` the block that leaves it in this stitch. -/
structure Seam where
  enabled : Bool := false
  cls : Nat := 0
  state : SeamState := .off
  ratio : Nat := 0
  loop : Nat := 0
  shadow : Nat := 0
  shadowLoop : Nat := 0
  held : Nat := 0
  trainFrom : Option Nat := none
  inRangeFrom : Option Nat := none
  groupHeld : Bool := false
  trig : Option SeamTrig := none
  play : Play := .zero
  hist : List Int := []
  out : List Int := []
  slips : Nat := 0
  seq : Nat := 0
  deriving DecidableEq, Repr

/-- A synchronous converter channel (R116): `hist` its latest input samples, oldest first; `out` the block that leaves it
in this stitch. -/
structure Conv where
  enabled : Bool := false
  cls : Nat := 0
  play : Play := .run
  hist : List Int := []
  out : List Int := []
  seq : Nat := 0
  deriving DecidableEq, Repr

/-- Seams and converters (spec/05); `replay` holds the blocks of replay inputs by selector (R85, KIND 6). -/
structure Bridges where
  seams : Tbl Seam := []
  convs : Tbl Conv := []
  replay : Tbl (List Int) := []
  deriving DecidableEq, Repr

/-! ## Lanes (spec/06) -/

/-- Clock-group states (Table 06-6). -/
inductive GroupState where
  | off | starting | running | stopped | rateFault | stopping
  deriving DecidableEq, Repr

/-- A clock group (R136 to R147). `okFrom` and `okRate` run the 100 ms of R141, `settled` says that they are over and the
boundary is awaited; `fresh` that the group has entered RUNNING and is not anchored yet (R136); `stopLeft` the 64 frames
of R145, counted from `stopAt` on; `frames` the frames of the block that goes out, `pos` the place of the next one in it,
at or beyond `frames` for a frame whose block comes with the boundary of this instant; `slip` the slip of the boundary
that runs (R137). -/
structure Group where
  state : GroupState := .off
  curRate : Nat := 4
  stable : Nat := 0
  stableRate : Nat := 4
  glitchRun : Nat := 0
  offRun : Nat := 0
  lastAt : Option Nat := none
  okFrom : Option Nat := none
  okRate : Nat := 4
  settled : Bool := false
  fresh : Bool := false
  ahead : Nat := 0
  wire : List (Nat × List Bool) := []
  phase : Int := 0
  slip : Int := 0
  stopLeft : Nat := 0
  stopAt : Nat := 0
  pos : Int := 0
  frames : Nat := 6
  play : Play := .zero
  playOut : Play := .zero
  stops : Nat := 0
  glitches : Nat := 0
  rateFaults : Nat := 0
  slips : Nat := 0
  deriving DecidableEq, Repr

/-- The definition with which host input or output runs (R148 to R151). -/
structure HostDef where
  spool : Nat
  chans : Nat
  pack : Nat
  blocks : Nat := 0
  deriving DecidableEq, Repr

/-- Lanes and host channels (spec/06). `hostInDef` and `hostOutDef` are the definitions the host channels run with,
`hostOut` the blocks of the item in progress, `hostOutHeld` says that the spool has taken that item (R295). Slots are
numbered 32 x lane + slot. `inAcc` collects the samples of a stitch, `inGood` is the last good sample of a slot (R138,
R139), `inLast` the last sample of the block delivered last. -/
structure Lanes where
  groups : Tbl Group := []
  inAcc : Tbl (List Int) := []
  inBlk : Tbl (List Int) := []
  inLast : Tbl Int := []
  inGood : Tbl Int := []
  outNext : Tbl (List Int) := []
  outCur : Tbl (List Int) := []
  outLast : Tbl Int := []
  outPrev : Tbl Int := []
  slotSides : Tbl (List (Side Nat)) := []
  hostSides : Tbl (List (Side Nat)) := []
  hostIn : Tbl (List Int) := []
  hostInDef : Option HostDef := none
  hostLast : Tbl Int := []
  hostPlay : Play := .zero
  hostOut : List (List Int) := []
  hostOutTack : Nat := 0
  hostOutHeld : Bool := false
  hostOutDef : Option HostDef := none
  hostBad : Nat := 0
  hostUnder : Nat := 0
  hostOver : Nat := 0
  frameSeen : Option Nat := none
  deriving DecidableEq, Repr

/-! ## Fabric and admission (spec/02) -/

/-- A needle (R34, R35). -/
structure Needle where
  inService : Bool := true
  pace : Nat := 0
  slow : Bool := false
  deriving DecidableEq, Repr

/-- VCORE controller states (Table 02-3). -/
inductive VState where
  | steady | raising | confirming | hold | lowering
  deriving DecidableEq, Repr

/-- What an admission request asks (R43). A commit names its set and, when scheduled, its entry and whether it was
written late. -/
inductive AdmKind where
  | commit (set : Nat) (entry : Option (Nat × Bool))
  | enable (obj : ObjKind) (index : Nat) (cls : Nat)
  deriving DecidableEq, Repr

/-- A request in the admission queue (R43): its sender, what it asks, and when it arrived. -/
structure AdmReq where
  who : Requester
  kind : AdmKind
  stitch : Nat
  tack : Nat
  deriving DecidableEq, Repr

/-- An entry of SHED_LOG (Table 02-25). -/
structure ShedEntry where
  cls : Nat := 0
  kind : Nat := 0
  cause : Nat := 0
  index : Nat := 0
  seq : Nat := 0
  deriving DecidableEq, Repr

/-- A decided request on its way to its sender (R44, R346): code, and for a refused commit the failing change and its
reason. -/
structure Decided where
  who : Requester
  kind : AdmKind
  code : Code
  change : Option Nat := none
  reason : Nat := 0
  deriving DecidableEq, Repr

/-- The fabric and admission block (spec/02). -/
structure Fab where
  needles : Tbl Needle := []
  vstate : VState := .steady
  vnow : Nat := 30
  vtarget : Nat := 30
  vfrom : Nat := 30
  vAt : Nat := 0
  confirm : Nat := 0
  holdFrom : Option Nat := none
  slowPrev : Bool := false
  pace : Nat := 0
  slack : Nat := 0xFFFF
  fenceMisses : Nat := 0
  paceFaults : Nat := 0
  admPending : Bool := false
  admResult : Code := .ok
  admSeq : Nat := 0
  queue : List AdmReq := []
  waiting : Option AdmReq := none
  decided : List Decided := []
  shedLog : Tbl ShedEntry := []
  shedNext : Nat := 0
  shedCount : Nat := 0
  deriving DecidableEq, Repr

/-- Shedding, exhaustion and the fence (R55, R57, R449). `pend` lists objects (kind, index) with the stitch at which
they ramp out; `fenced` is the stitch judged last. -/
structure Shed where
  exhausted : Bool := false
  missRun : Nat := 0
  pend : List (Nat × List (Nat × Nat)) := []
  fenced : Option Nat := none
  deriving DecidableEq, Repr

end Sys2Proof.Machine
end

