-- ==== Sys2Proof/Machine/TypesCtl.lean ====
section
/-! DEFINITION. The plain data of events and interrupt delivery (spec/14), and of lane frames (spec/06). -/

namespace Sys2Proof.Machine

/-! ## Events (spec/14) -/

/-- Source states (Table 14-10). -/
inductive EvState where
  | idle | latched | held | queued | inService
  deriving DecidableEq, Repr

/-- An event source (R314). -/
structure EvSrc where
  state : EvState := .idle
  again : Bool := false
  deriving DecidableEq, Repr

/-- A moderation group (R315, R316): the open interval or hold-off with the times it began with, and its count; `due` when
it releases once everything of this instant is sensed (R329). -/
structure EvGrp where
  from_ : Option Nat := none
  time : Nat := 0
  cnt : Nat := 0
  count : Nat := 0
  releases : Nat := 0
  due : Bool := false
  deriving DecidableEq, Repr

/-- MSI-X Enable and Function Mask of the function's MSI-X capability (R318, R319). -/
structure MsixCtl where
  enable : Bool
  mask : Bool := false
  deriving DecidableEq, Repr

/-- An entry of a target's priority stack (R320). -/
structure Pushed where
  vec : Nat
  prio : Nat
  src : Nat
  deriving DecidableEq, Repr

/-- A target (R318 to R321): its stack, the top first, and a stack-fault message still to be sent. -/
structure Tgt where
  stack : List Pushed := []
  faultDue : Bool := false
  stackFaults : Nat := 0
  eoiIdle : Nat := 0
  delivered : Nat := 0
  deriving DecidableEq, Repr

/-- PCIe function power states (R324). -/
inductive DState where
  | d0 | d3hot | d3cold
  deriving DecidableEq, Repr

/-- PCIe link states (R3, R324). -/
inductive LinkState where
  | l0 | l0s | l1 | l2 | l3 | down
  deriving DecidableEq, Repr

/-- The events block: sources, groups, targets, edges and hits not sensed yet, releases of this stitch with their tacks
and the identifiers of the sessions that subscribe (R328), the PCIe power and link states, PCIE_PERST# held low and the
instant of its release (R476). -/
structure Evt where
  srcs : Tbl EvSrc := []
  grps : Tbl EvGrp := []
  tgts : Tbl Tgt := []
  edges : List (Nat × Bool) := []
  hits : List Nat := []
  released : List (Nat × Nat × List Nat) := []
  dstate : DState := .d0
  link : LinkState := .down
  reachedL0 : Bool := false
  wake : Bool := false
  pme : Bool := false
  msixEn : Bool := false
  msixMask : Bool := false
  perst : Bool := false
  perstUp : Nat := 0
  deriving DecidableEq, Repr

/-! ## Lane frames (spec/06) -/

/-- The bits that one lane pin carried in a frame, in time order: as sampled at the rising and at the falling BCK edges,
from the first BCK after the edge that started the frame on. -/
structure LaneBits where
  lane : Nat
  rising : List Bool := []
  falling : List Bool := []
  deriving DecidableEq, Repr

/-- An edge on a frame-sync pin, a group's own CGn_FSY or the shared FRAME pin (R128, R130): its direction, and the frame
that it ends where it starts one: BCK count (of the groups other than the named one in `bcks`), period in picoseconds
and the bits of the lanes. -/
structure LaneFrame where
  bck : Nat
  period : Nat
  shared : Bool := false
  falling : Bool := true
  bcks : List (Nat × Nat) := []
  data : List LaneBits := []
  deriving DecidableEq, Repr

end Sys2Proof.Machine
end

