-- ==== Sys2Proof/Machine/TypesIo.lean ====
section
/-! DEFINITION. The plain data of control inputs, outputs, rules and the schedule (spec/12) and of spools (spec/13). -/

namespace Sys2Proof.Machine

/-! ## Control inputs and outputs (spec/12) -/

/-- A GPIO pin (R272, R273): raw level from outside, the edge that began the present stable run, debounced level. -/
structure Pin where
  raw : Bool := false
  rawAt : Nat := 0
  rawTack : Nat := 0
  deb : Bool := false
  tack : Nat := 0
  edges : Nat := 0
  deriving DecidableEq, Repr

/-- What one evaluator holds of a rule (R277 to R281): `count` evaluations in a row had the present RAW, `pulse` have
passed since the rise that began a pulse, that one included (0: none runs), and `fresh` says that EN = 0 was written since
the last evaluation. -/
structure RuleSt where
  out : Bool := false
  raw : Bool := false
  latch : Bool := false
  open_ : Bool := false
  count : Nat := 0
  pulse : Nat := 0
  fresh : Bool := false
  deriving DecidableEq, Repr

/-- Control output states (Table 12-3). -/
inductive CoState where
  | off | on | held
  deriving DecidableEq, Repr

/-- A control output (R282 to R284): `ready` says that an evaluation has followed the write of EN or CO_CLR; `was` is the
level before the one set last, `setAt` the instant at which that one is on the pins (R275). -/
structure Co where
  state : CoState := .off
  ready : Bool := false
  cmdA : Bool := false
  cmdB : Bool := false
  rbA : Bool := false
  rbB : Bool := false
  was : Bool := false
  setAt : Nat := 0
  disagrees : Nat := 0
  deriving DecidableEq, Repr

/-- Schedule entry states (Table 12-5). -/
inductive SeState where
  | free | armed | done | deciding
  deriving DecidableEq, Repr

/-- A schedule entry (R285 to R289): `runs` counts how often it has run, the last time at `ranAt`. -/
structure Sched where
  state : SeState := .free
  late : Bool := false
  result : Nat := 0
  prior : List Word := []
  runs : Nat := 0
  ranAt : Nat := 0
  deriving DecidableEq, Repr

/-- GPIO, rules of evaluators A and B and of A one evaluation before, control outputs, schedule, pulses pending their
return (pin to instant). -/
structure Cio where
  pins : Tbl Pin := []
  ruleA : Tbl RuleSt := []
  ruleB : Tbl RuleSt := []
  ruleWas : Tbl RuleSt := []
  cos : Tbl Co := []
  sched : Tbl Sched := []
  pulses : Tbl Nat := []
  last : Nat := 0
  deriving DecidableEq, Repr

/-! ## Spools (spec/13) -/

/-- A committed item (R292): its header's fields, payload words, length in bytes, the item offsets of the words with a
poison tag, the parity bits of its words, header included (R291; where a bit is missing, that of the word), and the
stitch and the tack in TB0 of its commit (R343). -/
structure Item where
  tag : Nat
  tb : Nat
  src : Nat
  tack : Nat
  seq : Nat
  len : Nat
  words : List Word
  poison : List Nat := []
  parity : List Bool := []
  done : Nat × Nat := (0, 0)
  deriving DecidableEq, Repr

/-- The open item of a spool (R298); `cut` after a flush (R305), `gone` when a spool reset has taken the cells it held
(R307); `reserve` payload words are reserved for it by an internal producer (R295). -/
structure OpenItem where
  tag : Nat
  tack : Nat
  words : List Word := []
  poison : List Nat := []
  cut : Bool := false
  gone : Bool := false
  reserve : Nat := 0
  deriving DecidableEq, Repr

/-- A spool (R293 to R307): items oldest first, the cursor as item index and word, the mark as the SEQ of its item. -/
structure Spool where
  items : List Item := []
  cur : Nat := 0
  pos : Nat := 0
  mark : Option Nat := none
  openItem : Option OpenItem := none
  seq : Nat := 0
  flushed : Bool := false
  markLost : Bool := false
  flushCut : Bool := false
  levelHit : Bool := false
  unreadLost : Nat := 0
  drops : Nat := 0
  poisoned : Nat := 0
  resetting : Bool := false
  deriving DecidableEq, Repr

/-- The bobbin store: size in 16 MiB units, STORE_LOW armed, spools, host reads that stall (spool, offset, until). -/
structure Spools where
  store : Nat := 4
  armed : Bool := true
  spools : Tbl Spool := []
  stalled : List (Nat × Nat × Nat) := []
  deriving DecidableEq, Repr

/-- An item as an internal producer hands it over (R295). -/
structure NewItem where
  tag : Nat
  tb : Nat
  tack : Nat
  body : List Byte
  poison : List Nat := []
  deriving DecidableEq, Repr

end Sys2Proof.Machine
end

