-- ==== Sys2Proof/Machine/TypesNet.lean ====
section
/-! DEFINITION. The plain data of the ports and the switch (spec/07) and of the time bases (spec/09). -/

namespace Sys2Proof.Machine

/-! ## Ports and switch (spec/07) -/

/-- How a PTP message travels (Table 09-1 TRANSPORT). -/
inductive PtpVia where
  | ethernet | udp4 | udp6
  deriving DecidableEq, Repr

/-- What the switch reads of a PTP message in a frame (R207 to R210): message type, correctionField in 2^-16 ns, and
the two bytes that follow the message inside the UDP payload, where they are there, and the UDP checksum. -/
structure PtpHdr where
  via : PtpVia
  kind : Nat
  corr : Int
  tail : Option Nat
  sum : Nat := 0
  deriving DecidableEq, Repr

/-- The IP and UDP fields of a stream's frame, with the computed checksum (R177, R194). -/
structure IpHdr where
  v6 : Bool
  dst : Nat
  src : Nat
  udpDst : Nat
  udpSrc : Nat
  dscp : Nat
  ttl : Nat
  sum : Nat := 0
  deriving DecidableEq, Repr

/-- A frame: addresses, tag, length from the destination MAC through the FCS, and what the switch reads of its contents;
`tx` names the transmit stream that formed it and the instant by which it leaves (R124). -/
structure Frame where
  dst : Nat
  src : Nat
  tagged : Bool := true
  vid : Nat := 0
  pcp : Nat := 0
  len : Nat := 64
  fcsOk : Bool := true
  ptp : Option PtpHdr := none
  ip : Option IpHdr := none
  body : List Byte := []
  tx : Option (Nat × Nat) := none
  deriving DecidableEq, Repr

/-- A frame in an egress queue: the port it came from and when its start passed there. -/
structure QFrame where
  frame : Frame
  fromPort : Nat
  inAt : Nat
  deriving DecidableEq, Repr

/-- Port states (Table 07-2). -/
inductive PortState where
  | disabled | negotiating | up
  deriving DecidableEq, Repr

/-- The 64-bit and 32-bit counters of a port (Table 07-6). -/
structure PortCnt where
  rxFrames : Nat := 0
  txFrames : Nat := 0
  rxOctets : Nat := 0
  txOctets : Nat := 0
  rxFcs : Nat := 0
  rxDrop : Nat := 0
  gateDrop : Nat := 0
  flush : Nat := 0
  qdrop : Tbl Nat := []
  deriving DecidableEq, Repr

/-- A gate configuration (R163, R165): entries of states and interval; `applied` is the time of its time base at the
GATE_APPLY write. -/
structure GateCfg where
  en : Bool := false
  tb : Nat := 0
  cycle : Nat := 125000
  base : Nat := 0
  list : List (Nat × Nat) := [(0xFF, 125000)]
  applied : Nat := 0
  deriving DecidableEq, Repr

/-- A port: link, transmission in progress, shaper credits in bits × 10^9, gates, counters (R153, R161 to R165); the
instant until which an IGMPv2 or MLDv1 querier was heard (R160). -/
structure Port where
  state : PortState := .disabled
  speed : Nat := 0
  fec : Bool := false
  fault : Nat := 0
  busyUntil : Nat := 0
  sending : Nat := 0
  creditA : Int := 0
  creditB : Int := 0
  oper : GateCfg := {}
  pend : Option GateCfg := none
  cur : Nat := 0
  oldIgmp : Nat := 0
  oldMld : Nat := 0
  cnt : PortCnt := {}
  deriving DecidableEq, Repr

/-- A MAC entry (R156): learned port and refresh instant, static mask, and how many receive streams own it. -/
structure MacEnt where
  vid : Nat
  mac : Nat
  learned : Option (Nat × Nat) := none
  fixed : Option Nat := none
  owners : Nat := 0
  deriving DecidableEq, Repr

/-- A membership report, answer or leave to be sent (R159, R160): not before `due`, by `by_`, in the older form where the
port was in its compatibility mode when it was queued. -/
structure Report where
  due : Nat
  by_ : Nat
  port : Nat
  v6 : Bool
  group : Nat
  src : Option Nat
  leave : Bool
  old : Bool := false
  deriving DecidableEq, Repr

/-- The ports and the switch. Queues are keyed 8 × port + queue. -/
structure Switch where
  ports : Tbl Port := []
  queues : Tbl (List QFrame) := []
  mac : Tbl MacEnt := []
  reports : List Report := []
  deriving DecidableEq, Repr

/-! ## Time bases (spec/09) -/

/-- Time base states (Table 09-3). -/
inductive TbState where
  | freeRun | acquiring | tracking | jumpHeld | holding | master | mirrored
  deriving DecidableEq, Repr

/-- What an Announce carries of its master (R201), the UTC fields only where it has them; `sender` is the clockIdentity of
the port it came from, `port` the own port it came over. -/
structure Dataset where
  id : Nat
  prio1 : Nat := 128
  cls : Nat := 248
  acc : Nat := 0xFE
  var : Nat := 0xFFFF
  prio2 : Nat := 128
  utc : Option Nat := none
  source : Nat := 0xA0
  steps : Nat := 0
  sender : Nat := 0
  port : Nat := 0
  deriving DecidableEq, Repr

/-- A latched snapshot (R222). -/
structure Snap where
  sec : Nat := 0
  ns : Nat := 0
  frac : Nat := 0
  tns : Nat := 0
  gen : Nat := 0
  deriving DecidableEq, Repr

/-- A time base. `t` is its time in ns / (256 × 10^9), the unit in which one 1/256 ppb acts over 1 ns; `slewLeft` and
`slewRate` are the phase still to slew and the rate per ns in the same unit; `ofs`, `mpd` and sync stamps are in
1/16 ns. `phase` is 1 in the stitch that fades before a step and 2 in the stitch after it (R216). `asked` holds, by port,
the number and the time-stamp of the last delay request that left there; `annNo`, `syncNo` and `delayNo` number what is
sent. -/
structure TimeBase where
  t : Nat := 0
  state : TbState := .freeRun
  freq : Int := 0
  slewLeft : Int := 0
  slewRate : Nat := 0
  ofs : Int := 0
  mpd : Nat := 0
  outRun : Nat := 0
  okRun : Nat := 0
  pend : Int := 0
  committed : Option Nat := none
  phase : Nat := 0
  jumpGen : Nat := 0
  stepGen : Nat := 0
  step : Int := 0
  stepTack : Nat := 0
  acc : Int := 0
  initDone : Bool := false
  heldSince : Option Nat := none
  gm : Option Dataset := none
  gmUtc : Nat := 0
  annAt : Option Nat := none
  annTimeouts : Nat := 0
  outliers : Nat := 0
  syncSeq : Option (Nat × Int × Int) := none
  t2t1 : Int := 0
  nextAnn : Nat := 0
  nextSync : Nat := 0
  nextDelay : Nat := 0
  annNo : Nat := 0
  syncNo : Nat := 0
  delayNo : Nat := 0
  asked : Tbl (Nat × Int) := []
  after : TbState := .tracking
  snap : Snap := {}
  saved : TbState := .freeRun
  deriving DecidableEq, Repr

/-- The time bases, the switch's link delays in 1/16 ns, uncorrected messages, when the next Pdelay exchange of a port is
due, and the number and time-stamp of the last request there on the TCXO in 1/16 ns (R208, R210). -/
structure TimeBases where
  tbs : Tbl TimeBase := []
  linkDelay : Tbl Nat := []
  noFix : Nat := 0
  nextPdelay : Tbl Nat := []
  pdelayAsked : Tbl (Nat × Int) := []
  deriving DecidableEq, Repr

/-- A PTP message as a time base takes it, its times in 1/16 ns (R204, R212): an Announce; a Sync with its sender's
clockIdentity, its origin time and correction, its Follow_Up; a delay request with its sender and number, and the answer
to one; a peer-delay request, and the answer to one with its t2 and t3; a message that is not supported (R202). -/
inductive PtpMsg where
  | announce (ds : Dataset)
  | sync (sender seq : Nat) (twoStep : Bool) (origin corr : Int)
  | followUp (sender seq : Nat) (origin corr : Int)
  | delayReq (from_ seq : Nat)
  | delayResp (sender seq : Nat) (recv corr : Int)
  | pdelayReq (seq : Nat)
  | pdelayResp (seq : Nat) (t2 t3 : Int)
  | ignored
  deriving DecidableEq, Repr

/-- How a PTP message of a time base leaves (R199 to R201): port, own clockIdentity and portNumber, TRANSPORT, domain,
VID, PCP and sequence number. -/
structure PtpTx where
  port : Nat
  id : Nat
  number : Nat
  via : Nat
  domain : Nat
  vid : Nat
  pcp : Nat
  seq : Nat
  deriving DecidableEq, Repr

/-- What it says (R200, R201), times in 1/16 ns: Announce, Sync and Delay_Resp with the dataset; a Sync and its Follow_Up
with the rateRatio of a relay, as its offset from 1 in 2^-41 (zero from a grandmaster). -/
inductive PtpBody where
  | announce (ds : Dataset)
  | sync (twoStep : Bool) (time corr rate : Int) (ds : Dataset)
  | followUp (time corr rate : Int)
  | delayReq
  | delayResp (sender : Nat) (recv : Int) (ds : Dataset)
  | pdelayReq
  | pdelayResp (t2 t3 : Int)
  deriving DecidableEq, Repr

end Sys2Proof.Machine
end

