-- ==== Sys2Proof/Machine/TypesStr.lean ====
section
/-! DEFINITION. The plain data of network streams (spec/08), references (spec/10) and synthesizers (spec/11). -/

namespace Sys2Proof.Machine

/-! ## Streams (spec/08) -/

/-- Receive stream states (Table 08-2). -/
inductive RxState where
  | off | waiting | running
  deriving DecidableEq, Repr

/-- One leg of a receive stream (R187): highest extended sequence number seen, `restart` that it restarts at the next
accepted packet (R216), the packets it has delivered (sequence number and position), the instant of its last accepted
packet, and its counters. -/
structure Leg where
  hi : Option Nat := none
  restart : Bool := false
  got : List (Nat × Nat) := []
  lastAcc : Option Nat := none
  live : Bool := false
  pkts : Nat := 0
  lost : Nat := 0
  used : Nat := 0
  deriving DecidableEq, Repr

/-- A receive stream (R178 to R189): the ring maps presentation positions to the samples of all channels; `read` is the
position the next block starts at, `past` the first position that has not been handed over (R183); `begun` says that a
complete block has been handed over, `exempt` that incomplete blocks are not counted (R181, R183, R216); `blk` is the
block handed over last, on a foreign clock those of the stitch, `fedAt` the instant of the last complete one, `before`
the frame that played before it (R427). `acr` places an ACR stream: the timestamp of its latest packet and that packet's
position; `acrRate` is the recovered rate in 2^-32 blocks a stitch, `acrFrac` the part of a block passed, `acrLevel`
LEVEL at the anchor, `acrErr` how late the latest packet arrived for its timestamp (R189). `off` is the link offset in
use, `owns` the legs (leg B: true) whose join holds a MAC entry (R159). `cs` collects the channel-status bits of AM824
per channel; `csDone` holds the channels that completed a channel-status block in this stitch and its non-audio bit
(R95, R173). -/
structure Rx where
  enabled : Bool := false
  cls : Nat := 0
  state : RxState := .off
  ring : Tbl (List Int) := []
  top : Option Nat := none
  read : Nat := 0
  past : Int := 0
  primed : Bool := false
  begun : Bool := false
  exempt : Bool := false
  under : Bool := false
  playing : Bool := false
  blk : List (List Int) := []
  last : List Int := []
  before : List Int := []
  muted : Bool := false
  acr : Option (Nat × Nat) := none
  acrRate : Nat := 4294967296
  acrFrac : Nat := 0
  acrLevel : Int := 0
  acrErr : Int := 0
  legA : Leg := {}
  legB : Leg := {}
  merged : List (Nat × Nat) := []
  cs : Tbl (List Bool) := []
  csDone : Tbl Bool := []
  off : Nat := 96
  owns : List Bool := []
  lastAcc : Nat := 0
  late : Nat := 0
  early : Nat := 0
  dup : Nat := 0
  malformed : Nat := 0
  underruns : Nat := 0
  missing : Nat := 0
  refilled : Nat := 0
  level : Int := 0
  levelMin : Int := 0x7FFF
  freeAt : Nat := 0
  fedAt : Option Nat := none
  seq : Nat := 0
  deriving DecidableEq, Repr

/-- Transmit stream states (Table 08-7). -/
inductive TxState where
  | off | starting | running
  deriving DecidableEq, Repr

/-- A transmit stream (R191 to R195): `buf` maps positions to the samples of all channels that have left; `from_` is the
first position of the stream, `next` the next packet index, `until_` the position at which a disabled stream ends,
`shed` that it fades to be shed; packets whose last sample leaves before position `roleAt` are sent as `wasOne` says
(R434). -/
structure Tx where
  enabled : Bool := false
  cls : Nat := 0
  state : TxState := .off
  buf : Tbl (List Int) := []
  pos : Option Nat := none
  from_ : Nat := 0
  next : Option Nat := none
  until_ : Option Nat := none
  play : Play := .run
  shed : Bool := false
  roleAt : Nat := 0
  wasOne : Bool := true
  last : List Int := []
  pktsA : Nat := 0
  pktsB : Nat := 0
  late : Nat := 0
  seq : Nat := 0
  deriving DecidableEq, Repr

/-- Packets that a disabled transmit stream had started and completes (R193): its run, and its definition as it was. -/
structure TxTail where
  defs : Tbl Word := []
  run : Tx := {}
  deriving DecidableEq, Repr

/-- The streams: receive, transmit, packets of disabled ones (keyed stream + 256 × order), channel-map crossfades keyed
64 × stream + channel, hank underruns, unmatched frames, and the last MC0 block start of R219. -/
structure Streams where
  rx : Tbl Rx := []
  tx : Tbl Tx := []
  tails : Tbl TxTail := []
  mapSides : Tbl (List (Side Nat)) := []
  hank : Tbl Nat := []
  noMatch : Nat := 0
  deriving DecidableEq, Repr

/-- What a stream packet carries above UDP or Ethernet. -/
inductive PktKind where
  /-- RTP over UDP: addresses, UDP destination port, check sum found (none: zero in the packet; true: right), header. -/
  | rtp (v6 : Bool) (dst src udp : Nat) (sum : Option Bool) (pt seq ts : Nat)
  /-- IEEE 1722 AAF: destination MAC, stream ID, tv, format code of Table 08-1, rate code, channels, header. -/
  | aaf (dmac stream : Nat) (tv : Bool) (format rate chans seq ts : Nat)
  /-- Anything else that reaches E and is not addressed to a time base or a session (R176). -/
  | other
  deriving DecidableEq, Repr

/-- A packet as it reaches E: ingress port, VLAN, header and payload bytes. -/
structure Pkt where
  port : Nat
  vid : Nat
  kind : PktKind
  payload : List Byte
  deriving DecidableEq, Repr

/-! ## References (spec/10) -/

/-- Qualification states (Table 10-2). -/
inductive QState where
  | noSignal | qualifying | qualified | disqualified
  deriving DecidableEq, Repr

/-- A qualification slot (R234): the start of QTIME, windows beyond HARD in a row, the instant it became QUALIFIED, and
for a physical input the last edge. -/
structure RefSlot where
  q : QState := .noSignal
  drift : Bool := false
  voted : Bool := false
  disquals : Nat := 0
  fofs : Int := 0
  timer : Nat := 0
  hardRun : Nat := 0
  qualAt : Nat := 0
  lastEdge : Option Nat := none
  deriving DecidableEq, Repr

/-- Media clock states (Table 10-3). -/
inductive McState where
  | freeRun | acquiring | locked | holdover | lost
  deriving DecidableEq, Repr

/-- A media clock (R226 to R247). Frequencies in 10^-12, phase in 1/16 ns, temperatures in 1/16 °C. `blocks` counts its
block periods and `frac` is what has passed since the last one at `runAt`, in 10^-12 / 147 ns; `base` is the frequency
of the loop without its phase correction. `recs` holds one record of frequency, temperature and instant per second of
LOCKED, newest first; `hoEnd` is the end of the averaging window of the last holdover; `est` the error estimate in 2^-3
× 10^-9 ns; `coast` that its synthesizer coasts with no spare (R256); `total` all that has passed, in the unit of
`frac`, whatever count is loaded; `stepEnd` the end of a fine phase step, `stepN` its fine steps, from `stepFrom` on,
`stepDone` of them made (R262); `farAt` the phase error from which a switch under GRID_FAR counts (R242). -/
structure Mc where
  state : McState := .freeRun
  sel : Option Nat := none
  switching : Bool := false
  fresh : Bool := false
  gridFar : Bool := false
  farAt : Int := 0
  phase : Int := 0
  freq : Int := 0
  base : Int := 0
  inWinFrom : Option Nat := none
  recs : List (Int × Int × Nat) := []
  recAt : Nat := 0
  tMin : Int := 0
  tMax : Int := 0
  lockedSec : Nat := 0
  ageValid : Bool := false
  c1 : Option (BitVec 32) := none
  c2 : Option (BitVec 32) := none
  c3 : Option (BitVec 32) := none
  age : Int := 0
  fAvg : Int := 0
  tAvg : Int := 0
  hoFrom : Nat := 0
  hoEnd : Int := 0
  hoLast : Nat := 0
  hoSec : Nat := 0
  est : Nat := 0
  coast : Bool := false
  removing : Bool := false
  swFreq : Int := 0
  stepEnd : Option Nat := none
  stepN : Int := 0
  stepFrom : Nat := 0
  stepDone : Nat := 0
  total : Nat := 0
  mofs : Int := 0
  blocks : Nat := 0
  frac : Nat := 0
  runAt : Nat := 0
  switches : Nat := 0
  slips : Nat := 0
  deriving DecidableEq, Repr

/-- The references: slots, TCXO, media clocks; `grid` is the time at which the last block of MC0 started in its media time
base (R229). -/
structure Refs where
  slots : Tbl RefSlot := []
  tcxoFault : Bool := false
  agreeFrom : Option Nat := none
  temp : Int := 0
  mcs : Tbl Mc := []
  grid : Option Nat := none
  deriving DecidableEq, Repr

/-! ## Synthesizers (spec/11) -/

/-- Synthesizer states (Table 11-1). -/
inductive SyState where
  | live | coast | free | handover | test | failed
  deriving DecidableEq, Repr

/-- A synthesizer (R250 to R261): the media clock it serves, the frequency at which a loss of lock froze it (R254), when
it lost lock and whether at a band edge, its last attempt to relock in place, whether NO_SPARE was raised for the loss,
and its test. -/
structure Sy where
  state : SyState := .live
  mc : Nat := 0
  band : Nat := 0
  pherr : Int := 0
  word : Int := 0
  lostAt : Nat := 0
  atEdge : Bool := false
  tryAt : Option Nat := none
  noSpare : Bool := false
  fails : Nat := 0
  lastTest : Nat := 0
  retest : Bool := false
  lols : Nat := 0
  relocks : Nat := 0
  testFails : Nat := 0
  deriving DecidableEq, Repr

/-- A pulse output (R267 to R269), its instants in nanoseconds of its media clock's time: the last source pulse, the
period it keeps, where the next pulse and where the last one begins, the end of that one. -/
structure Pls where
  measured : Bool := false
  srcAt : Option Int := none
  period : Nat := 0
  nextAt : Int := 0
  lastAt : Option Int := none
  aligned : Bool := false
  err : Int := 0
  overs : Nat := 0
  due : Bool := false
  lastEnd : Option Int := none
  count : Nat := 0
  deriving DecidableEq, Repr

/-- What an MCK pin carries (R251, R263): the synthesizer it is divided from and the exact ratio of that DCO's target to
the pin's nominal frequency in Hz, both off by `freq` in 10^-12. -/
structure MckOut where
  synth : Nat
  num : Nat
  den : Nat
  hz : Nat
  freq : Int
  deriving DecidableEq, Repr

/-- Synthesizers, MCK outputs that run, pulse outputs. -/
structure Syns where
  sy : Tbl Sy := []
  mck : List Nat := []
  pls : Tbl Pls := []
  deriving DecidableEq, Repr

end Sys2Proof.Machine
end

