-- ==== Sys2Proof/Machine/TypesSys.lean ====
section
/-! DEFINITION. The plain data of control sessions (spec/15), the pattern loader (spec/17), the redundant pair and the
witness (spec/18) and the thimble (spec/19). -/

namespace Sys2Proof.Machine

/-! ## Sessions (spec/15) -/

/-- Where Firyn messages of a session come from and go to (R332, R333, R335): the mailbox, or a UDP client behind a port,
with the VLAN, the UDP destination port and the destination address its datagrams carry; a message to it has the
client's address and port as its destination, and leaves on that VLAN from that port and address. -/
structure Client where
  mbox : Bool := false
  port : Nat := 0
  v6 : Bool := false
  mac : Nat := 0
  ip : Nat := 0
  udp : Nat := 0
  vid : Nat := 0
  dport : Nat := 0
  dip : Nat := 0
  deriving DecidableEq, Repr

/-- A challenged session (R337). -/
structure Chal where
  id : Nat
  client : Client
  role : Nat
  idle : Nat
  cnonce : List Byte
  dnonce : List Byte
  at_ : Nat
  deriving DecidableEq, Repr

/-- A position of the result window (R341). -/
inductive WinPos where
  | closed | unused | executing
  | stored (result op : Nat) (body : List Byte)
  deriving DecidableEq, Repr

/-- A REQUEST that waits or executes (R342, R343). -/
structure Request where
  seq : Nat
  op : Nat
  body : List Byte
  stitch : Nat
  tack : Nat
  deriving DecidableEq, Repr

/-- An open session: `window` holds the positions HIGH to HIGH − 63; `busy` the command under execution (R341, R342). -/
structure Ses where
  id : Nat
  role : Nat
  client : Client
  idle : Nat
  lastReq : Nat
  high : Nat := 0
  window : List WinPos := List.replicate 64 .closed
  waiting : List Request := []
  busy : Option Request := none
  oneSet : Option Nat := none
  dups : Nat := 0
  stales : Nat := 0
  cmds : Nat := 0
  subs : List Nat := []
  nseq : Nat := 0
  deriving DecidableEq, Repr

/-- What follows a reply once it is sent (R340, R352). -/
inductive After where
  | nothing | close | cfgReset | fullReset
  deriving DecidableEq, Repr

/-- A reply that waits for the standby's acknowledgment, or has it (R353). -/
structure Reply where
  ses : Nat
  seq : Nat
  op : Nat
  result : Nat
  body : List Byte
  after : After
  acked : Bool := false
  deriving DecidableEq, Repr

/-- An image transfer (R351, R386): its owner, LENGTH, bytes received, the header that is held; `verdict` holds the own
check while the standby's is awaited (R353). -/
structure Xfer where
  owner : Nat
  len : Nat
  got : Nat := 0
  hdr : List Byte := []
  verdict : Option Nat := none
  deriving DecidableEq, Repr

/-- The sessions block; `blocked` lists source addresses with the end of their block (R339), `keys` the key store. -/
structure Sessions where
  chals : List Chal := []
  ses : Tbl Ses := []
  blocked : List (Client × Nat) := []
  out : List Reply := []
  keys : Tbl (List Byte) := []
  authFails : Nat := 0
  malformed : Nat := 0
  overrun : Nat := 0
  deriving DecidableEq, Repr

/-! ## Pattern loader (spec/17) -/

/-- What the loader reads of an image of the pattern NOR: its bytes, or a read error or absence (R377, R383). -/
inductive Nor where
  | bytes (bs : List Byte)
  | unreadable
  deriving DecidableEq, Repr

/-- A record of a pattern section with its body byte offset (R381, R388); `rsv` holds the reserved bytes of an ENABLES
record. -/
inductive PatRec where
  | reg (at_ off : Nat) (v : Word)
  | change (at_ : Nat) (r : Rec)
  | enable (at_ obj act cls rsv index : Nat)
  deriving DecidableEq, Repr

/-- A pattern read out of an image (R381). -/
structure Pattern where
  store : Nat := 4
  keys : Tbl (List Byte) := []
  macs : List Nat := []
  recs : List PatRec := []
  locks : Nat := 0
  deriving DecidableEq, Repr

/-- A checked image (R382, R383): failure code, sequence of a valid header, digest, contents. -/
structure ImgCheck where
  fail : Nat := 0
  seq : Nat := 0
  digest : List Byte := []
  pat : Pattern := {}
  len : Nat := 0
  deriving DecidableEq, Repr

/-- What SFDP of the NOR declares (R377): its density in MiB, whether it has the 1-4-4 and the 1-1-4 fast read, its
smallest erase unit in KiB. -/
structure SfdpTable where
  density : Nat := 0
  fast144 : Bool := false
  fast114 : Bool := false
  erase : Nat := 4
  deriving DecidableEq, Repr

/-- How the loader reads and erases the NOR (R377), as PL_SPI shows it. -/
structure Sfdp where
  density : Nat := 0
  read : Nat := 0
  addr4 : Bool := false
  erase : Nat := 0
  deriving DecidableEq, Repr

/-- What a start-up finds outside the module (R387, R391, R392, R410): strap levels, boot and DRAM results, SFDP where
it can be read and the images of the NOR when they are not those the loader left there, paces at calibration, the
OE_ALLOW pin, how long the image took to read in ms, the peer's OE flag in a valid witness frame at step 5, and the
peer's DIGEST where the lining has come up by then. -/
structure StartEnv where
  straps : Nat := 0
  bootOk : Bool := true
  dramOk : Bool := true
  sfdp : Option SfdpTable := none
  norA : Option Nor := none
  norB : Option Nor := none
  paces : List Nat := []
  oePin : Bool := true
  loadMs : Nat := 0
  peerOe : Option Bool := none
  lining : Option (List Byte) := none
  deriving DecidableEq, Repr

/-- A configuration that a configuration reset has selected (R397, R401): the instant from which its boundary counts,
none while a pair has not named it, the check of its image with its index, the demand it adds (R31), and that it waits
for VCORE to rise (Table 02-5). -/
structure CfgNet where
  acceptedAt : Option Nat
  image : Nat
  check : ImgCheck
  adds : Demand := {}
  rising : Bool := false
  deriving DecidableEq, Repr

/-- The pattern loader. `active` is the image selected last; none in BARE. -/
structure Loader where
  norA : Nor := .bytes []
  norB : Nor := .bytes []
  active : Option Nat := none
  actBit : Nat := 0
  validA : Bool := false
  validB : Bool := false
  failA : Nat := 0
  failB : Nat := 0
  seqA : Nat := 0
  seqB : Nat := 0
  digest : List Byte := []
  rej : Nat := 0
  firstRej : Option (Nat × Nat) := none
  loadMs : Nat := 0
  startMs : Nat := 0
  sfdp : Sfdp := {}
  phase : Nat := 0
  cfgRun : Bool := false
  rescan : Bool := false
  xfer : Option Xfer := none
  releaseAt : Nat := 0
  cfgAt : Nat := 0
  started : Bool := false
  net : Option CfgNet := none
  deferred : List PatRec := []
  bareIdx : Nat := 0
  bareAt : Nat := 0
  fullResetDue : Bool := false
  eject : Bool := false
  deriving DecidableEq, Repr

/-! ## Pair and witness (spec/18) -/

/-- Unit states (Table 18-6). -/
inductive PrState where
  | start | claiming | active | joining | standby | unsynced | yielded | solo
  deriving DecidableEq, Repr

/-- A heartbeat (Table 18-3). -/
structure Heartbeat where
  unit : Nat
  role : Nat
  healthy : Bool
  synced : Bool
  claim : Bool
  yielding : Bool
  stitch : Nat
  outcrc : Nat
  deriving DecidableEq, Repr

/-- A witness frame (Table 18-4). -/
structure WitFrame where
  oeA : Bool
  oeB : Bool
  seenA : Bool
  seenB : Bool
  isMatch : Bool
  stitch : Nat
  id : Nat
  deriving DecidableEq, Repr

/-- A join under way (R430): its start, whether the state of Table 18-8 was taken, equal stitches since. -/
structure Join where
  from_ : Nat
  taken : Bool := false
  equal : Nat := 0
  deriving DecidableEq, Repr

/-- LED_STAT (Table 17-7): off, on, on with an off-pulse of 100 ms every second, blinking at a frequency in mHz. -/
inductive Led where
  | off | on | dips
  | blinks (mHz : Nat)
  deriving DecidableEq, Repr

/-- State that the active unit mirrors (Table 18-8), each with what the standby needs to apply it at its boundary.
Instants in it are those of the receiver's clock (R429, log entry 43). Image steps, with the session that owns the
transfer: 0 begin with LENGTH, 1 data, 2 end, 3 abort, 4 the outcome (1: program the header). -/
inductive Mirrored where
  | write (at_ off : Nat) (v : Word)
  | commit (acceptedAt set : Nat) (x : BSet)
  | set (k : Nat) (x : BSet)
  | admSeq (n : Nat)
  | enable (e : Enable)
  | sched (e : Nat) (x : Sched)
  | lock (acceptedAt bits : Nat)
  | prCfg (acceptedAt : Nat) (v : Word)
  | step (tb : Nat) (pend : Int) (at_ : Nat)
  | cfgBoundary (acceptedAt : Nat)
  | image (step owner arg : Nat) (bs : List Byte)
  | hemClear (d acceptedAt : Nat)
  | coClear (k : Nat)
  | session (k : Nat) (x : Option Ses)
  | control (outsA outsB debounced : List Nat)
  | group (g : Nat) (x : Group)
  | receive (r : Nat) (complete plays : Bool) (acr : Option (Nat × Nat))
  | seam (m ratio loop : Nat) (act : Option SeamTrig)
  | timeBase (k : Nat) (x : TimeBase)
  | mediaClock (m : Nat) (x : Mc)
  | spool (n : Nat) (x : Spool)
  deriving DecidableEq, Repr

/-- The pair part of a unit. `line` is the OE_ALLOW line (or pin) with the instant of its last move; `frame` the valid
witness frame of this stitch, `lastFrame` the last valid one; `gateWas` the gate at the last boundary; `crcs` the unit's
own OUTCRC of the last stitches, `peerCrc` one of the peer that waits for the own; `yieldRun` stitches spent yielding
while still driving; `diverged` that the OUTCRC of the stitch differed (R440); `leaving` that a unit that gives up the
active role still has it in effect (R423); `riseStands` that the unit left, in this stitch, a state in which its gate
may rise (R440); `resort` a standing claim of last resort (R425); `hbFit` and `peerFit` that the last heartbeat of this
unit, and of the peer, was sent and gave it no reason to be replaced (R417); `peerDeaf` that the peer receives nothing
on the lining (R426); `owed` the stitch of a follower that waits for the active unit's decisions (R427, R428), with what
the hem finds in it; `outbox` what this command has mirrored so far. -/
structure Pair where
  state : PrState := .start
  line : Bool := false
  lineAt : Nat := 0
  frame : Option WitFrame := none
  lastFrame : Option WitFrame := none
  witOk : Bool := false
  frozen : Bool := false
  missRun : Nat := 0
  agreeRun : Nat := 0
  otherRun : Nat := 0
  linUp : Bool := false
  linMiss : Nat := 0
  linRun : Nat := 0
  linSeen : Bool := false
  linDelay : Nat := 0
  peerSync : Bool := false
  claim : Bool := false
  claimRun : Nat := 0
  yieldRun : Option Nat := none
  leaving : Bool := false
  diverged : Bool := false
  riseStands : Bool := false
  resort : Bool := false
  hbFit : Bool := false
  peerFit : Bool := false
  peerDeaf : Bool := false
  owed : Option (List (Nat × List Int × List Int)) := none
  cause : Nat := 0
  matchCnt : Nat := 0
  wtrFrom : Option Nat := none
  unseen : Nat := 0
  join : Option Join := none
  peerDigest : List Byte := []
  witId : Nat := 0
  lastRole : Nat := 0
  roleChanges : Nat := 0
  diverges : Nat := 0
  witBad : Nat := 0
  missed : Nat := 0
  tbErr : Int := 0
  gateWas : Bool := false
  crcs : List (Nat × Nat) := []
  peerCrc : Option (Nat × Nat) := none
  hbAt : Option Nat := none
  cfgWait : List (Nat × Nat) := []
  outbox : List Mirrored := []
  deriving DecidableEq, Repr

/-- Witness states (Table 18-5). -/
inductive WitState where
  | none | actA | actB
  deriving DecidableEq, Repr

/-- The witness (R415 to R419): heartbeats of the present stitch with their starts, the expected instant, stitches
since each unit's last valid heartbeat, levels of the two lines. -/
structure Witness where
  state : WitState := .none
  hbA : Option (Heartbeat × Nat) := Option.none
  hbB : Option (Heartbeat × Nat) := Option.none
  expect : Option Nat := Option.none
  agoA : Nat := 64
  agoB : Nat := 64
  seenA : Bool := false
  seenB : Bool := false
  isMatch : Bool := false
  sent : Option Nat := Option.none
  missA : Nat := 0
  missB : Nat := 0
  moves : Nat := 0
  lineA : Bool := false
  lineB : Bool := false
  deriving DecidableEq, Repr

/-- The complete state of Table 18-8 as a join takes it (R430). -/
structure JoinImage where
  stitch : Nat
  regs : Tbl Word
  force : Tbl Word
  waits : List (Nat × Nat × Word)
  locks : Nat
  admSeq : Nat
  mix : Mix
  dyn : Dyn
  rb : Bridges
  ln : Lanes
  str : Streams
  cio : Cio
  tb : TimeBases
  ref : Refs
  spl : Spools
  sess : Tbl Ses
  deriving DecidableEq, Repr

/-- A lining message, received or sent (R427 to R432): mirrored state, all that one command changes in one message
(R353), the OUTCRC of a stitch with whether its sender receives nothing and whether its heartbeat gives no reason to
replace it (log entry 111), DIGEST, the DIGEST of a unit that asks to join, the measured error and delay, the standby's
verdict on its image (R353), the DIGEST a configuration reset selected (R401), the state of a join, an acknowledgment, a
packet asked for or refilled; `late` stands for a message that was lacking when it was needed (R428), `peer` says
whether the sender is in mirror sync. -/
inductive LinMsg where
  | mirror (ms : List Mirrored)
  | outcrc (stitch crc : Nat) (deaf fit : Bool)
  | digest (bs : List Byte)
  | joinAsk (bs : List Byte)
  | cfg (bs : List Byte)
  | imgResult (ok : Bool)
  | measure (tbErr : Int) (delay : Nat)
  | peer (synced : Bool)
  | join (x : JoinImage)
  | ack (ses : Nat) (stored : List Nat)
  | ask (r pos n : Nat)
  | refill (r pos : Nat) (frames : List (List Int))
  | late
  deriving DecidableEq, Repr

/-! ## Thimble (spec/19) -/

/-- A fault-log entry (Table 19-7). -/
structure Flt where
  code : Nat := 0
  region : Nat := 0
  reaction : Nat := 0
  bar : Bool := false
  inj : Bool := false
  boot : Nat := 0
  detail : Nat := 0
  stitch : Nat := 0
  tack : Nat := 0
  deriving DecidableEq, Repr

/-- How QUIET was entered (R455). -/
inductive QuietHow where
  | inOrder | atOnce
  deriving DecidableEq, Repr

/-- A fault reported to the thimble and not taken yet: code, detail, region, whether injected (R445, R456, R457). -/
structure Report1 where
  code : Nat
  detail : Nat := 0
  region : Nat := 0
  inj : Bool := false
  deriving DecidableEq, Repr

/-- The thimble: `bars` holds the codes of standing bars with the instant they began; `mute` is 0, 1 in the stitch of
the fade, 2 after it; `quietAt` the entry into QUIET; `tj` in 1/16 °C; `cool` the instant from which Tj has stayed
below 105 °C. -/
structure Saf where
  due : List Report1 := []
  safe : Nat := 0
  mute : Nat := 0
  injFence : Bool := false
  bars : Tbl Nat := []
  quiet : Option QuietHow := none
  quietAt : Nat := 0
  lanesOff : Bool := false
  tj : Int := 0
  vin : Nat := 0
  vcore : Nat := 0
  warnArmed : Bool := true
  cool : Option Nat := none
  ue : Nat := 0
  ceHour : Nat := 0
  passes : Nat := 0
  mismatches : Nat := 0
  log : Tbl Flt := []
  next : Nat := 0
  lost : Nat := 0
  lockstepAt : Option Nat := none
  deriving DecidableEq, Repr

end Sys2Proof.Machine
end

