-- ==== Sys2Proof/Machine/TypesEnv.lean ====
section
/-! DEFINITION. What a command brings in from outside the digital state: measurements of a stitch and of its fence. -/

namespace Sys2Proof.Machine

/-- What the analogue side measured in the stitch that ends at a boundary: frame phases of the groups (R136), phase
errors of media clocks that follow a physical input or a recovered clock, in 1/16 ns (Table 10-1), TCXO temperature
(R245), errors a fault added to the hem copies of a destination (R102), rules whose evaluator B went wrong (R282).
`tails` holds, by group and oldest first, the frames of that stitch's block that are still coming in at its boundary
(R136). -/
structure StitchEnv where
  phases : List (Nat × Int) := []
  loops : List (Nat × Int) := []
  temp : Int := 0
  errs : List (Nat × List Int × List Int) := []
  wrong : List Nat := []
  tails : List (Nat × LaneFrame) := []
  deriving DecidableEq, Repr

/-- What the thimble measures of a stitch at its fence (R34, R54, R55): pace of each needle, whether the work is
complete, destinations whose block is not, work completed scaled to the 109 µs window, time from completion to the
fence in 10 ns units; junction temperature in 1/16 °C and VIN and VCORE as SAF_VMON shows them, when they are new. -/
structure FenceMeas where
  paces : List Nat := []
  complete : Bool := true
  incomplete : List Nat := []
  work : Nat := 0
  slack : Nat := 0xFFFF
  tj : Option Int := none
  volts : Option (Nat × Nat) := none
  deriving DecidableEq, Repr

/-- A Firyn REQUEST as it arrives (R334): where from, SESSION_ID, SEQ and body. -/
structure FirynReq where
  client : Client
  id : Nat
  seq : Nat
  body : List Byte := []
  deriving DecidableEq, Repr

/-- A membership query as it arrives (R159, R160): port, IGMP or MLD, version, group (0 in a general query), the sources
it names, its maximum response time in ns. -/
structure MemQuery where
  port : Nat
  v6 : Bool := false
  version : Nat := 3
  group : Nat := 0
  sources : List Nat := []
  maxNs : Nat := 10000000000
  deriving DecidableEq, Repr

/-- A reason to re-anchor a seam (R120): by how much a foreign tack departs from the loop's prediction, in ns, and the
fill from its set point, in samples. -/
structure SeamShift where
  seam : Fin 512
  jump : Nat
  fill : Nat
  deriving DecidableEq, Repr

/-- A peer-delay message as it reaches the switch (R208): its number, and t2 and t3 of an answer; a request has none. -/
structure PdelayMsg where
  seq : Nat
  resp : Option (Int × Int)
  deriving DecidableEq, Repr

/-- The phase errors of a coasting synthesizer in its last reference cycles, the latest last, in 1/16 ns (R253). -/
structure SynLock where
  k : Fin 5
  errs : List Int := []
  deriving DecidableEq, Repr

/-- The register that SES_CONFIG_WRITE names (R354). -/
inductive SesReg where
  | net | cfg | ip4
  | ip6 (j : Fin 4)
  | mbox
  deriving DecidableEq, Repr

/-- An ARP request or an IPv6 neighbor solicitation as it arrives (R332): port, VID, the sender's addresses, the
address it asks for. -/
structure ArpReq where
  port : Nat
  vid : Nat
  v6 : Bool := false
  mac : Nat
  ip : Nat
  target : Nat
  deriving DecidableEq, Repr

end Sys2Proof.Machine
end

