-- ==== Sys2Proof/Syntax.lean ====
section
/-! DEFINITION. The commands of the block: one constructor per row of spec/opcode_table.json, in its order. -/

namespace Sys2Proof

open Sys2Proof.Machine

/-- The commands. Index operands are bounded by their type; an operand that carries what happens outside the digital
state (a measurement, a frame, a message, a pin level) is plain data. `v` is a written word, `be` its byte enables. -/
inductive Instr where
  /-- STITCH_BOUNDARY (R8). -/
  | stitchBoundary (env : StitchEnv)
  /-- RAMP_END (R74). -/
  | rampEnd
  /-- NA_RELEASE (R97). -/
  | naRelease (k : Fin 2048)
  /-- METER_HOLD_EXPIRE (R106). -/
  | meterHoldExpire (m : Fin 4096)
  /-- VOX_ON (R109). -/
  | voxOn (k : Fin 256)
  /-- VOX_OFF (R109). -/
  | voxOff (k : Fin 256)
  /-- AUDIO_START (R389). -/
  | audioStart
  /-- HEARTBEAT_SEND (R413). -/
  | heartbeatSend (workDone : Bool)
  /-- FENCE (R11). -/
  | fence (m : FenceMeas)
  /-- ADMISSION_DECIDE (R45). -/
  | admissionDecide
  /-- VCORE_SETTLED (R51). -/
  | vcoreSettled
  /-- VCORE_CONFIRMED (R51). -/
  | vcoreConfirmed
  /-- VCORE_HOLD_EXPIRE (R52). -/
  | vcoreHoldExpire
  /-- VCORE_STEP_DOWN (R52). -/
  | vcoreStepDown
  /-- FAB_VCAP_WRITE (R49). -/
  | fabVcapWrite (v : Word) (be : Fin 16)
  /-- FAB_RESERVE0_WRITE (R39). -/
  | fabReserve0Write (v : Word) (be : Fin 16)
  /-- CLR_SLACK (R59). -/
  | clrSlack
  /-- FAB_CLR_COUNTS (R59). -/
  | fabClrCounts
  /-- BS_CMD_OPEN (R78). -/
  | bsCmdOpen (k : Fin 8)
  /-- BS_CMD_ADD (R79). -/
  | bsCmdAdd (k : Fin 8)
  /-- BS_CMD_COMMIT (R81). -/
  | bsCmdCommit (k : Fin 8)
  /-- BS_CMD_ABORT (R81). -/
  | bsCmdAbort (k : Fin 8)
  /-- HEM_CLR (R103). -/
  | hemClr
  /-- CLR_HOLD (R106). -/
  | clrHold
  /-- CLR_CLIP (R107). -/
  | clrClip
  /-- METER_EN (R104). -/
  | meterEn
  /-- METER_DIS (R104). -/
  | meterDis
  /-- VOX_EN (R108). -/
  | voxEn
  /-- VOX_DIS (R108). -/
  | voxDis
  /-- SEAM_EN (R115). -/
  | seamEn
  /-- SEAM_DIS (R122). -/
  | seamDis
  /-- SC_EN (R115). -/
  | scEn
  /-- SC_DIS (R115). -/
  | scDis
  /-- CLR_SLIPS (R126). -/
  | clrSlips
  /-- SEAM_TRAIN_END (R122). -/
  | seamTrainEnd (m : Fin 512)
  /-- SEAM_REANCHOR (R120). -/
  | seamReanchor (x : SeamShift)
  /-- SEAM_INPUT_STOP (R121). -/
  | seamInputStop (m : Fin 512)
  /-- SEAM_RATIO_MEASURED (R121). -/
  | seamRatioMeasured (m : Fin 512) (ratio : Nat)
  /-- SEAM_RANGE_RECOVER (R122). -/
  | seamRangeRecover (m : Fin 512)
  /-- LANE_FRAME_START (R143). -/
  | laneFrameStart (g : Fin 8) (f : LaneFrame)
  /-- CG_STOP (R138). -/
  | cgStop (g : Fin 8)
  /-- CG_ANCHOR (R144). -/
  | cgAnchor (g : Fin 8)
  /-- CG_RATE_SETTLED (R141). -/
  | cgRateSettled (g : Fin 8)
  /-- CG_STOP_DONE (R145). -/
  | cgStopDone (g : Fin 8)
  /-- CG_EN_WRITE (R147). -/
  | cgEnWrite (g : Fin 8) (v : Word) (be : Fin 16)
  /-- CG_CLR_COUNTS (R151). -/
  | cgClrCounts (g : Fin 8)
  /-- HOST_CLR_COUNTS (R151). -/
  | hostClrCounts
  /-- SLOT_MAP_WRITE (R134). -/
  | slotMapWrite (lane : Fin 64) (slot : Fin 32) (v : Word) (be : Fin 16)
  /-- HOST_MAP_WRITE (R150). -/
  | hostMapWrite (c : Fin 64) (v : Word) (be : Fin 16)
  /-- TX_CHANNEL_MAP_WRITE (R192). -/
  | txChannelMapWrite (t : Fin 256) (c : Fin 64) (v : Word) (be : Fin 16)
  /-- PORT_EN_WRITE (R153). -/
  | portEnWrite (n : Fin 4) (v : Word) (be : Fin 16)
  /-- LINK_UP (R153). -/
  | linkUp (n : Fin 4) (kx fec : Bool)
  /-- NEGOTIATION_FAULT (R153). -/
  | negotiationFault (n : Fin 4) (fault : Fin 4)
  /-- LINK_DOWN (R153). -/
  | linkDown (n : Fin 4)
  /-- FRAME_INGRESS (R154). -/
  | frameIngress (n : Fin 5) (f : Frame)
  /-- FRAME_EGRESS (R161). -/
  | frameEgress (n : Fin 5)
  /-- MAC_AGE_OUT (R156). -/
  | macAgeOut
  /-- GATE_ENTRY_CHANGE (R163). -/
  | gateEntryChange (n : Fin 4)
  /-- GATE_CONFIG_TAKEOVER (R165). -/
  | gateConfigTakeover (n : Fin 4)
  /-- MAC_ADD (R157). -/
  | macAdd
  /-- MAC_DEL (R167). -/
  | macDel
  /-- FLUSH_LEARNED (R167). -/
  | flushLearned
  /-- PORT_CLR_COUNTS (R167). -/
  | portClrCounts (n : Fin 5)
  /-- GATE_APPLY (R165). -/
  | gateApply (n : Fin 5)
  /-- GATE_CANCEL (R165). -/
  | gateCancel (n : Fin 5)
  /-- MEMBERSHIP_REPORT_SEND (R159). -/
  | membershipReportSend
  /-- PACKET_RECEIVE (R179). -/
  | packetReceive (p : Pkt)
  /-- RX_TIMEOUT (R182). -/
  | rxTimeout (k : Fin 256)
  /-- LEG_LIVE_TIMEOUT (R187). -/
  | legLiveTimeout (k : Fin 256) (legB : Bool)
  /-- TX_PACKET_START (R191). -/
  | txPacketStart (t : Fin 256)
  /-- RX_EN (R182). -/
  | rxEn
  /-- RX_DIS (R182). -/
  | rxDis
  /-- TX_EN (R193). -/
  | txEn
  /-- TX_DIS (R193). -/
  | txDis
  /-- CLR_RX (R197). -/
  | clrRx
  /-- CLR_TX (R197). -/
  | clrTx
  /-- CLR_HANK (R197). -/
  | clrHank
  /-- RX_OFFSET_WRITE (R183). -/
  | rxOffsetWrite (k : Fin 256) (v : Word) (be : Fin 16)
  /-- HANK_OFFSET_WRITE (R184). -/
  | hankOffsetWrite (h : Fin 64) (v : Word) (be : Fin 16)
  /-- PTP_MESSAGE_RECEIVE (R212). -/
  | ptpMessageReceive (k port : Fin 4) (msg : PtpMsg)
  /-- ANNOUNCE_TIMEOUT (R215). -/
  | announceTimeout (k : Fin 4)
  /-- PTP_MASTER_SEND (R200). -/
  | ptpMasterSend (k : Fin 4)
  /-- PDELAY_SEND (R208). -/
  | pdelaySend (n : Fin 4)
  /-- PERSIST_EXPIRE (R213). -/
  | persistExpire (k : Fin 4)
  /-- TB_CTRL_WRITE (R215). -/
  | tbCtrlWrite (k : Fin 4) (v : Word) (be : Fin 16)
  /-- SNAP (R222). -/
  | snap
  /-- TB_CLR_COUNTS (R225). -/
  | tbClrCounts
  /-- REF_EDGE (R233). -/
  | refEdge (k : Fin 21) (dev : Int)
  /-- REF_SIGNAL_LOSS (R234). -/
  | refSignalLoss (k : Fin 21)
  /-- QUAL_WINDOW_END (R234). -/
  | qualWindowEnd (k : Fin 21) (fofs : Int)
  /-- QTIME_EXPIRE (R234). -/
  | qtimeExpire (k : Fin 21)
  /-- TCXO_FAULT_CLEAR (R235). -/
  | tcxoFaultClear
  /-- WTR_EXPIRE (R238). -/
  | wtrExpire (m : Fin 4)
  /-- MC_LOCK_ACHIEVED (R241). -/
  | mcLockAchieved (m : Fin 4)
  /-- HOLDOVER_LIMIT (R246). -/
  | holdoverLimit (m : Fin 4)
  /-- MC_SW_WRITE (R247). -/
  | mcSwWrite (m : Fin 4) (v : Word) (be : Fin 16)
  /-- SW_FREQ_WRITE (R247). -/
  | swFreqWrite (m : Fin 4) (v : Word) (be : Fin 16)
  /-- SW_STEP (R247). -/
  | swStep
  /-- PHASE_STEP_DONE (R262). -/
  | phaseStepDone (m : Fin 4)
  /-- RELEARN (R245). -/
  | relearn
  /-- REF_CLR_COUNTS (R249). -/
  | refClrCounts
  /-- SYN_LOSS_OF_LOCK (R254). -/
  | synLossOfLock (k : Fin 5) (atEdge : Bool) (errs : List Int)
  /-- SYN_RELOCK_ATTEMPT (R256). -/
  | synRelockAttempt (k : Fin 5)
  /-- NO_SPARE (R256). -/
  | noSpare (m : Fin 4)
  /-- HANDOVER_START (R257). -/
  | handoverStart
  /-- HANDOVER_SWITCHOVER (R257). -/
  | handoverSwitchover
  /-- HANDOVER_FAIL (R257). -/
  | handoverFail
  /-- SYN_TEST_DONE (R259). -/
  | synTestDone (k : Fin 5) (dev : Option Int) (band : Fin 16)
  /-- SYN_RETEST_TIMER (R259). -/
  | synRetestTimer (k : Fin 5)
  /-- RETRY (R259). -/
  | retry
  /-- SYN_TEST (R259). -/
  | synTest
  /-- SYN_CLR_COUNTS (R270). -/
  | synClrCounts
  /-- MCK_CFG_WRITE (R265). -/
  | mckCfgWrite (j : Fin 4) (v : Word) (be : Fin 16)
  /-- PLS_CFG_WRITE (R269). -/
  | plsCfgWrite (p : Fin 4) (v : Word) (be : Fin 16)
  /-- PLS_OFS_WRITE (R269). -/
  | plsOfsWrite (p : Fin 4) (v : Word) (be : Fin 16)
  /-- PLS_SOURCE_PULSE (R268). -/
  | plsSourcePulse (p : Fin 4) (edge : Int)
  /-- PLS_OUTPUT_PULSE (R269). -/
  | plsOutputPulse (p : Fin 4)
  /-- GPIO_EDGE (R272). -/
  | gpioEdge (g : Fin 32) (level : Bool)
  /-- GPIO_DEBOUNCED (R273). -/
  | gpioDebounced (g : Fin 32)
  /-- CO_READBACK (R283). -/
  | coReadback (k : Fin 8) (a b : Bool)
  /-- CO_CLR (R283). -/
  | coClr
  /-- CLR_EDGES (R290). -/
  | clrEdges
  /-- SE_WRITE (R286). -/
  | seWrite
  /-- SE_DEL (R288). -/
  | seDel
  /-- SCHEDULE_FIRE (R287). -/
  | scheduleFire
  /-- SCHEDULE_PULSE_END (R287). -/
  | schedulePulseEnd (g : Fin 32)
  /-- GP_OUT_WRITE (R274). -/
  | gpOutWrite (v : Word) (be : Fin 16)
  /-- CO_CFG_WRITE (R284). -/
  | coCfgWrite (k : Fin 8) (v : Word) (be : Fin 16)
  /-- P_OPEN (R298). -/
  | pOpen (n : Fin 4096) (v : Word) (be : Fin 16)
  /-- P_DATA (R298). -/
  | pData (n : Fin 4096) (i : Fin 256) (v : Word) (be : Fin 16) (poison : Bool)
  /-- P_END (R298). -/
  | pEnd (n : Fin 4096) (v : Word) (be : Fin 16)
  /-- P_END_ABORT (R298). -/
  | pEndAbort (n : Fin 4096)
  /-- ADVANCE (R299). -/
  | advance (n : Fin 4096) (k : Fin 32768)
  /-- DROP (R299). -/
  | drop (n : Fin 4096)
  /-- MARK (R304). -/
  | mark (n : Fin 4096)
  /-- REWIND (R304). -/
  | rewind (n : Fin 4096)
  /-- CONSUMER_READ_STALL (R300). -/
  | consumerReadStall (n : Fin 4096) (off : Fin 4096)
  /-- INTERNAL_ITEM_COMMIT (R295). -/
  | internalItemCommit (n : Fin 4096) (item : NewItem)
  /-- FLUSH (R305). -/
  | flush
  /-- SPL_CLR_COUNTS (R309). -/
  | splClrCounts
  /-- SPOOL_EN_WRITE (R305). -/
  | spoolEnWrite (n : Fin 4096) (v : Word) (be : Fin 16)
  /-- SPOOL_RESET_DONE (R307). -/
  | spoolResetDone (n : Fin 4096)
  /-- EVENT_ASSERT (R314). -/
  | eventAssert (src : Fin 2048)
  /-- MODERATION_INTERVAL_END (R315). -/
  | moderationIntervalEnd (g : Fin 32)
  /-- HOLDOFF_END (R316). -/
  | holdoffEnd (g : Fin 32)
  /-- MSIX_DELIVER (R318). -/
  | msixDeliver (t : Fin 8)
  /-- TGT_EOI (R320). -/
  | tgtEoi (t : Fin 8) (v : Word) (be : Fin 16)
  /-- FORCE (R331). -/
  | force
  /-- CLR_PEND (R314). -/
  | clrPend
  /-- EV_CFG_WRITE (R323). -/
  | evCfgWrite (src : Fin 2048) (v : Word) (be : Fin 16)
  /-- TGT_CTRL_WRITE (R325). -/
  | tgtCtrlWrite (t : Fin 8) (v : Word) (be : Fin 16)
  /-- PCIE_POWER_STATE_CHANGE (R324). -/
  | pciePowerStateChange (d : DState) (l : LinkState) (msix : Option MsixCtl)
  /-- HELLO (R337). -/
  | hello (c : Client) (body : List Byte)
  /-- PROOF (R339). -/
  | proof (c : Client) (id : Nat) (body : List Byte)
  /-- CHALLENGE_LAPSE (R337). -/
  | challengeLapse
  /-- AUTH_BLOCK_EXPIRE (R339). -/
  | authBlockExpire
  /-- SESSION_IDLE_TIMEOUT (R340). -/
  | sessionIdleTimeout
  /-- COMMAND_START (R343). -/
  | commandStart
  /-- REPLY_SEND (R353). -/
  | replySend
  /-- NOP (R344). -/
  | nop (q : FirynReq)
  /-- REG_READ (R345). -/
  | regRead (q : FirynReq)
  /-- REG_WRITE (R345). -/
  | regWrite (q : FirynReq)
  /-- BS_OPEN (R346). -/
  | bsOpen (q : FirynReq)
  /-- BS_ADD (R346). -/
  | bsAdd (q : FirynReq)
  /-- BS_COMMIT (R346). -/
  | bsCommit (q : FirynReq)
  /-- BS_ABORT (R346). -/
  | bsAbort (q : FirynReq)
  /-- CHANGE (R346). -/
  | change (q : FirynReq)
  /-- SCHED_WRITE (R346). -/
  | schedWrite (q : FirynReq)
  /-- SCHED_DEL (R288). -/
  | schedDel (q : FirynReq)
  /-- ENABLE (R347). -/
  | enable (q : FirynReq)
  /-- RELEASE (R344). -/
  | release (q : FirynReq)
  /-- METER_READ (R348). -/
  | meterRead (q : FirynReq)
  /-- SUBSCRIBE (R349). -/
  | subscribe (q : FirynReq)
  /-- ACCEPT_STEP (R350). -/
  | acceptStep (q : FirynReq)
  /-- IMG_BEGIN (R351). -/
  | imgBegin (q : FirynReq)
  /-- IMG_DATA (R351). -/
  | imgData (q : FirynReq)
  /-- IMG_END (R386). -/
  | imgEnd (q : FirynReq)
  /-- IMG_ABORT (R351). -/
  | imgAbort (q : FirynReq)
  /-- CFG_RESET (R352). -/
  | cfgReset (q : FirynReq)
  /-- FULL_RESET (R352). -/
  | fullReset (q : FirynReq)
  /-- CLOSE (R340). -/
  | close (q : FirynReq)
  /-- KILL (R354). -/
  | kill
  /-- SES_CLR_COUNTS (R354). -/
  | sesClrCounts
  /-- SES_CONFIG_WRITE (R354). -/
  | sesConfigWrite (x : SesReg) (v : Word) (be : Fin 16)
  /-- REGISTER_WRITE (R361). -/
  | registerWrite (bar2 : Bool) (off : Nat) (v : Word) (be : Fin 16) (poison : Bool)
  /-- POSTED_WRITE_APPLY (R366). -/
  | postedWriteApply
  /-- SCRUB_PASS (R371). -/
  | scrubPass (bad : List Nat)
  /-- LOCK_HEM (R374). -/
  | lockHem
  /-- LOCK_CO (R374). -/
  | lockCo
  /-- LOCK_VCAP (R374). -/
  | lockVcap
  /-- LOCK_ROLES (R374). -/
  | lockRoles
  /-- LOCK_KEYS (R374). -/
  | lockKeys
  /-- CLR_WERR (R365). -/
  | clrWerr
  /-- GLB_RESET_FULL (R393). -/
  | glbResetFull
  /-- GLB_RESET_CFG (R396). -/
  | glbResetCfg
  /-- CFG_RESET_DECIDE (R397). -/
  | cfgResetDecide (loadMs : Nat)
  /-- POWER_ON (R405). -/
  | powerOn
  /-- RST_ASSERT (R394). -/
  | rstAssert
  /-- RESET_RELEASE (R387). -/
  | resetRelease (env : StartEnv)
  /-- WATCHDOG_EXPIRE (R393). -/
  | watchdogExpire
  /-- PERST_ASSERT (R476). -/
  | perstAssert
  /-- BARE_MODE_TIMER (R384). -/
  | bareModeTimer
  /-- EJECT_DEBOUNCED (R406). -/
  | ejectDebounced
  /-- EJECT (R406). -/
  | eject
  /-- RESCAN (R409). -/
  | rescan
  /-- HEARTBEAT_RECEIVE (R416). -/
  | heartbeatReceive (unitB : Bool) (bytes : List Byte) (start : Nat)
  /-- WITNESS_DECISION (R418). -/
  | witnessDecision
  /-- WITNESS_FRAME_RECEIVE (R420). -/
  | witnessFrameReceive (bytes : List Byte)
  /-- OUTPUT_GATE_UPDATE (R420). -/
  | outputGateUpdate
  /-- LINING_MESSAGE_RECEIVE (R427). -/
  | liningMessageReceive (msg : LinMsg)
  /-- LINING_DOWN (R426). -/
  | liningDown (lockLost : Bool)
  /-- LINING_UP (R426). -/
  | liningUp
  /-- JOIN_START (R430). -/
  | joinStart
  /-- JOIN_TIMEOUT (R423). -/
  | joinTimeout
  /-- REVERSION_WTR_EXPIRE (R436). -/
  | reversionWtrExpire
  /-- CLAIM_TIMEOUT (R436). -/
  | claimTimeout
  /-- YIELD_TIMEOUT (R425). -/
  | yieldTimeout
  /-- REMIRROR (R441). -/
  | remirror
  /-- RELINQUISH (R441). -/
  | relinquish
  /-- PR_CLR_COUNTS (R441). -/
  | prClrCounts
  /-- PR_CFG_WRITE (R441). -/
  | prCfgWrite (v : Word) (be : Fin 16)
  /-- FAULT_DETECT (R445). -/
  | faultDetect (code : Fin 26) (detail : Nat) (region : Fin 3)
  /-- QUIET_LANE_RELEASE (R455). -/
  | quietLaneRelease
  /-- LOCKSTEP_RESET_TIMER (R445). -/
  | lockstepResetTimer
  /-- TEMP_BAR_END (R450). -/
  | tempBarEnd
  /-- ECC_HOUR_END (R451). -/
  | eccHourEnd (ce : Nat)
  /-- DIGEST_COMPARE (R452). -/
  | digestCompare (ok : Bool)
  /-- CLR_LOG (R456). -/
  | clrLog
  /-- SAF_CLR_COUNTS (R458). -/
  | safClrCounts
  /-- SAF_INJECT (R457). -/
  | safInject (v : Word) (be : Fin 16)
  /-- OE_ALLOW_PIN_CHANGE (R421). -/
  | oeAllowPinChange (level : Bool)
  /-- PCIE_PERST_RELEASE (R476). -/
  | pciePerstRelease
  /-- TJ_RISES_THROUGH_TEMP_WARN (R450). -/
  | tjRisesThroughTempWarn (tj : Int)
  /-- RESCAN_COMPLETE (R409). -/
  | rescanComplete
  /-- ARP_REQUEST_RECEIVE (R332). -/
  | arpRequestReceive (q : ArpReq)
  /-- MEMBERSHIP_QUERY_RECEIVE (R159). -/
  | membershipQueryReceive (q : MemQuery)
  /-- PDELAY_REQ_RECEIVE (R208). -/
  | pdelayReqReceive (n : Fin 4) (msg : PdelayMsg)
  /-- MALFORMED_MESSAGE (R335). -/
  | malformedMessage (c : Client) (bytes : List Byte)
  /-- IN_PLACE_RELOCK (R256). -/
  | inPlaceRelock (x : SynLock)
  deriving DecidableEq, Repr

end Sys2Proof
end

