-- ==== Sys2Proof/WellFormed.lean ====
section
/-! DEFINITION. Which operands make sense: numbers that a field, an address or a message can hold. The commands run on
every operand; a command that is not well-formed stands for nothing that can reach the block. -/

namespace Sys2Proof

open Sys2Proof.Machine

/-- A client as R332 and R333 record it. -/
def clientOk (c : Client) : Bool :=
  let ip := if c.v6 then 2 ^ 128 else 2 ^ 32
  decide (c.port < 4 ∧ c.mac < 2 ^ 48 ∧ c.udp < 2 ^ 16 ∧ c.vid < 4096 ∧ c.dport < 2 ^ 16) && decide (c.ip < ip ∧ c.dip < ip)

/-- A REQUEST whose header fields fit (Table 15-1). -/
def requestOk (q : FirynReq) : Bool :=
  clientOk q.client && decide (q.id < 2 ^ 32 ∧ q.seq < 2 ^ 32 ∧ q.body.length ≤ 1400)

/-- A frame between 64 and 9,600 bytes with header fields that fit (R152). -/
def frameOk (f : Frame) : Bool :=
  decide (f.dst < 2 ^ 48 ∧ f.src < 2 ^ 48 ∧ f.vid < 4096 ∧ f.pcp < 8 ∧ 64 ≤ f.len ∧ f.len ≤ 9600)

/-- A 32-bit register address of BAR0, or of the spool windows of BAR2 (R355). -/
def addressOk (bar2 : Bool) (off : Nat) : Bool := off % 4 == 0 && decide (off < if bar2 then 0x1000000 else 0x400000)

/-- A lane frame names lanes with at most 32 slots of 32 bits and the bit after them, and groups (R128, R130). -/
def laneFrameOk (f : LaneFrame) : Bool :=
  (f.data.all fun e => decide (e.lane < 64 ∧ e.rising.length ≤ 1025 ∧ e.falling.length ≤ 1025)) &&
    f.bcks.all fun e => decide (e.1 < 8)

/-- Measurements of a stitch that name groups, clocks, seams, destinations and rules that exist. -/
def stitchEnvOk (e : StitchEnv) : Bool :=
  e.phases.all (fun p => decide (p.1 < 8)) && e.loops.all (fun p => decide (p.1 < 4)) &&
    e.errs.all (fun p => decide (p.1 < 2048)) &&
    e.wrong.all fun r => decide (r < 256)

/-- Measurements at a fence: at most 32 needles, destinations that exist. -/
def fenceOk (m : FenceMeas) : Bool := decide (m.paces.length ≤ 32) && m.incomplete.all fun d => decide (d < 2048)

/-- A stream packet that entered a port. -/
def packetOk (p : Pkt) : Bool := decide (p.port < 4 ∧ p.vid < 4096)

/-- An ARP request or a neighbor solicitation that entered a port. -/
def arpOk (q : ArpReq) : Bool := decide (q.port < 4 ∧ q.vid < 4096 ∧ q.mac < 2 ^ 48)

/-- A membership query that entered a port, of a version that exists. -/
def queryOk (q : MemQuery) : Bool := decide (q.port < 4 ∧ 1 ≤ q.version ∧ q.version ≤ if q.v6 then 2 else 3)

/-- The operands of a command are in range. -/
def Instr.wf : Instr → Bool
  | .stitchBoundary env => stitchEnvOk env
  | .rampEnd => true
  | .naRelease _ => true
  | .meterHoldExpire _ => true
  | .voxOn _ => true
  | .voxOff _ => true
  | .audioStart => true
  | .heartbeatSend _ => true
  | .fence m => fenceOk m
  | .admissionDecide => true
  | .vcoreSettled => true
  | .vcoreConfirmed => true
  | .vcoreHoldExpire => true
  | .vcoreStepDown => true
  | .fabVcapWrite _ _ => true
  | .fabReserve0Write _ _ => true
  | .clrSlack => true
  | .fabClrCounts => true
  | .bsCmdOpen _ => true
  | .bsCmdAdd _ => true
  | .bsCmdCommit _ => true
  | .bsCmdAbort _ => true
  | .hemClr => true
  | .clrHold => true
  | .clrClip => true
  | .meterEn => true
  | .meterDis => true
  | .voxEn => true
  | .voxDis => true
  | .seamEn => true
  | .seamDis => true
  | .scEn => true
  | .scDis => true
  | .clrSlips => true
  | .seamTrainEnd _ => true
  | .seamReanchor _ => true
  | .seamInputStop _ => true
  | .seamRatioMeasured _ _ => true
  | .seamRangeRecover _ => true
  | .laneFrameStart _ f => laneFrameOk f
  | .cgStop _ => true
  | .cgAnchor _ => true
  | .cgRateSettled _ => true
  | .cgStopDone _ => true
  | .cgEnWrite _ _ _ => true
  | .cgClrCounts _ => true
  | .hostClrCounts => true
  | .slotMapWrite _ _ _ _ => true
  | .hostMapWrite _ _ _ => true
  | .txChannelMapWrite _ _ _ _ => true
  | .portEnWrite _ _ _ => true
  | .linkUp _ _ _ => true
  | .negotiationFault _ _ => true
  | .linkDown _ => true
  | .frameIngress _ f => frameOk f
  | .frameEgress _ => true
  | .macAgeOut => true
  | .gateEntryChange _ => true
  | .gateConfigTakeover _ => true
  | .macAdd => true
  | .macDel => true
  | .flushLearned => true
  | .portClrCounts _ => true
  | .gateApply _ => true
  | .gateCancel _ => true
  | .membershipReportSend => true
  | .packetReceive p => packetOk p
  | .rxTimeout _ => true
  | .legLiveTimeout _ _ => true
  | .txPacketStart _ => true
  | .rxEn => true
  | .rxDis => true
  | .txEn => true
  | .txDis => true
  | .clrRx => true
  | .clrTx => true
  | .clrHank => true
  | .rxOffsetWrite _ _ _ => true
  | .hankOffsetWrite _ _ _ => true
  | .ptpMessageReceive _ _ _ => true
  | .announceTimeout _ => true
  | .ptpMasterSend _ => true
  | .pdelaySend _ => true
  | .persistExpire _ => true
  | .tbCtrlWrite _ _ _ => true
  | .snap => true
  | .tbClrCounts => true
  | .refEdge _ _ => true
  | .refSignalLoss _ => true
  | .qualWindowEnd _ _ => true
  | .qtimeExpire _ => true
  | .tcxoFaultClear => true
  | .wtrExpire _ => true
  | .mcLockAchieved _ => true
  | .holdoverLimit _ => true
  | .mcSwWrite _ _ _ => true
  | .swFreqWrite _ _ _ => true
  | .swStep => true
  | .phaseStepDone _ => true
  | .relearn => true
  | .refClrCounts => true
  | .synLossOfLock _ _ _ => true
  | .synRelockAttempt _ => true
  | .noSpare _ => true
  | .handoverStart => true
  | .handoverSwitchover => true
  | .handoverFail => true
  | .synTestDone _ _ _ => true
  | .synRetestTimer _ => true
  | .retry => true
  | .synTest => true
  | .synClrCounts => true
  | .mckCfgWrite _ _ _ => true
  | .plsCfgWrite _ _ _ => true
  | .plsOfsWrite _ _ _ => true
  | .plsSourcePulse _ _ => true
  | .plsOutputPulse _ => true
  | .gpioEdge _ _ => true
  | .gpioDebounced _ => true
  | .coReadback _ _ _ => true
  | .coClr => true
  | .clrEdges => true
  | .seWrite => true
  | .seDel => true
  | .scheduleFire => true
  | .schedulePulseEnd _ => true
  | .gpOutWrite _ _ => true
  | .coCfgWrite _ _ _ => true
  | .pOpen _ _ _ => true
  | .pData _ _ _ _ _ => true
  | .pEnd _ _ _ => true
  | .pEndAbort _ => true
  | .advance _ _ => true
  | .drop _ => true
  | .mark _ => true
  | .rewind _ => true
  | .consumerReadStall _ _ => true
  | .internalItemCommit _ _ => true
  | .flush => true
  | .splClrCounts => true
  | .spoolEnWrite _ _ _ => true
  | .spoolResetDone _ => true
  | .eventAssert _ => true
  | .moderationIntervalEnd _ => true
  | .holdoffEnd _ => true
  | .msixDeliver _ => true
  | .tgtEoi _ _ _ => true
  | .force => true
  | .clrPend => true
  | .evCfgWrite _ _ _ => true
  | .tgtCtrlWrite _ _ _ => true
  | .pciePowerStateChange _ _ _ => true
  | .hello c _ => clientOk c
  | .proof c id _ => clientOk c && decide (id < 2 ^ 32)
  | .challengeLapse => true
  | .authBlockExpire => true
  | .sessionIdleTimeout => true
  | .commandStart => true
  | .replySend => true
  | .nop q => requestOk q
  | .regRead q => requestOk q
  | .regWrite q => requestOk q
  | .bsOpen q => requestOk q
  | .bsAdd q => requestOk q
  | .bsCommit q => requestOk q
  | .bsAbort q => requestOk q
  | .change q => requestOk q
  | .schedWrite q => requestOk q
  | .schedDel q => requestOk q
  | .enable q => requestOk q
  | .release q => requestOk q
  | .meterRead q => requestOk q
  | .subscribe q => requestOk q
  | .acceptStep q => requestOk q
  | .imgBegin q => requestOk q
  | .imgData q => requestOk q
  | .imgEnd q => requestOk q
  | .imgAbort q => requestOk q
  | .cfgReset q => requestOk q
  | .fullReset q => requestOk q
  | .close q => requestOk q
  | .kill => true
  | .sesClrCounts => true
  | .sesConfigWrite _ _ _ => true
  | .registerWrite bar2 off _ _ _ => addressOk bar2 off
  | .postedWriteApply => true
  | .scrubPass bad => bad.all (addressOk false)
  | .lockHem => true
  | .lockCo => true
  | .lockVcap => true
  | .lockRoles => true
  | .lockKeys => true
  | .clrWerr => true
  | .glbResetFull => true
  | .glbResetCfg => true
  | .cfgResetDecide _ => true
  | .powerOn => true
  | .rstAssert => true
  | .resetRelease env => decide (env.straps < 4)
  | .watchdogExpire => true
  | .perstAssert => true
  | .bareModeTimer => true
  | .ejectDebounced => true
  | .eject => true
  | .rescan => true
  | .heartbeatReceive _ _ _ => true
  | .witnessDecision => true
  | .witnessFrameReceive _ => true
  | .outputGateUpdate => true
  | .liningMessageReceive _ => true
  | .liningDown _ => true
  | .liningUp => true
  | .joinStart => true
  | .joinTimeout => true
  | .reversionWtrExpire => true
  | .claimTimeout => true
  | .yieldTimeout => true
  | .remirror => true
  | .relinquish => true
  | .prClrCounts => true
  | .prCfgWrite _ _ => true
  | .faultDetect code _ _ => code.val != 0
  | .quietLaneRelease => true
  | .lockstepResetTimer => true
  | .tempBarEnd => true
  | .eccHourEnd _ => true
  | .digestCompare _ => true
  | .clrLog => true
  | .safClrCounts => true
  | .safInject _ _ => true
  | .oeAllowPinChange _ => true
  | .pciePerstRelease => true
  | .tjRisesThroughTempWarn _ => true
  | .rescanComplete => true
  | .arpRequestReceive q => arpOk q
  | .membershipQueryReceive q => queryOk q
  | .pdelayReqReceive _ _ => true
  | .malformedMessage c _ => clientOk c
  | .inPlaceRelock _ => true

end Sys2Proof
end

