-- ==== Sys2Proof/Decode.lean ====
section
/-! DEFINITION. The command that a word spells. No row of spec/opcode_table.json gives bits, so no word spells a
command: commands come to the block as register accesses, messages, pin events and the passing of time. -/

namespace Sys2Proof

/-- The command of a word of `nbits` bits: none, since the table gives no row any bits. -/
def decodeTableWord (_nbits _w : Nat) : Option Instr := none

end Sys2Proof
end

