-- ==== Sys2Proof/Machine/Crc.lean ====
section
/-! DEFINITION. The check sums the spec names by their standard names: CRC-32, CRC-32C, the CRC-8 of AES3 channel
status, SHA-256 and HMAC-SHA-256. The polynomials and constants are those of the named standards (PRESUMED, log
entry 13). -/

namespace Sys2Proof.Machine

/-- One bit of a reflected CRC. -/
def crcBit (poly c : Nat) : Nat := if c % 2 = 1 then (c / 2) ^^^ poly else c / 2

/-- One byte of a reflected CRC. -/
def crcByte (poly c : Nat) (b : Byte) : Nat :=
  let c := c ^^^ b.toNat
  crcBit poly (crcBit poly (crcBit poly (crcBit poly (crcBit poly (crcBit poly (crcBit poly (crcBit poly c)))))))

/-- CRC-32 of IEEE 802.3. -/
def crc32 (bs : List Byte) : Nat := (bs.foldl (crcByte 0xEDB88320) 0xFFFFFFFF) ^^^ 0xFFFFFFFF

/-- CRC-32C (Castagnoli). -/
def crc32c (bs : List Byte) : Nat := (bs.foldl (crcByte 0x82F63B78) 0xFFFFFFFF) ^^^ 0xFFFFFFFF

/-- The CRC-8 of AES3 channel status, preset 0xFF, least significant bit first. -/
def crc8aes (bs : List Byte) : Nat := bs.foldl (crcByte 0xB8) 0xFF

/-! ## SHA-256 -/

/-- A number as `n` words of 32 bits, the highest first. -/
def wordsIn (n x : Nat) : List Nat := (List.range n).map fun i => x / 2 ^ (32 * (n - 1 - i)) % 2 ^ 32

/-- The round constants, eight to a number. -/
def shaConsts : List Nat :=
  [0x428a2f9871374491b5c0fbcfe9b5dba53956c25b59f111f1923f82a4ab1c5ed5,
   0xd807aa9812835b01243185be550c7dc372be5d7480deb1fe9bdc06a7c19bf174,
   0xe49b69c1efbe47860fc19dc6240ca1cc2de92c6f4a7484aa5cb0a9dc76f988da,
   0x983e5152a831c66db00327c8bf597fc7c6e00bf3d5a7914706ca635114292967] ++
  [0x27b70a852e1b21384d2c6dfc53380d13650a7354766a0abb81c2c92e92722c85,
   0xa2bfe8a1a81a664bc24b8b70c76c51a3d192e819d6990624f40e3585106aa070,
   0x19a4c1161e376c082748774c34b0bcb5391c0cb34ed8aa4a5b9cca4f682e6ff3,
   0x748f82ee78a5636f84c878148cc7020890befffaa4506cebbef9a3f7c67178f2]

/-- The exclusive or of some right rotations of a word. -/
def turns (ns : List Nat) (x : Nat) : Nat :=
  ns.foldl (fun y n => y ^^^ (x / 2 ^ n + x % 2 ^ n * 2 ^ (32 - n))) 0

/-- SHA-256 under way: the next sixteen words of the message schedule, and the last four values of its two recurrences,
the newest first. -/
structure Sha where
  ahead : List Nat
  upper : List Nat
  lower : List Nat
  deriving DecidableEq, Repr

/-- One round: the word at the front of the schedule is used up, the sixteenth after it is formed. -/
def Sha.round (s : Sha) (k : Nat) : Sha :=
  let w (i : Nat) : Nat := s.ahead.getD i 0
  let p (i : Nat) : Nat := s.upper.getD i 0
  let q (i : Nat) : Nat := s.lower.getD i 0
  let mix := w 0 + k + q 3 + turns [6, 11, 25] (q 0) + ((q 0 &&& (q 1 ^^^ q 2)) ^^^ q 2)
  let fresh := w 0 + w 9 + (turns [7, 18] (w 1) ^^^ w 1 / 8) + (turns [17, 19] (w 14) ^^^ w 14 / 1024)
  { ahead := s.ahead.drop 1 ++ [fresh % 2 ^ 32]
    upper := (mix + turns [2, 13, 22] (p 0) + ((p 0 &&& p 1) ||| (p 2 &&& (p 0 ||| p 1)))) % 2 ^ 32 :: s.upper.take 3
    lower := (p 3 + mix) % 2 ^ 32 :: s.lower.take 3 }

/-- One block of sixteen words: 64 rounds, added to the chaining value. -/
def shaBlock (chain ws : List Nat) : List Nat :=
  let s := (shaConsts.flatMap (wordsIn 8)).foldl Sha.round { ahead := ws, upper := chain.take 4, lower := chain.drop 4 }
  (chain.zip (s.upper ++ s.lower)).map fun e => (e.1 + e.2) % 2 ^ 32

/-- Bytes as big-endian 32-bit words. -/
def beWords : Nat → List Byte → List Nat
  | 0, _ => []
  | n + 1, bs => beNat (bs.take 4) :: beWords n (bs.drop 4)

/-- The chaining value after some blocks. -/
def shaBlocks : Nat → List Byte → List Nat → List Nat
  | 0, _, chain => chain
  | n + 1, bs, chain => shaBlocks n (bs.drop 64) (shaBlock chain (beWords 16 (bs.take 64)))

/-- SHA-256 of a byte string, 32 bytes. -/
def sha256 (bs : List Byte) : List Byte :=
  let blocks := (bs.length + 72) / 64
  let filler := List.replicate (64 * blocks - 9 - bs.length) 0#8
  let start := wordsIn 8 0x6a09e667bb67ae853c6ef372a54ff53a510e527f9b05688c1f83d9ab5be0cd19
  (shaBlocks blocks (bs ++ 0x80#8 :: filler ++ beBytes 8 (8 * bs.length)) start).flatMap (beBytes 4)

/-- HMAC-SHA-256. -/
def hmac (key msg : List Byte) : List Byte :=
  let k := if 64 < key.length then sha256 key else key
  let k := k ++ List.replicate (64 - k.length) 0#8
  sha256 ((k.map fun b => b ^^^ 0x5C#8) ++ sha256 ((k.map fun b => b ^^^ 0x36#8) ++ msg))

/-- What is left of PBKDF2 after an iteration: the sum so far and the last value. -/
def pbkdfRounds (password : List Byte) : Nat → List Byte → List Byte → List Byte
  | 0, sum, _ => sum
  | n + 1, sum, last =>
    let u := hmac password last
    pbkdfRounds password n (sum.zipWith (· ^^^ ·) u) u

/-- The first 32 bytes of PBKDF2-HMAC-SHA-256, over one iteration and `more` of them. -/
def pbkdf2 (password salt : List Byte) (more : Nat) : List Byte :=
  let u := hmac password (salt ++ beBytes 4 1)
  pbkdfRounds password more u u

end Sys2Proof.Machine
end

