-- ==== Sys2Proof/Machine/RegMap.lean ====
section
/-! DEFINITION. The registers of BAR0 as the chapters' register tables give them: every register's offset, array
dimensions, writable, write-one-to-clear, write-only and reserved bits, reset value, single-field ranges, posted and
lock qualifiers (spec/00 R4 to R7, spec/01 R24, spec/16 R356, and the register rules of each chapter). -/

namespace Sys2Proof.Machine

/-- The registers of BAR0, under the names the spec gives them (R4, R356). -/
inductive Reg where
  | DEV_ID | GLB_STEP | GLB_STATUS | GLB_EVENT | REG_WSTATUS | REG_WERROR | REG_WERRCNT | REG_BUSY | GLB_LOCK
  | GLB_CMD | GLB_RESET | CFG_PAR_ADDR | SCRUB_CNT | UID_HI | UID_LO | FAB_STATUS | FAB_VCORE | FAB_VCAP | FAB_VHOLD
  | FAB_RESERVE0 | FAB_DEMAND | FAB_DEMAND_C | FAB_GUAR | FAB_LIMIT | FAB_PACE | FAB_SLACK_MIN | FAB_CMD | FAB_EVENT
  | FAB_FENCE_MISS_CNT | FAB_PACE_FAULT_CNT | ADM_RESULT | ADM_SEQ_LAST | SHED_HEAD | FAB_TRIM | FAB_NEEDLE
  | SHED_LOG_W0 | SHED_LOG_W1 | TB_EVENT | TB_CMD_ARG | TB_CMD | TC_CTRL | TC_NOFIX_CNT | TS_RX_FIX | TS_TX_FIX
  | PHY_LAT | LINK_DELAY | TB_CTRL | TB_VLAN | TB_DS | TB_DS2 | TB_INTV | TB_SERVO | TB_JTHR | TB_UTC | TB_STATUS
  | TB_GM_UTC | TB_GM_ID_HI | TB_GM_ID_LO | TB_CLK_ID_HI | TB_CLK_ID_LO | TB_OFS_HI | TB_OFS_LO | TB_MPD | TB_FREQ
  | TB_PEND_HI | TB_PEND_LO | TB_STEP_HI | TB_STEP_LO | STEP_TACK | TB_ACC_HI | TB_ACC_LO | TB_TNS_HI | TB_TNS_LO
  | SNAP_SEC_HI | SNAP_SEC_LO | SNAP_NS | SNAP_FRAC | TB_SNAP_TNS_HI | TB_SNAP_TNS_LO | TB_CNT | REF_EVENT
  | REF_CMD_ARG | REF_CMD | REF_TCXO | REF_CFG | REF_NUM | REF_OFS | QL_W0 | QL_W1 | QL_W2 | QL_W3 | MC_CTRL | MC_PULL
  | MC_LOCK | MC_HO | MC_HO_ERR | MC_OFS | MC_SW_PS | MC_TBL | MC_STATUS | MC_PHASE | MC_FREQ_HI | MC_FREQ_LO
  | MC_SW_FREQ_HI | MC_SW_FREQ_LO | MC_HO_FREQ_HI | MC_HO_FREQ_LO | MC_HO_EST | MC_HO_TIME | MC_LOCKED | MC_CNT
  | MC_C1 | MC_C2 | MC_C3 | MC_AGE | MC_TAVG | SYN_EVENT | SYN_CMD_ARG | SYN_CMD | SYN_LOCK | SYN_LOL | SYN_MAP
  | SY_STATUS | SY_PHERR | SY_CNT | MCK_CFG | PLS_CFG | PLS_OFS | PLS_WIDTH | PLS_TOL | PLS_ERR | PLS_CNT | LN_EVENT
  | LN_FRAME | CG_FMT | CG_TIMING | CG_ACC | CG_CTRL | CG_STATUS | CG_PHASE | CG_CNT_A | CG_CNT_B | CG_CMD | LANE_DIR
  | HOST_IN | HOST_OUT | HOST_STAT | HOST_CMD | HOST_MAP | SLOT_MAP | SW_EVENT | SW_CFG | SW_CMD | SW_MACW | PORT_CTRL
  | PORT_STATUS | PORT_VLAN | PORT_PCPMAP | CBS_A | CBS_B | GATE_CTRL | GATE_CYCLE | GATE_BASE_HI | GATE_BASE_LO
  | GATE_BASE_NS | GATE_STATUS | PORT_CMD | RX_FRAMES_LO | RX_FRAMES_HI | TX_FRAMES_LO | TX_FRAMES_HI | RX_OCTETS_LO
  | RX_OCTETS_HI | TX_OCTETS_LO | TX_OCTETS_HI | RX_FCS | RX_DROP | TX_GATE_DROP | TX_FLUSH | QDROP | VLAN
  | GATE_ADM_W0 | GATE_ADM_W1 | GATE_OPER_W0 | GATE_OPER_W1 | MAC_W0 | MAC_W1 | MAC_W2 | MAC_W3 | STR_EVENT
  | STR_CMD_ARG | STR_CMD | STR_CAP | STR_NOMATCH | RX_W0 | RX_W1 | RX_W2 | RX_W3 | RX_W4 | RX_DST_A | RX_SRC_A
  | RX_DST_B | RX_SRC_B | RX_W24 | RX_W25 | TX_W0 | TX_W1 | TX_W2 | TX_W3 | TX_W4 | TX_W5 | TX_W6 | TX_W7 | TX_DST_A
  | TX_DST_B | TX_SRC_A | TX_SRC_B | TX_DMAC_A_HI | TX_DMAC_A_LO | TX_DMAC_B_HI | TX_DMAC_B_LO | TX_W28 | RXC | TXC_W0
  | TXC_W1 | TXC_W2 | TXC_W3 | HK_W0 | HK_W1 | TX_MAP | TX_CS0 | TX_CS | MIX_STITCH_LO | MIX_STITCH_HI | MIX_RAMP_DEF
  | MIX_KEY_RAMP | MIX_EVENT | MIX_REFUSE | BS_CMD | BS_STATUS | BS_REC | BS_RESULT | BS_SKIP | BS_STITCH_LO
  | BS_STITCH_HI | SRC_W0 | SRC_W1 | DST_W0 | DST_W1 | DST_W2 | DST_W3 | BUS_W0 | BUS_W1 | LST_W0 | LST_W1 | LST_W2
  | LST_W3 | TALK_W0 | TALK_W1 | SUB | XP_W0 | XP_W1 | DYN_EVENT | DYN_CMD_ARG | DYN_CMD | SCH_W0 | SCH_W1 | SCH_W2
  | SCH_W3 | HEM_W0 | HEM_W1 | HEM_W2 | HEM_W3 | MTR_W0 | MTR_W1 | MTR_W2 | MTR_W3 | VOX_W0 | VOX_W1 | VOX_STATE
  | RB_EVENT | RB_CMD_ARG | RB_CMD | RB_SEAM_CFG | SM_W0 | SM_W1 | SM_W2 | SM_W3 | SC_W0 | SC_W1 | CIO_EVENT
  | CIO_CMD_ARG | CIO_CMD | CIO_SOFT | GP_LEVEL | GP_OUT | SE_LAST | GP_CFG | GP_TACK | GP_CNT | CO_CFG | CO_STATUS
  | CR_W0 | CR_W1 | CR_W2 | CR_W3 | CR_W4 | CR_W5 | CR_W6 | CR_W7 | SE_W0 | SE_W1 | SE_W2 | SE_W3 | SE_W4 | SE_W5
  | SPL_EVENT | SPL_STORE | SPL_FREE | SPL_CMD_ARG | SPL_CMD | SPL_STALL | SP_W0 | SP_W1 | SP_W2 | SP_W3 | EVT_EVENT
  | EVT_CMD_ARG | EVT_CMD | EV_GRP | EV_GSTAT | EV_HGRP | TGT_CTRL | TGT_EOI | TGT_STATUS | TGT_CNT | TGT_DELIV
  | TGT_STACK | EV_PEND | ATT_RX | ATT_TX | ATT_CG | EV_CFG | EV_OCFG | MSIX_LO | MSIX_HI | MSIX_DATA | MSIX_CTRL
  | MSIX_PBA | SES_EVENT | SES_NET | SES_CFG | SES_IP4 | SES_IP6 | SES_MBOX | SES_KEYS | SES_CNT | SES_CNT2
  | SES_CMD_ARG | SES_CMD | SS_W0 | SS_W1 | SS_W2 | SS_W3 | SS_W4 | SS_W5 | SES_SUB | PR_EVENT | PR_CFG | PR_STATUS
  | PR_WTR | PR_CNT | PR_CNT2 | PR_WIT_ID | PR_PEER_DIG | PR_LAST_HI | PR_LAST_LO | PR_LINING | PR_TBERR | PR_CMD
  | WIT_STATUS | WIT_CNT | WIT_MOVES | SAF_EVENT | SAF_STATUS | SAF_SAFE | SAF_CFG | SAF_VMON | SAF_ECC | SAF_DIGEST
  | SAF_CMD | SAF_INJECT | FLT_HEAD | FLT_W0 | FLT_W1 | FLT_W2 | FLT_W3 | PL_EVENT | PL_STATUS | PL_SEQ_A | PL_SEQ_B
  | PL_DIGEST | PL_REJ | PL_FIRST_REJ | PL_TIME | PL_SPI | PL_CMD
  deriving DecidableEq, Repr

/-- One register's row (R4 to R6, R24): base offset, up to two array dimensions with their strides, bit masks by
access code, reset value, the ranges `(low bit, width, least, greatest)` of its fields, posted, lock group. -/
structure Desc where
  base : Nat
  n1 : Nat := 1
  st1 : Nat := 0
  n2 : Nat := 1
  st2 : Nat := 0
  rw : Nat := 0
  w1c : Nat := 0
  wo : Nat := 0
  rsv : Nat := 0
  reset : Nat := 0
  ranges : List (Nat × Nat × Nat × Nat) := []
  posted : Bool := false
  lock : Option Nat := none
  deriving DecidableEq, Repr

/-- The row of a register (the register table of its chapter). -/
def desc : Reg → Desc
  | .DEV_ID => { base := 0, reset := 0x53566480 }
  | .GLB_STEP => { base := 4, rsv := 0xFFFF0000 }
  | .GLB_STATUS => { base := 8, rsv := 0x3FFFFF }
  | .GLB_EVENT => { base := 0xC, w1c := 7, rsv := 0xFFFFFFF8 }
  | .REG_WSTATUS => { base := 0x10, rsv := 0x800000 }
  | .REG_WERROR => { base := 0x14, rsv := 0x800000 }
  | .REG_WERRCNT => { base := 0x18 }
  | .REG_BUSY => { base := 0x1C, rsv := 0xFFFFFFF8 }
  | .GLB_LOCK => { base := 0x20, rsv := 0xFFFFFFE0 }
  | .GLB_CMD => { base := 0x24, wo := 0x1F1, rsv := 0xFFFFFE0E }
  | .GLB_RESET => { base := 0x28, wo := 0xFFFF0003, rsv := 0xFFFC }
  | .CFG_PAR_ADDR => { base := 0x2C, rsv := 0x7FF00000 }
  | .SCRUB_CNT => { base := 0x30 }
  | .UID_HI => { base := 0x34 }
  | .UID_LO => { base := 0x38 }
  | .FAB_STATUS => { base := 0x10000, rsv := 0xFFFFC0F8 }
  | .FAB_VCORE => { base := 0x10004, rsv := 0xFF80FF80 }
  | .FAB_VCAP => { base := 0x10008, rw := 0x7F, rsv := 0xFFFFFF80, reset := 0x5A, ranges := [(0, 7, 0, 90)], lock :=
                     some 2 }
  | .FAB_VHOLD => { base := 0x1000C, rw := 0x3FF, rsv := 0xFFFFFC00, reset := 0xA, ranges := [(0, 10, 1, 600)] }
  | .FAB_RESERVE0 => { base := 0x10010, rw := 0x3FFFFF, rsv := 0xFFC00000, ranges := [(0, 22, 0, 2454545)] }
  | .FAB_DEMAND => { base := 0x10014, rsv := 0xFFC00000 }
  | .FAB_DEMAND_C => { base := 0x10018, n1 := 4, st1 := 4, rsv := 0xFFC00000 }
  | .FAB_GUAR => { base := 0x10028, rsv := 0xFFC00000 }
  | .FAB_LIMIT => { base := 0x1002C, rsv := 0xFFC00000 }
  | .FAB_PACE => { base := 0x10030, rsv := 0xFFC00000 }
  | .FAB_SLACK_MIN => { base := 0x10034, rsv := 0xFFFF0000 }
  | .FAB_CMD => { base := 0x10038, wo := 3, rsv := 0xFFFFFFFC }
  | .FAB_EVENT => { base := 0x1003C, w1c := 0x7F, rsv := 0xFFFFFF80 }
  | .FAB_FENCE_MISS_CNT => { base := 0x10040 }
  | .FAB_PACE_FAULT_CNT => { base := 0x10044 }
  | .ADM_RESULT => { base := 0x10048, rsv := 0x7FFF00FF }
  | .ADM_SEQ_LAST => { base := 0x1004C }
  | .SHED_HEAD => { base := 0x10050, rsv := 0xFFC0 }
  | .FAB_TRIM => { base := 0x10100, n1 := 91, st1 := 4, rsv := 0xFFC00000 }
  | .FAB_NEEDLE => { base := 0x10400, n1 := 32, st1 := 4, rsv := 0x3FC00000 }
  | .SHED_LOG_W0 => { base := 0x10800, n1 := 64, st1 := 8, rsv := 0x3F0000 }
  | .SHED_LOG_W1 => { base := 0x10804, n1 := 64, st1 := 8 }
  | .TB_EVENT => { base := 0x20000, w1c := 0x1FFFF, rsv := 0xFFFE0000 }
  | .TB_CMD_ARG => { base := 0x20004, rw := 3, rsv := 0xFFFFFFFC }
  | .TB_CMD => { base := 0x20008, wo := 3, rsv := 0xFFFFFFFC }
  | .TC_CTRL => { base := 0x20010, rw := 0xFF00FF, rsv := 0xFF00FF00, ranges := [(16, 8, 0, 127)] }
  | .TC_NOFIX_CNT => { base := 0x20014 }
  | .TS_RX_FIX => { base := 0x20100, n1 := 4, st1 := 16, rsv := 0xFF000000 }
  | .TS_TX_FIX => { base := 0x20104, n1 := 4, st1 := 16, rsv := 0xFF000000 }
  | .PHY_LAT => { base := 0x20108, n1 := 4, st1 := 16, rw := 0xFFFFFFFF }
  | .LINK_DELAY => { base := 0x2010C, n1 := 4, st1 := 16 }
  | .TB_CTRL => { base := 0x21000, n1 := 4, st1 := 256, rw := 0xFFC7FF00, rsv := 0x3800FF, reset := 0x1C00000,
                    ranges := [(28, 3, 0, 4), (26, 2, 0, 2), (24, 2, 0, 2), (16, 3, 0, 3)] }
  | .TB_VLAN => { base := 0x21004, n1 := 4, st1 := 256, rw := 0x7FFF, rsv := 0xFFFF8000, reset := 0x7001, ranges :=
                    [(0, 12, 1, 4094)] }
  | .TB_DS => { base := 0x21008, n1 := 4, st1 := 256, rw := 0xFFFFFFFF, reset := 0x8080F8FE }
  | .TB_DS2 => { base := 0x2100C, n1 := 4, st1 := 256, rw := 0xFFFFFF00, rsv := 0xFF, reset := 0xFFFFA000 }
  | .TB_INTV => { base := 0x21010, n1 := 4, st1 := 256, rw := 0xFFFFFFFF, reset := 0xFD010003, ranges := [(0, 8, 2,
                    10)] }
  | .TB_SERVO => { base := 0x21014, n1 := 4, st1 := 256, rw := 0x8FFF01FF, rsv := 0x7000FE00, reset := 0x3C0032,
                     ranges := [(16, 12, 1, 3600), (0, 9, 1, 500)] }
  | .TB_JTHR => { base := 0x21018, n1 := 4, st1 := 256, rw := 0x3FFFFFFF, rsv := 0xC0000000, reset := 0x3E8, ranges
                    := [(0, 30, 50, 1000000000)] }
  | .TB_UTC => { base := 0x2101C, n1 := 4, st1 := 256, rw := 0xFFFFF, rsv := 0xFFF00000, reset := 0x80025 }
  | .TB_STATUS => { base := 0x21020, n1 := 4, st1 := 256 }
  | .TB_GM_UTC => { base := 0x21024, n1 := 4, st1 := 256 }
  | .TB_GM_ID_HI => { base := 0x21028, n1 := 4, st1 := 256 }
  | .TB_GM_ID_LO => { base := 0x2102C, n1 := 4, st1 := 256 }
  | .TB_CLK_ID_HI => { base := 0x21030, n1 := 4, st1 := 256 }
  | .TB_CLK_ID_LO => { base := 0x21034, n1 := 4, st1 := 256 }
  | .TB_OFS_HI => { base := 0x21038, n1 := 4, st1 := 256 }
  | .TB_OFS_LO => { base := 0x2103C, n1 := 4, st1 := 256 }
  | .TB_MPD => { base := 0x21040, n1 := 4, st1 := 256 }
  | .TB_FREQ => { base := 0x21044, n1 := 4, st1 := 256 }
  | .TB_PEND_HI => { base := 0x21048, n1 := 4, st1 := 256 }
  | .TB_PEND_LO => { base := 0x2104C, n1 := 4, st1 := 256 }
  | .TB_STEP_HI => { base := 0x21050, n1 := 4, st1 := 256 }
  | .TB_STEP_LO => { base := 0x21054, n1 := 4, st1 := 256 }
  | .STEP_TACK => { base := 0x21058, n1 := 4, st1 := 256 }
  | .TB_ACC_HI => { base := 0x2105C, n1 := 4, st1 := 256 }
  | .TB_ACC_LO => { base := 0x21060, n1 := 4, st1 := 256 }
  | .TB_TNS_HI => { base := 0x21064, n1 := 4, st1 := 256 }
  | .TB_TNS_LO => { base := 0x21068, n1 := 4, st1 := 256 }
  | .SNAP_SEC_HI => { base := 0x2106C, n1 := 4, st1 := 256 }
  | .SNAP_SEC_LO => { base := 0x21070, n1 := 4, st1 := 256 }
  | .SNAP_NS => { base := 0x21074, n1 := 4, st1 := 256, rsv := 0xC0000000 }
  | .SNAP_FRAC => { base := 0x21078, n1 := 4, st1 := 256, rsv := 0xFFFF0000 }
  | .TB_SNAP_TNS_HI => { base := 0x2107C, n1 := 4, st1 := 256 }
  | .TB_SNAP_TNS_LO => { base := 0x21080, n1 := 4, st1 := 256 }
  | .TB_CNT => { base := 0x21084, n1 := 4, st1 := 256 }
  | .REF_EVENT => { base := 0x30000, w1c := 0x3DF, rsv := 0xFFFFFC20 }
  | .REF_CMD_ARG => { base := 0x30004, rw := 3, rsv := 0xFFFFFFFC }
  | .REF_CMD => { base := 0x30008, wo := 7, rsv := 0xFFFFFFF8 }
  | .REF_TCXO => { base := 0x3000C, rsv := 0x7FFF0000 }
  | .REF_CFG => { base := 0x30100, n1 := 4, st1 := 16, rw := 0xFF800000, rsv := 0x7FFFFF, reset := 0x4000000, ranges
                    := [(29, 3, 0, 4)] }
  | .REF_NUM => { base := 0x30104, n1 := 4, st1 := 16, rw := 0x7FFFFFF, rsv := 0xF8000000, reset := 0x989680 }
  | .REF_OFS => { base := 0x30108, n1 := 4, st1 := 16, rw := 0xFFFFFFFF }
  | .QL_W0 => { base := 0x30400, n1 := 21, st1 := 16, rw := 0x7FF07FF, rsv := 0xF800F800, reset := 0xC80032, ranges
                  := [(16, 11, 10, 2000)] }
  | .QL_W1 => { base := 0x30404, n1 := 21, st1 := 16, rw := 0xFFC1FFFF, rsv := 0x3E0000, reset := 0x28000C8, ranges
                  := [(22, 10, 1, 600), (0, 17, 20, 100000)] }
  | .QL_W2 => { base := 0x30408, n1 := 21, st1 := 16 }
  | .QL_W3 => { base := 0x3040C, n1 := 21, st1 := 16 }
  | .MC_CTRL => { base := 0x31000, n1 := 4, st1 := 256, rw := 0xF8000FFF, rsv := 0x7FFF000, reset := 0x8000001E,
                    ranges := [(0, 12, 0, 3600)] }
  | .MC_PULL => { base := 0x31004, n1 := 4, st1 := 256, rw := 0x3FF03FF, rsv := 0xFC00FC00, reset := 0x64000A,
                    ranges := [(16, 10, 1, 1000), (0, 10, 1, 1000)] }
  | .MC_LOCK => { base := 0x31008, n1 := 4, st1 := 256, rw := 0xFFFF03FF, rsv := 0xFC00, reset := 0x640002, ranges
                    := [(16, 16, 5, 10000), (0, 10, 1, 600)] }
  | .MC_HO => { base := 0x3100C, n1 := 4, st1 := 256, rw := 0xFFFFFFFF, reset := 0x3C145A0, ranges := [(20, 12, 10,
                  3600), (14, 6, 0, 60), (0, 14, 1, 10080)] }
  | .MC_HO_ERR => { base := 0x31010, n1 := 4, st1 := 256, rw := 0x3FFFFFFF, rsv := 0xC0000000, reset := 0x1E8480,
                      ranges := [(0, 30, 10000, 1000000000)] }
  | .MC_OFS => { base := 0x31014, n1 := 4, st1 := 256, rw := 0xFFFFFFFF }
  | .MC_SW_PS => { base := 0x31018, n1 := 4, st1 := 256, rw := 0xFFFFFFFF }
  | .MC_TBL => { base := 0x31020, n1 := 4, st1 := 256, n2 := 8, st2 := 4, rw := 0x7FF, rsv := 0xFFFFF800, ranges :=
                   [(8, 3, 0, 5)] }
  | .MC_STATUS => { base := 0x31040, n1 := 4, st1 := 256, rsv := 0xF0F000 }
  | .MC_PHASE => { base := 0x31044, n1 := 4, st1 := 256 }
  | .MC_FREQ_HI => { base := 0x31048, n1 := 4, st1 := 256 }
  | .MC_FREQ_LO => { base := 0x3104C, n1 := 4, st1 := 256 }
  | .MC_SW_FREQ_HI => { base := 0x31050, n1 := 4, st1 := 256, rw := 0xFFFFFFFF }
  | .MC_SW_FREQ_LO => { base := 0x31054, n1 := 4, st1 := 256, rw := 0xFFFFFFFF }
  | .MC_HO_FREQ_HI => { base := 0x31058, n1 := 4, st1 := 256 }
  | .MC_HO_FREQ_LO => { base := 0x3105C, n1 := 4, st1 := 256 }
  | .MC_HO_EST => { base := 0x31060, n1 := 4, st1 := 256 }
  | .MC_HO_TIME => { base := 0x31064, n1 := 4, st1 := 256 }
  | .MC_LOCKED => { base := 0x31068, n1 := 4, st1 := 256 }
  | .MC_CNT => { base := 0x3106C, n1 := 4, st1 := 256 }
  | .MC_C1 => { base := 0x31070, n1 := 4, st1 := 256 }
  | .MC_C2 => { base := 0x31074, n1 := 4, st1 := 256 }
  | .MC_C3 => { base := 0x31078, n1 := 4, st1 := 256 }
  | .MC_AGE => { base := 0x3107C, n1 := 4, st1 := 256 }
  | .MC_TAVG => { base := 0x31080, n1 := 4, st1 := 256, rsv := 0xFFFF0000 }
  | .SYN_EVENT => { base := 0x40000, w1c := 0x3F, rsv := 0xFFFFFFC0 }
  | .SYN_CMD_ARG => { base := 0x40004, rw := 7, rsv := 0xFFFFFFF8, ranges := [(0, 3, 0, 4)] }
  | .SYN_CMD => { base := 0x40008, wo := 7, rsv := 0xFFFFFFF8 }
  | .SYN_LOCK => { base := 0x4000C, rw := 0x7FF007F, rsv := 0xF800FF80, reset := 0x40000A, ranges := [(16, 11, 16,
                     1024), (0, 7, 1, 100)] }
  | .SYN_LOL => { base := 0x40010, rw := 0x1FF, rsv := 0xFFFFFE00, reset := 0x28, ranges := [(0, 9, 10, 400)] }
  | .SYN_MAP => { base := 0x40014, rsv := 0x7FF88888 }
  | .SY_STATUS => { base := 0x40100, n1 := 5, st1 := 16, rsv := 0x1FFFFF }
  | .SY_PHERR => { base := 0x40104, n1 := 5, st1 := 16 }
  | .SY_CNT => { base := 0x40108, n1 := 5, st1 := 16 }
  | .MCK_CFG => { base := 0x40200, n1 := 4, st1 := 4, rw := 0x80000037, rsv := 0x3FFFFFC8, reset := 2 }
  | .PLS_CFG => { base := 0x40300, n1 := 4, st1 := 32, rw := 0xC0370000, rsv := 0x1FC8FFFF, reset := 0x40000 }
  | .PLS_OFS => { base := 0x40304, n1 := 4, st1 := 32, rw := 0xFFFFFFFF }
  | .PLS_WIDTH => { base := 0x40308, n1 := 4, st1 := 32, rw := 0x1FFFF, rsv := 0xFFFE0000, reset := 0x3E8, ranges :=
                      [(0, 17, 1, 100000)] }
  | .PLS_TOL => { base := 0x4030C, n1 := 4, st1 := 32, rw := 0xFFFFF, rsv := 0xFFF00000, reset := 0xA, ranges :=
                    [(0, 20, 1, 1000000)] }
  | .PLS_ERR => { base := 0x40310, n1 := 4, st1 := 32 }
  | .PLS_CNT => { base := 0x40314, n1 := 4, st1 := 32, rsv := 0xFFFF0000 }
  | .LN_EVENT => { base := 0x50000, w1c := 0x3F, rsv := 0xFFFFFFC0 }
  | .LN_FRAME => { base := 0x50004, rsv := 0x7FFFFF00 }
  | .CG_FMT => { base := 0x50100, n1 := 8, st1 := 64, rw := 0x3C3FFF0F, rsv := 0xC3C000F0, reset := 0x802450F,
                   ranges := [(28, 2, 0, 2), (26, 2, 0, 2), (16, 6, 2, 32), (12, 4, 0, 8)] }
  | .CG_TIMING => { base := 0x50104, n1 := 8, st1 := 64, rw := 0x1FFF7FFF, rsv := 0xE0008000, reset := 0x10003E8,
                      ranges := [(16, 13, 16, 4096), (0, 15, 100, 20000)] }
  | .CG_ACC => { base := 0x50108, n1 := 8, st1 := 64, rw := 0x1FF, rsv := 0xFFFFFE00 }
  | .CG_CTRL => { base := 0x5010C, n1 := 8, st1 := 64, rw := 1, rsv := 0xFFFFFFFE }
  | .CG_STATUS => { base := 0x50110, n1 := 8, st1 := 64, rsv := 0xFFFFFF }
  | .CG_PHASE => { base := 0x50114, n1 := 8, st1 := 64, rsv := 0xFFFF0000 }
  | .CG_CNT_A => { base := 0x50118, n1 := 8, st1 := 64 }
  | .CG_CNT_B => { base := 0x5011C, n1 := 8, st1 := 64 }
  | .CG_CMD => { base := 0x50120, n1 := 8, st1 := 64, wo := 1, rsv := 0xFFFFFFFE }
  | .LANE_DIR => { base := 0x50400, n1 := 64, st1 := 4, rw := 3, rsv := 0xFFFFFFFC, ranges := [(0, 2, 0, 2)] }
  | .HOST_IN => { base := 0x50800, rw := 0x8037FFFF, rsv := 0x7FC80000, reset := 0x1000, ranges := [(20, 2, 0, 2),
                    (12, 7, 1, 64)] }
  | .HOST_OUT => { base := 0x50804, rw := 0xFF37FFFF, rsv := 0xC80000, reset := 0x8001000, ranges := [(20, 2, 0, 2),
                     (12, 7, 1, 64), (24, 7, 1, 64)] }
  | .HOST_STAT => { base := 0x50808 }
  | .HOST_CMD => { base := 0x5080C, wo := 1, rsv := 0xFFFFFFFE }
  | .HOST_MAP => { base := 0x50900, n1 := 64, st1 := 4, rw := 0xFFFF, rsv := 0x7FFF0000, reset := 0xFFFF }
  | .SLOT_MAP => { base := 0x51000, n1 := 64, st1 := 128, n2 := 32, st2 := 4, rw := 0xFFFF, rsv := 0x7FFF0000, reset
                     := 0xFFFF }
  | .SW_EVENT => { base := 0x60000, w1c := 0x1F, rsv := 0xFFFFFFE0 }
  | .SW_CFG => { base := 0x60004, rw := 0x3FF3FFF, rsv := 0xFC00C000, reset := 0x12C05F2, ranges := [(16, 10, 10,
                   1000), (0, 14, 1518, 9216)] }
  | .SW_CMD => { base := 0x60008, wo := 7, rsv := 0xFFFFFFF8 }
  | .SW_MACW => { base := 0x6000C, n1 := 3, st1 := 4, rw := 0xFFFFFFFF }
  | .PORT_CTRL => { base := 0x60100, n1 := 4, st1 := 256, rw := 0x8000001F, rsv := 0x7FFFFFE0, reset := 2 }
  | .PORT_STATUS => { base := 0x60104, n1 := 4, st1 := 256, rsv := 0xFFFFFF }
  | .PORT_VLAN => { base := 0x60108, n1 := 4, st1 := 256, rw := 0xC7000FFF, rsv := 0x38FFF000, reset := 1, ranges :=
                      [(30, 2, 0, 2), (0, 12, 1, 4094)] }
  | .PORT_PCPMAP => { base := 0x6010C, n1 := 4, st1 := 256, rw := 0xFFFFFF, rsv := 0xFF000000, reset := 0xFAC688 }
  | .CBS_A => { base := 0x60110, n1 := 4, st1 := 256, rw := 0x8007FFFF, rsv := 0x7FF80000, reset := 0x60000 }
  | .CBS_B => { base := 0x60114, n1 := 4, st1 := 256, rw := 0x8007FFFF, rsv := 0x7FF80000, reset := 0x50000 }
  | .GATE_CTRL => { base := 0x60118, n1 := 4, st1 := 256, rw := 0x8000037F, rsv := 0x7FFFFC80, reset := 1, ranges :=
                      [(0, 7, 1, 64)] }
  | .GATE_CYCLE => { base := 0x6011C, n1 := 4, st1 := 256, rw := 0x3FFFFFFF, rsv := 0xC0000000, reset := 0x1E848 }
  | .GATE_BASE_HI => { base := 0x60120, n1 := 4, st1 := 256, rw := 0xFFFF, rsv := 0xFFFF0000 }
  | .GATE_BASE_LO => { base := 0x60124, n1 := 4, st1 := 256, rw := 0xFFFFFFFF }
  | .GATE_BASE_NS => { base := 0x60128, n1 := 4, st1 := 256, rw := 0x3FFFFFFF, rsv := 0xC0000000 }
  | .GATE_STATUS => { base := 0x6012C, n1 := 4, st1 := 256, rsv := 0x3FFFFFC0 }
  | .PORT_CMD => { base := 0x60130, n1 := 5, st1 := 256, wo := 7, rsv := 0xFFFFFFF8 }
  | .RX_FRAMES_LO => { base := 0x60140, n1 := 5, st1 := 256 }
  | .RX_FRAMES_HI => { base := 0x60144, n1 := 5, st1 := 256 }
  | .TX_FRAMES_LO => { base := 0x60148, n1 := 5, st1 := 256 }
  | .TX_FRAMES_HI => { base := 0x6014C, n1 := 5, st1 := 256 }
  | .RX_OCTETS_LO => { base := 0x60150, n1 := 5, st1 := 256 }
  | .RX_OCTETS_HI => { base := 0x60154, n1 := 5, st1 := 256 }
  | .TX_OCTETS_LO => { base := 0x60158, n1 := 5, st1 := 256 }
  | .TX_OCTETS_HI => { base := 0x6015C, n1 := 5, st1 := 256 }
  | .RX_FCS => { base := 0x60160, n1 := 5, st1 := 256 }
  | .RX_DROP => { base := 0x60164, n1 := 5, st1 := 256 }
  | .TX_GATE_DROP => { base := 0x60168, n1 := 5, st1 := 256 }
  | .TX_FLUSH => { base := 0x6016C, n1 := 5, st1 := 256 }
  | .QDROP => { base := 0x60180, n1 := 5, st1 := 256, n2 := 8, st2 := 4 }
  | .VLAN => { base := 0x60800, n1 := 64, st1 := 4, rw := 0xCFFF1F1F, rsv := 0x3000E0E0 }
  | .GATE_ADM_W0 => { base := 0x61000, n1 := 4, st1 := 512, n2 := 64, st2 := 8, rw := 0xFF, rsv := 0xFFFFFF00, reset
                        := 0xFF }
  | .GATE_ADM_W1 => { base := 0x61004, n1 := 4, st1 := 512, n2 := 64, st2 := 8, rw := 0x3FFFFFFF, rsv := 0xC0000000,
                        reset := 0x1E848, ranges := [(0, 30, 1, 1000000000)] }
  | .GATE_OPER_W0 => { base := 0x61800, n1 := 4, st1 := 512, n2 := 64, st2 := 8 }
  | .GATE_OPER_W1 => { base := 0x61804, n1 := 4, st1 := 512, n2 := 64, st2 := 8 }
  | .MAC_W0 => { base := 0x64000, n1 := 4096, st1 := 16, rsv := 0x10000000 }
  | .MAC_W1 => { base := 0x64004, n1 := 4096, st1 := 16 }
  | .MAC_W2 => { base := 0x64008, n1 := 4096, st1 := 16, rsv := 0xFC00FFE0 }
  | .MAC_W3 => { base := 0x6400C, n1 := 4096, st1 := 16, rsv := 0xFFFFFFFF }
  | .STR_EVENT => { base := 0x80000, w1c := 0x3F, rsv := 0xFFFFFFC0 }
  | .STR_CMD_ARG => { base := 0x80004, rw := 0x300000FF, rsv := 0xCFFFFF00, reset := 0x20000000 }
  | .STR_CMD => { base := 0x80008, wo := 0x7F, rsv := 0xFFFFFF80 }
  | .STR_CAP => { base := 0x8000C, rsv := 0xF800F800 }
  | .STR_NOMATCH => { base := 0x80010 }
  | .RX_W0 => { base := 0x81000, n1 := 256, st1 := 128, rw := 0xFFFC07F, rsv := 0x40003F80, reset := 0x400001,
                  ranges := [(18, 2, 0, 1), (0, 7, 1, 64)] }
  | .RX_W1 => { base := 0x81004, n1 := 256, st1 := 128, rw := 0x7FF7FBF, rsv := 0xF8008040, reset := 0x606100,
                  ranges := [(16, 11, 6, 1536)] }
  | .RX_W2 => { base := 0x81008, n1 := 256, st1 := 128, rw := 0xFFFFFFFF, reset := 0x20001001, ranges := [(30, 2, 0,
                  1), (27, 3, 0, 4), (12, 12, 1, 4094), (0, 12, 1, 4094)] }
  | .RX_W3 => { base := 0x8100C, n1 := 256, st1 := 128, rw := 0xFFFFFFFF, reset := 0x138C138C }
  | .RX_W4 => { base := 0x81010, n1 := 256, st1 := 128, rw := 0xFFFFFFFF }
  | .RX_DST_A => { base := 0x81020, n1 := 256, st1 := 128, n2 := 4, st2 := 4, rw := 0xFFFFFFFF }
  | .RX_SRC_A => { base := 0x81030, n1 := 256, st1 := 128, n2 := 4, st2 := 4, rw := 0xFFFFFFFF }
  | .RX_DST_B => { base := 0x81040, n1 := 256, st1 := 128, n2 := 4, st2 := 4, rw := 0xFFFFFFFF }
  | .RX_SRC_B => { base := 0x81050, n1 := 256, st1 := 128, n2 := 4, st2 := 4, rw := 0xFFFFFFFF }
  | .RX_W24 => { base := 0x81060, n1 := 256, st1 := 128, rsv := 0x7FFFFFF }
  | .RX_W25 => { base := 0x81064, n1 := 256, st1 := 128 }
  | .TX_W0 => { base := 0x89000, n1 := 256, st1 := 128, rw := 0xFFFB07F, rsv := 0x40004F80, reset := 0x460001,
                  ranges := [(17, 3, 0, 4), (0, 7, 1, 64)] }
  | .TX_W1 => { base := 0x89004, n1 := 256, st1 := 128, rw := 0x7FF7FE0, rsv := 0xF800801F, reset := 0xC61C0, ranges
                  := [(16, 11, 0, 1600)] }
  | .TX_W2 => { base := 0x89008, n1 := 256, st1 := 128, rw := 0xFBFFFFFF, rsv := 0x4000000, reset := 0x2240001,
                  ranges := [(30, 2, 0, 1), (28, 2, 0, 3), (12, 8, 1, 255), (0, 12, 1, 4094)] }
  | .TX_W3 => { base := 0x8900C, n1 := 256, st1 := 128, rw := 0xFFFFFFFF, reset := 0x138C138C }
  | .TX_W4 => { base := 0x89010, n1 := 256, st1 := 128, rw := 0xFFF, rsv := 0xFFFFF000, reset := 1, ranges := [(0,
                  12, 1, 4094)] }
  | .TX_W5 => { base := 0x89014, n1 := 256, st1 := 128, rw := 0xFFFFFFFF }
  | .TX_W6 => { base := 0x89018, n1 := 256, st1 := 128, rw := 0xFFFFFFFF }
  | .TX_W7 => { base := 0x8901C, n1 := 256, st1 := 128, rw := 0xFFFF, rsv := 0xFFFF0000 }
  | .TX_DST_A => { base := 0x89020, n1 := 256, st1 := 128, n2 := 4, st2 := 4, rw := 0xFFFFFFFF }
  | .TX_DST_B => { base := 0x89030, n1 := 256, st1 := 128, n2 := 4, st2 := 4, rw := 0xFFFFFFFF }
  | .TX_SRC_A => { base := 0x89040, n1 := 256, st1 := 128, n2 := 4, st2 := 4, rw := 0xFFFFFFFF }
  | .TX_SRC_B => { base := 0x89050, n1 := 256, st1 := 128, n2 := 4, st2 := 4, rw := 0xFFFFFFFF }
  | .TX_DMAC_A_HI => { base := 0x89060, n1 := 256, st1 := 128, rw := 0xFFFF, rsv := 0xFFFF0000 }
  | .TX_DMAC_A_LO => { base := 0x89064, n1 := 256, st1 := 128, rw := 0xFFFFFFFF }
  | .TX_DMAC_B_HI => { base := 0x89068, n1 := 256, st1 := 128, rw := 0xFFFF, rsv := 0xFFFF0000 }
  | .TX_DMAC_B_LO => { base := 0x8906C, n1 := 256, st1 := 128, rw := 0xFFFFFFFF }
  | .TX_W28 => { base := 0x89070, n1 := 256, st1 := 128, rsv := 0xFFFFFFF }
  | .RXC => { base := 0x91000, n1 := 256, st1 := 64, n2 := 13, st2 := 4 }
  | .TXC_W0 => { base := 0x95000, n1 := 256, st1 := 16 }
  | .TXC_W1 => { base := 0x95004, n1 := 256, st1 := 16 }
  | .TXC_W2 => { base := 0x95008, n1 := 256, st1 := 16 }
  | .TXC_W3 => { base := 0x9500C, n1 := 256, st1 := 16, rsv := 0xFFFFFFFF }
  | .HK_W0 => { base := 0x96000, n1 := 64, st1 := 16, rw := 0x800037FF, rsv := 0x7FFFC800, reset := 0x60, ranges :=
                  [(0, 11, 6, 1536)] }
  | .HK_W1 => { base := 0x96004, n1 := 64, st1 := 16, rsv := 0xFFE00000 }
  | .TX_MAP => { base := 0x98000, n1 := 256, st1 := 256, n2 := 64, st2 := 4, rw := 0xFFFF, rsv := 0x7FFF0000, reset
                   := 0xFFFF }
  | .TX_CS0 => { base := 0xA8000, n1 := 256, st1 := 32, rw := 0xFFFFFFFF, reset := 0x85 }
  | .TX_CS => { base := 0xA8004, n1 := 256, st1 := 32, n2 := 5, st2 := 4, rw := 0xFFFFFFFF }
  | .MIX_STITCH_LO => { base := 0x100000 }
  | .MIX_STITCH_HI => { base := 0x100004 }
  | .MIX_RAMP_DEF => { base := 0x100008, rw := 0x7FF, rsv := 0xFFFFF800, reset := 0x28, ranges := [(0, 11, 1, 1024)]
                         }
  | .MIX_KEY_RAMP => { base := 0x10000C, rw := 0x7FF, rsv := 0xFFFFF800, reset := 8, ranges := [(0, 11, 1, 1024)] }
  | .MIX_EVENT => { base := 0x100010, w1c := 7, rsv := 0xFFFFFFF8 }
  | .MIX_REFUSE => { base := 0x100014, rsv := 0x8CF000 }
  | .BS_CMD => { base := 0x100100, n1 := 8, st1 := 64, wo := 0xF, rsv := 0xFFFFFFF0 }
  | .BS_STATUS => { base := 0x100104, n1 := 8, st1 := 64, rsv := 0xFFE000 }
  | .BS_REC => { base := 0x100108, n1 := 8, st1 := 64, n2 := 4, st2 := 4, rw := 0xFFFFFFFF }
  | .BS_RESULT => { base := 0x100118, n1 := 8, st1 := 64, rsv := 0xFFF000 }
  | .BS_SKIP => { base := 0x10011C, n1 := 8, st1 := 64, rsv := 0xFFFFE000 }
  | .BS_STITCH_LO => { base := 0x100120, n1 := 8, st1 := 64 }
  | .BS_STITCH_HI => { base := 0x100124, n1 := 8, st1 := 64 }
  | .SRC_W0 => { base := 0x104000, n1 := 2048, st1 := 8, rsv := 0xFFFFFFF }
  | .SRC_W1 => { base := 0x104004, n1 := 2048, st1 := 8 }
  | .DST_W0 => { base := 0x108000, n1 := 2048, st1 := 16, rsv := 0x7FF0000 }
  | .DST_W1 => { base := 0x108004, n1 := 2048, st1 := 16 }
  | .DST_W2 => { base := 0x108008, n1 := 2048, st1 := 16 }
  | .DST_W3 => { base := 0x10800C, n1 := 2048, st1 := 16 }
  | .BUS_W0 => { base := 0x110000, n1 := 256, st1 := 8, rsv := 0x4FFF0000 }
  | .BUS_W1 => { base := 0x110004, n1 := 256, st1 := 8 }
  | .LST_W0 => { base := 0x114000, n1 := 1024, st1 := 16 }
  | .LST_W1 => { base := 0x114004, n1 := 1024, st1 := 16 }
  | .LST_W2 => { base := 0x114008, n1 := 1024, st1 := 16, rsv := 0x7FFFFFC0 }
  | .LST_W3 => { base := 0x11400C, n1 := 1024, st1 := 16, rsv := 0xFFFFFFFF }
  | .TALK_W0 => { base := 0x120000, n1 := 2048, st1 := 128, n2 := 16, st2 := 8, rsv := 0x1C000000 }
  | .TALK_W1 => { base := 0x120004, n1 := 2048, st1 := 128, n2 := 16, st2 := 8 }
  | .SUB => { base := 0x160000, n1 := 1024, st1 := 128, n2 := 32, st2 := 4, rsv := 0xF000000 }
  | .XP_W0 => { base := 0x180000, n1 := 65536, st1 := 8, rsv := 0x800F800 }
  | .XP_W1 => { base := 0x180004, n1 := 65536, st1 := 8 }
  | .DYN_EVENT => { base := 0x200000, w1c := 3, rsv := 0xFFFFFFFC }
  | .DYN_CMD_ARG => { base := 0x200004, rw := 0x30000FFF, rsv := 0xCFFFF000, reset := 0x20000000 }
  | .DYN_CMD => { base := 0x200008, wo := 0x7F, rsv := 0xFFFFFF80 }
  | .SCH_W0 => { base := 0x201000, n1 := 2048, st1 := 16, rw := 0xFFFF0307, rsv := 0xFCF8, reset := 0x40000100 }
  | .SCH_W1 => { base := 0x201004, n1 := 2048, st1 := 16, rw := 0xFFFFFFFF, reset := 0xA0000 }
  | .SCH_W2 => { base := 0x201008, n1 := 2048, st1 := 16, rw := 0x3FF1FFF, rsv := 0xFC00E000, reset := 0xA0064 }
  | .SCH_W3 => { base := 0x20100C, n1 := 2048, st1 := 16, rw := 0x17FF0000, rsv := 0x8000000 }
  | .HEM_W0 => { base := 0x209000, n1 := 2048, st1 := 16, rw := 0x3F, rsv := 0xFFFFFFC0, reset := 2, lock := some 0
                   }
  | .HEM_W1 => { base := 0x209004, n1 := 2048, st1 := 16, rw := 0x1FF, rsv := 0xFFFFFE00, reset := 0x32 }
  | .HEM_W2 => { base := 0x209008, n1 := 2048, st1 := 16, rsv := 0x7FFF0000 }
  | .HEM_W3 => { base := 0x20900C, n1 := 2048, st1 := 16, rsv := 0xFFFFFFFF }
  | .MTR_W0 => { base := 0x211000, n1 := 4096, st1 := 16, rw := 0x1F, rsv := 0x4FFFFFE0, reset := 4, ranges := [(0,
                   5, 0, 20)] }
  | .MTR_W1 => { base := 0x211004, n1 := 4096, st1 := 16 }
  | .MTR_W2 => { base := 0x211008, n1 := 4096, st1 := 16 }
  | .MTR_W3 => { base := 0x21100C, n1 := 4096, st1 := 16, rsv := 0xFFFFFFFF }
  | .VOX_W0 => { base := 0x221000, n1 := 256, st1 := 8, rw := 0xFFFFF1F, rsv := 0xE0, reset := 0x5001 }
  | .VOX_W1 => { base := 0x221004, n1 := 256, st1 := 8, rw := 0x1FFF, rsv := 0xFFFFE000 }
  | .VOX_STATE => { base := 0x222000, n1 := 8, st1 := 4 }
  | .RB_EVENT => { base := 0x240000, w1c := 7, rsv := 0xFFFFFFF8 }
  | .RB_CMD_ARG => { base := 0x240004, rw := 0x300001FF, rsv := 0xCFFFFE00, reset := 0x20000000 }
  | .RB_CMD => { base := 0x240008, wo := 0x1F, rsv := 0xFFFFFFE0 }
  | .RB_SEAM_CFG => { base := 0x24000C, rw := 0xFFF0FFF, rsv := 0xF000F000, reset := 0x320064, ranges := [(16, 12,
                        5, 4000), (0, 12, 20, 2000)] }
  | .SM_W0 => { base := 0x241000, n1 := 512, st1 := 16, rw := 0x231E307, rsv := 0x1CE1CF8, reset := 0x108000 }
  | .SM_W1 => { base := 0x241004, n1 := 512, st1 := 16, rw := 0xFFFFFFFF }
  | .SM_W2 => { base := 0x241008, n1 := 512, st1 := 16 }
  | .SM_W3 => { base := 0x24100C, n1 := 512, st1 := 16 }
  | .SC_W0 => { base := 0x245000, n1 := 512, st1 := 8, rw := 0x200000F, rsv := 0x71FFFFF0, reset := 6 }
  | .SC_W1 => { base := 0x245004, n1 := 512, st1 := 8, rw := 0xFFFFFFFF }
  | .CIO_EVENT => { base := 0x260000, w1c := 0xF, rsv := 0xFFFFFFF0 }
  | .CIO_CMD_ARG => { base := 0x260004, rw := 0x1FF, rsv := 0xFFFFFE00 }
  | .CIO_CMD => { base := 0x260008, wo := 0xF, rsv := 0xFFFFFFF0 }
  | .CIO_SOFT => { base := 0x26000C, rw := 0xFFFFFFFF }
  | .GP_LEVEL => { base := 0x260010 }
  | .GP_OUT => { base := 0x260014, rw := 0xFFFFFFFF }
  | .SE_LAST => { base := 0x260018, rsv := 0xFFFFFE00 }
  | .GP_CFG => { base := 0x260100, n1 := 32, st1 := 16, rw := 0xFE00FF3F, rsv := 0x1FF00C0, ranges := [(30, 2, 0,
                   2), (0, 6, 0, 50)] }
  | .GP_TACK => { base := 0x260104, n1 := 32, st1 := 16 }
  | .GP_CNT => { base := 0x260108, n1 := 32, st1 := 16, rsv := 0xFFFF0000 }
  | .CO_CFG => { base := 0x260300, n1 := 8, st1 := 8, rw := 0x800000FF, rsv := 0x7FFFFF00, lock := some 1 }
  | .CO_STATUS => { base := 0x260304, n1 := 8, st1 := 8, rsv := 0x3FF0000 }
  | .CR_W0 => { base := 0x261000, n1 := 256, st1 := 64, rw := 0xBBBFFFFF, rsv := 0x44400000, reset := 1, ranges :=
                  [(0, 20, 1, 1000000)] }
  | .CR_W1 => { base := 0x261004, n1 := 256, st1 := 64, rw := 0xFFFFFFFF }
  | .CR_W2 => { base := 0x261008, n1 := 256, st1 := 64, rw := 0xFFFFFFFF }
  | .CR_W3 => { base := 0x26100C, n1 := 256, st1 := 64, rw := 0xFFFF, rsv := 0xFFFF0000 }
  | .CR_W4 => { base := 0x261010, n1 := 256, st1 := 64, rw := 0xFFFFFFFF }
  | .CR_W5 => { base := 0x261014, n1 := 256, st1 := 64, rw := 0xFFFFF, rsv := 0xFFF00000, reset := 0x15180, ranges
                  := [(0, 20, 1, 604800)] }
  | .CR_W6 => { base := 0x261018, n1 := 256, st1 := 64, rw := 0xFFFFF, rsv := 0xFFF00000, reset := 0xE10 }
  | .CR_W7 => { base := 0x26101C, n1 := 256, st1 := 64, rsv := 0xFFFFFFF }
  | .SE_W0 => { base := 0x268000, n1 := 512, st1 := 32, rw := 0x1C00000F, rsv := 0x3FFFFF0 }
  | .SE_W1 => { base := 0x268004, n1 := 512, st1 := 32, rw := 0x1FFFF1FF, rsv := 0xE0000E00 }
  | .SE_W2 => { base := 0x268008, n1 := 512, st1 := 32, rw := 0xFFFF, rsv := 0xFFFF0000 }
  | .SE_W3 => { base := 0x26800C, n1 := 512, st1 := 32, rw := 0xFFFFFFFF }
  | .SE_W4 => { base := 0x268010, n1 := 512, st1 := 32, rw := 0x3FFFFFFF, rsv := 0xC0000000, ranges := [(0, 30, 0,
                  999999999)] }
  | .SE_W5 => { base := 0x268014, n1 := 512, st1 := 32, rsv := 0xFFFFFF }
  | .SPL_EVENT => { base := 0x280000, w1c := 7, rsv := 0xFFFFFFF8 }
  | .SPL_STORE => { base := 0x280004, rw := 0xFFFF, rsv := 0xFFF00000, reset := 0x1000 }
  | .SPL_FREE => { base := 0x280008, rsv := 0xFFF00000 }
  | .SPL_CMD_ARG => { base := 0x28000C, rw := 0xFFF, rsv := 0xFFFFF000 }
  | .SPL_CMD => { base := 0x280010, wo := 3, rsv := 0xFFFFFFFC }
  | .SPL_STALL => { base := 0x280014, rw := 0x3FF, rsv := 0xFFFFFC00, reset := 0xA, ranges := [(0, 10, 0, 1000)] }
  | .SP_W0 => { base := 0x281000, n1 := 4096, st1 := 16, rw := 0xFCFF8000, rsv := 0x3007FFF }
  | .SP_W1 => { base := 0x281004, n1 := 4096, st1 := 16, rw := 0xFFFFFFFF, reset := 0x4000000, ranges := [(16, 16,
                  1, 65535)] }
  | .SP_W2 => { base := 0x281008, n1 := 4096, st1 := 16, w1c := 0x800000 }
  | .SP_W3 => { base := 0x28100C, n1 := 4096, st1 := 16 }
  | .EVT_EVENT => { base := 0x2A0000, w1c := 0x1FF, rsv := 0xFFFFFE00 }
  | .EVT_CMD_ARG => { base := 0x2A0004, rw := 0x7FF, rsv := 0xFFFFF800 }
  | .EVT_CMD => { base := 0x2A0008, wo := 3, rsv := 0xFFFFFFFC }
  | .EV_GRP => { base := 0x2A0100, n1 := 28, st1 := 8, rw := 0x7FFFFF, rsv := 0xFF800000, reset := 0x10064, ranges
                   := [(16, 7, 1, 64), (0, 16, 1, 65535)] }
  | .EV_GSTAT => { base := 0x2A0104, n1 := 32, st1 := 8, rsv := 0xFF80 }
  | .EV_HGRP => { base := 0x2A01E0, n1 := 4, st1 := 8, rw := 0xFFFF, rsv := 0xFFFF0000 }
  | .TGT_CTRL => { base := 0x2A0200, n1 := 8, st1 := 32, rw := 0xC000003F, rsv := 0x3FFFFFC0, reset := 0x3F }
  | .TGT_EOI => { base := 0x2A0204, n1 := 8, st1 := 32, rw := 0x3F, wo := 0x80000000, rsv := 0x7FFFFFC0 }
  | .TGT_STATUS => { base := 0x2A0208, n1 := 8, st1 := 32, rsv := 0x3FE0E0C0 }
  | .TGT_CNT => { base := 0x2A020C, n1 := 8, st1 := 32, rsv := 0xFFFF0000 }
  | .TGT_DELIV => { base := 0x2A0210, n1 := 8, st1 := 32 }
  | .TGT_STACK => { base := 0x2A0400, n1 := 8, st1 := 64, n2 := 16, st2 := 4, rsv := 0x7800F0C0 }
  | .EV_PEND => { base := 0x2A0800, n1 := 64, st1 := 4 }
  | .ATT_RX => { base := 0x2A1000, n1 := 256, st1 := 4, rw := 0x80000FFF, rsv := 0x7FFFF000 }
  | .ATT_TX => { base := 0x2A1400, n1 := 256, st1 := 4, rw := 0x80000FFF, rsv := 0x7FFFF000 }
  | .ATT_CG => { base := 0x2A1800, n1 := 8, st1 := 4, rw := 0x80000FFF, rsv := 0x7FFFF000 }
  | .EV_CFG => { base := 0x2A2000, n1 := 1792, st1 := 4, rw := 0x830F073F, rsv := 0xF0F8C0, reset := 0xF0000 }
  | .EV_OCFG => { base := 0x2A3C00, n1 := 256, st1 := 4, rw := 0x830F073F, rsv := 0xF0F8C0, reset := 0x10F0000 }
  | .MSIX_LO => { base := 0x2A8000, n1 := 64, st1 := 16, rw := 0xFFFFFFFC, rsv := 3 }
  | .MSIX_HI => { base := 0x2A8004, n1 := 64, st1 := 16, rw := 0xFFFFFFFF }
  | .MSIX_DATA => { base := 0x2A8008, n1 := 64, st1 := 16, rw := 0xFFFFFFFF }
  | .MSIX_CTRL => { base := 0x2A800C, n1 := 64, st1 := 16, rw := 1, rsv := 0xFFFFFFFE, reset := 1 }
  | .MSIX_PBA => { base := 0x2A9000, n1 := 2, st1 := 4 }
  | .SES_EVENT => { base := 0x2C0000, w1c := 7, rsv := 0xFFFFFFF8 }
  | .SES_NET => { base := 0x2C0004, rw := 0xFFFF0FFF, rsv := 0xF000, reset := 0xBAC20001, ranges := [(16, 16, 1,
                    65535), (0, 12, 1, 4094)] }
  | .SES_CFG => { base := 0x2C0008, rw := 0xF0000FFF, rsv := 0xFFFF000, reset := 0xF000003C, ranges := [(0, 12, 10,
                    3600)] }
  | .SES_IP4 => { base := 0x2C000C, rw := 0xFFFFFFFF }
  | .SES_IP6 => { base := 0x2C0010, n1 := 4, st1 := 4, rw := 0xFFFFFFFF }
  | .SES_MBOX => { base := 0x2C0020, rw := 0x8FFF0FFF, rsv := 0x7000F000 }
  | .SES_KEYS => { base := 0x2C0024, rw := 0x70, rsv := 0xFFFFFF88, reset := 0x70, lock := some 4 }
  | .SES_CNT => { base := 0x2C0028 }
  | .SES_CNT2 => { base := 0x2C002C, rsv := 0xFFFF0000 }
  | .SES_CMD_ARG => { base := 0x2C0030, rw := 0xF, rsv := 0xFFFFFFF0 }
  | .SES_CMD => { base := 0x2C0034, wo := 3, rsv := 0xFFFFFFFC }
  | .SS_W0 => { base := 0x2C0100, n1 := 16, st1 := 32, rsv := 0xFFFF000 }
  | .SS_W1 => { base := 0x2C0104, n1 := 16, st1 := 32 }
  | .SS_W2 => { base := 0x2C0108, n1 := 16, st1 := 32 }
  | .SS_W3 => { base := 0x2C010C, n1 := 16, st1 := 32 }
  | .SS_W4 => { base := 0x2C0110, n1 := 16, st1 := 32 }
  | .SS_W5 => { base := 0x2C0114, n1 := 16, st1 := 32, rsv := 0xFFFF }
  | .SES_SUB => { base := 0x2C0400, n1 := 16, st1 := 256, n2 := 64, st2 := 4 }
  | .PR_EVENT => { base := 0x2E0000, w1c := 0x1FF, rsv := 0xFFFFFE00 }
  | .PR_CFG => { base := 0x2E0004, rw := 0xE0000FFF, rsv := 0x1FFFF000, reset := 0x2000003C, ranges := [(30, 2, 0,
                   2), (0, 12, 0, 3600)], posted := true, lock := some 3 }
  | .PR_STATUS => { base := 0x2E0008, rsv := 0xC000 }
  | .PR_WTR => { base := 0x2E000C, rsv := 0xFFFFF000 }
  | .PR_CNT => { base := 0x2E0010 }
  | .PR_CNT2 => { base := 0x2E0014 }
  | .PR_WIT_ID => { base := 0x2E0018 }
  | .PR_PEER_DIG => { base := 0x2E001C }
  | .PR_LAST_HI => { base := 0x2E0020 }
  | .PR_LAST_LO => { base := 0x2E0024 }
  | .PR_LINING => { base := 0x2E0028, rsv := 0x7FFF0000 }
  | .PR_TBERR => { base := 0x2E002C }
  | .PR_CMD => { base := 0x2E0030, wo := 7, rsv := 0xFFFFFFF8 }
  | .WIT_STATUS => { base := 0x2E0100, rsv := 0x7FF0000 }
  | .WIT_CNT => { base := 0x2E0104 }
  | .WIT_MOVES => { base := 0x2E0108 }
  | .SAF_EVENT => { base := 0x300000, w1c := 0x3F, rsv := 0xFFFFFFC0 }
  | .SAF_STATUS => { base := 0x300004, rsv := 0x1FFF0000 }
  | .SAF_SAFE => { base := 0x300008, rsv := 0xFFFC0000 }
  | .SAF_CFG => { base := 0x30000C, rw := 0xFF00FFFF, rsv := 0xFF0000, reset := 0x64000064, ranges := [(24, 8, 70,
                    105), (0, 16, 1, 65535)], posted := true }
  | .SAF_VMON => { base := 0x300010 }
  | .SAF_ECC => { base := 0x300014 }
  | .SAF_DIGEST => { base := 0x300018 }
  | .SAF_CMD => { base := 0x30001C, wo := 3, rsv := 0xFFFFFFFC }
  | .SAF_INJECT => { base := 0x300020, wo := 0xFFFF00FF, rsv := 0xFF00 }
  | .FLT_HEAD => { base := 0x300024, rsv := 0xFFC0 }
  | .FLT_W0 => { base := 0x301000, n1 := 64, st1 := 16, rsv := 0x10000 }
  | .FLT_W1 => { base := 0x301004, n1 := 64, st1 := 16 }
  | .FLT_W2 => { base := 0x301008, n1 := 64, st1 := 16 }
  | .FLT_W3 => { base := 0x30100C, n1 := 64, st1 := 16 }
  | .PL_EVENT => { base := 0x380000, w1c := 0x1F, rsv := 0xFFFFFFE0 }
  | .PL_STATUS => { base := 0x380004, rsv := 0xFFFF }
  | .PL_SEQ_A => { base := 0x380008 }
  | .PL_SEQ_B => { base := 0x38000C }
  | .PL_DIGEST => { base := 0x380010, n1 := 8, st1 := 4 }
  | .PL_REJ => { base := 0x380030, rsv := 0xFFFF0000 }
  | .PL_FIRST_REJ => { base := 0x380034, rsv := 0x400000 }
  | .PL_TIME => { base := 0x380038 }
  | .PL_SPI => { base := 0x38003C, rsv := 0xFCFE00 }
  | .PL_CMD => { base := 0x380040, wo := 3, rsv := 0xFFFFFFFC }

/-- Registers of the block at 0x0000_0000 (R356). -/
def regs_glb : List Reg :=
  [.DEV_ID, .GLB_STEP, .GLB_STATUS, .GLB_EVENT, .REG_WSTATUS, .REG_WERROR, .REG_WERRCNT, .REG_BUSY, .GLB_LOCK,
   .GLB_CMD, .GLB_RESET, .CFG_PAR_ADDR, .SCRUB_CNT, .UID_HI, .UID_LO]

/-- Registers of the block at 0x0001_0000 (R356). -/
def regs_fab : List Reg :=
  [.FAB_STATUS, .FAB_VCORE, .FAB_VCAP, .FAB_VHOLD, .FAB_RESERVE0, .FAB_DEMAND, .FAB_DEMAND_C, .FAB_GUAR, .FAB_LIMIT,
   .FAB_PACE, .FAB_SLACK_MIN, .FAB_CMD, .FAB_EVENT, .FAB_FENCE_MISS_CNT, .FAB_PACE_FAULT_CNT, .ADM_RESULT,
   .ADM_SEQ_LAST, .SHED_HEAD, .FAB_TRIM, .FAB_NEEDLE, .SHED_LOG_W0, .SHED_LOG_W1]

/-- Registers of the block at 0x0002_0000 (R356). -/
def regs_tb : List Reg :=
  [.TB_EVENT, .TB_CMD_ARG, .TB_CMD, .TC_CTRL, .TC_NOFIX_CNT, .TS_RX_FIX, .TS_TX_FIX, .PHY_LAT, .LINK_DELAY, .TB_CTRL,
   .TB_VLAN, .TB_DS, .TB_DS2, .TB_INTV, .TB_SERVO, .TB_JTHR, .TB_UTC, .TB_STATUS, .TB_GM_UTC, .TB_GM_ID_HI,
   .TB_GM_ID_LO, .TB_CLK_ID_HI, .TB_CLK_ID_LO, .TB_OFS_HI, .TB_OFS_LO, .TB_MPD, .TB_FREQ, .TB_PEND_HI, .TB_PEND_LO,
   .TB_STEP_HI, .TB_STEP_LO, .STEP_TACK, .TB_ACC_HI, .TB_ACC_LO, .TB_TNS_HI, .TB_TNS_LO, .SNAP_SEC_HI, .SNAP_SEC_LO,
   .SNAP_NS, .SNAP_FRAC, .TB_SNAP_TNS_HI, .TB_SNAP_TNS_LO, .TB_CNT]

/-- Registers of the block at 0x0003_0000 (R356). -/
def regs_ref : List Reg :=
  [.REF_EVENT, .REF_CMD_ARG, .REF_CMD, .REF_TCXO, .REF_CFG, .REF_NUM, .REF_OFS, .QL_W0, .QL_W1, .QL_W2, .QL_W3,
   .MC_CTRL, .MC_PULL, .MC_LOCK, .MC_HO, .MC_HO_ERR, .MC_OFS, .MC_SW_PS, .MC_TBL, .MC_STATUS, .MC_PHASE, .MC_FREQ_HI,
   .MC_FREQ_LO, .MC_SW_FREQ_HI, .MC_SW_FREQ_LO, .MC_HO_FREQ_HI, .MC_HO_FREQ_LO, .MC_HO_EST, .MC_HO_TIME, .MC_LOCKED,
   .MC_CNT, .MC_C1, .MC_C2, .MC_C3, .MC_AGE, .MC_TAVG]

/-- Registers of the block at 0x0004_0000 (R356). -/
def regs_syn : List Reg :=
  [.SYN_EVENT, .SYN_CMD_ARG, .SYN_CMD, .SYN_LOCK, .SYN_LOL, .SYN_MAP, .SY_STATUS, .SY_PHERR, .SY_CNT, .MCK_CFG,
   .PLS_CFG, .PLS_OFS, .PLS_WIDTH, .PLS_TOL, .PLS_ERR, .PLS_CNT]

/-- Registers of the block at 0x0005_0000 (R356). -/
def regs_ln : List Reg :=
  [.LN_EVENT, .LN_FRAME, .CG_FMT, .CG_TIMING, .CG_ACC, .CG_CTRL, .CG_STATUS, .CG_PHASE, .CG_CNT_A, .CG_CNT_B,
   .CG_CMD, .LANE_DIR, .HOST_IN, .HOST_OUT, .HOST_STAT, .HOST_CMD, .HOST_MAP, .SLOT_MAP]

/-- Registers of the block at 0x0006_0000 (R356). -/
def regs_sw : List Reg :=
  [.SW_EVENT, .SW_CFG, .SW_CMD, .SW_MACW, .PORT_CTRL, .PORT_STATUS, .PORT_VLAN, .PORT_PCPMAP, .CBS_A, .CBS_B,
   .GATE_CTRL, .GATE_CYCLE, .GATE_BASE_HI, .GATE_BASE_LO, .GATE_BASE_NS, .GATE_STATUS, .PORT_CMD, .RX_FRAMES_LO,
   .RX_FRAMES_HI, .TX_FRAMES_LO, .TX_FRAMES_HI, .RX_OCTETS_LO, .RX_OCTETS_HI, .TX_OCTETS_LO, .TX_OCTETS_HI, .RX_FCS,
   .RX_DROP, .TX_GATE_DROP, .TX_FLUSH, .QDROP, .VLAN, .GATE_ADM_W0, .GATE_ADM_W1, .GATE_OPER_W0, .GATE_OPER_W1,
   .MAC_W0, .MAC_W1, .MAC_W2, .MAC_W3]

/-- Registers of the block at 0x0008_0000 (R356). -/
def regs_str : List Reg :=
  [.STR_EVENT, .STR_CMD_ARG, .STR_CMD, .STR_CAP, .STR_NOMATCH, .RX_W0, .RX_W1, .RX_W2, .RX_W3, .RX_W4, .RX_DST_A,
   .RX_SRC_A, .RX_DST_B, .RX_SRC_B, .RX_W24, .RX_W25, .TX_W0, .TX_W1, .TX_W2, .TX_W3, .TX_W4, .TX_W5, .TX_W6, .TX_W7,
   .TX_DST_A, .TX_DST_B, .TX_SRC_A, .TX_SRC_B, .TX_DMAC_A_HI, .TX_DMAC_A_LO, .TX_DMAC_B_HI, .TX_DMAC_B_LO, .TX_W28,
   .RXC, .TXC_W0, .TXC_W1, .TXC_W2, .TXC_W3, .HK_W0, .HK_W1, .TX_MAP, .TX_CS0, .TX_CS]

/-- Registers of the block at 0x0010_0000 (R356). -/
def regs_mix : List Reg :=
  [.MIX_STITCH_LO, .MIX_STITCH_HI, .MIX_RAMP_DEF, .MIX_KEY_RAMP, .MIX_EVENT, .MIX_REFUSE, .BS_CMD, .BS_STATUS,
   .BS_REC, .BS_RESULT, .BS_SKIP, .BS_STITCH_LO, .BS_STITCH_HI, .SRC_W0, .SRC_W1, .DST_W0, .DST_W1, .DST_W2, .DST_W3,
   .BUS_W0, .BUS_W1, .LST_W0, .LST_W1, .LST_W2, .LST_W3, .TALK_W0, .TALK_W1, .SUB, .XP_W0, .XP_W1]

/-- Registers of the block at 0x0020_0000 (R356). -/
def regs_dyn : List Reg :=
  [.DYN_EVENT, .DYN_CMD_ARG, .DYN_CMD, .SCH_W0, .SCH_W1, .SCH_W2, .SCH_W3, .HEM_W0, .HEM_W1, .HEM_W2, .HEM_W3,
   .MTR_W0, .MTR_W1, .MTR_W2, .MTR_W3, .VOX_W0, .VOX_W1, .VOX_STATE]

/-- Registers of the block at 0x0024_0000 (R356). -/
def regs_rb : List Reg :=
  [.RB_EVENT, .RB_CMD_ARG, .RB_CMD, .RB_SEAM_CFG, .SM_W0, .SM_W1, .SM_W2, .SM_W3, .SC_W0, .SC_W1]

/-- Registers of the block at 0x0026_0000 (R356). -/
def regs_cio : List Reg :=
  [.CIO_EVENT, .CIO_CMD_ARG, .CIO_CMD, .CIO_SOFT, .GP_LEVEL, .GP_OUT, .SE_LAST, .GP_CFG, .GP_TACK, .GP_CNT, .CO_CFG,
   .CO_STATUS, .CR_W0, .CR_W1, .CR_W2, .CR_W3, .CR_W4, .CR_W5, .CR_W6, .CR_W7, .SE_W0, .SE_W1, .SE_W2, .SE_W3,
   .SE_W4, .SE_W5]

/-- Registers of the block at 0x0028_0000 (R356). -/
def regs_spl : List Reg :=
  [.SPL_EVENT, .SPL_STORE, .SPL_FREE, .SPL_CMD_ARG, .SPL_CMD, .SPL_STALL, .SP_W0, .SP_W1, .SP_W2, .SP_W3]

/-- Registers of the block at 0x002A_0000 (R356). -/
def regs_evt : List Reg :=
  [.EVT_EVENT, .EVT_CMD_ARG, .EVT_CMD, .EV_GRP, .EV_GSTAT, .EV_HGRP, .TGT_CTRL, .TGT_EOI, .TGT_STATUS, .TGT_CNT,
   .TGT_DELIV, .TGT_STACK, .EV_PEND, .ATT_RX, .ATT_TX, .ATT_CG, .EV_CFG, .EV_OCFG, .MSIX_LO, .MSIX_HI, .MSIX_DATA,
   .MSIX_CTRL, .MSIX_PBA]

/-- Registers of the block at 0x002C_0000 (R356). -/
def regs_ses : List Reg :=
  [.SES_EVENT, .SES_NET, .SES_CFG, .SES_IP4, .SES_IP6, .SES_MBOX, .SES_KEYS, .SES_CNT, .SES_CNT2, .SES_CMD_ARG,
   .SES_CMD, .SS_W0, .SS_W1, .SS_W2, .SS_W3, .SS_W4, .SS_W5, .SES_SUB]

/-- Registers of the block at 0x002E_0000 (R356). -/
def regs_pr : List Reg :=
  [.PR_EVENT, .PR_CFG, .PR_STATUS, .PR_WTR, .PR_CNT, .PR_CNT2, .PR_WIT_ID, .PR_PEER_DIG, .PR_LAST_HI, .PR_LAST_LO,
   .PR_LINING, .PR_TBERR, .PR_CMD, .WIT_STATUS, .WIT_CNT, .WIT_MOVES]

/-- Registers of the block at 0x0030_0000 (R356). -/
def regs_saf : List Reg :=
  [.SAF_EVENT, .SAF_STATUS, .SAF_SAFE, .SAF_CFG, .SAF_VMON, .SAF_ECC, .SAF_DIGEST, .SAF_CMD, .SAF_INJECT, .FLT_HEAD,
   .FLT_W0, .FLT_W1, .FLT_W2, .FLT_W3]

/-- Registers of the block at 0x0038_0000 (R356). -/
def regs_pl : List Reg :=
  [.PL_EVENT, .PL_STATUS, .PL_SEQ_A, .PL_SEQ_B, .PL_DIGEST, .PL_REJ, .PL_FIRST_REJ, .PL_TIME, .PL_SPI, .PL_CMD]

/-- The registers of the block that holds a BAR0 offset (Table 16-1). -/
def regsAt (off : Nat) : List Reg :=
  if off < 0x10000 then regs_glb
  else if off < 0x20000 then regs_fab
  else if off < 0x30000 then regs_tb
  else if off < 0x40000 then regs_ref
  else if off < 0x50000 then regs_syn
  else if off < 0x60000 then regs_ln
  else if off < 0x80000 then regs_sw
  else if off < 0x100000 then regs_str
  else if off < 0x200000 then regs_mix
  else if off < 0x240000 then regs_dyn
  else if off < 0x260000 then regs_rb
  else if off < 0x280000 then regs_cio
  else if off < 0x2A0000 then regs_spl
  else if off < 0x2C0000 then regs_evt
  else if off < 0x2E0000 then regs_ses
  else if off < 0x300000 then regs_pr
  else if off < 0x380000 then regs_saf
  else if off < 0x400000 then regs_pl
  else []

/-- The array indices under which an offset belongs to a register, if it does. -/
def Desc.index (d : Desc) (off : Nat) : Option (Nat × Nat) :=
  if off < d.base then none
  else
    let x := off - d.base
    let i := if d.n1 = 1 then 0 else x / d.st1
    let y := if d.n1 = 1 then x else x % d.st1
    let j := if d.n2 = 1 then 0 else y / d.st2
    let z := if d.n2 = 1 then y else y % d.st2
    if i < d.n1 ∧ j < d.n2 ∧ z = 0 then some (i, j) else none

/-- The first register of a list that an offset belongs to. -/
def findIn : List Reg → Nat → Option (Reg × Nat × Nat)
  | [], _ => none
  | r :: rs, off =>
    match (desc r).index off with
    | some (i, j) => some (r, i, j)
    | none => findIn rs off

/-- The register at a BAR0 byte offset, with its indices; none for a reserved address (R356). -/
def findReg (off : Nat) : Option (Reg × Nat × Nat) := if off % 4 = 0 then findIn (regsAt off) off else none

/-- The BAR0 byte offset of a register. -/
def addr (r : Reg) (i : Nat := 0) (j : Nat := 0) : Nat := (desc r).base + i * (desc r).st1 + j * (desc r).st2

/-- A named field of a register: its low bit and width. -/
structure Fd where
  reg : Reg
  lo : Nat
  n : Nat
  deriving DecidableEq, Repr

def Fd.GLB_RESET_KEY : Fd := ⟨.GLB_RESET, 16, 16⟩
def Fd.GLB_RESET_FULL : Fd := ⟨.GLB_RESET, 1, 1⟩
def Fd.GLB_RESET_CFG : Fd := ⟨.GLB_RESET, 0, 1⟩
def Fd.FAB_VCAP_CAP : Fd := ⟨.FAB_VCAP, 0, 7⟩
def Fd.FAB_VHOLD_HOLD_S : Fd := ⟨.FAB_VHOLD, 0, 10⟩
def Fd.FAB_RESERVE0_RES0 : Fd := ⟨.FAB_RESERVE0, 0, 22⟩
def Fd.TB_CMD_ARG_TB : Fd := ⟨.TB_CMD_ARG, 0, 2⟩
def Fd.TC_CTRL_P2P_DOMAIN : Fd := ⟨.TC_CTRL, 16, 8⟩
def Fd.TC_CTRL_TC_MODE : Fd := ⟨.TC_CTRL, 0, 8⟩
def Fd.PHY_LAT_PHY_TX : Fd := ⟨.PHY_LAT, 16, 16⟩
def Fd.PHY_LAT_PHY_RX : Fd := ⟨.PHY_LAT, 0, 16⟩
def Fd.TB_CTRL_EN : Fd := ⟨.TB_CTRL, 31, 1⟩
def Fd.TB_CTRL_PROFILE : Fd := ⟨.TB_CTRL, 28, 3⟩
def Fd.TB_CTRL_ROLE : Fd := ⟨.TB_CTRL, 26, 2⟩
def Fd.TB_CTRL_TRANSPORT : Fd := ⟨.TB_CTRL, 24, 2⟩
def Fd.TB_CTRL_TWO_STEP : Fd := ⟨.TB_CTRL, 23, 1⟩
def Fd.TB_CTRL_INIT_AUTO : Fd := ⟨.TB_CTRL, 22, 1⟩
def Fd.TB_CTRL_PORT : Fd := ⟨.TB_CTRL, 16, 3⟩
def Fd.TB_CTRL_DOMAIN : Fd := ⟨.TB_CTRL, 8, 8⟩
def Fd.TB_VLAN_PCP : Fd := ⟨.TB_VLAN, 12, 3⟩
def Fd.TB_VLAN_VID : Fd := ⟨.TB_VLAN, 0, 12⟩
def Fd.TB_DS_PRIORITY1 : Fd := ⟨.TB_DS, 24, 8⟩
def Fd.TB_DS_PRIORITY2 : Fd := ⟨.TB_DS, 16, 8⟩
def Fd.TB_DS_CLASS : Fd := ⟨.TB_DS, 8, 8⟩
def Fd.TB_DS_ACCURACY : Fd := ⟨.TB_DS, 0, 8⟩
def Fd.TB_DS2_VARIANCE : Fd := ⟨.TB_DS2, 16, 16⟩
def Fd.TB_DS2_TIME_SOURCE : Fd := ⟨.TB_DS2, 8, 8⟩
def Fd.TB_INTV_LOG_SYNC : Fd := ⟨.TB_INTV, 24, 8⟩
def Fd.TB_INTV_LOG_ANN : Fd := ⟨.TB_INTV, 16, 8⟩
def Fd.TB_INTV_LOG_DELAY : Fd := ⟨.TB_INTV, 8, 8⟩
def Fd.TB_INTV_ANN_TO : Fd := ⟨.TB_INTV, 0, 8⟩
def Fd.TB_SERVO_AUTO_STEP : Fd := ⟨.TB_SERVO, 31, 1⟩
def Fd.TB_SERVO_PERSIST : Fd := ⟨.TB_SERVO, 16, 12⟩
def Fd.TB_SERVO_MAX_SLEW : Fd := ⟨.TB_SERVO, 0, 9⟩
def Fd.TB_JTHR_JTHR : Fd := ⟨.TB_JTHR, 0, 30⟩
def Fd.TB_UTC_PTP_TIMESCALE : Fd := ⟨.TB_UTC, 19, 1⟩
def Fd.TB_UTC_UTC_VALID : Fd := ⟨.TB_UTC, 18, 1⟩
def Fd.TB_UTC_LEAP59 : Fd := ⟨.TB_UTC, 17, 1⟩
def Fd.TB_UTC_LEAP61 : Fd := ⟨.TB_UTC, 16, 1⟩
def Fd.TB_UTC_UTC_OFFSET : Fd := ⟨.TB_UTC, 0, 16⟩
def Fd.REF_CMD_ARG_MC : Fd := ⟨.REF_CMD_ARG, 0, 2⟩
def Fd.REF_CFG_KIND : Fd := ⟨.REF_CFG, 29, 3⟩
def Fd.REF_CFG_EDGE : Fd := ⟨.REF_CFG, 28, 1⟩
def Fd.REF_CFG_RATE : Fd := ⟨.REF_CFG, 24, 4⟩
def Fd.REF_CFG_DEN : Fd := ⟨.REF_CFG, 23, 1⟩
def Fd.REF_NUM_NUM : Fd := ⟨.REF_NUM, 0, 27⟩
def Fd.REF_OFS_OFS : Fd := ⟨.REF_OFS, 0, 32⟩
def Fd.QL_W0_HARD : Fd := ⟨.QL_W0, 16, 11⟩
def Fd.QL_W0_SOFT : Fd := ⟨.QL_W0, 0, 11⟩
def Fd.QL_W1_QTIME : Fd := ⟨.QL_W1, 22, 10⟩
def Fd.QL_W1_JUMP : Fd := ⟨.QL_W1, 0, 17⟩
def Fd.MC_CTRL_REVERT : Fd := ⟨.MC_CTRL, 31, 1⟩
def Fd.MC_CTRL_SW : Fd := ⟨.MC_CTRL, 30, 1⟩
def Fd.MC_CTRL_FAMILY : Fd := ⟨.MC_CTRL, 29, 1⟩
def Fd.MC_CTRL_MTB : Fd := ⟨.MC_CTRL, 27, 2⟩
def Fd.MC_CTRL_WTR : Fd := ⟨.MC_CTRL, 0, 12⟩
def Fd.MC_PULL_PULL : Fd := ⟨.MC_PULL, 16, 10⟩
def Fd.MC_PULL_GRID_MAX : Fd := ⟨.MC_PULL, 0, 10⟩
def Fd.MC_LOCK_LOCK_WIN : Fd := ⟨.MC_LOCK, 16, 16⟩
def Fd.MC_LOCK_LOCK_TIME : Fd := ⟨.MC_LOCK, 0, 10⟩
def Fd.MC_HO_HO_WIN : Fd := ⟨.MC_HO, 20, 12⟩
def Fd.MC_HO_HO_GUARD : Fd := ⟨.MC_HO, 14, 6⟩
def Fd.MC_HO_HO_MAX : Fd := ⟨.MC_HO, 0, 14⟩
def Fd.MC_HO_ERR_HO_ERR_MAX : Fd := ⟨.MC_HO_ERR, 0, 30⟩
def Fd.MC_OFS_MOFS : Fd := ⟨.MC_OFS, 0, 32⟩
def Fd.MC_SW_PS_SW_PS : Fd := ⟨.MC_SW_PS, 0, 32⟩
def Fd.MC_TBL_KIND : Fd := ⟨.MC_TBL, 8, 3⟩
def Fd.MC_TBL_INDEX : Fd := ⟨.MC_TBL, 0, 8⟩
def Fd.MC_SW_FREQ_HI_SW_FREQ : Fd := ⟨.MC_SW_FREQ_HI, 0, 32⟩
def Fd.MC_SW_FREQ_LO_SW_FREQ : Fd := ⟨.MC_SW_FREQ_LO, 0, 32⟩
def Fd.SYN_CMD_ARG_SY : Fd := ⟨.SYN_CMD_ARG, 0, 3⟩
def Fd.SYN_LOCK_LOCK_N : Fd := ⟨.SYN_LOCK, 16, 11⟩
def Fd.SYN_LOCK_LOCK_WIN : Fd := ⟨.SYN_LOCK, 0, 7⟩
def Fd.SYN_LOL_LOL_WIN : Fd := ⟨.SYN_LOL, 0, 9⟩
def Fd.MCK_CFG_EN : Fd := ⟨.MCK_CFG, 31, 1⟩
def Fd.MCK_CFG_SRC : Fd := ⟨.MCK_CFG, 4, 2⟩
def Fd.MCK_CFG_FAM : Fd := ⟨.MCK_CFG, 2, 1⟩
def Fd.MCK_CFG_MULT : Fd := ⟨.MCK_CFG, 0, 2⟩
def Fd.PLS_CFG_EN : Fd := ⟨.PLS_CFG, 31, 1⟩
def Fd.PLS_CFG_POL : Fd := ⟨.PLS_CFG, 30, 1⟩
def Fd.PLS_CFG_MC : Fd := ⟨.PLS_CFG, 20, 2⟩
def Fd.PLS_CFG_SRCKIND : Fd := ⟨.PLS_CFG, 18, 1⟩
def Fd.PLS_CFG_INDEX : Fd := ⟨.PLS_CFG, 16, 2⟩
def Fd.PLS_OFS_OFS : Fd := ⟨.PLS_OFS, 0, 32⟩
def Fd.PLS_WIDTH_WIDTH : Fd := ⟨.PLS_WIDTH, 0, 17⟩
def Fd.PLS_TOL_TOL : Fd := ⟨.PLS_TOL, 0, 20⟩
def Fd.CG_FMT_FMT : Fd := ⟨.CG_FMT, 28, 2⟩
def Fd.CG_FMT_WIDTH : Fd := ⟨.CG_FMT, 26, 2⟩
def Fd.CG_FMT_SLOTS : Fd := ⟨.CG_FMT, 16, 6⟩
def Fd.CG_FMT_RATE : Fd := ⟨.CG_FMT, 12, 4⟩
def Fd.CG_FMT_FSY_SRC : Fd := ⟨.CG_FMT, 11, 1⟩
def Fd.CG_FMT_FSY_POL : Fd := ⟨.CG_FMT, 10, 1⟩
def Fd.CG_FMT_BCK_EDGE : Fd := ⟨.CG_FMT, 9, 1⟩
def Fd.CG_FMT_DELAY : Fd := ⟨.CG_FMT, 8, 1⟩
def Fd.CG_FMT_MCB : Fd := ⟨.CG_FMT, 0, 4⟩
def Fd.CG_TIMING_STABLE : Fd := ⟨.CG_TIMING, 16, 13⟩
def Fd.CG_TIMING_TOL : Fd := ⟨.CG_TIMING, 0, 15⟩
def Fd.CG_ACC_ACC : Fd := ⟨.CG_ACC, 0, 9⟩
def Fd.CG_CTRL_EN : Fd := ⟨.CG_CTRL, 0, 1⟩
def Fd.LANE_DIR_DIR : Fd := ⟨.LANE_DIR, 0, 2⟩
def Fd.HOST_IN_EN : Fd := ⟨.HOST_IN, 31, 1⟩
def Fd.HOST_IN_PACK : Fd := ⟨.HOST_IN, 20, 2⟩
def Fd.HOST_IN_CHANS : Fd := ⟨.HOST_IN, 12, 7⟩
def Fd.HOST_IN_SPOOL : Fd := ⟨.HOST_IN, 0, 12⟩
def Fd.HOST_OUT_EN : Fd := ⟨.HOST_OUT, 31, 1⟩
def Fd.HOST_OUT_BLOCKS : Fd := ⟨.HOST_OUT, 24, 7⟩
def Fd.HOST_OUT_PACK : Fd := ⟨.HOST_OUT, 20, 2⟩
def Fd.HOST_OUT_CHANS : Fd := ⟨.HOST_OUT, 12, 7⟩
def Fd.HOST_OUT_SPOOL : Fd := ⟨.HOST_OUT, 0, 12⟩
def Fd.HOST_MAP_DST : Fd := ⟨.HOST_MAP, 0, 16⟩
def Fd.SLOT_MAP_DST : Fd := ⟨.SLOT_MAP, 0, 16⟩
def Fd.SW_CFG_AGEING : Fd := ⟨.SW_CFG, 16, 10⟩
def Fd.SW_CFG_MAXFRAME : Fd := ⟨.SW_CFG, 0, 14⟩
def Fd.SW_MACW_WORD : Fd := ⟨.SW_MACW, 0, 32⟩
def Fd.PORT_CTRL_EN : Fd := ⟨.PORT_CTRL, 31, 1⟩
def Fd.PORT_CTRL_FEC_ADV : Fd := ⟨.PORT_CTRL, 4, 1⟩
def Fd.PORT_CTRL_KX_ADV : Fd := ⟨.PORT_CTRL, 3, 1⟩
def Fd.PORT_CTRL_MODE : Fd := ⟨.PORT_CTRL, 0, 3⟩
def Fd.PORT_VLAN_ACCEPT : Fd := ⟨.PORT_VLAN, 30, 2⟩
def Fd.PORT_VLAN_DEF_PCP : Fd := ⟨.PORT_VLAN, 24, 3⟩
def Fd.PORT_VLAN_PVID : Fd := ⟨.PORT_VLAN, 0, 12⟩
def Fd.PORT_PCPMAP_MAP : Fd := ⟨.PORT_PCPMAP, 0, 24⟩
def Fd.CBS_A_EN : Fd := ⟨.CBS_A, 31, 1⟩
def Fd.CBS_A_QUEUE : Fd := ⟨.CBS_A, 16, 3⟩
def Fd.CBS_A_IDLE : Fd := ⟨.CBS_A, 0, 16⟩
def Fd.CBS_B_EN : Fd := ⟨.CBS_B, 31, 1⟩
def Fd.CBS_B_QUEUE : Fd := ⟨.CBS_B, 16, 3⟩
def Fd.CBS_B_IDLE : Fd := ⟨.CBS_B, 0, 16⟩
def Fd.GATE_CTRL_EN : Fd := ⟨.GATE_CTRL, 31, 1⟩
def Fd.GATE_CTRL_TB : Fd := ⟨.GATE_CTRL, 8, 2⟩
def Fd.GATE_CTRL_LEN : Fd := ⟨.GATE_CTRL, 0, 7⟩
def Fd.GATE_CYCLE_CYCLE : Fd := ⟨.GATE_CYCLE, 0, 30⟩
def Fd.GATE_BASE_HI_SEC_HI : Fd := ⟨.GATE_BASE_HI, 0, 16⟩
def Fd.GATE_BASE_LO_SEC_LO : Fd := ⟨.GATE_BASE_LO, 0, 32⟩
def Fd.GATE_BASE_NS_NS : Fd := ⟨.GATE_BASE_NS, 0, 30⟩
def Fd.VLAN_VALID : Fd := ⟨.VLAN, 31, 1⟩
def Fd.VLAN_FLOOD_MC : Fd := ⟨.VLAN, 30, 1⟩
def Fd.VLAN_VID : Fd := ⟨.VLAN, 16, 12⟩
def Fd.VLAN_MEMBER : Fd := ⟨.VLAN, 8, 5⟩
def Fd.VLAN_UNTAG : Fd := ⟨.VLAN, 0, 5⟩
def Fd.GATE_ADM_W0_STATES : Fd := ⟨.GATE_ADM_W0, 0, 8⟩
def Fd.GATE_ADM_W1_INTERVAL : Fd := ⟨.GATE_ADM_W1, 0, 30⟩
def Fd.STR_CMD_ARG_CLASS : Fd := ⟨.STR_CMD_ARG, 28, 2⟩
def Fd.STR_CMD_ARG_INDEX : Fd := ⟨.STR_CMD_ARG, 0, 8⟩
def Fd.RX_W0_FORMAT : Fd := ⟨.RX_W0, 24, 4⟩
def Fd.RX_W0_RATE : Fd := ⟨.RX_W0, 20, 4⟩
def Fd.RX_W0_TIMING : Fd := ⟨.RX_W0, 18, 2⟩
def Fd.RX_W0_TB : Fd := ⟨.RX_W0, 16, 2⟩
def Fd.RX_W0_ACR_REF : Fd := ⟨.RX_W0, 15, 1⟩
def Fd.RX_W0_ACR_MODE : Fd := ⟨.RX_W0, 14, 1⟩
def Fd.RX_W0_CHANS : Fd := ⟨.RX_W0, 0, 7⟩
def Fd.RX_W1_OFFSET : Fd := ⟨.RX_W1, 16, 11⟩
def Fd.RX_W1_PT : Fd := ⟨.RX_W1, 8, 7⟩
def Fd.RX_W1_HANK_EN : Fd := ⟨.RX_W1, 7, 1⟩
def Fd.RX_W1_HANK : Fd := ⟨.RX_W1, 0, 6⟩
def Fd.RX_W2_LEGS : Fd := ⟨.RX_W2, 30, 2⟩
def Fd.RX_W2_PORT : Fd := ⟨.RX_W2, 27, 3⟩
def Fd.RX_W2_IPV6 : Fd := ⟨.RX_W2, 26, 1⟩
def Fd.RX_W2_SRCF_A : Fd := ⟨.RX_W2, 25, 1⟩
def Fd.RX_W2_SRCF_B : Fd := ⟨.RX_W2, 24, 1⟩
def Fd.RX_W2_VID_A : Fd := ⟨.RX_W2, 12, 12⟩
def Fd.RX_W2_VID_B : Fd := ⟨.RX_W2, 0, 12⟩
def Fd.RX_W3_UDP_A : Fd := ⟨.RX_W3, 16, 16⟩
def Fd.RX_W3_UDP_B : Fd := ⟨.RX_W3, 0, 16⟩
def Fd.RX_W4_RTP_OFFSET : Fd := ⟨.RX_W4, 0, 32⟩
def Fd.RX_DST_A_DST_A : Fd := ⟨.RX_DST_A, 0, 32⟩
def Fd.RX_SRC_A_SRC_A : Fd := ⟨.RX_SRC_A, 0, 32⟩
def Fd.RX_DST_B_DST_B : Fd := ⟨.RX_DST_B, 0, 32⟩
def Fd.RX_SRC_B_SRC_B : Fd := ⟨.RX_SRC_B, 0, 32⟩
def Fd.TX_W0_FORMAT : Fd := ⟨.TX_W0, 24, 4⟩
def Fd.TX_W0_RATE : Fd := ⟨.TX_W0, 20, 4⟩
def Fd.TX_W0_PTIME : Fd := ⟨.TX_W0, 17, 3⟩
def Fd.TX_W0_JUMBO : Fd := ⟨.TX_W0, 16, 1⟩
def Fd.TX_W0_ING_MODE : Fd := ⟨.TX_W0, 15, 1⟩
def Fd.TX_W0_TB : Fd := ⟨.TX_W0, 12, 2⟩
def Fd.TX_W0_CHANS : Fd := ⟨.TX_W0, 0, 7⟩
def Fd.TX_W1_ING : Fd := ⟨.TX_W1, 16, 11⟩
def Fd.TX_W1_PT : Fd := ⟨.TX_W1, 8, 7⟩
def Fd.TX_W1_PCP : Fd := ⟨.TX_W1, 5, 3⟩
def Fd.TX_W2_LEGS : Fd := ⟨.TX_W2, 30, 2⟩
def Fd.TX_W2_PORT : Fd := ⟨.TX_W2, 28, 2⟩
def Fd.TX_W2_IPV6 : Fd := ⟨.TX_W2, 27, 1⟩
def Fd.TX_W2_DSCP : Fd := ⟨.TX_W2, 20, 6⟩
def Fd.TX_W2_TTL : Fd := ⟨.TX_W2, 12, 8⟩
def Fd.TX_W2_VID_A : Fd := ⟨.TX_W2, 0, 12⟩
def Fd.TX_W3_UDP_DST : Fd := ⟨.TX_W3, 16, 16⟩
def Fd.TX_W3_UDP_SRC : Fd := ⟨.TX_W3, 0, 16⟩
def Fd.TX_W4_VID_B : Fd := ⟨.TX_W4, 0, 12⟩
def Fd.TX_W5_SSRC : Fd := ⟨.TX_W5, 0, 32⟩
def Fd.TX_W6_RTP_OFFSET : Fd := ⟨.TX_W6, 0, 32⟩
def Fd.TX_W7_SEQ_BASE : Fd := ⟨.TX_W7, 0, 16⟩
def Fd.TX_DST_A_DST_A : Fd := ⟨.TX_DST_A, 0, 32⟩
def Fd.TX_DST_B_DST_B : Fd := ⟨.TX_DST_B, 0, 32⟩
def Fd.TX_SRC_A_SRC_A : Fd := ⟨.TX_SRC_A, 0, 32⟩
def Fd.TX_SRC_B_SRC_B : Fd := ⟨.TX_SRC_B, 0, 32⟩
def Fd.TX_DMAC_A_HI_MAC : Fd := ⟨.TX_DMAC_A_HI, 0, 16⟩
def Fd.TX_DMAC_A_LO_MAC : Fd := ⟨.TX_DMAC_A_LO, 0, 32⟩
def Fd.TX_DMAC_B_HI_MAC : Fd := ⟨.TX_DMAC_B_HI, 0, 16⟩
def Fd.TX_DMAC_B_LO_MAC : Fd := ⟨.TX_DMAC_B_LO, 0, 32⟩
def Fd.HK_W0_VALID : Fd := ⟨.HK_W0, 31, 1⟩
def Fd.HK_W0_TB : Fd := ⟨.HK_W0, 12, 2⟩
def Fd.HK_W0_OFFSET : Fd := ⟨.HK_W0, 0, 11⟩
def Fd.TX_MAP_DST : Fd := ⟨.TX_MAP, 0, 16⟩
def Fd.TX_CS0_BYTES : Fd := ⟨.TX_CS0, 0, 32⟩
def Fd.TX_CS_BYTES : Fd := ⟨.TX_CS, 0, 32⟩
def Fd.MIX_RAMP_DEF_RAMP : Fd := ⟨.MIX_RAMP_DEF, 0, 11⟩
def Fd.MIX_KEY_RAMP_RAMP : Fd := ⟨.MIX_KEY_RAMP, 0, 11⟩
def Fd.BS_REC_WORD : Fd := ⟨.BS_REC, 0, 32⟩
def Fd.DYN_CMD_ARG_CLASS : Fd := ⟨.DYN_CMD_ARG, 28, 2⟩
def Fd.DYN_CMD_ARG_INDEX : Fd := ⟨.DYN_CMD_ARG, 0, 12⟩
def Fd.SCH_W0_TRIM : Fd := ⟨.SCH_W0, 16, 16⟩
def Fd.SCH_W0_DET : Fd := ⟨.SCH_W0, 9, 1⟩
def Fd.SCH_W0_NA_EN : Fd := ⟨.SCH_W0, 8, 1⟩
def Fd.SCH_W0_HPF : Fd := ⟨.SCH_W0, 0, 3⟩
def Fd.SCH_W1_THR : Fd := ⟨.SCH_W1, 24, 8⟩
def Fd.SCH_W1_RATIO : Fd := ⟨.SCH_W1, 16, 8⟩
def Fd.SCH_W1_KNEE : Fd := ⟨.SCH_W1, 8, 8⟩
def Fd.SCH_W1_MAKEUP : Fd := ⟨.SCH_W1, 0, 8⟩
def Fd.SCH_W2_ATTACK : Fd := ⟨.SCH_W2, 16, 10⟩
def Fd.SCH_W2_RELEASE : Fd := ⟨.SCH_W2, 0, 13⟩
def Fd.SCH_W3_PAIR_EN : Fd := ⟨.SCH_W3, 28, 1⟩
def Fd.SCH_W3_PAIR : Fd := ⟨.SCH_W3, 16, 11⟩
def Fd.HEM_W0_CEIL : Fd := ⟨.HEM_W0, 0, 6⟩
def Fd.HEM_W1_REL : Fd := ⟨.HEM_W1, 0, 9⟩
def Fd.MTR_W0_HOLD : Fd := ⟨.MTR_W0, 0, 5⟩
def Fd.VOX_W0_KIND : Fd := ⟨.VOX_W0, 27, 1⟩
def Fd.VOX_W0_INPUT : Fd := ⟨.VOX_W0, 16, 11⟩
def Fd.VOX_W0_THR : Fd := ⟨.VOX_W0, 8, 8⟩
def Fd.VOX_W0_ATTACK : Fd := ⟨.VOX_W0, 0, 5⟩
def Fd.VOX_W1_HANG : Fd := ⟨.VOX_W1, 0, 13⟩
def Fd.RB_CMD_ARG_CLASS : Fd := ⟨.RB_CMD_ARG, 28, 2⟩
def Fd.RB_CMD_ARG_INDEX : Fd := ⟨.RB_CMD_ARG, 0, 9⟩
def Fd.RB_SEAM_CFG_JUMP : Fd := ⟨.RB_SEAM_CFG, 16, 12⟩
def Fd.RB_SEAM_CFG_TRAIN : Fd := ⟨.RB_SEAM_CFG, 0, 12⟩
def Fd.SM_W0_DIR : Fd := ⟨.SM_W0, 25, 1⟩
def Fd.SM_W0_BW : Fd := ⟨.SM_W0, 20, 2⟩
def Fd.SM_W0_RATE : Fd := ⟨.SM_W0, 13, 4⟩
def Fd.SM_W0_CLKKIND : Fd := ⟨.SM_W0, 8, 2⟩
def Fd.SM_W0_CLK : Fd := ⟨.SM_W0, 0, 3⟩
def Fd.SM_W1_INPUT : Fd := ⟨.SM_W1, 0, 32⟩
def Fd.SC_W0_DIR : Fd := ⟨.SC_W0, 25, 1⟩
def Fd.SC_W0_RATE : Fd := ⟨.SC_W0, 0, 4⟩
def Fd.SC_W1_INPUT : Fd := ⟨.SC_W1, 0, 32⟩
def Fd.CIO_CMD_ARG_INDEX : Fd := ⟨.CIO_CMD_ARG, 0, 9⟩
def Fd.CIO_SOFT_SF : Fd := ⟨.CIO_SOFT, 0, 32⟩
def Fd.GP_OUT_OUT : Fd := ⟨.GP_OUT, 0, 32⟩
def Fd.GP_CFG_DIR : Fd := ⟨.GP_CFG, 30, 2⟩
def Fd.GP_CFG_EDGE : Fd := ⟨.GP_CFG, 28, 2⟩
def Fd.GP_CFG_TB : Fd := ⟨.GP_CFG, 26, 2⟩
def Fd.GP_CFG_POL : Fd := ⟨.GP_CFG, 25, 1⟩
def Fd.GP_CFG_RULE : Fd := ⟨.GP_CFG, 8, 8⟩
def Fd.GP_CFG_DEB : Fd := ⟨.GP_CFG, 0, 6⟩
def Fd.CO_CFG_EN : Fd := ⟨.CO_CFG, 31, 1⟩
def Fd.CO_CFG_RULE : Fd := ⟨.CO_CFG, 0, 8⟩
def Fd.CR_W0_EN : Fd := ⟨.CR_W0, 31, 1⟩
def Fd.CR_W0_FUNC : Fd := ⟨.CR_W0, 28, 2⟩
def Fd.CR_W0_NOT : Fd := ⟨.CR_W0, 27, 1⟩
def Fd.CR_W0_TMODE : Fd := ⟨.CR_W0, 24, 2⟩
def Fd.CR_W0_WIN_EN : Fd := ⟨.CR_W0, 23, 1⟩
def Fd.CR_W0_WIN_TB : Fd := ⟨.CR_W0, 20, 2⟩
def Fd.CR_W0_TIME : Fd := ⟨.CR_W0, 0, 20⟩
def Fd.CR_W1_OP0 : Fd := ⟨.CR_W1, 16, 16⟩
def Fd.CR_W1_OP1 : Fd := ⟨.CR_W1, 0, 16⟩
def Fd.CR_W2_OP2 : Fd := ⟨.CR_W2, 16, 16⟩
def Fd.CR_W2_OP3 : Fd := ⟨.CR_W2, 0, 16⟩
def Fd.CR_W3_THR : Fd := ⟨.CR_W3, 0, 16⟩
def Fd.CR_W4_WIN_BASE : Fd := ⟨.CR_W4, 0, 32⟩
def Fd.CR_W5_WIN_PERIOD : Fd := ⟨.CR_W5, 0, 20⟩
def Fd.CR_W6_WIN_DUR : Fd := ⟨.CR_W6, 0, 20⟩
def Fd.SE_W0_LATE_OK : Fd := ⟨.SE_W0, 28, 1⟩
def Fd.SE_W0_TB : Fd := ⟨.SE_W0, 26, 2⟩
def Fd.SE_W0_ACTION : Fd := ⟨.SE_W0, 0, 4⟩
def Fd.SE_W1_WIDTH : Fd := ⟨.SE_W1, 12, 17⟩
def Fd.SE_W1_LEVEL : Fd := ⟨.SE_W1, 8, 1⟩
def Fd.SE_W1_SET : Fd := ⟨.SE_W1, 5, 3⟩
def Fd.SE_W1_PIN : Fd := ⟨.SE_W1, 0, 5⟩
def Fd.SE_W2_SEC_HI : Fd := ⟨.SE_W2, 0, 16⟩
def Fd.SE_W3_SEC_LO : Fd := ⟨.SE_W3, 0, 32⟩
def Fd.SE_W4_NS : Fd := ⟨.SE_W4, 0, 30⟩
def Fd.SPL_STORE_LOW_CELLS : Fd := ⟨.SPL_STORE, 0, 16⟩
def Fd.SPL_CMD_ARG_INDEX : Fd := ⟨.SPL_CMD_ARG, 0, 12⟩
def Fd.SPL_STALL_STALL : Fd := ⟨.SPL_STALL, 0, 10⟩
def Fd.SP_W0_EN : Fd := ⟨.SP_W0, 31, 1⟩
def Fd.SP_W0_REPLAY : Fd := ⟨.SP_W0, 30, 1⟩
def Fd.SP_W0_HOST_P : Fd := ⟨.SP_W0, 29, 1⟩
def Fd.SP_W0_HOST_C : Fd := ⟨.SP_W0, 28, 1⟩
def Fd.SP_W0_TB : Fd := ⟨.SP_W0, 26, 2⟩
def Fd.SP_W0_EVSRC : Fd := ⟨.SP_W0, 16, 8⟩
def Fd.SP_W0_EV_EN : Fd := ⟨.SP_W0, 15, 1⟩
def Fd.SP_W1_QUOTA : Fd := ⟨.SP_W1, 16, 16⟩
def Fd.SP_W1_LEVEL : Fd := ⟨.SP_W1, 0, 16⟩
def Fd.EVT_CMD_ARG_INDEX : Fd := ⟨.EVT_CMD_ARG, 0, 11⟩
def Fd.EV_GRP_CNT : Fd := ⟨.EV_GRP, 16, 7⟩
def Fd.EV_GRP_TIME : Fd := ⟨.EV_GRP, 0, 16⟩
def Fd.EV_HGRP_HOLDOFF : Fd := ⟨.EV_HGRP, 0, 16⟩
def Fd.TGT_CTRL_GDIS : Fd := ⟨.TGT_CTRL, 31, 1⟩
def Fd.TGT_CTRL_SLEEP : Fd := ⟨.TGT_CTRL, 30, 1⟩
def Fd.TGT_CTRL_FAULT_VEC : Fd := ⟨.TGT_CTRL, 0, 6⟩
def Fd.TGT_EOI_EOI : Fd := ⟨.TGT_EOI, 31, 1⟩
def Fd.TGT_EOI_VEC : Fd := ⟨.TGT_EOI, 0, 6⟩
def Fd.ATT_RX_EN : Fd := ⟨.ATT_RX, 31, 1⟩
def Fd.ATT_RX_MASK : Fd := ⟨.ATT_RX, 8, 4⟩
def Fd.ATT_RX_EVSRC : Fd := ⟨.ATT_RX, 0, 8⟩
def Fd.ATT_TX_EN : Fd := ⟨.ATT_TX, 31, 1⟩
def Fd.ATT_TX_MASK : Fd := ⟨.ATT_TX, 8, 4⟩
def Fd.ATT_TX_EVSRC : Fd := ⟨.ATT_TX, 0, 8⟩
def Fd.ATT_CG_EN : Fd := ⟨.ATT_CG, 31, 1⟩
def Fd.ATT_CG_MASK : Fd := ⟨.ATT_CG, 8, 4⟩
def Fd.ATT_CG_EVSRC : Fd := ⟨.ATT_CG, 0, 8⟩
def Fd.EV_CFG_EN : Fd := ⟨.EV_CFG, 31, 1⟩
def Fd.EV_CFG_SENSE : Fd := ⟨.EV_CFG, 24, 2⟩
def Fd.EV_CFG_PRIO : Fd := ⟨.EV_CFG, 16, 4⟩
def Fd.EV_CFG_TARGET : Fd := ⟨.EV_CFG, 8, 3⟩
def Fd.EV_CFG_VECTOR : Fd := ⟨.EV_CFG, 0, 6⟩
def Fd.EV_OCFG_EN : Fd := ⟨.EV_OCFG, 31, 1⟩
def Fd.EV_OCFG_SENSE : Fd := ⟨.EV_OCFG, 24, 2⟩
def Fd.EV_OCFG_PRIO : Fd := ⟨.EV_OCFG, 16, 4⟩
def Fd.EV_OCFG_TARGET : Fd := ⟨.EV_OCFG, 8, 3⟩
def Fd.EV_OCFG_VECTOR : Fd := ⟨.EV_OCFG, 0, 6⟩
def Fd.MSIX_LO_VAL : Fd := ⟨.MSIX_LO, 2, 30⟩
def Fd.MSIX_HI_VAL : Fd := ⟨.MSIX_HI, 0, 32⟩
def Fd.MSIX_DATA_VAL : Fd := ⟨.MSIX_DATA, 0, 32⟩
def Fd.MSIX_CTRL_MASK : Fd := ⟨.MSIX_CTRL, 0, 1⟩
def Fd.SES_NET_UDP : Fd := ⟨.SES_NET, 16, 16⟩
def Fd.SES_NET_VID : Fd := ⟨.SES_NET, 0, 12⟩
def Fd.SES_CFG_PORTS : Fd := ⟨.SES_CFG, 28, 4⟩
def Fd.SES_CFG_IDLE_DEF : Fd := ⟨.SES_CFG, 0, 12⟩
def Fd.SES_IP4_ADDR : Fd := ⟨.SES_IP4, 0, 32⟩
def Fd.SES_IP6_ADDR : Fd := ⟨.SES_IP6, 0, 32⟩
def Fd.SES_MBOX_EN : Fd := ⟨.SES_MBOX, 31, 1⟩
def Fd.SES_MBOX_REQ : Fd := ⟨.SES_MBOX, 16, 12⟩
def Fd.SES_MBOX_RSP : Fd := ⟨.SES_MBOX, 0, 12⟩
def Fd.SES_KEYS_ROLE_EN : Fd := ⟨.SES_KEYS, 4, 3⟩
def Fd.SES_CMD_ARG_SESSION : Fd := ⟨.SES_CMD_ARG, 0, 4⟩
def Fd.PR_CFG_PREF : Fd := ⟨.PR_CFG, 30, 2⟩
def Fd.PR_CFG_LAST_RESORT : Fd := ⟨.PR_CFG, 29, 1⟩
def Fd.PR_CFG_WTR : Fd := ⟨.PR_CFG, 0, 12⟩
def Fd.SAF_CFG_TEMP_WARN : Fd := ⟨.SAF_CFG, 24, 8⟩
def Fd.SAF_CFG_CE_MAX : Fd := ⟨.SAF_CFG, 0, 16⟩
def Fd.SAF_INJECT_KEY : Fd := ⟨.SAF_INJECT, 16, 16⟩
def Fd.SAF_INJECT_CODE : Fd := ⟨.SAF_INJECT, 0, 8⟩

end Sys2Proof.Machine
end

