-- ==== Sys2Proof/Machine/TypesOut.lean ====
section
/-! DEFINITION. What leaves the module: the record of emissions. -/

namespace Sys2Proof.Machine

/-- What leaves the module, in order (the model's own record). -/
inductive Emission where
  /-- One frame of a clock group's output lanes: group, BCK periods before the first bit, whether data changes on the
  rising BCK edge, and per output lane the bits in time order, zero after them; none while the lane is high-impedance. -/
  | laneFrame (group delay : Nat) (rising : Bool) (lanes : List (Nat × Option (List Bool)))
  /-- OE_ALLOW moves while a frame of a group goes out: from this instant on each output lane carries its bits of that
  frame, or nothing while it is high-impedance (R146). -/
  | laneNow (group : Nat) (lanes : List (Nat × Option (List Bool)))
  /-- An MSI-X message of a vector: a posted write of the table entry's data to its address (R318, R319, R321). -/
  | msix (vec addr data : Nat)
  /-- The WAKE# pin: asserted or released (R326). -/
  | wakePin (asserted : Bool)
  /-- A frame that starts on a port (R161), as it leaves. -/
  | frame (port : Nat) (f : Frame)
  /-- A frame handed to the engine port E (R155). -/
  | toEngine (f : Frame)
  /-- A membership report, answer or leave (R159): port, IPv6, group, source, leave, older version in force. -/
  | membership (port : Nat) (v6 : Bool) (group : Nat) (src : Option Nat) (leave old : Bool)
  /-- A PTP message of a time base (R199 to R201). -/
  | ptp (tb : Nat) (h : PtpTx) (m : PtpBody)
  /-- The switch's own Pdelay request, or its answer to one with its t2 and t3 on the TCXO in 1/16 ns (R208). -/
  | pdelayReq (port domain seq : Nat)
  | pdelayResp (port domain seq : Nat) (t2 t3 : Int)
  /-- A pulse of an output (R267 to R269): its leading edge in ns of the media clock's time, how far a realignment has
  moved it, its width in µs, the level of the pin during it. -/
  | pulse (p : Nat) (at_ moved : Int) (width : Nat) (high : Bool)
  /-- The answer to a host read of a spool window (R300): spool, offset, value. -/
  | hostRead (spool off : Nat) (v : Word)
  /-- A Firyn message to a UDP client (R332, R334). -/
  | firyn (dest : Client) (bytes : List Byte)
  /-- An answer to an ARP request or a neighbor solicitation; a gratuitous one after a takeover (R332, R353). -/
  | arp (port : Nat) (v6 : Bool) (mac ip : Nat)
  | gratuitous (port : Nat) (v6 : Bool)
  /-- A heartbeat on WIT_TX, and one cut by QUIET (R413, R455). -/
  | heartbeat (bytes : List Byte)
  | heartbeatCut
  /-- A witness frame, and the levels of the OE_ALLOW lines of unit A and unit B (R415, R419). -/
  | witness (bytes : List Byte)
  | oeLines (a b : Bool)
  /-- The output gate moves (R420). -/
  | gate (on : Bool)
  /-- A message on the lining link (R427). -/
  | lining (m : LinMsg)
  /-- Every lane data pin is forced to zero, or set to high-impedance (R455). -/
  | laneForce (zero : Bool)
  /-- LED_EJECT lights (R406). -/
  | ledEject
  deriving DecidableEq, Repr

end Sys2Proof.Machine
end

