-- ==== Sys2Proof/Machine/State.lean ====
section
/-! DEFINITION. The state of the module: every register, block, buffer and pin the spec gives it, and the queue of
waiting commands. -/

namespace Sys2Proof.Machine

/-- Module modes (GLB_STATUS MODE, Table 16-4). -/
inductive Mode where
  | starting | bare | running | quiet | removing
  deriving DecidableEq, Repr

/-- The global block (spec/16), the MAC addresses, the output gate, and what the pair role lets the unit do: refuse
commands as the standby (R356), send the legs of its streams (R195). -/
structure Glb where
  mode : Mode := .starting
  straps : Nat := 0
  lastReset : Nat := 0
  cfgFault : Bool := false
  wstatus : Word := 0
  werror : Option Word := none
  werrCnt : Nat := 0
  locks : Nat := 0
  lockPend : List (Nat × Nat) := []
  parAddr : Option Nat := none
  scrubCnt : Nat := 0
  inReset : Bool := true
  ledEject : Bool := false
  boots : Nat := 0
  macs : Tbl Nat := []
  gate : Bool := false
  passive : Bool := false
  active : Bool := true
  sendA : Bool := true
  sendB : Bool := true
  sendOne : Bool := true
  deriving DecidableEq, Repr

/-- Registers behind their blocks: what is written (`regs`), what is still in force where a later value waits for its
boundary (`force`), the values waiting (`waits`: accepted at, offset, value), high words staged under R370, posted
writes, and registers whose stored parity is wrong. -/
structure RegFile where
  regs : Tbl Word := []
  force : Tbl Word := []
  waits : List (Nat × Nat × Word) := []
  hi : Tbl Word := []
  posted : List (Nat × Nat × Word) := []
  parityBad : List Nat := []
  deriving DecidableEq, Repr

/-- The whole module. -/
structure State where
  now : Nat := 0
  freeCtr : Nat := 0
  rf : RegFile := {}
  glb : Glb := {}
  fab : Fab := {}
  shed : Shed := {}
  mix : Mix := {}
  dyn : Dyn := {}
  rb : Bridges := {}
  ln : Lanes := {}
  sw : Switch := {}
  tb : TimeBases := {}
  str : Streams := {}
  ref : Refs := {}
  syn : Syns := {}
  cio : Cio := {}
  spl : Spools := {}
  evt : Evt := {}
  saf : Saf := {}
  ses : Sessions := {}
  pl : Loader := {}
  pr : Pair := {}
  wit : Witness := {}
  emitted : List Emission := []
  pending : List Instr := []
  deriving DecidableEq, Repr

/-- Faults. No command of this block ends a run: every request that fails is refused with a result code and changes
nothing (R22), and every event has its effect. -/
inductive Fault where
  /-- Raised by no command. Safe. -/
  | unspecified
  deriving DecidableEq, Repr

/-- Refusals of the model. -/
inductive Refusal where
  /-- A command of the table that the model has not reached; raised by `exec`'s arm for it alone. Safe. -/
  | notModelled (mnemonic : String)
  deriving DecidableEq, Repr

/-- The module right after reset: every field at the value its register table gives (R5), nothing waiting. -/
def State.reset : State := {}

end Sys2Proof.Machine
end

