-- ==== Sys2Proof/Machine/Image.lean ====
section
/-! DEFINITION. The pattern NOR and its images: reading, the checks of an image, its contents (spec/17 R377 to R383). -/

namespace Sys2Proof.Machine

/-- Bytes of an image in the NOR; beyond what is listed the NOR is erased (log entry 11). -/
def norBytes (bs : List Byte) (off n : Nat) : List Byte :=
  let xs := (bs.drop off).take n
  xs ++ List.replicate (n - xs.length) 0xFF#8

/-- A field of a byte string, least significant byte first (R379). -/
def leAt (bs : List Byte) (off n : Nat) : Nat := leNat ((bs.drop off).take n)

/-! ## The header (R379, R382) -/

/-- The failure code of a header, 0 when it is valid (Table 17-2, R382, R383). -/
def headerFail (h : List Byte) : Nat :=
  if leAt h 0 4 ≠ 0x53565054 ∨ leAt h 4 2 ≠ 1 then 1
  else if leAt h 60 4 ≠ crc32c (h.take 60) then 2
  else if leAt h 6 2 ≠ 0 ∨ leAt h 20 4 ≠ 0 ∨ leAt h 56 4 ≠ 0 ∨ leAt h 8 4 < 12 ∨ 4194240 < leAt h 8 4 ∨
      leAt h 8 4 % 4 ≠ 0 ∨ leAt h 12 4 = 0 ∨ leAt h 12 4 = 0xFFFFFFFF ∨ leAt h 16 4 = 0 then 3
  else 0

/-! ## The body (R380 to R382) -/

/-- A section: body offset of its VALUE, its type and VALUE. -/
structure Section where
  at_ : Nat
  type : Nat
  value : List Byte
  deriving DecidableEq, Repr

/-- Records of `n` bytes, with their offsets. -/
def records (n : Nat) : Nat → Nat → List Byte → List (Nat × List Byte)
  | 0, _, _ => []
  | k + 1, off, bs => (off, bs.take n) :: records n k (off + n) (bs.drop n)

/-- The whole records of a VALUE. -/
def recordsOf (n : Nat) (x : Section) : List (Nat × List Byte) := records n (x.value.length / n) x.at_ x.value

/-- A section type occurs at most once (Table 17-3). -/
def onceOnly (type : Nat) : Bool := type == 1 || type == 2 || type == 3 || type == 0x30

/-- A section whose structure is right: a known or optional type, fixed sections legal, whole records (R381, R382). -/
def sectionOk (x : Section) : Bool :=
  let v := x.value
  let n := v.length
  if 0x8000 ≤ x.type then true
  else match x.type with
    | 0x01 => n == 4 && decide (4 ≤ leAt v 0 1 ∧ leAt v 0 1 ≤ 12) && leAt v 1 3 == 0
    | 0x02 =>
      let roles := (recordsOf 36 x).map fun r => leAt r.2 0 1
      n % 36 == 0 && (recordsOf 36 x).all (fun r => decide (leAt r.2 0 1 ≤ 2) && leAt r.2 1 3 == 0) &&
        decide (roles.Pairwise (· ≠ ·))
    | 0x03 => n == 32 && (recordsOf 8 x).all fun r => leAt r.2 6 2 == 0
    | 0x10 => n % 8 == 0
    | 0x20 => n % 16 == 0
    | 0x21 => n % 8 == 0
    | 0x30 => n == 4 && decide (leAt v 0 4 < 32)
    | _ => false

/-- The sections of a body in order, or the failure code of the first fault found (R380, R383). -/
def sections : Nat → Nat → List Byte → List Section → Nat × List Section
  | 0, _, bs, acc => if bs.isEmpty then (0, acc.reverse) else (6, [])
  | k + 1, off, bs, acc =>
    if bs.isEmpty then (0, acc.reverse)
    else
      let n := leAt bs 4 4
      if bs.length < 12 ∨ n % 4 ≠ 0 ∨ bs.length < 12 + n then (6, [])
      else if leAt bs (8 + n) 4 ≠ crc32c (bs.take (8 + n)) then (5, [])
      else
        let x : Section := { at_ := off + 8, type := leAt bs 0 2, value := (bs.drop 8).take n }
        if leAt bs 2 2 ≠ 0 ∨ !sectionOk x ∨ (onceOnly x.type ∧ acc.any fun y => y.type == x.type) then (6, [])
        else sections k (off + 12 + n) (bs.drop (12 + n)) (x :: acc)

/-- A change record from 16 bytes: four words (R85, R381). -/
def recOf (bs : List Byte) : Rec :=
  { w0 := word (leAt bs 0 4), w1 := word (leAt bs 4 4), w2 := word (leAt bs 8 4), w3 := word (leAt bs 12 4) }

/-- The contents of a section join a pattern (Table 17-3). -/
def addSection (p : Pattern) (x : Section) : Pattern :=
  match x.type with
  | 0x01 => { p with store := leAt x.value 0 1 }
  | 0x02 => { p with keys := (recordsOf 36 x).foldl (fun t r => Tbl.put t (leAt r.2 0 1) (r.2.drop 4)) p.keys }
  | 0x03 => { p with macs := (recordsOf 8 x).map fun r => beNat (r.2.take 6) }
  | 0x10 => { p with recs := p.recs ++ (recordsOf 8 x).map fun r => .reg r.1 (leAt r.2 0 4) (word (leAt r.2 4 4)) }
  | 0x20 => { p with recs := p.recs ++ (recordsOf 16 x).map fun r => .change r.1 (recOf r.2) }
  | 0x21 =>
    let rec1 (r : Nat × List Byte) : PatRec :=
      .enable r.1 (leAt r.2 0 1) (leAt r.2 1 1) (leAt r.2 2 1) (leAt r.2 3 1 + leAt r.2 6 2) (leAt r.2 4 2)
    { p with recs := p.recs ++ (recordsOf 8 x).map rec1 }
  | 0x30 => { p with locks := leAt x.value 0 4 }
  | _ => p

/-- Check a body against its header (R382, R383). -/
def checkBody (h body : List Byte) : ImgCheck :=
  let seq := leAt h 12 4
  let digest := (h.drop 24).take 32
  if sha256 body ≠ digest then { fail := 4, seq := seq, len := body.length }
  else
    let (c, xs) := sections (body.length / 12 + 1) 0 body []
    if c ≠ 0 then { fail := c, seq := seq, len := body.length }
    else if xs.length ≠ leAt h 16 4 then { fail := 6, seq := seq, len := body.length }
    else { seq := seq, digest := digest, pat := xs.foldl addSection {}, len := body.length }

/-- The 64 bytes of an image's header. -/
def norHeader : Nor → List Byte
  | .bytes bs => norBytes bs 0 64
  | .unreadable => []

/-- The failure code of an image's header: 7 when it cannot be read or counts as absent (R377, R383). -/
def norHeaderFail (absent : Bool) (n : Nor) : Nat :=
  match n with
  | .unreadable => 7
  | .bytes bs => if absent then 7 else headerFail (norBytes bs 0 64)

/-- Check a whole image (R382). -/
def checkImage (absent : Bool) (n : Nor) : ImgCheck :=
  match n with
  | .unreadable => { fail := 7 }
  | .bytes bs =>
    if absent then { fail := 7 }
    else
      let h := norBytes bs 0 64
      let c := headerFail h
      if c ≠ 0 then { fail := c } else checkBody h (norBytes bs 64 (leAt h 8 4))

/-- SEQUENCE of a valid header; 0 otherwise (Table 17-9). -/
def norSeq (absent : Bool) (n : Nor) : Nat := if norHeaderFail absent n = 0 then leAt (norHeader n) 12 4 else 0

/-! ## Selection (R383) -/

/-- Image B counts as absent when SFDP declares less than 8 MiB (R377). -/
def absentB (s : State) : Bool := s.pl.sfdp.density != 0 && decide (s.pl.sfdp.density < 8)

/-- What the last check of an image found goes to the status (Table 17-9). -/
def noteImage (s : State) (b : Bool) (c : ImgCheck) : State :=
  let pl := s.pl
  { s with pl :=
      if b then { pl with validB := c.fail == 0, failB := c.fail, seqB := c.seq }
      else { pl with validA := c.fail == 0, failA := c.fail, seqA := c.seq } }

/-- The images in the order they are tried: valid headers by descending SEQUENCE, A first when equal. -/
def tryOrder (s : State) : List Bool :=
  let a := norSeq false s.pl.norA
  let b := norSeq (absentB s) s.pl.norB
  if b = 0 then (if a = 0 then [] else [false]) else if a = 0 then [true] else if a < b then [true, false] else [false, true]

end Sys2Proof.Machine
end

