-- ==== Sys2Proof/Config.lean ====
section
/-! DEFINITION. What one part fixes at the factory, and the free values: opaque constants without a body, so that
nothing can be proved of the values the spec leaves open (log entries 3 and 4). -/

namespace Sys2Proof.Config

/-- A sample of a converter or a seam, from its direction, its rate code, a seam's ratio and where the output instant
lies between two input samples, the number of the output sample and the input around the instant its latency back: R116
and R117 give its quality figures, not its value (log entry 20). -/
opaque convSample : Nat → Nat → Nat → List Int → BitVec 24
opaque seamSample : Nat → Nat → Nat → Nat → Nat → List Int → BitVec 24

/-- The next two states of a seam's loop, the estimate in 2^-40 and its second state, from its bandwidth code, rate code,
its two states and the lead of its foreign tack over the tack of the boundary: R118 calls the estimator a second-order
loop and gives no coefficients (log entry 29). -/
opaque seamRatio : Nat → Nat → Nat → Nat → Int → BitVec 43
opaque seamSecond : Nat → Nat → Nat → Nat → Int → BitVec 64

/-- Which destinations are incomplete at a fence miss that is detected without a list of them: R54 leaves it open (log
entry 63). -/
opaque missed : Nat → Nat → Bool

/-- The work complete at such a miss, scaled to the 109 µs window (R55, log entry 63). -/
opaque workDone : Nat → BitVec 22

/-- Frames an egress queue holds before it is full: R158 speaks of a full queue and gives no size (log entry 21). -/
opaque queueDepth : Nat

/-- The frequency estimate a servo forms at a measurement, 1/256 ppb: R211 gives no estimator (log entry 23). -/
opaque servoFreq : Nat → BitVec 32

/-- The rate at which a servo slews; taken within the bound of R211 (log entry 23). -/
opaque slewRate : Nat → BitVec 32

/-- MAC addresses of N0 to N3 from the factory (R381, log entry 4). -/
opaque factoryMac : Nat → BitVec 48

/-- The trimmed pace curve from the factory; taken as at least the catalog curve (R33, log entry 4). -/
opaque factoryTrim : Nat → BitVec 22

/-- Coefficients c1, c2, c3 of the TCXO model from the factory (R245, log entry 4). -/
opaque factoryCoef : Nat → BitVec 32

/-- A refined coefficient or ageing rate: R245 names a least-squares fit and not its form (log entry 25). -/
opaque refined : Nat → BitVec 32

/-- The size of the correction a media clock's loop adds to its frequency in a stitch, taken within the bound of R240,
which gives no loop (log entry 75). -/
opaque loopStep : Nat → BitVec 32

/-- The recovered rate of an ACR stream in 2^-32 blocks a stitch, from ACR_MODE, the rate before and what it is steered
by, the departure of LEVEL or of the arrival: R189 gives no estimator (log entry 26). -/
opaque acrLoop : Nat → Nat → Int → BitVec 34

/-- The band a synthesizer's search selects: R252 names the rule, not the part's band limits (log entry 27). -/
opaque synBand : Nat → BitVec 4

/-- A sample a source takes from a replay spool: R85 gives KIND 6 no packing (log entry 28). -/
opaque replaySample : Nat → BitVec 24

/-- Words by which the sources that replay a spool move its cursor at a boundary: R85 and R301 give no pace (log entry
28). -/
opaque replayWords : Nat → BitVec 14

/-- What lies in the DRAM burst at a word address: places in jitter-buffer rings (true, stream, position, 0) and in spools
(false, spool, item, word): the spec gives the DRAM no layout (log entry 50). -/
opaque dramPlaces : Nat → Nat → List (Bool × Nat × Nat × Nat)

/-- The 64-bit module identity of the label (R376, log entry 4). -/
opaque uid : BitVec 64

/-- The silicon stepping, major and minor (Table 16-4, log entry 4). -/
opaque stepping : BitVec 16

/-- The maintenance password of the label, in its bytes (R384, log entry 4). -/
opaque password : List (BitVec 8)

/-- Which erase and program operations of the NOR fail: R386 answers such an error, and the NOR is outside the module
(log entry 88). -/
opaque norFails : Nat → Bool

/-- The instant at which a membership query is answered, within its maximum response time (R159, log entry 35). -/
opaque answerDelay : Nat → BitVec 40

/-- The TAG an internal producer gives the item that follows the sequence number of its spool: R292 calls it the
producer's and gives no value (log entry 45). -/
opaque itemTag : Nat → Nat → BitVec 16

/-- The random part of a SESSION_ID and of a DEVICE_NONCE (R337, log entry 31). -/
opaque sessionId : Nat → BitVec 32
opaque nonce : Nat → BitVec 128

end Sys2Proof.Config
end

