-- ==== Sys2Proof/Machine/Mix.lean ====
section
/-! DEFINITION. Ramps, crossfade sides, change records and what a basting set does to the mixing tables
(spec/03 R61, R69, R72 to R85, R479; demand of R31). -/

namespace Sys2Proof.Machine

/-! ## Ramps (R72 to R75) -/

/-- Unity weight (R76, R479). -/
def unity : Ramp := { start := 16384, target := 16384 }

/-- Sample `k` of the ramp stitch that runs now (R72). -/
def Ramp.val (r : Ramp) (k : Nat) : Int :=
  if r.len ≤ r.done then r.target
  else r.start + Int.tdiv ((r.target - r.start) * (6 * r.done + k + 1 : Nat)) (6 * r.len : Nat)

/-- The value at the last sample of the last completed stitch (R72, R75, R86). -/
def Ramp.now (r : Ramp) : Int :=
  if r.len ≤ r.done then r.target
  else r.start + Int.tdiv ((r.target - r.start) * (6 * r.done : Nat)) (6 * r.len : Nat)

/-- A new ramp from the present value to a target over `len` stitches (R75). -/
def Ramp.to (r : Ramp) (target : Int) (len : Nat) : Ramp :=
  if r.now = target then { start := target, target := target }
  else { start := r.now, target := target, len := len }

/-- The ramp to mute of an object that is removed: it takes its stitches also where the value is 0 already (R74). -/
def Ramp.fall (r : Ramp) (len : Nat) : Ramp := { start := r.now, target := 0, len := len }

/-- One more stitch of the ramp is over (R73). -/
def Ramp.step (r : Ramp) : Ramp := if r.done < r.len then { r with done := r.done + 1 } else r

/-- The ramp still has a stitch to go. -/
def Ramp.running (r : Ramp) : Bool := decide (r.done < r.len)

/-- A ramp that has reached its last stitch stands at its target (R72). -/
def Ramp.settle (r : Ramp) : Ramp := if r.done < r.len then r else { start := r.target, target := r.target }

/-- A ramp has reached its last stitch and has not been settled yet. -/
def Ramp.ended (r : Ramp) : Bool := decide (0 < r.len ∧ r.len ≤ r.done)

/-! ## Crossfade sides (R76, R479) -/

/-- A side is computed until its weight has reached 0 (R31, R479); one that a later change of the same boundary turned
back before it was heard is no side (R80, R82). -/
def Side.lives {α : Type} (x : Side α) : Bool := decide (x.w.now ≠ 0 ∨ x.w.target ≠ 0)

/-- A crossfade to a side, or to none: every running side ramps to 0, the named side from its present weight to 16384,
over the length of the change that names it (R76, R479); a side that stands alone at 16384 stays so. -/
def crossTo {α : Type} [DecidableEq α] (ss : List (Side α)) (new : Option α) (len : Nat) : List (Side α) :=
  let old := ss.map fun x => { x with w := x.w.to (if new = some x.what then 16384 else 0) len }
  let all := match new with
    | none => old
    | some a => if ss.any (fun x => decide (x.what = a)) then old
                else old ++ [Side.mk a (Ramp.to {} 16384 len)]
  all.filter Side.lives

def stepSides {α : Type} (ss : List (Side α)) : List (Side α) := ss.map fun x => { x with w := x.w.step }

/-- Sides whose weight has reached 0 are no longer computed (R479). -/
def settleSides {α : Type} (ss : List (Side α)) : List (Side α) :=
  (ss.map fun x => { x with w := x.w.settle }).filter Side.lives

/-- A stitch of a map crossfade is over: its sides step, and those that have ended are dropped (R134, R150, R192). -/
def agedSides {α : Type} (t : Tbl (List (Side α))) : Tbl (List (Side α)) :=
  Tbl.keep (Tbl.mapV t fun _ sd => settleSides (stepSides sd)) fun _ sd => !sd.isEmpty

/-- Sides after a number of stitches with no further change. -/
def agedBy {α : Type} : Nat → List (Side α) → List (Side α)
  | 0, ss => ss
  | n + 1, ss => agedBy n (settleSides (stepSides ss))

/-- Sides after changes that wait for their boundaries, each with the number of stitches until it takes effect, from the
present stitch `at_` on: what R479 holds to four counts changes that have been accepted and wait. -/
def sidesAfter {α : Type} [DecidableEq α] (len : Nat) : Nat → List (Nat × Option α) → List (Side α) → List (Side α)
  | _, [], ss => ss
  | at_, (n, a) :: rest, ss => sidesAfter len n rest (crossTo (agedBy (n - at_) ss) a len)

def runningSides {α : Type} (ss : List (Side α)) : Bool := ss.any fun x => x.w.running

def endedSides {α : Type} (ss : List (Side α)) : Bool := ss.any fun x => x.w.ended

/-- The weighted sum of R76: the value itself while one side plays alone, else one rounding of the blend. -/
def blend {α : Type} (ss : List (Side α)) (f : α → Int) (k : Nat) : Int :=
  match ss with
  | [] => 0
  | [x] => if x.w.running ∨ x.w.target ≠ 16384 then rhe (f x.what * x.w.val k) 14 else f x.what
  | _ => rhe (ss.foldl (fun a x => a + f x.what * x.w.val k) 0) 14

/-- Sample `k` of a ramp stitch at a rate of `n` samples a stitch (log entry 66). -/
def Ramp.valAt (r : Ramp) (n k : Nat) : Int :=
  if r.len ≤ r.done then r.target
  else r.start + Int.tdiv ((r.target - r.start) * (n * r.done + min (k + 1) n : Nat)) (n * r.len : Nat)

/-- The blend of R76 at a rate of `n` samples a stitch. -/
def blendAt {α : Type} (ss : List (Side α)) (f : α → Int) (n k : Nat) : Int :=
  match ss with
  | [] => 0
  | [x] => if x.w.running ∨ x.w.target ≠ 16384 then rhe (f x.what * x.w.valAt n k) 14 else f x.what
  | _ => rhe (ss.foldl (fun a x => a + f x.what * x.w.valAt n k) 0) 14

/-! ## Change records (R85) -/

def Rec.op (r : Rec) : Nat := fld r.w0 24 8
def Rec.cls (r : Rec) : Nat := fld r.w0 20 2
def Rec.ramp (r : Rec) : Nat := fld r.w0 0 11
def Rec.a (r : Rec) : Nat := fld r.w1 16 16
def Rec.b (r : Rec) : Nat := fld r.w1 0 16
def Rec.gain (r : Rec) : Nat := fld r.w2 16 16
def Rec.aux (r : Rec) : Nat := fld r.w2 0 16
def Rec.aux2 (r : Rec) : Nat := r.w3.toNat

/-- A key or activity reference in range (R85). -/
def refOk (v : Nat) : Bool := decide (v / 16384 ≤ 2 ∧ v / 256 % 64 = 0)

/-- An input selector in range (R85). -/
def selectorOk (w : Word) : Bool :=
  let kind := fld w 28 4; let i := fld w 16 12; let sub := fld w 0 6
  decide (fld w 6 10 = 0) &&
  match kind with
  | 0 => true
  | 1 => decide (i < 64 ∧ sub < 32)
  | 2 => decide (i < 256)
  | 3 => decide (i < 512 ∧ sub = 0)
  | 4 => decide (i < 512 ∧ sub = 0)
  | 5 => decide (i < 64 ∧ sub = 0)
  | 6 => true
  | _ => false

/-- An own-source entry in range: a source or empty (R85). -/
def ownOk (v : Nat) : Bool := decide (v < 2048 ∨ v = 0xFFFF)

/-- The range check of a record when it is added (R79, R85, Table 03-5, R71). -/
def Rec.ok (r : Rec) : Bool :=
  let z (l : List Nat) : Bool := l.all (· == 0)
  decide (fld r.w0 22 2 = 0 ∧ fld r.w0 11 9 = 0 ∧ r.ramp ≤ 1024) &&
  (match r.op with
  | 0x01 => decide (r.a < 2048) && z [r.b, r.gain, r.aux] && selectorOk r.w3
  | 0x02 => decide (r.a < 2048) && z [r.cls, r.b, r.gain, r.aux, r.aux2]
  | 0x03 => decide (r.a < 2048 ∧ r.b < 256) && refOk r.aux && z [r.aux2]
  | 0x04 => decide (r.a < 2048 ∧ r.b < 256) && z [r.cls, r.gain, r.aux, r.aux2]
  | 0x05 => decide (r.a < 256) && z [r.b, r.gain, r.aux2] && refOk r.aux
  | 0x06 => decide (r.a < 1024 ∧ r.b < 256) && z [r.aux, r.aux2]
  | 0x07 => decide (r.a < 1024 ∧ r.b < 256) && z [r.cls, r.gain, r.aux, r.aux2]
  | 0x08 => decide (r.a < 1024) && z [r.cls, r.b] && ownOk r.gain && ownOk r.aux &&
            ownOk (fld r.w3 16 16) && ownOk (fld r.w3 0 16)
  | 0x09 => decide (r.a < 2048 ∧ r.b < 2048) && z [r.aux, r.aux2]
  | 0x0A => decide (r.a < 2048 ∧ r.b < 2048) && z [r.cls, r.gain, r.aux, r.aux2]
  | 0x0B => decide (r.a < 2048) && z [r.b, r.aux, r.aux2]
  | 0x0C => decide (r.a < 2048) && z [r.cls, r.b, r.gain, r.aux, r.aux2]
  | 0x0D => decide (r.a < 2048 ∧ (r.b < 1024 ∨ r.b = 0xFFFF)) && z [r.cls, r.gain, r.aux, r.aux2]
  | 0x0E => decide (r.a < 2048 ∧ 16 ≤ r.gain ∧ r.gain ≤ 16384 ∧ 1 ≤ r.aux2 ∧ r.aux2 ≤ 16000) &&
            z [r.cls, r.b] && refOk r.aux
  | _ => false)

/-! ## Existence (R61, R74) -/

def Mix.srcLive (m : Mix) (s : Nat) : Bool :=
  match Tbl.get? m.sources s with
  | some x => x.live && x.dying.isNone
  | none => false

def Mix.dstLive (m : Mix) (d : Nat) : Bool :=
  match Tbl.get? m.dests d with
  | some x => x.live && x.dying.isNone
  | none => false

def findTalk (ts : List Talk) (b : Nat) : Option Talk := ts.find? fun t => t.bus == b

def Mix.talk? (m : Mix) (s b : Nat) : Option Talk :=
  match Tbl.get? m.sources s with
  | some x => findTalk x.talks b
  | none => none

def Mix.sub? (m : Mix) (l b : Nat) : Option Sub :=
  match Tbl.get? m.listeners l with
  | some x => x.subs.find? fun u => u.bus == b
  | none => none

/-- A listener exists as long as it has a subscription (R61). -/
def Mix.lstLive (m : Mix) (l : Nat) : Bool :=
  match Tbl.get? m.listeners l with
  | some x => !x.subs.isEmpty
  | none => false

/-- The listener has a subscription that is not ramping out, so that a change may name it (R74). -/
def Mix.lstNamed (m : Mix) (l : Nat) : Bool :=
  match Tbl.get? m.listeners l with
  | some x => x.subs.any fun u => !u.dying
  | none => false

def Mix.xp? (m : Mix) (s d : Nat) : Option (Nat × Xp) := m.xps.find? fun e => e.2.src == s && e.2.dst == d

def Mix.talkLive (m : Mix) (s b : Nat) : Bool := match m.talk? s b with | some t => !t.dying | none => false
def Mix.subLive (m : Mix) (l b : Nat) : Bool := match m.sub? l b with | some u => !u.dying | none => false
def Mix.xpLive (m : Mix) (s d : Nat) : Bool := match m.xp? s d with | some x => !x.2.dying | none => false

/-! ## Applying changes (R80, Table 03-5) -/

/-- The tables as they stand. -/
def Mix.tables (m : Mix) : Tables :=
  { ran := m.ran, sources := m.sources, buses := m.buses, listeners := m.listeners, xps := m.xps, dests := m.dests }

/-- What a set takes effect under: default ramp, key-gate ramp, the tables before the set, those of the stitch before the
boundary, the admission sequence number by change index, and the state of a key reference. -/
structure ApplyCtx where
  ramp : Nat
  keyRamp : Nat
  before : Mix
  heard : Tables
  seqOf : Nat → Nat
  keyOn : Nat → Bool

def ApplyCtx.len (c : ApplyCtx) (r : Rec) : Nat := if r.ramp = 0 then c.ramp else r.ramp

/-- A removed route ramps to 0; one that is ramping out already takes the new ramp from its present value (R74, R75). -/
def Talk.kill (t : Talk) (len : Nat) : Talk := { t with dying := true, eff := t.eff.fall len }
def Sub.kill (u : Sub) (len : Nat) : Sub := { u with dying := true, ramp := u.ramp.fall len }
def Xp.kill (x : Xp) (len : Nat) : Xp := { x with dying := true, ramp := x.ramp.fall len }

/-- The routes of a removed object: those of the tables before the set ramp out, those the set has made itself are never
instantiated (R74, R80). -/
def killTalks (c : ApplyCtx) (src len : Nat) (ts : List Talk) : List Talk :=
  (ts.filter fun t => (c.before.talk? src t.bus).isSome).map fun t => t.kill len

def killXps (c : ApplyCtx) (of : Xp → Bool) (len : Nat) (xps : Tbl Xp) : Tbl Xp :=
  Tbl.mapV (Tbl.keep xps fun _ x => !of x || (c.before.xp? x.src x.dst).isSome) fun _ x => if of x then x.kill len else x

/-- SRC_SET: a source that was not there in the stitch before starts with its input, without a crossfade (R80, R82,
Table 03-5). -/
def chSrcSet (c : ApplyCtx) (i : Nat) (r : Rec) (m : Mix) : Mix :=
  let len := c.len r
  let alone : List (Side Word) := [{ what := r.w3, w := unity }]
  let new : Source := match Tbl.get? m.sources r.a with
    | some x =>
      if x.live then { x with
        cls := r.cls, input := r.w3, dying := none
        sides := if (Tbl.get? c.heard.sources r.a).isSome then crossTo x.sides (some r.w3) len else alone
        seq := if c.before.srcLive r.a || x.dying.isNone then x.seq else c.seqOf i }
      else { x with live := true, cls := r.cls, input := r.w3, sides := alone, seq := c.seqOf i }
    | none => { cls := r.cls, input := r.w3, sides := alone, seq := c.seqOf i }
  { m with sources := Tbl.put m.sources r.a new }

def chSrcDel (c : ApplyCtx) (r : Rec) (m : Mix) : Mix :=
  let len := c.len r
  let xps := killXps c (fun x => x.src == r.a) len m.xps
  if (Tbl.get? c.before.sources r.a).isSome then
    { m with
      sources := Tbl.upd m.sources r.a fun x =>
        { x with dying := some (unity.fall len), talks := killTalks c r.a len x.talks }
      xps := xps }
  else { m with sources := Tbl.del m.sources r.a, xps := xps }

/-- The lowest slot number below `n` not taken by a list of slots. -/
def freeSlot (slots : List Nat) : Nat → Nat → Option Nat
  | 0, _ => none
  | n + 1, i => if slots.contains i then freeSlot slots n (i + 1) else some i

def insTalk (t : Talk) : List Talk → List Talk
  | [] => [t]
  | u :: us => if t.slot < u.slot then t :: u :: us else u :: insTalk t us

def insSub (t : Sub) : List Sub → List Sub
  | [] => [t]
  | u :: us => if t.slot < u.slot then t :: u :: us else u :: insSub t us

/-- TALK_SET on an assignment: its gain ramps from its present value while its gate is open, and an assignment without a
key has none; a gate that a new key closes ramps to 0 over the key ramp; a closed one only takes the gain it will open to
(R75, R77). One that ramped out comes to be anew (R74). -/
def Talk.change (c : ApplyCtx) (i : Nat) (r : Rec) (t : Talk) : Talk :=
  let isOn := r.aux / 16384 == 0 || (if t.key = r.aux then t.gateOpen else c.keyOn r.aux)
  { t with
    cls := r.cls, key := r.aux, gain := r.gain, dying := false, gateOpen := isOn
    eff := if isOn then t.eff.to r.gain (c.len r) else if t.gateOpen then t.eff.to 0 c.keyRamp else t.eff
    seq := if c.before.talkLive r.a r.b || !t.dying then t.seq else c.seqOf i }

/-- TALK_SET: an added assignment starts at gain 0 (R74). One for which there is no room takes a slot beyond the last
until the net effect of the set is known (R79). -/
def chTalkSet (c : ApplyCtx) (i : Nat) (r : Rec) (m : Mix) : Mix :=
  let len := c.len r
  let x := Tbl.getD m.sources r.a { live := false }
  let x' := match findTalk x.talks r.b with
    | some _ => { x with
        talks := x.talks.map fun t => if t.bus = r.b then t.change c i r else t }
    | none =>
      let isOn := r.aux / 16384 == 0 || c.keyOn r.aux
      match freeSlot (x.talks.map (·.slot)) 4112 0 with
      | some k => { x with
          talks := insTalk
            { slot := k, bus := r.b, cls := r.cls, key := r.aux, gain := r.gain, gateOpen := isOn
              eff := Ramp.to {} (if isOn then (r.gain : Int) else 0) len, seq := c.seqOf i } x.talks }
      | none => x
  { m with sources := Tbl.put m.sources r.a x' }

def chTalkDel (c : ApplyCtx) (r : Rec) (m : Mix) : Mix :=
  let len := c.len r
  { m with
    sources := Tbl.upd m.sources r.a fun x =>
      if (c.before.talk? r.a r.b).isSome then
        { x with talks := x.talks.map fun t => if t.bus = r.b then t.kill len else t }
      else { x with talks := x.talks.filter fun t => t.bus != r.b } }

def chBusSet (r : Rec) (m : Mix) : Mix :=
  { m with buses := Tbl.mod {} m.buses r.a fun x => { x with cls := r.cls, act := r.aux } }

def chSubSet (c : ApplyCtx) (i : Nat) (r : Rec) (m : Mix) : Mix :=
  let len := c.len r
  let x := Tbl.getD m.listeners r.a {}
  let x := if x.sides.isEmpty then { x with sides := [{ what := x.own, w := unity }] } else x
  let x' := match x.subs.find? fun u => u.bus == r.b with
    | some _ => { x with
        subs := x.subs.map fun u =>
          if u.bus = r.b then { u with
            cls := r.cls, gain := r.gain, dying := false, ramp := u.ramp.to r.gain len
            seq := if c.before.subLive r.a r.b || !u.dying then u.seq else c.seqOf i }
          else u }
    | none =>
      match freeSlot (x.subs.map (·.slot)) 4128 0 with
      | some k => { x with
          subs := insSub
            { slot := k, bus := r.b, cls := r.cls, gain := r.gain, ramp := Ramp.to {} r.gain len, seq := c.seqOf i }
            x.subs }
      | none => x
  { m with listeners := Tbl.put m.listeners r.a x' }

def chSubDel (c : ApplyCtx) (r : Rec) (m : Mix) : Mix :=
  let len := c.len r
  { m with
    listeners := Tbl.upd m.listeners r.a fun x =>
      if (c.before.sub? r.a r.b).isSome then
        { x with subs := x.subs.map fun u => if u.bus = r.b then u.kill len else u }
      else { x with subs := x.subs.filter fun u => u.bus != r.b } }

def Rec.own (r : Rec) : List Nat := [r.gain, r.aux, fld r.w3 16 16, fld r.w3 0 16]

def chOwnSet (c : ApplyCtx) (r : Rec) (m : Mix) : Mix :=
  { m with
    listeners := Tbl.mod {} m.listeners r.a fun x =>
      if (Tbl.get? c.heard.listeners r.a).isSome then { x with own := r.own, sides := crossTo x.sides (some r.own) (c.len r) }
      else { x with own := r.own, sides := [{ what := r.own, w := unity }] } }

def chXpSet (c : ApplyCtx) (i : Nat) (r : Rec) (m : Mix) : Mix :=
  let len := c.len r
  match m.xp? r.a r.b with
  | some (k, x) =>
    { m with
      xps := Tbl.put m.xps k { x with
        cls := r.cls, gain := r.gain, dying := false, ramp := x.ramp.to r.gain len
        seq := if c.before.xpLive r.a r.b || !x.dying then x.seq else c.seqOf i } }
  | none =>
    match Tbl.freeFrom m.xps 69632 0 with
    | some k => { m with
        xps := Tbl.put m.xps k { src := r.a, dst := r.b, cls := r.cls, gain := r.gain, ramp := Ramp.to {} r.gain len, seq := c.seqOf i } }
    | none => m

def chXpDel (c : ApplyCtx) (r : Rec) (m : Mix) : Mix :=
  if (c.before.xp? r.a r.b).isSome then
    { m with xps := Tbl.mapV m.xps fun _ x => if x.src = r.a ∧ x.dst = r.b then x.kill (c.len r) else x }
  else { m with xps := Tbl.keep m.xps fun _ x => !(x.src == r.a && x.dst == r.b) }

def chDstSet (c : ApplyCtx) (i : Nat) (r : Rec) (m : Mix) : Mix :=
  let len := c.len r
  let x := Tbl.getD m.dests r.a { live := false }
  let x' : Dst := if x.live then { x with
      cls := r.cls, gain := x.gain.to r.gain len, dying := none
      seq := if c.before.dstLive r.a || x.dying.isNone then x.seq else c.seqOf i }
    else { x with live := true, cls := r.cls, gain := Ramp.to {} r.gain len, seq := c.seqOf i }
  { m with dests := Tbl.put m.dests r.a x' }

def chDstDel (c : ApplyCtx) (r : Rec) (m : Mix) : Mix :=
  let len := c.len r
  let xps := killXps c (fun x => x.dst == r.a) len m.xps
  if (Tbl.get? c.before.dests r.a).isSome then
    { m with
      dests := Tbl.upd m.dests r.a fun x =>
        { x with dying := some (unity.fall len), feed := 0xFFFF, sides := crossTo x.sides none len }
      xps := xps }
  else { m with dests := Tbl.del m.dests r.a, xps := xps }

def feedOf (l : Nat) : Option Nat := if l = 0xFFFF then none else some l

def chDstFeed (c : ApplyCtx) (r : Rec) (m : Mix) : Mix :=
  let x := Tbl.getD m.dests r.a { live := false }
  { m with
    dests := Tbl.put m.dests r.a { x with
      feed := r.b, sides := crossTo x.sides (feedOf r.b) (c.len r) } }

/-- DST_DUCK: a new gain starts a one-stitch ramp while the destination is ducked (R71). -/
def chDstDuck (r : Rec) (m : Mix) : Mix :=
  let x := Tbl.getD m.dests r.a { live := false }
  { m with
    dests := Tbl.put m.dests r.a { x with
      duckGain := r.gain, duckAct := r.aux, duckRel := r.aux2
      duck := if x.ducked ∧ x.duckGain ≠ r.gain then x.duck.to r.gain 1 else x.duck } }

/-- One change, by its operation (Table 03-5). -/
def applyChange (c : ApplyCtx) (i : Nat) (r : Rec) (m : Mix) : Mix :=
  match r.op with
  | 0x01 => chSrcSet c i r m
  | 0x02 => chSrcDel c r m
  | 0x03 => chTalkSet c i r m
  | 0x04 => chTalkDel c r m
  | 0x05 => chBusSet r m
  | 0x06 => chSubSet c i r m
  | 0x07 => chSubDel c r m
  | 0x08 => chOwnSet c r m
  | 0x09 => chXpSet c i r m
  | 0x0A => chXpDel c r m
  | 0x0B => chDstSet c i r m
  | 0x0C => chDstDel c r m
  | 0x0D => chDstFeed c r m
  | 0x0E => chDstDuck r m
  | _ => m

/-- Changes in the order they were added, with their indices (R80). -/
def applyFrom (c : ApplyCtx) : Nat → List Rec → Mix → Mix
  | _, [], m => m
  | i, r :: rs, m => applyFrom c (i + 1) rs (applyChange c i r m)

/-- Talk assignments beyond the 16 slots move to free ones, now that the net effect is known (R61, R79). -/
def fitTalks (ts : List Talk) : List Talk :=
  (ts.filter fun t => decide (16 ≤ t.slot)).foldl (fun ts t =>
    match freeSlot (ts.map (·.slot)) 16 0 with
    | some k => insTalk { t with slot := k } (ts.filter fun u => u.slot != t.slot)
    | none => ts) ts

/-- Subscriptions beyond the 32 slots move to free ones. -/
def fitSubs (us : List Sub) : List Sub :=
  (us.filter fun u => decide (32 ≤ u.slot)).foldl (fun us u =>
    match freeSlot (us.map (·.slot)) 32 0 with
    | some k => insSub { u with slot := k } (us.filter fun v => v.slot != u.slot)
    | none => us) us

/-- Crosspoints beyond the 65,536 entries move to free ones. -/
def fitXps (xps : Tbl Xp) : Tbl Xp :=
  (xps.filter fun e => decide (65536 ≤ e.1)).foldl (fun xps e =>
    match Tbl.freeFrom xps 65536 0 with
    | some k => Tbl.put (Tbl.del xps e.1) k e.2
    | none => xps) xps

/-- Objects named but never created, and listeners without a subscription, do not exist (R61, R80). -/
def Mix.sweep (m : Mix) : Mix :=
  { m with
    sources := Tbl.mapV (Tbl.keep m.sources fun _ x => x.live) fun _ x => { x with talks := fitTalks x.talks }
    dests := Tbl.keep m.dests fun _ x => x.live
    listeners := Tbl.mapV (Tbl.keep m.listeners fun _ x => !x.subs.isEmpty) fun _ x => { x with subs := fitSubs x.subs }
    xps := fitXps m.xps
    buses := Tbl.keep m.buses fun _ x => x != {} }

/-- The tables a list of changes would leave (R79, R80). -/
def applyRecs (c : ApplyCtx) (rs : List Rec) (m : Mix) : Mix := (applyFrom c 0 rs m).sweep

/-! ## Checks at commit (R61, R69, R79, R479) -/

/-- A refusal of one change: code and MIX_REFUSE reason. -/
structure Fail where
  code : Code
  reason : Nat
  deriving DecidableEq, Repr

/-- The objects a change names exist in the tables its whole set leaves; an object to be deleted existed before the set
or was created in it (R79). `selCode` says whether an input selector may be named (R133, R149, R188, R293). -/
def nameFail (selCode : Word → Code) (before after : Mix) (all : List Rec) (r : Rec) : Option Fail :=
  let nf (ok : Bool) : Option Fail := if ok then none else some ⟨.notFound, 3⟩
  match r.op with
  | 0x01 => if (Tbl.getD after.sources r.a {}).input = r.w3 ∧ selCode r.w3 ≠ .ok then some ⟨selCode r.w3, 3⟩ else none
  | 0x02 => nf (before.srcLive r.a || all.any fun q => q.op == 1 && q.a == r.a)
  | 0x03 => nf (after.srcLive r.a)
  | 0x04 => nf (before.talkLive r.a r.b || all.any fun q => q.op == 3 && q.a == r.a && q.b == r.b)
  | 0x07 => nf (before.subLive r.a r.b || all.any fun q => q.op == 6 && q.a == r.a && q.b == r.b)
  | 0x08 => nf (after.lstNamed r.a)
  | 0x09 => nf (after.srcLive r.a && after.dstLive r.b)
  | 0x0A => nf (before.xpLive r.a r.b || all.any fun q => q.op == 9 && q.a == r.a && q.b == r.b)
  | 0x0C => nf (before.dstLive r.a || all.any fun q => q.op == 11 && q.a == r.a)
  | 0x0D => nf (after.dstLive r.a && (r.b == 0xFFFF || after.lstNamed r.b))
  | 0x0E => nf (after.dstLive r.a)
  | _ => none

/-- A change whose object finds no room in the net effect of its set, or needs a fifth side there (R61, R79, R479). -/
def roomFail (after : Mix) (r : Rec) : Option Fail :=
  let nc (ok : Bool) : Option Fail := if ok then none else some ⟨.noCapacity, 2⟩
  match r.op with
  | 0x01 => nc (match Tbl.get? after.sources r.a with | some x => decide (x.sides.length ≤ 4) | none => true)
  | 0x03 => nc (match after.talk? r.a r.b with | some t => decide (t.slot < 16) | none => true)
  | 0x06 => nc (match after.sub? r.a r.b with | some u => decide (u.slot < 32) | none => true)
  | 0x08 => nc (match Tbl.get? after.listeners r.a with | some x => decide (x.sides.length ≤ 4) | none => true)
  | 0x09 => nc (match after.xp? r.a r.b with | some e => decide (e.1 < 65536) | none => true)
  | 0x0D => nc (match Tbl.get? after.dests r.a with | some x => decide (x.sides.length ≤ 4) | none => true)
  | _ => none

/-- The larger of a ramp's present value and its target (R69). -/
def Ramp.most (r : Ramp) : Nat := (max r.now r.target).toNat

/-- A talk gain as R69 takes it: the larger of its present value and its target; a gated one also at the gain its gate
opens to, unless it is ramping out. -/
def Talk.most (t : Talk) : Nat := if t.dying || t.key / 16384 == 0 then t.eff.most else max t.gain t.eff.most

/-- `T_b` of R69: the sum of the talk gains on a bus. -/
def busWorst (m : Mix) (b : Nat) : Nat :=
  m.sources.foldl (fun a e => e.2.talks.foldl (fun a t => if t.bus = b then a + t.most else a) a) 0

/-- One listener's term of R69, every own-list variant counted. -/
def lstWorst (m : Mix) (l : Nat) : Nat :=
  match Tbl.get? m.listeners l with
  | some x => x.sides.length * x.subs.foldl (fun a u => a + u.ramp.most * busWorst m u.bus) 0
  | none => 0

/-- `A_d` of R69. -/
def dstWorst (m : Mix) (d : Nat) : Nat :=
  match Tbl.get? m.dests d with
  | some x =>
    x.gain.most * (x.sides.foldl (fun a f => a + f.w.most * lstWorst m f.what) 0 +
      (m.xps.foldl (fun a e => if e.2.dst = d then a + e.2.ramp.most else a) 0) * 2 ^ 28)
  | none => 0

/-- Does the destination hear a bus through a present feed? -/
def hearsBus (m : Mix) (d b : Nat) : Bool :=
  match Tbl.get? m.dests d with
  | some x => x.sides.any fun f => (m.sub? f.what b).isSome
  | none => false

/-- Does a change that adds a route or changes a gain touch a destination (R69)? -/
def touches (m : Mix) (r : Rec) (d : Nat) : Bool :=
  let feeds (l : Nat) : Bool := match Tbl.get? m.dests d with
    | some x => x.sides.any fun f => f.what == l
    | none => false
  match r.op with
  | 0x03 => hearsBus m d r.b
  | 0x06 => feeds r.a
  | 0x08 => feeds r.a
  | 0x09 => r.b == d
  | 0x0B => r.a == d
  | 0x0D => r.a == d
  | _ => false

/-- The worst-case check of one change (R69): `A_d ≤ 2^71` for every destination it touches. -/
def worstFail (after : Mix) (r : Rec) : Option Fail :=
  if after.dests.any fun e => touches after r e.1 && decide (2 ^ 71 < dstWorst after e.1) then some ⟨.badValue, 1⟩
  else none

/-- The order in which R23 ranks codes. -/
def Code.rank : Code → Nat
  | .ok => 99 | .access => 1 | .noRole => 2 | .locked => 3 | .passive => 4 | .busy => 5 | .badValue => 6
  | .notFound => 7 | .wrongState => 8 | .conflict => 9 | .timePast => 10 | .noCapacity => 11 | .markLost => 12
  | .integrity => 13 | .internal => 14 | .stale => 0

/-- The code of Table 01-3. -/
def Code.num : Code → Nat
  | .ok => 0 | .badValue => 1 | .locked => 2 | .busy => 3 | .noCapacity => 4 | .timePast => 5 | .noRole => 6
  | .wrongState => 7 | .access => 8 | .stale => 9 | .notFound => 10 | .conflict => 11 | .integrity => 12
  | .markLost => 13 | .passive => 14 | .internal => 15

/-- Of the reasons for which a request fails, the code that comes first in the order of R23. -/
def firstCode : List (Code × Bool) → Code
  | [] => .ok
  | (c, fails) :: rest => if fails ∧ c.rank < (firstCode rest).rank then c else firstCode rest

/-- The failure of a set chosen under R79: least rank, then first change. -/
def pickFail : Nat → List (List (Option Fail)) → Option (Fail × Nat)
  | _, [] => none
  | i, fs :: rest =>
    let here := fs.foldl (fun (a : Option Fail) f => match a, f with
      | none, f => f
      | some x, some y => if y.code.rank < x.code.rank then some y else some x
      | some x, none => some x) none
    match here, pickFail (i + 1) rest with
    | none, r => r
    | some f, none => some (f, i)
    | some f, some (g, j) => if f.code.rank ≤ g.code.rank then some (f, i) else some (g, j)

/-- The checks of R79 on the net effect of a set, but for the fabric test. -/
def setFail (selCode : Word → Code) (before after : Mix) (rs : List Rec) : Option (Fail × Nat) :=
  pickFail 0 (rs.map fun r => [worstFail after r, nameFail selCode before after rs r, roomFail after r])

/-- The admission sequence number of the object that a SET change names, if it exists. -/
def Mix.seqOf? (m : Mix) (r : Rec) : Option Nat :=
  match r.op with
  | 0x01 => (Tbl.get? m.sources r.a).map (·.seq)
  | 0x03 => (m.talk? r.a r.b).map (·.seq)
  | 0x06 => (m.sub? r.a r.b).map (·.seq)
  | 0x09 => (m.xp? r.a r.b).map (·.2.seq)
  | 0x0B => (Tbl.get? m.dests r.a).map (·.seq)
  | _ => none

/-- A number above every admission sequence number, with which changes mark the objects they create. -/
def seqMark : Nat := 2 ^ 80

/-- The indices of the changes that create an object the set leaves (R47, R80); one that brings back an object ramping out
is such a change (R74, log entry 18). -/
def createdBy (c : ApplyCtx) (rs : List Rec) (m : Mix) : List Nat :=
  let after := applyRecs { c with seqOf := fun i => seqMark + i } rs m
  rs.zipIdx.filterMap fun e => if after.seqOf? e.1 = some (seqMark + e.2) then some e.2 else none

/-- The object that a SET change names may be named: it exists and is not ramping out (R74); other changes name none. -/
def Mix.named (m : Mix) (r : Rec) : Bool :=
  match r.op with
  | 0x01 => m.srcLive r.a
  | 0x03 => m.talkLive r.a r.b
  | 0x06 => m.subLive r.a r.b
  | 0x09 => m.xpLive r.a r.b
  | 0x0B => m.dstLive r.a
  | _ => true

/-- Two changes set the same object. -/
def Rec.sameObject (r q : Rec) : Bool :=
  r.op == q.op && r.a == q.a && (r.b == q.b || !([0x03, 0x06, 0x09] : List Nat).contains r.op)

/-- The change sets an object that was shed before its set could create it: every change of the set that names the object
is lost with it (R83). -/
def BSet.loses (x : BSet) (r : Rec) : Bool :=
  x.lost.any fun i => match x.recs[i]? with | some q => q.sameObject r | none => false

/-- A change that was to change an object which no longer exists at its boundary (R83): it is not one of those that
create, and none of those of its set creates the object. -/
def gone (before : Mix) (created : List Nat) (rs : List (Rec × Nat)) (e : Rec × Nat) : Bool :=
  !before.named e.1 && !rs.any fun q => created.contains q.2 && q.1.sameObject e.1

/-- The admission sequence number of a change's object: consecutive from `base` in change order (R47). -/
def seqIn (base : Nat) : List Nat → Nat → Nat
  | [], _ => base
  | j :: js, i => if j = i then base else seqIn (base + 1) js i

/-- The classes of the work a set adds: objects it creates or brings back, and objects whose class it changes (R40, R74,
Table 03-5). A further own-list variant adds the work of the subscriptions (R76, log entry 19). -/
def addedClasses (before after : Mix) (rs : List Rec) : List Nat :=
  let add (r : Rec) (old : Option Nat) : Option Nat := if before.named r ∧ old = some r.cls then none else some r.cls
  rs.filterMap fun r =>
    match r.op with
    | 0x01 => if after.srcLive r.a then add r ((Tbl.get? before.sources r.a).map (·.cls)) else none
    | 0x03 => if after.talkLive r.a r.b then add r ((before.talk? r.a r.b).map (·.cls)) else none
    | 0x06 => if after.subLive r.a r.b then add r ((before.sub? r.a r.b).map (·.cls)) else none
    | 0x08 => match Tbl.get? before.listeners r.a, Tbl.get? after.listeners r.a with
        | some x, some y => if x.sides.length < y.sides.length then (y.subs.map (·.cls)).max? else none
        | _, _ => none
    | 0x09 => if after.xpLive r.a r.b then add r ((before.xp? r.a r.b).map (·.2.cls)) else none
    | 0x0B => if after.dstLive r.a then add r ((Tbl.get? before.dests r.a).map (·.cls)) else none
    | _ => none

/-! ## Demand of the mix (R31, Table 02-1) -/

def Demand.add (d : Demand) (cls wu : Nat) : Demand :=
  match cls with
  | 0 => { d with d0 := d.d0 + wu }
  | 1 => { d with d1 := d.d1 + wu }
  | 2 => { d with d2 := d.d2 + wu }
  | _ => { d with d3 := d.d3 + wu }

/-- Classes 1 to 3 together (R40). -/
def Demand.low (d : Demand) : Nat := d.d1 + d.d2 + d.d3

def Demand.all (d : Demand) : Nat := d.d0 + d.low

/-- The demand of the objects of the mix: every object instantiated, those ramping out too, and the subscriptions once
for each own-list variant (R31, R76). Table 02-1 gives a side of a feed, of a source input or of a channel map no cost of
its own, and the model counts none (DESIGN CHOICE, log entry 52). -/
def Mix.demand (m : Mix) (d : Demand) : Demand :=
  let d := m.sources.foldl (fun d e => e.2.talks.foldl (fun d t => d.add t.cls 6) (d.add e.2.cls 120)) d
  let d := m.listeners.foldl (fun d e =>
    e.2.subs.foldl (fun d u => d.add u.cls (12 * max 1 e.2.sides.length)) d) d
  let d := m.xps.foldl (fun d e => d.add e.2.cls 6) d
  m.dests.foldl (fun d e => d.add e.2.cls 180) d

/-! ## The end of ramps (R74, R76, RAMP_END) -/

def Talk.settle (t : Talk) : Talk := { t with eff := t.eff.settle }
def Sub.settle (t : Sub) : Sub := { t with ramp := t.ramp.settle }
def Xp.settle (t : Xp) : Xp := { t with ramp := t.ramp.settle }

/-- A ramping-out object is over when its ramp has no stitch to go (R74). -/
def rampOver (r : Option Ramp) : Bool := match r with | some r => !r.running | none => false

/-- A source that ramps out is over: its ramp has ended and so has that of every route from it (R74). -/
def srcOver (m : Mix) (k : Nat) (x : Source) : Bool :=
  rampOver x.dying && !(x.talks.any fun t => t.eff.running) && !m.xps.any fun e => e.2.src == k && e.2.ramp.running

/-- A destination that ramps out is over. -/
def dstOver (m : Mix) (d : Nat) (x : Dst) : Bool :=
  rampOver x.dying && !m.xps.any fun e => e.2.dst == d && e.2.ramp.running

/-- Every ramp that has reached its last stitch settles; routes, sources and destinations that have ramped out are
deleted; sides whose weight is 0 are dropped; a listener whose last subscription has gone no longer exists. -/
def Mix.endRamps (m : Mix) : Mix :=
  { m with
    sources := (Tbl.mapV (Tbl.keep m.sources fun k x => !srcOver m k x) fun _ x =>
      { x with
        sides := settleSides x.sides
        talks := (x.talks.filter fun t => !(t.dying && !t.eff.running)).map Talk.settle })
    listeners := Tbl.keep (Tbl.mapV m.listeners fun _ x =>
      { x with
        sides := settleSides x.sides
        subs := (x.subs.filter fun u => !(u.dying && !u.ramp.running)).map Sub.settle }) fun _ x => !x.subs.isEmpty
    xps := Tbl.mapV (Tbl.keep m.xps fun _ x => !(x.dying && !x.ramp.running)) fun _ x => x.settle
    dests := Tbl.mapV (Tbl.keep m.dests fun d x => !dstOver m d x) fun _ x =>
      { x with
        gain := x.gain.settle, sides := settleSides x.sides, duck := x.duck.settle
        fence := match x.fence with
          | .ramp r => if r.running then .ramp r else .none
          | f => f } }

/-- A stitch of every ramp of the mix is over (R73). -/
def Mix.stepRamps (m : Mix) : Mix :=
  { m with
    sources := Tbl.mapV m.sources fun _ x =>
      { x with
        sides := stepSides x.sides, dying := x.dying.map Ramp.step
        talks := x.talks.map fun t => { t with eff := t.eff.step } }
    listeners := Tbl.mapV m.listeners fun _ x =>
      { x with sides := stepSides x.sides, subs := x.subs.map fun u => { u with ramp := u.ramp.step } }
    xps := Tbl.mapV m.xps fun _ x => { x with ramp := x.ramp.step }
    dests := Tbl.mapV m.dests fun _ x =>
      { x with
        gain := x.gain.step, sides := stepSides x.sides, duck := x.duck.step, dying := x.dying.map Ramp.step
        fence := match x.fence with | .ramp r => .ramp r.step | f => f } }

end Sys2Proof.Machine
end

