-- ==== Sys2Proof/Machine/Numeric.lean ====
section
/-! DEFINITION. The real-valued functions of spec/04, each taken exactly and rounded once half-to-even: logarithms by
integer power comparison, exponentials by a fixed-point series with 256 fraction bits (UNVERIFIED only for a value
closer than 2^-200 to a tie; log entry 12). -/

namespace Sys2Proof.Machine

/-- Is `S × log10(a / b)` at least `r - 1/2`? Compared as `10^(2r-1) × b^(2S) ≤ a^(2S)`. -/
def logReaches (S a b : Nat) (r : Int) : Bool :=
  let e := 2 * r - 1
  if 0 ≤ e then decide (10 ^ e.toNat * b ^ (2 * S) ≤ a ^ (2 * S))
  else decide (b ^ (2 * S) ≤ a ^ (2 * S) * 10 ^ (-e).toNat)

/-- The greatest value `lo + n`, `n < 2^bits`, that satisfies a downward-closed test; `lo` if none does. -/
def climb (p : Int → Bool) : Nat → Int → Int
  | 0, lo => lo
  | n + 1, lo => if p (lo + (2 ^ n : Nat)) then climb p n (lo + (2 ^ n : Nat)) else climb p n lo

/-- `round(S × log10(a / b))`, floored at `lo`; a zero magnitude gives the floor (R92, R100, R105, R106). -/
def logRound (S a b : Nat) (lo : Int) : Int :=
  if a = 0 then lo else if a = b then 0 else climb (logReaches S a b) 18 lo

/-- 2^256, the scale of the series. -/
def fixOne : Nat := 2 ^ 256

/-- `ln 10` at scale 2^-256. -/
def fixLn10 : Nat := 266621138564480548222253459415182587429914225440519472036001743423645469947338

/-- The series of `exp(x)`, `x` at scale 2^-256, from term `n` on. -/
def expTerms : Nat → Nat → Int → Int → Int → Int
  | 0, _, _, _, acc => acc
  | fuel + 1, n, x, t, acc =>
    let t' := t * x / (fixOne : Int) / (n : Int)
    expTerms fuel (n + 1) x t' (acc + t')

/-- `exp(x)` at scale 2^-256 for a moderate `x` at the same scale. -/
def fixExp (x : Int) : Int := expTerms 130 1 x fixOne fixOne

/-- `round(2^32 × (1 − exp(−num / den)))`: the smoothing coefficients of R93 and R100. -/
def smoothing (num den : Nat) : Nat :=
  (rdiv ((2 ^ 32 : Nat) * ((fixOne : Int) - fixExp (-((num * fixOne / den : Nat) : Int)))) fixOne).toNat

/-- `round_exact(2^24 × 10^(gs / (20 × 2^26)))` (R93). -/
def dbGain (gs : Int) : Nat :=
  let d : Int := 1342177280
  let q := gs / d
  let f := gs - q * d
  let e := fixExp (f * fixLn10 / d)
  if 0 ≤ q then (rdiv ((2 ^ 24 : Nat) * (10 ^ q.toNat : Nat) * e) fixOne).toNat
  else (rdiv ((2 ^ 24 : Nat) * e) ((fixOne * 10 ^ (-q).toNat : Nat) : Int)).toNat

/-- The detector level of a magnitude, 1/1024 dB (R92 DBQ). -/
def dbq (a : Nat) : Int := logRound 20480 a 8388607 (-131072)

/-- The RMS detector level of a sum of 480 squares (R92). -/
def rmsLevel (q : Nat) : Int := logRound 10240 (2 * q) (480 * 8388607 ^ 2) (-131072)

/-- The meter code of a magnitude, 1/64 dB (R106). -/
def meterCode (a : Nat) : Int := logRound 1280 a 8388607 (-8192)

/-- The RMS meter code of a sum of 14,400 squares (R105). -/
def meterRms (q : Nat) : Int := logRound 640 (2 * q) (14400 * 8388607 ^ 2) (-8192)

/-- HEM_GR of a hem gain with 2^30 as unity (R100). -/
def hemGr (g : Nat) : Int := logRound 1280 g (2 ^ 30) (-8192)

/-- The ceiling sample: `floor(8,388,607 × 10^(−CEIL/40))` (R98). -/
def ceilSample (ceil : Nat) : Nat :=
  if ceil = 0 then 8388607
  else (climb (fun c => decide (c.toNat ^ 40 * 10 ^ ceil ≤ 8388607 ^ 40)) 23 0).toNat

/-- The VOX threshold sample: `round(8,388,607 × 10^(−THR/40))` (R108). -/
def voxSample (thr : Nat) : Nat :=
  (climb (fun r => decide ((2 * r - 1).toNat ^ 40 * 10 ^ thr ≤ (2 * 8388607) ^ 40)) 23 0).toNat

/-- The Butterworth coefficients b0, a1, a2 of R89 at 40, 80, 120 and 160 Hz, rounded as it gives. -/
def hpfCoef : Nat → Int × Int × Int
  | 1 => (1069773750, -2139532835, 1065820340)
  | 2 => (1065820340, -2131582238, 1057957296)
  | 3 => (1061881538, -2123632067, 1050152262)
  | _ => (1057957290, -2115682527, 1042404809)

/-- One output block fading to zero from its last sample: `x × (5 − k) / 6`, rounded half-to-even (R54, R120). -/
def fadeBlock (x : Int) : List Int := [0, 1, 2, 3, 4, 5].map fun k => rdiv (x * (5 - k)) 6

/-- Sample `k` of a fade from `x` over a stitch of `n` samples, and of a ramp in (log entry 66). -/
def fadeAt (n : Nat) (x : Int) (k : Nat) : Int := rdiv (x * ((n - 1 - k : Nat) : Int)) n
def fadeInAt (n : Nat) (x : Int) (k : Nat) : Int :=
  sat24 (rhe (x * Int.tdiv (16384 * ((min (k + 1) n : Nat) : Int)) n) 14)

/-- A block of zeros. -/
def zeros6 : List Int := [0, 0, 0, 0, 0, 0]

/-- A block ramped in from zero over one stitch (R72 with L = 1, R120). -/
def fadeInBlock (xs : List Int) : List Int :=
  (xs.zipIdx).map fun e => sat24 (rhe (e.1 * Int.tdiv (16384 * ((e.2 + 1 : Nat) : Int)) 6) 14)

/-- The last sample of a block. -/
def lastOf (xs : List Int) : Int := xs.getLastD 0

end Sys2Proof.Machine
end

