-- ==== Sys2Proof/Machine/Ops.lean ====
section
/-! DEFINITION. The named operations over the state: register storage, fields, values in force, event flags, free
values and emissions. -/

namespace Sys2Proof.Machine

/-! ## Stored registers -/

/-- The stored word of a register: the value written last, else its reset value (R5, R24). -/
def rd (s : State) (r : Reg) (i : Nat := 0) (j : Nat := 0) : Word :=
  Tbl.getD s.rf.regs (addr r i j) (word (desc r).reset)

/-- The reset word of the register at an offset. -/
def resetAt (off : Nat) : Word := match findReg off with | some (r, _) => word (desc r).reset | none => 0

/-- Store a word in a register; the reset value leaves no entry. -/
def wr (s : State) (r : Reg) (v : Word) (i : Nat := 0) (j : Nat := 0) : State :=
  { s with rf := { s.rf with regs := Tbl.set (word (desc r).reset) s.rf.regs (addr r i j) v } }

/-- The word in force: the one written last, unless that one still waits for its boundary (R13, R14, R110). -/
def rdF (s : State) (r : Reg) (i : Nat := 0) (j : Nat := 0) : Word :=
  match Tbl.get? s.rf.force (addr r i j) with
  | some w => w
  | none => rd s r i j

/-- A field as written. -/
def fv (s : State) (f : Fd) (i : Nat := 0) (j : Nat := 0) : Nat := fld (rd s f.reg i j) f.lo f.n

/-- A field in force. -/
def ff (s : State) (f : Fd) (i : Nat := 0) (j : Nat := 0) : Nat := fld (rdF s f.reg i j) f.lo f.n

/-- A one-bit field as written. -/
def fb (s : State) (f : Fd) (i : Nat := 0) (j : Nat := 0) : Bool := fv s f i j == 1

/-- Write one field of a stored register. -/
def setFd (s : State) (f : Fd) (v : Nat) (i : Nat := 0) (j : Nat := 0) : State :=
  let w := (rd s f.reg i j).toNat
  wr s f.reg (word (w - at_ f.lo (fld (word w) f.lo f.n) + at_ f.lo (v % 2 ^ f.n))) i j

/-- The event group of a block event register (Table 14-1). -/
def evtGroup : Reg → Option Nat
  | .GLB_EVENT => some 0 | .FAB_EVENT => some 1 | .TB_EVENT => some 2 | .REF_EVENT => some 3 | .SYN_EVENT => some 4
  | .LN_EVENT => some 5 | .SW_EVENT => some 6 | .STR_EVENT => some 7 | .MIX_EVENT => some 8 | .DYN_EVENT => some 9
  | .RB_EVENT => some 10 | .CIO_EVENT => some 11 | .SPL_EVENT => some 12 | .EVT_EVENT => some 13
  | .SES_EVENT => some 14 | .PR_EVENT => some 15 | .SAF_EVENT => some 16 | .PL_EVENT => some 17
  | _ => none

/-- The event register of a block group (Table 14-1). -/
def groupReg : Nat → Option Reg
  | 0 => some .GLB_EVENT | 1 => some .FAB_EVENT | 2 => some .TB_EVENT | 3 => some .REF_EVENT | 4 => some .SYN_EVENT
  | 5 => some .LN_EVENT | 6 => some .SW_EVENT | 7 => some .STR_EVENT | 8 => some .MIX_EVENT | 9 => some .DYN_EVENT
  | 10 => some .RB_EVENT | 11 => some .CIO_EVENT | 12 => some .SPL_EVENT | 13 => some .EVT_EVENT
  | 14 => some .SES_EVENT | 15 => some .PR_EVENT | 16 => some .SAF_EVENT | 17 => some .PL_EVENT
  | _ => none

/-- The numbers of the bits set in `v`, from bit `i` on. -/
def bitsOf (v : Nat) : Nat → Nat → List Nat
  | 0, _ => []
  | n + 1, i => if v / 2 ^ i % 2 = 1 then i :: bitsOf v n (i + 1) else bitsOf v n (i + 1)

/-- Edges of block sources that wait to be sensed (R311). -/
def pushEdges (s : State) (r : Reg) (changed : Nat) (up : Bool) : State :=
  match evtGroup r with
  | some g => { s with evt := { s.evt with edges := s.evt.edges ++ (bitsOf changed 32 0).map fun b => (64 * g + b, up) } }
  | none => s

/-- Raise flags of an event register: bits set stay set until cleared (R24 W1C, R363); a flag that is already 1 gives
no new rise (R311). -/
def raise (s : State) (r : Reg) (bits : Nat) (i : Nat := 0) : State :=
  let old := (rd s r i).toNat
  pushEdges (wr s r (word (old ||| bits)) i) r ((old ||| bits) ^^^ old) true

/-- A hit on an object source (R311); hits of one instant count as one (R312). -/
def hitSource (s : State) (src : Nat) : State :=
  if s.evt.hits.contains src then s else { s with evt := { s.evt with hits := s.evt.hits ++ [src] } }

/-- A condition of an attached object: its mask bit selects a hit (R312, Table 14-2). -/
def hitAttached (s : State) (att : Reg) (i bitNo : Nat) : State :=
  let w := rd s att i
  if bit w 31 && bit w (8 + bitNo) then hitSource s (1792 + fld w 0 8) else s

/-- Raise flags when a condition holds. -/
def raiseIf (c : Bool) (s : State) (r : Reg) (bits : Nat) (i : Nat := 0) : State := if c then raise s r bits i else s

/-! ## Changes that wait for their boundary (R14) -/

/-- Store a word that acts at the first boundary at least 20 µs later; until then the present one stays in force. -/
def wrLater (s : State) (r : Reg) (v : Word) (i : Nat := 0) (j : Nat := 0) : State :=
  let off := addr r i j
  let old := rdF s r i j
  let s := wr s r v i j
  { s with rf := { s.rf with force := Tbl.put s.rf.force off old, waits := s.rf.waits ++ [(s.now, off, v)] } }

/-- Is something accepted at `t` due at the boundary that is now (R14)? -/
def dueNow (s : State) (t : Nat) : Bool := decide (t + 20000 ≤ s.now)

/-- The word in force at the boundary that is now: of the words that come into force at it the latest, else the one in
force (R13, R14). -/
def rdAt (s : State) (r : Reg) (i : Nat := 0) (j : Nat := 0) : Word :=
  s.rf.waits.foldl (fun w e => if e.2.1 = addr r i j ∧ dueNow s e.1 then e.2.2 else w) (rdF s r i j)

/-- The stitch of the latest boundary is being computed: its fence has not come (R11, R86). -/
def computing (s : State) : Bool := s.mix.audioOn && s.mix.ran && s.shed.fenced != some s.mix.stitch

/-- The stitch at which a change accepted at `t` takes effect, if boundaries come every 125 µs (R14). -/
def effectAt (s : State) (t : Nat) : Nat := s.mix.stitch + max 1 ((t + 20000 - s.mix.boundaryAt + 124999) / 125000)

/-- The word that comes into force at the boundary that is now is in force from here on. -/
def landReg (s : State) (r : Reg) (i : Nat := 0) (j : Nat := 0) : State :=
  if (Tbl.get? s.rf.force (addr r i j)).isSome then
    { s with rf := { s.rf with force := Tbl.put s.rf.force (addr r i j) (rdAt s r i j) } }
  else s

/-- The words that wait for an offset, each with the stitch at which it takes effect. -/
def waitingFor (s : State) (off : Nat) : List (Nat × Word) :=
  s.rf.waits.filterMap fun w => if w.2.1 = off then some (effectAt s w.1, w.2.2) else none

/-- One waiting value comes into force. -/
def landOne (rf : RegFile) (w : Nat × Nat × Word) : RegFile := { rf with force := Tbl.put rf.force w.2.1 w.2.2 }

/-- The reference registers, which come into force at the end of a one-second window (R249). -/
def windowReg (off : Nat) : Bool := decide (0x30000 ≤ off ∧ off < 0x32000)

/-- The waiting values that are due come into force, in the order they were accepted; a register with nothing more
waiting is in force as written, but for those that wait for their window. -/
def landWaits (s : State) : State :=
  let due := s.rf.waits.filter fun w => dueNow s w.1
  let rest := s.rf.waits.filter fun w => !dueNow s w.1
  let rf := due.foldl landOne s.rf
  { s with rf := { rf with
      force := Tbl.keep rf.force fun off _ => windowReg off || rest.any fun w => w.2.1 == off
      waits := rest } }

/-! ## Free values and emissions -/

/-- Take the next number for a free value (log entry 3). -/
def draw (s : State) : Nat × State := (s.freeCtr, { s with freeCtr := s.freeCtr + 1 })

/-- Something leaves the module. -/
def emit (s : State) (e : Emission) : State := { s with emitted := s.emitted ++ [e] }

/-- Apply a change to the state for each element, in order. -/
def forEach {α : Type} (xs : List α) (s : State) (f : α → State → State) : State := xs.foldl (fun s x => f x s) s

/-! ## Time of a time base (R15, R16) -/

def tbOf (s : State) (k : Nat) : TimeBase := Tbl.getD s.tb.tbs k {}

/-- One nanosecond in the unit of `TimeBase.t`. -/
def tbUnit : Nat := 256000000000

/-- Total nanoseconds (R221). -/
def tns (s : State) (k : Nat) : Nat := (tbOf s k).t / tbUnit

/-- The tack (R16). -/
def tack (s : State) (k : Nat) : Nat := tns s k % 2 ^ 32

/-- Seconds and nanoseconds of extended time (R15). -/
def tbSec (s : State) (k : Nat) : Nat := tns s k / 1000000000
def tbNs (s : State) (k : Nat) : Nat := tns s k % 1000000000

/-- The fraction of a nanosecond in 2^-16 ns (R15). -/
def tbFrac (s : State) (k : Nat) : Nat := (tbOf s k).t % tbUnit * 65536 / tbUnit

/-- The time in 1/16 ns (R206). -/
def tb16 (s : State) (k : Nat) : Nat := (tbOf s k).t / (tbUnit / 16)

/-- The MAC address of a port (R201, R381). -/
def macOf (s : State) (n : Nat) : Nat := match Tbl.get? s.glb.macs n with | some m => m | none => (Config.factoryMac n).toNat

/-- A fault is presented to the thimble, which takes it within the same command (R445). -/
def reportFault (s : State) (code detail region : Nat) (inj : Bool := false) : State :=
  { s with saf := { s.saf with due := s.saf.due ++ [{ code := code, detail := detail, region := region, inj := inj }] } }

/-- A block is held in its safe state (R454); blocks are numbered as in Table 16-1. -/
def held (s : State) (blk : Nat) : Bool := s.saf.safe / 2 ^ blk % 2 == 1

/-! ## Groups of block updates -/

def State.setFab (s : State) (f : Fab → Fab) : State := { s with fab := f s.fab }
def State.setMix (s : State) (f : Mix → Mix) : State := { s with mix := f s.mix }
def State.setDyn (s : State) (f : Dyn → Dyn) : State := { s with dyn := f s.dyn }
def State.setRb (s : State) (f : Bridges → Bridges) : State := { s with rb := f s.rb }
def State.setLn (s : State) (f : Lanes → Lanes) : State := { s with ln := f s.ln }
def State.setSw (s : State) (f : Switch → Switch) : State := { s with sw := f s.sw }
def State.setTb (s : State) (f : TimeBases → TimeBases) : State := { s with tb := f s.tb }
def State.setEvt (s : State) (f : Evt → Evt) : State := { s with evt := f s.evt }
def State.setStr (s : State) (f : Streams → Streams) : State := { s with str := f s.str }
def State.setRef (s : State) (f : Refs → Refs) : State := { s with ref := f s.ref }
def State.setSyn (s : State) (f : Syns → Syns) : State := { s with syn := f s.syn }
def State.setCio (s : State) (f : Cio → Cio) : State := { s with cio := f s.cio }
def State.setSpl (s : State) (f : Spools → Spools) : State := { s with spl := f s.spl }
def State.setSaf (s : State) (f : Saf → Saf) : State := { s with saf := f s.saf }
def State.setGlb (s : State) (f : Glb → Glb) : State := { s with glb := f s.glb }

end Sys2Proof.Machine
end

