-- ==== Sys2Proof/Machine/Events.lean ====
section
/-! DEFINITION. Event sources, moderation, MSI-X delivery and the priority stacks, sleep and wake (spec/14). -/

namespace Sys2Proof.Machine

/-- The configuration word of a source (Table 14-10). -/
def evCfg (s : State) (src : Nat) : Word := if src < 1792 then rd s .EV_CFG src else rd s .EV_OCFG (src - 1792)

def evEn (s : State) (src : Nat) : Bool := bit (evCfg s src) 31
def evSense (s : State) (src : Nat) : Nat := fld (evCfg s src) 24 2
def evPrio (s : State) (src : Nat) : Nat := fld (evCfg s src) 16 4
def evTarget (s : State) (src : Nat) : Nat := fld (evCfg s src) 8 3
def evVec (s : State) (src : Nat) : Nat := fld (evCfg s src) 0 6

def evSrc (s : State) (src : Nat) : EvSrc := Tbl.getD s.evt.srcs src {}
def evGrp (s : State) (g : Nat) : EvGrp := Tbl.getD s.evt.grps g {}
def evTgt (s : State) (t : Nat) : Tgt := Tbl.getD s.evt.tgts t {}

def setSrc (s : State) (src : Nat) (x : EvSrc) : State :=
  s.setEvt fun e => { e with srcs := Tbl.set {} e.srcs src x }
def setSrcState (s : State) (src : Nat) (x : EvState) : State := setSrc s src { evSrc s src with state := x }
def setGrp (s : State) (g : Nat) (x : EvGrp) : State := s.setEvt fun e => { e with grps := Tbl.put e.grps g x }
def setTgt (s : State) (t : Nat) (x : Tgt) : State := s.setEvt fun e => { e with tgts := Tbl.put e.tgts t x }

/-- The present input level of a source: its flag; object sources read 0 (R311, Table 14-10). -/
def evInput (s : State) (src : Nat) : Bool :=
  match groupReg (src / 64) with
  | some r => bit (rd s r) (src % 64)
  | none => false

/-- Is a target asleep (R324, R327)? -/
def asleep (s : State) (t : Nat) : Bool :=
  s.evt.reachedL0 && (fb s .TGT_CTRL_SLEEP t || s.evt.dstate != .d0 ||
    match s.evt.link with
    | .l2 => true | .l3 => true | .down => true
    | _ => false)

/-- The sources HELD in a group (R315). -/
def heldIn (s : State) (g : Nat) : List Nat :=
  s.evt.srcs.filterMap fun e => if e.1 / 64 = g ∧ e.2.state = .held then some e.1 else none

/-- A target with a queued enabled source while asleep holds WAKE# asserted (R326). -/
def waking (s : State) (t : Nat) : Bool :=
  asleep s t && s.evt.srcs.any fun e => e.2.state == .queued && evEn s e.1 && evTarget s e.1 == t

def anyWaking (s : State) : Bool := [0, 1, 2, 3, 4, 5, 6, 7].any (waking s)

/-- Put the WAKE# pin where R326 wants it; each assertion raises WAKE. -/
def wakeUpdate (s : State) : State :=
  let want := anyWaking s && !held s 13
  if want = s.evt.wake then s
  else
    let s := emit (s.setEvt fun e => { e with wake := want, pme := e.pme || want }) (.wakePin want)
    if want then raise s .EVT_EVENT 0x100 else s

/-- The sessions that subscribe to a source (R328). -/
def subscribers (s : State) (src : Nat) : List Nat :=
  s.ses.ses.filterMap fun e => if e.2.subs.contains src then some e.2.id else none

/-- Release one source (R315, R327, R328): counted for its group, notified if enabled, queued, or back to IDLE before
the link has reached L0. -/
def releaseSrc (s : State) (src : Nat) : State :=
  let g := evGrp s (src / 64)
  let s := setGrp s (src / 64) { g with releases := satInc 0xFFFF g.releases }
  let s := if evEn s src then s.setEvt fun e => { e with released := e.released ++ [(src, tack s 0, subscribers s src)] } else s
  setSrcState s src (if s.evt.reachedL0 then .queued else .idle)

/-- Release every HELD source of a group at once (R315, R316). -/
def releaseHeld (s : State) (g : Nat) : State := forEach (heldIn s g) s fun src s => releaseSrc s src

/-- A block group releases everything it holds; its interval is over (R315). -/
def releaseGroup (s : State) (g : Nat) : State :=
  let s := releaseHeld s g
  setGrp s g { evGrp s g with from_ := none, count := 0, due := false }

/-- Has the open interval or hold-off of a group run out (R315, R316, R317)? -/
def intervalOver (s : State) (g : Nat) : Bool :=
  match (evGrp s g).from_ with
  | some t => decide (t + 1000 * (evGrp s g).time ≤ s.now)
  | none => false

/-- Open the hold-off of an object group (R316). -/
def openHoldoff (s : State) (g : Nat) : State :=
  let h := fv s .EV_HGRP_HOLDOFF (g - 28)
  setGrp s g { evGrp s g with from_ := if h = 0 then none else some s.now, time := h, due := false }

/-- The end of a hold-off: what is held is released and a new hold-off opens, else the group leaves hold-off (R316). -/
def endHoldoff (s : State) (g : Nat) : State :=
  if (heldIn s g).isEmpty then setGrp s g { evGrp s g with from_ := none }
  else openHoldoff (releaseHeld s g) g

/-- Groups that are due release, after what happens at the same instant has been sensed (R329; DESIGN CHOICE, log entry
106). -/
def releaseDue (s : State) : State :=
  let due := s.evt.grps.filterMap fun e => if e.2.due then some e.1 else none
  forEach due s fun g s => if g < 28 then releaseGroup s g else openHoldoff (releaseHeld s g) g

/-- An assertion counts in the open interval of a block group, or opens one; the group is due when CNT is reached
(R315). -/
def countIn (s : State) (g : Nat) : State :=
  let x := evGrp s g
  let x : EvGrp := match x.from_ with
    | some _ => { x with count := x.count + 1 }
    | none => { x with from_ := some s.now, time := fv s .EV_GRP_TIME g, cnt := fv s .EV_GRP_CNT g, count := 1 }
  setGrp s g { x with due := decide (x.cnt ≤ x.count) }

/-- Enter moderation (R315, R316, R325): the source becomes HELD, and its group is due where it releases at this
instant; the sources of a target asleep are released on their own. -/
def moderate (s : State) (src : Nat) : State :=
  let g := src / 64
  if asleep s (evTarget s src) then releaseSrc s src
  else if g < 28 then
    countIn (setSrcState (if intervalOver s g then releaseGroup s g else s) src .held) g
  else
    let s := setSrcState s src .held
    let x := evGrp s g
    if x.from_.isNone ∨ intervalOver s g then setGrp s g { x with due := true } else s

/-- One more assertion while a source is HELD counts for its block group; at the end of the interval it counts for the
next one, and a source that is IDLE once it is released is HELD again (R315). -/
def countAgain (s : State) (src : Nat) : State :=
  let g := src / 64
  if g < 28 then
    if intervalOver s g then
      let s := releaseGroup s g
      countIn (if (evSrc s src).state = .idle then setSrcState s src .held else s) g
    else countIn s g
  else s

/-- One assertion of a source (R314, Table 14-3). -/
def assertSrc (s : State) (src : Nat) : State :=
  wakeUpdate (match (evSrc s src).state with
  | .idle => if evEn s src then moderate s src else setSrcState s src .latched
  | .held => countAgain s src
  | .inService => setSrc s src { evSrc s src with again := true }
  | _ => s)

/-- Take the first edge of a source that waits to be sensed. -/
def takeEdge : List (Nat × Bool) → Nat → Option Bool × List (Nat × Bool)
  | [], _ => (none, [])
  | (j, up) :: rest, src =>
    if j = src then (some up, rest)
    else let r := takeEdge rest src; (r.1, (j, up) :: r.2)

/-- Does an edge assert a source of a sense (R313)? A level source asserts while its input is high and it is IDLE. -/
def sensed (s : State) (src : Nat) (up : Bool) : Bool :=
  match evSense s src with
  | 0 => evInput s src && (evSrc s src).state == .idle
  | 1 => up
  | 2 => !up
  | _ => true

/-- Sensing of one source (R311, R313): an object source takes its hit, a block source its next edge; a level source
whose input is high asserts from IDLE. -/
def senseSrc (s : State) (src : Nat) : State :=
  if 1792 ≤ src then
    if s.evt.hits.contains src then assertSrc (s.setEvt fun e => { e with hits := e.hits.erase src }) src else s
  else
    match takeEdge s.evt.edges src with
    | (some up, rest) =>
      let s := s.setEvt fun e => { e with edges := rest }
      if sensed s src up then assertSrc s src else s
    | (none, _) => if evSense s src = 0 ∧ sensed s src true then assertSrc s src else s

/-- The input of a block source has fallen: a level source that is pending returns to IDLE (R313). -/
def levelFell (s : State) (src : Nat) : State :=
  if evSense s src = 0 then
    match (evSrc s src).state with
    | .latched => wakeUpdate (setSrcState s src .idle)
    | .held => wakeUpdate (setSrcState s src .idle)
    | .queued => wakeUpdate (setSrcState s src .idle)
    | _ => s
  else s

/-- Clear flags of a W1C register (R24): a one clears; the inputs of their sources fall (R311). -/
def clearFlags (s : State) (r : Reg) (v : Word) (i : Nat := 0) : State :=
  let old := (rd s r i).toNat
  let gone := old &&& v.toNat &&& (desc r).w1c
  let s := pushEdges (wr s r (word (old - gone)) i) r gone false
  match evtGroup r with
  | some g => forEach (bitsOf gone 32 0) s fun b s => levelFell s (64 * g + b)
  | none => s

/-! ## Delivery (R318 to R322) -/

/-- The running priority of a target (R318). -/
def runPri (s : State) (t : Nat) : Nat := match (evTgt s t).stack with | p :: _ => p.prio | [] => 16

/-- A vector is masked, on its own or with the whole function (R319). -/
def vecMasked (s : State) (vec : Nat) : Bool := s.evt.msixMask || fb s .MSIX_CTRL_MASK vec

/-- A vector can be sent now: MSI-X enabled, vector not masked (R318, R319), the link has reached L0 (R327). -/
def vecFree (s : State) (vec : Nat) : Bool := s.evt.reachedL0 && s.evt.msixEn && !vecMasked s vec

/-- The message of a vector: its entry's address and data (R319). -/
def msixOf (s : State) (vec : Nat) : Emission :=
  .msix vec ((rd s .MSIX_HI vec).toNat * 2 ^ 32 + (rd s .MSIX_LO vec).toNat) (rd s .MSIX_DATA vec).toNat

/-- A target takes messages: not globally disabled, not asleep, and the block is at work (R318, R322, R406, R454, R455).
-/
def tgtFree (s : State) (t : Nat) : Bool :=
  !fb s .TGT_CTRL_GDIS t && !asleep s t && s.glb.mode != .quiet && s.glb.mode != .removing && !held s 13

/-- A queued source that meets every condition of R318 for its target. -/
def eligible (s : State) (t src : Nat) (x : EvSrc) : Bool :=
  x.state == .queued && evTarget s src == t && decide (evPrio s src < runPri s t) && tgtFree s t &&
    vecFree s (evVec s src)

/-- The eligible source of a target that goes first: lowest PRIO, then lowest index (R318). -/
def pickSrc (s : State) (t : Nat) : Option Nat :=
  s.evt.srcs.foldl (fun best e =>
    if eligible s t e.1 e.2 then
      match best with
      | none => some e.1
      | some b => if evPrio s e.1 < evPrio s b then some e.1 else some b
    else best) none

/-- Deliver to a target: its fault message if one is due and may go, else the eligible source, which is pushed
(R318, R320, R321), once what is due at this instant has been released (R329). -/
def deliver (s : State) (t : Nat) : State :=
  let s := releaseDue s
  let x := evTgt s t
  let fvec := fv s .TGT_CTRL_FAULT_VEC t
  if x.faultDue ∧ tgtFree s t ∧ vecFree s fvec then
    emit (setTgt s t { x with faultDue := false, delivered := satInc 0xFFFFFFFF x.delivered }) (msixOf s fvec)
  else match pickSrc s t with
    | some src =>
      let s := setSrcState s src .inService
      emit (setTgt s t { x with
        stack := { vec := evVec s src, prio := evPrio s src, src := src } :: x.stack
        delivered := satInc 0xFFFFFFFF x.delivered }) (msixOf s (evVec s src))
    | none => s

/-- A source leaves IN_SERVICE (Table 14-3). -/
def endService (s : State) (src : Nat) : State :=
  let x := evSrc s src
  if x.again ∨ (evSense s src = 0 ∧ evInput s src) then
    let s := setSrc s src { state := .latched }
    if evEn s src then moderate s src else s
  else setSrc s src {}

/-- TGT_EOI with EOI = 1 (R320, R321). -/
def eoi (s : State) (t vec : Nat) : State :=
  let x := evTgt s t
  match x.stack with
  | [] => setTgt s t { x with eoiIdle := satInc 0xFF x.eoiIdle }
  | p :: rest =>
    if p.vec = vec then wakeUpdate (endService (setTgt s t { x with stack := rest }) p.src)
    else
      let s := setTgt s t { x with stack := [], faultDue := true, stackFaults := satInc 0xFF x.stackFaults }
      let s := forEach (p :: rest) s fun q s => endService s q.src
      wakeUpdate (raise s .EVT_EVENT (2 ^ t))

/-! ## Writes -/

/-- A target falls asleep: every HELD source that names it is released (R325). -/
def fallAsleep (s : State) (before : Nat → Bool) : State :=
  forEach [0, 1, 2, 3, 4, 5, 6, 7] s fun t s =>
    if asleep s t ∧ before t = false then
      forEach (s.evt.srcs.filterMap fun e => if e.2.state = .held ∧ evTarget s e.1 = t then some e.1 else none) s
        fun src s => releaseSrc s src
    else s

/-- A write of TGT_CTRL: GDIS, SLEEP and FAULT_VEC (R322, R324 to R326). -/
def tgtCtrl (s : State) (t : Nat) (v : Word) : State :=
  let before := fun u => asleep s u
  wakeUpdate (fallAsleep (wr s .TGT_CTRL v t) before)

/-- The PCIe function or link changes state (R324 to R327). -/
def pciePower (s : State) (d : DState) (l : LinkState) : State :=
  let before := fun u => asleep s u
  let l := if s.evt.perst then .down else l
  let s := s.setEvt fun e => { e with dstate := d, link := l, reachedL0 := e.reachedL0 || l == .l0 }
  wakeUpdate (fallAsleep s before)

/-- A source entry may not change TARGET or VECTOR while it is in use (R323). -/
def evCfgConflict (s : State) (src : Nat) (v : Word) : Bool :=
  (fld v 8 3 != evTarget s src || fld v 0 6 != evVec s src) &&
    (evEn s src || (evSrc s src).state == .queued || (evSrc s src).state == .inService)

/-- A write of a source entry: EN 1 offers a latched source, EN 0 withdraws a pending one (Table 14-3). -/
def evCfgWrite (s : State) (src : Nat) (v : Word) : State :=
  let was := evEn s src
  let keep := word (v.toNat &&& 0x830F073F)
  let s := if src < 1792 then wr s .EV_CFG keep src else wr s .EV_OCFG keep (src - 1792)
  let st := (evSrc s src).state
  wakeUpdate (if evEn s src ∧ was = false ∧ st = .latched then moderate s src
    else if evEn s src = false ∧ was ∧ (st = .held ∨ st = .queued) then setSrcState s src .latched
    else s)

/-- CLR_PEND is accepted from LATCHED, HELD and QUEUED (Table 14-3, Table 14-5). -/
def clrPendOk (s : State) (src : Nat) : Bool :=
  match (evSrc s src).state with
  | .latched => true | .held => true | .queued => true
  | _ => false

def clrPend (s : State) (src : Nat) : State := wakeUpdate (setSrcState s src .idle)

end Sys2Proof.Machine
end

