-- ==== Sys2Proof/Machine/Ports.lean ====
section
/-! DEFINITION. Ports, the five-port switch, membership, shaping and gates (spec/07), and the switch's transparent
clock (spec/09 R204 to R210). -/

namespace Sys2Proof.Machine

def portOf (s : State) (n : Nat) : Port := Tbl.getD s.sw.ports n {}
def setPort (s : State) (n : Nat) (p : Port) : State := s.setSw fun w => { w with ports := Tbl.put w.ports n p }
def modCnt (s : State) (n : Nat) (f : PortCnt → PortCnt) : State :=
  setPort s n { portOf s n with cnt := f (portOf s n).cnt }

def sat64 (a b : Nat) : Nat := satAdd (2 ^ 64 - 1) a b
def inc32 (a : Nat) : Nat := satInc 0xFFFFFFFF a

def queueAt (s : State) (n q : Nat) : List QFrame := Tbl.getD s.sw.queues (8 * n + q) []
def setQueue (s : State) (n q : Nat) (l : List QFrame) : State :=
  s.setSw fun w => { w with queues := Tbl.set [] w.queues (8 * n + q) l }

/-! ## Link (R152, R153) -/

/-- The modes a port offers (Table 07-1). -/
def modeOffered (n mode : Nat) : Bool :=
  if n < 2 then decide (mode < 4) else mode == 2 || mode == 4

/-- Bits per second of a SPEED code. -/
def speedBps : Nat → Nat
  | 0 => 1000000000
  | 1 => 2500000000
  | _ => 10000000000

/-- The lowest speed that a MODE can reach (R162). -/
def modeBps (mode : Nat) (kx : Bool) : Nat :=
  match mode with
  | 0 => if kx then 1000000000 else 10000000000
  | 1 => 10000000000
  | 2 => 2500000000
  | _ => 1000000000

def lowestBps (s : State) (n : Nat) : Nat := modeBps (fv s .PORT_CTRL_MODE n) (fb s .PORT_CTRL_KX_ADV n)

/-- The SPEED code with which a port comes up (Table 07-1); `kx` is the outcome of clause 73 in MODE 0. -/
def speedOf (s : State) (n : Nat) (kx : Bool) : Nat :=
  match fv s .PORT_CTRL_MODE n with
  | 0 => if kx && fb s .PORT_CTRL_KX_ADV n then 0 else 2
  | 1 => 2
  | 2 => 1
  | _ => 0

/-- Discard every frame queued for a port, counted in TX_FLUSH (R153). -/
def flushPort (s : State) (n : Nat) : State :=
  let k := [0, 1, 2, 3, 4, 5, 6, 7].foldl (fun a q => a + (queueAt s n q).length) 0
  let s := s.setSw fun w => { w with queues := Tbl.keep w.queues fun j _ => j / 8 != n }
  modCnt s n fun c => { c with flush := satAdd 0xFFFFFFFF c.flush k }

/-- A port changes STATE (R153). -/
def portState (s : State) (n : Nat) (st : PortState) : State :=
  if (portOf s n).state = st then s
  else raise (setPort s n { portOf s n with state := st }) .SW_EVENT 1

def portEnable (s : State) (n : Nat) (on : Bool) : State :=
  if on then (if (portOf s n).state = .disabled then portState s n .negotiating else s)
  else if (portOf s n).state = .disabled then s
  else portState (flushPort s n) n .disabled

def linkUp (s : State) (n : Nat) (kx fec : Bool) : State :=
  if (portOf s n).state = .negotiating then
    let m0 := fv s .PORT_CTRL_MODE n == 0
    let p := { portOf s n with
      speed := speedOf s n kx, fec := fec && m0 && fb s .PORT_CTRL_FEC_ADV n && speedOf s n kx == 2, fault := 0 }
    portState (setPort s n p) n .up
  else s

def negotiationFault (s : State) (n fault : Nat) : State :=
  if (portOf s n).state = .negotiating then setPort s n { portOf s n with fault := fault } else s

def linkDown (s : State) (n : Nat) : State :=
  if (portOf s n).state = .up then portState (flushPort s n) n .negotiating else s

/-- TS_RX_FIX and TS_TX_FIX of a port, 1/16 ns (Table 09-2); 0 while it is not UP. -/
def tsFix (s : State) (n : Nat) : Nat × Nat :=
  if (portOf s n).state != .up then (0, 0)
  else match fv s .PORT_CTRL_MODE n, (portOf s n).speed with
    | 0, 2 => if (portOf s n).fec then (1895, 1408) else (915, 504)
    | 1, _ => (836, 465)
    | 2, _ => (1677, 1060)
    | 4, _ => (3860, 2512)
    | _, _ => (3776, 2440)

/-- Receive and transmit corrections at the reference plane (R204, R205), 1/16 ns. -/
def rxCorr (s : State) (n : Nat) : Nat := (tsFix s n).1 + fv s .PHY_LAT_PHY_RX n
def txCorr (s : State) (n : Nat) : Nat := (tsFix s n).2 + fv s .PHY_LAT_PHY_TX n

/-! ## MAC table (R156, R157) -/

/-- The set of a (VID, MAC) pair (R156). -/
def macSet (vid mac : Nat) : Nat := crc32c (beBytes 2 (vid % 4096) ++ beBytes 6 mac) % 1024

/-- The entry index of a (VID, MAC) pair, if it is in the table. -/
def macFind (s : State) (vid mac : Nat) : Option Nat :=
  let b := 4 * macSet vid mac
  [b, b + 1, b + 2, b + 3].find? fun i => match Tbl.get? s.sw.mac i with
    | some e => e.vid == vid && e.mac == mac
    | none => false

/-- A free way of the set: the lowest. -/
def macFree (s : State) (vid mac : Nat) : Option Nat :=
  let b := 4 * macSet vid mac
  [b, b + 1, b + 2, b + 3].find? fun i => (Tbl.get? s.sw.mac i).isNone

/-- An entry that is only learned, with its refresh instant. -/
def MacEnt.learnedOnly (e : MacEnt) : Option Nat :=
  if e.fixed.isNone ∧ e.owners = 0 then e.learned.map (·.2) else none

/-- The least recently refreshed learned entry of the set (R157). -/
def macVictim (s : State) (vid mac : Nat) : Option Nat :=
  let b := 4 * macSet vid mac
  let cand := [b, b + 1, b + 2, b + 3].filterMap fun i =>
    match Tbl.get? s.sw.mac i with
    | some e => e.learnedOnly.map fun t => (i, t)
    | none => none
  (cand.foldl (fun (best : Option (Nat × Nat)) c => match best with
    | none => some c
    | some x => if c.2 < x.2 then some c else some x) none).map (·.1)

/-- The way MAC_ADD or an own join uses (R157): the entry itself, a free way, else a victim. -/
def macWay (s : State) (vid mac : Nat) : Option Nat :=
  match macFind s vid mac with
  | some i => some i
  | none => match macFree s vid mac with
    | some i => some i
    | none => macVictim s vid mac

def putMac (s : State) (i : Nat) (e : MacEnt) : State := s.setSw fun w => { w with mac := Tbl.put w.mac i e }

/-- An entry with nothing left in it is gone. -/
def dropMac (s : State) (i : Nat) : State :=
  s.setSw fun w => { w with mac := Tbl.keep w.mac fun j e =>
    !(j == i && e.fixed.isNone && e.owners == 0 && e.learned.isNone) }

/-- The port learned for a source seen on a port now: of two ports in one instant the lower (R157). -/
def learnPort (s : State) (e : MacEnt) (port : Nat) : Nat :=
  match e.learned with
  | some (p, t) => if t = s.now then min p port else port
  | none => port

/-- Learn the source address of a frame (R157). -/
def macLearn (s : State) (vid mac port : Nat) : State :=
  match macFind s vid mac with
  | some i => match Tbl.get? s.sw.mac i with
    | some e =>
      if e.fixed.isNone ∧ e.owners = 0 then putMac s i { e with learned := some (learnPort s e port, s.now) } else s
    | none => s
  | none => match macFree s vid mac with
    | some i => putMac s i { vid := vid, mac := mac, learned := some (port, s.now) }
    | none => raise s .SW_EVENT 4

/-- The forwarding mask of an entry: static ports, E for an own entry, else the learned port (R156, R159). -/
def MacEnt.mask (e : MacEnt) : Nat :=
  let f := (e.fixed.getD 0) ||| (if e.owners = 0 then 0 else 16)
  if e.fixed.isSome ∨ e.owners ≠ 0 then f else match e.learned with | some (p, _) => 2 ^ p | none => 0

/-- MAC_ADD: add or replace the static entry (R157). -/
def macAdd (s : State) (vid mac ports : Nat) : State :=
  match macWay s vid mac with
  | some i =>
    let owners := match Tbl.get? s.sw.mac i with
      | some e => if e.vid = vid ∧ e.mac = mac then e.owners else 0
      | none => 0
    putMac s i { vid := vid, mac := mac, fixed := some ports, owners := owners }
  | none => s

/-- Is there a static entry (MAC_DEL)? -/
def macHasFixed (s : State) (vid mac : Nat) : Bool :=
  match macFind s vid mac with
  | some i => match Tbl.get? s.sw.mac i with | some e => e.fixed.isSome | none => false
  | none => false

def macDel (s : State) (vid mac : Nat) : State :=
  match macFind s vid mac with
  | some i => dropMac (s.setSw fun w => { w with mac := Tbl.upd w.mac i fun e => { e with fixed := none } }) i
  | none => s

/-- Install or merge an own entry for a multicast receive stream (R159); a full set raises TABLE_FULL (R157). -/
def macOwn (s : State) (vid mac : Nat) : State :=
  match macWay s vid mac with
  | some i => match Tbl.get? s.sw.mac i with
    | some e =>
      if e.vid = vid ∧ e.mac = mac then putMac s i { e with owners := e.owners + 1 }
      else putMac s i { vid := vid, mac := mac, owners := 1 }
    | none => putMac s i { vid := vid, mac := mac, owners := 1 }
  | none => raise s .SW_EVENT 4

def macDisown (s : State) (vid mac : Nat) : State :=
  match macFind s vid mac with
  | some i => dropMac (s.setSw fun w => { w with mac := Tbl.upd w.mac i fun e => { e with owners := e.owners - 1 } }) i
  | none => s

def macFlush (s : State) : State :=
  s.setSw fun w => { w with mac := Tbl.keep (Tbl.mapV w.mac fun _ e => { e with learned := none }) fun _ e =>
    e.fixed.isSome || e.owners != 0 }

/-- Learned entries not refreshed for AGEING seconds are removed (R156). -/
def macAge (s : State) : State :=
  let lim := 1000000000 * fv s .SW_CFG_AGEING
  s.setSw fun w => { w with mac := Tbl.keep w.mac fun _ e => match e.learnedOnly with
    | some t => decide (s.now < t + lim)
    | none => true }

/-! ## Ingress (R154, R155, R157, R158) -/

/-- The VLAN entry valid for a VID. -/
def vlanOf (s : State) (vid : Nat) : Option Word :=
  ((List.range 64).map fun v => rd s .VLAN v).find? fun w => bit w 31 && fld w 16 12 == vid

def isMulticast (mac : Nat) : Bool := mac / 2 ^ 40 % 2 == 1
def broadcast : Nat := 0xFFFFFFFFFFFF

/-- A frame with the VID and PCP it is classified to (R154). E has no PORT_VLAN: a frame that enters there keeps what it
has, tagged or not (DESIGN CHOICE, log entry 101). -/
def classify (s : State) (n : Nat) (f : Frame) : Frame :=
  if f.tagged ∧ f.vid ≠ 0 then f
  else if n < 4 then { f with vid := fv s .PORT_VLAN_PVID n, pcp := fv s .PORT_VLAN_DEF_PCP n } else f

/-- ACCEPT lets the frame's tagging in (R154). A priority-tagged frame counts as tagged (DESIGN CHOICE, log entry 100). -/
def acceptsTag (s : State) (n : Nat) (f : Frame) : Bool :=
  if n < 4 then
    match fv s .PORT_VLAN_ACCEPT n with
    | 1 => f.tagged
    | 2 => !f.tagged
    | _ => true
  else true

/-- Reserved addresses that are never forwarded, the peer-delay address apart (R154). -/
def reservedDst (mac : Nat) : Bool :=
  decide (0x0180C2000000 ≤ mac ∧ mac ≤ 0x0180C200000F) && mac != 0x0180C200000E

/-- TC_MODE of a port (R207): 0 off, 1 end-to-end, 2 peer-to-peer. -/
def tcMode (s : State) (n : Nat) : Nat := if n < 4 then fld (rd s .TC_CTRL) (2 * n) 2 else 0

/-- Delay_Req and Delay_Resp are dropped on a P2P port (R208). -/
def p2pDrops (s : State) (n : Nat) (f : Frame) : Bool :=
  tcMode s n == 2 && match f.ptp with | some h => h.kind == 1 || h.kind == 9 | none => false

/-- Peer-delay messages stay at the port that receives them (R154, R208). -/
def isPdelay (f : Frame) : Bool :=
  f.dst == 0x0180C200000E || match f.ptp with | some h => h.kind == 2 || h.kind == 3 || h.kind == 10 | none => false

/-- The egress mask of a classified frame (R155). -/
def forwardMask (s : State) (n : Nat) (f : Frame) (vlan : Word) : Nat :=
  let members := fld vlan 8 5
  let all := match macFind s f.vid f.dst with
    | some i => (match Tbl.get? s.sw.mac i with | some e => e.mask | none => 0)
    | none =>
      if f.dst = broadcast then 31
      else if isMulticast f.dst then (if bit vlan 30 then 31 else 0)
      else 31
  (all &&& members) - (if (all &&& members) / 2 ^ n % 2 = 1 then 2 ^ n else 0)

/-- The queue of a frame on an egress port (R158, R161). -/
def queueOf (s : State) (n : Nat) (f : Frame) : Nat :=
  if n < 4 then fld (rd s .PORT_PCPMAP n) (3 * f.pcp) 3 else f.pcp

/-- A frame's place in a queue: frames of one instant stand in ascending ingress port (R158). -/
def placeFrame (qf : QFrame) : List QFrame → List QFrame
  | [] => [qf]
  | g :: l => if g.inAt = qf.inAt ∧ qf.fromPort < g.fromPort then qf :: g :: l else g :: placeFrame qf l

/-- Put a frame into its egress queue, or drop it at a full queue (R158). -/
def enqueueFrame (s : State) (n : Nat) (qf : QFrame) : State :=
  let q := queueOf s n qf.frame
  let l := queueAt s n q
  if Config.queueDepth ≤ l.length then
    raise (modCnt s n fun c => { c with qdrop := Tbl.mod 0 c.qdrop q inc32 }) .SW_EVENT 2
  else setQueue s n q (placeFrame qf l)

/-- A frame enters the switch at a port, 4 being E; one to the peer-delay address that enters at E goes nowhere (R152 to
R158). A port that is not UP takes no frame, and none is counted there (DESIGN CHOICE, log entry 102). -/
def ingress (s : State) (n : Nat) (f0 : Frame) : State :=
  if n < 4 ∧ (portOf s n).state ≠ .up then s
  else if !f0.fcsOk then modCnt s n fun c => { c with rxFcs := inc32 c.rxFcs }
  else
    let s := modCnt s n fun c => { c with rxFrames := sat64 c.rxFrames 1, rxOctets := sat64 c.rxOctets f0.len }
    let drop := modCnt s n fun c => { c with rxDrop := inc32 c.rxDrop }
    let f := classify s n f0
    match vlanOf s f.vid with
    | none => drop
    | some vlan =>
      if !acceptsTag s n f0 || fld vlan (8 + n) 1 == 0 || decide (fv s .SW_CFG_MAXFRAME < f.len) ||
          reservedDst f.dst || p2pDrops s n f then drop
      else
        let s := macLearn s f.vid f.src n
        let qf : QFrame := { frame := f, fromPort := n, inAt := s.now }
        if isPdelay f then (if n < 4 then enqueueFrame s 4 qf else s)
        else forEach (bitsOf (forwardMask s n f vlan) 5 0) s fun p s =>
          if p < 4 ∧ (portOf s p).state ≠ .up then s else enqueueFrame s p qf

/-! ## Gates (R163 to R166) -/

def intervalSum (l : List (Nat × Nat)) : Nat := l.foldl (fun a e => a + e.2) 0

/-- The entries of a cycle with the last one stretched to its end (R163). -/
def cycleList (g : GateCfg) : List (Nat × Nat) :=
  let rest := g.cycle - intervalSum g.list
  match g.list.reverse with
  | [] => [(0xFF, g.cycle)]
  | (st, iv) :: more => (((st, iv + rest) :: more).reverse)

/-- The entry at an offset into the cycle, and how much of it has passed. -/
def entryAt : List (Nat × Nat) → Nat → Nat → Nat × Nat
  | [], _, i => (i, 0)
  | (_, iv) :: rest, off, i => if off < iv then (i, off) else entryAt rest (off - iv) (i + 1)

/-- The offset into the running cycle at a time of the gate's time base; time before the base counts back (R163). -/
def gateOffset (g : GateCfg) (t : Nat) : Nat :=
  if g.cycle = 0 then 0 else (((t : Int) - (g.base : Int)) % (g.cycle : Int)).toNat

/-- How long a queue stays open from the head of a list on; `all` when it never closes in it. -/
def openRun (q : Nat) : List (Nat × Nat) → Nat × Bool
  | [] => (0, true)
  | (st, iv) :: rest =>
    if st / 2 ^ q % 2 = 1 then let r := openRun q rest; (iv + r.1, r.2) else (0, false)

/-- Time from now to the close of the queue's window: none while the gate is closed, and no end when it is open for the
whole cycle; `ends` says that the list is in force no longer than this cycle, whose end then closes it (R163). -/
def windowLeft (g : GateCfg) (ends : Bool) (t q : Nat) : Option (Option Nat) :=
  if !g.en then some none
  else
    let l := cycleList g
    let (i, past) := entryAt l (gateOffset g t) 0
    let r := openRun q ((l.drop i) ++ (if ends then [] else l.take i))
    if r.2 ∧ !ends then some none else if r.1 = 0 then none else some (some (r.1 - past))

/-- The longest window of a queue in the cycle; none when it never closes (R164). -/
def longestWindow (g : GateCfg) (q : Nat) : Option Nat :=
  if !g.en then none
  else
    let l := cycleList g
    let runs := (List.range l.length).map fun i => openRun q ((l.drop i) ++ (l.take i))
    if runs.any (·.2) then none else some (runs.foldl (fun a r => max a r.1) 0)

/-- Wire time of a frame in nanoseconds, rounded up: (L + 8) × 8 bits at the port rate (R164). -/
def wireNs (s : State) (n len : Nat) : Nat :=
  let r := speedBps (portOf s n).speed
  ((len + 8) * 8 * 1000000000 + r - 1) / r

/-- The gate cycle's time on a port. -/
def gateTime (s : State) (n : Nat) : Nat := tns s (portOf s n).oper.tb

/-- The first cycle start of a configuration at or after its base time and 20 µs after the write (R165). -/
def firstCycle (g : GateCfg) : Nat :=
  let at_ := max g.base (g.applied + 20000)
  if g.cycle = 0 then at_ else g.base + ((at_ - g.base + g.cycle - 1) / g.cycle) * g.cycle

/-- A pending configuration takes over when the cycle that runs now ends (R163, R165). -/
def listEnds (s : State) (n : Nat) : Bool :=
  let g := (portOf s n).oper
  match (portOf s n).pend with
  | some p => decide (firstCycle p ≤ tns s p.tb + (g.cycle - gateOffset g (gateTime s n)))
  | none => false

/-- The window of a queue of a port that is open now. -/
def windowNow (s : State) (n q : Nat) : Option (Option Nat) :=
  windowLeft (portOf s n).oper (listEnds s n) (gateTime s n) q

/-- The start of the frame at instant t ends by the close of its window (R164), compared without rounding. -/
def fitsNow (s : State) (n q len : Nat) : Bool :=
  match windowNow s n q with
  | none => false
  | some none => true
  | some (some left) => decide ((len + 8) * 8 * 1000000000 ≤ left * speedBps (portOf s n).speed)

def fitsNever (s : State) (n q len : Nat) : Bool :=
  match longestWindow (portOf s n).oper q with
  | none => false
  | some w => decide (w * speedBps (portOf s n).speed < (len + 8) * 8 * 1000000000)

/-- The length of a frame as it leaves a port: the tag stays or goes (R155). -/
def egressForm (s : State) (n : Nat) (f : Frame) : Frame :=
  let untag := match vlanOf s f.vid with | some w => fld w n 1 == 1 | none => false
  let bare := if f.tagged then f.len - 4 else f.len
  { f with tagged := !untag, len := if untag then max 64 bare else max 64 (bare + 4) }

/-- The admin gate list of a port as a configuration (R165). -/
def adminGate (s : State) (n : Nat) : GateCfg :=
  let tb := fv s .GATE_CTRL_TB n
  { en := fb s .GATE_CTRL_EN n, tb := tb, cycle := fv s .GATE_CYCLE_CYCLE n
    base := (fv s .GATE_BASE_HI_SEC_HI n * 2 ^ 32 + fv s .GATE_BASE_LO_SEC_LO n) * 1000000000 + fv s .GATE_BASE_NS_NS n
    list := (List.range (fv s .GATE_CTRL_LEN n)).map fun e => (fv s .GATE_ADM_W0_STATES n e, fv s .GATE_ADM_W1_INTERVAL n e)
    applied := tns s tb }

/-- What GATE_APPLY refuses (R165). -/
def gateBad (s : State) (n : Nat) : Bool :=
  let g := adminGate s n
  decide (g.cycle < intervalSum g.list) || g.list.isEmpty || decide (64 < g.list.length) ||
    decide (g.cycle < 1000 ∨ 1000000000 < g.cycle) || decide (999999999 < fv s .GATE_BASE_NS_NS n)

/-- The pending configuration may take over: its first cycle start has come and the old cycle that ran then has ended
(R165; log entry 22). -/
def takeoverDue (s : State) (n : Nat) : Bool :=
  match (portOf s n).pend with
  | none => false
  | some g =>
    let c := firstCycle g
    let t := tns s g.tb
    let old := (portOf s n).oper
    if t < c then false
    else if !old.en then true
    else
      let off := gateOffset old (gateTime s n)
      let since := t - c
      decide (off ≤ since)

/-- A pending configuration is in force from now on. -/
def gateTake (s : State) (n : Nat) (g : GateCfg) : State :=
  setPort s n { portOf s n with
    oper := g, pend := none, cur := (entryAt (cycleList g) (gateOffset g (tns s g.tb)) 0).1 }

def gateTakeover (s : State) (n : Nat) : State :=
  match (portOf s n).pend with
  | some g => if takeoverDue s n then gateTake s n g else s
  | none => s

/-- The operational list moves to the entry that the time implies (R163, R166). -/
def gateEntry (s : State) (n : Nat) : State :=
  let g := (portOf s n).oper
  if g.en then setPort s n { portOf s n with cur := (entryAt (cycleList g) (gateOffset g (gateTime s n)) 0).1 } else s

/-- A step of a time base ends the present cycle of the lists that run on it: a configuration that waited for that end
takes over, else the list goes on from the entry that the new time implies (R165, R166). -/
def gateStep (s : State) (k : Nat) : State :=
  forEach [0, 1, 2, 3] s fun n s =>
    let p := portOf s n
    if !p.oper.en ∨ p.oper.tb ≠ k then s
    else match p.pend with
      | some g => if firstCycle g ≤ tns s g.tb then gateTake s n g else gateEntry s n
      | none => gateEntry s n

/-! ## Shaping (R162) and transmission selection (R161) -/

/-- Which shaper shapes a queue of a port: 0 CBS_A, 1 CBS_B. -/
def shaperOf (s : State) (n q : Nat) : Option Nat :=
  if fb s .CBS_A_EN n ∧ fv s .CBS_A_QUEUE n = q then some 0
  else if fb s .CBS_B_EN n ∧ fv s .CBS_B_QUEUE n = q then some 1
  else none

def creditOk (s : State) (n q : Nat) : Bool :=
  match shaperOf s n q with
  | some 0 => decide (0 ≤ (portOf s n).creditA)
  | some _ => decide (0 ≤ (portOf s n).creditB)
  | none => true

/-- One nanosecond of a shaper's credit, the one that ends now, in bits × 10^9 (R162). -/
def creditStep (s : State) (n q idle : Nat) (c : Int) : Int :=
  let slope : Int := idle * 256000
  let p := portOf s n
  if s.now ≤ p.busyUntil ∧ p.sending = q then c + slope - speedBps p.speed
  else if (windowNow s n q).isNone then c
  else if !(queueAt s n q).isEmpty then c + slope
  else if c < 0 then min 0 (c + slope)
  else 0

/-- One nanosecond of every shaper. -/
def creditTick (s : State) : State :=
  forEach [0, 1, 2, 3] s fun n s =>
    let p := portOf s n
    let a := if fb s .CBS_A_EN n then creditStep s n (fv s .CBS_A_QUEUE n) (fv s .CBS_A_IDLE n) p.creditA else p.creditA
    let b := if fb s .CBS_B_EN n then creditStep s n (fv s .CBS_B_QUEUE n) (fv s .CBS_B_IDLE n) p.creditB else p.creditB
    if a = p.creditA ∧ b = p.creditB then s else setPort s n { p with creditA := a, creditB := b }

/-- The residence correction of a forwarded PTP event message, in 2^-16 ns (R207, R208): from ingress to egress
time-stamp at the reference planes, and the ingress link delay for a Sync on a P2P port. -/
def residence (s : State) (a b inAt : Nat) (h : PtpHdr) : Int :=
  let res : Int := 16 * ((s.now : Int) - inAt) + rxCorr s a + txCorr s b
  let link : Int := if tcMode s a = 2 ∧ h.kind = 0 then (Tbl.getD s.tb.linkDelay a 0 : Nat) else 0
  4096 * (res + link)

/-- The transparent clock acts between two ports that are both not off, on event messages (R207, R209). -/
def tcActs (s : State) (a b : Nat) (h : PtpHdr) : Bool :=
  decide (a < 4 ∧ b < 4) && tcMode s a != 0 && tcMode s b != 0 && decide (h.kind < 4)

/-- The one's complement sum of 16-bit words. -/
def sum16 : List Byte → Nat
  | a :: b :: l => 256 * a.toNat + b.toNat + sum16 l
  | [a] => 256 * a.toNat
  | [] => 0

/-- A corrected message (R210): over UDP/IPv4 its checksum is zero; over UDP/IPv6 the two bytes after the message take up
what the new correction adds to the sum. -/
def PtpHdr.correct (h : PtpHdr) (corr : Int) : PtpHdr :=
  match h.via with
  | .ethernet => { h with corr := corr }
  | .udp4 => { h with corr := corr, sum := 0 }
  | .udp6 =>
    let words (c : Int) : Nat := sum16 (beBytes 8 (field 64 c))
    { h with corr := corr, tail := h.tail.map fun t => (t + words h.corr + 65535 * 4 - words corr) % 65535 }

/-- The transparent clock on a frame that leaves (R207 to R210). -/
def tcCorrect (s : State) (b : Nat) (qf : QFrame) : State × Frame :=
  match qf.frame.ptp with
  | some h =>
    if tcActs s qf.fromPort b h then
      if h.via = .udp6 ∧ h.tail = none then
        (raise (s.setTb fun t => { t with noFix := inc32 t.noFix }) .TB_EVENT 0x10000, qf.frame)
      else (s, { qf.frame with ptp := some (h.correct (h.corr + residence s qf.fromPort b qf.inAt h)) })
    else (s, qf.frame)
  | none => (s, qf.frame)

/-- The queue that transmission selection serves now: the highest that is not empty, open and in credit (R161), if its
first frame ends within its window; else that frame waits (R164). -/
def selectQueue (s : State) (n : Nat) : Nat → Option Nat
  | 0 => none
  | q + 1 =>
    match queueAt s n q with
    | [] => selectQueue s n q
    | qf :: _ =>
      if creditOk s n q && (windowNow s n q).isSome then
        (if fitsNow s n q (egressForm s n qf.frame).len then some q else none)
      else selectQueue s n q

/-- Frames at the heads of queues that fit no window of the cycle are dropped (R164). -/
def dropUnfit (s : State) (n : Nat) : State :=
  forEach [0, 1, 2, 3, 4, 5, 6, 7] s fun q s =>
    match queueAt s n q with
    | qf :: rest =>
      if fitsNever s n q (egressForm s n qf.frame).len then
        raise (modCnt (setQueue s n q rest) n fun c => { c with gateDrop := inc32 c.gateDrop }) .SW_EVENT 0x10
      else s
    | [] => s

/-- Count a frame that leaves. -/
def countTx (s : State) (n : Nat) (f : Frame) : State :=
  modCnt s n fun c => { c with txFrames := sat64 c.txFrames 1, txOctets := sat64 c.txOctets f.len }

/-- Start the first frame of a queue on a port (R161, R207). -/
def startFrame (s : State) (n q : Nat) : State × Option Frame :=
  match queueAt s n q with
  | qf :: rest =>
    let s := setQueue s n q rest
    let (s, f) := tcCorrect s n qf
    let f := egressForm s n f
    let s := countTx s n f
    let s := setPort s n { portOf s n with busyUntil := s.now + wireNs s n f.len, sending := q }
    (emit s (.frame n f), some qf.frame)
  | [] => (s, none)

/-- Hand the first frame queued for E to the engine, tagged as its VLAN says for E: highest queue first, nothing shaped or
gated (R155, R158, Table 07-7). -/
def engineTake (s : State) : Nat → State
  | 0 => s
  | q + 1 =>
    match queueAt s 4 q with
    | qf :: rest =>
      let f := egressForm s 4 qf.frame
      emit (countTx (setQueue s 4 q rest) 4 f) (.toEngine f)
    | [] => engineTake s q

/-- FRAME_EGRESS on a port: the frame that starts is answered, for the streams to judge its lateness. -/
def egress (s : State) (n : Nat) : State × Option Frame :=
  if n = 4 then (engineTake s 8, none)
  else if (portOf s n).state ≠ .up ∨ s.now < (portOf s n).busyUntil then (s, none)
  else
    let s := dropUnfit s n
    match selectQueue s n 8 with
    | some q => startFrame s n q
    | none => (s, none)

/-! ## Membership (R159, R160) -/

/-- The port is in the compatibility mode of an older querier (R160). -/
def olderMode (s : State) (n : Nat) (v6 : Bool) : Bool :=
  decide (s.now < if v6 then (portOf s n).oldMld else (portOf s n).oldIgmp)

def addReport (s : State) (r : Report) : State :=
  s.setSw fun w => { w with reports := w.reports ++ [{ r with old := olderMode s r.port r.v6 }] }

/-- A report or a leave is sent twice, one second apart (R159). -/
def reportTwice (s : State) (port : Nat) (v6 : Bool) (group : Nat) (src : Option Nat) (leave : Bool) : State :=
  let mk (t : Nat) : Report := { due := t, by_ := t, port := port, v6 := v6, group := group, src := src, leave := leave }
  addReport (addReport s (mk s.now)) (mk (s.now + 1000000000))

/-- Everything due is sent (R159), in the older form while an older querier is present; a change of the port's mode has
cancelled what was queued before it (R160, log entry 36). On a port that is not UP it is discarded and counted (R153). -/
def sendReports (s : State) : State :=
  let due := s.sw.reports.filter fun r => decide (r.due ≤ s.now)
  let s := s.setSw fun w => { w with reports := w.reports.filter fun r => decide (s.now < r.due) }
  forEach due s fun r s =>
    if r.old ≠ olderMode s r.port r.v6 then s
    else if (portOf s r.port).state ≠ .up then modCnt s r.port fun c => { c with flush := inc32 c.flush }
    else emit s (.membership r.port r.v6 r.group r.src r.leave r.old)

/-! ## Register checks of this block (R162, R167) -/

/-- A CBS write that R162 refuses. -/
def cbsBad (s : State) (n : Nat) (isA : Bool) (v : Word) : Bool :=
  let other := if isA then rd s .CBS_B n else rd s .CBS_A n
  let en := bit v 31
  let idle := fld v 0 16
  (en && idle == 0) || (en && bit other 31 && fld v 16 3 == fld other 16 3) ||
    (en && decide (75 * lowestBps s n < 100 * 256000 * (idle + if bit other 31 then fld other 0 16 else 0)))

/-- A PORT_CTRL write whose MODE or KX_ADV leaves the idle slopes in force above 75 % of the lowest speed (R162, R361). -/
def cbsLeft (s : State) (n : Nat) (v : Word) : Bool :=
  let idle (r : Reg) : Nat := if bit (rd s r n) 31 then fld (rd s r n) 0 16 else 0
  decide (75 * modeBps (fld v 0 3) (bit v 3) < 100 * 256000 * (idle .CBS_A + idle .CBS_B))

/-- A VLAN entry write that Table 07-7 refuses. -/
def vlanBad (s : State) (i : Nat) (v : Word) : Bool :=
  let vid := fld v 16 12
  bit v 31 && (vid == 0 || vid == 4095 ||
    (List.range 64).any fun j => j != i && bit (rd s .VLAN j) 31 && fld (rd s .VLAN j) 16 12 == vid)

end Sys2Proof.Machine
end

