-- ==== Sys2Proof/Machine/Lanes.lean ====
section
/-! DEFINITION. Serial audio lanes and clock groups (spec/06): formats, frame judgment, slips, fades, slot maps and
what the lane pins carry. -/

namespace Sys2Proof.Machine

/-! ## Formats -/

/-- Frames per second of a rate code (Table 05-1). -/
def rateHz : Nat → Nat
  | 0 => 8000 | 1 => 16000 | 2 => 32000 | 3 => 44100 | 4 => 48000 | 5 => 88200 | 6 => 96000 | 7 => 176400
  | _ => 192000

/-- Samples of a rate that belong to stitch `n`: all of them for a whole number per stitch, else counted from stitch 0 on
(log entry 66). -/
def samplesIn (hz n : Nat) : Nat := hz * (n + 1) / 8000 - hz * n / 8000

def slotBits : Nat → Nat
  | 0 => 16 | 1 => 24 | _ => 32

/-- F of R128: slot-equivalents of a rate. -/
def rateF (r : Nat) : Nat := if r ≤ 4 then 1 else if r ≤ 6 then 2 else 4

/-- SLOTS, slot width and rate fit the limits of R128. -/
def formatFits (slots width rate : Nat) : Bool :=
  decide (slots * slotBits width * rateHz rate ≤ 49152000 ∧ slots * rateF rate ≤ 32)

/-- CG_ACC names only rates 1 to 8 that fit, and nothing unless the group is foreign (R142). -/
def accOk (acc slots width mcb : Nat) : Bool :=
  acc % 2 == 0 && (acc == 0 || mcb == 15) && (bitsOf acc 9 0).all fun r => formatFits slots width r

/-- A CG_FMT value that R128, R131 or R142 refuses. -/
def cgFmtBad (s : State) (g : Nat) (v : Word) : Bool :=
  let fmt := fld v 28 2; let width := fld v 26 2; let slots := fld v 16 6; let rate := fld v 12 4; let mcb := fld v 0 4
  (fmt != 2 && slots != 2) || !formatFits slots width rate || decide (8 ≤ mcb ∧ mcb < 15) ||
    !accOk (fv s .CG_ACC_ACC g) slots width mcb

def groupOf (s : State) (g : Nat) : Group := Tbl.getD s.ln.groups g {}
def setGroup (s : State) (g : Nat) (x : Group) : State := s.setLn fun l => { l with groups := Tbl.put l.groups g x }

def cgMcb (s : State) (g : Nat) : Nat := fv s .CG_FMT_MCB g
def cgSlots (s : State) (g : Nat) : Nat := fv s .CG_FMT_SLOTS g
def cgForeign (s : State) (g : Nat) : Bool := cgMcb s g == 15

/-- The group's binding names MC0 (R112, R131). -/
def cgSync (s : State) (g : Nat) : Bool := cgMcb s g == 0 || cgMcb s g == 4

/-- Synchronous with the mix at 48 kHz: slots reach the engine directly (R113). -/
def cgDirect (s : State) (g : Nat) : Bool := cgSync s g && fv s .CG_FMT_RATE g == 4

/-- The group is the selected reference of the media clock it is steered by, and the clock follows it (R132): SW = 1 opens
that loop (R247). -/
def selectedRef (s : State) (g : Nat) : Bool :=
  let m := cgMcb s g - 4
  let x := Tbl.getD s.ref.mcs m {}
  decide (4 ≤ cgMcb s g ∧ cgMcb s g ≤ 7) && !fb s .MC_CTRL_SW m && (x.state == .acquiring || x.state == .locked) &&
    match x.sel with
    | some e => ff s .MC_TBL_KIND m e == 3 && ff s .MC_TBL_INDEX m e == g
    | none => false

/-- A lane is an input (R127, R133). -/
def laneIsInput (s : State) (l : Nat) : Bool := fv s .LANE_DIR_DIR l == 1

/-- The acceptable rates of a group: its nominal rate first, and for a foreign group those of CG_ACC (R141). -/
def acceptable (s : State) (g : Nat) : List Nat :=
  fv s .CG_FMT_RATE g :: (if cgForeign s g then bitsOf (fv s .CG_ACC_ACC g) 9 0 else [])

/-- A frame period in picoseconds lies within TOL ppm of a rate's nominal period (R140, R144). -/
def withinTol (s : State) (g period rate : Nat) : Bool :=
  decide (((period * rateHz rate : Nat) - (1000000000000 : Int)).natAbs ≤ fv s .CG_TIMING_TOL g * 1000000)

def acceptedRate (s : State) (g period : Nat) : Option Nat := (acceptable s g).find? fun r => withinTol s g period r

/-- Nominal periods of the present rate since an instant. -/
def periodsSince (s : State) (g t : Nat) : Nat := (s.now - t) * rateHz (groupOf s g).curRate / 1000000000

/-- Two nominal periods of the present rate have passed since the last frame start (R138). -/
def stopDue (s : State) (g : Nat) : Bool :=
  match (groupOf s g).lastAt with
  | some t => decide (2 ≤ periodsSince s g t)
  | none => false

/-! ## States (R147) -/

/-- A change of state raises GROUP_CHANGE and may hit the group's object source (R147, R312). -/
def cgState (s : State) (g : Nat) (st : GroupState) : State :=
  if (groupOf s g).state = st then s
  else hitAttached (raise (setGroup s g { groupOf s g with state := st }) .LN_EVENT 1) .ATT_CG g 0

/-- The enabled seams whose input lane or clock group is this group (R140). -/
def seamsOf (s : State) (g : Nat) : List Nat :=
  s.rb.seams.filterMap fun e =>
    let w0 := rdF s .SM_W0 e.1; let w1 := rd s .SM_W1 e.1
    if e.2.enabled ∧ ((bit w0 25 = false ∧ fld w1 28 4 = 1 ∧ fld w1 16 12 / 8 = g) ∨
        (bit w0 25 ∧ fld w0 8 2 = 0 ∧ fld w0 0 3 = g)) then some e.1 else none

def seamOf (s : State) (m : Nat) : Seam := Tbl.getD s.rb.seams m {}
def setSeam (s : State) (m : Nat) (x : Seam) : State := s.setRb fun r => { r with seams := Tbl.put r.seams m x }

/-- A seam changes STATE (R122). -/
def seamState (s : State) (m : Nat) (st : SeamState) : State :=
  if (seamOf s m).state = st then s else raise (setSeam s m { seamOf s m with state := st }) .RB_EVENT 1

/-- Fade from what plays now, then zero. -/
def Play.stop : Play → Play
  | .zero => .zero
  | _ => .fade

/-- Where a trigger stands in Table 05-2 for a state; none where it does not act. -/
def trigRank : SeamState → SeamTrig → Option Nat
  | .training, .stop => some 0
  | .training, .trainEnd => some 1
  | .running, .stop => some 0
  | .running, .jump => some 2
  | .hold, .ratio _ => some 0
  | .range, .recover => some 0
  | .range, .stop => some 1
  | _, _ => none

/-- A trigger of this stitch: the one that stands first for the present state is kept (R122). -/
def seamTrig (s : State) (m : Nat) (t : SeamTrig) : State :=
  let x := seamOf s m
  if !x.enabled then s
  else match trigRank x.state t, x.trig.bind (trigRank x.state) with
    | none, _ => s
    | some _, none => setSeam s m { x with trig := some t }
    | some a, some b => if a < b then setSeam s m { x with trig := some t } else s

/-- A rate fault holds the group's seams in TRAINING (R140). -/
def holdSeams (s : State) (g : Nat) : State :=
  forEach (seamsOf s g) s fun m s =>
    let x := seamOf s m
    seamState (setSeam s m { x with groupHeld := true, play := x.play.stop, trainFrom := none }) m .training

/-- The group releases its seams, which train afresh (R141). -/
def releaseSeams (s : State) (g : Nat) : State :=
  forEach (seamsOf s g) s fun m s =>
    if (seamOf s m).groupHeld then
      setSeam s m { seamOf s m with groupHeld := false, trainFrom := some s.now } else s

/-- Input or output keys of a group: 32 × lane + slot, 256 to a group. -/
def keyGroup (k : Nat) : Nat := k / 256

/-- What a group has collected of the stitch that runs is dropped. -/
def dropAcc (s : State) (g : Nat) : State :=
  s.setLn fun l => { l with inAcc := Tbl.keep l.inAcc fun k _ => keyGroup k != g }

/-- The fade of a stop starts at the last good sample received in each slot (R138). -/
def lastGood (s : State) (g : Nat) : State :=
  dropAcc (s.setLn fun l => { l with
    inLast := l.inGood.foldl (fun t e => if keyGroup e.1 = g then Tbl.set 0 t e.1 e.2 else t) l.inLast }) g

/-- A stop (R138); the group's seams hear of it (R121). -/
def cgStop (s : State) (g : Nat) : State :=
  let x := groupOf s g
  let s := if x.play = .zero then s else lastGood s g
  let s := setGroup s g { x with
    play := x.play.stop, playOut := .zero, okFrom := none, settled := false, fresh := false, glitchRun := 0, offRun := 0
    stable := 0, stops := satInc 0xFFFF x.stops }
  forEach (seamsOf s g) (cgState (raise s .LN_EVENT 2) g .stopped) fun m s => seamTrig s m .stop

/-- Entering RUNNING, to be anchored at the boundary that follows: the output block of that boundary and the input block
of the next one ramp in (R136, R141, R144). -/
def cgRun (s : State) (g rate : Nat) : State :=
  let x := groupOf s g
  cgState (setGroup s g { x with
    curRate := rate, phase := 0, play := .refade, playOut := .rampIn, fresh := true, settled := false
    glitchRun := 0, offRun := 0, okFrom := none }) g .running

/-- CG_ANCHOR (R144). -/
def cgAnchor (s : State) (g : Nat) : State :=
  let x := groupOf s g
  if x.state = .starting ∧ fv s .CG_TIMING_STABLE g ≤ x.stable then releaseSeams (cgRun s g x.stableRate) g else s

/-- CG_RATE_SETTLED: the 100 ms are over; the group returns at the next boundary (R141). -/
def cgSettled (s : State) (g : Nat) : State :=
  let x := groupOf s g
  match x.okFrom with
  | some t => if x.state = .rateFault ∧ t + 100000000 ≤ s.now then setGroup s g { x with settled := true } else s
  | none => s

/-- The groups that have settled return to RUNNING at this boundary (R141). -/
def cgReturns (s : State) : State :=
  forEach (s.ln.groups.map (·.1)) s fun g s =>
    let x := groupOf s g
    if x.settled ∧ x.state = .rateFault then releaseSeams (cgRun s g x.okRate) g else s

/-- The groups that entered RUNNING since the last boundary are anchored at this one; the frame that is coming in started
before it and is no part of the first block (R136). -/
def cgAnchored (s : State) : State :=
  forEach (s.ln.groups.map (·.1)) s fun g s =>
    let x := groupOf s g
    if x.fresh then
      let cut := cgSync s g && x.lastAt.any fun t => decide (t < s.now)
      dropAcc (setGroup s g { x with fresh := false, phase := 0, pos := x.frames, ahead := b2n cut }) g
    else s

/-- An orderly stop: EN written 0, QUIET or removal (R145, R147). -/
def cgStopping (s : State) (g : Nat) : State :=
  let x := groupOf s g
  match x.state with
  | .off => s
  | .stopping => s
  | _ => cgState (setGroup s g { x with
      play := x.play.stop, playOut := if x.fresh then .zero else x.playOut.stop, fresh := false, settled := false
      glitchRun := 0, offRun := 0, stopLeft := 64, stopAt := s.now, okFrom := none }) g .stopping

/-- CG_STOP_DONE: after the fade, 64 frames, or nominal periods where frame starts are missing (R145). -/
def cgStopDone (s : State) (g : Nat) : State :=
  let x := groupOf s g
  if x.state = .stopping ∧ x.playOut = .zero ∧
      (x.stopLeft = 0 ∨ (2 ≤ periodsSince s g x.stopAt ∧ x.stopLeft ≤ periodsSince s g x.stopAt)) then
    cgState (setGroup s g { x with play := .zero, playOut := .zero, lastAt := none, wire := [] }) g .off
  else s

/-- A group starts (R144): outputs drive zero, stable count 0. -/
def cgStart (s : State) (g : Nat) : State :=
  if (groupOf s g).state = .off then
    cgState (setGroup s g { groupOf s g with stable := 0, lastAt := none, play := .zero, playOut := .zero }) g .starting
  else s

/-! ## Frames (R128 to R130, R138 to R144) -/

/-- A received slot as a sample (R129). -/
def slotSample (width raw : Nat) : Int :=
  match width with
  | 0 => sext 16 raw * 256
  | 1 => sext 24 raw
  | _ => sext 24 (raw / 256)

/-- One more sample of every input slot of a group, into the blocks of the stitch (R136). -/
def addSlots (s : State) (g : Nat) (val : Nat → Nat → Int) : State :=
  forEach ((List.range 8).map (8 * g + ·)) s fun l s =>
    if laneIsInput s l then
      forEach (List.range (cgSlots s g)) s fun k s =>
        s.setLn fun y => { y with
          inAcc := Tbl.mod [] y.inAcc (32 * l + k) fun xs => xs ++ [val l k]
          inGood := Tbl.set 0 y.inGood (32 * l + k) (val l k) }
    else s

/-- The samples of a frame that ends, unless the block of the boundary it came in across holds them already (R136). -/
def takeSlots (s : State) (g : Nat) (val : Nat → Nat → Int) : State :=
  let x := groupOf s g
  if x.fresh then s
  else if x.ahead = 0 then addSlots s g val
  else setGroup s g { x with ahead := x.ahead - 1 }

/-- BCK periods between the frame-start edge and the first data bit (R128). -/
def dataDelay (s : State) (g : Nat) : Nat :=
  match fv s .CG_FMT_FMT g with
  | 0 => 1
  | 1 => 0
  | _ => fv s .CG_FMT_DELAY g

/-- The bits of a lane as the group samples them: on the rising BCK edge, with BCK_EDGE = 1 on the falling one (R128). -/
def laneBits (s : State) (g : Nat) (f : LaneFrame) (l : Nat) : List Bool :=
  match f.data.find? fun d => d.lane == l with
  | some d => if fb s .CG_FMT_BCK_EDGE g then d.falling else d.rising
  | none => []

/-- A word sent MSB first (R129). -/
def msbNat (bs : List Bool) : Nat := bs.foldl (fun a b => 2 * a + b2n b) 0

/-- The word of slot `k`: its bits stand at its place in the frame, whatever came before (R129, R135). -/
def rawSlot (s : State) (g : Nat) (f : LaneFrame) (l k : Nat) : Nat :=
  let w := slotBits (fv s .CG_FMT_WIDTH g)
  let bs := ((laneBits s g f l).drop (dataDelay s g + w * k)).take w
  msbNat (bs ++ List.replicate (w - bs.length) false)

/-- The input samples of one frame. -/
def frameSlot (s : State) (g : Nat) (f : LaneFrame) (l k : Nat) : Int :=
  slotSample (fv s .CG_FMT_WIDTH g) (rawSlot s g f l k)

def takeFrame (s : State) (g : Nat) (f : LaneFrame) : State := takeSlots s g (frameSlot s g f)

/-- The previous good sample of a slot (R138, R139). -/
def goodSlot (s : State) (l k : Nat) : Int := Tbl.getD s.ln.inGood (32 * l + k) 0

/-- A glitch frame repeats the previous good sample of each slot (R139). -/
def repeatFrame (s : State) (g : Nat) : State := takeSlots s g (goodSlot s)

/-- A glitch in RUNNING or RATE_FAULT (R139): counted; the third in a row is a stop. -/
def cgGlitch (s : State) (g : Nat) : State :=
  let x := groupOf s g
  let s := setGroup s g { x with glitches := satInc 0xFFFF x.glitches, glitchRun := x.glitchRun + 1, okFrom := none, settled := false }
  let s := hitAttached (raise s .LN_EVENT 4) .ATT_CG g 2
  if 2 ≤ x.glitchRun then cgStop s g else repeatFrame s g

/-- A rate fault (R140). -/
def cgRateFault (s : State) (g period : Nat) : State :=
  let x := groupOf s g
  let s := setGroup s g { x with
    play := x.play.stop, playOut := if x.fresh then .zero else x.playOut.stop, fresh := false, glitchRun := 0, offRun := 0
    rateFaults := satInc 0xFFFF x.rateFaults
    okFrom := (acceptedRate s g period).map fun _ => s.now
    okRate := (acceptedRate s g period).getD 4 }
  holdSeams (cgState (raise s .LN_EVENT 8) g .rateFault) g

/-- Has the frame the BCK count of its group (R139)? -/
def rightBck (s : State) (g : Nat) (f : LaneFrame) : Bool := f.bck == cgSlots s g * slotBits (fv s .CG_FMT_WIDTH g)

/-- A frame whose BCK count is right, in RUNNING (R140). -/
def cgGoodFrame (s : State) (g : Nat) (f : LaneFrame) : State :=
  let x := groupOf s g
  if withinTol s g f.period x.curRate then takeFrame (setGroup s g { x with glitchRun := 0, offRun := 0 }) g f
  else if x.offRun < 7 then takeFrame (setGroup s g { x with glitchRun := 0, offRun := x.offRun + 1 }) g f
  else cgRateFault s g f.period

/-- A frame in RATE_FAULT whose BCK count is right: the 100 ms go on at one acceptable rate or start again (R141). -/
def cgMeasureRate (s : State) (g period : Nat) : State :=
  let x := groupOf s g
  match acceptedRate s g period with
  | some r =>
    if x.okFrom.isSome ∧ x.okRate = r then setGroup s g { x with glitchRun := 0 }
    else setGroup s g { x with glitchRun := 0, okFrom := some s.now, okRate := r, settled := false }
  | none => setGroup s g { x with glitchRun := 0, okFrom := none, settled := false }

/-- A frame in STARTING: stable at the rate of the frames before it, or the count restarts (R144). -/
def cgStable (s : State) (g : Nat) (right : Bool) (period : Nat) : State :=
  let x := groupOf s g
  match (if right then acceptedRate s g period else none) with
  | some r =>
    if x.stable = 0 ∨ x.stableRate = r then setGroup s g { x with stable := x.stable + 1, stableRate := r }
    else setGroup s g { x with stable := 0 }
  | none => setGroup s g { x with stable := 0 }

/-- A frame start that comes after a stop while STOPPING: the stop is counted, no state changes (R138, R143). -/
def cgCountStop (s : State) (g : Nat) : State :=
  let x := groupOf s g
  raise (setGroup s g { x with stops := satInc 0xFFFF x.stops, glitchRun := 0, offRun := 0, lastAt := none }) .LN_EVENT 2

/-- A fault judged while STOPPING is counted, raises its flag and changes no state (R143, log entry 67). -/
def cgCountOnly (s : State) (g : Nat) (right : Bool) (period : Nat) : State :=
  let x := groupOf s g
  if x.lastAt.isNone then s
  else if !right then
    let s := setGroup s g { x with glitches := satInc 0xFFFF x.glitches, glitchRun := x.glitchRun + 1 }
    let s := hitAttached (raise s .LN_EVENT 4) .ATT_CG g 2
    if 2 ≤ x.glitchRun then cgCountStop s g else s
  else if withinTol s g period x.curRate then setGroup s g { x with glitchRun := 0, offRun := 0 }
  else if x.offRun < 7 then setGroup s g { x with glitchRun := 0, offRun := x.offRun + 1 }
  else raise (setGroup s g { x with glitchRun := 0, offRun := 0, rateFaults := satInc 0xFFFF x.rateFaults }) .LN_EVENT 8

/-- The 64 frames of a stopping group go on by one, or by the nominal periods in which frame starts were missing (R145).
-/
def cgCountFrame (s : State) (g : Nat) : State :=
  let x := groupOf s g
  if x.state = .stopping ∧ x.playOut = .zero ∧ x.stopAt ≤ s.now then
    setGroup s g { x with stopLeft := x.stopLeft - max 1 (periodsSince s g x.stopAt), stopAt := s.now }
  else s

/-- Judge the frame that a frame start ends: stop, then glitch, then rate (R143). -/
def judge (s : State) (g : Nat) (f : LaneFrame) : State :=
  let x := groupOf s g
  let right := rightBck s g f
  match x.state with
  | .off => s
  | .stopped => cgState (setGroup s g { x with stable := 0 }) g .starting
  | .starting => if x.lastAt.isSome then cgStable s g right f.period else s
  | .running => if right then cgGoodFrame s g f else cgGlitch s g
  | .rateFault => if right then cgMeasureRate s g f.period else cgGlitch s g
  | .stopping => cgCountOnly s g right f.period

/-! ## What the lane pins carry -/

/-- The block of the output bridge that carries a destination at a rate: a converter where the clock is MC0, else a seam
on the named clock (0 group, 1 time base), the lowest index first; none where no such bridge is enabled (R114). -/
def bridgeTo (s : State) (sync : Bool) (rate kind clk d : Nat) : Option (List Int) :=
  if sync then
    (s.rb.convs.find? fun e => e.2.enabled && bit (rd s .SC_W0 e.1) 25 && fld (rd s .SC_W1 e.1) 0 11 == d &&
      fld (rd s .SC_W0 e.1) 0 4 == rate).map (·.2.out)
  else
    (s.rb.seams.find? fun e => e.2.enabled && bit (rdF s .SM_W0 e.1) 25 && fld (rd s .SM_W1 e.1) 0 11 == d &&
      fld (rdF s .SM_W0 e.1) 13 4 == rate && fld (rdF s .SM_W0 e.1) 8 2 == kind && fld (rdF s .SM_W0 e.1) 0 3 == clk).map (·.2.out)

/-- A sample of the output block that goes out; the one before it for a frame that lags (R136), zero for the frame that a
slip inserts (R137). -/
def outAt (s : State) (key : Nat) (pos : Int) : Int :=
  if pos < 0 then Tbl.getD s.ln.outPrev key 0 else (Tbl.getD s.ln.outCur key []).getD pos.toNat 0

/-- The low `n` bits of a number, MSB first. -/
def msbBits : Nat → Nat → List Bool
  | 0, _ => []
  | n + 1, v => (v / 2 ^ n % 2 == 1) :: msbBits n v

/-- A sample as its slot carries it, MSB first: 16 bits after rounding, or the 24 bits and zero for the rest (R129). -/
def slotWire (width : Nat) (x : Int) : List Bool :=
  match width with
  | 0 => msbBits 16 (field 16 (sat16 (rhe x 8)))
  | 1 => msbBits 24 (field 24 x)
  | _ => msbBits 32 (field 24 x * 256)

/-- The bits of one output lane in a frame, slot 0 first (R128, R129, R134). -/
def laneOut (s : State) (g l : Nat) (val : Nat → Int) : List Bool :=
  (List.range (cgSlots s g)).flatMap fun k => slotWire (fv s .CG_FMT_WIDTH g) (val (32 * l + k))

/-- The data of one output lane in a frame: zero but in RUNNING, RATE_FAULT and STOPPING, whose blocks carry their fades
(R138 to R145). -/
def laneData (s : State) (g : Nat) (pos : Int) (l : Nat) : List Bool :=
  if s.saf.quiet = some .atOnce ∨ (groupOf s g).fresh then laneOut s g l fun _ => 0
  else match (groupOf s g).state with
    | .running => laneOut s g l fun k => outAt s k pos
    | .rateFault => laneOut s g l fun k => outAt s k pos
    | .stopping => laneOut s g l fun k => outAt s k pos
    | _ => laneOut s g l fun _ => 0

/-- What a group's output lanes drive: the data of its frame, nothing behind a low gate (R146). -/
def lanePins (s : State) (wire : List (Nat × List Bool)) : List (Nat × Option (List Bool)) :=
  wire.map fun w => (w.1, if s.glb.gate && !s.saf.lanesOff then some w.2 else none)

/-- One frame of the group's outputs, as its place in the block gives it. -/
def sendFrame (s : State) (g : Nat) (pos : Int) : State :=
  let ls := ((List.range 8).map (8 * g + ·)).filter fun l => fv s .LANE_DIR_DIR l == 2
  let wire := ls.map fun l => (l, laneData s g pos l)
  emit (setGroup s g { groupOf s g with wire := wire })
    (.laneFrame g (dataDelay s g) (fb s .CG_FMT_BCK_EDGE g) (lanePins s wire))

/-- The output lanes follow OE_ALLOW at the instant it moves, within the frames that go out (R146). -/
def laneGate (s : State) : State :=
  forEach (s.ln.groups.filter fun e => !e.2.wire.isEmpty) s fun e s => emit s (.laneNow e.1 (lanePins s e.2.wire))

/-- Drive one frame of the group's outputs, unless the group is OFF (R145). A frame that starts once the block of this
stitch is used up belongs to the block of the boundary that follows, and is recorded there (R136); a foreign group's
block has samples to spare, and its seam takes up the difference. -/
def driveFrame (s : State) (g : Nat) : State :=
  let x := groupOf s g
  if x.state = .off then s
  else if x.fresh then sendFrame s g 0
  else
    let s := setGroup s g { x with pos := x.pos + 1 }
    if !cgForeign s g ∧ (x.frames : Nat) ≤ x.pos then s else sendFrame s g x.pos

/-- A frame start on one group: a stop that has come due is first (R138, R143). -/
def frameStart (s : State) (g : Nat) (f : LaneFrame) : State :=
  let st := (groupOf s g).state
  let s := if !stopDue s g then s
    else if st = .running ∨ st = .rateFault then cgStop s g
    else if st = .stopping then cgCountStop s g
    else s
  let s := cgCountFrame (judge s g f) g
  let s := setGroup s g { groupOf s g with lastAt := some s.now }
  driveFrame s g

/-- The frame that a FRAME edge ends on one of its groups (R130). -/
def sharedFrame (f : LaneFrame) (g : Nat) : LaneFrame :=
  { f with bck := ((f.bcks.find? fun e => e.1 == g).map (·.2)).getD f.bck }

/-- LANE_FRAME_START: an edge of the group's own pin starts a frame where FSY_SRC is 0 and FSY_POL names the edge; an
edge of FRAME starts one on every group that uses it, at the same instant (R128, R130). -/
def laneFrameStart (s : State) (g : Nat) (f : LaneFrame) : State :=
  if f.shared then
    let s := s.setLn fun l => { l with frameSeen := some s.now }
    forEach ((List.range 8).filter fun k => fb s .CG_FMT_FSY_SRC k && fb s .CG_FMT_FSY_POL k == f.falling) s fun k s =>
      frameStart s k (sharedFrame f k)
  else if fb s .CG_FMT_FSY_SRC g ∨ fb s .CG_FMT_FSY_POL g ≠ f.falling then s
  else frameStart s g f

/-- CG_STOP (R138). -/
def cgStopEvent (s : State) (g : Nat) : State :=
  let st := (groupOf s g).state
  if !stopDue s g then s
  else if st = .running ∨ st = .rateFault then cgStop s g
  else if st = .stopping then cgCountStop s g
  else s

def cgClrCounts (s : State) (g : Nat) : State :=
  setGroup s g { groupOf s g with stops := 0, glitches := 0, rateFaults := 0, slips := 0 }

/-! ## At a stitch boundary -/

/-- The block that plays, from the raw block and the last sample before it (R120, R137, R138). -/
def playBlock (p : Play) (raw : List Int) (last : Int) : List Int :=
  match p with
  | .run => raw
  | .fade => fadeBlock last
  | .refade => fadeBlock last
  | .zero => zeros6
  | .rampIn => fadeInBlock raw

/-- The same at a rate of `n` samples a stitch (log entry 66); a block may hold a few more for a clock that runs fast. -/
def playAt (p : Play) (n : Nat) (raw : List Int) (last : Int) : List Int :=
  let len := max n raw.length
  match p with
  | .run => raw
  | .fade => (List.range len).map (fadeAt n last)
  | .refade => (List.range len).map (fadeAt n last)
  | .zero => List.replicate len 0
  | .rampIn => (raw.zipIdx).map fun e => fadeInAt n e.1 e.2

def Play.next : Play → Play
  | .fade => .zero
  | .refade => .rampIn
  | .rampIn => .run
  | p => p

/-- The first `n` samples of a list, the last good one repeated where fewer are there. -/
def padTo (n : Nat) (xs : List Int) (last : Int) : List Int :=
  let ys := xs.take n
  ys ++ List.replicate (n - ys.length) (ys.getLastD last)

def six (xs : List Int) (last : Int) : List Int := padTo 6 xs last

/-- A slip of one frame at this boundary (R137): the phase moves one frame; each direction drops a frame, or is given
one of zeros, and its block fades and ramps in again, unless a fault's fade falls into that block (R143). -/
def cgSlip (s : State) (g : Nat) : State :=
  let x := groupOf s g
  let lead := decide (0 < x.phase)
  let p (q : Play) : Play := if q = .run ∨ q = .rampIn then .refade else q
  let s := setGroup s g { x with
    phase := if lead then x.phase - 256 else x.phase + 256, slips := satInc 0xFFFF x.slips
    slip := if lead then 1 else -1, play := p x.play, playOut := p x.playOut }
  let s := s.setLn fun l => { l with
    inAcc := Tbl.mapV l.inAcc fun k xs =>
      if keyGroup k = g then (if lead then xs.drop 1 else 0 :: xs) else xs }
  hitAttached (raise s .LN_EVENT 0x10) .ATT_CG g 1

/-- Phase readings of a boundary: the change of each anchored group's lead, in 1/256 frame (R136). A bound or steered
group that has reached a frame slips (R137), in a block that a fault fades too (R143), but not while it is the selected
reference of its media clock, whose loop keeps it near zero (R132). -/
def cgPhases (s : State) (ph : List (Nat × Int)) : State :=
  forEach ph s fun e s =>
    let x := groupOf s e.1
    if (x.state = .running ∧ !x.fresh) ∨ x.play = .fade then
      let v := clampI (-0x7FFF) 0x7FFF (x.phase + e.2)
      let v := if selectedRef s e.1 then clampI (-255) 255 v else v
      let s := setGroup s e.1 { x with phase := v }
      if cgMcb s e.1 < 8 ∧ 256 ≤ v.natAbs then cgSlip s e.1 else s
    else s

/-- Samples of a group's present rate in the stitch that runs. -/
def groupLen (s : State) (g : Nat) : Nat := samplesIn (rateHz (groupOf s g).curRate) s.mix.stitch

/-- The same in the stitch that has ended. -/
def endedLen (s : State) (g : Nat) : Nat := samplesIn (rateHz (groupOf s g).curRate) (s.mix.stitch - 1)

/-- The input block of a lane slot, from the samples collected: those of a stitch on MC0, else those of the frames that
ended, for the bridges that read them (R113, R136). -/
def laneBlock (s : State) (k : Nat) (xs : List Int) : List Int :=
  let g := keyGroup k
  let last := Tbl.getD s.ln.inLast k 0
  let ys := if cgSync s g then padTo (endedLen s g) xs (Tbl.getD s.ln.inGood k 0) else xs
  if cgDirect s g then playBlock (groupOf s g).play ys last
  else playAt (groupOf s g).play (groupLen s g) ys last

/-- The samples that a group has collected for the block of a boundary. -/
def collected (s : State) (g : Nat) : Nat :=
  s.ln.inAcc.foldl (fun n e => if keyGroup e.1 = g then max n e.2.length else n) 0

/-- The frames of this boundary's block that are still coming in give it their samples now, as far as the block lacks
some; a glitch frame repeats the good sample before it (R136, R139; DESIGN CHOICE, log entry 99). -/
def takeTails (s : State) (tails : List (Nat × LaneFrame)) : State :=
  forEach (s.ln.groups.map (·.1)) s fun g s =>
    let x := groupOf s g
    if x.state = .running ∧ !x.fresh ∧ cgSync s g then
      let fs := ((tails.filter fun t => t.1 == g).map (·.2)).take (endedLen s g - collected s g)
      let s := forEach fs s fun f s => addSlots s g (if rightBck s g f then frameSlot s g f else goodSlot s)
      setGroup s g { x with ahead := x.ahead + fs.length }
    else s

/-- The input blocks of all lane slots at a boundary (R136 to R140). -/
def laneInputs (s : State) : State :=
  let l := s.ln
  let keys := (l.inBlk.map (·.1)) ++ ((l.inAcc.map (·.1)).filter fun k => (Tbl.get? l.inBlk k).isNone)
  let blk := keys.foldl (fun (t : Tbl (List Int)) k =>
    let b := laneBlock s k (Tbl.getD l.inAcc k [])
    if b.all (· == 0) ∧ (Tbl.get? l.inAcc k).isNone then t else Tbl.put t k b) []
  { s with ln := { l with
      inBlk := blk
      inAcc := Tbl.keep (l.inAcc.map fun e =>
          (e.1, if cgSync s (keyGroup e.1) then e.2.drop (endedLen s (keyGroup e.1)) else []))
        fun _ xs => !xs.isEmpty
      inLast := Tbl.keep (Tbl.mapV blk fun _ b => lastOf b) fun _ x => x != 0 } }

/-- The block a destination leaves with, zero for one that does not exist (R61, R134). -/
def dstBlock (s : State) (d : Nat) : List Int :=
  match Tbl.get? s.mix.dests d with
  | some x => six x.out 0
  | none => zeros6

/-- The block an output carries under its map entry and crossfade (R134, R150, R192, R479). -/
def carried (s : State) (sides : List (Side Nat)) : List Int :=
  (List.range 6).map fun k => blend sides (fun d => (dstBlock s d).getD k 0) k

/-- The same through the bridges of the destinations, at `n` samples a stitch; zero where a side has none (R114, R134). -/
def bridged (sides : List (Side Nat)) (n : Nat) (blk : Nat → Option (List Int)) : List Int :=
  let bs := sides.map fun x => { what := (blk x.what).getD [], w := x.w : Side (List Int) }
  (List.range (bs.foldl (fun a x => max a x.what.length) 0)).map fun k => blendAt bs (fun b => b.getD k 0) n k

/-- The block an output slot is given at a boundary: the destination itself at 48 kHz on MC0, else its bridges'. -/
def slotBlock (s : State) (k : Nat) (sides : List (Side Nat)) : List Int :=
  let g := keyGroup k
  if fv s .LANE_DIR_DIR (k / 32) ≠ 2 ∨ cgSlots s g ≤ k % 32 then []
  else if cgDirect s g then carried s sides
  else bridged sides (groupLen s g) (bridgeTo s (cgSync s g) (fv s .CG_FMT_RATE g) 0 g)

/-- The last sample that an output slot has sent: a foreign group's block holds more than it sends (R119). -/
def lastSent (s : State) (k : Nat) : Int :=
  let g := keyGroup k
  if cgForeign s g then outAt s k ((groupOf s g).pos - 1) else Tbl.getD s.ln.outLast k 0

/-- The output blocks at a boundary: the block that leaves now goes out in the next stitch but one (R136). -/
def laneOutputs (s : State) : State :=
  let l := s.ln
  let cur := Tbl.mapV l.outNext fun k b =>
    let p := (groupOf s (keyGroup k)).playOut
    if cgDirect s (keyGroup k) then playBlock p (six b 0) (lastSent s k)
    else playAt p (groupLen s (keyGroup k)) b (lastSent s k)
  { s with ln := { l with
      outCur := cur, outNext := Tbl.mapV l.slotSides (slotBlock s)
      outPrev := Tbl.keep (Tbl.mapV l.outNext fun k _ => lastSent s k) fun _ x => x != 0
      outLast := Tbl.keep (Tbl.mapV cur fun _ b => lastOf b) fun _ x => x != 0
      slotSides := agedSides l.slotSides } }

/-- The place of the next output frame once a block of `x.frames` is over: a frame not yet sent is dropped by a slip of a
group that lags; a lag of less than a frame is kept (R136, R137). -/
def Group.nextPos (x : Group) : Int :=
  let p := if x.slip = -1 ∧ x.pos < (x.frames : Nat) then x.pos + 1 else x.pos
  if x.state = .running ∧ p + 1 = (x.frames : Nat) then -1 else max 0 (p - (x.frames : Nat))

/-- The fades of the groups move on by one block, and frames count from its start; the block of a group that slips on a
lead holds one frame of zeros more (R137). -/
def laneSteps (s : State) : State :=
  s.setLn fun l => { l with
    groups := Tbl.mapV l.groups fun g x => { x with
      play := x.play.next, playOut := x.playOut.next
      stopAt := if x.state = .stopping ∧ x.playOut = .fade then s.now + 125000 else x.stopAt
      pos := if cgForeign s g then 0 else x.nextPos
      frames := (if cgDirect s g then 6 else groupLen s g) + (if x.slip = 1 then 1 else 0), slip := 0 } }

/-- The frames that have started and take their samples from the block of this boundary. -/
def lateFrames (s : State) : State :=
  forEach (s.ln.groups.map (·.1)) s fun g s =>
    forEach (List.range (groupOf s g).pos.toNat) s fun i s => sendFrame s g i

/-- The lanes at a boundary: phases and slips, frames still coming in, returns and anchors, input blocks, output blocks,
fades (Table 01-2). -/
def laneBoundary (s : State) (ph : List (Nat × Int)) (tails : List (Nat × LaneFrame)) : State :=
  lateFrames (laneSteps (laneOutputs (laneInputs (cgAnchored (cgReturns (takeTails (cgPhases s ph) tails))))))

/-- A map entry of 0 to 2047 or none (Table 06-8). -/
def mapOk (v : Word) : Bool := decide (fld v 0 16 < 2048 ∨ fld v 0 16 = 0xFFFF)

/-- The destination a map entry names. -/
def mapDst (v : Word) : Option Nat := if fld v 0 16 = 0xFFFF then none else some (fld v 0 16)

/-- LN_FRAME (Table 06-5). -/
def lnFrame (s : State) : Word :=
  let users := (List.range 8).filter fun g => fb s .CG_FMT_FSY_SRC g
  let slowest := users.foldl (fun a g => min a (rateHz (fv s .CG_FMT_RATE g))) 192000
  let present := match s.ln.frameSeen with
    | some t => !users.isEmpty && decide ((s.now - t) * slowest < 2000000000)
    | none => false
  word (at_ 31 (b2n present) + users.foldl (fun a g => a + 2 ^ g) 0)

def GroupState.num : GroupState → Nat
  | .off => 0 | .starting => 1 | .running => 2 | .stopped => 3 | .rateFault => 4 | .stopping => 5

end Sys2Proof.Machine
end

