-- ==== Sys2Proof/Machine/TimeBases.lean ====
section
/-! DEFINITION. The four time bases: servo, jump hold, steps, BMCA, snapshots, and the switch's Pdelay exchange
(spec/09). -/

namespace Sys2Proof.Machine

def setTbk (s : State) (k : Nat) (b : TimeBase) : State := s.setTb fun t => { t with tbs := Tbl.put t.tbs k b }

/-- A signed 8-bit log2 interval of TB_INTV in nanoseconds (Table 09-1). -/
def logNs (v : Nat) : Nat :=
  let e := sext 8 v
  if 0 ≤ e then 1000000000 * 2 ^ e.toNat else 1000000000 / 2 ^ (-e).toNat

/-- A value in a signed range. -/
def logIn (v : Nat) (lo hi : Int) : Bool := decide (lo ≤ sext 8 v ∧ sext 8 v ≤ hi)

/-- The profile's column of Table 09-1 holds for a time base as it would be enabled. -/
def profileOk (profile domain transport sync ann delay : Nat) : Bool :=
  decide (domain ≤ 127) &&
  match profile with
  | 0 => logIn sync (-4) 1 && logIn ann 0 4 && logIn delay (-4) 5
  | 1 => logIn sync (-4) 1 && logIn ann 0 4 && logIn delay (-4) 5
  | 2 => logIn sync (-4) 1 && logIn ann 0 4 && logIn delay (-4) 5 && decide (1 ≤ transport)
  | 3 => logIn sync (-7) (-1) && logIn ann (-3) 1 && logIn delay (-7) 5 && decide (1 ≤ transport)
  | _ => logIn sync (-7) 1 && logIn ann (-3) 3 && logIn delay (-4) 5 && transport == 0

/-- Peer-to-peer profiles measure the link with Pdelay (Table 09-1). -/
def isP2p (s : State) (k : Nat) : Bool := fv s .TB_CTRL_PROFILE k == 1 || fv s .TB_CTRL_PROFILE k == 4

/-- The EUI-64 of a MAC address (R201). -/
def eui64 (mac : Nat) : Nat := (mac / 2 ^ 24 * 2 ^ 16 + 0xFFFE) * 2 ^ 24 + mac % 2 ^ 24

/-- Own clockIdentity (R201): from the MAC of its port, N2 in the relay role. -/
def clkId (s : State) (k : Nat) : Nat :=
  eui64 (macOf s (if fv s .TB_CTRL_ROLE k = 2 then 2 else fv s .TB_CTRL_PORT k))

/-- The dataset the time base announces (R200, R201), with the UTC fields when it is grandmaster. -/
def ownDs (s : State) (k : Nat) : Dataset :=
  { id := clkId s k, prio1 := fv s .TB_DS_PRIORITY1 k, cls := fv s .TB_DS_CLASS k, acc := fv s .TB_DS_ACCURACY k
    var := fv s .TB_DS2_VARIANCE k, prio2 := fv s .TB_DS_PRIORITY2 k
    utc := if (tbOf s k).state = .master then some (rd s .TB_UTC k).toNat else none
    source := fv s .TB_DS2_TIME_SOURCE k, sender := clkId s k }

/-- The 802.1AS relay between N2 and N3 (R200). -/
def relays (s : State) (k : Nat) : Bool := fv s .TB_CTRL_ROLE k == 2

/-- The ports of a time base (R198, R200). -/
def tbPorts (s : State) (k : Nat) : List Nat := if relays s k then [2, 3] else [fv s .TB_CTRL_PORT k]

/-- How a message of a time base leaves on a port (R199 to R201). -/
def ptpTx (s : State) (k port seq : Nat) : PtpTx :=
  { port := port, id := clkId s k, number := if relays s k && port == 3 then 2 else 1, via := fv s .TB_CTRL_TRANSPORT k
    domain := fv s .TB_CTRL_DOMAIN k, vid := fv s .TB_VLAN_VID k, pcp := fv s .TB_VLAN_PCP k, seq := seq }

/-- A message of a time base leaves, if the port is UP (R153). -/
def ptpSend (s : State) (k port seq : Nat) (m : PtpBody) : State :=
  if (portOf s port).state = .up then emit s (.ptp k (ptpTx s k port seq) m) else s

/-- Comparison of two lists of numbers, first difference deciding. -/
def lexLess : List Nat → List Nat → Bool
  | a :: as, b :: bs => decide (a < b) || (a == b && lexLess as bs)
  | _, _ => false

/-- The better of two datasets under the BMCA (PRESUMED: IEEE 1588 data set comparison; log entry 24). -/
def better (a b : Dataset) : Bool :=
  lexLess [a.prio1, a.cls, a.acc, a.var, a.prio2, a.id, a.steps] [b.prio1, b.cls, b.acc, b.var, b.prio2, b.id, b.steps]

/-! ## States -/

/-- A change of state raises STATE_CHANGE (R215). -/
def tbState (s : State) (k : Nat) (st : TbState) : State :=
  if (tbOf s k).state = st then s
  else raise (setTbk s k { tbOf s k with state := st }) .TB_EVENT (2 ^ (8 + k))

/-- A change of grandmaster raises GM_CHANGE (R215). -/
def tbMaster (s : State) (k : Nat) (g : Option Dataset) : State :=
  let b := tbOf s k
  let old := b.gm.map (·.id)
  let s := setTbk s k { b with gm := g, gmUtc := (g.bind (·.utc)).getD b.gmUtc }
  if old = g.map (·.id) then s else raise s .TB_EVENT (2 ^ (12 + k))

/-- A running slew stops where it stands (R211). -/
def stopSlew (s : State) (k : Nat) : State := setTbk s k { tbOf s k with slewLeft := 0, slewRate := 0 }

/-- Correct an offset by slewing (R211): the frequency estimate is the servo's, a free value; the slew rate is a free
value that never exceeds MAX_SLEW. -/
def slew (s : State) (k : Nat) (o : Int) : State :=
  let (n, s) := draw s
  let lim := fv s .TB_SERVO_MAX_SLEW k * 256000
  setTbk s k { tbOf s k with
    freq := (Config.servoFreq n).toInt
    slewLeft := -o * 16000000000
    slewRate := (Config.slewRate n).toNat % (lim + 1) }

/-- Hold a step for acceptance: PEND is −o rounded to whole nanoseconds (R212). -/
def pendOf (o : Int) : Int := rdiv (-o) 16

/-- Apply the pending step now (R216, R218): time, STEP, STEP_TACK, ACC, STEP_GEN, TB_STEP. -/
def applyStep (s : State) (k : Nat) : State :=
  let b := tbOf s k
  let s := setTbk s k { b with
    t := ((b.t : Int) + b.pend * tbUnit).toNat, step := b.pend, acc := b.acc + b.pend
    stepGen := (b.stepGen + 1) % 65536, pend := 0, committed := none, outRun := 0, okRun := 0
    heldSince := none, after := .tracking }
  let s := gateStep (setTbk s k { tbOf s k with stepTack := tack s k }) k
  raise (if b.state = .mirrored then s else tbState s k b.after) .TB_EVENT (2 ^ (4 + k))

/-- Commit the pending step (R213, R214); before audio start it applies at once. -/
def commitStep (s : State) (k : Nat) : State :=
  let s := setTbk s k { tbOf s k with committed := some s.now, after := .tracking }
  if s.mix.audioOn then s else applyStep s k

/-- Into JUMP_HELD with the third refused offset (R212). -/
def jumpHold (s : State) (k : Nat) (o : Int) : State :=
  let s := stopSlew s k
  let b := tbOf s k
  let s := setTbk s k { b with
    outRun := 0, okRun := 0, jumpGen := (b.jumpGen + 1) % 256, pend := pendOf o, heldSince := some s.now }
  raise (tbState s k .jumpHeld) .TB_EVENT (2 ^ k)

/-- An offset at or above the threshold while ACQUIRING or TRACKING (R212). -/
def refuseOffset (s : State) (k : Nat) (o : Int) : State :=
  let b := tbOf s k
  if 2 ≤ b.outRun then jumpHold s k o
  else setTbk s k { b with outRun := b.outRun + 1, outliers := satInc 0xFFFF b.outliers }

/-- One offset measurement (R211 to R215). -/
def measure (s : State) (k : Nat) (o : Int) : State :=
  let s := setTbk s k { tbOf s k with ofs := o }
  let b := tbOf s k
  let big := decide (16 * fv s .TB_JTHR_JTHR k ≤ o.natAbs)
  if b.committed.isSome then setTbk s k { b with pend := pendOf o }
  else match b.state with
  | .acquiring =>
    if !b.initDone ∧ fb s .TB_CTRL_INIT_AUTO k then
      commitStep (setTbk s k { b with initDone := true, pend := pendOf o }) k
    else
      let s := setTbk s k { b with initDone := true }
      if big then refuseOffset s k o
      else slew (tbState (setTbk s k { tbOf s k with outRun := 0 }) k .tracking) k o
  | .tracking => if big then refuseOffset s k o else slew (setTbk s k { b with outRun := 0 }) k o
  | .jumpHeld =>
    if big then setTbk s k { b with pend := pendOf o, okRun := 0 }
    else if b.okRun < 2 then setTbk s k { b with pend := pendOf o, okRun := b.okRun + 1 }
    else slew (tbState (setTbk s k { b with pend := 0, okRun := 0, heldSince := none }) k .tracking) k o
  | _ => s

/-! ## Messages -/

/-- A grandmaster's own dataset is what its messages carry from now on (R201, R225). -/
def ownMaster (s : State) (k : Nat) : State := if (tbOf s k).state = .master then tbMaster s k (some (ownDs s k)) else s

/-- The time base wins the BMCA (R200, R215). -/
def becomeMaster (s : State) (k : Nat) : State := ownMaster (tbState s k .master) k

/-- An Announce is a BMCA input (R200, R215). -/
def announce (s : State) (k : Nat) (d : Dataset) : State :=
  let b := tbOf s k
  let own := ownDs s k
  if fv s .TB_CTRL_ROLE k = 1 ∧ better own d then
    match b.state with
    | .freeRun => becomeMaster s k
    | .holding => becomeMaster s k
    | _ => s
  else
    let follows := match b.state, b.gm with
      | .master, _ => true
      | _, none => true
      | _, some g => (g.sender == d.sender && g.port == d.port) || better d g
    if !follows then s
    else
      let s := tbMaster s k (some d)
      let s := setTbk s k { tbOf s k with annAt := some s.now }
      match b.state with
      | .freeRun => tbState (setTbk s k { tbOf s k with outRun := 0, okRun := 0 }) k .acquiring
      | .holding => tbState (setTbk s k { tbOf s k with outRun := 0, okRun := 0 }) k .acquiring
      | .master => tbState (setTbk s k { tbOf s k with outRun := 0, okRun := 0 }) k .acquiring
      | _ => s

/-- A Sync with its master time gives the offset local − master (the servo section of spec/09). -/
def syncMeasured (s : State) (k : Nat) (local_ master : Int) : State :=
  let s := setTbk s k { tbOf s k with t2t1 := local_ - master }
  measure s k (local_ - master - (tbOf s k).mpd)

/-- The instant of reception in the time base's time at the reference plane, 1/16 ns (R204). -/
def rxStamp (s : State) (k port : Nat) : Int := (tb16 s k : Int) - rxCorr s port

def setMpd (s : State) (k : Nat) (d : Int) : State :=
  setTbk s k { tbOf s k with mpd := (clampI 0 0xFFFFFFFF d).toNat }

/-- Is the port one on which the time base listens (R198, R200)? -/
def tbListens (s : State) (k port : Nat) : Bool :=
  fb s .TB_CTRL_EN k && (portOf s port).state == .up && (tbOf s k).state != .mirrored && (tbPorts s k).contains port

/-- The port is the time base's own, or the one that the BMCA made slave of a relay (R200). -/
def onSlavePort (s : State) (k port : Nat) : Bool :=
  !relays s k || match (tbOf s k).gm with
    | some g => g.port == port
    | none => false

/-- The message came from the master that the BMCA has selected, over its port (R200). -/
def fromMaster (s : State) (k port sender : Nat) : Bool :=
  match (tbOf s k).gm with
  | some g => g.sender == sender && g.port == port
  | none => false

/-- The rateRatio of a relay: its servo's frequency estimate, as an offset from 1 in 2^-41 (R200, log entry 72). -/
def rateRatio (s : State) (k : Nat) : Int := rdiv ((tbOf s k).freq * 2 ^ 41) 256000000000

/-- What a relay adds to the correction of a Sync or its Follow_Up: the link delay, and its residence at its rateRatio. A
Sync is relayed as it arrives, so it resides from one MAC's reference plane to the other's (R200, log entry 72). -/
def relayCorr (s : State) (k port : Nat) : Int :=
  (tbOf s k).mpd + rdiv (((rxCorr s port + txCorr s (5 - port) : Nat) : Int) * (256000000000 + (tbOf s k).freq)) 256000000000

/-- A relay sends on its other port what came over the slave port (R200). -/
def relay (s : State) (k port seq : Nat) (m : PtpBody) : State := if relays s k then ptpSend s k (5 - port) seq m else s

/-- The time-stamp a message takes that leaves a port now, in the time base's time (R204). -/
def txStamp (s : State) (k port : Nat) : Int := (tb16 s k : Int) + txCorr s port

/-- An answer to the delay request that left the port last under this number: what it gives of that request's stamp. -/
def answered (s : State) (k port seq : Nat) (f : Int → State) : State :=
  match Tbl.get? (tbOf s k).asked port with
  | some (q, t) => if q = seq then f t else s
  | none => s

/-- PTP_MESSAGE_RECEIVE. -/
def ptpReceive (s : State) (k port : Nat) (m : PtpMsg) : State :=
  if !tbListens s k port then s
  else match m with
  | .announce d =>
    let s := announce s k { d with port := port }
    if (tbOf s k).gm = some { d with port := port } then relay s k port 0 (.announce { d with steps := d.steps + 1, sender := clkId s k, port := 5 - port }) else s
  | .sync sender seq twoStep origin corr =>
    if !fromMaster s k port sender then s else
    let at_ := rxStamp s k port
    let s := relay s k port seq
      (.sync twoStep origin (if twoStep then 0 else corr + relayCorr s k port) (rateRatio s k) (ownDs s k))
    if twoStep then setTbk s k { tbOf s k with syncSeq := some (seq, at_, corr) }
    else syncMeasured s k at_ (origin + corr)
  | .followUp sender seq origin corr =>
    match (tbOf s k).syncSeq with
    | some (q, at_, c) =>
      if q = seq ∧ fromMaster s k port sender then
        let s := relay s k port seq (.followUp origin (corr + c + relayCorr s k port) (rateRatio s k))
        syncMeasured (setTbk s k { tbOf s k with syncSeq := none }) k at_ (origin + corr + c)
      else s
    | none => s
  | .delayReq sender seq =>
    if (tbOf s k).state = .master ∧ !isP2p s k then
      ptpSend (ownMaster s k) k port seq (.delayResp sender (rxStamp s k port) (ownDs s k))
    else s
  | .delayResp sender seq recv corr =>
    if isP2p s k ∨ !fromMaster s k port sender then s else answered s k port seq fun t => setMpd s k (((tbOf s k).t2t1 + (recv - corr - t)) / 2)
  | .pdelayReq seq => if isP2p s k then ptpSend s k port seq (.pdelayResp (rxStamp s k port) (txStamp s k port)) else s
  | .pdelayResp seq t2 t3 =>
    if isP2p s k ∧ onSlavePort s k port then
      answered s k port seq fun t => setMpd s k ((rxStamp s k port - t - (t3 - t2)) / 2)
    else s
  | .ignored => s

/-- The announce receipt timeout of a time base has run out (R199, R215). -/
def annOver (s : State) (k : Nat) : Bool :=
  match (tbOf s k).annAt with
  | some t => decide (t + fv s .TB_INTV_ANN_TO k * logNs (fv s .TB_INTV_LOG_ANN k) ≤ s.now)
  | none => false

/-- ANNOUNCE_TIMEOUT (Table 09-4): a master lost; a master-capable time base then wins its own BMCA. -/
def announceTimeout (s : State) (k : Nat) : State :=
  if !annOver s k || !fb s .TB_CTRL_EN k then s
  else
    let b := tbOf s k
    let lose (s : State) : State := tbMaster (stopSlew (setTbk s k { tbOf s k with
      annAt := some s.now, annTimeouts := satInc 0xFFFF b.annTimeouts }) k) k none
    match b.state with
    | .acquiring => tbState (setTbk (lose s) k { tbOf (lose s) k with after := .holding }) k .holding
    | .tracking => tbState (lose s) k .holding
    | .jumpHeld =>
      if b.committed.isSome then setTbk (lose s) k { tbOf (lose s) k with after := .holding }
      else
        let s := lose s
        tbState (setTbk s k { tbOf s k with pend := 0, heldSince := none }) k .holding
    | .holding => if fv s .TB_CTRL_ROLE k = 1 then becomeMaster s k else s
    | .freeRun => if fv s .TB_CTRL_ROLE k = 1 then becomeMaster s k else s
    | _ => s

/-- The Announce of a grandmaster whose interval has come, on a port that is UP (R153, R200, R201). -/
def annSend (s : State) (k : Nat) : State :=
  let b := tbOf s k
  let p := fv s .TB_CTRL_PORT k
  if b.state = .master ∧ (portOf s p).state = .up ∧ b.nextAnn ≤ s.now then
    let s := ownMaster s k
    emit (setTbk s k { tbOf s k with nextAnn := s.now + logNs (fv s .TB_INTV_LOG_ANN k), annNo := (b.annNo + 1) % 65536 })
      (.ptp k (ptpTx s k p b.annNo) (.announce (ownDs s k)))
  else s

/-- Its Sync, and in two-step mode the Follow_Up (R200, R201). -/
def syncSend (s : State) (k : Nat) : State :=
  let b := tbOf s k
  let p := fv s .TB_CTRL_PORT k
  if b.state = .master ∧ (portOf s p).state = .up ∧ b.nextSync ≤ s.now then
    let two := fb s .TB_CTRL_TWO_STEP k
    let h := ptpTx s k p b.syncNo
    let time := txStamp s k p
    let s := ownMaster s k
    let s := setTbk s k { tbOf s k with nextSync := s.now + logNs (fv s .TB_INTV_LOG_SYNC k), syncNo := (b.syncNo + 1) % 65536 }
    let s := emit s (.ptp k h (.sync two (if two then 0 else time) 0 0 (ownDs s k)))
    if two then emit s (.ptp k h (.followUp time 0 0)) else s
  else s

/-- The ports on which a delay request is due: with peer delay all that are UP, else the slave's (Table 09-1). -/
def delayPorts (s : State) (k : Nat) : List Nat :=
  let b := tbOf s k
  let follows := b.state == .acquiring || b.state == .tracking || b.state == .jumpHeld
  if fb s .TB_CTRL_EN k && b.state != .mirrored && decide (b.nextDelay ≤ s.now) && (isP2p s k || follows) then
    (tbPorts s k).filter fun p => (portOf s p).state == .up
  else []

/-- The delay requests whose interval has come (Table 09-1, LOG_DELAY), each with the time-stamp it takes (R204). -/
def delaySend (s : State) (k : Nat) : State :=
  let ps := delayPorts s k
  if ps.isEmpty then s
  else
    let b := tbOf s k
    let s := setTbk s k { b with
      nextDelay := s.now + logNs (fv s .TB_INTV_LOG_DELAY k), delayNo := (b.delayNo + 1) % 65536
      asked := ps.foldl (fun t p => Tbl.put t p (b.delayNo, txStamp s k p)) b.asked }
    forEach ps s fun p s => emit s (.ptp k (ptpTx s k p b.delayNo) (if isP2p s k then .pdelayReq else .delayReq))

/-- PTP_MASTER_SEND (R199 to R201): the messages of a time base whose interval has come (log entry 71). -/
def masterSend (s : State) (k : Nat) : State := delaySend (syncSend (annSend s k) k) k

/-- PERSIST_EXPIRE (R213). -/
def persistExpire (s : State) (k : Nat) : State :=
  let b := tbOf s k
  match b.heldSince with
  | some t =>
    if b.state = .jumpHeld ∧ b.committed.isNone ∧ t + 1000000000 * fv s .TB_SERVO_PERSIST k ≤ s.now ∧
        fb s .TB_SERVO_AUTO_STEP k then commitStep s k else s
  | none => s

/-- EN written 1 or 0 (Table 09-4). -/
def tbEnable (s : State) (k : Nat) (on : Bool) : State :=
  let b := tbOf s k
  if b.state = .mirrored then s
  else if on then setTbk s k { b with annAt := some s.now, nextAnn := s.now, nextSync := s.now, nextDelay := s.now }
  else
    let s := stopSlew s k
    let s := setTbk s k { tbOf s k with
      annAt := none, outRun := 0, okRun := 0, heldSince := none, after := .freeRun, syncSeq := none, asked := []
      pend := if b.committed.isSome then b.pend else 0 }
    tbState (tbMaster s k none) k .freeRun

/-- SNAP (R222). -/
def snapTb (s : State) (k : Nat) : State :=
  let b := tbOf s k
  setTbk s k { b with snap :=
    { sec := tbSec s k, ns := tbNs s k, frac := tbFrac s k, tns := tns s k, gen := b.stepGen } }

def tbClrCounts (s : State) (k : Nat) : State := setTbk s k { tbOf s k with annTimeouts := 0, outliers := 0 }

/-- One nanosecond of a time base (R198, R211). -/
def tbTick (b : TimeBase) : TimeBase :=
  let d := clampI (-(b.slewRate : Int)) b.slewRate b.slewLeft
  { b with t := ((b.t : Int) + tbUnit + b.freq + d).toNat, slewLeft := b.slewLeft - d }

/-- One nanosecond of every time base: all of them run from reset on (R198). -/
def tickAll (s : State) : State := forEach [0, 1, 2, 3] s fun k s => setTbk s k (tbTick (tbOf s k))

/-- The step sequence of R216 at a boundary: fade, then the step, then back. -/
def stepPhase (s : State) (k : Nat) : State :=
  let b := tbOf s k
  if b.phase = 1 then
    let s := applyStep s k
    setTbk s k { tbOf s k with phase := 2 }
  else
    let b := { b with phase := 0 }
    match b.committed with
    | some c => if dueNow s c then setTbk s k { b with phase := 1 } else setTbk s k b
    | none => setTbk s k b

/-- A unit becomes standby, or becomes active again (R203, R215). -/
def tbMirror (s : State) (k : Nat) (on : Bool) : State :=
  let b := tbOf s k
  if on then (if b.state = .mirrored then s else tbState (setTbk s k { b with saved := b.state }) k .mirrored)
  else if b.state = .mirrored then
    tbState (setTbk s k { b with
      annAt := some s.now, okRun := 0, heldSince := none, pend := if b.committed.isSome then b.pend else 0 }) k (if b.saved = .tracking then .tracking else .acquiring)
  else s

/-! ## Pdelay of the switch (R208) -/

/-- The interval of a port's Pdelay exchange: LOG_DELAY of the lowest-numbered enabled time base in the domain, or 1 s. -/
def pdelayNs (s : State) : Nat :=
  match [0, 1, 2, 3].find? fun k => fb s .TB_CTRL_EN k && fv s .TB_CTRL_DOMAIN k == fv s .TC_CTRL_P2P_DOMAIN with
  | some k => logNs (fv s .TB_INTV_LOG_DELAY k)
  | none => 1000000000

def pdelaySend (s : State) (n : Nat) : State :=
  if tcMode s n = 2 ∧ (portOf s n).state = .up ∧ Tbl.getD s.tb.nextPdelay n 0 ≤ s.now then
    let seq := match Tbl.get? s.tb.pdelayAsked n with
      | some (q, _) => (q + 1) % 65536
      | none => 0
    emit (s.setTb fun t => { t with
        nextPdelay := Tbl.put t.nextPdelay n (s.now + pdelayNs s)
        pdelayAsked := Tbl.put t.pdelayAsked n (seq, 16 * s.now + txCorr s n) })
      (.pdelayReq n (fv s .TC_CTRL_P2P_DOMAIN) seq)
  else s

/-- A Pdelay message from another device on a P2P port: a request is answered, an answer to the last request updates
LINK_DELAY. All four time-stamps are the MAC's (R204). -/
def pdelayReceive (s : State) (n seq : Nat) (resp : Option (Int × Int)) : State :=
  if tcMode s n = 2 ∧ (portOf s n).state = .up then
    let at_ : Int := (16 * s.now : Nat) - (rxCorr s n : Nat)
    match resp, Tbl.get? s.tb.pdelayAsked n with
    | none, _ => emit s (.pdelayResp n (fv s .TC_CTRL_P2P_DOMAIN) seq at_ (16 * s.now + txCorr s n : Nat))
    | some (t2, t3), some (q, t1) =>
      if q = seq then s.setTb fun t =>
        { t with linkDelay := Tbl.put t.linkDelay n (clampI 0 0xFFFFFFFF ((at_ - t1 - (t3 - t2)) / 2)).toNat }
      else s
    | some _, none => s
  else s

/-- PTP portState as TB_STATUS shows it (PRESUMED: the codes of IEEE 1588; log entry 24). -/
def portStateCode (s : State) (k : Nat) : Nat :=
  let b := tbOf s k
  let follows := b.state == .acquiring || b.state == .tracking || b.state == .jumpHeld
  if !fb s .TB_CTRL_EN k then 0
  else if relays s k && follows && !onSlavePort s k 2 then 6
  else match b.state with
  | .freeRun => 4 | .acquiring => 8 | .tracking => 9 | .jumpHeld => 9 | .holding => 4 | .master => 6 | .mirrored => 7

def TbState.num : TbState → Nat
  | .freeRun => 0 | .acquiring => 1 | .tracking => 2 | .jumpHeld => 3 | .holding => 4 | .master => 5 | .mirrored => 6

end Sys2Proof.Machine
end

