-- ==== Sys2Proof/Machine/References.lean ====
section
/-! DEFINITION. References: sources and their qualification, the media clocks' selection, switching and holdover
(spec/10). -/

namespace Sys2Proof.Machine

def slotOf (s : State) (k : Nat) : RefSlot :=
  Tbl.getD s.ref.slots k (if k = 20 then { q := .qualified } else {})
def setSlot (s : State) (k : Nat) (x : RefSlot) : State := s.setRef fun r => { r with slots := Tbl.put r.slots k x }
def mcOf (s : State) (m : Nat) : Mc := Tbl.getD s.ref.mcs m {}
def setMc (s : State) (m : Nat) (x : Mc) : State := s.setRef fun r => { r with mcs := Tbl.put r.mcs m x }

/-- A reference register as written is in force from the next one-second window on (R249). -/
def wrWindow (s : State) (r : Reg) (v : Word) (i : Nat := 0) (j : Nat := 0) : State :=
  let off := addr r i j
  let old := rdF s r i j
  let s := wr s r v i j
  { s with rf := { s.rf with force := Tbl.put s.rf.force off old } }

/-- The reference registers written last come into force (R249). -/
def landWindow (s : State) : State :=
  { s with rf := { s.rf with force := Tbl.keep s.rf.force fun off _ => !windowReg off } }

/-- The media time base of a media clock (R227). -/
def mediaTb (s : State) (m : Nat) : Nat := ff s .MC_CTRL_MTB m

/-! ## Sources (R230, R231) -/

/-- The expected rate of a physical input as numerator and denominator in Hz (R231). -/
def refRate (s : State) (r : Nat) : Nat × Nat :=
  match ff s .REF_CFG_KIND r with
  | 3 => (rateHz (ff s .REF_CFG_RATE r), 1)
  | 1 => (1, 1)
  | _ => (ff s .REF_NUM_NUM r, if ff s .REF_CFG_DEN r = 1 then 1001 else 1)

/-- The rate of a physical input is one R231 allows. -/
def refRateOk (kind rate den num : Nat) : Bool :=
  let d := if den = 1 then 1001 else 1
  match kind with
  | 2 => decide (1000 * d ≤ num ∧ num ≤ 100000000 * d)
  | 3 => decide (rate ≤ 8)
  | 4 => decide (d ≤ num ∧ num ≤ 1000 * d)
  | _ => decide (kind ≤ 1)

/-- REF_OFS within its limits for the input's kind (R231). -/
def refOfsOk (kind rate den num : Nat) (ofs : Int) : Bool :=
  let d := if den = 1 then 1001 else 1
  match kind with
  | 1 => decide (ofs.natAbs ≤ 500000000)
  | 3 => decide (2 * ofs.natAbs * rateHz rate ≤ 1000000000)
  | 4 => decide (2 * ofs.natAbs * num ≤ 1000000000 * d)
  | _ => true

/-- The receive streams offered as references, in ascending index: ACR streams with ACR_REF (R190, Table 10-1). -/
def acrRefs (s : State) : List Nat :=
  s.str.rx.filterMap fun e =>
    if e.2.enabled ∧ fb s .RX_W0_ACR_REF e.1 ∧ fv s .RX_W0_TIMING e.1 = 1 then some e.1 else none

/-- Is the source of a slot usable (Table 10-1)? -/
def slotUsable (s : State) (k : Nat) : Bool :=
  if k < 4 then
    ff s .REF_CFG_KIND k != 0 && match (slotOf s k).lastEdge with
      | some t => decide ((s.now - t) * (refRate s k).1 < 2000000000 * (refRate s k).2)
      | none => false
  else if k < 8 then
    match (tbOf s (k - 4)).state with
    | .tracking => true | .master => true | .mirrored => true
    | _ => false
  else if k < 16 then
    (groupOf s (k - 8)).state == .running && decide (4 ≤ cgMcb s (k - 8) ∧ cgMcb s (k - 8) ≤ 7)
  else if k < 20 then
    match (acrRefs s)[k - 16]? with
    | some r => (Tbl.getD s.str.rx r {}).state == .running
    | none => false
  else !s.ref.tcxoFault

/-- Is a slot QUALIFIED (R234, R236)? -/
def slotOk (s : State) (k : Nat) : Bool := if k = 20 then !s.ref.tcxoFault else (slotOf s k).q == .qualified

/-! ## Qualification (Table 10-2) -/

/-- A change into QUALIFIED or out of it raises its flag (R234). -/
def slotState (s : State) (k : Nat) (q : QState) : State :=
  let x := slotOf s k
  let s := setSlot s k { x with
    q := q
    timer := if q = .qualifying then s.now else x.timer
    qualAt := if q = .qualified ∧ x.q ≠ .qualified then s.now else x.qualAt
    drift := x.drift && q == .qualified
    voted := x.voted && q == .qualified
    hardRun := if q = .qualified then x.hardRun else 0
    disquals := if q = .disqualified then satInc 0xFFFF x.disquals else x.disquals }
  if q = .qualified ∧ x.q ≠ .qualified then raise s .REF_EVENT 8
  else if x.q = .qualified ∧ q ≠ .qualified then raise s .REF_EVENT 0x10
  else s

/-- A source becomes usable (Table 10-2). -/
def slotUp (s : State) (k : Nat) : State :=
  if k < 20 ∧ (slotOf s k).q = .noSignal ∧ slotUsable s k then slotState s k .qualifying else s

/-- A source stops being usable (Table 10-2). -/
def slotDown (s : State) (k : Nat) : State :=
  if k < 20 ∧ (slotOf s k).q ≠ .noSignal ∧ !slotUsable s k then slotState s k .noSignal else s

/-- A phase jump (R233, Table 10-2). -/
def slotJump (s : State) (k : Nat) : State :=
  match (slotOf s k).q with
  | .qualifying => slotState s k .qualifying
  | .qualified => slotState s k .qualifying
  | _ => s

/-- Other sources than slot `k` and the TCXO that are QUALIFIED. -/
def otherQualified (s : State) (k : Nat) : List Nat :=
  (List.range 20).filter fun j => j != k && (slotOf s j).q == .qualified

/-- Do two measured frequency offsets agree within SOFT of a slot (0.1 ppm; offsets in 1/8 ppb)? -/
def agree (s : State) (k : Nat) (a b : Int) : Bool := decide ((a - b).natAbs ≤ ff s .QL_W0_SOFT k * 800)

/-- R235: the suspect and at least two other qualified sources all agree with one another. -/
def voteAgainstTcxo (s : State) (k : Nat) : Bool :=
  let others := otherQualified s k
  let f := fun j => (slotOf s j).fofs
  others.any fun i => others.any fun j =>
    decide (i < j) && agree s k (f k) (f i) && agree s k (f k) (f j) && agree s k (f i) (f j)

/-- The judgment of R235. From a verdict against the TCXO on, frequencies are measured against the median of the
sources: the TCXO's own offset is then that of the suspect with the opposite sign (log entry 46). -/
def judgeSource (s : State) (k : Nat) : State :=
  if voteAgainstTcxo s k then
    let s := setSlot s k { slotOf s k with voted := true, hardRun := 0 }
    if s.ref.tcxoFault then s
    else
      let s := setSlot s 20 { slotOf s 20 with fofs := -(slotOf s k).fofs }
      let s := s.setRef fun r => { r with tcxoFault := true, agreeFrom := none }
      reportFault (raise s .REF_EVENT 0x200) 0x07 0 2
  else slotState s k .disqualified

/-- A one-second window of a source ends with its frequency offset in 1/8 ppb (Table 10-2). The TCXO has no limits
(R236): a window of slot 20 brings its offset against the median that measures while TCXO_FAULT stands. -/
def windowEnd (s : State) (k : Nat) (fofs : Int) : State :=
  let x := { slotOf s k with fofs := fofs }
  let s := setSlot s k x
  let hard := decide ((ff s .QL_W0_HARD k * 800 : Nat) < fofs.natAbs)
  let soft := decide ((ff s .QL_W0_SOFT k * 800 : Nat) < fofs.natAbs)
  match (if k = 20 then .noSignal else x.q) with
  | .noSignal => s
  | .qualifying => if hard then slotState s k .qualifying else s
  | .qualified =>
    if hard then
      if 2 ≤ x.hardRun then judgeSource s k else setSlot s k { x with hardRun := x.hardRun + 1 }
    else if soft then
      let s := setSlot s k { x with hardRun := 0, drift := true }
      if x.drift then s else raise s .REF_EVENT 0x40
    else setSlot s k { x with hardRun := 0, drift := false }
  | .disqualified => if hard then s else slotState s k .qualifying

/-- QTIME has elapsed (Table 10-2). -/
def qtimeOver (s : State) (k : Nat) : Bool :=
  (slotOf s k).q == .qualifying && slotUsable s k && decide ((slotOf s k).timer + 1000000000 * ff s .QL_W1_QTIME k ≤ s.now)

/-- Do all qualified sources agree with the TCXO within SOFT (R235)? Both are measured against the median of the sources
while TCXO_FAULT stands (log entry 46). -/
def tcxoAgrees (s : State) : Bool :=
  let q := otherQualified s 20
  !q.isEmpty && q.all fun k => agree s k (slotOf s k).fofs (slotOf s 20).fofs

/-- The instant from which the qualified sources have agreed with the TCXO, kept after every window. -/
def tcxoWatch (s : State) : State :=
  s.setRef fun r => { r with agreeFrom := if r.tcxoFault && tcxoAgrees s then some (r.agreeFrom.getD s.now) else none }

/-- TCXO_FAULT clears when the agreement has lasted QTIME (R235). -/
def tcxoClear (s : State) : State :=
  let q := (otherQualified s 20).foldl (fun a k => max a (ff s .QL_W1_QTIME k)) 0
  match s.ref.agreeFrom with
  | some t =>
    if s.ref.tcxoFault ∧ tcxoAgrees s ∧ t + 1000000000 * q ≤ s.now then
      s.setRef fun r => { r with tcxoFault := false, agreeFrom := none }
    else s
  | none => s

/-! ## Selection (R237, R238) -/

/-- The slot of a table entry, if it names a source that can count for this media clock (R232). -/
def entrySlot (s : State) (m e : Nat) : Option Nat :=
  let i := ff s .MC_TBL_INDEX m e
  match ff s .MC_TBL_KIND m e with
  | 1 => if i < 4 then some i else none
  | 2 => if i < 4 then some (4 + i) else none
  | 3 => if i < 8 ∧ cgMcb s i = 4 + m then some (8 + i) else none
  | 4 => (List.range 4).findSome? fun p => if (acrRefs s)[p]? = some i then some (16 + p) else none
  | 5 => some 20
  | _ => none

/-- The entry counts as qualified, the TCXO apart. -/
def entryOk (s : State) (m e : Nat) : Bool :=
  match entrySlot s m e with
  | some k => k != 20 && slotOk s k
  | none => false

/-- The candidate other than the TCXO: the highest-priority QUALIFIED entry (R237). -/
def candidate (s : State) (m : Nat) : Option Nat := (List.range 8).find? fun e => entryOk s m e

/-- The table's TCXO entry, while the TCXO is QUALIFIED (R236, R237). -/
def tcxoEntry (s : State) (m : Nat) : Option Nat :=
  if slotOk s 20 then (List.range 8).find? fun e => ff s .MC_TBL_KIND m e == 5 else none

/-- Is the source of the selected entry QUALIFIED? -/
def selOk (s : State) (m : Nat) : Bool :=
  match (mcOf s m).sel with
  | some e => entryOk s m e || (entrySlot s m e == some 20 && slotOk s 20)
  | none => false

/-! ## States (Table 10-4) -/

/-- A change of state raises MC_STATE (R239), and entry into LOST its own flag. -/
def mcState (s : State) (m : Nat) (st : McState) : State :=
  let x := mcOf s m
  if x.state = st then s
  else
    let s := raise (setMc s m { x with state := st }) .REF_EVENT 1
    if st = .lost then raise s .REF_EVENT 2 else s

/-- Select an entry and start a switch to it (R240). -/
def startSwitch (s : State) (m e : Nat) : State :=
  let x := mcOf s m
  mcState (setMc s m { x with
    sel := some e, switching := true, fresh := true, inWinFrom := none, base := x.freq
    switches := satInc 0xFFFF x.switches }) m .acquiring

/-- HO_VALID (R245). -/
def hoValid (s : State) (m : Nat) : Bool :=
  !s.ref.tcxoFault && decide (ff s .MC_HO_HO_WIN m + ff s .MC_HO_HO_GUARD m ≤ (mcOf s m).recs.length)

/-- A coefficient of the temperature model: refined, else from the factory (R245). -/
def coef (x : Option (BitVec 32)) (n : Nat) : Int := (match x with | some c => c | none => Config.factoryCoef n).toInt

/-- m(T) × 4096 in 10^-12, T in 1/16 °C (R245). -/
def tempModel (s : State) (m : Nat) (t : Int) : Int :=
  let x := mcOf s m
  let d := t - 400
  coef x.c1 1 * d * 256 + coef x.c2 2 * d * d * 16 + coef x.c3 3 * d * d * d

/-- The holdover frequency `F_avg − (m(T) − m(T_avg)) − a × d` in 10^-12, rounded half to even (R244). -/
def hoFreq (s : State) (m : Nat) : Int :=
  let x := mcOf s m
  let day : Int := 86400000000000
  let d : Int := (s.now : Nat) - x.hoEnd
  rdiv (x.fAvg * 4096 * day - (tempModel s m s.ref.temp - tempModel s m x.tAvg) * day - 4096 * x.age * d) (4096 * day)

/-- The block period of a media clock, 6 samples at its family's base rate, in 10^-12 / 147 ns (R226). -/
def blockUnits (s : State) (m : Nat) : Nat :=
  if ff s .MC_CTRL_FAMILY m = 1 then 20000000000000000000 else 18375000000000000000

/-- The nominal DCO frequency in Hz of a media clock (R251). -/
def dcoHz (s : State) (m : Nat) : Nat := if ff s .MC_CTRL_FAMILY m = 1 then 2890137600 else 2949120000

/-- The time a run of fine steps takes, one step per MCK cycle (R251, R262), in ns. -/
def stepNs (s : State) (m : Nat) (n : Int) : Nat :=
  n.natAbs * 1000000000 / (if ff s .MC_CTRL_FAMILY m = 1 then 22579200 else 24576000)

/-- How many fine steps of a running sequence have been made by now (R262). -/
def stepsBy (s : State) (m : Nat) : Nat :=
  let x := mcOf s m
  min x.stepN.natAbs ((s.now - x.stepFrom) * (if ff s .MC_CTRL_FAMILY m = 1 then 22579200 else 24576000) / 1000000000)

/-- What `n` fine steps of 1/256 DCO period come to, in 10^-12 / 147 ns (R262). -/
def stepUnits (s : State) (m n : Nat) : Nat := (rdiv ((n : Int) * 147000000000000000000000) (256 * dcoHz s m)).toNat

/-- The frequency of a media clock's output: that of its loop, or what its coasting synthesizer is frozen at (R251,
R254). -/
def outFreq (s : State) (m : Nat) : Int :=
  match s.syn.sy.find? fun e => e.2.state == .coast && e.2.mc == m with
  | some e => e.2.word
  | none => (mcOf s m).freq

/-- Does the synthesizer of a media clock coast (R254)? -/
def coasts (s : State) (m : Nat) : Bool := s.syn.sy.any fun e => e.2.state == .coast && e.2.mc == m

/-- What passes of a media clock until now, in 10^-12 / 147 ns: at its output's frequency, less what fine steps lengthen
its cycles by (R262). A positive step delays the output (DESIGN CHOICE, log entry 104). -/
def mcPassed (s : State) (m : Nat) : Nat :=
  let x := mcOf s m
  let run := (((s.now - x.runAt : Nat) : Int) * 147 * (1000000000000 + outFreq s m)).toNat
  let moved := stepUnits s m (stepsBy s m) - stepUnits s m x.stepDone
  if 0 < x.stepN then run - moved else run + moved

/-- A media clock carried on to now: its block periods pass (R227). Those of MC0 are the stitches. -/
def mcRunOn (s : State) (m : Nat) : State :=
  let x := mcOf s m
  if m = 0 then setMc s m { x with frac := 0, runAt := s.now, stepDone := stepsBy s m }
  else
    let v := x.frac + mcPassed s m
    setMc s m { x with
      blocks := (x.blocks + v / blockUnits s m) % 2 ^ 64, frac := v % blockUnits s m, runAt := s.now
      total := x.total + mcPassed s m, stepDone := stepsBy s m }

/-- The time of a media clock in nanoseconds, whatever count is loaded: what has passed of it since it began (R268). -/
def mcTime (s : State) (m : Nat) : Int :=
  let x := mcOf s m
  if m = 0 then ((x.total / 147000000000000 + (s.now - s.mix.boundaryAt) : Nat) : Int)
  else (((x.total + mcPassed s m) / 147000000000000 : Nat) : Int)

/-- A software-steered media clock runs at its software frequency from now on (R247). -/
def swRun (s : State) (m : Nat) : State :=
  let s := mcRunOn s m
  setMc s m { mcOf s m with freq := (mcOf s m).swFreq }

/-- The mean of a list of integers, rounded half to even. -/
def meanI (l : List Int) : Int := if l.isEmpty then 0 else rdiv (l.foldl (· + ·) 0) (l.length : Nat)

/-- Take the holdover frequency: F_avg and T_avg are the means over the HO_WIN seconds of LOCKED that ended HO_GUARD
seconds before now, or when LOCKED was left before that (R244). -/
def enterHoldover (s : State) (m : Nat) : State :=
  let s := mcRunOn s m
  let x := mcOf s m
  let end_ : Int := (s.now : Nat) - (1000000000 * ff s .MC_HO_HO_GUARD m : Nat)
  let win := (x.recs.filter fun e => decide ((e.2.2 : Int) ≤ end_)).take (ff s .MC_HO_HO_WIN m)
  let s := setMc s m { x with
    fAvg := meanI (win.map (·.1)), tAvg := meanI (win.map (·.2.1)), switching := false, hoFrom := s.now, hoLast := s.now
    hoEnd := match win with
      | e :: _ => if end_ < (e.2.2 : Int) + 1000000000 then end_ else e.2.2
      | [] => end_
    hoSec := 0, est := 0 }
  mcState (setMc s m { mcOf s m with freq := hoFreq s m }) m .holdover

/-- Freeze the present frequency (Table 10-4). -/
def enterLost (s : State) (m : Nat) : State := mcState (setMc s m { mcOf s m with switching := false }) m .lost

/-- HOLDOVER with HO_VALID, else LOST. -/
def fallBack (s : State) (m : Nat) : State := if hoValid s m then enterHoldover s m else enterLost s m

/-- The first row of Table 10-4 that fits, apart from those that rows of their own start: lock, reversion, limits,
synthesizers. While its synthesizer coasts with no spare (R256), a media clock selects nothing. -/
def mcRow (s : State) (m : Nat) : Option State :=
  let x := mcOf s m
  match x.state with
  | .acquiring =>
    if selOk s m then none
    else match candidate s m with
      | some e => some (startSwitch s m e)
      | none => some (fallBack s m)
  | .locked =>
    if selOk s m then none
    else match candidate s m with
      | some e => some (startSwitch s m e)
      | none => some (fallBack s m)
  | st =>
    if x.coast then none
    else match candidate s m with
      | some e => some (startSwitch s m e)
      | none =>
        match tcxoEntry s m with
        | some e =>
          if st = .lost then some (mcState (setMc s m { x with sel := some e, base := x.freq }) m .freeRun)
          else if st = .freeRun ∧ x.sel ≠ some e then some (setMc s m { x with sel := some e })
          else none
        | none => none

/-- The standby takes the active unit's selection and selects nothing itself, and so does a unit that joins (R248). -/
def mcMirrors (s : State) : Bool := s.pr.state == .standby || s.pr.state == .joining

/-- Apply Table 10-4 to a media clock whose loop is closed and its own (R239, R247, R248). -/
def mcEval (s : State) (m : Nat) : State :=
  if fb s .MC_CTRL_SW m ∨ held s 3 ∨ mcMirrors s then s else (mcRow s m).getD s

def mcEvalAll (s : State) : State := forEach [0, 1, 2, 3] s fun m s => mcEval s m

/-! ## The rows of spec/10 -/

/-- REF_EDGE: an edge on a source, with its departure in ns from the instant its frequency predicts (R233). -/
def refEdge (s : State) (k : Nat) (dev : Int) : State :=
  if k = 20 ∨ (4 ≤ k ∧ k < 8) then s
  else
    let s := if k < 4 then setSlot s k { slotOf s k with lastEdge := some s.now } else s
    let s := if ff s .QL_W1_JUMP k < dev.natAbs ∧ (slotOf s k).q ≠ .noSignal then slotJump s k else slotUp s k
    mcEvalAll s

/-- REF_SIGNAL_LOSS. -/
def refSignalLoss (s : State) (k : Nat) : State := mcEvalAll (slotDown s k)

/-- QUAL_WINDOW_END: writes of the reference registers come into force (R249). -/
def qualWindowEnd (s : State) (k : Nat) (fofs : Int) : State :=
  mcEvalAll (tcxoWatch (windowEnd (landWindow s) k fofs))

/-- QTIME_EXPIRE. -/
def qtimeExpire (s : State) (k : Nat) : State := if qtimeOver s k then mcEvalAll (slotState s k .qualified) else s

/-- The wait-to-restore of a candidate that is not the selected entry (R238). -/
def wtrOf (s : State) (m : Nat) : Option (Nat × Nat) :=
  let x := mcOf s m
  if x.state = .locked ∧ ff s .MC_CTRL_REVERT m = 1 ∧ !fb s .MC_CTRL_SW m ∧ !mcMirrors s then
    match candidate s m with
    | some e =>
      if x.sel = some e then none
      else match entrySlot s m e with
        | some k => some (e, (slotOf s k).qualAt + 1000000000 * ff s .MC_CTRL_WTR m)
        | none => none
    | none => none
  else none

/-- WTR_EXPIRE. -/
def wtrExpire (s : State) (m : Nat) : State :=
  match wtrOf s m with
  | some (e, t) => if t ≤ s.now ∧ !held s 3 then startSwitch s m e else s
  | none => s

/-- The pulses of a media clock realign when a switch of it, or a phase removal, is over (R269). -/
def realignOn (s : State) (m : Nat) : State :=
  forEach [0, 1, 2, 3] s fun p s =>
    if fv s .PLS_CFG_MC p = m then
      s.setSyn fun y => { y with pls := Tbl.mod {} y.pls p fun q => { q with due := true } }
    else s

/-- The lock criterion of a switch is met (R241). -/
def lockDue (s : State) (m : Nat) : Bool :=
  let x := mcOf s m
  match x.inWinFrom with
  | some t => x.state == .acquiring && !fb s .MC_CTRL_SW m && !mcMirrors s && decide (t + 1000000000 * ff s .MC_LOCK_LOCK_TIME m ≤ s.now)
  | none => false

/-- MC_LOCK_ACHIEVED (R241). -/
def mcLock (s : State) (m : Nat) : State :=
  if lockDue s m then
    let s := raise (setMc s m { mcOf s m with switching := false, fresh := false, recAt := s.now }) .REF_EVENT 4
    mcState (realignOn s m) m .locked
  else s

/-- A limit of HOLDOVER is passed (R246). -/
def holdoverOver (s : State) (m : Nat) : Bool :=
  let x := mcOf s m
  x.state == .holdover && !fb s .MC_CTRL_SW m && !mcMirrors s &&
    (decide (ff s .MC_HO_ERR_HO_ERR_MAX m * 8000000000 < x.est) ||
      decide (x.hoFrom + ff s .MC_HO_HO_MAX m * 60000000000 ≤ s.now))

/-- HOLDOVER_LIMIT (R246). -/
def holdoverLimit (s : State) (m : Nat) : State := if holdoverOver s m then enterLost s m else s

/-- SW written 0 (Table 10-4, last row): the first row that fits the present state; otherwise HOLDOVER if HO_VALID, which
a clock that is in HOLDOVER stays in, else LOST. A standby selects nothing itself (R248). -/
def swOff (s : State) (m : Nat) : State :=
  if mcMirrors s then s
  else if held s 3 then fallBack s m
  else if lockDue s m then mcLock s m
  else match mcRow s m with
    | some t => t
    | none =>
      match wtrOf s m with
      | some (e, t) => if t ≤ s.now then startSwitch s m e else fallBack s m
      | none =>
        if holdoverOver s m then enterLost s m
        else if (mcOf s m).state = .holdover ∧ hoValid s m then s
        else fallBack s m

/-- RELEARN (R245). -/
def relearn (s : State) (m : Nat) : State :=
  setMc s m { mcOf s m with recs := [], lockedSec := 0, ageValid := false, age := 0, c1 := none, c2 := none, c3 := none }

/-- A phase step in whole fine steps: `SW_PS × 256 × f_DCO / 10^12` rounded half to even (R262). -/
def fineSteps (s : State) (m : Nat) (ps : Int) : Int := rdiv (ps * 256 * dcoHz s m) 1000000000000

/-- SW_STEP (R247): a sequence of fine steps begins. -/
def swStep (s : State) (m : Nat) : State :=
  let s := mcRunOn s m
  let n := fineSteps s m (rd s .MC_SW_PS m).toInt
  setMc s m { mcOf s m with stepEnd := some (s.now + stepNs s m n), stepN := n, stepFrom := s.now, stepDone := 0 }

/-- PHASE_STEP_DONE (R262): the output has moved by the whole sequence. -/
def phaseStepDone (s : State) (m : Nat) : State :=
  match (mcOf s m).stepEnd with
  | some t =>
    if t ≤ s.now then
      let s := mcRunOn s m
      let x := mcOf s m
      let left := stepUnits s m x.stepN.natAbs - stepUnits s m x.stepDone
      setMc s m { x with
        frac := if 0 < x.stepN then x.frac - left else x.frac + left
        stepEnd := none, stepN := 0, stepFrom := s.now, stepDone := 0 }
    else s
  | none => s

/-- A synthesizer relocked or handed over: out of HOLDOVER to the selected source (Table 10-4, R256). -/
def mcRelocked (s : State) (m : Nat) : State :=
  let x := mcOf s m
  if x.coast then
    let s := setMc s m { x with coast := false }
    if fb s .MC_CTRL_SW m ∨ mcMirrors s then s
    else match x.state, x.sel with
      | .holdover, some e => if selOk s m ∧ !held s 3 then startSwitch s m e else mcEval s m
      | _, _ => mcEval s m
  else s

/-! ## At a stitch boundary -/

/-- Once a second of LOCKED: record frequency and temperature, refine what R245 refines. The fits are not given in
the spec: a refined value is a free value (log entry 25). -/
def learn (s : State) (m : Nat) : State :=
  let x := mcOf s m
  if x.state = .locked ∧ !fb s .MC_CTRL_SW m ∧ !mcMirrors s ∧ x.recAt + 1000000000 ≤ s.now then
    let t := s.ref.temp
    let first := x.recs.isEmpty
    let lo := if first then t else min x.tMin t
    let hi := if first then t else max x.tMax t
    let sec := satInc 0xFFFFFFFF x.lockedSec
    let s := setMc s m { x with
      recs := ((x.freq, t, x.recAt + 1000000000) :: x.recs).take 3660, recAt := x.recAt + 1000000000, tMin := lo, tMax := hi
      lockedSec := sec, ageValid := x.ageValid || decide (86400 ≤ sec) }
    let (n, s) := draw s
    let s := if 32 ≤ hi - lo then
        setMc s m { mcOf s m with
          c1 := some (Config.refined (4 * n)), c2 := some (Config.refined (4 * n + 1))
          c3 := some (Config.refined (4 * n + 2)) }
      else s
    if 86400 ≤ sec then setMc s m { mcOf s m with age := (Config.refined (4 * n + 3)).toInt } else s
  else s

/-- Holdover: frequency by R244, error estimate by R246, and its seconds. -/
def holdTick (s : State) (m : Nat) : State :=
  let x := mcOf s m
  if x.state = .holdover ∧ !mcMirrors s then
    let dt := s.now - x.hoLast
    let el := s.now - x.hoFrom
    let u := 40 + (s.ref.temp - x.tAvg).natAbs
    let s := setMc s m { x with
      est := x.est + u * dt + (if x.ageValid then 0 else 16 * el * dt / 86400000000000), hoLast := s.now
      hoSec := el / 1000000000 }
    if fb s .MC_CTRL_SW m then s else setMc s m { mcOf s m with freq := hoFreq s m }
  else s

/-- The phase error of a media clock against its grid on a time base, in 1/16 ns: TB time − ACC − MOFS less the block
periods that have passed, positive while the clock is late (R218, R227, R240). Before audio start no count is loaded,
and the nearest grid instant counts (log entry 73). -/
def gridPhase (s : State) (m k : Nat) : Int :=
  let x := mcOf s m
  let p : Int := blockUnits s m
  let t : Int := (tb16 s k : Nat) - 16 * ((tbOf s k).acc + x.mofs)
  let d := t * 147000000000000 - 16 * (sext 64 x.blocks * p + (x.frac : Nat))
  (if s.mix.audioOn then d else (d + 8 * p) % (16 * p) - 8 * p) / 147000000000000

/-- The phase error of a media clock against the source it has selected (Table 10-1, R230): against its grid on a time
base, the CG_PHASE of a clock group, what was measured of a recovered clock, or what was measured of a physical input
against its pulses, which REF_OFS moves; none for a source without phase. -/
def phaseOf (s : State) (m : Nat) (meas : Int) : Option Int :=
  match (mcOf s m).sel.bind (entrySlot s m) with
  | some k =>
    if k < 4 then (if ff s .REF_CFG_KIND k = 2 then none else some (meas - 16 * (rdF s .REF_OFS k).toInt))
    else if k < 8 then some (gridPhase s m (k - 4))
    else if k < 16 then some ((groupOf s (k - 8)).phase * 62500000 / rateHz (groupOf s (k - 8)).curRate)
    else if k < 20 then some meas
    else none
  | none => none

/-- The media clock follows a time base (R242). -/
def toTb (s : State) (m : Nat) : Bool :=
  match (mcOf s m).sel with
  | some i => ff s .MC_TBL_KIND m i == 2
  | none => false

/-- The phase error of a media clock in 1/16 ns (R240 to R242): GRID_FAR at the start of a switch, the lock window.
Under GRID_FAR only the frequency is pulled and the phase error stays: the window then holds as long as the phase error
stays within LOCK_WIN of the value it had when the window began (log entry 47). -/
def mcPhase (s : State) (m : Nat) (e : Int) : State :=
  let x := mcOf s m
  let s := setMc s m { x with phase := clampI (-2147483648) 2147483647 e }
  let s := if x.state = .acquiring ∧ x.fresh ∧ toTb s m ∧ ff s .MC_PULL_GRID_MAX m * 16000000 < e.natAbs then
      raise (setMc s m { mcOf s m with gridFar := true }) .REF_EVENT 0x100
    else s
  let far := (mcOf s m).gridFar && (mcOf s m).switching && toTb s m
  let inWin := decide ((if far then e - x.farAt else e).natAbs ≤ ff s .MC_LOCK_LOCK_WIN m * 160)
  let s := setMc s m { mcOf s m with
    fresh := false, farAt := if far && inWin then x.farAt else e
    inWinFrom := if inWin then some (x.inWinFrom.getD s.now) else none
    removing := x.removing && !inWin }
  if x.removing ∧ inWin then realignOn s m else s

/-- A frequency on its way to another one: neither jumps, it moves by PULL ppm a second (R240, log entry 74). -/
def pulled (s : State) (m : Nat) (f goal : Int) : Int :=
  let lim : Int := (ff s .MC_PULL_PULL m * 125 : Nat)
  f + clampI (-lim) lim (goal - f)

/-- The correction a loop adds in this stitch: at most PULL, signed to reduce the phase error (R240); under GRID_FAR only
the frequency is pulled (R242). Its size is the loop's, a free value (log entry 75). -/
def mcCorr (s : State) (m n : Nat) (e : Int) : Int :=
  let c : Int := ((Config.loopStep n).toNat % (ff s .MC_PULL_PULL m * 1000000 + 1) : Nat)
  if (mcOf s m).gridFar && toTb s m then 0 else if 0 < e then c else if e < 0 then -c else 0

/-- The loop of a media clock in a stitch, with the phase error measured where one is: a media clock that follows a source
is pulled onto the source's frequency and corrected in phase, a software-steered one runs at its software frequency
(R247), FREE_RUN is pulled to nominal (Table 10-3); a standby's is the active unit's (R248), and while its synthesizer
coasts the loop moves nothing (R254). -/
def mcLoop (s : State) (m : Nat) (meas : Int) : State :=
  if mcMirrors s then s
  else
    let e := (phaseOf s m meas).getD 0
    let s := mcPhase s m e
    let x := mcOf s m
    let follow : State :=
      let k := (x.sel.bind (entrySlot s m)).getD 20
      let b := pulled s m x.base ((slotOf s k).fofs * 125)
      let (n, s) := draw s
      setMc s m { x with base := b, freq := b + mcCorr s m n e }
    if fb s .MC_CTRL_SW m then setMc s m { x with freq := x.swFreq }
    else if coasts s m then s
    else match x.state with
      | .acquiring => follow
      | .locked => follow
      | .freeRun => setMc s m { x with base := pulled s m x.base 0, freq := pulled s m x.base 0 }
      | _ => s

/-- The position at rate `hz` whose instant lies nearest to a time, ties to the later (R219). -/
def nearestPos (t hz : Nat) : Nat := (2 * t * hz + tbUnit * 1000000000) / (2 * tbUnit * 1000000000)

/-- The phase error measured of a media clock in a stitch; what was read last where none was. -/
def measured (s : State) (loops : List (Nat × Int)) (m : Nat) : Int :=
  match loops.find? fun l => l.1 == m with
  | some l => l.2
  | none => (mcOf s m).phase

/-- A block period of MC0 has passed (R226, R227). -/
def mcBlock (s : State) : State :=
  setMc s 0 { mcOf s 0 with
    blocks := ((mcOf s 0).blocks + 1) % 2 ^ 64, total := (mcOf s 0).total + blockUnits s 0 }

/-- The media clocks run on to a boundary, before a configuration reset loads their counts there (R227). -/
def mcsPass (s : State) : State := forEach [0, 1, 2, 3] (mcBlock s) fun m s => mcRunOn s m

/-- The references at a boundary: what was measured acts, then the rows of Tables 10-2 and 10-4 that fit. -/
def refBoundary (s : State) (loops : List (Nat × Int)) (temp : Int) : State :=
  let s := s.setRef fun r => { r with temp := temp }
  let s := forEach [0, 1, 2, 3] s fun m s => mcLoop s m (measured s loops m)
  let s := forEach (List.range 20) s fun k s => if k < 4 then slotDown s k else slotDown (slotUp s k) k
  let s := forEach [0, 1, 2, 3] s fun m s => holdTick (learn s m) m
  mcEvalAll s

/-- Audio start (R9, R227, R228): MOFS comes into use, GRID_FAR clears, and a media clock whose media time base is its
selected reference removes its phase error as a switch step, where its loop is closed and its own. After a full reset
the media clocks start on their grids: `late` is how far each is past an instant of its grid, in 10^-12 / 147 ns. -/
def refAudioStart (s : State) (late : Option (Nat → Nat)) : State :=
  let s := s.setRef fun r => { r with grid := none }
  forEach [0, 1, 2, 3] s fun m s =>
    let x := mcOf s m
    let s := setMc s m { x with
      mofs := (rd s .MC_OFS m).toInt, gridFar := false, frac := match late with | some f => f m | none => x.frac
      runAt := if late.isSome then s.now else x.runAt }
    match x.sel with
    | some e =>
      if entrySlot s m e = some (4 + mediaTb s m) ∧ x.state = .locked ∧ !fb s .MC_CTRL_SW m ∧ !held s 3 ∧ !mcMirrors s then
        startSwitch s m e
      else s
    | none => s

/-! ## Writes -/

/-- What a priority-table entry may hold (Table 10-9). -/
def tblEntryOk (v : Word) : Bool :=
  let i := fld v 0 8
  match fld v 8 3 with
  | 0 => true | 1 => decide (i < 4) | 2 => decide (i < 4) | 3 => decide (i < 8) | 4 => true
  | 5 => i == 0
  | _ => false

/-- The table would name a source twice (R232). -/
def tblTwice (s : State) (m e : Nat) (v : Word) : Bool :=
  fld v 8 3 != 0 && (List.range 8).any fun j => j != e && fld (rd s .MC_TBL m j) 0 11 == fld v 0 11

/-- The write would remove an entry of an enabled clock group steered to this media clock (R232). -/
def tblConflict (s : State) (m e : Nat) (v : Word) : Bool :=
  let old := rd s .MC_TBL m e
  fld old 8 3 == 3 && fld old 0 11 != fld v 0 11 && fb s .CG_CTRL_EN (fld old 0 8) && cgMcb s (fld old 0 8) == 4 + m

/-- A steered group can be enabled: it stands in the table of the media clock it names (R132). -/
def groupInTable (s : State) (g : Nat) : Bool :=
  let b := cgMcb s g
  !(decide (4 ≤ b ∧ b ≤ 7)) || (List.range 8).any fun e => fv s .MC_TBL_KIND (b - 4) e == 3 && fv s .MC_TBL_INDEX (b - 4) e == g

def McState.num : McState → Nat
  | .freeRun => 0 | .acquiring => 1 | .locked => 2 | .holdover => 3 | .lost => 4

def QState.num : QState → Nat
  | .noSignal => 0 | .qualifying => 1 | .qualified => 2 | .disqualified => 3

end Sys2Proof.Machine
end

