-- ==== Sys2Proof/Machine/ControlIO.lean ====
section
/-! DEFINITION. GPIO, control rules, two-channel control outputs and the schedule (spec/12). -/

namespace Sys2Proof.Machine

def pinOf (s : State) (g : Nat) : Pin := Tbl.getD s.cio.pins g {}
def setPin (s : State) (g : Nat) (x : Pin) : State := s.setCio fun y => { y with pins := Tbl.put y.pins g x }
def coOf (s : State) (k : Nat) : Co := Tbl.getD s.cio.cos k {}
def setCo (s : State) (k : Nat) (x : Co) : State := s.setCio fun y => { y with cos := Tbl.put y.cos k x }
def seOf (s : State) (e : Nat) : Sched := Tbl.getD s.cio.sched e {}
def setSe (s : State) (e : Nat) (x : Sched) : State := s.setCio fun y => { y with sched := Tbl.put y.sched e x }
def ruleOf (s : State) (r : Nat) : RuleSt := Tbl.getD s.cio.ruleA r {}

/-- OUT of a rule, as evaluator A last gave it (R77, R70, CR word 7). -/
def ruleOut (s : State) (r : Nat) : Bool := (ruleOf s r).out

/-- A reference of R85 is asserted: a VOX detector as seen at the boundary, a control rule (R70, R77, R109). -/
def refOn (s : State) (v : Nat) : Bool :=
  match v / 16384 with
  | 1 => (Tbl.getD s.dyn.vox (v % 256) {}).seen
  | 2 => ruleOut s (v % 256)
  | _ => false

/-! ## GPIO inputs (R272, R273) -/

/-- The debounced level takes the raw one (R273). -/
def takeLevel (s : State) (g : Nat) : State :=
  let x := pinOf s g
  if x.deb = x.raw then s
  else
    let edge := fv s .GP_CFG_EDGE g
    let sel := edge == 3 || (edge == 1 && x.raw) || (edge == 2 && !x.raw)
    if sel then
      raise (setPin s g { x with deb := x.raw, tack := x.rawTack, edges := satInc 0xFFFF x.edges }) .CIO_EVENT 1
    else setPin s g { x with deb := x.raw }

/-- GPIO_EDGE: the raw level of a pin changes; at DEB = 0 the debounced level follows at once (R272). -/
def gpioEdge (s : State) (g : Nat) (level : Bool) : State :=
  let x := pinOf s g
  if x.raw = level then s
  else
    let s := setPin s g { x with raw := level, rawAt := s.now, rawTack := tack s (fv s .GP_CFG_TB g) / 8 * 8 }
    if fv s .GP_CFG_DEB g = 0 then takeLevel s g else s

/-- GPIO_DEBOUNCED: the raw level has held for DEB (R272). -/
def gpioDebounced (s : State) (g : Nat) : State :=
  if (pinOf s g).rawAt + 1000000 * fv s .GP_CFG_DEB g ≤ s.now then takeLevel s g else s

def clrEdges (s : State) (g : Nat) : State := setPin s g { pinOf s g with edges := 0 }

/-- GP_LEVEL (R272). -/
def gpLevel (s : State) : Word := word ((List.range 32).foldl (fun a g => a + at_ g (b2n (pinOf s g).deb)) 0)

/-! ## GPIO outputs (R274) -/

/-- Every output pin is high-impedance (R274, R384, R454, R455). -/
def pinsOff (s : State) : Bool :=
  !s.glb.gate || s.glb.inReset || s.glb.mode == .quiet || s.glb.mode == .bare || held s 11

/-- OUT of a rule as the pins show it: 4 µs after its evaluation (R275). -/
def pinRule (s : State) (r : Nat) : Bool :=
  if s.now < s.mix.boundaryAt + 4000 then (Tbl.getD s.cio.ruleWas r {}).out else ruleOut s r

/-- The level a pin drives, none while it is high-impedance or an input (R271, R274, R282). -/
def pinOut (s : State) (g : Nat) : Option Bool :=
  if pinsOff s then none
  else
    let k := (g - 16) / 2
    if 16 ≤ g ∧ fb s .CO_CFG_EN k then
      let x := coOf s k
      if (if s.now < x.setAt then x.was else x.state == .on) then some true else none
    else
      let pol := fb s .GP_CFG_POL g
      match fv s .GP_CFG_DIR g with
      | 1 => some (pinRule s (fv s .GP_CFG_RULE g) != pol)
      | 2 => some (bit (rd s .GP_OUT) g != pol)
      | _ => none

/-! ## Rules (R275 to R281) -/

/-- A named state of Table 12-2. -/
def stateOperand (s : State) (cls obj : Nat) : Bool :=
  match cls with
  | 0 => s.glb.active
  | 1 => (mcOf s obj).state == .locked
  | 2 => (mcOf s obj).state == .holdover || (mcOf s obj).state == .lost
  | 3 => (match (tbOf s obj).state with
    | .tracking => true | .master => true | .mirrored => true
    | _ => false)
  | 4 => (Tbl.getD s.str.rx obj {}).state == .running
  | 5 => (groupOf s obj).state == .running
  | 6 => (portOf s obj).state == .up
  | 7 => s.dyn.hems.any fun e => e.2.muted
  | _ => false

/-- An operand's value before inversion (Table 12-1); `self` is the rule, `new` and `old` the results of this and the
previous evaluation (R280). -/
def operand (s : State) (self : Nat) (new old : Tbl RuleSt) (thr : Int) (w : Nat) : Bool :=
  let i := w % 4096
  match w / 4096 % 8 with
  | 1 => (pinOf s i).deb
  | 2 => (Tbl.getD s.dyn.vox i {}).seen
  | 3 => decide (thr ≤ (Tbl.getD s.dyn.meters i {}).peak)
  | 4 => stateOperand s (i / 256) (i % 256)
  | 5 => (Tbl.getD (if i < self then new else old) i {}).out
  | 6 => bit (rd s .CIO_SOFT) i
  | _ => false

/-- The four operand words of a rule. -/
def opWords (s : State) (r : Nat) : List Nat := [fv s .CR_W1_OP0 r, fv s .CR_W1_OP1 r, fv s .CR_W2_OP2 r, fv s .CR_W2_OP3 r]

/-- Membership in the rule's window (R278). -/
def windowOpen (s : State) (r : Nat) : Bool :=
  let t := tns s (fv s .CR_W0_WIN_TB r)
  let b := (rd s .CR_W4 r).toNat * 1000000000
  let p := fv s .CR_W5_WIN_PERIOD r * 1000000000
  decide (b ≤ t ∧ (t - b) % p < fv s .CR_W6_WIN_DUR r * 1000000000)

/-- A slot's value: `none` when empty (R277). -/
def slotVal (s : State) (r : Nat) (new old : Tbl RuleSt) (w : Nat) : Option Bool :=
  if w / 4096 % 8 = 0 then none
  else some (operand s r new old (sext 16 (fv s .CR_W3_THR r)) w != (w / 32768 % 2 == 1))

/-- Evaluations in a row, this one included, with the RAW of this one (R279). -/
def RuleSt.run (st : RuleSt) (raw : Bool) : Nat := if raw = st.raw then st.count + 1 else 1

/-- Evaluations since the rise that began a pulse, this one included; 0 when none runs. A change of TMODE lets the count
go on (R279, R281). -/
def RuleSt.pulseRun (st : RuleSt) (mode n : Nat) (raw : Bool) : Nat :=
  if mode = 3 ∧ raw ∧ !st.raw then 1
  else if st.pulse = 0 ∨ (mode = 3 ∧ n ≤ st.pulse) then 0
  else st.pulse + 1

/-- OUT through the timer (R279). -/
def timer (mode n : Nat) (st : RuleSt) (raw : Bool) : Bool :=
  match mode with
  | 1 => raw && (st.out || decide (n ≤ st.run raw))
  | 2 => raw || (st.out && decide (st.run raw < n))
  | 3 => decide (0 < st.pulseRun mode n raw)
  | _ => raw

/-- One evaluation of a rule (R277 to R279). -/
def evalRule (s : State) (r : Nat) (new old : Tbl RuleSt) : RuleSt :=
  let was := Tbl.getD old r {}
  let st := if was.fresh then {} else was
  let vs := (opWords s r).map (slotVal s r new old)
  let on (i : Nat) : Bool := (vs.getD i none).getD false
  let present := vs.filterMap id
  let isOpen := fb s .CR_W0_WIN_EN r == false || windowOpen s r
  let func := fv s .CR_W0_FUNC r
  let latch := if func = 2 ∧ isOpen then (if on 2 || on 3 then false else st.latch || on 0 || on 1) else st.latch
  let c := if present.isEmpty then false
    else match func with
      | 0 => present.all id
      | 1 => present.any id
      | _ => latch
  let raw := (c != fb s .CR_W0_NOT r) && isOpen
  let mode := fv s .CR_W0_TMODE r
  let n := 8 * fv s .CR_W0_TIME r
  { out := timer mode n st raw, raw := raw, latch := latch, open_ := isOpen, count := st.run raw
    pulse := st.pulseRun mode n raw }

/-- The enabled rules, in ascending index. -/
def enabledRules (s : State) : List Nat :=
  s.rf.regs.filterMap fun e =>
    if 0x261000 ≤ e.1 ∧ e.1 < 0x265000 ∧ (e.1 - 0x261000) % 0x40 = 0 ∧ bit e.2 31 then some ((e.1 - 0x261000) / 0x40) else none

/-- One evaluation of the whole rule set in ascending index; a rule that is not enabled has OUT 0, its latch and timer
cleared (R280, R281). -/
def evalRules (s : State) (old : Tbl RuleSt) : Tbl RuleSt :=
  (enabledRules s).foldl (fun new r => Tbl.put new r (evalRule s r new old)) []

/-- Word 0 of a rule written with EN = 0: its latch and timer are cleared, also where EN = 1 is written before the next
evaluation; OUT stands until then (R281). -/
def ruleOff (s : State) (r : Nat) : State :=
  let off (t : Tbl RuleSt) : Tbl RuleSt := Tbl.upd t r fun x => { x with fresh := true }
  s.setCio fun y => { y with ruleA := off y.ruleA, ruleB := off y.ruleB }

/-- Both evaluators at a boundary (R275, R282); `wrong` names rules whose result a fault in evaluator B inverts. -/
def evalBoth (s : State) (wrong : List Nat) : State :=
  let a := evalRules s s.cio.ruleA
  let b := evalRules s s.cio.ruleB
  let b := wrong.foldl (fun t r => Tbl.upd t r fun x => { x with out := !x.out }) b
  s.setCio fun y => { y with ruleWas := y.ruleA, ruleA := a, ruleB := b }

/-! ## Control outputs (R282 to R284) -/

/-- A disagreement: both pins high-impedance, HELD, counted, raised and reported (R283, R480). -/
def coDisagree (s : State) (k region : Nat) : State :=
  let x := coOf s k
  let s := setCo s k { x with state := .held, was := false, disagrees := satInc 0xFFFF x.disagrees }
  reportFault (raise s .CIO_EVENT 2) 0x0E k region

/-- The output follows its commands and the gate (Table 12-3), its pins `ns` later; on removal it is de-energized
(R406). -/
def coSettle (s : State) (k ns : Nat) : State :=
  let x := coOf s k
  if x.state = .held then s
  else
    let on := x.cmdA && x.cmdB && !pinsOff s && s.glb.mode != .removing && fb s .CO_CFG_EN k
    if on = (x.state == .on) then s
    else setCo s k { x with state := if on then .on else .off, was := !on, setAt := s.now + ns }

/-- A control output at a boundary takes the results of the evaluation before (R275, R282, R284). -/
def coBoundary (s : State) (k : Nat) : State :=
  let x := coOf s k
  if !fb s .CO_CFG_EN k then (if x.state = .off ∧ !x.cmdA ∧ !x.cmdB ∧ !x.ready then s else setCo s k { x with state := .off, was := false, cmdA := false, cmdB := false, ready := false })
  else
    let r := fv s .CO_CFG_RULE k
    let a := x.ready && ruleOut s r
    let b := x.ready && (Tbl.getD s.cio.ruleB r {}).out
    let s := setCo s k { x with cmdA := a, cmdB := b, ready := true }
    if x.state = .held then s
    else if a != b then coDisagree s k (if a then 0 else 1)
    else coSettle s k 4000

/-- CO_READBACK (R283): the pins read back against their commanded levels, while OE_ALLOW is high, from 10 µs after the
level was set on. -/
def coReadback (s : State) (k : Nat) (a b : Bool) : State :=
  let x := coOf s k
  if !fb s .CO_CFG_EN k || pinsOff s then s
  else
    let s := setCo s k { x with rbA := a, rbB := b }
    if x.state = .held ∨ s.now < x.setAt + 10000 then s
    else
      let on := x.state == .on
      if a != on ∧ b != on then coDisagree s k 2
      else if a != on then coDisagree s k 0
      else if b != on then coDisagree s k 1
      else s

/-- CO_CLR: out of HELD; the output follows its rule from the next evaluation on (R283). -/
def coClr (s : State) (k : Nat) : State :=
  setCo s k { coOf s k with state := .off, was := false, ready := false, cmdA := false, cmdB := false }

/-- CO_CFG written (R284). -/
def coCfgWrite (s : State) (k : Nat) (v : Word) : State :=
  let was := fb s .CO_CFG_EN k
  let s := wr s .CO_CFG v k
  if bit v 31 then (if was then s else setCo s k { coOf s k with state := .off, was := false, ready := false, cmdA := false, cmdB := false })
  else setCo s k { coOf s k with state := .off, was := false, ready := false, cmdA := false, cmdB := false }

/-- Every control output follows a change of the gate (R274). -/
def coGateAll (s : State) : State := forEach (List.range 8) s fun k s => if fb s .CO_CFG_EN k then coSettle s k 0 else s

/-! ## Register checks (R271, R276, R278, R284) -/

/-- An operand word in range (Table 12-1, Table 12-2). -/
def opOk (w : Nat) : Bool :=
  let i := w % 4096
  match w / 4096 % 8 with
  | 0 => i == 0
  | 1 => decide (i < 32)
  | 2 => decide (i < 256)
  | 3 => true
  | 4 => (match i / 256 with
    | 0 => i == 0
    | 4 => true
    | 5 => decide (i % 256 < 8)
    | 7 => i % 256 == 0
    | c => decide (c < 7 ∧ i % 256 < 4))
  | 5 => decide (i < 256)
  | 6 => decide (i < 32)
  | _ => false

/-- Rules that a rule names through KIND 5. -/
def ruleNames (s : State) (r : Nat) : List Nat :=
  (opWords s r).filterMap fun w => if w / 4096 % 8 = 5 then some (w % 256) else none

/-- The rules reached from a list through KIND 5 operands. -/
def reach (s : State) : Nat → List Nat → List Nat
  | 0, rs => rs
  | n + 1, rs =>
    let more := (rs.flatMap (ruleNames s)).filter fun r => !rs.contains r
    if more.isEmpty then rs else reach s n (rs ++ more.eraseDups)

/-- A rule that an enabled control output depends on (R284). -/
def ruleLocked (s : State) (r : Nat) : Bool :=
  (reach s 256 ((List.range 8).filterMap fun k => if fb s .CO_CFG_EN k then some (fv s .CO_CFG_RULE k) else none)).contains r

/-- A pin's DIR while its control output is enabled (R271). -/
def gpDirConflict (s : State) (g dir : Nat) : Bool := decide (16 ≤ g) && fb s .CO_CFG_EN ((g - 16) / 2) && dir != 0

/-- A control output enabled while one of its pins has a DIR other than 0 (R271). -/
def coConflict (s : State) (k : Nat) (v : Word) : Bool :=
  bit v 31 && (fv s .GP_CFG_DIR (16 + 2 * k) != 0 || fv s .GP_CFG_DIR (17 + 2 * k) != 0)

/-! ## The schedule (R285 to R289) -/

def seAction (s : State) (e : Nat) : Nat := fv s .SE_W0_ACTION e
def seTb (s : State) (e : Nat) : Nat := fv s .SE_W0_TB e
def sePin (s : State) (e : Nat) : Nat := fv s .SE_W1_PIN e
def seSet (s : State) (e : Nat) : Nat := fv s .SE_W1_SET e

/-- An entry's time in nanoseconds of its time base (R15, R285). -/
def seTime (s : State) (e : Nat) : Nat :=
  (fv s .SE_W2_SEC_HI e * 2 ^ 32 + (rd s .SE_W3 e).toNat) * 1000000000 + fv s .SE_W4_NS e

/-- The time lies less than 20 µs ahead, or has passed (R286, R288). -/
def seNear (s : State) (e : Nat) : Bool := decide (seTime s e < tns s (seTb s e) + 20000)

/-- The entry's time has come. -/
def seDue (s : State) (e : Nat) : Bool := decide (seTime s e ≤ tns s (seTb s e))

/-- Why SE_WRITE is refused (R285, R286), the admission apart. -/
def seWriteFails (s : State) (e : Nat) : List (Code × Bool) :=
  let a := seAction s e
  let x := seOf s e
  let b := Tbl.getD s.mix.sets (seSet s e) {}
  [ (.badValue, decide (a = 0 ∨ 4 < a ∨ 999999999 < fv s .SE_W4_NS e) ||
      (a == 3 && (fv s .SE_W1_WIDTH e == 0 || decide (100000 < fv s .SE_W1_WIDTH e)))),
    (.wrongState, x.state == .armed || x.state == .deciding || held s 11 ||
      ((a == 2 || a == 3) && fv s .GP_CFG_DIR (sePin s e) != 2) ||
      (a == 1 && (b.state != .open || b.recs.isEmpty))),
    (.timePast, seNear s e && !fb s .SE_W0_LATE_OK e) ]

/-- An entry written anew: its LATE, RESULT and kept words start over, the count of its runs does not. -/
def Sched.anew (x : Sched) (st : SeState) : Sched := { state := st, runs := x.runs, ranAt := x.ranAt }

/-- The action of an entry runs; a commit waits for its boundary, from `from_` on (Table 12-4, R287). -/
def seRun (s : State) (e : Nat) (late : Bool) (from_ : Nat) : State :=
  let x := seOf s e
  let s := setSe s e { x with state := .done, late := late, runs := x.runs + 1, ranAt := s.now }
  let s := if late then raise s .CIO_EVENT 8 else s
  let g := sePin s e
  let out (s : State) (v : Bool) : State :=
    let w := (rd s .GP_OUT).toNat
    wr s .GP_OUT (word (w - at_ g (b2n (bit (word w) g)) + at_ g (b2n v)))
  match seAction s e with
  | 1 => s.setMix fun m => { m with commits := m.commits ++ [{ acceptedAt := from_, set := seSet s e, entry := some e }] }
  | 2 => out (s.setCio fun y => { y with pulses := Tbl.del y.pulses g }) (fb s .SE_W1_LEVEL e)
  | 3 => out (s.setCio fun y => { y with pulses := Tbl.put y.pulses g (s.now + 1000 * fv s .SE_W1_WIDTH e) }) true
  | 4 => raise (s.setCio fun y => { y with last := e }) .CIO_EVENT 4
  | _ => s

/-- A mirrored entry (Table 18-8): one that the active unit has run once more runs here too, with the active unit's
instant, unless its time has come here before; a commit comes as a change of its own (R290, R427). -/
def seMirrored (s : State) (e : Nat) (x : Sched) : State :=
  let s := if (seOf s e).runs < x.runs ∧ x.state = .done ∧ seAction s e ≠ 1 then
      { seRun { s with now := x.ranAt } e x.late x.ranAt with now := s.now }
    else s
  setSe s e x

/-- SE_WRITE of ACTION 2 to 4: armed, or run at once when late (R286). -/
def seArm (s : State) (e : Nat) : State :=
  let late := seNear s e
  let s := setSe s e ((seOf s e).anew .armed)
  if late then seRun s e true s.now else s

/-- An admitted commit entry: armed while its time lies ahead, else it runs late (R286, Table 12-5). -/
def seAdmitted (s : State) (e : Nat) (late : Bool) : State :=
  let s := setSe s e ((seOf s e).anew .armed)
  if late || seDue s e then seRun s e true s.now else s

/-- The words of a schedule entry. -/
def seRegs : List Reg := [.SE_W0, .SE_W1, .SE_W2, .SE_W3, .SE_W4]

/-- A refused commit entry (R286): words that a command wrote with the request are as before it (R22). -/
def seRefused (s : State) (e code : Nat) : State :=
  let ws := seRegs.zip (seOf s e).prior
  setSe (forEach ws s fun w s => wr s w.1 w.2 e) e { seOf s e with state := .free, result := code, prior := [] }

/-- SCHEDULE_FIRE: every armed entry whose time has come, in ascending index (R287); none while the schedule is halted
(R454). -/
def scheduleFire (s : State) : State :=
  if held s 11 then s
  else
    let due := s.cio.sched.filterMap fun e => if e.2.state = .armed ∧ seDue s e.1 then some e.1 else none
    forEach due s fun e s => seRun s e false (s.now - 20000)

/-- A forward step of a time base passes armed entries, which run at once, late (R289). -/
def stepPasses (s : State) (k : Nat) : State :=
  if held s 11 then s
  else
    let due := s.cio.sched.filterMap fun e =>
      if e.2.state = .armed ∧ seTb s e.1 = k ∧ seTime s e.1 < tns s k then some e.1 else none
    forEach due s fun e s => seRun s e true s.now

/-- SCHEDULE_PULSE_END (R287). -/
def pulseEnd (s : State) (g : Nat) : State :=
  match Tbl.get? s.cio.pulses g with
  | some t =>
    if t ≤ s.now then
      let w := (rd s .GP_OUT).toNat
      wr (s.setCio fun y => { y with pulses := Tbl.del y.pulses g }) .GP_OUT (word (w - at_ g (b2n (bit (word w) g))))
    else s
  | none => s

/-- Why SE_DEL is refused (R288). -/
def seDelFails (s : State) (e : Nat) : List (Code × Bool) :=
  [(.wrongState, (seOf s e).state != .armed || held s 11), (.timePast, (seOf s e).state == .armed && seNear s e)]

/-- An entry is disarmed; a commit's set returns to OPEN and releases its demand (R288). -/
def seDisarm (s : State) (e : Nat) : State :=
  let s := setSe s e { seOf s e with state := .free }
  if seAction s e = 1 then
    s.setMix fun m => { m with sets := Tbl.upd m.sets (seSet s e) fun b => { b with state := .open, created := [] } }
  else s

def SeState.num : SeState → Nat
  | .free => 0 | .armed => 1 | .done => 2 | .deciding => 3
def CoState.num : CoState → Nat
  | .off => 0 | .on => 1 | .held => 2

end Sys2Proof.Machine
end

