-- ==== Sys2Proof/Machine/Spools.lean ====
section
/-! DEFINITION. Spools and the bobbin store: items, host window, replay mode, flush and reset (spec/13). -/

namespace Sys2Proof.Machine

def spOf (s : State) (n : Nat) : Spool := Tbl.getD s.spl.spools n {}
def setSp (s : State) (n : Nat) (x : Spool) : State := s.setSpl fun y => { y with spools := Tbl.put y.spools n x }

/-! ## Cells (R291 to R294) -/

/-- Cells of an item with `w` payload words: `ceil((4 + w) / 63)` (R292). -/
def cellsOf (w : Nat) : Nat := (4 + w + 62) / 63

/-- Words of an item, header included. -/
def Item.total (i : Item) : Nat := 4 + i.words.length

/-- Cells that an open item holds, reserved ones included (R294, R295): after a spool reset, those of later writes alone
(R305, R307). -/
def OpenItem.cells (o : OpenItem) : Nat :=
  if o.gone then (o.words.length + 62) / 63 else cellsOf (max o.words.length o.reserve)

def openCells (x : Spool) : Nat := match x.openItem with | some o => o.cells | none => 0

/-- Payload words written to the open item, 0 with none open (P_STAT WORDS, Table 13-2). -/
def openWords (x : Spool) : Nat := match x.openItem with | some o => o.words.length | none => 0

/-- Cells held, the open item's included (R294). -/
def spCells (x : Spool) : Nat := x.items.foldl (fun a i => a + cellsOf i.words.length) (openCells x)

/-- Cells of the whole store: 65,536 to 16 MiB (R291). -/
def storeCells (s : State) : Nat := s.spl.store * 65536

def usedCells (s : State) : Nat := s.spl.spools.foldl (fun a e => a + spCells e.2) 0
def freeCells (s : State) : Nat := storeCells s - usedCells s

/-- STORE_LOW once on the way down, armed again above twice LOW_CELLS (R294). -/
def storeWatch (s : State) : State :=
  let f := freeCells s
  let low := fv s .SPL_STORE_LOW_CELLS
  if s.spl.armed ∧ f < low then raise (s.setSpl fun y => { y with armed := false }) .SPL_EVENT 1
  else if !s.spl.armed ∧ 2 * low < f then s.setSpl fun y => { y with armed := true }
  else s

/-- Put a changed spool back: its level crossing and the store's free count are judged (R294, R302). -/
def putSpool (s : State) (n : Nat) (x : Spool) : State :=
  let before := spCells (spOf s n)
  let lev := fv s .SP_W1_LEVEL n
  let hit := decide (0 < lev ∧ before < lev ∧ lev ≤ spCells x)
  let s := setSp s n { x with levelHit := x.levelHit || hit }
  let s := if hit ∧ fb s .SP_W0_EV_EN n then hitSource s (1792 + fv s .SP_W0_EVSRC n) else s
  storeWatch s

/-! ## Owners (R293) -/

/-- Does an internal block own the producer end: host output, the mailbox's replies? -/
def internalProd (s : State) (n : Nat) : Bool :=
  (fb s .HOST_OUT_EN && fv s .HOST_OUT_SPOOL == n) || (fb s .SES_MBOX_EN && fv s .SES_MBOX_RSP == n)

/-- Host input names the spool; the mailbox takes its requests from it; a source replays it (R85, R149, R347). -/
def hostInNames (s : State) (n : Nat) : Bool := fb s .HOST_IN_EN && fv s .HOST_IN_SPOOL == n
def mboxNames (s : State) (n : Nat) : Bool := fb s .SES_MBOX_EN && fv s .SES_MBOX_REQ == n
def replayNames (s : State) (n : Nat) : Bool :=
  s.mix.sources.any fun e => e.2.sides.any fun sd => fld sd.what 28 4 == 6 && fld sd.what 16 12 == n

/-- Does an internal block own the consumer end: host input, the mailbox's requests, a replay source? -/
def internalCons (s : State) (n : Nat) : Bool := hostInNames s n || mboxNames s n || replayNames s n

/-- A source may not name a spool whose consumer end has another owner (R293). -/
def replayTaken (s : State) (n : Nat) : Bool := fb s .SP_W0_HOST_C n || hostInNames s n || mboxNames s n

/-- PROD and CONS of Table 13-5. -/
def prodOf (s : State) (n : Nat) : Nat := if internalProd s n then 2 else if fb s .SP_W0_HOST_P n then 1 else 0
def consOf (s : State) (n : Nat) : Nat := if internalCons s n then 2 else if fb s .SP_W0_HOST_C n then 1 else 0

/-- An operation of the host on an end is in order: the spool is enabled, bound to the host, not resetting. -/
def hostProd (s : State) (n : Nat) : Bool := fb s .SP_W0_EN n && prodOf s n == 1 && !(spOf s n).resetting
def hostCons (s : State) (n : Nat) : Bool := fb s .SP_W0_EN n && consOf s n == 1 && !(spOf s n).resetting

/-! ## Items -/

/-- Remove the item at an index: the cursor and the mark follow (R303, R304). -/
def Spool.remove (x : Spool) (i : Nat) : Spool :=
  match x.items[i]? with
  | none => x
  | some it =>
    let marked := x.mark == some it.seq
    { x with
      items := x.items.eraseIdx i
      cur := if i < x.cur then x.cur - 1 else x.cur
      pos := if i = x.cur then 0 else x.pos
      mark := if marked then none else x.mark
      markLost := x.markLost || marked
      unreadLost := if x.cur ≤ i then satInc 0x7F x.unreadLost else x.unreadLost }

/-- The oldest item that reclaim may take: not the one under a cursor that stands inside it (R303). -/
def Spool.reclaimable (x : Spool) : Option Nat :=
  if x.items.isEmpty then none
  else if x.cur = 0 ∧ 0 < x.pos then (if 1 < x.items.length then some 1 else none)
  else some 0

/-- Does an allocation of `more` cells fit quota and pool? -/
def roomFor (s : State) (n : Nat) (x : Spool) (more : Nat) : Bool :=
  let others := usedCells s - spCells (spOf s n)
  decide (spCells x + more ≤ fv s .SP_W1_QUOTA n ∧ others + spCells x + more ≤ storeCells s)

/-- Reclaim items whole, oldest first, until the allocation fits (R303). -/
def reclaim (s : State) (n more : Nat) : Nat → Spool → Spool
  | 0, x => x
  | fuel + 1, x =>
    if roomFor s n x more then x
    else match x.reclaimable with
      | some i => reclaim s n more fuel (x.remove i)
      | none => x

/-- The spool after making room for `more` cells, if that is possible (R295). -/
def makeRoom (s : State) (n : Nat) (x : Spool) (more : Nat) : Option Spool :=
  let y := if fb s .SP_W0_REPLAY n then reclaim s n more x.items.length x else x
  if roomFor s n y more then some y else none

/-- Word `w` of an item, header included (Table 13-1). -/
def Item.at_ (i : Item) (w : Nat) : Word :=
  match w with
  | 0 => word (i.tag * 65536 + i.len)
  | 1 => word (i.tb * 2 ^ 30 + i.src)
  | 2 => word i.tack
  | 3 => word i.seq
  | w + 4 => i.words.getD w 0

/-- The parity bit of a word. -/
def parityOf (w : Word) : Bool := (List.range 32).foldl (fun p i => p != bit w i) false

/-- The parity bits of an item's words, generated where they enter the store (R306); nothing reads them before the item
is committed. -/
def Item.withParity (i : Item) : Item := { i with parity := (List.range i.total).map fun w => parityOf (i.at_ w) }

/-- A word leaves the store poisoned: by its tag, or because its parity fails (R306). -/
def Item.bad (i : Item) (w : Nat) : Bool :=
  i.poison.contains w || (match i.parity[w]? with | some p => p != parityOf (i.at_ w) | none => false)

/-- The item offsets of the words that leave poisoned. -/
def Item.badWords (i : Item) : List Nat := (List.range i.total).filter i.bad

/-- The stitch and the tack in TB0 of a thing that happens now (R343). -/
def arrival (s : State) : Nat × Nat := (s.mix.stitch, tack s 0)

/-- Commit an item at an instant: SEQ counts it (Table 13-1). -/
def Spool.commit (x : Spool) (tag tb src tack len : Nat) (words : List Word) (poison : List Nat) (at_ : Nat × Nat) : Spool :=
  let q := (x.seq + 1) % 2 ^ 32
  let it : Item := { tag := tag, tb := tb, src := src, tack := tack, seq := q, len := len, words := words, poison := poison, done := at_ }
  { x with seq := q, items := x.items ++ [it.withParity] }

/-- Words of a DRAM burst with an uncorrectable error take their poison tag (R306). -/
def Spool.damage (x : Spool) (item w : Nat) : Spool :=
  { x with items := x.items.modify item fun i => if w < i.total then { i with poison := i.poison ++ [w] } else i }

/-- Little-endian words of a payload, the last one padded with zeros (R292). -/
def packWords : Nat → List Byte → List Word
  | 0, _ => []
  | n + 1, bs => word (leNat (bs.take 4)) :: packWords n (bs.drop 4)

def wordsOf (bs : List Byte) : List Word := packWords ((bs.length + 3) / 4) bs

/-- The payload bytes of an item; a poisoned word counts as zero for an internal consumer (R306). -/
def Item.bytes (i : Item) : List Byte :=
  ((i.words.zipIdx).flatMap fun e => if i.bad (e.2 + 4) then leBytes 4 0 else leBytes 4 e.1.toNat).take i.len

/-- The item under the cursor. -/
def Spool.head (x : Spool) : Option Item := x.items[x.cur]?

def Spool.remain (x : Spool) : Nat := match x.head with | some i => i.total - x.pos | none => 0

/-- Finish the item under the cursor: freed at once, or kept in a REPLAY spool (R299, R303). -/
def Spool.finish (x : Spool) (replay : Bool) : Spool :=
  if replay then { x with cur := x.cur + 1, pos := 0 } else { x with items := x.items.eraseIdx x.cur, pos := 0 }

/-! ## Reads of the window (R297, R300) -/

/-- C_HEAD (Table 13-2). -/
def cHead (x : Spool) : Word :=
  match x.head with
  | some i => word (0x80000000 + at_ 30 (b2n (!i.badWords.isEmpty)) + at_ 29 (b2n (x.mark == some i.seq)) + x.remain)
  | none => 0

/-- What a read of a spool window answers when it does not stall (Table 13-2). -/
def windowRead (s : State) (n off : Nat) : Word :=
  let x := spOf s n
  if off = 0 then cHead x
  else if off = 4 then
    word (at_ 31 (b2n x.flushed) + at_ 30 (b2n x.markLost) +
      (match x.head with | some i => i.badWords.headD 0 | none => 0))
  else if off = 0x18 then
    word (at_ 31 (b2n x.openItem.isSome) + at_ 30 (b2n x.flushCut) +
      openWords x)
  else if 0x800 ≤ off then
    let w := (off - 0x800) / 4
    match x.head with
    | some i => if w < x.remain then i.at_ (x.pos + w) else 0
    | none => 0
  else 0

/-- Reads of C_HEAD and C_DATA stall while nothing lies at the cursor (R300). -/
def stalls (s : State) (n off : Nat) : Bool :=
  (off == 0 || (decide (0x800 ≤ off ∧ off < 0x1000))) && (spOf s n).head.isNone

/-- A host read of a window (R300, R308): answered, or stalled until an item comes or STALL runs out. -/
def windowReadEvent (s : State) (n off : Nat) : State :=
  let off := off / 4 * 4
  if s.glb.passive then emit s (.hostRead n off 0xFFFFFFFF)
  else if stalls s n off then
    if fv s .SPL_STALL_STALL = 0 then emit s (.hostRead n off 0xFFFFFFFF)
    else s.setSpl fun y => { y with stalled := y.stalled ++ [(n, off, s.now + 1000 * fv s .SPL_STALL_STALL)] }
  else emit s (.hostRead n off (windowRead s n off))

/-- Stalled reads of a spool are answered as if made now (R300). -/
def answerStalled (s : State) (n : Nat) : State :=
  if (spOf s n).head.isNone then s
  else
    let mine := s.spl.stalled.filter fun e => e.1 == n
    let s := s.setSpl fun y => { y with stalled := y.stalled.filter fun e => e.1 != n }
    forEach mine s fun e s => emit s (.hostRead e.1 e.2.1 (windowRead s e.1 e.2.1))

/-- Stalled reads whose time has run out answer the empty marker (R300). -/
def expireStalled (s : State) : State :=
  if s.spl.stalled.all fun e => decide (s.now < e.2.2) then s
  else
    let lapsed := s.spl.stalled.filter fun e => decide (e.2.2 ≤ s.now)
    let s := s.setSpl fun y => { y with stalled := y.stalled.filter fun e => decide (s.now < e.2.2) }
    forEach lapsed s fun e s => emit s (.hostRead e.1 e.2.1 0xFFFFFFFF)

/-! ## Host operations (R298, R299, R304): the code and the state -/

def pOpen (s : State) (n : Nat) (v : Word) : Code × State :=
  let x := spOf s n
  if fld v 0 16 ≠ 0 then (.badValue, s)
  else if !hostProd s n || x.openItem.isSome then (.wrongState, s)
  else match makeRoom s n x 1 with
    | some y => (.ok, putSpool s n { y with openItem := some { tag := fld v 16 16, tack := tack s (fv s .SP_W0_TB n) } })
    | none => (.noCapacity, s)

def pData (s : State) (n : Nat) (v : Word) (poison : Bool) : Code × State :=
  let x := spOf s n
  if !hostProd s n then (.wrongState, s)
  else match x.openItem with
    | none => (.wrongState, s)
    | some o =>
      let k := o.words.length
      let o' : OpenItem := { o with words := o.words ++ [v], poison := if poison then o.poison ++ [k + 4] else o.poison }
      let more := o'.cells - o.cells
      if 16384 ≤ k then (.badValue, s)
      else if o.cut ∧ (makeRoom s n x more).isNone then (.ok, s)
      else match makeRoom s n x more with
        | some y => (.ok, putSpool s n { y with openItem := some o' })
        | none => (.noCapacity, s)

/-- Payload words with the pad bytes of the last one zero (R292). -/
def zeroPad (pad : Nat) (ws : List Word) : List Word :=
  if pad = 0 then ws else ws.dropLast ++ ws.getLast?.toList.map fun w => word (w.toNat % 256 ^ (4 - pad))

def pEnd (s : State) (n pad : Nat) : Code × State :=
  let x := spOf s n
  let k := openWords x
  if (pad ≠ 0 ∧ k = 0) ∨ 65535 < 4 * k - pad then (.badValue, s)
  else if !hostProd s n then (.wrongState, s)
  else match x.openItem with
    | none => (.wrongState, s)
    | some o =>
      let y := { x with openItem := none }
      let y := if o.cut then y
        else y.commit o.tag (fv s .SP_W0_TB n) n o.tack (4 * k - pad) (zeroPad pad o.words) o.poison (arrival s)
      (.ok, answerStalled (putSpool s n y) n)

def pAbort (s : State) (n : Nat) : Code × State :=
  let x := spOf s n
  if !hostProd s n || x.openItem.isNone then (.wrongState, s) else (.ok, putSpool s n { x with openItem := none })

def cAdvance (s : State) (n k : Nat) : Code × State :=
  let x := spOf s n
  if x.head.isNone then (.wrongState, s)
  else if x.remain < k then (.badValue, s)
  else if !hostCons s n then (.wrongState, s)
  else if x.remain = k then (.ok, putSpool s n (x.finish (fb s .SP_W0_REPLAY n)))
  else (.ok, putSpool s n { x with pos := x.pos + k })

def cDrop (s : State) (n : Nat) : Code × State :=
  let x := spOf s n
  if !hostCons s n || x.head.isNone then (.wrongState, s) else (.ok, putSpool s n (x.finish (fb s .SP_W0_REPLAY n)))

def cMark (s : State) (n : Nat) : Code × State :=
  let x := spOf s n
  match x.head with
  | some i =>
    if hostCons s n ∧ fb s .SP_W0_REPLAY n then (.ok, setSp s n { x with mark := some i.seq, markLost := false })
    else (.wrongState, s)
  | none => (.wrongState, s)

def cRewind (s : State) (n : Nat) : Code × State :=
  let x := spOf s n
  if !hostCons s n || !fb s .SP_W0_REPLAY n then (.wrongState, s)
  else match x.mark with
    | some q => (match x.items.findIdx? fun i => i.seq == q with
      | some i => (.ok, setSp s n { x with cur := i, pos := 0 })
      | none => (.markLost, s))
    | none => (if x.markLost then .markLost else .wrongState, s)

/-- C_CMD (R299): exactly one operation. -/
def cCmd (s : State) (n : Nat) (v : Word) : Code × State :=
  let adv := fld v 0 15
  let ops := b2n (bit v 31) + b2n (bit v 30) + b2n (bit v 29) + b2n (decide (adv ≠ 0))
  if ops ≠ 1 ∨ fld v 15 14 ≠ 0 then (.badValue, s)
  else if bit v 31 then cDrop s n
  else if bit v 30 then cMark s n
  else if bit v 29 then cRewind s n
  else cAdvance s n adv

/-- P_END as written (R298). -/
def pEndWrite (s : State) (n : Nat) (v : Word) : Code × State :=
  if fld v 2 29 ≠ 0 ∨ (bit v 31 ∧ fld v 0 2 ≠ 0) then (.badValue, s)
  else if bit v 31 then pAbort s n
  else pEnd s n (fld v 0 2)

/-- A write in a spool window at an offset (Table 13-2); offsets not listed have no writable field (R297). -/
def windowWrite (s : State) (n off : Nat) (v : Word) (poison : Bool) : Code × State :=
  let x := spOf s n
  if s.glb.passive then (.passive, s)
  else if off = 4 then
    (.ok, setSp s n { x with flushed := x.flushed && !bit v 31, markLost := x.markLost && !bit v 30 })
  else if off = 8 then cCmd s n v
  else if off = 0x10 then pOpen s n v
  else if off = 0x14 then pEndWrite s n v
  else if off = 0x18 then (.ok, setSp s n { x with flushCut := x.flushCut && !bit v 30 })
  else if 0x400 ≤ off ∧ off < 0x800 then pData s n v poison
  else (.access, s)

/-! ## Internal ends (R295, R301, R306) -/

/-- An internal producer hands over an item (R295): answered whether it was committed. -/
def internalCommit (s : State) (n : Nat) (it : NewItem) : State × Bool :=
  let x := spOf s n
  let ws := wordsOf it.body
  if !fb s .SP_W0_EN n || x.resetting || decide (65535 < it.body.length) then (s, false)
  else match makeRoom s n x (cellsOf ws.length) with
    | some y =>
      (answerStalled (putSpool s n (y.commit it.tag it.tb n it.tack it.body.length ws it.poison (arrival s))) n, true)
    | none => (raise (setSp s n { x with drops := satInc 0xFF x.drops }) .SPL_EVENT 2, false)

/-- An internal producer opens an item and reserves its cells (R295): answered whether the spool has taken it. -/
def internalOpen (s : State) (n tag tack words : Nat) : State × Bool :=
  let x := spOf s n
  if !fb s .SP_W0_EN n || x.resetting || x.openItem.isSome then (s, false)
  else match makeRoom s n x (cellsOf words) with
    | some y => (putSpool s n { y with openItem := some { tag := tag, tack := tack, reserve := words } }, true)
    | none => (raise (setSp s n { x with drops := satInc 0xFF x.drops }) .SPL_EVENT 2, false)

/-- An internal producer's item ends with nothing committed: its cells are freed (R305). -/
def internalAbort (s : State) (n : Nat) : State := putSpool s n { spOf s n with openItem := none }

/-- An internal producer writes its open item up to here; one that finds it cut ends it (R305). -/
def internalWrite (s : State) (n : Nat) (ws : List Word) : State × Bool :=
  let x := spOf s n
  match x.openItem with
  | some o => if o.cut then (internalAbort s n, false) else (setSp s n { x with openItem := some { o with words := ws } }, true)
  | none => (s, false)

/-- An internal producer ends and commits its open item. -/
def internalEnd (s : State) (n tb : Nat) (body : List Byte) : State :=
  let x := spOf s n
  match x.openItem with
  | some o => answerStalled (putSpool s n
      (({ x with openItem := none } : Spool).commit o.tag tb n o.tack body.length (wordsOf body) o.poison (arrival s))) n
  | none => s

/-- The item an internal consumer reads next. -/
def internalHead (s : State) (n : Nat) : Option Item :=
  if fb s .SP_W0_EN n ∧ !(spOf s n).resetting then (spOf s n).head else none

/-- An internal consumer has finished the item under the cursor; its poisoned words are counted (R306). -/
def internalFinish (s : State) (n : Nat) : State :=
  let x := spOf s n
  let p := match x.head with | some i => i.badWords.length | none => 0
  putSpool s n ({ x with poisoned := satAdd 0xFF x.poisoned p }.finish (fb s .SP_W0_REPLAY n))

/-! ## Flush and reset (R305, R307) -/

/-- Remove every committed item and cut an open one (R305); the cursor stood inside a removed item when one lay under it
(C_STAT FLUSHED, Table 13-2). -/
def flushSpool (s : State) (n : Nat) : State :=
  let x := spOf s n
  putSpool s n { x with
    items := [], cur := 0, pos := 0, flushed := x.flushed || x.head.isSome
    mark := none, markLost := x.markLost || x.mark.isSome
    openItem := x.openItem.map fun o => { o with cut := true }
    flushCut := x.flushCut || x.openItem.isSome }

/-- Spool reset on a pointer mismatch (R307). -/
def resetSpool (s : State) (n : Nat) : State :=
  let x := spOf s n
  putSpool s n { x with
    items := [], cur := 0, pos := 0, flushed := true, mark := none, markLost := x.markLost || x.mark.isSome
    openItem := x.openItem.map fun o => { o with cut := true, gone := true, words := [], poison := [] }
    flushCut := x.flushCut || x.openItem.isSome, seq := 0, resetting := true }

/-- SPOOL_RESET_DONE. -/
def spoolResetDone (s : State) (n : Nat) : State :=
  let x := spOf s n
  if x.resetting then setSp s n { x with resetting := false } else s

/-- Writing EN = 0: a flush, then the host bindings are released (R305). -/
def disableSpool (s : State) (n : Nat) : State :=
  let s := flushSpool s n
  let x := spOf s n
  let s := putSpool s n { x with openItem := none, seq := 0 }
  setFd (setFd s .SP_W0_HOST_P 0 n) .SP_W0_HOST_C 0 n

def splClrCounts (s : State) (n : Nat) : State :=
  setSp s n { spOf s n with drops := 0, poisoned := 0, unreadLost := 0 }

/-! ## Register checks (R293, R294, R309) -/

/-- Why a write of a spool's word 0 is refused. -/
def spW0Fails (s : State) (n : Nat) (v : Word) : List (Code × Bool) :=
  let old := rd s .SP_W0 n
  let en := bit old 31
  [ (.wrongState, en && (fld v 26 5 != fld old 26 5)),
    (.conflict, (en && !bit v 31 && (internalProd s n || internalCons s n)) ||
      (bit v 29 && !bit old 29 && internalProd s n) || (bit v 28 && !bit old 28 && internalCons s n)) ]

/-- Why a write of word 1 is refused: LEVEL up to QUOTA, QUOTA not below CELLS. -/
def spW1Fails (s : State) (n : Nat) (v : Word) : List (Code × Bool) :=
  [ (.badValue, fld v 16 16 == 0 || decide (fld v 16 16 < fld v 0 16)),
    (.conflict, decide (fld v 16 16 < spCells (spOf s n))) ]

/-- A write of word 0. -/
def spW0Write (s : State) (n : Nat) (v : Word) : State :=
  let was := fb s .SP_W0_EN n
  let s := wr s .SP_W0 v n
  if was ∧ !bit v 31 then disableSpool s n else s

end Sys2Proof.Machine
end

