-- ==== Sys2Proof/Machine/HostAudio.lean ====
section
/-! DEFINITION. Host audio channels through spools (spec/06 R148 to R150). -/

namespace Sys2Proof.Machine

/-- Bytes of one sample in a packing (R148). -/
def packBytes (pack : Nat) : Nat := if pack = 0 then 3 else 4

/-- A packed sample as audio: PACK 1 takes word bits [31:8], PACK 2 bits [23:0] (R148). -/
def unpackSample (pack : Nat) (bs : List Byte) : Int :=
  let v := leNat bs
  if pack = 1 then sext 24 (v / 256) else sext 24 v

/-- A sample as it is packed (R148). -/
def packSample (pack : Nat) (x : Int) : List Byte :=
  match pack with
  | 0 => leBytes 3 (field 24 x)
  | 1 => leBytes 4 (field 32 (x * 256))
  | _ => leBytes 4 (field 32 x)

def hostInPack (s : State) : Nat := ff s .HOST_IN_PACK
def hostInChans (s : State) : Nat := ff s .HOST_IN_CHANS

/-- The definitions in force with which the host channels run, none while they are disabled (R14, R151). -/
def hostInNow (s : State) : Option HostDef :=
  if ff s .HOST_IN_EN = 0 then none
  else some { spool := ff s .HOST_IN_SPOOL, chans := hostInChans s, pack := hostInPack s }
def hostOutNow (s : State) : Option HostDef :=
  if ff s .HOST_OUT_EN = 0 then none
  else some { spool := ff s .HOST_OUT_SPOOL, chans := ff s .HOST_OUT_CHANS, pack := ff s .HOST_OUT_PACK
              blocks := ff s .HOST_OUT_BLOCKS }

/-- Bytes of one block (R148). -/
def HostDef.size (d : HostDef) : Nat := 6 * d.chans * packBytes d.pack

/-- The next unread block of the host input's spool; the spool's cursor is its place, and items that are no whole number
of blocks are dropped whole (R149). -/
def takeHostBlock (s : State) (d : HostDef) : Nat → State × Option (List Byte)
  | 0 => (s, none)
  | fuel + 1 =>
    let n := d.spool
    match internalHead s n with
    | none => (s, none)
    | some it =>
      if d.size = 0 ∨ it.len % d.size ≠ 0 then
        takeHostBlock (internalFinish (s.setLn fun l => { l with hostBad := satInc 0x3FF l.hostBad }) n) d fuel
      else
        let x := spOf s n
        let k := (4 * (x.pos - 4) + d.size - 1) / d.size
        if it.len ≤ k * d.size then takeHostBlock (internalFinish s n) d fuel
        else
          let body := (it.bytes.drop (k * d.size)).take d.size
          if (k + 1) * d.size = it.len then (internalFinish s n, some body)
          else (setSp s n { x with pos := 4 + (k + 1) * d.size / 4 }, some body)

/-- The samples of one channel of a block (R148). -/
def hostChan (pack chans c : Nat) (body : List Byte) : List Int :=
  (List.range 6).map fun k => unpackSample pack ((body.drop ((k * chans + c) * packBytes pack)).take (packBytes pack))

/-- Every host input channel fades from its last sample, then plays zero. -/
def hostSilence (s : State) : State :=
  let l := s.ln
  match l.hostPlay with
  | .zero => { s with ln := { l with hostIn := [], hostLast := [] } }
  | _ => { s with ln := { l with hostIn := Tbl.mapV l.hostLast fun _ x => fadeBlock x, hostLast := [], hostPlay := .zero } }

/-- Host input at a boundary, under the fields in force (R14, R149): every boundary that finds no block counts. A changed
definition stops it with its fade and starts it at the boundary after (R399). -/
def hostInput (s : State) : State :=
  let d := hostInNow s
  let was := s.ln.hostInDef
  let s := s.setLn fun l => { l with hostInDef := d }
  match d with
  | none => hostSilence s
  | some d =>
    if was.isSome ∧ was ≠ some d then hostSilence s
    else
      let (s, b) := takeHostBlock s d ((spOf s d.spool).items.length + 1)
      match b with
      | some body =>
        let cs := List.range d.chans
        let l := s.ln
        let raw := cs.map fun c => (c, hostChan d.pack d.chans c body)
        let blk := if l.hostPlay = .zero then raw.map fun e => (e.1, fadeInBlock e.2) else raw
        { s with ln := { l with hostIn := blk, hostLast := blk.map fun e => (e.1, lastOf e.2), hostPlay := .run } }
      | none =>
        raise ((hostSilence s).setLn fun l => { l with hostUnder := satInc 0x7FF l.hostUnder }) .LN_EVENT 0x20

/-! ## Host output (R150, R295, R305) -/

/-- Host output that stops, or runs on with a changed definition, ends the item in progress with nothing committed (DESIGN
CHOICE, log entry 105). -/
def hostOutDefine (s : State) (d : Option HostDef) : State :=
  if s.ln.hostOutDef = d then s
  else
    let s := match s.ln.hostOutDef with
      | some o => if s.ln.hostOutHeld then internalAbort s o.spool else s
      | none => s
    s.setLn fun l => { l with hostOutDef := d, hostOut := [], hostOutHeld := false }

/-- Host output begins an item, with the cells of all its blocks; one that the spool cannot accept is discarded whole. -/
def hostOutOpen (s : State) (d : HostDef) : State :=
  let t := tack s (ff s .MC_CTRL_MTB 0)
  let (s, ok) := internalOpen s d.spool (Config.itemTag d.spool (spOf s d.spool).seq).toNat t ((d.blocks * d.size + 3) / 4)
  let s := s.setLn fun l => { l with hostOutTack := t, hostOutHeld := ok }
  if ok then s else raise (s.setLn fun l => { l with hostOver := satInc 0x7FF l.hostOver }) .LN_EVENT 0x20

/-- The blocks of an item packed (R148). -/
def hostOutBytes (d : HostDef) (bs : List (List Int)) : List Byte := bs.flatMap fun b => b.flatMap (packSample d.pack)

/-- A block joins the item in progress; the write that finds the item cut ends it, and the block after begins the next
(DEDUCED, log entry 105). -/
def hostOutWrite (s : State) (d : HostDef) (blk : List Int) : State :=
  let bs := s.ln.hostOut ++ [blk]
  let body := hostOutBytes d bs
  let last := decide (d.blocks ≤ bs.length)
  let keep (s : State) : State := s.setLn fun l => { l with hostOut := if last then [] else bs }
  if s.ln.hostOutHeld then
    let (s, ok) := internalWrite s d.spool ((wordsOf body).take (body.length / 4))
    if !ok then s.setLn fun l => { l with hostOut := [], hostOutHeld := false }
    else if last then keep ((internalEnd s d.spool (ff s .MC_CTRL_MTB 0) body).setLn fun l => { l with hostOutHeld := false })
    else keep s
  else keep s

/-- Host output at a boundary: the block that leaves joins an item of BLOCKS of them (R150). -/
def hostOutput (s : State) : State :=
  let n := ff s .HOST_OUT_CHANS
  let cols := (List.range n).map fun c => carried s (Tbl.getD s.ln.hostSides c [])
  let s := s.setLn fun l => { l with hostSides := agedSides l.hostSides }
  let s := hostOutDefine s (hostOutNow s)
  match s.ln.hostOutDef with
  | none => s
  | some d =>
    let blk := (List.range 6).flatMap fun k => cols.map fun b => b.getD k 0
    hostOutWrite (if s.ln.hostOut.isEmpty then hostOutOpen s d else s) d blk

end Sys2Proof.Machine
end

