-- ==== Sys2Proof/Machine/Streams.lean ====
section
/-! DEFINITION. Network audio streams, hanks and redundant legs (spec/08). -/

namespace Sys2Proof.Machine

def rxOf (s : State) (r : Nat) : Rx := Tbl.getD s.str.rx r {}
def setRx (s : State) (r : Nat) (x : Rx) : State := s.setStr fun y => { y with rx := Tbl.put y.rx r x }
def txOf (s : State) (t : Nat) : Tx := Tbl.getD s.str.tx t {}
def setTx (s : State) (t : Nat) (x : Tx) : State := s.setStr fun y => { y with tx := Tbl.put y.tx t x }

/-! ## Formats (Table 08-1, R168 to R172) -/

/-- Bytes per sample of a format. -/
def fmtBytes : Nat → Nat
  | 0 => 3 | 1 => 2 | 2 => 4 | 3 => 3 | 4 => 4 | 5 => 2 | _ => 1

def fmtIsAaf (f : Nat) : Bool := decide (3 ≤ f ∧ f ≤ 5)

/-- FORMAT, RATE and CHANS allowed (R169). -/
def formatOk (fmt rate chans : Nat) : Bool :=
  (match fmt with
   | 0 => rate == 4 || rate == 6
   | 1 => rate == 1 || rate == 4 || rate == 6
   | 2 => (rate == 4 || rate == 6) && chans % 2 == 0
   | 3 => rate == 4 || rate == 6
   | 4 => rate == 4 || rate == 6
   | 5 => rate == 4 || rate == 6
   | 6 => rate == 0
   | 7 => rate == 0
   | _ => false) && decide (1 ≤ chans ∧ chans ≤ 64)

/-- Channels as counted in limits and demand (R168). -/
def counted (rate chans : Nat) : Nat := if rate = 6 then 2 * chans else chans

/-- Samples per channel of a packet time at 48 kHz (R170, R124). -/
def ptime48 : Nat → Nat
  | 0 => 6 | 1 => 12 | 2 => 16 | 3 => 48 | _ => 192

/-- P_r: samples per channel per packet at the stream's rate (R170). -/
def packetLen (ptime rate : Nat) : Nat := ptime48 ptime * rateHz rate / 48000

/-- The PTIME and payload limits of a transmit stream (R170). -/
def txSizeOk (fmt rate ptime chans maxFrame : Nat) (jumbo v6 : Bool) : Bool :=
  let pay := chans * packetLen ptime rate * fmtBytes fmt
  let ovh := if fmtIsAaf fmt then 14 + 4 + 24 + 4 else 14 + 4 + (if v6 then 40 else 20) + 8 + 12 + 4
  decide (ptime ≤ 4) && (decide (2 ≤ rate) || decide (3 ≤ ptime)) &&
    (if jumbo then decide (pay ≤ 8960 ∧ pay + ovh ≤ maxFrame) else decide (pay ≤ 1440))

/-- G.711 mu-law to 16-bit linear. -/
def ulawDecode (b : Nat) : Int :=
  let u := 255 - b % 256
  let mag : Int := ((u % 16 * 8 + 132) * 2 ^ (u / 16 % 8) : Nat) - 132
  if 128 ≤ u then -mag else mag

/-- G.711 A-law to 16-bit linear. -/
def alawDecode (b : Nat) : Int :=
  let u := b % 256 ^^^ 0x55
  let e := u / 16 % 8
  let mag : Int := if e = 0 then (u % 16 * 16 + 8 : Nat) else ((u % 16 * 16 + 264) * 2 ^ (e - 1) : Nat)
  if 128 ≤ u then mag else -mag

/-- The G.711 segment of a biased magnitude: the place of its highest bit above `lo`, at most 7. -/
def segment (m lo : Nat) : Nat → Nat
  | 0 => 0
  | e + 1 => if 2 ^ (lo + e + 1) ≤ m then e + 1 else segment m lo e

/-- 16-bit linear to G.711 mu-law. -/
def ulawEncode (x : Int) : Nat :=
  let m := min x.natAbs 32635 + 132
  let e := segment m 7 7
  255 - ((if x < 0 then 128 else 0) + 16 * e + m / 2 ^ (e + 3) % 16)

/-- 16-bit linear to G.711 A-law. -/
def alawEncode (x : Int) : Nat :=
  let m := min x.natAbs 32767
  let e := segment m 7 7
  ((if x < 0 then 0 else 128) + 16 * e + (if e = 0 then m / 16 else m / 2 ^ (e + 3)) % 16) ^^^ 0x55

/-- A received sample word as the ring keeps it: decoded, or for AM824 the whole subframe (R172, R173). -/
def wireIn (fmt raw : Nat) : Int :=
  match fmt with
  | 0 => sext 24 raw
  | 1 => sext 16 raw * 256
  | 2 => (raw : Nat)
  | 3 => sext 24 raw
  | 4 => sext 24 (raw / 256)
  | 5 => sext 16 raw * 256
  | 6 => ulawDecode raw * 256
  | _ => alawDecode raw * 256

/-- The audio of a ring word (R172). -/
def ringAudio (fmt : Nat) (x : Int) : Int := if fmt = 2 then sext 24 (x.toNat % 2 ^ 24) else x

/-- A sample as it is sent, but for AM824 (R172). -/
def wireOut (fmt : Nat) (x : Int) : Nat :=
  match fmt with
  | 1 => field 16 (sat16 (rhe x 8))
  | 4 => field 32 (x * 256)
  | 5 => field 16 (sat16 (rhe x 8))
  | 6 => ulawEncode (sat16 (rhe x 8))
  | 7 => alawEncode (sat16 (rhe x 8))
  | _ => field 24 x

/-- Even parity of a number's low `n` bits. -/
def parity (n v : Nat) : Nat := (bitsOf v n 0).length % 2

/-- Channel-status bit `i` of a transmit stream: template bytes 0 to 22, byte 23 the CRCC (R173). -/
def csBit (s : State) (t i : Nat) : Nat :=
  let word (j : Nat) : Word := if j = 0 then rd s .TX_CS0 t else rd s .TX_CS t (j - 1)
  let bytes := (List.range 23).map fun b => BitVec.ofNat 8 (fld (word (b / 4)) (8 * (b % 4)) 8)
  if i / 8 = 23 then crc8aes bytes / 2 ^ (i % 8) % 2 else (bytes.getD (i / 8) 0).toNat / 2 ^ (i % 8) % 2

/-- An AM824 subframe of ST 2110-31 (R173): B, F, P, C, U, V and the audio field. `p` is the sample position. -/
def am824 (s : State) (t c p : Nat) (x : Int) : Nat :=
  let i := p % 192
  let cs := csBit s t i
  let a := field 24 x
  at_ 29 (if i = 0 then 1 else 0) + at_ 28 (if c % 2 = 0 then 1 else 0) + at_ 27 ((parity 24 a + cs) % 2) + at_ 26 cs + a

/-! ## Receiving: what applies to a stream -/

def rxFmt (s : State) (r : Nat) : Nat := fv s .RX_W0_FORMAT r
def rxRate (s : State) (r : Nat) : Nat := fv s .RX_W0_RATE r
def rxChans (s : State) (r : Nat) : Nat := fv s .RX_W0_CHANS r
def rxAcr (s : State) (r : Nat) : Bool := fv s .RX_W0_TIMING r == 1
def rxHank (s : State) (r : Nat) : Option Nat := if fb s .RX_W1_HANK_EN r then some (fv s .RX_W1_HANK r) else none

/-- The time base of a stream: its hank's, its own, or MC0's media time base for ACR (R184, R189). -/
def rxTb (s : State) (r : Nat) : Nat :=
  if rxAcr s r then mediaTb s 0
  else match rxHank s r with
    | some h => fv s .HK_W0_TB h
    | none => fv s .RX_W0_TB r

/-- The link offset in force, in 48 kHz samples (R178, R183, R184). -/
def rxOffset (s : State) (r : Nat) : Nat :=
  match rxHank s r with
  | some h => ff s .HK_W0_OFFSET h
  | none => ff s .RX_W1_OFFSET r

/-- A stream that the mix does not share a clock with: read through seams only (R112, R188, R189). -/
def rxForeign (s : State) (r : Nat) : Bool := rxAcr s r || rxTb s r != mediaTb s 0

/-- Positions of a stitch at a rate code. -/
def perStitch (rate : Nat) : Nat := rateHz rate / 8000

/-- A link offset in positions of a rate. -/
def offPos (rate o : Nat) : Nat := o * rateHz rate / 48000

/-- The nanoseconds to the first stitch boundary strictly after now. -/
def toBoundary (s : State) : Nat :=
  if s.now < s.mix.boundaryAt + 125000 then s.mix.boundaryAt + 125000 - s.now
  else s.mix.boundaryAt + 250000 - s.now

/-- The timestamp position the next block starts at: R(t) less the link offset (R179, R219). -/
def readPos (s : State) (r : Nat) : Int :=
  let x := rxOf s r
  let rate := rxRate s r
  let off : Int := (offPos rate x.off : Nat)
  if rxAcr s r then (x.read : Nat)
  else if rxForeign s r then
    (((tbOf s (rxTb s r)).t / (125000 * tbUnit) + 1) * perStitch rate : Nat) - off
  else (nearestPos ((tbOf s (rxTb s r)).t + toBoundary s * tbUnit) (rateHz rate) : Nat) - off

/-! ## Matching (R176, R186) -/

def dstWords (s : State) (a : Reg) (r : Nat) : Nat :=
  [0, 1, 2, 3].foldl (fun n j => n * 2 ^ 32 + (rd s a r j).toNat) 0

/-- A leg's destination or source address: IPv4 in the first word, IPv6 in all four (R197). -/
def ipOf (s : State) (a : Reg) (r : Nat) (v6 : Bool) : Nat := if v6 then dstWords s a r else (rd s a r 0).toNat

/-- An AAF leg's destination MAC and stream ID (R197). -/
def aafMac (s : State) (a : Reg) (r : Nat) : Nat := fld (rd s a r 0) 0 16 * 2 ^ 32 + (rd s a r 1).toNat
def aafId (s : State) (a : Reg) (r : Nat) : Nat := (rd s a r 2).toNat * 2 ^ 32 + (rd s a r 3).toNat

/-- The registers of a leg: destination, source, VID, UDP port, source filter. -/
structure LegRegs where
  dst : Reg
  src : Reg
  vid : Fd
  udp : Fd
  filt : Fd

def legRegs (b : Bool) : LegRegs :=
  if b then ⟨.RX_DST_B, .RX_SRC_B, .RX_W2_VID_B, .RX_W3_UDP_B, .RX_W2_SRCF_B⟩
  else ⟨.RX_DST_A, .RX_SRC_A, .RX_W2_VID_A, .RX_W3_UDP_A, .RX_W2_SRCF_A⟩

/-- The ports a leg is matched on (R186). -/
def legPorts (s : State) (r : Nat) (b : Bool) : List Nat :=
  if fv s .RX_W2_LEGS r = 1 then (if b then [1] else [0])
  else if b then []
  else if fv s .RX_W2_PORT r = 4 then [0, 1, 2, 3] else [fv s .RX_W2_PORT r]

/-- Does a packet match a leg (R176)? -/
def legMatches (s : State) (r : Nat) (b : Bool) (p : Pkt) : Bool :=
  let g := legRegs b
  (legPorts s r b).contains p.port && fv s g.vid r == p.vid &&
  match p.kind with
  | .rtp v6 dst src udp _ _ _ _ =>
    !fmtIsAaf (rxFmt s r) && fb s .RX_W2_IPV6 r == v6 && ipOf s g.dst r v6 == dst && fv s g.udp r == udp &&
      (!fb s g.filt r || ipOf s g.src r v6 == src)
  | .aaf dmac id _ _ _ _ _ _ => fmtIsAaf (rxFmt s r) && aafMac s g.dst r == dmac && aafId s g.dst r == id
  | .other => false

/-- The enabled stream and leg a packet matches. -/
def matchStream (s : State) (p : Pkt) : Option (Nat × Bool) :=
  s.str.rx.findSome? fun e =>
    if !e.2.enabled then none
    else if legMatches s e.1 false p then some (e.1, false)
    else if legMatches s e.1 true p then some (e.1, true)
    else none

/-- Two legs could match one frame (R176). -/
def legsOverlap (s : State) (r : Nat) (b : Bool) (q : Nat) (c : Bool) : Bool :=
  let g := legRegs b; let h := legRegs c
  (legPorts s r b).any (fun n => (legPorts s q c).contains n) && fv s g.vid r == fv s h.vid q &&
    fmtIsAaf (rxFmt s r) == fmtIsAaf (rxFmt s q) &&
    if fmtIsAaf (rxFmt s r) then aafMac s g.dst r == aafMac s h.dst q && aafId s g.dst r == aafId s h.dst q
    else
      let v6 := fb s .RX_W2_IPV6 r
      v6 == fb s .RX_W2_IPV6 q && ipOf s g.dst r v6 == ipOf s h.dst q v6 && fv s g.udp r == fv s h.udp q &&
        !(fb s g.filt r && fb s h.filt q && ipOf s g.src r v6 != ipOf s h.src q v6)

/-! ## Receiving: packets (R177 to R187) -/

def pktSeq (p : Pkt) : Nat := match p.kind with | .rtp _ _ _ _ _ _ q _ => q | .aaf _ _ _ _ _ _ q _ => q | .other => 0
def pktTs (p : Pkt) : Nat := match p.kind with | .rtp _ _ _ _ _ _ _ t => t | .aaf _ _ _ _ _ _ _ t => t | .other => 0

/-- Samples per channel in a packet. -/
def pktSamples (s : State) (r : Nat) (p : Pkt) : Nat := p.payload.length / (rxChans s r * fmtBytes (rxFmt s r))

/-- A matched packet is malformed (R175, R177). -/
def pktBad (s : State) (r : Nat) (p : Pkt) : Bool :=
  let per := rxChans s r * fmtBytes (rxFmt s r)
  let n := pktSamples s r p
  p.payload.length % per != 0 || n == 0 || decide (rateHz (rxRate s r) / 250 < n) ||
  match p.kind with
  | .rtp v6 _ _ _ sum pt _ _ => pt != fv s .RX_W1_PT r || sum == some false || (v6 && sum.isNone)
  | .aaf _ _ tv fmt rate ch _ _ => !tv || fmt != rxFmt s r || rate != rxRate s r || ch != rxChans s r
  | .other => true

/-- The samples of a packet: one list of channels per position. -/
def pktFrames (s : State) (r : Nat) (p : Pkt) : List (List Int) :=
  let fmt := rxFmt s r; let w := fmtBytes fmt; let ch := rxChans s r
  (List.range (pktSamples s r p)).map fun k => (List.range ch).map fun c =>
    wireIn fmt (beNat ((p.payload.drop ((k * ch + c) * w)).take w))

/-- The timestamp position of a packet's first sample (R174, R175, R189). -/
def pktPos (s : State) (r : Nat) (p : Pkt) : Int :=
  let rate := rateHz (rxRate s r)
  if rxAcr s r then
    match (rxOf s r).acr with
    | some (ts, base) => (base : Nat) + sext 32 (pktTs p + 2 ^ 32 - ts)
    | none => 0
  else if fmtIsAaf (rxFmt s r) then
    let t := tns s (rxTb s r)
    let full : Int := (t : Nat) + sext 32 (pktTs p + 2 ^ 32 - t % 2 ^ 32)
    (2 * full * rate + 1000000000) / 2000000000
  else
    let low := (pktTs p + 2 ^ 32 - (rd s .RX_W4 r).toNat) % 2 ^ 32
    let at_ := readPos s r
    at_ + sext 32 (low + 2 ^ 32 - (at_ % (2 ^ 32 : Nat)).toNat)

/-- The first accepted packet of an ACR stream anchors it: presented at its ingress instant plus O (R189). -/
def acrAnchor (s : State) (r : Nat) (p : Pkt) : State :=
  let x := rxOf s r
  if rxAcr s r ∧ x.acr.isNone then
    let base := nearestPos (tbOf s (mediaTb s 0)).t (rateHz (rxRate s r))
    let read := base - offPos (rxRate s r) x.off
    setRx s r { x with
      acr := some (pktTs p, base), read := read, primed := true, acrRate := 2 ^ 32, acrFrac := 0, acrErr := 0
      acrLevel := ((base + pktSamples s r p : Nat) : Int) - (read : Nat) }
  else s

/-- A later packet of an ACR stream carries its place on, and tells how late it arrived for its timestamp (R189). -/
def acrFollow (s : State) (r : Nat) (p : Pkt) (pos : Nat) : State :=
  let x := rxOf s r
  match x.acr with
  | some (_, last) =>
    if last < pos then
      setRx s r { x with
        acr := some (pktTs p, pos), acrErr := (nearestPos (tbOf s (mediaTb s 0)).t (rateHz (rxRate s r)) : Nat) - (pos : Nat) }
    else s
  | none => s

/-- An extended sequence number against the highest one a leg has seen (R187). -/
def extSeq (bits : Nat) (hi : Option Nat) (q : Nat) : Nat :=
  match hi with
  | none => q + 2 ^ bits
  | some h => ((h : Int) + sext bits (q + 2 ^ bits - h % 2 ^ bits)).toNat

/-- Count a packet that passed R177 on its leg: PKTS, and the gaps in its sequence numbers (R187). -/
def Leg.count (l : Leg) (bits q : Nat) : Leg :=
  let e := extSeq bits l.hi q
  match l.hi with
  | none => { l with hi := if l.restart then none else some e, pkts := inc32 l.pkts }
  | some h =>
    if h < e then { l with hi := some e, pkts := inc32 l.pkts, lost := satAdd 0xFFFFFFFF l.lost (e - h - 1) }
    else { l with pkts := inc32 l.pkts }

def legOf (x : Rx) (b : Bool) : Leg := if b then x.legB else x.legA
def setLeg (x : Rx) (b : Bool) (l : Leg) : Rx := if b then { x with legB := l } else { x with legA := l }

/-- A leg takes an accepted packet, its sequence number and position: live from now on (R187); after a step its highest
number restarts here (R216). -/
def legAccept (s : State) (r : Nat) (b : Bool) (q : Nat × Nat) (used : Bool) : State :=
  let x := rxOf s r
  let l := legOf x b
  let bits := if fmtIsAaf (rxFmt s r) then 8 else 16
  let s := setRx s r (setLeg { x with lastAcc := s.now } b { l with
    hi := some (l.hi.getD (extSeq bits none q.1)), restart := false
    got := (q :: l.got).take 4096, lastAcc := some s.now, live := true
    used := if used then inc32 l.used else l.used })
  if l.live then s else hitAttached (raise s .STR_EVENT 0x10) .ATT_RX r 3

/-- Write the positions that hold no data yet (R180). -/
def ringWrite (x : Rx) (pos : Nat) (fs : List (List Int)) : Rx :=
  let ring := (fs.zipIdx).foldl (fun (g : Tbl (List Int)) e =>
    if (Tbl.get? g (pos + e.2)).isSome then g else Tbl.put g (pos + e.2) e.1) x.ring
  let last := pos + fs.length - 1
  { x with ring := ring, top := some (match x.top with | some t => max t last | none => last) }

/-- All positions of a packet hold data already. -/
def allHeld (x : Rx) (pos n : Nat) : Bool := (List.range n).all fun k => (Tbl.get? x.ring (pos + k)).isSome

/-- The window of R179: a packet whose first sample has been read for a block, or is due for the next one, is late; one
whose last sample lies too far ahead is early. -/
def tooLate (s : State) (r : Nat) (pos : Int) : Bool := decide (pos < readPos s r + (perStitch (rxRate s r) : Nat))
def tooEarly (s : State) (r : Nat) (pos : Int) (n : Nat) : Bool :=
  decide (readPos s r * 48000 + (((rxOf s r).off + 1536) * rateHz (rxRate s r) : Nat) ≤ (pos + n - 1) * 48000)

/-- A late packet is counted and raised (R179). -/
def countLate (s : State) (r : Nat) : State :=
  hitAttached (raise (setRx s r { rxOf s r with late := inc32 (rxOf s r).late }) .STR_EVENT 2) .ATT_RX r 1

/-- A well-formed packet on a leg, judged against the window and merged (R179, R180, R187). -/
def acceptPacket (s : State) (r : Nat) (b : Bool) (p : Pkt) : State :=
  let n := pktSamples s r p
  let s := acrAnchor s r p
  let x := rxOf s r
  let pos := pktPos s r p
  let q := (pktSeq p, pos.toNat)
  let l := legOf x b
  if tooLate s r pos then countLate s r
  else if tooEarly s r pos n then setRx s r { x with early := inc32 x.early }
  else if l.got.contains q then setRx s r { x with dup := inc32 x.dup }
  else if x.merged.contains q then legAccept s r b q false
  else if allHeld x pos.toNat n then setRx s r { x with dup := inc32 x.dup }
  else
    let s := setRx s r { ringWrite x pos.toNat (pktFrames s r p) with merged := (q :: x.merged).take 4096 }
    acrFollow (legAccept s r b q true) r p pos.toNat

/-- PACKET_RECEIVE. -/
def packetReceive (s : State) (p : Pkt) : State :=
  match matchStream s p with
  | none => s.setStr fun y => { y with noMatch := inc32 y.noMatch }
  | some (r, b) =>
    let x := rxOf s r
    if pktBad s r p then setRx s r { x with malformed := inc32 x.malformed }
    else
      let bits := if fmtIsAaf (rxFmt s r) then 8 else 16
      acceptPacket (setRx s r (setLeg x b ((legOf x b).count bits (pktSeq p)))) r b p

/-- A packet refilled from the peer over the lining link (R187, R431): judged by the same window at its arrival, written
where positions hold no data. -/
def refill (s : State) (r : Nat) (pos : Nat) (fs : List (List Int)) : State :=
  let x := rxOf s r
  if !x.enabled then s
  else if tooLate s r pos then countLate s r
  else if tooEarly s r pos fs.length then setRx s r { x with early := inc32 x.early }
  else if allHeld x pos fs.length then s
  else setRx s r { ringWrite x pos fs with refilled := inc32 x.refilled }

/-- A change of a receive stream's state (R182). -/
def rxState (s : State) (r : Nat) (st : RxState) : State :=
  if (rxOf s r).state = st then s
  else hitAttached (raise (setRx s r { rxOf s r with state := st }) .STR_EVENT 1) .ATT_RX r 2

/-- The enabled seams that read a stream. -/
def seamsOnRx (s : State) (r : Nat) : List Nat :=
  s.rb.seams.filterMap fun e =>
    if e.2.enabled ∧ ff s .SM_W0_DIR e.1 = 0 ∧ fld (rd s .SM_W1 e.1) 28 4 = 2 ∧ fld (rd s .SM_W1 e.1) 16 12 = r then some e.1
    else none

/-- RX_TIMEOUT (R182): the stream reports a stop to its seams (R121). -/
def rxTimeout (s : State) (r : Nat) : State :=
  let x := rxOf s r
  if x.state = .running ∧ x.lastAcc + 500000000 ≤ s.now then
    forEach (seamsOnRx s r) (rxState s r .waiting) fun m s => seamTrig s m .stop
  else s

/-- A leg has had no accepted packet for 100 ms (R187). -/
def legTimeout (s : State) (r : Nat) (b : Bool) : State :=
  let x := rxOf s r
  let l := legOf x b
  match l.lastAcc with
  | some t =>
    if l.live ∧ t + 100000000 ≤ s.now then
      hitAttached (raise (setRx s r (setLeg x b { l with live := false })) .STR_EVENT 0x10) .ATT_RX r 3
    else s
  | none => s

/-! ## Receiving: blocks (R178, R181, R183, R216, R229) -/

/-- The channel-status bits of a handed-over AM824 frame: a block start opens a block, the 192nd bit completes it. -/
def csTake (x : Rx) (c : Nat) (w : Int) : Rx :=
  let v := w.toNat
  let bits := if v / 2 ^ 29 % 2 = 1 then [v / 2 ^ 26 % 2 == 1]
    else match Tbl.getD x.cs c [] with
      | [] => []
      | l => l ++ [v / 2 ^ 26 % 2 == 1]
  if 192 ≤ bits.length then { x with cs := Tbl.del x.cs c, csDone := Tbl.put x.csDone c (bits.getD 1 false) }
  else { x with cs := if bits.isEmpty then Tbl.del x.cs c else Tbl.put x.cs c bits }

def csFrame (x : Rx) (f : List Int) : Rx := (f.zipIdx).foldl (fun x e => csTake x e.2 e.1) x

/-- A stitch of `n` frames of all channels, each faded from its last sample, or ramped in over it (R181, log entry 66). -/
def fadeFrames (n : Nat) (last : List Int) : List (List Int) :=
  (List.range n).map fun k => last.map fun v => fadeAt n v k

def fadeInFrames (n : Nat) (fs : List (List Int)) : List (List Int) :=
  (fs.zipIdx).map fun e => e.1.map fun v => fadeInAt n v e.2

/-- Count an underrun of a stream and of its hank (R181, R185). -/
def underrun (s : State) (r : Nat) : State :=
  let x := rxOf s r
  let s := setRx s r { x with underruns := inc32 x.underruns, under := true }
  let s := hitAttached (raise s .STR_EVENT 4) .ATT_RX r 0
  match rxHank s r with
  | some h => raise (s.setStr fun y => { y with hank := Tbl.mod 0 y.hank h (satInc 0xFFFF) }) .STR_EVENT 8
  | none => s

/-- Blocks of a stream on a foreign clock that are handed over in one stitch follow one another; the mix takes one. -/
def rxPut (s : State) (r : Nat) (x : Rx) (out : List (List Int)) : Rx :=
  if rxForeign s r then
    { x with blk := x.blk ++ if out.isEmpty then List.replicate (perStitch (rxRate s r)) (List.replicate (rxChans s r) 0) else out }
  else { x with blk := out }

/-- Hand over the block at timestamp position `p`, none of whose positions is read twice; `fade` replaces it by a fade,
`ex` exempts it from the counts (R181, R183, R216, R229). -/
def handOver (s : State) (r : Nat) (p : Int) (fade ex : Bool) : State :=
  let x := rxOf s r
  let n := perStitch (rxRate s r)
  let fmt := rxFmt s r
  let got := (List.range n).filterMap fun k =>
    if max 0 x.past ≤ p + (k : Nat) then Tbl.get? x.ring (p + (k : Nat)).toNat else none
  let whole := decide (got.length = n)
  let plays := whole && !fade
  let level : Int := match x.top with | some t => clampI (-32768) 32767 ((t : Int) + 1 - (p + (n : Nat))) | none => 0
  let fs := got.map fun f => f.map (ringAudio fmt)
  let out := if plays then (if x.playing then fs else fadeInFrames n fs) else if x.playing then fadeFrames n x.last else []
  let x1 := { (if fmt = 2 then got.foldl csFrame x else x) with
    ring := Tbl.keep x.ring fun q _ => decide (p + (n : Nat) ≤ (q : Nat)), past := max x.past (p + (n : Nat))
    level := level, levelMin := if x.top.isSome then min x.levelMin level else x.levelMin
    last := if plays then out.getLastD [] else [], before := if x.playing then x.last else [], playing := plays, muted := !plays, begun := x.begun || plays
    exempt := ex || (x.exempt && !whole), under := x.under && !whole
    fedAt := if whole then some s.now else x.fedAt }
  let s := setRx s r (rxPut s r x1 out)
  if whole then (if plays ∧ x.state = .waiting then rxState s r .running else s)
  else if x.begun ∧ !x.exempt ∧ !ex then
    let s := setRx s r { rxOf s r with missing := satAdd 0xFFFFFFFF x.missing (n - got.length) }
    if x.under then s else underrun s r
  else s

/-- The active unit's fade decision for the block handed over at this boundary (R427): a block that did not play there is
replaced by its fade here too. -/
def rxDecided (s : State) (r : Nat) (plays : Bool) : State :=
  let x := rxOf s r
  if plays ∨ !x.playing then s
  else
    let out := if x.before.isEmpty then [] else fadeFrames (perStitch (rxRate s r)) x.before
    setRx s r { x with
      blk := if rxForeign s r then x.blk else out, last := [], playing := false, muted := true }

/-- Empty the ring and the records of delivered sequence numbers (R216). -/
def rxEmpty (x : Rx) : Rx :=
  { x with
    ring := [], top := none, past := 0, merged := [], acr := none, primed := false, exempt := true
    legA := { x.legA with hi := none, restart := true, got := [] }
    legB := { x.legB with hi := none, restart := true, got := [] } }

/-- Hand over blocks of a stream on a foreign clock up to position `cur`. -/
def handOverTo (s : State) (r cur : Nat) (ex : Bool) : Nat → State
  | 0 => s
  | fuel + 1 =>
    let x := rxOf s r
    if x.read ≤ cur then
      let s := handOver s r (x.read : Nat) false ex
      handOverTo (setRx s r { rxOf s r with read := x.read + perStitch (rxRate s r) }) r cur ex fuel
    else s

/-- The recovered clock of an ACR stream passes its part of the stitch, steered by LEVEL or by the arrivals; answers the
blocks that are due (R189). -/
def acrDue (s : State) (r : Nat) : Nat × State :=
  let x := rxOf s r
  let mode := fv s .RX_W0_ACR_MODE r
  let rate := (Config.acrLoop mode x.acrRate (if mode = 1 then x.acrErr else x.level - x.acrLevel)).toNat
  ((x.acrFrac + rate) / 2 ^ 32, setRx s r { x with acrRate := rate, acrFrac := (x.acrFrac + rate) % 2 ^ 32 })

/-- The first position that is due now on a stream's own clock under a link offset. -/
def foreignPos (s : State) (r off : Nat) : Nat :=
  let n := perStitch (rxRate s r)
  (tbOf s (rxTb s r)).t / (125000 * tbUnit) * n - offPos (rxRate s r) off

/-- The blocks of this stitch of a stream on a foreign clock, `due` of them under the offset in use: a change of offset
fades the first one and moves the read position; a fade that finds no block due plays at once (R178, R183, R189, R216). -/
def rxForeignBlocks (s : State) (r due want : Nat) (fade ex : Bool) : State :=
  let x := rxOf s r
  let n := perStitch (rxRate s r)
  if due = 0 then
    if fade ∧ x.playing ∧ want = x.off then
      setRx s r { rxPut s r x (fadeFrames n x.last) with last := [], playing := false, muted := true, exempt := true }
    else s
  else
    let moved := want != x.off
    let s := handOver s r (x.read : Nat) (fade || moved) (ex || moved)
    let s := setRx s r { rxOf s r with
      read := x.read + n + offPos (rxRate s r) x.off - offPos (rxRate s r) want, off := want }
    let rest := (rxOf s r).read + (due - 1) * n
    if due = 1 then s else handOverTo s r (rest - n) (ex || moved) (due - 1)

/-- The block of one enabled receive stream at a boundary. -/
def rxBlock (s : State) (r : Nat) : State :=
  let s := setRx s r { rxOf s r with csDone := [], blk := if rxForeign s r then [] else (rxOf s r).blk }
  let x := rxOf s r
  let k := rxTb s r
  let rate := rxRate s r
  let ph := (tbOf s k).phase
  let want := rxOffset s r
  let n := perStitch rate
  if ph = 2 then
    setRx s r { rxEmpty x with blk := [], last := [], playing := false, muted := true, off := want }
  else
    let step := ph == 1
    if rxAcr s r then
      if x.primed then
        let (due, s) := acrDue s r
        rxForeignBlocks s r (min 4 due) want step step
      else
        let y := { x with off := want }
        setRx s r (if x.playing then { rxPut s r y (fadeFrames n x.last) with last := [], playing := false, muted := true } else y)
    else if rxForeign s r then
      let cur := foreignPos s r x.off
      let s := if x.primed then s else setRx s r { x with read := cur, primed := true }
      let read := (rxOf s r).read
      rxForeignBlocks s r (if read ≤ cur then min 4 ((cur - read) / n + 1) else 0) want step step
    else
      let start := nearestPos (tbOf s k).t (rateHz rate)
      let moved := want != x.off
      let slip := x.primed && start != x.read + offPos rate x.off
      let s := handOver s r ((start : Int) - (offPos rate x.off : Nat)) (step || moved || slip) (step || moved)
      setRx s r { rxOf s r with off := want, read := start + n - offPos rate want, primed := true }

/-- A stream that is not enabled plays what is left of its fade, then zero. -/
def rxSilent (s : State) (r : Nat) : State :=
  let x := rxOf s r
  if x.playing then
    setRx s r { x with blk := fadeFrames (perStitch (rxRate s r)) x.last, last := [], playing := false, muted := true }
  else if x.blk.isEmpty then s
  else setRx s r { x with blk := [], last := [], muted := true }

/-- Every receive stream at a boundary. -/
def rxBoundary (s : State) : State :=
  forEach (s.str.rx.map (·.1)) s fun r s => if (rxOf s r).enabled then rxBlock s r else rxSilent s r

/-- The sample rates of the streams that R219 reads or sends at MC0 boundaries, 48 kHz first. -/
def gridRates (s : State) : List Nat :=
  48000 :: (((s.str.rx.filter fun e => e.2.enabled && !rxForeign s e.1).map fun e => rateHz (rxRate s e.1)) ++
    ((s.str.tx.filter fun e => e.2.enabled && fv s .TX_W0_TB e.1 == mediaTb s 0).map fun e => rateHz (fv s .TX_W0_RATE e.1)))

/-- MC0 against its media time base: a boundary at which a block does not start a stitch of positions on, at one of the
rates in use, is a slip (R229). -/
def gridWatch (s : State) : State :=
  let t := (tbOf s (mediaTb s 0)).t
  let quiet := (tbOf s (mediaTb s 0)).phase != 0
  let slip := match s.ref.grid with
    | some u => !quiet && (gridRates s).any fun hz => nearestPos t hz != nearestPos u hz + hz / 8000
    | none => false
  let s := s.setRef fun r => { r with grid := some t }
  if slip then raise (setMc s 0 { mcOf s 0 with slips := satInc 0xFFFF (mcOf s 0).slips }) .REF_EVENT 0x80 else s

/-- Channel `c` of a stream's block (R188): zero when the stream is not enabled. -/
def rxChannel (s : State) (r c : Nat) : List Int := six ((rxOf s r).blk.map fun f => f.getD c 0) 0

/-! ## Enabling and disabling (R159, R182, R184) -/

/-- Is an IP destination multicast, and its MAC address (R196). -/
def ipMulticast (v6 : Bool) (ip : Nat) : Bool := if v6 then ip / 2 ^ 120 == 0xFF else ip / 2 ^ 28 == 14
def ipMac (v6 : Bool) (ip : Nat) : Nat := if v6 then 0x3333 * 2 ^ 32 + ip % 2 ^ 32 else 0x01005E * 2 ^ 24 + ip % 2 ^ 23

/-- The multicast group of a leg: MAC, IP group and named source. -/
def legGroup (s : State) (r : Nat) (b : Bool) : Option (Nat × Option (Nat × Option Nat)) :=
  let g := legRegs b
  if fmtIsAaf (rxFmt s r) then
    let m := aafMac s g.dst r
    if isMulticast m then some (m, none) else none
  else
    let v6 := fb s .RX_W2_IPV6 r
    let ip := ipOf s g.dst r v6
    if ipMulticast v6 ip then
      some (ipMac v6 ip, some (ip, if fb s g.filt r then some (ipOf s g.src r v6) else none))
    else none

/-- A leg's own entry: installed when its stream joins and the set has room, removed when it leaves (R157, R159). -/
def legOwn (s : State) (r : Nat) (b : Bool) (vid mac : Nat) (join : Bool) : State :=
  let x := rxOf s r
  if join then
    let had := (macWay s vid mac).isSome
    let s := macOwn s vid mac
    if had then setRx s r { x with owns := b :: x.owns } else s
  else if x.owns.contains b then macDisown (setRx s r { x with owns := x.owns.filter (· != b) }) vid mac
  else s

/-- Join or leave the groups of a stream (R159). -/
def rxGroups (s : State) (r : Nat) (join : Bool) : State :=
  forEach [false, true] s fun b s =>
    if (legPorts s r b).isEmpty then s
    else match legGroup s r b with
      | none => s
      | some (mac, ip) =>
        let vid := fv s (legRegs b).vid r
        let s := legOwn s r b vid mac join
        match ip with
        | none => s
        | some (g, src) => forEach (legPorts s r b) s fun n s => reportTwice s n (fb s .RX_W2_IPV6 r) g src (!join)

/-- RX_EN takes effect: OFF to WAITING (Table 08-2). A fade that a disable at the same boundary has left plays in this
block (R399). -/
def rxOn (s : State) (r cls seq : Nat) : State :=
  let x := rxOf s r
  if x.enabled then setRx s r { x with cls := cls }
  else
    let s := setRx s r { rxEmpty x with
      enabled := true, cls := cls, seq := seq, begun := false, exempt := false, under := false
      lastAcc := s.now, off := rxOffset s r, read := 0
      legA := { x.legA with hi := none, restart := false, got := [] }
      legB := { x.legB with hi := none, restart := false, got := [] } }
    rxState (rxGroups s r true) r .waiting

/-- RX_DIS takes effect: fade out, leave groups, OFF (Table 08-2); its demand is free when the fade of this stitch is over
(R42). -/
def rxOff (s : State) (r : Nat) : State :=
  let x := rxOf s r
  if x.enabled then
    let s := rxGroups s r false
    rxState (setRx s r { rxEmpty (rxOf s r) with enabled := false, freeAt := s.mix.stitch + 1 }) r .off
  else s

/-- Enabled members of a hank (R184). -/
def hankMembers (s : State) (h : Nat) : Nat :=
  (s.str.rx.filter fun e => e.2.enabled && rxHank s e.1 == some h).length

/-- Counted channels of the enabled receive or transmit streams (R168). -/
def rxCounted (s : State) : Nat :=
  s.str.rx.foldl (fun a e => if e.2.enabled then a + counted (rxRate s e.1) (rxChans s e.1) else a) 0

/-- Enabled streams that have ACR_REF set (R190). -/
def acrSet (s : State) : Nat := (s.str.rx.filter fun e => e.2.enabled && fb s .RX_W0_ACR_REF e.1).length

/-- Why an enable of a receive stream is refused, but for the fabric test (R168, R169, R175, R176, R184, R188, R190). -/
def rxEnFails (s : State) (r : Nat) : List (Code × Bool) :=
  let fmt := rxFmt s r; let x := rxOf s r
  let tb := rxTb s r
  [ (.badValue, !formatOk fmt (rxRate s r) (rxChans s r) || (rxAcr s r && decide (3 ≤ fmt) && !decide (6 ≤ fmt))),
    (.notFound, match rxHank s r with | some h => !fb s .HK_W0_VALID h | none => false),
    (.wrongState, (fmtIsAaf fmt && fv s .TB_CTRL_PROFILE tb != 4) ||
      (decide (6 ≤ fmt) && (rxAcr s r || tb != mediaTb s 0))),
    (.conflict, !x.enabled && s.str.rx.any fun e => e.2.enabled && e.1 != r &&
      [false, true].any fun b => [false, true].any fun c => legsOverlap s r b e.1 c),
    (.noCapacity, !x.enabled &&
      (decide (1024 < rxCounted s + counted (rxRate s r) (rxChans s r)) ||
        (match rxHank s r with | some h => decide (16 ≤ hankMembers s h) | none => false) ||
        (fb s .RX_W0_ACR_REF r && decide (4 ≤ acrSet s)))) ]

/-! ## Transmitting (R191 to R196) -/

def txFmt (s : State) (t : Nat) : Nat := fv s .TX_W0_FORMAT t
def txRate (s : State) (t : Nat) : Nat := fv s .TX_W0_RATE t
def txChans (s : State) (t : Nat) : Nat := fv s .TX_W0_CHANS t
def txTb (s : State) (t : Nat) : Nat := fv s .TX_W0_TB t
def txLen (s : State) (t : Nat) : Nat := packetLen (fv s .TX_W0_PTIME t) (txRate s t)

def txSync (s : State) (t : Nat) : Bool := txTb s t == mediaTb s 0
def txDirect (s : State) (t : Nat) : Bool := txSync s t && txRate s t == 4

/-- The block of one channel of a transmit stream at a boundary, under its map entry and crossfade: the destination itself
at 48 kHz on MC0, else its bridges' from place `i` on (R114, R134, R192). -/
def txChannel (s : State) (t i c : Nat) : List Int :=
  let sides := Tbl.getD s.str.mapSides (64 * t + c) []
  if txDirect s t then carried s sides
  else bridged sides (perStitch (txRate s t)) fun d => (bridgeTo s (txSync s t) (txRate s t) 1 (txTb s t) d).map (·.drop i)

/-- The positions of a stream that leave in this stitch: `n` frames of all channels, from place `i` of a bridge's block on
(R192). -/
def txFrames (s : State) (t i n : Nat) : List (List Int) :=
  let cols := (List.range (txChans s t)).map (txChannel s t i)
  (List.range n).map fun k => cols.map fun b => b.getD k 0

/-- How the block of a transmit stream plays around a step or a slip (R216, R229). -/
def txPlay (s : State) (t : Nat) (slip : Bool) : Play :=
  match (tbOf s (txTb s t)).phase with
  | 1 => .fade
  | 2 => .zero
  | _ => if (txOf s t).shed then .fade else if slip then .refade
    else match (txOf s t).play with
      | .run => .run
      | .rampIn => .run
      | _ => .rampIn

def playFrames (p : Play) (n : Nat) (fs : List (List Int)) (last : List Int) : List (List Int) :=
  match p with
  | .run => fs
  | .rampIn => fadeInFrames n fs
  | .zero => fs.map fun f => f.map fun _ => 0
  | _ => (fs.zipIdx).map fun e => (e.1.zipIdx).map fun v => fadeAt n (last.getD v.2 0) e.2

/-- The first position that no packet of a disabled stream holds: a packet that has started is completed (R193). -/
def txLastPos (s : State) (t u : Nat) : Nat :=
  let len := max 1 (txLen s t)
  (u + len - 1) / len * len

/-- A transmit stream at a boundary: its output block starts to leave at the position nearest to the boundary in its
time base (R191, R219); the block of a seam begins one position before that one (`seamLead`). A position that a slip
leaves out holds the last sample (R229, log entry 70). -/
def txBlock (s : State) (t : Nat) : State :=
  let x := txOf s t
  let rate := rateHz (txRate s t)
  let p := nearestPos (tbOf s (txTb s t)).t rate
  let n := perStitch (txRate s t)
  let ph := (tbOf s (txTb s t)).phase
  let sync := txSync s t
  let slip := sync && ph == 0 && x.pos.any (· != p)
  let start := if sync ∨ ph = 2 then p else x.pos.getD p
  let cnt := if sync ∨ ph = 2 then n else min (n + n / 50 + 2) (p + n - start)
  let play := txPlay s t slip
  let fs := playFrames play n (txFrames s t (if sync then 0 else start + 1 - p) cnt) x.last
  let hole := if ph = 2 then 0 else min n (start - x.pos.getD start)
  let all := List.replicate hole x.last ++ fs
  let from_ := start - hole
  let kept := match x.until_ with | some u => all.take (txLastPos s t u - from_) | none => all
  let buf0 := if ph = 2 then [] else x.buf
  let buf := (kept.zipIdx).foldl (fun (b : Tbl (List Int)) e => Tbl.put b (from_ + e.2) e.1) buf0
  let next := if ph = 2 then none else x.next
  let len := max 1 (txLen s t)
  let first := if x.pos.isNone ∨ ph = 2 then start else x.from_
  setTx s t { x with
    buf := buf, pos := some (start + cnt), play := play, last := fs.getLastD x.last, from_ := first
    next := some (next.getD ((first + len - 1) / len)) }

/-- The next packet of a run is one that had not started when its stream was disabled (R193). -/
def Tx.spent (x : Tx) (len : Nat) : Bool :=
  match x.until_, x.next with
  | some u, some i => decide (u ≤ i * len)
  | some _, none => true
  | none, _ => false

/-- The offsets that define a transmit stream. -/
def txRegs : List Reg := [.TX_W0, .TX_W1, .TX_W2, .TX_W3, .TX_W4, .TX_W5, .TX_W6, .TX_W7, .TX_DST_A, .TX_DST_B, .TX_SRC_A,
  .TX_SRC_B, .TX_DMAC_A_HI, .TX_DMAC_A_LO, .TX_DMAC_B_HI, .TX_DMAC_B_LO, .TX_CS0, .TX_CS]

/-- The definition of a transmit stream as it is now. -/
def txDefs (s : State) (t : Nat) : Tbl Word :=
  txRegs.foldl (fun d r => (List.range (desc r).n2).foldl (fun d j => Tbl.put d (addr r t j) (rd s r t j)) d) []

/-- The state as the packets of a disabled stream see it: their run, under its own definition (R193). -/
def asTail (s : State) (t : Nat) (e : TxTail) : State :=
  setTx { s with rf := { s.rf with regs := e.defs.foldl (fun g d => Tbl.put g d.1 d.2) s.rf.regs } } t e.run

/-- The run of a disabled stream goes on, or is over: all its packets are sent, and a stream not enabled again is OFF
(R193). -/
def putTail (s : State) (k len : Nat) (e : TxTail) (run : Tx) : State :=
  if run.spent len then
    let t := k % 256
    let s := s.setStr fun y => { y with tails := Tbl.del y.tails k }
    if (txOf s t).enabled || s.str.tails.any fun e => e.1 % 256 == t then s else setTx s t { txOf s t with state := .off }
  else s.setStr fun y => { y with tails := Tbl.put y.tails k { e with run := run } }

/-- Every transmit stream at a boundary, and the packets that disabled ones complete. -/
def txBoundary (s : State) : State :=
  let s := forEach s.str.tails s fun e s =>
    let t := e.1 % 256
    let d := asTail s t e.2
    putTail s e.1 (txLen d t) e.2 (txOf (txBlock d t) t)
  let s := forEach (s.str.tx.map (·.1)) s fun t s => if (txOf s t).enabled then txBlock s t else s
  s.setStr fun y => { y with mapSides := agedSides y.mapSides }

/-- The timestamp position of a packet: its first sample's instant, or in ingress-referenced mode the engine-exit
instant less ING, truncated to the stream's rate (R125). -/
def txStampPos (s : State) (t p : Nat) : Int :=
  if fb s .TX_W0_ING_MODE t then
    let lat : Int := if txDirect s t then 0 else if txSync s t then 16 else 32
    ((p : Int) * 48000 - (lat + fv s .TX_W1_ING t) * rateHz (txRate s t)) / 48000
  else p

/-- The payload of a packet, all channels of a sample before the next sample. -/
def txPayload (s : State) (t p : Nat) (fs : List (List Int)) : List Byte :=
  let fmt := txFmt s t
  (fs.zipIdx).flatMap fun e => (e.1.zipIdx).flatMap fun v =>
    beBytes (fmtBytes fmt) (if fmt = 2 then am824 s t v.2 (p + e.2) v.1 else wireOut fmt v.1)

/-- The packet of a leg above UDP or Ethernet (R174, R175, R191): an RTP header, or an AVTP header of AAF with the leg's
stream ID (R194, R197). -/
def txBody (s : State) (t i : Nat) (b : Bool) (fs : List (List Int)) : List Byte :=
  let p := i * txLen s t
  let fmt := txFmt s t
  let pay := txPayload s t p fs
  let at_ := txStampPos s t p
  if fmtIsAaf fmt then
    let ns := at_ * 1000000000 / rateHz (txRate s t)
    let seq := (fv s .TX_W7_SEQ_BASE t + i) % 256
    let code := if fmt = 4 then 2 else if fmt = 3 then 3 else 4
    let nsr := if txRate s t = 6 then 7 else 5
    [0x02#8, 0x81#8] ++ beBytes 1 seq ++ [0#8] ++ beBytes 8 (aafId s (if b then .TX_DST_B else .TX_DST_A) t) ++ beBytes 4 (field 32 ns) ++
      beBytes 1 code ++ beBytes 2 (nsr * 4096 + txChans s t) ++ beBytes 1 (if fmt = 5 then 16 else if fmt = 3 then 24 else 32) ++
      beBytes 2 pay.length ++ [0#8, 0#8] ++ pay
  else
    [0x80#8] ++ beBytes 1 (fv s .TX_W1_PT t) ++ beBytes 2 (fv s .TX_W7_SEQ_BASE t + i) ++
      beBytes 4 (field 32 (at_ + (rd s .TX_W6 t).toNat)) ++ beBytes 4 (rd s .TX_W5 t).toNat ++ pay

/-- The instant by which the packet must have left the MAC (R124). -/
def txDeadline (s : State) (t i : Nat) : Nat :=
  let hz := rateHz (txRate s t)
  let first : Int := (i * txLen s t * (tbUnit * 1000000000) / hz : Nat)
  let lim : Int := ((ptime48 (fv s .TX_W0_PTIME t) + 1) * (tbUnit * 1000000000) / 48000 : Nat)
  ((s.now : Int) + (first + lim - (tbOf s (txTb s t)).t) / tbUnit).toNat

/-- The UDP checksum of a datagram, never zero on the wire (R177). -/
def udpSum (v6 : Bool) (src dst sport dport : Nat) (body : List Byte) : Nat :=
  let n := 8 + body.length
  let addrs := if v6 then beBytes 16 src ++ beBytes 16 dst else beBytes 4 src ++ beBytes 4 dst
  let t := sum16 (addrs ++ beBytes 4 n ++ beBytes 4 17 ++ beBytes 2 sport ++ beBytes 2 dport ++ beBytes 2 n ++ body)
  let c := 65535 - (if t = 0 then 0 else (t - 1) % 65535 + 1)
  if c = 0 then 65535 else c

/-- The frame of a leg (R194, R196). -/
def txFrame (s : State) (t i : Nat) (b : Bool) (port : Nat) (body : List Byte) : Frame :=
  let v6 := fb s .TX_W2_IPV6 t
  let aaf := fmtIsAaf (txFmt s t)
  let dreg := if b then Reg.TX_DST_B else .TX_DST_A
  let sreg := if b then Reg.TX_SRC_B else .TX_SRC_A
  let ip := ipOf s dreg t v6
  let dmac := if b then fv s .TX_DMAC_B_HI_MAC t * 2 ^ 32 + (rd s .TX_DMAC_B_LO t).toNat
    else fv s .TX_DMAC_A_HI_MAC t * 2 ^ 32 + (rd s .TX_DMAC_A_LO t).toNat
  { dst := if aaf then aafMac s dreg t else if ipMulticast v6 ip then ipMac v6 ip else dmac
    src := macOf s port
    vid := if b then fv s .TX_W4_VID_B t else fv s .TX_W2_VID_A t
    pcp := fv s .TX_W1_PCP t
    len := 14 + 4 + 4 + body.length + (if aaf then 0 else 8 + if v6 then 40 else 20)
    ip := if aaf then none else some { v6 := v6, dst := ip, src := ipOf s sreg t v6, udpDst := fv s .TX_W3_UDP_DST t
                                       udpSrc := fv s .TX_W3_UDP_SRC t, dscp := fv s .TX_W2_DSCP t, ttl := fv s .TX_W2_TTL t
                                       sum := udpSum v6 (ipOf s sreg t v6) ip (fv s .TX_W3_UDP_SRC t)
                                         (fv s .TX_W3_UDP_DST t) body }
    body := body
    tx := some (t, txDeadline s t i) }

/-- The legs a unit sends, as it sends LEGS = 0 streams or does not: leg and port (R194, R195). -/
def txLegsIf (s : State) (t : Nat) (one : Bool) : List (Bool × Nat) :=
  if fv s .TX_W2_LEGS t = 1 then
    (if s.glb.sendA then [(false, 0)] else []) ++ (if s.glb.sendB then [(true, 1)] else [])
  else if one then [(false, fv s .TX_W2_PORT t)] else []

/-- The legs this unit sends. -/
def txLegs (s : State) (t : Nat) : List (Bool × Nat) := txLegsIf s t s.glb.sendOne

/-- The legs it sends of packet `i`: a LEGS = 0 stream passes with the packet whose last sample leaves at or after the
role-change boundary (R434). -/
def packetLegs (s : State) (t i : Nat) : List (Bool × Nat) :=
  let x := txOf s t
  txLegsIf s t (if (i + 1) * txLen s t ≤ x.roleAt then x.wasOne else s.glb.sendOne)

/-- What the role lets the unit send of LEGS = 0 streams changes at this boundary (R434). -/
def txRole (s : State) (was : Bool) : State :=
  if was = s.glb.sendOne then s
  else
    let at_ (y : State) (t : Nat) : Nat := nearestPos (tbOf y (txTb y t)).t (rateHz (txRate y t))
    let turn (y : State) (t : Nat) (x : Tx) : Tx := { x with roleAt := at_ y t, wasOne := was }
    s.setStr fun y => { y with
      tx := Tbl.mapV y.tx fun t x => turn s t x
      tails := Tbl.mapV y.tails fun k e => { e with run := turn (asTail s (k % 256) e) (k % 256) e.run } }

/-- E takes a stream's frame into the switch: its VLAN is valid, E is a member, it is no longer than MAXFRAME, and its
destination is no reserved address (R154). -/
def entersAtE (s : State) (f : Frame) : Bool :=
  match vlanOf s f.vid with
  | some w => bit w 12 && decide (f.len ≤ fv s .SW_CFG_MAXFRAME) && !reservedDst f.dst
  | none => false

/-- A packet enters at E, counted there (R154), and its source is learned there (R157); its way skips the MAC table: it is
queued on its leg's port (R194), for a port that is not UP discarded and counted there (R153, R193). One to the
peer-delay address is never forwarded (R154). -/
def txQueue (s : State) (n : Nat) (f : Frame) : State :=
  let s := modCnt s 4 fun c => { c with rxFrames := sat64 c.rxFrames 1, rxOctets := sat64 c.rxOctets f.len }
  if !entersAtE s f then modCnt s 4 fun c => { c with rxDrop := inc32 c.rxDrop }
  else
    let s := macLearn s f.vid f.src 4
    if isPdelay f then s
    else if (portOf s n).state = .up then enqueueFrame s n { frame := f, fromPort := 4, inAt := s.now }
    else modCnt s n fun c => { c with flush := inc32 c.flush }

/-- The next packet of a stream's run, once all its samples have left (R191). -/
def txReady (s : State) (t : Nat) : Option (Nat × List (List Int)) :=
  let x := txOf s t
  let len := txLen s t
  match x.next with
  | none => none
  | some i =>
    let fs := (List.range len).filterMap fun k => Tbl.get? x.buf (i * len + k)
    if x.state = .off ∨ len = 0 ∨ fs.length ≠ len ∨ x.spent len then none else some (i, fs)

/-- The run once packet `i` has been started. -/
def txNext (s : State) (t i : Nat) : Tx :=
  let x := txOf s t
  { x with state := .running, next := some (i + 1), buf := Tbl.keep x.buf fun p _ => decide ((i + 1) * txLen s t ≤ p) }

/-- Packet `i`, as `d` defines the stream, enters the switch on each leg this unit sends. -/
def txSend (s d : State) (t i : Nat) (fs : List (List Int)) : State :=
  forEach (packetLegs d t i) s fun l s => txQueue s l.2 (txFrame d t i l.1 l.2 (txBody d t i l.1 fs))

/-- TX_PACKET_START (R191, R193): the next packet, of a run that a disable has ended first. -/
def txPacketStart (s : State) (t : Nat) : State :=
  let main := match txReady s t with
    | some (i, fs) => txSend (setTx s t (txNext s t i)) s t i fs
    | none => s
  match s.str.tails.find? fun e => e.1 % 256 == t with
  | none => main
  | some (k, e) =>
    let d := asTail s t e
    match txReady d t with
    | some (i, fs) => putTail (txSend s d t i fs) k (txLen d t) e (txNext d t i)
    | none => main

/-- A frame of a stream starts to leave: count it on its leg, and judge its lateness (R193). -/
def txLeft (s : State) (n : Nat) (f : Frame) : State :=
  match f.tx with
  | none => s
  | some (t, by_) =>
    let x := txOf s t
    let onB := fv s .TX_W2_LEGS t == 1 && n == 1
    let s := setTx s t (if onB then { x with pktsB := inc32 x.pktsB } else { x with pktsA := inc32 x.pktsA })
    if by_ < (portOf s n).busyUntil then
      let s := setTx s t { txOf s t with late := inc32 (txOf s t).late }
      hitAttached (raise s .STR_EVENT 0x20) .ATT_TX t 0
    else s

/-- FRAME_EGRESS on a port. -/
def frameEgress (s : State) (n : Nat) : State :=
  match egress s n with
  | (s, some f) => txLeft s n f
  | (s, none) => s

/-- TX_EN takes effect (R193). -/
def txOn (s : State) (t cls seq : Nat) : State :=
  let x := txOf s t
  if x.enabled then setTx s t { x with cls := cls }
  else
    setTx s t { x with
      enabled := true, cls := cls, seq := seq, state := .starting, buf := [], pos := none, next := none
      play := .run, shed := false, last := [] }

/-- TX_DIS takes effect: no packet starts whose first sample leaves at or after this boundary, those started are completed
under the definition they began with (R193, R399). -/
def txOff (s : State) (t : Nat) : State :=
  let x := txOf s t
  if x.enabled then
    let run := { x with enabled := false, until_ := some (nearestPos (tbOf s (txTb s t)).t (rateHz (txRate s t))) }
    let s1 := setTx s t { x with enabled := false, buf := [], pos := none, next := none }
    let k := s.str.tails.foldl (fun k e => if e.1 % 256 = t then e.1 + 256 else k) t
    putTail s1 k (txLen s t) { defs := txDefs s t } run
  else s

def txCounted (s : State) : Nat :=
  s.str.tx.foldl (fun a e => if e.2.enabled then a + counted (txRate s e.1) (txChans s e.1) else a) 0

/-- Why an enable of a transmit stream is refused, but for the fabric test (R168 to R170, R175). -/
def txEnFails (s : State) (t : Nat) : List (Code × Bool) :=
  let fmt := txFmt s t; let rate := txRate s t; let ch := txChans s t
  [ (.badValue, !formatOk fmt rate ch ||
      !txSizeOk fmt rate (fv s .TX_W0_PTIME t) ch (fv s .SW_CFG_MAXFRAME) (fb s .TX_W0_JUMBO t) (fb s .TX_W2_IPV6 t)),
    (.wrongState, fmtIsAaf fmt && fv s .TB_CTRL_PROFILE (txTb s t) != 4),
    (.noCapacity, !(txOf s t).enabled && decide (1024 < txCounted s + counted rate ch)) ]

/-! ## Writes -/

def clrRx (s : State) (r : Nat) : State :=
  let x := rxOf s r
  let z (l : Leg) : Leg := { l with pkts := 0, lost := 0, used := 0 }
  setRx s r { x with
    legA := z x.legA, legB := z x.legB, late := 0, early := 0, dup := 0, malformed := 0, underruns := 0, missing := 0
    refilled := 0, levelMin := 0x7FFF }

def clrTx (s : State) (t : Nat) : State := setTx s t { txOf s t with pktsA := 0, pktsB := 0, late := 0 }
def clrHank (s : State) (h : Nat) : State := s.setStr fun y => { y with hank := Tbl.del y.hank h }

def RxState.num : RxState → Nat
  | .off => 0 | .waiting => 1 | .running => 2
def TxState.num : TxState → Nat
  | .off => 0 | .starting => 1 | .running => 2

end Sys2Proof.Machine
end

