-- ==== Sys2Proof/Machine/Dynamics.lean ====
section
/-! DEFINITION. Source chains, non-audio detection, the hem and its comparison, meters and VOX detectors (spec/04). -/

namespace Sys2Proof.Machine

def chainOf (s : State) (k : Nat) : Chain := Tbl.getD s.dyn.chains k {}
def setChain (s : State) (k : Nat) (x : Chain) : State := s.setDyn fun y => { y with chains := Tbl.put y.chains k x }
def hemOf (s : State) (d : Nat) : Hem := Tbl.getD s.dyn.hems d {}
def setHem (s : State) (d : Nat) (x : Hem) : State := s.setDyn fun y => { y with hems := Tbl.put y.hems d x }
def meterOf (s : State) (m : Nat) : Meter := Tbl.getD s.dyn.meters m {}
def setMeter (s : State) (m : Nat) (x : Meter) : State := s.setDyn fun y => { y with meters := Tbl.put y.meters m x }
def voxOf (s : State) (v : Nat) : Vox := Tbl.getD s.dyn.vox v {}
def setVox (s : State) (v : Nat) (x : Vox) : State := s.setDyn fun y => { y with vox := Tbl.put y.vox v x }

/-! ## Inputs -/

/-- The raw block of an input selector (R85, R133, R149, R188). -/
def inputBlock (s : State) (w : Word) : List Int :=
  let i := fld w 16 12; let sub := fld w 0 6
  match fld w 28 4 with
  | 1 => if cgDirect s (i / 8) then six (Tbl.getD s.ln.inBlk (32 * i + sub) []) 0 else zeros6
  | 2 => rxChannel s i sub
  | 3 => six (Tbl.getD s.rb.seams i {}).out 0
  | 4 => six (Tbl.getD s.rb.convs i {}).out 0
  | 5 => six (Tbl.getD s.ln.hostIn i []) 0
  | 6 => six (Tbl.getD s.rb.replay w.toNat []) 0
  | _ => zeros6

/-- An input selector that a commit may name (R133, R149, R188). -/
def selectorReady (s : State) (w : Word) : Bool :=
  let i := fld w 16 12; let sub := fld w 0 6
  match fld w 28 4 with
  | 1 => laneIsInput s i && decide (sub < cgSlots s (i / 8)) && cgDirect s (i / 8)
  | 2 => decide (sub < rxChans s i) && rxRate s i == 4 && !rxForeign s i
  | 5 => fb s .HOST_IN_EN && decide (i < fv s .HOST_IN_CHANS)
  | _ => true

/-- Why a commit may not name an input selector: its input is not there (R133, R149, R188), or a replay spool has another
consumer (R293). -/
def selectorCode (s : State) (w : Word) : Code :=
  if !selectorReady s w then .wrongState
  else if fld w 28 4 = 6 ∧ replayTaken s (fld w 16 12) then .conflict
  else .ok

/-! ## The source chain (R87 to R94) -/

/-- A chain as it starts: trim and filter at their settings, no history (log entry 7). -/
def newChain (s : State) (k : Nat) : Chain :=
  let g : Int := (ff s .SCH_W0_TRIM k : Nat)
  { trim := { start := g, target := g }, filts := [{ what := { hpf := ff s .SCH_W0_HPF k }, w := unity }] }

/-- The filter side with the largest weight. -/
def heaviest (fs : List (Side Filt)) : Filt :=
  (fs.foldl (fun (b : Option (Side Filt)) f => match b with
    | none => some f
    | some g => if g.w.now < f.w.now then some f else some g) none |>.map (·.what)).getD {}

/-- An HPF crossfade (R90, R479): a side that runs already is not doubled; a new one takes the history of the side with
the largest weight. -/
def crossHpf (fs : List (Side Filt)) (hpf len : Nat) : List (Side Filt) :=
  let old := fs.map fun f => { f with w := f.w.to (if f.what.hpf = hpf then 16384 else 0) len }
  let all := if fs.any fun f => f.what.hpf == hpf then old
    else old ++ [{ what := { heaviest fs with hpf := hpf }, w := Ramp.to {} 16384 len }]
  all.filter Side.lives

/-- New trim and HPF settings of a chain come into force (R88, R90). -/
def chainSettings (s : State) (k : Nat) (c : Chain) : Chain :=
  let len := (rdF s .MIX_RAMP_DEF).toNat
  let g : Int := (ff s .SCH_W0_TRIM k : Nat)
  let h := ff s .SCH_W0_HPF k
  let c := if c.trim.target = g then c else { c with trim := c.trim.to g len }
  if c.filts.any fun f => f.what.hpf == h && f.w.target == 16384 then c else { c with filts := crossHpf c.filts h len }

/-- Settings that wait for their boundaries, without those that name the setting before them: a write that leaves HPF as
it is changes nothing (DESIGN CHOICE, log entry 91). -/
def turnsFrom (h : Nat) : List (Nat × Nat) → List (Nat × Nat)
  | [] => []
  | e :: es => if e.2 = h then turnsFrom h es else e :: turnsFrom e.2 es

/-- An HPF setting that a write names needs no fifth filter side, the settings that wait for their boundary among them
(R479). -/
def hpfRoom (s : State) (k : Nat) (v : Word) : Bool :=
  let waits := waitingFor s (addr .SCH_W0 k) ++ [(effectAt s s.now, v)]
  let turns := turnsFrom (ff s .SCH_W0_HPF k) (waits.map fun w => (w.1, fld w.2 0 3))
  let sides : List (Side Nat) := (chainOf s k).filts.map fun f => { what := f.what.hpf, w := f.w }
  decide ((sidesAfter (rdF s .MIX_RAMP_DEF).toNat (s.mix.stitch + 1) (turns.map fun e => (e.1, some e.2)) sides).length ≤ 4)

/-- One filter on one trimmed sample (R90): filtered value, whether a stage saturated, new history. -/
def filtStep (f : Filt) (t t1 t2 : Int) : Int × Bool × Filt :=
  if f.hpf = 0 then (t, false, { f with y1 := t * 256, y2 := f.y1 })
  else
    let (b0, a1, a2) := hpfCoef f.hpf
    let acc := (b0 * t + -2 * b0 * t1 + b0 * t2) * 256 - (a1 * f.y1 + a2 * f.y2)
    let y0 := rhe acc 30
    let y := sat32 y0
    let v := rhe y 8
    (sat24 v, y != y0 || sat24 v != v, { f with y1 := y, y2 := f.y1 })

/-- The compressor's parameters in force (R91). -/
structure Comp where
  thr : Int
  ratio : Nat
  knee : Int
  makeup : Int
  att : Nat
  rel : Nat
  rms : Bool

def compOf (s : State) (k : Nat) : Comp :=
  { thr := ff s .SCH_W1_THR k, ratio := ff s .SCH_W1_RATIO k, knee := ff s .SCH_W1_KNEE k, makeup := ff s .SCH_W1_MAKEUP k
    att := smoothing 10 (48 * ff s .SCH_W2_ATTACK k), rel := smoothing 1 (48 * ff s .SCH_W2_RELEASE k)
    rms := ff s .SCH_W0_DET k == 1 }

/-- The gain computer (R93). -/
def gainComputer (lv : Int) (c : Comp) : Int :=
  let w := 512 * c.knee
  let k : Int := if c.ratio = 255 then -65536 else rdiv (65536 * (10 - (c.ratio : Int))) c.ratio
  let d := lv + 512 * c.thr
  if 2 * d ≤ -w then 0
  else if w ≤ 2 * d then rhe (k * d) 16
  else
    let e := d + w / 2
    rdiv (k * e * e) (2 * w * 65536)

/-- The compressor on one sample (R92, R93): its output, whether it saturated, and the smoothed state. -/
def compress (c : Comp) (gs : Int) (sqs : List Nat) (v : Int) : Int × Bool × Int :=
  let lv := if c.rms then rmsLevel (sqs.foldl (· + ·) 0) else dbq v.natAbs
  let gt := (gainComputer lv c + 512 * c.makeup) * 65536
  let gs := gs + rhe ((gt - gs) * (if gt < gs then c.att else c.rel)) 32
  let y := rhe (v * dbGain gs) 24
  (sat24 y, sat24 y != y, gs)

/-- One sample of a chain: trim, filters, compressor, mute, each stage saturated (R87); clips counted for the meter
(R107). While a source-input crossfade runs, the raw word that counts as full scale is the blended one (DESIGN CHOICE,
log entry 60). -/
def chainSample (cp : Comp) (c : Chain) (raw : Int) (k : Nat) : Chain :=
  let t0 := rhe (raw * c.trim.val k) 14
  let t := sat24 t0
  let fs := c.filts.map fun f => (filtStep f.what t c.t1 c.t2, f.w)
  let sides : List (Side Int) := fs.map fun f => { what := f.1.1, w := f.2 }
  let v0 := blend sides id k
  let v := sat24 v0
  let sq := v.natAbs ^ 2
  let sqs := (sq :: c.sqs).take 480
  let (y, satC, gs) := compress cp c.gs sqs v
  let x := sat24 (rhe (y * c.mute.val k) 14)
  let clip := t != t0 || fs.any (fun f => f.1.2.1) || v != v0 || satC || raw == -8388608 || raw == 8388607
  { c with
    t1 := t, t2 := c.t1, filts := fs.map fun f => { what := f.1.2.2, w := f.2 }, gs := gs, sqs := sqs
    clips := if clip then c.clips + 1 else c.clips, x := c.x ++ [x] }

/-- A stitch of a chain on its blended input block (R76). -/
def chainBlock (s : State) (k : Nat) (c : Chain) (ins : List (Side (List Int))) : Chain :=
  let cp := compOf s k
  let c := (List.range 6).foldl (fun c i =>
    chainSample cp c (blend ins (fun b => b.getD i 0) i) i) { c with clips := 0, x := [], gsWas := c.gs }
  { c with
    trim := c.trim.step.settle, mute := c.mute.step.settle
    filts := (c.filts.map fun f => { f with w := f.w.step.settle }).filter Side.lives }

/-! ## Non-audio detection (R95 to R97) -/

/-- Bits [23:8] of a raw word. -/
def upper16 (x : Int) : Nat := field 24 x / 256

def isPa (x : Int) : Bool := upper16 x == 0xF872
def isPb (x : Int) : Bool := upper16 x == 0x4E1F

/-- The last sample of a block that completes the two-word preamble within one input, if any. -/
def seqTrigger (before : Bool) (xs : List Int) : Option Nat :=
  let prev := before :: xs.map isPa
  ((xs.zip prev).zipIdx).foldl (fun b e => if isPb e.1.1 && e.1.2 then some e.2 else b) none

/-- The last sample at which one input's word is the first and another's the second preamble word. -/
def pairTrigger (xs ys : List Int) : Option Nat :=
  ((xs.zip ys).zipIdx).foldl (fun b e => if isPa e.1.1 && isPb e.1.2 then some e.2 else b) none

def laterOf (a b : Option Nat) : Option Nat :=
  match a, b with
  | some i, some j => some (max i j)
  | some i, none => some i
  | none, b => b

/-- What the detector of a source finds in its inputs' raw blocks: last trigger sample of its own and through its pair. -/
def naFind (s : State) (c : Chain) (k : Nat) (raws : Nat → List (Word × List Int)) : Option Nat × Option Nat :=
  if ff s .SCH_W0_NA_EN k = 0 then (none, none)
  else
    let mine := raws k
    let own := mine.foldl (fun b e => laterOf b (seqTrigger (c.hits.contains e.1) e.2)) none
    let pair := if ff s .SCH_W3_PAIR_EN k = 1 then
        mine.foldl (fun b e => (raws (ff s .SCH_W3_PAIR k)).foldl (fun b f => laterOf b (pairTrigger e.2 f.2)) b) none
      else none
    (own, pair)

/-- The channel-status blocks completed in this stitch on a source's AM824 inputs: the non-audio bits (R95). Only an input
that is a channel of such a stream has them; one that reaches the source through a bridge carries samples alone
(DESIGN CHOICE, log entry 57). -/
def csBits (s : State) (inputs : List Word) : List Bool :=
  inputs.filterMap fun w =>
    if fld w 28 4 = 2 ∧ rxFmt s (fld w 16 12) = 2 then Tbl.get? (rxOf s (fld w 16 12)).csDone (fld w 0 6) else none

/-- A trigger at sample `i` of the stitch with a cause (R96). -/
def naTrigger (c : Chain) (cause i : Nat) : Chain := { c with naTrig := cause, naRun := 5 - i }

/-- The detector's result of a stitch is kept for the next boundary. A preamble found in a stitch names the cause before a
channel-status bit of that stitch, and a later trigger names its own (DESIGN CHOICE, log entry 58). -/
def naStitch (s : State) (k : Nat) (c : Chain) (raws : Nat → List (Word × List Int)) (paired : Option Nat) : Chain :=
  let (own, pair) := naFind s c k raws
  let cs := csBits s ((raws k).map (·.1))
  let c := { c with
    hits := (raws k).filterMap fun e => if isPa (lastOf e.2) then some e.1 else none
    csNon := (cs.getLast?).getD c.csNon, naRun := c.naRun + 6 }
  match laterOf (laterOf own pair) paired with
  | some i => naTrigger c 1 i
  | none => if cs.contains true ∧ ff s .SCH_W0_NA_EN k = 1 then naTrigger c 2 5 else c

/-- A trigger of the stitch before mutes the source from this boundary on (R96). -/
def naBoundary (s : State) (k : Nat) : State :=
  let c := chainOf s k
  if c.naTrig = 0 then s
  else
    let new := c.naCause = 0
    let s := setChain s k { c with
      naTrig := 0, naCause := c.naTrig, mute := if c.mute.target = 0 then c.mute else c.mute.to 0 16 }
    if new then raise s .DYN_EVENT 1 else s

/-- NA_RELEASE (R97). -/
def naRelease (s : State) (k : Nat) : State :=
  let c := chainOf s k
  if c.naCause ≠ 0 ∧ 4096 ≤ c.naRun ∧ c.naTrig = 0 ∧ !c.csNon then
    raise (setChain s k { c with naCause := 0, mute := c.mute.to 16384 16 }) .DYN_EVENT 1
  else s

/-! ## The hem (R98 to R103) -/

/-- 2^30, the hem's unity. -/
def hemOne : Int := 1073741824

def ceilDiv (a b : Int) : Int := -((-a) / b)

/-- The gain a hem word needs to stay under the ceiling (R100). -/
def hemNeed (c h : Int) : Int := if (h.natAbs : Int) ≤ c then hemOne else c * hemOne / (h.natAbs : Int)

/-- The gain of sample `k`: release, this word's need, and the look-ahead ramps (R100). -/
def hemGain (rel : Nat) (gprev g : Int) (needs : List Int) (k : Nat) : Int :=
  let g := g + rhe ((hemOne - g) * rel) 32
  let g := min g (needs.getD k hemOne)
  (needs.zipIdx).foldl (fun g e =>
    if k < e.2 ∧ e.1 < gprev then min g (gprev - ceilDiv ((gprev - e.1) * ((k + 1 : Nat) : Int)) ((e.2 + 1 : Nat) : Int)) else g) g

/-- One copy of the hem on the six words of a block (R100): words, gain, samples limited. -/
def hemCopy (cs rel : Nat) (g0 : Nat) (h : List Int) : List Int × Int × Nat :=
  let c : Int := cs * 16777216
  let needs := h.map (hemNeed c)
  (h.zipIdx).foldl (fun (acc : List Int × Int × Nat) e =>
    let g := hemGain rel g0 acc.2.1 needs e.2
    let w := clampI (-c) c (rhe (e.1 * g) 30)
    (acc.1 ++ [w], g, if g < hemOne then acc.2.2 + 1 else acc.2.2)) ([], (g0 : Int), 0)

/-- The result of smaller magnitude, copy A's when they are equal (R101). -/
def smaller (a b : Int) : Int := if b.natAbs < a.natAbs then b else a

/-- The first sample at which the copies differ by more than 1 LSB (R102). -/
def firstDiff : List Int → List Int → Option (Int × Int)
  | a :: as, b :: bs => if 1 < (a - b).natAbs then some (a, b) else firstDiff as bs
  | _, _ => none

/-- The fade of a block on a disagreement (R102). -/
def hemFade (xs : List Int) : List Int := (xs.zipIdx).map fun e => rdiv (e.1 * (5 - (e.2 : Int))) 6

/-- A gain ramp on an output block: `sat24(RHE(out × m, 14))` (R54, R103). -/
def rampOut (r : Ramp) (xs : List Int) : List Int := (xs.zipIdx).map fun e => sat24 (rhe (e.1 * r.val e.2) 14)

/-- A block held under the ceiling in force: a fade begins at the last sample under the ceiling before it (R99). -/
def underCeil (s : State) (d : Nat) (xs : List Int) : List Int :=
  let c : Int := ceilSample (ff s .HEM_W0_CEIL d)
  xs.map (clampI (-c) c)

/-- The dual hem of a destination on its six words (R101, R102); `errs` are the errors a fault adds to the outputs of
copy A and copy B. Answers the block that leaves. -/
def hemBlock (s : State) (d : Nat) (h : List Int) (errA errB : List Int) : List Int × State :=
  let x := hemOf s d
  let cs := ceilSample (ff s .HEM_W0_CEIL d)
  let rel := smoothing 1 (48 * ff s .HEM_W1_REL d)
  let (wa, ga, lim) := hemCopy cs rel x.gA h
  let (wb, gb, _) := hemCopy cs rel x.gB h
  let oa := (wa.zipIdx).map fun e => rhe e.1 24 + errA.getD e.2 0
  let ob := (wb.zipIdx).map fun e => rhe e.1 24 + errB.getD e.2 0
  let out := (oa.zip ob).map fun e => smaller e.1 e.2
  let s := setHem s d { x with
    gA := ga.toNat, gB := gb.toNat, prevA := x.gA, prevB := x.gB, raw := out, limited := lim
    ramp := x.ramp.bind fun r => if r.step.running then some r.step else none }
  if x.muted then (zeros6, s)
  else match firstDiff oa ob with
    | some (a, b) =>
      let s := setHem s d { hemOf s d with muted := true, ramp := none }
      (hemFade out, reportFault (raise s .DYN_EVENT 2) 0x0D d (if a.natAbs < b.natAbs then 1 else 0))
    | none => (match x.ramp with | some r => rampOut r out | none => out, s)

/-- A HEM_CLR that has reached its boundary (R103). -/
def hemClear (s : State) (d : Nat) : State :=
  let x := hemOf s d
  match x.clearReq with
  | some t =>
    if dueNow s t then
      setHem s d { x with
        clearReq := none, muted := false, gA := 1073741824, gB := 1073741824
        ramp := some (Ramp.to {} 16384 (rdF s .MIX_RAMP_DEF).toNat) }
    else s
  | none => s

/-! ## Meters (R104 to R107) -/

/-- Does the object of a meter exist (R104)? -/
def meterObject (s : State) (m : Nat) : Bool :=
  if m < 2048 then (Tbl.get? s.mix.sources m).isSome else (Tbl.get? s.mix.dests (m - 2048)).isSome

/-- The block a meter or detector watches: a source's x, a destination's output. -/
def watched (s : State) (isDst : Bool) (i : Nat) : List Int :=
  if isDst then dstBlock s i else six (chainOf s i).x 0

def maxMag (xs : List Int) : Nat := xs.foldl (fun a x => max a x.natAbs) 0
def sumSq (xs : List Int) : Nat := xs.foldl (fun a x => a + x.natAbs ^ 2) 0

/-- The readings of one enabled meter at a boundary, for the window that ends with the stitch just completed (R105,
R106). -/
def meterTick (s : State) (m : Nat) : State :=
  let x := meterOf s m
  let isDst := decide (2048 ≤ m)
  let b := watched s isDst (m % 2048)
  let clips := if isDst then (hemOf s (m - 2048)).limited else (chainOf s m).clips
  let peaks := (maxMag b :: x.peaks).take 80
  let sums := (sumSq b :: x.sums).take 2400
  let peak := meterCode (peaks.foldl max 0)
  let x := { x with
    peaks := peaks, sums := sums, peak := peak, rms := meterRms (sums.foldl (· + ·) 0), clips := satAdd 0xFFFF x.clips clips }
  let x : Meter := if x.clrReq then { x with clrReq := false, hold := -8192, holdFrom := none }
    else if x.hold ≤ peak then { x with hold := peak, holdFrom := some s.now } else x
  setMeter s m { x with pubHold := x.hold, pubClips := x.clips }

/-- METER_HOLD_EXPIRE (R106). The hold time is the one in force, counted from the last restart of the hold also when HOLD
has changed since (DESIGN CHOICE, log entry 59). -/
def meterHold (s : State) (m : Nat) : State :=
  let x := meterOf s m
  let code := ff s .MTR_W0_HOLD m
  match x.holdFrom with
  | some t =>
    if x.enabled ∧ code ≠ 0 ∧ t + 500000000 * code ≤ s.now then
      setMeter s m { x with hold := x.peak, holdFrom := some s.now }
    else s
  | none => s

/-- A meter is disabled: its readings return to the floor, its windows empty (R104). -/
def meterOff (s : State) (m : Nat) : State := s.setDyn fun y => { y with meters := Tbl.del y.meters m }

def meterOn (s : State) (m cls seq : Nat) : State :=
  let x := meterOf s m
  if x.enabled then setMeter s m { x with cls := cls } else setMeter s m { enabled := true, cls := cls, seq := seq }

/-! ## VOX detectors (R108, R109) -/

/-- The input that a detector's word names exists. -/
def voxNames (s : State) (w : Word) : Bool :=
  let i := fld w Fd.VOX_W0_INPUT.lo Fd.VOX_W0_INPUT.n
  if fld w Fd.VOX_W0_KIND.lo Fd.VOX_W0_KIND.n = 0 then (Tbl.get? s.mix.sources i).isSome else (Tbl.get? s.mix.dests i).isSome

/-- The input of the word in force exists. -/
def voxObject (s : State) (v : Nat) : Bool := voxNames s (rdF s .VOX_W0 v)

/-- The input that an enable would have exists: the word written last is in force by the boundary of the enable (R14,
R108). -/
def voxReady (s : State) (v : Nat) : Bool := voxNames s (rd s .VOX_W0 v)

/-- One block of a detector, from its counts before it: the counts that VOX_ON and VOX_OFF judge. -/
def voxJudge (s : State) (v : Nat) (x : Vox) : Vox :=
  let b := watched s (ff s .VOX_W0_KIND v == 1) (ff s .VOX_W0_INPUT v)
  if voxSample (ff s .VOX_W0_THR v) ≤ maxMag b then { x with above := x.above + 1, below := 0 }
  else { x with above := 0, below := x.below + 1 }

/-- The block of this stitch. -/
def voxTick (s : State) (v : Nat) : State :=
  let x := voxOf s v
  setVox s v (voxJudge s v { x with wasOn := x.on, wasAbove := x.above, wasBelow := x.below })

/-- A destination's block of this stitch is replaced: its detectors judge the block that leaves in its place, as its meter
does (R54, R108). -/
def voxAgain (s : State) (d : Nat) : State :=
  forEach (s.dyn.vox.map (·.1)) s fun v s =>
    let x := voxOf s v
    if x.enabled ∧ ff s .VOX_W0_KIND v = 1 ∧ ff s .VOX_W0_INPUT v = d then
      setVox s v (voxJudge s v { x with on := x.wasOn, above := x.wasAbove, below := x.wasBelow })
    else s

/-- VOX_ON (R109). -/
def voxOn (s : State) (v : Nat) : State :=
  let x := voxOf s v
  if x.enabled ∧ !x.on ∧ max 1 (ff s .VOX_W0_ATTACK v) ≤ x.above then setVox s v { x with on := true, below := 0 } else s

/-- VOX_OFF (R109): after HANG × 8 blocks below, at HANG 0 after the first. -/
def voxOff (s : State) (v : Nat) : State :=
  let x := voxOf s v
  if x.enabled ∧ x.on ∧ max 1 (8 * ff s .VOX_W1_HANG v) ≤ x.below then setVox s v { x with on := false, above := 0 } else s

def voxDisable (s : State) (v : Nat) : State := s.setDyn fun y => { y with vox := Tbl.del y.vox v }

def voxEnable (s : State) (v cls seq : Nat) : State :=
  let x := voxOf s v
  if x.enabled then setVox s v { x with cls := cls } else setVox s v { enabled := true, cls := cls, seq := seq }

/-- Chains and hems whose object is gone end with it (R92, R100); meters and detectors whose object is gone are
disabled, and free their demand (R104, R108): a detector whose new INPUT names nothing is treated as one whose input was
deleted (DESIGN CHOICE, log entry 61). -/
def metersGone (s : State) : State :=
  s.setDyn fun y => { y with
    chains := Tbl.keep y.chains fun k _ => (Tbl.get? s.mix.sources k).isSome
    hems := Tbl.keep y.hems fun d _ => (Tbl.get? s.mix.dests d).isSome
    meters := Tbl.keep y.meters fun m _ => meterObject s m, vox := Tbl.keep y.vox fun v _ => voxObject s v }

/-- What a boundary takes of the stitch that is complete, before anything changes at it: the meters publish it (R105),
the VOX states become those the boundary sees (R109), and HEM_GR keeps copy A's gain while the next stitch is computed
(R100). -/
def metersBoundary (s : State) : State :=
  let s := forEach (s.dyn.meters.map (·.1)) s fun m s => if (meterOf s m).enabled then meterTick s m else s
  s.setDyn fun y => { y with
    vox := Tbl.mapV y.vox fun _ x => { x with seen := x.on }
    hems := Tbl.mapV y.hems fun _ h => { h with was := h.gA } }

end Sys2Proof.Machine
end

