-- ==== Sys2Proof/Machine/Bridges.lean ====
section
/-! DEFINITION. Seams and synchronous converters (spec/05). -/

namespace Sys2Proof.Machine

def convOf (s : State) (c : Nat) : Conv := Tbl.getD s.rb.convs c {}
def setConv (s : State) (c : Nat) (x : Conv) : State := s.setRb fun r => { r with convs := Tbl.put r.convs c x }

/-! ## What a bridge names (R113, R114) -/

/-- The rate of a seam's foreign clock: CUR_RATE of a lane group, else RATE (R142). -/
def seamRate (s : State) (m : Nat) : Nat :=
  let w := rd s .SM_W1 m
  if ff s .SM_W0_DIR m = 0 ∧ fld w 28 4 = 1 then (groupOf s (fld w 16 12 / 8)).curRate
  else if ff s .SM_W0_DIR m = 1 ∧ ff s .SM_W0_CLKKIND m = 0 then (groupOf s (ff s .SM_W0_CLK m)).curRate
  else ff s .SM_W0_RATE m


/-- The input clock of a seam runs (R121): its group is RUNNING, its stream RUNNING; a time base always runs. -/
def seamInput (s : State) (m : Nat) : Bool :=
  let w := rd s .SM_W1 m
  if ff s .SM_W0_DIR m = 0 then
    match fld w 28 4 with
    | 1 => (groupOf s (fld w 16 12 / 8)).state == .running
    | 2 => (rxOf s (fld w 16 12)).state == .running
    | _ => false
  else ff s .SM_W0_CLKKIND m == 1 || (groupOf s (ff s .SM_W0_CLK m)).state == .running

/-- The instant at which the last sample of a seam's input clock arrived: a frame start, a block handed over (R121). -/
def seamHeard (s : State) (m : Nat) : Option Nat :=
  let w := rd s .SM_W1 m
  if ff s .SM_W0_DIR m = 0 then
    match fld w 28 4 with
    | 1 => (groupOf s (fld w 16 12 / 8)).lastAt
    | 2 => (rxOf s (fld w 16 12)).fedAt
    | _ => none
  else if ff s .SM_W0_CLKKIND m = 1 then some s.now else (groupOf s (ff s .SM_W0_CLK m)).lastAt

/-- The input clock of a seam has stopped: its block reports it, or nothing arrived for 64 nominal periods (R121). -/
def seamStopped (s : State) (m : Nat) : Bool :=
  !seamInput s m || match seamHeard s m with
    | some t => decide (64000000000 ≤ (s.now - t) * rateHz (seamRate s m))
    | none => true

/-- The output slots and channels that name destination `d` at a rate: whether each is synchronous (R114, R115). -/
def consumers (s : State) (d rate : Nat) : List Bool :=
  let names (ss : List (Side Nat)) : Bool := ss.any fun x => x.what == d && x.w.target != 0
  (s.ln.slotSides.filterMap fun e =>
    if names e.2 ∧ fv s .LANE_DIR_DIR (e.1 / 32) = 2 ∧ fv s .CG_FMT_RATE (keyGroup e.1) = rate then
      some (cgSync s (keyGroup e.1)) else none) ++
  s.str.mapSides.filterMap fun e =>
    let t := e.1 / 64
    if names e.2 ∧ (Tbl.getD s.str.tx t {}).enabled ∧ txRate s t = rate then some (txSync s t) else none

/-- Why a bridge's INPUT cannot be used (R115, R133, R188): input word, direction, and whether it is a converter. -/
def inputFails (s : State) (w : Word) (dir : Nat) (conv : Bool) : List (Code × Bool) :=
  let i := fld w 16 12; let sub := fld w 0 6
  if dir = 1 then [(.notFound, (Tbl.get? s.mix.dests (fld w 0 11)).isNone)]
  else match fld w 28 4 with
    | 1 => [(.wrongState, !laneIsInput s i || decide (cgSlots s (i / 8) ≤ sub) || (conv && !cgSync s (i / 8)))]
    | 2 => [(.wrongState, decide (rxChans s i ≤ sub) || (conv && rxForeign s i))]
    | _ => [(.notFound, true)]

/-- Why enabling a seam is refused, but for the fabric test: a clock at 8 kHz has no route through it (R113, R115). -/
def seamEnFails (s : State) (m : Nat) : List (Code × Bool) :=
  let w := rd s .SM_W1 m
  let slow :=
    if fv s .SM_W0_DIR m = 1 then fv s .SM_W0_CLKKIND m == 0 && fv s .CG_FMT_RATE (fv s .SM_W0_CLK m) == 0
    else match fld w 28 4 with
      | 1 => fv s .CG_FMT_RATE (fld w 16 12 / 8) == 0
      | 2 => rxRate s (fld w 16 12) == 0
      | _ => false
  (.badValue, slow) :: inputFails s w (fv s .SM_W0_DIR m) false

/-- Why enabling a converter is refused, but for the fabric test (R115): an output converter has a consumer that is not
synchronous where slots or channels carry its destination at its rate and none of them is (log entry 69). -/
def scEnFails (s : State) (c : Nat) : List (Code × Bool) :=
  let w := rd s .SC_W1 c
  let cs := consumers s (fld w 0 11) (fv s .SC_W0_RATE c)
  [(.badValue, fv s .SC_W0_RATE c == 4),
    (.wrongState, fv s .SC_W0_DIR c == 1 && !cs.isEmpty && cs.all fun x => !x)] ++ inputFails s w (fv s .SC_W0_DIR c) true

/-! ## The ratio (R117, R118) -/

/-- The deviation of an estimate from nominal, scaled: `ratio × 48000 − hz × 2^40`, and `hz × 2^40`. -/
def seamDev (s : State) (m ratio : Nat) : Int × Int :=
  let hz : Int := (rateHz (seamRate s m) : Nat)
  ((ratio : Int) * 48000 - hz * 2 ^ 40, hz * 2 ^ 40)

/-- The estimate lies within `p` parts in 1000 of nominal. -/
def seamWithin (s : State) (m ratio p : Nat) : Bool :=
  let d := seamDev s m ratio
  decide ((d.1.natAbs : Int) * 1000 ≤ d.2 * p)

/-- DEV in ppm (Table 05-7), rounded half to even and clamped to its 16 bits; zero before the first estimate (log entry
68). -/
def seamPpm (s : State) (m : Nat) : Int :=
  let x := seamOf s m
  if x.ratio = 0 then 0 else
    let d := seamDev s m x.ratio
    clampI (-32768) 32767 (rdiv (d.1 * 1000000) d.2)

def seamTrain (s : State) : Nat := fv s .RB_SEAM_CFG_TRAIN * 1000000

/-! ## Transitions (R120 to R122) -/

/-- A seam re-anchors: fade, reset, ramp in; the ratio is kept, SLIPS counts (R120). -/
def seamReanchor (s : State) (m : Nat) : State :=
  let x := seamOf s m
  raise (setSeam s m { x with play := .refade, slips := satInc 0xFFFF x.slips }) .RB_EVENT 2

/-- SEAM_REANCHOR: a tack more than JUMP from the prediction, or a fill more than 4 samples from its set point (R120). On
a standby the active unit decides (R123). -/
def seamJump (s : State) (m jump fill : Nat) : State :=
  if !mcMirrors s ∧ (10 * fv s .RB_SEAM_CFG_JUMP < jump ∨ 4 < fill) then seamTrig s m .jump else s

/-- SEAM_INPUT_STOP (R121). -/
def seamInputStop (s : State) (m : Nat) : State := if seamStopped s m then seamTrig s m .stop else s

/-- Into RUNNING with a ramp in. -/
def seamRun (s : State) (m : Nat) : State :=
  seamState (setSeam s m { seamOf s m with play := .rampIn, trainFrom := none, inRangeFrom := none }) m .running

/-- Into RANGE: what plays fades, the flag rises. -/
def seamRange (s : State) (m : Nat) : State :=
  let x := seamOf s m
  raise (seamState (setSeam s m { x with play := x.play.stop, trainFrom := none, inRangeFrom := none }) m .range) .RB_EVENT 4

/-- Into HOLD with the ratio held (R121). -/
def seamHold (s : State) (m : Nat) : State :=
  let x := seamOf s m
  seamState (setSeam s m { x with play := x.play.stop, held := x.ratio, trainFrom := none, inRangeFrom := none }) m .hold

/-- A measured ratio within 100 ppm of the held one (R121). -/
def nearHeld (r held : Nat) : Bool := decide (((r : Int) - held).natAbs * 10000 ≤ held)

/-- The trigger that stands first acts (Table 05-2). The re-anchor of HOLD counts no SLIPS and raises no SLIP, and the
ratio just measured is the one in use from then on (DESIGN CHOICE, log entry 98). -/
def seamAct (s : State) (m : Nat) : State :=
  let x := seamOf s m
  let s := setSeam s m { x with trig := none }
  match x.state, x.trig with
  | .training, some .stop => setSeam s m { seamOf s m with trainFrom := none }
  | .training, some .trainEnd => if seamWithin s m x.ratio 20 then seamRun s m else seamRange s m
  | .running, some .stop => seamHold s m
  | .running, some .jump => if seamWithin s m x.ratio 20 then seamReanchor s m else seamRange s m
  | .running, _ => if seamWithin s m x.ratio 20 then s else seamRange s m
  | .hold, some (.ratio r) =>
    if nearHeld r x.held then seamRun (setSeam s m { seamOf s m with ratio := r }) m
    else seamState (setSeam s m { seamOf s m with ratio := r, trainFrom := some s.now }) m .training
  | .range, some .recover => seamRun s m
  | .range, some .stop => seamHold s m
  | _, _ => s

/-- The windows a seam runs: TRAIN once input arrives, 20 ms in HOLD from the return of the samples on, TRAIN inside 1.5 %
in RANGE (R121, Table 05-2). -/
def seamTimers (s : State) (m : Nat) : State :=
  let x := seamOf s m
  match x.state with
  | .training => if x.trainFrom.isNone ∧ !x.groupHeld ∧ !seamStopped s m then setSeam s m { x with trainFrom := some s.now } else s
  | .hold =>
    if !seamStopped s m then (if x.trainFrom.isNone then setSeam s m { x with trainFrom := some s.now } else s)
    else setSeam s m { x with trainFrom := none }
  | .range =>
    if seamWithin s m x.ratio 15 then (if x.inRangeFrom.isNone then setSeam s m { x with inRangeFrom := some s.now } else s)
    else setSeam s m { x with inRangeFrom := none }
  | _ => s

/-- SEAM_TRAIN_END. -/
def seamTrainEnd (s : State) (m : Nat) : State :=
  let x := seamOf s m
  match x.trainFrom with
  | some t => if x.state = .training ∧ t + seamTrain s ≤ s.now then seamTrig s m .trainEnd else s
  | none => s

/-- SEAM_RATIO_MEASURED: the 20 ms after input returned are over (R121). On a standby the active unit decides (R123). -/
def seamMeasured (s : State) (m r : Nat) : State :=
  let x := seamOf s m
  match x.trainFrom with
  | some t => if !mcMirrors s ∧ x.state = .hold ∧ t + 20000000 ≤ s.now then seamTrig s m (.ratio r) else s
  | none => s

/-- SEAM_RANGE_RECOVER. -/
def seamRecover (s : State) (m : Nat) : State :=
  let x := seamOf s m
  match x.inRangeFrom with
  | some t => if x.state = .range ∧ t + seamTrain s ≤ s.now then seamTrig s m .recover else s
  | none => s

/-! ## Enabling and disabling -/

/-- The clock group of a seam is in RATE_FAULT, which holds it in TRAINING (R140). -/
def seamHeldBack (s : State) (m : Nat) : Bool :=
  (List.range 8).any fun g => (groupOf s g).state == .rateFault && (seamsOf s g).contains m

/-- A seam is enabled: OFF to TRAINING (Table 05-2), with the settings that are due at its boundary; an enabled one
takes the class. -/
def seamOn (s : State) (m cls seq : Nat) : State :=
  let s := landReg s .SM_W0 m
  let x := seamOf s m
  if x.enabled then setSeam s m { x with cls := cls }
  else
    let s := setSeam s m { enabled := true, cls := cls, seq := seq, slips := x.slips, trainFrom := some s.now }
    let s := if seamHeldBack s m then setSeam s m { seamOf s m with groupHeld := true, trainFrom := none } else s
    seamState s m .training

/-- Disabled, or its input deleted or shed: zero, OFF. -/
def seamOff (s : State) (m : Nat) : State :=
  let x := seamOf s m
  if x.enabled then
    let s := seamState s m .off
    if x.slips = 0 then s.setRb fun r => { r with seams := Tbl.del r.seams m } else setSeam s m { slips := x.slips }
  else s

def scOn (s : State) (c cls seq : Nat) : State :=
  let x := convOf s c
  if x.enabled then setConv s c { x with cls := cls } else setConv s c { enabled := true, cls := cls, seq := seq }

def scOff (s : State) (c : Nat) : State := s.setRb fun r => { r with convs := Tbl.del r.convs c }

/-! ## Samples through a bridge (R116, R119) -/

/-- A bridge's samples are a function of the input around the instant that lies its latency back, and of nothing else; no
input, no output (log entry 20). -/
def through (f : List Int → BitVec 24) (window : List Int) : Int := if window.all (· == 0) then 0 else (f window).toInt

/-- The `len` samples up to sample `k` of a block, with those before it. -/
def windowAt (len : Nat) (hist blk : List Int) (k : Nat) : List Int :=
  let xs := hist ++ blk.take (k + 1)
  xs.drop (xs.length - len)

/-- The samples kept from one block to the next. -/
def keepLast (len : Nat) (hist blk : List Int) : List Int :=
  let xs := hist ++ blk
  xs.drop (xs.length - len)

/-- Input samples in twice a latency of `lat` samples at 48 kHz: the window that centres on the input instant (R116,
R119). -/
def windowLen (lat hz : Nat) : Nat := 2 * lat * hz / 48000

/-- The 48 kHz block of an input bridge, from an input block at a rate of `hz`. -/
def bridgeIn (f : Nat → List Int → BitVec 24) (lat hz : Nat) (hist blk : List Int) : List Int :=
  (List.range 6).map fun k => through (f k) (windowAt (windowLen lat hz) hist blk (k * blk.length / 6))

/-- `n` samples of an output bridge, from a block at 48 kHz. -/
def bridgeOut (f : Nat → List Int → BitVec 24) (lat n len : Nat) (hist blk : List Int) : List Int :=
  (List.range len).map fun k => through (f k) (windowAt (2 * lat) hist blk (min 5 (6 * k / max 1 n)))

/-- The input block of an input bridge: a lane slot or a stream channel; on MC0 a slot or channel that delivers nothing
delivers zeros (R133, R188). -/
def bridgeBlock (s : State) (w : Word) : List Int :=
  let i := fld w 16 12; let sub := fld w 0 6
  match fld w 28 4 with
  | 1 => (match Tbl.get? s.ln.inBlk (32 * i + sub) with
    | some b => b
    | none => if cgSync s (i / 8) then List.replicate (groupLen s (i / 8)) 0 else [])
  | 2 =>
    let b := (rxOf s i).blk
    if b.isEmpty ∧ !rxForeign s i then List.replicate (perStitch (rxRate s i)) 0 else b.map fun f => f.getD sub 0
  | _ => []

/-- Samples of a block that goes out on a foreign clock: enough for one that runs 2 % fast (R117), and one more. -/
def spare (n : Nat) : Nat := n + n / 50 + 3

/-! ## At a stitch boundary -/

/-- A destination a bridge of DIR 1 carries is gone (R115). -/
def bridgeLost (s : State) (w1 : Word) (dir : Nat) : Bool := dir == 1 && (Tbl.get? s.mix.dests (fld w1 0 11)).isNone

/-- The nominal samples of a seam's foreign clock in this stitch. -/
def seamLen (s : State) (m : Nat) : Nat := samplesIn (rateHz (seamRate s m)) s.mix.stitch

/-- The time since the last sample instant of a time base at a rate of `hz`, in ns. -/
def tbAge (s : State) (k hz : Nat) : Nat := tns s k * hz % 1000000000 / hz

/-- The time since the last tack of a seam's foreign clock, in ns: a frame start of its lane group, a presentation instant
of its stream, which for an ACR stream is one of the recovered clock, or a sample instant of its time base (R118). -/
def seamAge (s : State) (m : Nat) : Nat :=
  let hz := rateHz (seamRate s m)
  let w := rd s .SM_W1 m
  let r := fld w 16 12
  if ff s .SM_W0_DIR m = 1 ∧ ff s .SM_W0_CLKKIND m = 1 then tbAge s (ff s .SM_W0_CLK m) hz
  else if ff s .SM_W0_DIR m = 0 ∧ fld w 28 4 = 2 then
    (if rxAcr s r then (rxOf s r).acrFrac * 125000 / 2 ^ 32 % (1000000000 / hz) else tbAge s (rxTb s r) hz)
  else s.now - (seamHeard s m).getD s.now

/-- The instant at which the input of a seam or its output stands against the boundary that is now, in 1/hz ns: for an
input seam the last sample that has come, a frame one stitch after its start, a stream's sample at its presentation
(R124); for an output seam the first sample of its block, on a lane group that of the stitch after this one (R136), on a
stream the one before the position nearest to the boundary (R219). -/
def seamLead (s : State) (m : Nat) : Int :=
  let hz := rateHz (seamRate s m)
  let w := rd s .SM_W1 m
  let r := fld w 16 12
  let at_ (tb : Nat) (p : Int) : Int := p * 1000000000 - (tns s tb * hz : Nat)
  if ff s .SM_W0_DIR m = 0 then
    if fld w 28 4 = 2 then
      (if rxAcr s r then (125000 * hz : Nat) - 1000000000 - ((rxOf s r).acrFrac * 125000 * hz / 2 ^ 32 : Nat)
      else at_ (rxTb s r) ((rxOf s r).read + offPos (rxRate s r) (rxOf s r).off - 1 : Nat))
    else 125000 * hz - 1000000000 - (seamAge s m * hz : Nat)
  else if ff s .SM_W0_CLKKIND m = 1 then
    let tb := ff s .SM_W0_CLK m
    at_ tb ((nearestPos (tbOf s tb).t hz : Nat) - 1)
  else 1000000000 - ((seamAge s m + 125000) * hz % 1000000000 : Nat)

/-- How many of the latest input samples come after the window of output sample `k`, and where the instant on which the
window centres, 32 samples at 48 kHz before that of the output sample, lies between two of them (R119). The window
reaches 24 samples at 48 kHz to either side (log entry 20). -/
def seamAfter (s : State) (m k : Nat) : Nat × Nat :=
  let hz := rateHz (seamRate s m)
  if ff s .SM_W0_DIR m = 0 then
    let d : Int := 6 * seamLead s m + (1000000 - 125000 * (k : Int)) * hz
    let n := (ceilDiv d 6000000000).toNat
    (n, ((n : Int) * 6000000000 - d).toNat)
  else
    let unit : Int := (hz : Int) * 1000000
    let d : Int := 13 * unit - (seamLead s m + (k : Int) * 1000000000) * 48
    let n := (ceilDiv d unit).toNat
    (n, ((n : Int) * unit - d).toNat)

/-- The `len` samples that end before the last `after` ones. -/
def windowBefore (len after : Nat) (xs : List Int) : List Int :=
  let ys := xs.take (xs.length - after)
  ys.drop (ys.length - len)

/-- The block of a running seam: 32 samples at 48 kHz behind its input, whatever its ratio and its phase (R119). -/
def seamRaw (s : State) (m : Nat) : List Int :=
  let x := seamOf s m
  let dir := ff s .SM_W0_DIR m
  let hz := rateHz (seamRate s m)
  let w := rd s .SM_W1 m
  let xs := x.hist ++ if dir = 0 then bridgeBlock s w else dstBlock s (fld w 0 11)
  let len := if dir = 0 then hz / 1000 else 48
  (List.range (if dir = 0 then 6 else spare (seamLen s m))).map fun k =>
    let a := seamAfter s m k
    through (Config.seamSample dir (seamRate s m) x.ratio a.2 (6 * s.mix.stitch + k)) (windowBefore len a.1 xs)

/-- The last sample that a seam has sent: what its group or its stream took of its block (R119). -/
def seamLast (s : State) (m : Nat) : Int :=
  let x := seamOf s m
  if ff s .SM_W0_DIR m = 1 then x.out.getD (seamLen s m - 1 + ff s .SM_W0_CLKKIND m) 0 else lastOf x.out

/-- The block of a seam with the fade or ramp of its state (R120 to R122). -/
def seamBlock (s : State) (m : Nat) : State :=
  let x := seamOf s m
  let hz := rateHz (seamRate s m)
  let dir := ff s .SM_W0_DIR m
  let raw := if x.state = .running then seamRaw s m else []
  let n := if dir = 0 then 6 else seamLen s m
  setSeam s m { x with
    out := playAt x.play n raw (seamLast s m), play := x.play.next
    hist := if dir = 0 then keepLast (hz / 500) x.hist (bridgeBlock s (rd s .SM_W1 m))
      else keepLast 80 x.hist (dstBlock s (fld (rd s .SM_W1 m) 0 11)) }

/-- The tack of a seam's foreign clock in the time base of MC0's boundaries (R118). -/
def foreignTack (s : State) (m : Nat) : Nat := (tack s (mediaTb s 0) + 2 ^ 32 - seamAge s m % 2 ^ 32) % 2 ^ 32

/-- What the estimator compares: the foreign tack against the tack of the boundary, which a step moves equally (R118). -/
def tackLead (s : State) (m : Nat) : Int := sext 32 (foreignTack s m + 2 ^ 32 - tack s (mediaTb s 0))

/-- The estimate of the stitch (R118), one step of the second-order loop of bandwidth BW (log entry 29); a stopped seam
holds its ratio. A standby's own estimator runs in shadow (R123). -/
def seamEstimate (s : State) (m : Nat) : State :=
  let x := seamOf s m
  let ratio (r l : Nat) : Nat := (Config.seamRatio (ff s .SM_W0_BW m) (seamRate s m) r l (tackLead s m)).toNat
  let second (r l : Nat) : Nat := (Config.seamSecond (ff s .SM_W0_BW m) (seamRate s m) r l (tackLead s m)).toNat
  if x.state = .hold ∨ seamStopped s m then s
  else if mcMirrors s then
    setSeam s m { x with shadow := ratio x.shadow x.shadowLoop, shadowLoop := second x.shadow x.shadowLoop }
  else setSeam s m { x with ratio := ratio x.ratio x.loop, loop := second x.ratio x.loop }

/-- One enabled seam at a boundary: trigger, timers, block; the estimate of this boundary is in use from the next one on,
when both units of a pair have it (R123). -/
def seamStep (s : State) (m : Nat) : State :=
  if bridgeLost s (rd s .SM_W1 m) (ff s .SM_W0_DIR m) then seamOff s m
  else
    seamEstimate (seamBlock (seamTimers (seamAct s m) m) m) m

/-- One enabled converter at a boundary (R116). -/
def convStep (s : State) (c : Nat) : State :=
  let x := convOf s c
  let w := rd s .SC_W1 c
  let rate := fv s .SC_W0_RATE c
  let hz := rateHz rate
  let dir := fv s .SC_W0_DIR c
  if bridgeLost s w dir then scOff s c
  else
    let f (k : Nat) := Config.convSample dir rate k
    let n := samplesIn hz s.mix.stitch
    let blk := if dir = 0 then bridgeBlock s w else dstBlock s (fld w 0 11)
    let at_ := if dir = 0 then fun k => f (6 * s.mix.stitch + k) else fun k => f (hz * s.mix.stitch / 8000 + k)
    let raw := if dir = 0 then bridgeIn at_ 16 hz x.hist blk else bridgeOut at_ 16 n n x.hist blk
    setConv s c { x with
      out := playAt x.play (if dir = 0 then 6 else n) raw (lastOf x.out), play := x.play.next
      hist := keepLast (if dir = 0 then windowLen 16 hz else 32) x.hist blk }

/-- The bridges of one direction at a boundary: output bridges before the lanes and streams take their blocks, input
bridges once their inputs are there. -/
def bridgeBoundary (s : State) (dir : Nat) : State :=
  let s := forEach (s.rb.seams.map (·.1)) s fun m s =>
    if (seamOf s m).enabled ∧ ff s .SM_W0_DIR m = dir then seamStep s m else s
  forEach (s.rb.convs.map (·.1)) s fun c s =>
    if (convOf s c).enabled ∧ fv s .SC_W0_DIR c = dir then convStep s c else s

/-- Six free samples (log entry 28). -/
def freeBlock (f : Nat → BitVec 24) : Nat → State → List Int → List Int × State
  | 0, s, acc => (acc.reverse, s)
  | n + 1, s, acc => let (k, s) := draw s; freeBlock f n s ((f k).toInt :: acc)

/-- The sources that replay a spool take what is committed there at the boundary: the cursor moves by a free number of
words, as far as the item reaches, and an item read to its end is finished (R301, R306; log entry 28). -/
def replayTake (s : State) (n : Nat) : State :=
  match internalHead s n with
  | none => s
  | some _ =>
    let (k, s) := draw s
    let w := (Config.replayWords k).toNat
    let x := spOf s n
    if x.remain ≤ w then internalFinish s n else setSp s n { x with pos := x.pos + w }

/-- Replay inputs named by the sources: their spools are read, and each has six free samples (log entry 28). -/
def replayBoundary (s : State) : State :=
  let sels := (s.mix.sources.foldl (fun a e => a ++ (e.2.sides.map fun x => x.what.toNat)) []).filter fun w => w / 2 ^ 28 == 6
  let s := forEach ((sels.map fun w => w / 65536 % 4096).eraseDups) s fun n s => replayTake s n
  let s := s.setRb fun r => { r with replay := [] }
  forEach sels.eraseDups s fun w s =>
    let (b, s) := freeBlock Config.replaySample 6 s []
    s.setRb fun r => { r with replay := Tbl.put r.replay w b }

def SeamState.num : SeamState → Nat
  | .off => 0 | .training => 1 | .running => 2 | .hold => 3 | .range => 4

end Sys2Proof.Machine
end

