-- ==== Sys2Proof/Machine/Engine.lean ====
section
/-! DEFINITION. One stitch of engine work (spec/03 R63 to R71, R77, R84; spec/02 R54). -/

namespace Sys2Proof.Machine

/-! ## Gates and ducking at a boundary (R70, R71, R77) -/

/-- The key gate of one talk assignment follows its reference over MIX_KEY_RAMP; one that ramps out keeps its ramp. -/
def gateTalk (s : State) (t : Talk) : Talk :=
  if t.key / 16384 = 0 ∨ t.dying then t
  else
    let isOn := refOn s t.key
    if t.gateOpen = isOn then t
    else { t with gateOpen := isOn, eff := t.eff.to (if isOn then (t.gain : Int) else 0) (rdF s .MIX_KEY_RAMP).toNat }

/-- Every key gate at a boundary. -/
def keyGates (s : State) : State :=
  s.setMix fun m => { m with sources := Tbl.mapV m.sources fun _ x => { x with talks := x.talks.map (gateTalk s) } }

/-- A destination is ducked at this boundary (R70). -/
def duckedNow (s : State) (d : Nat) (x : Dst) : Bool :=
  refOn s x.duckAct || s.mix.buses.any fun b => b.2.cls == 0 && refOn s b.2.act && hearsBus s.mix d b.1

/-- Ducking starts or ends (R71). -/
def duckStep (s : State) (d : Nat) (x : Dst) : Dst :=
  let n := duckedNow s d x
  if n = x.ducked then x
  else if n then { x with ducked := true, duck := x.duck.to x.duckGain 1 }
  else { x with ducked := false, duck := x.duck.to 16384 x.duckRel }

/-- Activity references and ducking at a boundary. -/
def duckAll (s : State) : State :=
  s.setMix fun m => { m with
    buses := Tbl.mapV m.buses fun _ b => { b with active := refOn s b.act }
    dests := Tbl.mapV m.dests (duckStep s) }

/-! ## Sums (R63 to R68) -/

/-- A sample of a source's block. -/
def sampleOf (xs : Tbl (List Int)) (src k : Nat) : Int := (Tbl.getD xs src []).getD k 0

/-- The talk product of a source onto a bus, formed once (R63). -/
def talkProd (m : Mix) (xs : Tbl (List Int)) (k src bus : Nat) : Int :=
  match m.talk? src bus with
  | some t => sampleOf xs src k * t.eff.val k
  | none => 0

/-- The bus sum (R64). -/
def busSum (m : Mix) (xs : Tbl (List Int)) (k bus : Nat) : Int :=
  m.sources.foldl (fun a e => a + talkProd m xs k e.1 bus) 0

/-- A bus without the contributions of an own-source list (R65): a source that the list names twice is taken out once
(DEDUCED from R65 and R66, log entry 92). -/
def unpick (m : Mix) (xs : Tbl (List Int)) (k bus : Nat) (own : List Nat) : Int :=
  own.eraseDups.foldl (fun v o => v - talkProd m xs k o bus) (busSum m xs k bus)

/-- The class of a bus (Table 03-10). -/
def busCls (m : Mix) (b : Nat) : Nat := (Tbl.getD m.buses b {}).cls

/-- One own-list variant of a listener: priority and other parts (R65). -/
def variantSum (m : Mix) (xs : Tbl (List Int)) (k : Nat) (subs : List Sub) (own : List Nat) : Int × Int :=
  subs.foldl (fun a u =>
    let c := unpick m xs k u.bus own * u.ramp.val k
    if busCls m u.bus = 0 then (a.1 + c, a.2) else (a.1, a.2 + c)) (0, 0)

/-- A listener's output: one variant as it is, several blended with one rounding (R76, R84). -/
def listenerOut (m : Mix) (xs : Tbl (List Int)) (k l : Nat) : Int × Int :=
  match Tbl.get? m.listeners l with
  | none => (0, 0)
  | some x =>
    match x.sides with
    | [v] => variantSum m xs k x.subs v.what
    | vs =>
      let a := vs.foldl (fun a v =>
        let c := variantSum m xs k x.subs v.what
        (a.1 + c.1 * v.w.val k, a.2 + c.2 * v.w.val k)) (0, 0)
      (rhe a.1 14, rhe a.2 14)

/-- What the crosspoints bring to a destination (R67). -/
def xpSums (m : Mix) (xs : Tbl (List Int)) (k d : Nat) : Int × Int :=
  m.xps.foldl (fun a e =>
    if e.2.dst = d then
      let q := sampleOf xs e.2.src k * e.2.ramp.val k * 2 ^ 28
      if e.2.cls = 0 then (a.1 + q, a.2) else (a.1, a.2 + q)
    else a) (0, 0)

/-- The hem word of a destination's sample (R67, R68). -/
def hemWord (m : Mix) (xs : Tbl (List Int)) (d : Nat) (x : Dst) (k : Nat) : Int :=
  let y := x.sides.foldl (fun a f =>
    let l := listenerOut m xs k f.what
    (a.1 + l.1 * f.w.val k, a.2 + l.2 * f.w.val k)) (xpSums m xs k d)
  rhe ((y.1 * 16384 + y.2 * x.duck.val k) * x.gain.val k) 46

/-! ## Source chains of a stitch -/

/-- The input selectors of a source's sides, each with its raw block. -/
def rawsOf (s : State) (k : Nat) : List (Word × List Int) :=
  match Tbl.get? s.mix.sources k with
  | some x => x.sides.map fun sd => (sd.what, inputBlock s sd.what)
  | none => []

/-- The last sample at which a source paired with this one found the preamble through the pair (R95). -/
def pairedFrom (s : State) (k : Nat) : Option Nat :=
  s.mix.sources.foldl (fun b e =>
    if e.1 ≠ k ∧ ff s .SCH_W3_PAIR_EN e.1 = 1 ∧ ff s .SCH_W3_PAIR e.1 = k then
      laterOf b (naFind s (chainOf s e.1) e.1 (rawsOf s)).2
    else b) none

/-- The chain of one source runs the stitch (R87 to R96). -/
def runChain (s : State) (k : Nat) (x : Source) : Chain :=
  let c := match Tbl.get? s.dyn.chains k with | some c => c | none => newChain s k
  let ins := x.sides.map fun sd => { what := inputBlock s sd.what, w := sd.w : Side (List Int) }
  naStitch s k (chainBlock s k (chainSettings s k c) ins) (rawsOf s) (pairedFrom s k)

/-- Every chain runs the stitch; chains of sources that are gone are dropped. -/
def runChains (s : State) : State :=
  s.setDyn fun y => { y with chains := Tbl.mapV s.mix.sources (runChain s) }

/-! ## Destinations of a stitch -/

/-- The output after a missed fence or under the thimble's mute (R54, R449). The ramp after a missed fence also scales the
fade of a hem disagreement (R102; DESIGN CHOICE, log entry 97). -/
def playOut (s : State) (d : Nat) (x : Dst) (f : FenceMute) (out : List Int) : List Int :=
  match s.saf.mute with
  | 0 => (match f with | .ramp r => rampOut r out | _ => out)
  | 1 => underCeil s d (fadeBlock (lastOf x.out))
  | _ => zeros6

/-- One destination: hem words, dual hem, fence ramp (R54, R84); `errs` are a fault's errors in copies A and B. -/
def runDst (xs : Tbl (List Int)) (errs : List (Nat × List Int × List Int)) (d : Nat) (s : State) : State :=
  match Tbl.get? s.mix.dests d with
  | none => s
  | some x =>
    let h := (List.range 6).map (hemWord s.mix xs d x)
    let e := match errs.find? fun e => e.1 == d with | some e => e.2 | none => ([], [])
    let (out, s) := hemBlock s d h e.1 e.2
    let f := match x.fence with
      | .zero => .ramp (Ramp.to {} 16384 (rdF s .MIX_RAMP_DEF).toNat)
      | f => f
    s.setMix fun m => { m with
      dests := Tbl.put m.dests d { x with fence := f, out := playOut s d x f out, prev := lastOf x.out } }

/-- The hems of destinations that exist. -/
def keepHems (s : State) : State :=
  s.setDyn fun y => { y with hems := Tbl.keep y.hems fun d _ => (Tbl.get? s.mix.dests d).isSome }

/-- One stitch of engine work (R84), with the detectors that watch it (R108). -/
def engine (s : State) (errs : List (Nat × List Int × List Int)) : State :=
  let s := keepHems (runChains s)
  let xs := Tbl.mapV s.dyn.chains fun _ c => c.x
  let s := forEach (s.mix.dests.map (·.1)) s (runDst xs errs)
  let s := forEach (s.dyn.vox.map (·.1)) s fun v s => if (voxOf s v).enabled then voxTick s v else s
  let s := if s.saf.mute = 1 then s.setSaf fun y => { y with mute := 2 } else s
  s.setMix fun m => { m with ran := true }

end Sys2Proof.Machine
end

