-- ==== Sys2Proof/Machine/Fabric.lean ====
section
/-! DEFINITION. The fabric: demand, pace, the admission test, VCORE control, the fence and shedding (spec/02). -/

namespace Sys2Proof.Machine

/-! ## Curves (R32 to R36) -/

/-- The catalog curve G(V) at a step code (Table 02-2). -/
def gCurve (c : Nat) : Nat :=
  if c < 10 then 800000 + 25000 * c
  else if c < 30 then 1050000 + 25000 * (c - 10)
  else if c < 50 then 1550000 + 22500 * (c - 30)
  else if c < 70 then 2000000 + 20000 * (c - 50)
  else 2400000 + 15000 * (c - 70)

/-- The trimmed curve T(V), a factory value at least G(V) (R33, log entry 4). -/
def tCurve (c : Nat) : Nat := max (gCurve c) (Config.factoryTrim c).toNat

def needleOf (s : State) (k : Nat) : Needle := Tbl.getD s.fab.needles k {}
def setNeedle (s : State) (k : Nat) (x : Needle) : State := s.setFab fun f => { f with needles := Tbl.put f.needles k x }

/-- The needle count N (R34). -/
def needlesOk (s : State) : Nat := ((List.range 32).filter fun k => (needleOf s k).inService).length

/-- The effective guarantee G_N(V) (R34). -/
def gEff (s : State) (c : Nat) : Nat := gCurve c * needlesOk s / 32

def vCap (s : State) : Nat := fv s .FAB_VCAP_CAP
def res0 (s : State) : Nat := fv s .FAB_RESERVE0_RES0

/-- Saved by the loader while nothing is admitted yet (Table 02-9). -/
def fabReady (s : State) : Bool := s.glb.mode != .starting

/-! ## Demand (R31) -/

/-- An object that costs work besides the mix: kind, index, class, admission sequence number, cost, and that it is
disabled and only fades out. -/
structure Load where
  kind : Nat
  index : Nat
  cls : Nat
  seq : Nat
  wu : Nat
  out : Bool := false
  deriving DecidableEq, Repr

def ObjKind.num : ObjKind → Nat
  | .rx => 9 | .tx => 10 | .meter => 7 | .vox => 8 | .seam => 5 | .conv => 6

/-- What an enable of an object costs (Table 02-1). -/
def objCost (s : State) (o : ObjKind) (i : Nat) : Nat :=
  match o with
  | .rx => 6 * counted (rxRate s i) (rxChans s i)
  | .tx => 6 * counted (txRate s i) (txChans s i)
  | .meter => 12 | .vox => 12 | .seam => 600 | .conv => 200

/-- The enabled objects of the blocks beside the mix; a receive stream counts until its fade has ended (R42), a transmit
stream until it is OFF. -/
def loads (s : State) : List Load :=
  (s.rb.seams.filter fun e => e.2.enabled).map (fun e => ⟨5, e.1, e.2.cls, e.2.seq, 600, false⟩) ++
  s.rb.convs.map (fun e => ⟨6, e.1, e.2.cls, e.2.seq, 200, false⟩) ++
  (s.dyn.meters.filter fun e => e.2.enabled).map (fun e => ⟨7, e.1, e.2.cls, e.2.seq, 12, false⟩) ++
  (s.dyn.vox.filter fun e => e.2.enabled).map (fun e => ⟨8, e.1, e.2.cls, e.2.seq, 12, false⟩) ++
  (s.str.rx.filter fun e => e.2.enabled || decide (s.mix.stitch < e.2.freeAt)).map
    (fun e => ⟨9, e.1, e.2.cls, e.2.seq, objCost s .rx e.1, !e.2.enabled⟩) ++
  (s.str.tx.filter fun e => e.2.enabled).map (fun e => ⟨10, e.1, e.2.cls, e.2.seq, objCost s .tx e.1, false⟩)

/-- An admitted enable counts from its decision (R31): a new object is added, an enabled one takes its new class. -/
def addEnable (s : State) (ls : List Load) (e : Enable) : List Load :=
  if !e.on then ls
  else if ls.any fun l => l.kind == e.obj.num && l.index == e.index && !l.out then
    ls.map fun l => if l.kind = e.obj.num ∧ l.index = e.index ∧ !l.out then { l with cls := e.cls } else l
  else ls ++ [⟨e.obj.num, e.index, e.cls, e.seq, objCost s e.obj e.index, false⟩]

/-- Every load, admitted ones included. -/
def allLoads (s : State) : List Load := s.mix.enables.foldl (addEnable s) (loads s)

/-- What a set takes effect under. -/
def setCtx (s : State) (k : Nat) (before : Mix) : ApplyCtx :=
  let x := Tbl.getD s.mix.sets k {}
  { ramp := (rdAt s .MIX_RAMP_DEF).toNat, keyRamp := (rdAt s .MIX_KEY_RAMP).toNat, before := before, heard := before.tables
    seqOf := seqIn x.seq x.created, keyOn := refOn s }

/-- The changes of a set that stand: one whose object was shed before it came to be changes nothing (R83). -/
def BSet.stands (x : BSet) : List Rec :=
  if x.state = .pending ∨ x.state = .armed then
    x.recs.map fun r => if x.loses r then { r with w0 := 0 } else r
  else x.recs

/-- The tables a set would leave. -/
def withSet (s : State) (m : Mix) (k : Nat) : Mix := applyRecs (setCtx s k m) (Tbl.getD s.mix.sets k {}).stands m

/-- The tables after the pending commits (R79). -/
def pendingMix (s : State) : Mix := s.mix.commits.foldl (fun m c => withSet s m c.set) s.mix

/-- The demand of tables of the mix beside loads. -/
def mixDemand (m : Mix) (ls : List Load) : Demand := m.demand (ls.foldl (fun d l => d.add l.cls l.wu) {})

def Demand.plus (a b : Demand) : Demand := ⟨a.d0 + b.d0, a.d1 + b.d1, a.d2 + b.d2, a.d3 + b.d3⟩
def Demand.minus (a b : Demand) : Demand := ⟨a.d0 - b.d0, a.d1 - b.d1, a.d2 - b.d2, a.d3 - b.d3⟩

/-- The armed sets: admitted for a time that has not come. -/
def armedSets (s : State) : List Nat :=
  s.mix.sets.filterMap fun e =>
    if e.2.state = .armed ∧ !s.mix.commits.any (fun c => c.set == e.1) then some e.1 else none

/-- The tables with every object of a pending commit and of an armed set. -/
def heldMix (s : State) : Mix := (armedSets s).foldl (withSet s) (pendingMix s)

/-- The added demand that is held for the armed sets (R31, R46). What a set adds to a class is held in it; what it takes
from another class is not given back before it takes effect (DESIGN CHOICE, log entry 53). -/
def heldDemand (s : State) : Demand :=
  let m := pendingMix s
  let base := mixDemand m []
  (armedSets s).foldl (fun d k => d.plus ((mixDemand (withSet s m k) []).minus base)) {}

/-- The added demand of a configuration that is decided and waits for its boundary (R31). -/
def netDemand (s : State) : Demand := match s.pl.net with | some x => x.adds | none => {}

/-- Demand that is held beside the tables: for armed sets and for a decided configuration. -/
def keptDemand (s : State) : Demand := (heldDemand s).plus (netDemand s)

/-- Demand by class (R31). -/
def demand (s : State) : Demand := (mixDemand (pendingMix s) (allLoads s)).plus (keptDemand s)

/-! ## The admission test (R39, R40, R50) -/

/-- The demand that counts against the limit (R40). -/
def Demand.against (d : Demand) (res : Nat) : Nat := d.low + max d.d0 res

/-- R40 for work of classes 1 to 3 and for class-0 work alone. -/
def fits (s : State) (d : Demand) (res g : Nat) (only0 : Bool) : Bool :=
  decide (11 * (if only0 then d.all else d.against res) ≤ 10 * gEff s g)

/-- The lowest step code from `c` on, at most `n` further, at which the work fits. -/
def stepFrom (s : State) (need : Nat) : Nat → Nat → Nat
  | 0, c => c
  | n + 1, c => if 11 * need ≤ 10 * gEff s c then c else stepFrom s need n (c + 1)

/-- The selected step for a demand (R50): Vcap where none qualifies. -/
def stepFor (s : State) (d : Demand) : Nat := stepFrom s (d.against (res0 s)) (vCap s) 0

def selected (s : State) : Nat := stepFor s (demand s)

/-- A new cap is refused below the step the present demand needs (R49); nothing is refused that is no lower. -/
def capFails (s : State) (c : Nat) : List (Code × Bool) :=
  [(.badValue, decide (90 < c)), (.noCapacity, decide (c < vCap s ∧ c < stepFor s (demand s)))]

/-- Checks of a write of RES0 (R39, Table 02-12). -/
def resFails (s : State) (r : Nat) : List (Code × Bool) :=
  [ (.badValue, decide (2454545 < r ∨ 10 * gCurve (vCap s) < 11 * r)),
    (.noCapacity, decide (res0 s < r) && !fits s (demand s) r (vCap s) false) ]

/-! ## VCORE control (R49 to R53, Table 02-5) -/

/-- The step VCORE has reached: on the way to a target it moves by one step of 10 mV each 10 µs (R51). -/
def vPresent (s : State) : Nat :=
  let f := s.fab
  let moved := (s.now - f.vAt) / 10000
  if f.vstate ≠ .raising then f.vnow
  else if f.vfrom ≤ f.vtarget then min f.vtarget (f.vfrom + moved) else max f.vtarget (f.vfrom - moved)

/-- VCORE starts up or down toward a target, from where it is: 1 mV/µs (R51). -/
def vRaise (s : State) (target : Nat) : State :=
  s.setFab fun f => { f with
    vstate := .raising, vnow := vPresent s, vfrom := vPresent s, vtarget := target, vAt := s.now, confirm := 0
    holdFrom := none }

/-- The controller at rest judges the selected step (R50, R52); in the fabric's safe state VCORE stays at Vcap (R454). -/
def vcoreEval (s : State) : State :=
  if !fabReady s || held s 1 then s
  else
    let sel := selected s
    match s.fab.vstate with
    | .steady =>
      if s.fab.vnow < sel then vRaise s sel
      else if sel < s.fab.vnow then s.setFab fun f => { f with vstate := .hold, holdFrom := some s.now }
      else s
    | .hold => if s.fab.vnow < sel then vRaise s sel else s
    | .lowering => if s.fab.vnow < sel then vRaise s sel else s
    | _ => s

/-- VCORE_SETTLED: the ramp of 10 µs a step is over. -/
def vcoreSettled (s : State) : State :=
  let f := s.fab
  let steps := ((f.vtarget : Int) - f.vfrom).natAbs
  if f.vstate = .raising ∧ f.vAt + 10000 * steps ≤ s.now then
    s.setFab fun f => { f with vstate := .confirming, vnow := f.vtarget, confirm := 0 }
  else s

/-- VCORE_HOLD_EXPIRE. -/
def holdExpire (s : State) : State :=
  match s.fab.holdFrom with
  | some t =>
    if s.fab.vstate = .hold ∧ t + 1000000000 * fv s .FAB_VHOLD_HOLD_S ≤ s.now then
      s.setFab fun f => { f with vstate := .lowering, holdFrom := none, vfrom := f.vnow, vtarget := min f.vnow (selected s), vAt := s.now }
    else s
  | none => s

/-- VCORE_STEP_DOWN (R52): one step while the selected step is below; STEADY when it is reached. -/
def stepDown (s : State) : State :=
  let f := s.fab
  let sel := selected s
  if f.vstate ≠ .lowering then s
  else if f.vnow ≤ sel then
    let s1 := s.setFab fun f => { f with vstate := .steady, vtarget := f.vnow }
    if f.vnow < f.vfrom then raise s1 .FAB_EVENT 8 else s1
  else if f.vAt + 10000 ≤ s.now then
    let v := f.vnow - 1
    let s1 := s.setFab fun f => { f with vnow := v, vAt := s.now, vtarget := min v sel }
    if v ≤ sel then raise (s1.setFab fun f => { f with vstate := .steady, vtarget := v }) .FAB_EVENT 8 else s1
  else s

/-! ## Shedding (R37, R38, R54 to R57, R448) -/

/-- The least class of a list, from a start. -/
def minCls (c : Nat) (cs : List Nat) : Nat := cs.foldl min c

/-- Meters and detectors of a source depend on it (R38; DESIGN CHOICE, log entry 56). -/
def srcWatch (s : State) (ls : List Load) (k : Nat) : List Load :=
  ls.filter fun l => (l.kind == 7 && l.index == k) ||
    (l.kind == 8 && ff s .VOX_W0_KIND l.index == 0 && ff s .VOX_W0_INPUT l.index == k)

/-- Meters, detectors and output bridges of a destination depend on it; a transmit stream carries channels of several
destinations and depends on none (R38; DESIGN CHOICE, log entry 56). -/
def dstWatch (s : State) (ls : List Load) (d : Nat) : List Load :=
  ls.filter fun l => (l.kind == 7 && l.index == 2048 + d) ||
    (l.kind == 8 && ff s .VOX_W0_KIND l.index == 1 && ff s .VOX_W0_INPUT l.index == d) ||
    (l.kind == 5 && fv s .SM_W0_DIR l.index == 1 && fld (rd s .SM_W1 l.index) 0 11 == d) ||
    (l.kind == 6 && fv s .SC_W0_DIR l.index == 1 && fld (rd s .SC_W1 l.index) 0 11 == d)

/-- The shedding class of a source (R38). -/
def srcEff (s : State) (ls : List Load) (k : Nat) (x : Source) : Nat :=
  minCls x.cls (x.talks.map (·.cls) ++ (s.mix.xps.filterMap fun e => if e.2.src = k then some e.2.cls else none) ++
    (srcWatch s ls k).map (·.cls))

/-- The shedding class of a destination (R38). -/
def dstEff (s : State) (ls : List Load) (d : Nat) (x : Dst) : Nat :=
  minCls x.cls ((s.mix.xps.filterMap fun e => if e.2.dst = d then some e.2.cls else none) ++ (dstWatch s ls d).map (·.cls))

/-- Sources with a side of a selector kind and index. -/
def fedBy (s : State) (kind i : Nat) : List (Nat × Source) :=
  s.mix.sources.filter fun e => e.2.sides.any fun sd => fld sd.what 28 4 == kind && fld sd.what 16 12 == i

/-- Input bridges whose INPUT names a receive stream. -/
def bridgesOn (s : State) (ls : List Load) (r : Nat) : List Load :=
  ls.filter fun l =>
    let w := if l.kind = 5 then rd s .SM_W1 l.index else rd s .SC_W1 l.index
    (l.kind == 5 && fv s .SM_W0_DIR l.index == 0 || l.kind == 6 && fv s .SC_W0_DIR l.index == 0) &&
      fld w 28 4 == 2 && fld w 16 12 == r

/-- The shedding class of a bridge: an input bridge carries its sources (R38). -/
def bridgeEff (s : State) (ls : List Load) (l : Load) : Nat :=
  let dir := if l.kind = 5 then fv s .SM_W0_DIR l.index else fv s .SC_W0_DIR l.index
  if dir = 1 then l.cls
  else minCls l.cls ((fedBy s (if l.kind = 5 then 3 else 4) l.index).map fun e => srcEff s ls e.1 e.2)

/-- The shedding class of a load (R38). -/
def loadEff (s : State) (ls : List Load) (l : Load) : Nat :=
  match l.kind with
  | 5 => bridgeEff s ls l
  | 6 => bridgeEff s ls l
  | 9 => minCls l.cls ((fedBy s 2 l.index).map (fun e => srcEff s ls e.1 e.2) ++
      (bridgesOn s ls l.index).map (bridgeEff s ls))
  | _ => l.cls

/-- An object that shedding may take: kind, index by Table 02-26, shedding class, sequence number. -/
structure Cand where
  kind : Nat
  index : Nat
  cls : Nat
  seq : Nat
  deriving DecidableEq, Repr

/-- Every object, with its shedding class. -/
def cands (s : State) (ls : List Load) : List Cand :=
  s.mix.sources.foldl (fun a e => a ++ ⟨0, e.1, srcEff s ls e.1 e.2, e.2.seq⟩ ::
    e.2.talks.map fun t => ⟨1, 16 * e.1 + t.slot, t.cls, t.seq⟩) [] ++
  s.mix.listeners.foldl (fun a e => a ++ e.2.subs.map fun u => ⟨2, 32 * e.1 + u.slot, u.cls, u.seq⟩) [] ++
  s.mix.xps.map (fun e => ⟨3, e.1, e.2.cls, e.2.seq⟩) ++
  s.mix.dests.map (fun e => ⟨4, e.1, dstEff s ls e.1 e.2, e.2.seq⟩) ++
  ls.map fun l => ⟨l.kind, l.index, loadEff s ls l, l.seq⟩

/-- The objects an object takes with it, itself first (R38). -/
def withDeps (s : State) (ls : List Load) (kind i : Nat) : List (Nat × Nat) :=
  let ofLoads (xs : List Load) : List (Nat × Nat) := xs.map fun l => (l.kind, l.index)
  let ofSrc (k : Nat) (x : Source) : List (Nat × Nat) :=
    (0, k) :: x.talks.map (fun t => (1, 16 * k + t.slot)) ++
      (s.mix.xps.filterMap fun e => if e.2.src = k then some (3, e.1) else none) ++ ofLoads (srcWatch s ls k)
  let ofFed (kd : Nat) (j : Nat) : List (Nat × Nat) := (fedBy s kd j).foldl (fun a e => a ++ ofSrc e.1 e.2) []
  let dir := if kind = 5 then fv s .SM_W0_DIR i else fv s .SC_W0_DIR i
  match kind with
  | 0 => (match Tbl.get? s.mix.sources i with | some x => ofSrc i x | none => [])
  | 4 => (4, i) :: (s.mix.xps.filterMap fun e => if e.2.dst = i then some (3, e.1) else none) ++ ofLoads (dstWatch s ls i)
  | 5 => (5, i) :: if dir = 0 then ofFed 3 i else []
  | 6 => (6, i) :: if dir = 0 then ofFed 4 i else []
  | 9 => (9, i) :: ofFed 2 i ++ (bridgesOn s ls i).foldl (fun a l =>
      a ++ (l.kind, l.index) :: ofFed (if l.kind = 5 then 3 else 4) l.index) []
  | _ => [(kind, i)]

/-- What an object of the mix costs (Table 02-1). -/
def mixCost (s : State) (kind i : Nat) : Nat :=
  match kind with
  | 0 => 120 | 1 => 6 | 3 => 6 | 4 => 180
  | 2 => 12 * max 1 (Tbl.getD s.mix.listeners (i / 32) {}).sides.length
  | _ => 0

/-- The object's own class and cost, which leave the demand with it. -/
def ownCost (s : State) (ls : List Load) (o : Nat × Nat) : Nat × Nat :=
  let m := s.mix
  match o.1 with
  | 0 => ((Tbl.getD m.sources o.2 {}).cls, mixCost s 0 0)
  | 1 => ((((Tbl.getD m.sources (o.2 / 16) {}).talks.find? fun t => t.slot == o.2 % 16).map (·.cls)).getD 2, 6)
  | 2 => ((((Tbl.getD m.listeners (o.2 / 32) {}).subs.find? fun t => t.slot == o.2 % 32).map (·.cls)).getD 2, mixCost s 2 o.2)
  | 3 => (((Tbl.get? m.xps o.2).map (·.cls)).getD 2, 6)
  | 4 => ((Tbl.getD m.dests o.2 {}).cls, 180)
  | _ => (((ls.find? fun l => l.kind == o.1 && l.index == o.2).map fun l => (l.cls, l.wu)).getD (2, 0))

def Demand.sub (d : Demand) (cls wu : Nat) : Demand :=
  match cls with
  | 0 => { d with d0 := d.d0 - wu }
  | 1 => { d with d1 := d.d1 - wu }
  | 2 => { d with d2 := d.d2 - wu }
  | _ => { d with d3 := d.d3 - wu }

/-- The order of shedding: class 3 before 2 before 1, newest first (R55). -/
def Cand.before (a b : Cand) : Bool := decide (b.cls < a.cls ∨ (a.cls = b.cls ∧ b.seq < a.seq))

/-- The candidate that goes next. -/
def nextShed (cs : List Cand) : Option Cand :=
  cs.foldl (fun b c => if c.cls = 0 then b else match b with
    | none => some c
    | some x => if c.before x then some c else b) none

/-- Shed objects, each with its dependents, until the work fits: objects taken, demand left. -/
def shedMore (s : State) (ls : List Load) (enough : Demand → Bool) : Nat → List Cand → Demand → List Cand → List Cand × Demand
  | 0, _, d, out => (out, d)
  | n + 1, cs, d, out =>
    if enough d then (out, d)
    else match nextShed cs with
      | none => (out, d)
      | some c =>
        let gone := (withDeps s ls c.kind c.index).filter fun o => cs.any fun x => x.kind == o.1 && x.index == o.2
        let d := gone.foldl (fun d o => let e := ownCost s ls o; d.sub e.1 e.2) d
        let taken := gone.filterMap fun o => cs.find? fun x => x.kind == o.1 && x.index == o.2
        shedMore s ls enough n (cs.filter fun x => !gone.contains (x.kind, x.index)) d (out ++ taken)

/-- One entry of SHED_LOG (Tables 02-25, 02-26). -/
def logShed (s : State) (e : ShedEntry) : State :=
  s.setFab fun f => { f with
    shedLog := Tbl.put f.shedLog f.shedNext e, shedNext := (f.shedNext + 1) % 64, shedCount := satInc 0xFFFF f.shedCount }

/-- Log a shed object: a stream by each of its channels (R60). -/
def logCand (s : State) (cause : Nat) (c : Cand) : State :=
  let one (s : State) (i : Nat) : State := logShed s { cls := c.cls, kind := c.kind, cause := cause, index := i, seq := c.seq % 2 ^ 32 }
  match c.kind with
  | 9 => forEach (List.range (rxChans s c.index)) s fun k s => one s (64 * c.index + k)
  | 10 => forEach (List.range (txChans s c.index)) s fun k s => one s (64 * c.index + k)
  | _ => one s c.index

/-- The objects already on their way out (R55). -/
def shedding (s : State) : List (Nat × Nat) := s.shed.pend.foldl (fun a p => a ++ p.2) []

/-- The place in its set of an object that a pending or armed set is still to create. -/
def BSet.placeOf (x : BSet) (seq : Nat) : Option Nat :=
  if x.seq ≤ seq ∧ (x.state = .pending ∨ x.state = .armed) then x.created[seq - x.seq]? else none

/-- An object that is admitted and not yet there: one that a waiting set creates, or whose enable waits. -/
def heldObject (s : State) (c : Cand) : Bool :=
  if c.kind < 5 then s.mix.sets.any fun e => (e.2.placeOf c.seq).isSome
  else s.mix.enables.any fun e => e.on && e.obj.num == c.kind && e.index == c.index && e.seq == c.seq

/-- Shedding takes an object before it comes to be: its change or its enable is dropped, and its demand is free at once,
for there is no ramp to wait for (R55, R83; DESIGN CHOICE, log entry 54). -/
def dropHeld (s : State) (c : Cand) : State :=
  s.setMix fun m => { m with
    sets := if c.kind < 5 then Tbl.mapV m.sets fun _ x =>
        (match x.placeOf c.seq with | some i => { x with lost := i :: x.lost } | none => x) else m.sets
    enables := if c.kind < 5 then m.enables
      else m.enables.filter fun e => !(e.on && e.obj.num == c.kind && e.index == c.index && e.seq == c.seq) }

/-- A shedding action over every object, those held for a later boundary among them: choose, log, ramp out from boundary
n + 2 (R55, R56); answers the demand left. -/
def shed (s : State) (cause : Nat) (enough : Demand → Bool) : State × Demand :=
  let t := s.setMix fun m => { heldMix s with enables := m.enables }
  let ls := allLoads s
  let going := shedding s
  let cs := (cands t ls).filter fun c => !going.contains (c.kind, c.index)
  let d0 := going.foldl (fun d o => let e := ownCost t ls o; d.sub e.1 e.2) (demand s)
  let (out, d) := shedMore t ls enough cs.length cs d0 []
  if out.isEmpty then (s, d)
  else
    let objs := (out.filter fun c => !heldObject s c).map fun c => (c.kind, c.index)
    let s := forEach out s fun c s => logCand s cause c
    let s := forEach (out.filter (heldObject s)) s fun c s => dropHeld s c
    (raise { s with shed := { s.shed with pend := s.shed.pend ++ [(s.mix.stitch + 2, objs)] } } .FAB_EVENT 4, d)

/-! ## Pace faults and fence misses (R35, R36, R54, R55, R57) -/

/-- The mean pace of the needles in service of a region, scaled by the other's count, compared: the slower region
(R480). -/
def slowRegion (s : State) : Nat :=
  let reg (lo : Nat) : List Nat := ((List.range 16).map (lo + ·)).filter fun k => (needleOf s k).inService
  let sum (ks : List Nat) : Nat := ks.foldl (fun a k => a + (needleOf s k).pace) 0
  let a := reg 0; let b := reg 16
  if a.isEmpty ∧ b.isEmpty then 0
  else if a.isEmpty then 1
  else if b.isEmpty then 0
  else if sum b * a.length < sum a * b.length then 1 else 0

/-- A configuration reset that waits for VCORE is decided INTERNAL with it: it fails (Table 02-5, R396; DESIGN CHOICE, log
entry 64). -/
def faultNet (s : State) : State :=
  match s.pl.net with
  | some x => if x.rising then raise { s with pl := { s.pl with net := none, cfgRun := false } } .PL_EVENT 8 else s
  | none => s

/-- A waiting request is decided INTERNAL by a fault during a raise (Table 02-5). -/
def faultWaiting (s : State) : State :=
  let s := faultNet s
  match s.fab.waiting with
  | some r => s.setFab fun f => { f with
      waiting := none, decided := f.decided ++ [{ who := r.who, kind := r.kind, code := .internal, reason := 3 }] }
  | none => s

/-- VCORE goes to Vcap after a fault (R55, Table 02-5). -/
def vToCap (s : State) : State :=
  let f := s.fab
  if f.vstate = .confirming ∧ f.vnow = vCap s then s.setFab fun f => { f with vstate := .steady, vtarget := f.vnow }
  else vRaise s (vCap s)

/-- The fabric is exhausted: fault 0x0C, class-0 work runs on (R57, R449). -/
def exhaust (s : State) : State :=
  if s.shed.exhausted then s
  else reportFault (raise { s with shed := { s.shed with exhausted := true } } .SAF_EVENT 0x20) 0x0C 0 (slowRegion s)

/-- Shedding to a limit W of measured work (R55, R57). -/
def shedTo (s : State) (cause w : Nat) : State :=
  let (s, d) := shed s cause fun d => decide (11 * d.all ≤ 10 * w)
  if 11 * d.all ≤ 10 * w then s else exhaust s

/-- Reactions of a pace fault (R36, R55); `w` is the fabric pace measured. -/
def paceFault (s : State) (w : Nat) : State :=
  let s := s.setFab fun f => { f with paceFaults := satInc 0xFFFFFFFF f.paceFaults }
  vToCap (faultWaiting (shedTo (raise s .FAB_EVENT 1) 0 w))

/-- A destination whose block is incomplete plays a fade, its hem copies keep the gains they held (R54). The samples that
the discarded block limited are not counted as clips (DESIGN CHOICE, log entry 96). -/
def fenceDst (s : State) (d : Nat) : State :=
  match Tbl.get? s.mix.dests d with
  | some x =>
    let h := hemOf s d
    let s := setHem s d { h with gA := h.prevA, gB := h.prevB, limited := 0 }
    voxAgain (s.setMix fun m => { m with
      dests := Tbl.put m.dests d { x with out := underCeil s d (fadeBlock x.prev), fence := .zero } }) d
  | none => s

/-- Reactions of a fence miss (R54, R55, R449). -/
def fenceMiss (s : State) (incomplete : List Nat) (w : Nat) : State :=
  let s := s.setFab fun f => { f with fenceMisses := satInc 0xFFFFFFFF f.fenceMisses, slack := 0 }
  let s := forEach incomplete (raise s .FAB_EVENT 2) fun d s => fenceDst s d
  vToCap (faultWaiting (shedTo s 1 w))

/-- A needle leaves service (R35, R448); `fits` of R40 in its form for classes 1 to 3 is restored by shedding, and the
selected step is evaluated again (R50). -/
def needleOut (s : State) (k : Nat) : State :=
  let s := raise (setNeedle s k { needleOf s k with inService := false }) .FAB_EVENT 0x20
  let cap := vCap s; let res := res0 s
  let (s, d) := shed s 3 fun d => fits s d res cap false
  vcoreEval (if !fits s d res cap false ∧ 10 * gEff s cap < 11 * d.d0 then exhaust s else s)

/-- T at the lower of the steps of a VCORE change (R36). -/
def tNow (s : State) : Nat :=
  match s.fab.vstate with
  | .raising => tCurve (min s.fab.vfrom s.fab.vtarget)
  | .lowering => tCurve (min s.fab.vnow s.fab.vtarget)
  | _ => tCurve s.fab.vnow

/-- The paces of a stitch are judged: needles first (R35), then the fabric (R36). -/
def judgePace (s : State) (paces : List Nat) : State :=
  let t := tNow s
  let s := forEach (List.range 32) s fun k s => setNeedle s k { needleOf s k with pace := paces.getD k 0 }
  let s := forEach (List.range 32) s fun k s =>
    let x := needleOf s k
    if !x.inService then s
    else
      let slow := decide (x.pace < t * 7 / 256)
      if slow ∧ x.slow then reportFault (needleOut (setNeedle s k { x with slow := true }) k) 0x09 k (k / 16)
      else setNeedle s k { x with slow := slow }
  let pace := (List.range 32).foldl (fun a k => if (needleOf s k).inService then a + (needleOf s k).pace else a) 0
  let slow := decide (pace < t * needlesOk s / 32)
  let was := s.fab.slowPrev
  let ok := decide (tCurve s.fab.vtarget * needlesOk s / 32 ≤ pace)
  let s := s.setFab fun f => { f with
    pace := pace, slowPrev := slow, confirm := if f.vstate = .confirming then (if ok then f.confirm + 1 else 0) else 0 }
  if slow ∧ was then reportFault (paceFault s pace) 0x0A 0 (slowRegion s) else s

/-- FENCE: completion first, then pace (R11, R12, R34 to R36). A stitch is judged once; in QUIET a miss is only logged
(R447). Before audio start there is no work, and the paces are judged while VCORE rises for the pattern (R34, R51). -/
def fence (s : State) (m : FenceMeas) : State :=
  if s.shed.fenced = some s.mix.stitch then s
  else if !s.mix.audioOn then
    (if s.pl.started then judgePace { s with shed := { s.shed with fenced := some s.mix.stitch } } m.paces else s)
  else if s.glb.mode = .quiet then
    let s := { s with shed := { s.shed with fenced := some s.mix.stitch } }
    if m.complete then s else reportFault s 0x0B 0 (slowRegion s)
  else
    let inj := s.saf.injFence
    let miss := !m.complete || inj
    let s := { s with shed := { s.shed with fenced := some s.mix.stitch, missRun := if miss then s.shed.missRun else 0 } }
    let s := s.setSaf fun y => { y with injFence := false }
    let s := s.setFab fun f => { f with slack := if miss then 0 else min f.slack m.slack }
    let s := judgePace s m.paces
    if miss then
      let s := fenceMiss s (if inj then s.mix.dests.map (·.1) else m.incomplete) m.work
      let s := { s with shed := { s.shed with missRun := if s.shed.exhausted then s.shed.missRun + 1 else 0 } }
      reportFault s 0x0B 0 (slowRegion s) inj
    else s

/-- FAB_STATUS and FAB_VCORE codes (Table 02-3). -/
def VState.num : VState → Nat
  | .steady => 0 | .raising => 1 | .confirming => 2 | .hold => 3 | .lowering => 4

end Sys2Proof.Machine
end

