-- ==== Sys2Proof/Machine/Admission.lean ====
section
/-! DEFINITION. Requests, the admission queue and its decisions (spec/02 R41 to R47; spec/03 R78 to R81). -/

namespace Sys2Proof.Machine

/-! ## Sending requests (R43, R44) -/

/-- One outstanding request for each requester (R43). -/
def addRequest (s : State) (who : Requester) (kind : AdmKind) (stitch tk : Nat) : State :=
  s.setFab fun f => { f with queue := f.queue ++ [{ who := who, kind := kind, stitch := stitch, tack := tk }] }

/-- A register-path request: WRONG_STATE while one is undecided (R44). -/
def regRequestFails (s : State) : List (Code × Bool) := [(.wrongState, s.fab.admPending)]

/-- Queue a register-path request. -/
def regRequest (s : State) (kind : AdmKind) : State :=
  addRequest (s.setFab fun f => { f with admPending := true }) .regPath kind s.mix.stitch (tack s 0)

/-! ## Judging a request (R40, R41, R47, R79) -/

/-- What a request would do: its first failure, the classes of the work it adds, and the demand after it. -/
structure Verdict where
  code : Code
  change : Option Nat
  reason : Nat
  added : List Nat
  d : Demand
  deriving DecidableEq, Repr

/-- Admitted streams count from their decision when table sizes are judged. -/
def asEnabled (s : State) : State :=
  forEach s.mix.enables s fun e s =>
    if !e.on then s
    else match e.obj with
      | .rx => setRx s e.index { rxOf s e.index with enabled := true }
      | .tx => setTx s e.index { txOf s e.index with enabled := true }
      | _ => s

/-- Why an enable is refused before the fabric test, by the object's rules. -/
def enableFails (s : State) (o : ObjKind) (i : Nat) : List (Code × Bool) :=
  match o with
  | .rx => rxEnFails (asEnabled s) i
  | .tx => txEnFails (asEnabled s) i
  | .meter => [(.notFound, !meterObject s i)]
  | .vox => [(.notFound, !voxReady s i)]
  | .seam => if (seamOf s i).enabled then [] else seamEnFails s i
  | .conv => if (convOf s i).enabled then [] else scEnFails s i

def judgeEnable (s : State) (o : ObjKind) (i cls : Nat) : Verdict :=
  let ls := allLoads s
  let old := ls.find? fun l => l.kind == o.num && l.index == i && !l.out
  let added := match old with | some l => if l.cls = cls then [] else [cls] | none => [cls]
  let ls := addEnable s ls { acceptedAt := s.now, obj := o, index := i, cls := cls, on := true }
  { code := firstCode (enableFails s o i), change := none, reason := 3, added := added
    d := (mixDemand (pendingMix s) ls).plus (keptDemand s) }

/-- A commit is judged on the tables that the commits before it leave; a set armed for a time that has not come is not
among them, for a scheduled commit neither (DESIGN CHOICE, log entry 94). -/
def judgeCommit (s : State) (k : Nat) : Verdict :=
  let before := pendingMix s
  let rs := (Tbl.getD s.mix.sets k {}).recs
  let after := withSet s before k
  let f := setFail (selectorCode s) before after rs
  { code := match f with | some (f, _) => f.code | none => .ok
    change := f.map (·.2), reason := match f with | some (f, _) => f.reason | none => 0
    added := addedClasses before after rs
    d := (mixDemand after (allLoads s)).plus (keptDemand s) }

def judge? (s : State) (r : AdmReq) : Verdict :=
  match r.kind with
  | .commit k _ => judgeCommit s k
  | .enable o i c => judgeEnable s o i c

/-- Only class-0 work is added (R40, R43). A request that another check refuses adds nothing and is not moved ahead
(DESIGN CHOICE, log entry 55). -/
def Verdict.only0 (v : Verdict) : Bool := v.code == .ok && !v.added.isEmpty && v.added.all (· == 0)

/-! ## The order of decisions (R43) -/

/-- One tack is earlier than another of the same stitch (R17). -/
def tackBefore (a b : Nat) : Bool := decide (a ≠ b ∧ (2 ^ 32 - a % 2 ^ 32 + b) % 2 ^ 32 < 2 ^ 31)

def Requester.rank : Requester → Nat
  | .regPath => 0
  | .session k => k + 1

/-- Request `a` is decided before request `b`. -/
def reqBefore (s : State) (a b : AdmReq) : Bool :=
  if a.stitch ≠ b.stitch then decide (a.stitch < b.stitch)
  else
    let za := (judge? s a).only0; let zb := (judge? s b).only0
    if za ≠ zb then za
    else if a.tack ≠ b.tack then tackBefore a.tack b.tack
    else decide (a.who.rank < b.who.rank)

/-- The request at the head of the queue. -/
def headReq (s : State) : Option AdmReq :=
  s.fab.queue.foldl (fun b r => match b with
    | none => some r
    | some x => if reqBefore s r x then some r else b) none

/-! ## Deciding (R44 to R47, Table 02-5, Table 03-3) -/

/-- The stitch at which a change accepted now takes effect (R14). -/
def effectStitch (s : State) : Nat := effectAt s s.now

/-- A decision is recorded for its sender. -/
def recordDecision (s : State) (d : Decided) : State := s.setFab fun f => { f with decided := f.decided ++ [d] }

/-- An admitted commit: PENDING, or ARMED with its schedule entry (Table 03-3); its objects get their numbers (R47). -/
def commitOk (s : State) (k : Nat) (entry : Option (Nat × Bool)) : State :=
  let x := Tbl.getD s.mix.sets k {}
  let before := pendingMix s
  let created := createdBy (setCtx s k before) x.recs before
  let base := s.fab.admSeq + 1
  let s := s.setFab fun f => { f with admSeq := f.admSeq + created.length }
  let st : SetState := if entry.isSome then .armed else .pending
  let s := s.setMix fun m => { m with
    sets := Tbl.put m.sets k { x with state := st, code := .ok, index := 0, seq := base, created := created, lost := [] } }
  match entry with
  | some (e, late) => seAdmitted s e late
  | none => s.setMix fun m => { m with commits := m.commits ++ [{ acceptedAt := s.now, set := k }] }

/-- A refused commit: the set returns to OPEN with its result, the schedule entry is refused (Table 03-3, R86). -/
def commitRefused (s : State) (k : Nat) (entry : Option (Nat × Bool)) (d : Decided) : State :=
  let i := d.change.getD 0
  let s := s.setMix fun m => { m with
    sets := Tbl.upd m.sets k fun x => { x with state := .open, code := d.code, index := i }
    refuse := { code := d.code, set := k, reason := d.reason, change := i } }
  let s := raise s .MIX_EVENT 1
  match entry with
  | some (e, _) => seRefused s e d.code.num
  | none => s

/-- The object a request enables waits for its boundary, with the next admission sequence number: one for a stream, whose
channels are enabled and shed together (R47, R60; DESIGN CHOICE, log entry 62). -/
def enableOk (s : State) (o : ObjKind) (i cls : Nat) : State :=
  let fresh := !(allLoads s).any fun l => l.kind == o.num && l.index == i && !l.out
  let seq := s.fab.admSeq + 1
  let s := if fresh then s.setFab fun f => { f with admSeq := seq } else s
  s.setMix fun m => { m with
    enables := m.enables ++ [{ acceptedAt := s.now, obj := o, index := i, cls := cls, on := true, seq := seq }] }

/-- An accepted request. -/
def admitReq (s : State) (r : AdmReq) : State :=
  let s := match r.kind with
    | .commit k e => commitOk s k e
    | .enable o i c => enableOk s o i c
  recordDecision s { who := r.who, kind := r.kind, code := .ok }

/-- A decision during HOLD restarts or stops the timer; during LOWERING it sets the new target (R52, Table 02-5). -/
def afterDecision (s : State) : State :=
  match s.fab.vstate with
  | .hold =>
    if selected s < s.fab.vnow then s.setFab fun f => { f with holdFrom := some s.now }
    else s.setFab fun f => { f with vstate := .steady, holdFrom := none }
  | .lowering => s.setFab fun f => { f with vtarget := min f.vnow (selected s) }
  | _ => s

/-- ADMISSION_DECIDE: one request, unless VCORE is rising or being confirmed (Table 02-5). -/
def admissionDecide (s : State) : State :=
  if s.fab.vstate = .raising ∨ s.fab.vstate = .confirming ∨ s.fab.waiting.isSome then s
  else match headReq s with
    | none => s
    | some r =>
      let v := judge? s r
      let s := s.setFab fun f => { f with queue := f.queue.erase r }
      let no (c : Code) (change : Option Nat) (reason : Nat) : State :=
        afterDecision (recordDecision s { who := r.who, kind := r.kind, code := c, change := change, reason := reason })
      if v.code ≠ .ok then no v.code v.change v.reason
      else if v.added.isEmpty then afterDecision (admitReq s r)
      else if held s 1 then no .wrongState none 3
      else if !fits s v.d (res0 s) (vCap s) v.only0 then no .noCapacity none 0
      else
        let need := stepFor s v.d
        if need ≤ s.fab.vnow then afterDecision (admitReq s r)
        else vRaise (s.setFab fun f => { f with waiting := some r }) need

/-- VCORE_CONFIRMED: eight stitches at pace (R51, Table 02-5). -/
def vcoreConfirmed (s : State) : State :=
  if s.fab.vstate = .confirming ∧ 8 ≤ s.fab.confirm then
    let w := s.fab.waiting
    let s := raise (s.setFab fun f => { f with vstate := .steady, waiting := none, confirm := 0 }) .FAB_EVENT 8
    match w with
    | some r => admitReq s r
    | none => s
  else s

/-- Decisions reach their sets, schedule entries and the register path; those of sessions stay for them (R44). -/
def settleDecided (s : State) : State :=
  let ds := s.fab.decided
  let s := s.setFab fun f => { f with decided := ds.filter fun d => d.who != .regPath }
  forEach ds s fun d s =>
    let s := match d.kind with
      | .commit k e => if d.code = .ok then s else commitRefused s k e d
      | .enable _ _ _ => s
    if d.who = .regPath then
      raise (s.setFab fun f => { f with admPending := false, admResult := d.code }) .FAB_EVENT 0x40
    else s

/-! ## Basting-set commands (R78, R79, R81) -/

def setOf (s : State) (k : Nat) : BSet := Tbl.getD s.mix.sets k {}
def putSet (s : State) (k : Nat) (x : BSet) : State := s.setMix fun m => { m with sets := Tbl.set {} m.sets k x }

/-- OPEN (R78). -/
def bsOpenFails (s : State) (k : Nat) : List (Code × Bool) :=
  [(.wrongState, (setOf s k).state != .free), (.noCapacity, (List.range 8).all fun j => (setOf s j).state != .free)]

def bsOpen (s : State) (k : Nat) (who : Requester) : State :=
  putSet s k { setOf s k with state := .open, owner := some who, recs := [], created := [] }

/-- State and owner of a set for ADD, COMMIT and ABORT (R78, Table 03-3). -/
def bsOwned (s : State) (k : Nat) (who : Requester) : List (Code × Bool) :=
  [(.conflict, (setOf s k).state != .free && (setOf s k).owner != some who), (.wrongState, (setOf s k).state != .open)]

/-- ADD of records, all or none (R79, R346). -/
def bsAddFails (s : State) (k : Nat) (who : Requester) (rs : List Rec) : List (Code × Bool) :=
  bsOwned s k who ++ [(.badValue, !rs.all Rec.ok), (.noCapacity, decide (4096 < (setOf s k).recs.length + rs.length))]

def bsAdd (s : State) (k : Nat) (rs : List Rec) : State :=
  putSet s k { setOf s k with recs := (setOf s k).recs ++ rs }

def bsCommitFails (s : State) (k : Nat) (who : Requester) : List (Code × Bool) :=
  bsOwned s k who ++ [(.wrongState, (setOf s k).recs.isEmpty)]

/-- A set enters the admission queue. -/
def bsDeciding (s : State) (k : Nat) : State := putSet s k { setOf s k with state := .deciding }

/-- A set is freed; what the last commit left of it stays readable. -/
def bsFree (s : State) (k : Nat) : State :=
  putSet s k { setOf s k with state := .free, owner := none, recs := [], created := [], seq := 0 }

/-- SE_DEL: the demand that an armed commit held is free, so the selected step is evaluated again (R50, R288). -/
def seDel (s : State) (e : Nat) : State :=
  if seAction s e = 1 then vcoreEval (seDisarm s e) else seDisarm s e

/-- The sets of a requester that closes: OPEN ones are discarded, the others lose their owner (Table 03-3). -/
def bsOwnerGone (s : State) (who : Requester) : State :=
  forEach (List.range 8) s fun k s =>
    let x := setOf s k
    if x.owner ≠ some who then s
    else if x.state = .open then bsFree s k
    else putSet s k { x with owner := none }

def SetState.num : SetState → Nat
  | .free => 0 | .open => 1 | .deciding => 2 | .pending => 3 | .armed => 4

end Sys2Proof.Machine
end

