-- ==== Sys2Proof/Machine/SessionBase.lean ====
section
/-! DEFINITION. Firyn messages, replies and the closing of sessions (spec/15). -/

namespace Sys2Proof.Machine

def State.setSes (s : State) (f : Sessions → Sessions) : State := { s with ses := f s.ses }
def State.setPl (s : State) (f : Loader → Loader) : State := { s with pl := f s.pl }
def State.setPr (s : State) (f : Pair → Pair) : State := { s with pr := f s.pr }
def State.setWit (s : State) (f : Witness → Witness) : State := { s with wit := f s.wit }

/-- The session of a number, if it is open. -/
def sesOf (s : State) (k : Nat) : Option Ses := Tbl.get? s.ses.ses k

def putSes (s : State) (k : Nat) (x : Ses) : State := s.setSes fun y => { y with ses := Tbl.put y.ses k x }
def modSes (s : State) (k : Nat) (f : Ses → Ses) : State := s.setSes fun y => { y with ses := Tbl.upd y.ses k f }

/-- A Firyn message (R334, Table 15-1). -/
def message (type id seq op result : Nat) (body : List Byte) : List Byte :=
  [0x46#8, 0x59#8, 1#8, BitVec.ofNat 8 type] ++ leBytes 4 id ++ leBytes 4 seq ++ leBytes 2 body.length ++
    [BitVec.ofNat 8 op, BitVec.ofNat 8 result] ++ body

/-- Send a message to a client: as a UDP datagram, or as an item of the mailbox's reply spool, which is discarded where
it finds no room (R332, R333). -/
def sendTo (s : State) (c : Client) (bs : List Byte) : State :=
  if c.mbox then
    if fb s .SES_MBOX_EN then
      let n := fv s .SES_MBOX_RSP
      (internalCommit s n { tag := (Config.itemTag n (spOf s n).seq).toNat, tb := 0, tack := tack s 0, body := bs }).1
    else s
  else emit s (.firyn c bs)

/-! ## Image transfers end (R340, R351) -/

/-- An aborted transfer leaves the inactive image without a valid header. -/
def abortXfer (s : State) : State := s.setPl fun p => { p with xfer := none }

/-- Does a session own the image transfer? -/
def ownsXfer (s : State) (k : Nat) : Bool :=
  match s.pl.xfer with
  | some x => x.owner == k
  | none => false

/-! ## Closing (R340) -/

/-- Requests of a session that closes are still decided, for nobody: no session has a number of 16 or more. -/
def orphanRequests (s : State) (k : Nat) : State :=
  let mine (w : Requester) : Requester := if w = .session k then .session (k + 16) else w
  s.setFab fun f => { f with
    queue := f.queue.map fun r => { r with who := mine r.who }
    waiting := f.waiting.map fun r => { r with who := mine r.who }
    decided := f.decided.map fun d => { d with who := mine d.who } }

/-- A session closes: window and subscriptions go, its sets follow Table 03-3, its transfer is aborted. -/
def closeSession (s : State) (k : Nat) : State :=
  match sesOf s k with
  | some _ =>
    let s := if ownsXfer s k then abortXfer s else s
    let s := orphanRequests (bsOwnerGone s (.session k)) k
    raise (s.setSes fun y => { y with
      ses := Tbl.del y.ses k
      out := y.out.filter fun r => r.ses != k || r.after == .cfgReset || r.after == .fullReset }) .SES_EVENT 2
  | none => s

/-- Close every session that satisfies a test. -/
def closeWhere (s : State) (p : Ses → Bool) : State :=
  forEach (s.ses.ses.filterMap fun e => if p e.2 then some e.1 else none) s fun k s => closeSession s k

def closeAll (s : State) : State := closeWhere s fun _ => true

/-! ## Replies (R341, R344, R353) -/

/-- The place of a sequence number in a window: HIGH − q, when it lies in it. -/
def winIndex (high seq : Nat) : Option Nat :=
  let d := (2 ^ 32 - seq % 2 ^ 32 + high) % 2 ^ 32
  if d < 64 then some d else none

/-- Mark a position of a session's window. -/
def markPos (x : Ses) (seq : Nat) (p : WinPos) : Ses :=
  match winIndex x.high seq with
  | some i => { x with window := x.window.set i p }
  | none => x

/-- A standby in mirror sync acknowledges replies (R353). -/
def hasStandby (s : State) : Bool := s.pr.state == .active && s.pr.linUp && s.pr.peerSync

/-- A reply leaves: its message goes to the session's client. -/
def sendReply (s : State) (r : Reply) : State :=
  match sesOf s r.ses with
  | some x => sendTo s x.client (message 0x11 x.id r.seq r.op r.result r.body)
  | none => s

/-- A command of a session has ended: its reply is stored at its position and queued to be sent (R341, R344). -/
def endCommand (s : State) (k : Nat) (q : Request) (code : Code) (body : List Byte) (after : After := .nothing) : State :=
  let s := modSes s k fun x =>
    { markPos x q.seq (.stored code.num q.op body) with busy := none, cmds := satInc 0xFFFFFFFF x.cmds }
  s.setSes fun y => { y with
    out := y.out ++ [{ ses := k, seq := q.seq, op := q.op, result := code.num, body := body, after := after }] }

/-! ## Keys (R336, R384) -/

/-- The factory key (R384): 100,000 iterations over the label's password, salted with SV6480 and UID (log entry 4). -/
def factoryKey : List Byte :=
  pbkdf2 Config.password ([0x53#8, 0x56#8, 0x36#8, 0x34#8, 0x38#8, 0x30#8] ++ beBytes 8 Config.uid.toNat) 99999

/-- The key of a role, if the role is usable. -/
def roleKey (s : State) (r : Nat) : Option (List Byte) :=
  if s.glb.mode = .bare then (if r = 2 then some factoryKey else none)
  else if bit (rd s .SES_KEYS) (4 + r) ∧ r < 3 then Tbl.get? s.ses.keys r
  else none

/-! ## Notifications (R349) -/

/-- Cut a list into pieces of at most `n`. -/
def pieces {α : Type} (n : Nat) : Nat → List α → List (List α)
  | 0, _ => []
  | f + 1, xs => if xs.isEmpty then [] else xs.take n :: pieces n f (xs.drop n)

/-- One NOTIFY message. -/
def notifyOne (s : State) (k : Nat) (es : List (Nat × Nat × List Nat)) : State :=
  match sesOf s k with
  | some x =>
    let body := leBytes 4 x.nseq ++ es.flatMap fun e => leBytes 2 e.1 ++ leBytes 2 0 ++ leBytes 4 e.2.1
    putSes (sendTo s x.client (message 0x20 x.id 0 0 0 body)) k { x with nseq := (x.nseq + es.length) % 2 ^ 32 }
  | none => s

/-- The releases of the stitch go to the sessions that subscribed to their sources at the release, from the active unit
only (R328, R349). -/
def notifyAll (s : State) : State :=
  let rel := s.evt.released
  let s := s.setEvt fun e => { e with released := [] }
  if s.glb.passive ∨ rel.isEmpty then s
  else
    forEach (s.ses.ses.map (·.1)) s fun k s =>
      match sesOf s k with
      | some x =>
        let mine := rel.filter fun e => e.2.2.contains x.id
        forEach (pieces 100 mine.length mine) s fun es s => notifyOne s k es
      | none => s

end Sys2Proof.Machine
end

