-- ==== Sys2Proof/Machine/Roles.lean ====
section
/-! DEFINITION. The part a module plays, the states of a unit of a pair, and its output gate (spec/18 R410, R420 to
R425, R433, R434). -/

namespace Sys2Proof.Machine

/-- Straps ROLE_ID1, ROLE_ID0 as a number (Table 18-1): 0 alone, 1 unit A, 2 unit B, 3 witness. -/
def isPair (s : State) : Bool := s.glb.straps == 1 || s.glb.straps == 2
def isWitness (s : State) : Bool := s.glb.straps == 3
def unitB (s : State) : Bool := s.glb.straps == 2

/-- Own and peer's OE flag, and SEEN of the peer, in a witness frame. -/
def WitFrame.ownOe (s : State) (f : WitFrame) : Bool := if unitB s then f.oeB else f.oeA
def WitFrame.peerOe (s : State) (f : WitFrame) : Bool := if unitB s then f.oeA else f.oeB
def WitFrame.peerSeen (s : State) (f : WitFrame) : Bool := if unitB s then f.seenA else f.seenB

/-! ## The output gate (R420, R421) -/

/-- The gate takes a level; the output lanes, the control outputs and pins follow it (R146, R274). -/
def setGate (s : State) (on : Bool) : State :=
  if s.glb.gate = on then s else coGateAll (laneGate (emit (s.setGlb fun g => { g with gate := on }) (.gate on)))

/-! ## Unit states (Table 18-6, Table 18-7) -/

/-- What a state lets the unit do: take writes to active-owned state, send its leg and the LEGS = 0 streams (Table 18-6,
R424, R434); a unit that gives up the active role sends on until that takes effect (R423). -/
def rolePowers (s : State) : State :=
  let st := s.pr.state
  let own := st == .active || st == .standby
  let s1 := s.setGlb fun g =>
    if st = .solo then { g with passive := false, active := true, sendA := true, sendB := true, sendOne := true }
    else if s.pr.leaving then { g with passive := true }
    else { g with
      passive := st != .active, active := st == .active
      sendA := own && !unitB s, sendB := own && unitB s, sendOne := st == .active }
  txRole s1 s.glb.sendOne

/-- A transfer whose session was not mirrored is aborted (R340, R353). -/
def dropTransfer (s : State) : State :=
  match s.pl.xfer with
  | some x => if (sesOf s x.owner).isNone then abortXfer s else s
  | none => s

/-- The unit becomes ACTIVE: time bases leave MIRRORED, mirrored sessions are served after a gratuitous ARP and neighbor
advertisement (R353, R433). -/
def takeActive (s : State) : State :=
  let s := dropTransfer (forEach [0, 1, 2, 3] s fun k s => tbMirror s k false)
  let ports := [0, 1, 2, 3].filter fun n => fv s .SES_CFG_PORTS / 2 ^ n % 2 == 1
  forEach ports s fun n s =>
    let s := if fv s .SES_IP4_ADDR ≠ 0 then emit s (.gratuitous n false) else s
    if [0, 1, 2, 3].any fun j => rd s .SES_IP6 j != 0 then emit s (.gratuitous n true) else s

/-- The unit is no longer ACTIVE: its time bases are mirrored, its mailbox sessions close (R340, R433). -/
def leaveActive (s : State) : State :=
  closeWhere (forEach [0, 1, 2, 3] s fun k s => tbMirror s k true) fun x => x.client.mbox

/-- Send a message on the lining link. -/
def lining (s : State) (m : LinMsg) : State :=
  if isPair s && s.pr.linUp then emit s (.lining m) else s

/-- A change of role takes effect: it is counted and raised (R423). -/
def roleChange (s : State) : State :=
  raise (s.setPr fun p => { p with lastRole := s.mix.stitch, roleChanges := satInc 0xFFFF p.roleChanges }) .PR_EVENT 1

/-- Change of unit state (R423, Table 18-7): a role taken up takes effect now, and so does one given up, but for that of a
yielding unit, which ends later; SYNC_CHANGE when STANDBY is entered or left, and the peer hears of it. CAUSE stays in a
join (DEDUCED, log entry 112). -/
def prState (s : State) (st : PrState) : State :=
  let old := s.pr.state
  if old = st then s
  else
    let leaves := old == .active && st == .yielded
    let sync := (old == .standby) != (st == .standby)
    let s := rolePowers (s.setPr fun p => { p with
      state := st, matchCnt := 0, wtrFrom := none, leaving := leaves
      claim := p.claim && st == .standby, resort := p.resort && st == .unsynced
      cause := if st = .unsynced ∨ st = .joining then p.cause else 0
      peerSync := p.peerSync && old != .active })
    let s := if (old == .active) != (st == .active) ∧ !leaves then roleChange s else s
    let s := if sync then lining (raise s .PR_EVENT 8) (.peer (st == .standby)) else s
    if st = .active then takeActive s else if old = .active ∧ !leaves then leaveActive s else s

/-- The role of a yielding unit ends at the first boundary after its gate has fallen (R13, R423). -/
def roleEnds (s : State) : State :=
  if s.pr.leaving ∧ !s.glb.gate then
    leaveActive (roleChange (rolePowers (s.setPr fun p => { p with leaving := false })))
  else s

/-- CLAIM as a last resort in UNSYNCED of cause 1 or 2: the peer not seen in 8 stitches, or a claim that stands (R425). -/
def lastResort (s : State) : Bool :=
  s.pr.resort || (fb s .PR_CFG_LAST_RESORT && decide (8 ≤ s.pr.unseen) && (s.pr.cause == 1 || s.pr.cause == 2))

/-- A claim of last resort stands from when it is made until the gate rises or the peer is SEEN (R425). -/
def noteResort (s : State) : State :=
  if s.pr.state = .unsynced ∧ lastResort s then s.setPr fun p => { p with resort := true } else s

/-- Into UNSYNCED with a cause. -/
def unsync (s : State) (cause : Nat) : State :=
  noteResort (prState (s.setPr fun p => { p with join := none, cause := cause }) .unsynced)

/-- Mirror something with what else this command changes (R353, R427). -/
def mirror (s : State) (m : Mirrored) : State :=
  if isPair s && s.pr.linUp then s.setPr fun p => { p with outbox := p.outbox ++ [m] } else s

/-- A join begins (R430): a differing DIGEST stops it, a lining that is down fails it. -/
def beginJoin (s : State) : State :=
  let s := prState (s.setPr fun p => { p with join := some { from_ := s.now } }) .joining
  if !s.pr.linUp then unsync s 2
  else if s.pr.peerDigest ≠ [] ∧ s.pr.peerDigest ≠ s.pl.digest then unsync (raise s .PR_EVENT 0x80) 3
  else lining s (.joinAsk s.pl.digest)

/-- The states in which the gate may rise (R420); a divergence or a YIELD trigger of the same stitch cancels no rise
(R440). -/
def mayRise (s : State) : Bool :=
  match s.pr.state with
  | .claiming => true | .standby => true | .unsynced => true
  | .joining => s.pr.riseStands
  | .yielded => s.pr.riseStands
  | _ => false

/-- The unit gives up its role (Table 18-7, R425): an active one drives on until its gate falls, one that is FROZEN
releases its gate itself. -/
def yieldRole (s : State) : State :=
  if !isPair s ∨ s.pr.state = .start ∨ s.pr.state = .yielded then s
  else
    let driving := s.glb.gate
    let s := prState (s.setPr fun p => { p with
      yieldRun := if driving then some 0 else none, join := none, riseStands := mayRise s }) .yielded
    if driving ∧ s.pr.frozen then setGate (s.setPr fun p => { p with yieldRun := none }) false else s

/-! ## Heartbeat flags (R425) -/

/-- HEALTHY, bars that began at or after an instant left out (R425, R446). -/
def healthyAt (s : State) (cut : Nat) : Bool :=
  !(s.saf.bars.any fun b => decide (b.2 < cut)) && !s.glb.cfgFault &&
    match s.pr.state with
    | .start => false | .joining => false | .yielded => false
    | _ => true

def healthy (s : State) : Bool := healthyAt s (s.now + 1)
def synced (s : State) : Bool := s.pr.state == .active || s.pr.state == .standby

/-- CLAIM (R425, R436): in CLAIMING, in a reversion, and as a last resort. -/
def claiming (s : State) : Bool :=
  match s.pr.state with
  | .claiming => true
  | .standby => s.pr.claim
  | .unsynced => lastResort s
  | _ => false

/-- ROLE as a heartbeat sends it (Table 18-6). -/
def roleSent (s : State) : Nat :=
  match s.pr.state with
  | .active => 1 | .standby => 2 | .unsynced => 2
  | _ => 0

/-- LED_STAT by mode and role (R408, Table 17-7); in reset the pins are high-impedance (Table 17-6). -/
def ledStat (s : State) : Led :=
  if s.glb.inReset then .off
  else match s.glb.mode with
    | .starting => .blinks 2000
    | .bare => .blinks 500
    | .quiet => .blinks 8000
    | .removing => .off
    | .running => if isPair s && s.pr.state != .active then .dips else .on

/-- STATE of PR_STATUS (Table 18-6). -/
def PrState.num : PrState → Nat
  | .start => 0 | .claiming => 1 | .active => 2 | .joining => 3 | .standby => 4 | .unsynced => 5 | .yielded => 6
  | .solo => 7

end Sys2Proof.Machine
end

