-- ==== Sys2Proof/Machine/Stitch.lean ====
section
/-! DEFINITION. What a stitch boundary does, in its order (spec/01 R8 to R14; spec/03 R82, R83; spec/02 R55). -/

namespace Sys2Proof.Machine

/-! ## Shedding at its boundary (R55, R82) -/


/-- One shed object begins its ramp of one stitch to mute. -/
def shedRamp (s : State) (o : Nat × Nat) : State :=
  match o.1 with
  | 0 => s.setMix fun m => { m with sources := Tbl.upd m.sources o.2 fun x => { x with dying := some (unity.fall 1) } }
  | 1 => s.setMix fun m => { m with
      sources := Tbl.upd m.sources (o.2 / 16) fun x =>
        { x with talks := x.talks.map fun t => if t.slot = o.2 % 16 then t.kill 1 else t } }
  | 2 => s.setMix fun m => { m with
      listeners := Tbl.upd m.listeners (o.2 / 32) fun x =>
        { x with subs := x.subs.map fun u => if u.slot = o.2 % 32 then u.kill 1 else u } }
  | 3 => s.setMix fun m => { m with xps := Tbl.upd m.xps o.2 fun x => x.kill 1 }
  | 4 => s.setMix fun m => { m with
      dests := Tbl.upd m.dests o.2 fun x =>
        { x with dying := some (unity.fall 1), feed := 0xFFFF, sides := crossTo x.sides none 1 } }
  | 5 => setSeam s o.2 { seamOf s o.2 with play := (seamOf s o.2).play.stop }
  | 6 => setConv s o.2 { convOf s o.2 with play := (convOf s o.2).play.stop }
  | 9 => rxOff s o.2
  | 10 => setTx s o.2 { txOf s o.2 with shed := true }
  | _ => s

/-- A shed object beside the mix is deleted. -/
def shedOff (s : State) (o : Nat × Nat) : State :=
  match o.1 with
  | 5 => seamOff s o.2
  | 6 => scOff s o.2
  | 7 => meterOff s o.2
  | 8 => voxDisable s o.2
  | 10 => txOff s o.2
  | _ => s

/-- Shedding due at this boundary (n + 2: ramp; n + 3: demand freed). -/
def shedBoundary (s : State) : State :=
  let n := s.mix.stitch
  let s := forEach s.shed.pend s fun p s =>
    if p.1 = n then forEach p.2 s fun o s => shedRamp s o
    else if p.1 < n then forEach p.2 s fun o s => shedOff s o
    else s
  { s with shed := { s.shed with pend := s.shed.pend.filter fun p => decide (n ≤ p.1) } }

/-! ## Commits (R82, R83) -/

/-- The changes of a set that is due, with their indices; one that changes an object that is gone, or whose object was
shed before it came to be, is none (R83). -/
def dueRecs (s : State) (x : BSet) : List Rec :=
  let rs := x.recs.zipIdx
  rs.map fun e => if x.loses e.1 || gone s.mix x.created rs e then { e.1 with w0 := 0 } else e.1

/-- A set takes effect on the tables that the changes before it at this boundary have left, and what it turns from starts
at the end of the stitch before (R82); changes naming objects that are gone are skipped and counted (R83). -/
def applyCommit (s : State) (k : Nat) : State :=
  let x := setOf s k
  let m := s.mix
  let ctx := { setCtx s k m with heard := m.shown }
  let rs := dueRecs s x
  let after := applyRecs ctx rs m
  let bad (r : Rec) : Bool := match nameFail (fun _ => .ok) m after rs r with
    | some f => f.code == .notFound
    | none => false
  let left := rs.map fun r => if bad r then { r with w0 := 0 } else r
  let n := ((left.zip x.recs).filter fun e => e.1 != e.2).length
  let s := s.setMix fun _ => applyRecs ctx left m
  let s := bsFree s k
  let s := putSet s k { setOf s k with skip := n, stitch := s.mix.stitch }
  raise s .MIX_EVENT (if n = 0 then 2 else 6)

/-- A scheduled commit stands in the list before another one. -/
def insEntry (c : Commit) : List Commit → List Commit
  | [] => [c]
  | d :: ds => if c.entry.getD 0 < d.entry.getD 0 then c :: d :: ds else d :: insEntry c ds

/-- Commits due: scheduled ones by entry index, then immediate ones as decided (R82). -/
def commitBoundary (s : State) : State :=
  let due := s.mix.commits.filter fun c => dueNow s c.acceptedAt
  let s := s.setMix fun m => { m with commits := m.commits.filter fun c => !dueNow s c.acceptedAt }
  let sched := (due.filter fun c => c.entry.isSome).foldl (fun l c => insEntry c l) []
  forEach (sched ++ due.filter fun c => c.entry.isNone) s fun c s => applyCommit s c.set

/-! ## Enables and disables (R14) -/

/-- A block held in its safe state starts nothing (R454). -/
def heldFor (s : State) (o : ObjKind) : Bool :=
  match o with
  | .rx => held s 7 | .tx => held s 7 | .seam => held s 10 | .conv => held s 10
  | _ => false

def applyEnable (s : State) (e : Enable) : State :=
  if e.on ∧ heldFor s e.obj then s
  else match e.obj with
  | .rx => if e.on then rxOn s e.index e.cls e.seq else rxOff s e.index
  | .tx => if e.on then txOn s e.index e.cls e.seq else txOff s e.index
  | .meter => if e.on then meterOn s e.index e.cls e.seq else meterOff s e.index
  | .vox => if e.on then voxEnable s e.index e.cls e.seq else voxDisable s e.index
  | .seam => if e.on then seamOn s e.index e.cls e.seq else seamOff s e.index
  | .conv => if e.on then scOn s e.index e.cls e.seq else scOff s e.index

def enableBoundary (s : State) : State :=
  let due := s.mix.enables.filter fun e => dueNow s e.acceptedAt
  let s := s.setMix fun m => { m with enables := m.enables.filter fun e => !dueNow s e.acceptedAt }
  forEach due s fun e s => applyEnable s e

/-- A disable takes effect at its boundary (R14, R42). -/
def disableLater (s : State) (o : ObjKind) (i : Nat) : State :=
  s.setMix fun m => { m with enables := m.enables ++ [{ acceptedAt := s.now, obj := o, index := i, cls := 0, on := false }] }

/-! ## Waiting register values -/

/-- What a map entry that comes into force starts (R134, R150, R192, R479). -/
def mapHook (s : State) (w : Nat × Nat × Word) : State :=
  let len := (rdF s .MIX_RAMP_DEF).toNat
  let put (t : Tbl (List (Side Nat))) (k : Nat) : Tbl (List (Side Nat)) :=
    Tbl.put t k (crossTo (Tbl.getD t k []) (mapDst w.2.2) len)
  match findReg w.2.1 with
  | some (.SLOT_MAP, i, j) => s.setLn fun l => { l with slotSides := put l.slotSides (32 * i + j) }
  | some (.HOST_MAP, i, _) => s.setLn fun l => { l with hostSides := put l.hostSides i }
  | some (.TX_MAP, i, j) => s.setStr fun y => { y with mapSides := put y.mapSides (64 * i + j) }
  | _ => s

/-- A map crossfade that a write would start needs no fifth side, the entries that wait for their boundary among them
(R479). -/
def mapRoom (s : State) (r : Reg) (i j : Nat) (v : Word) : Bool :=
  let len := (rdF s .MIX_RAMP_DEF).toNat
  let waits := waitingFor s (addr r i j) ++ [(effectAt s s.now, v)]
  let sides := match r with
    | .SLOT_MAP => Tbl.getD s.ln.slotSides (32 * i + j) []
    | .HOST_MAP => Tbl.getD s.ln.hostSides i []
    | _ => Tbl.getD s.str.mapSides (64 * i + j) []
  decide ((sidesAfter len s.mix.stitch (waits.map fun w => (w.1, mapDst w.2)) sides).length ≤ 4)

def waitBoundary (s : State) : State :=
  let due := s.rf.waits.filter fun w => dueNow s w.1
  forEach due (landWaits s) fun w s => mapHook s w

/-- Lock bits that both units of a pair set at this boundary (R375). -/
def lockBoundary (s : State) : State :=
  let due := s.glb.lockPend.filter fun p => dueNow s p.1
  let bits := due.foldl (fun a p => a ||| p.2) 0
  if bits = 0 then s
  else
    let s := s.setGlb fun g => { g with
      locks := g.locks ||| bits, lockPend := g.lockPend.filter fun p => !dueNow s p.1 }
    raise s .GLB_EVENT 4

/-! ## The boundary -/

/-- The time bases at a boundary: a step that waited is applied, and entries it passes run (R216, R289). -/
def timeBoundary (s : State) : State :=
  forEach [0, 1, 2, 3] s fun k s =>
    let before := tns s k
    let s := stepPhase s k
    if before < tns s k then stepPasses s k else s

/-- The control rules and outputs at a boundary: outputs take the evaluation before, then the rules are evaluated
(R275, R282). -/
def ruleBoundary (s : State) (wrong : List Nat) : State :=
  evalBoth (forEach (List.range 8) s fun k s => coBoundary s k) wrong

/-- What changes at a boundary before inputs are taken: shedding, commits, enables (R82). -/
def changeBoundary (s : State) : State := enableBoundary (commitBoundary (shedBoundary s))

/-- The audio of a boundary: the block of the stitch before leaves, the input block is delivered (Table 01-2). -/
def audioBoundary (s : State) (env : StitchEnv) : State :=
  let s := bridgeBoundary (changeBoundary (metersBoundary s)) 1
  let s := hostOutput (txBoundary (laneBoundary s env.phases env.tails))
  let s := lockBoundary (waitBoundary s)
  replayBoundary (bridgeBoundary (hostInput (rxBoundary s)) 0)

/-- What is judged at a boundary before the stitch is computed. A DUCK_ACT that takes effect at a boundary is judged at
that boundary (R70, R71; DESIGN CHOICE, log entry 95). -/
def judgeBoundary (s : State) : State :=
  let s := metersGone s
  let s := forEach (s.dyn.hems.map (·.1)) s fun d s => hemClear s d
  let s := forEach (s.dyn.chains.map (·.1)) s fun k s => naBoundary s k
  duckAll (keyGates s)

/-- A unit that computes with the active one's state: its stitch waits for that one's decisions (R427, R428; DEDUCED, log
entry 109). -/
def awaits (s : State) : Bool :=
  s.pr.state == .standby || (s.pr.state == .joining && match s.pr.join with | some j => j.taken | none => false)

/-- The work of a stitch, now or once the decisions for it have arrived. -/
def stitchWork (s : State) (errs : List (Nat × List Int × List Int)) : State :=
  if awaits s then { s with pr := { s.pr with owed := some errs } } else engine s errs

/-- A stitch boundary of MC0. Before audio start only clocks, waiting values and rules move. `cfg` is what a
configuration reset does at its boundary, before any change that is due there (R397). -/
def boundary (s : State) (env : StitchEnv) (cfg : State → State := id) : State :=
  if s.glb.inReset then s
  else
    let s := mcsPass (s.setMix fun m => { m with boundaryAt := s.now })
    if !s.mix.audioOn then
      let s := { s with shed := { s.shed with fenced := none } }
      let s := gridWatch (refBoundary (timeBoundary (cfg s)) env.loops env.temp)
      ruleBoundary (lockBoundary (waitBoundary s)) env.wrong
    else
      let s := s.setMix fun m =>
        let shown := m.tables
        let m := if m.ran then m.stepRamps else m
        { m with shown := shown, stitch := (m.stitch + 1) % 2 ^ 64 }
      let s := gridWatch (refBoundary (timeBoundary (cfg s)) env.loops env.temp)
      let s := ruleBoundary (judgeBoundary (audioBoundary s env)) env.wrong
      vcoreEval (stitchWork s env.errs)

/-- RAMP_END: ramps that reached their last stitch settle, what ramped out is deleted and frees its demand, its meters and
detectors with it (R74, R104). -/
def rampEnd (s : State) : State := vcoreEval (metersGone (s.setMix Mix.endRamps))

end Sys2Proof.Machine
end

