-- ==== Sys2Proof/Machine/Synths.lean ====
section
/-! DEFINITION. Synthesizers, their hand-overs and tests, MCK and pulse outputs (spec/11). -/

namespace Sys2Proof.Machine

/-- After a full reset SYk serves MCk and SY4 is the spare (R250). -/
def syOf (s : State) (k : Nat) : Sy :=
  Tbl.getD s.syn.sy k (if k < 4 then { mc := k } else { state := .free })
def setSy (s : State) (k : Nat) (x : Sy) : State := s.setSyn fun y => { y with sy := Tbl.put y.sy k x }
def plsOf (s : State) (p : Nat) : Pls := Tbl.getD s.syn.pls p {}
def setPls (s : State) (p : Nat) (x : Pls) : State := s.setSyn fun y => { y with pls := Tbl.put y.pls p x }

/-- The synthesizer that serves a media clock (SYN_MAP). -/
def serves (s : State) (m : Nat) : Nat :=
  ((List.range 5).find? fun k => ((syOf s k).state == .live || (syOf s k).state == .coast) && (syOf s k).mc == m).getD 0

/-- The synthesizer that is not live. -/
def spareOf (s : State) : Nat :=
  ((List.range 5).find? fun k => (syOf s k).state != .live && (syOf s k).state != .coast).getD 4

/-- The spare can serve a hand-over: FREE, or in a retest that it abandons (R259). -/
def spareFree (s : State) : Bool :=
  let x := syOf s (spareOf s)
  x.state == .free || (x.state == .test && x.retest)

/-- Do the last `n` phase errors of a list, in 1/16 ns, all satisfy a bound? -/
def lastAll (n : Nat) (errs : List Int) (p : Int → Bool) : Bool :=
  decide (n ≤ errs.length) && (errs.reverse.take n).all p

/-- SY_PHERR: the phase error measured last (R253). -/
def lastErr (errs : List Int) (old : Int) : Int := clampI (-2147483648) 2147483647 (errs.getLastD old)

/-- The loss criterion (R254): the phase error beyond LOL_WIN in 4 reference cycles running, or the control word near an
end of its band. -/
def lolMet (s : State) (atEdge : Bool) (errs : List Int) : Bool :=
  atEdge || lastAll 4 errs fun e => decide (16 * fv s .SYN_LOL_LOL_WIN < e.natAbs)

/-- SYN_LOSS_OF_LOCK (R254): the synthesizer coasts at the frequency it has. -/
def synLoss (s : State) (k : Nat) (atEdge : Bool) (errs : List Int) : State :=
  let x := syOf s k
  if x.state = .live ∧ lolMet s atEdge errs then
    raise (setSy s k { x with
      state := .coast, word := (mcOf s x.mc).freq, lostAt := s.now, atEdge := atEdge, tryAt := none, noSpare := false
      pherr := lastErr errs x.pherr, lols := satInc 0xFFFF x.lols }) .SYN_EVENT 1
  else s

/-- SYN_RELOCK_ATTEMPT (R256): 1 ms after a loss on phase error, then once every second without a spare. -/
def synTry (s : State) (k : Nat) : State :=
  let x := syOf s k
  let due := match x.tryAt with
    | none => x.lostAt + 1000000
    | some t => t + 1000000000
  if x.state = .coast ∧ !x.atEdge ∧ due ≤ s.now ∧ (x.tryAt.isNone ∨ x.noSpare) then
    setSy s k { x with tryAt := some s.now }
  else s

/-- The in-service lock criterion (R253). -/
def lockMet (s : State) (errs : List Int) : Bool :=
  lastAll (fv s .SYN_LOCK_LOCK_N) errs fun e => decide (e.natAbs ≤ 16 * fv s .SYN_LOCK_LOCK_WIN)

/-- IN_PLACE_RELOCK (R256): the in-service criterion is met within 20 ms of the loss, or during a repeated attempt. -/
def synRelock (s : State) (k : Nat) (errs : List Int) : State :=
  let x := syOf s k
  match x.tryAt with
  | some _ =>
    if x.state = .coast ∧ !x.atEdge ∧ (s.now ≤ x.lostAt + 20000000 ∨ x.noSpare) ∧ lockMet s errs then
      let s := setSy (mcRunOn s x.mc) k { x with
        state := .live, pherr := lastErr errs x.pherr, tryAt := none, noSpare := false, relocks := satInc 0xFF x.relocks }
      mcRelocked (raise s .SYN_EVENT 2) x.mc
    else s
  | none => s

/-- A coasting synthesizer needs the spare: at a band edge at once, else 20 ms after its loss (R256). -/
def needsSpare (s : State) (k : Nat) : Bool :=
  let x := syOf s k
  x.state == .coast && (x.atEdge || decide (x.lostAt + 20000000 ≤ s.now))

/-- A hand-over to the spare runs for this media clock (R257). -/
def handingOver (s : State) (m : Nat) : Bool :=
  (syOf s (spareOf s)).state == .handover && (syOf s (spareOf s)).mc == m

/-- NO_SPARE (R256): the media clock takes its row of Table 10-4 for a synthesizer coasting with no spare free; a
standby's state is the active unit's (R248). -/
def synNoSpare (s : State) (m : Nat) : State :=
  let k := serves s m
  let x := syOf s k
  if x.state = .coast ∧ x.mc = m ∧ x.lostAt + 20000000 ≤ s.now ∧ !spareFree s ∧ !handingOver s m ∧ !x.noSpare then
    let s := raise (setSy s k { x with noSpare := true }) .SYN_EVENT 0x10
    let s := setMc s m { mcOf s m with coast := true }
    if fb s .MC_CTRL_SW m ∨ mcMirrors s then s
    else match (mcOf s m).state with
      | .acquiring => fallBack s m
      | .locked => fallBack s m
      | _ => s
  else s

/-- The coasting synthesizer a hand-over serves: lowest media clock first (R260). -/
def handoverFor (s : State) : Option Nat :=
  (List.range 4).findSome? fun m => if needsSpare s (serves s m) && (syOf s (serves s m)).mc == m then some m else none

/-- HANDOVER_START (R257, R259, R260). -/
def handoverStart (s : State) : State :=
  match handoverFor s with
  | some m =>
    if spareFree s then
      let k := spareOf s
      let (n, s) := draw s
      setSy s k { syOf s k with
        state := .handover, mc := m, retest := false, fails := 0, band := (Config.synBand n).toNat }
    else s
  | none => s

/-- HANDOVER_SWITCHOVER (R257, R258): if the media clock still coasts. -/
def handoverSwitch (s : State) : State :=
  let k := spareOf s
  let x := syOf s k
  let old := serves s x.mc
  if x.state = .handover ∧ (syOf s old).state = .coast then
    let s := mcRunOn s x.mc
    let s := setSy s old { syOf s old with state := .test, tryAt := none, noSpare := false, fails := 0, retest := false }
    let s := setSy s k { x with state := .live, pherr := 0 }
    let s := setMc s x.mc { mcOf s x.mc with removing := true }
    mcRelocked (raise s .SYN_EVENT 4) x.mc
  else s

/-- HANDOVER_FAIL (R257). -/
def handoverFail (s : State) : State :=
  let k := spareOf s
  let x := syOf s k
  if x.state = .handover then setSy s k { x with state := .test, fails := 0, retest := false } else s

/-- The third failed test in a row (R259). -/
def synFailed (s : State) (k : Nat) : State :=
  let x := syOf s k
  reportFault (raise (setSy s k { x with
    state := .failed, fails := 0, lastTest := s.now, retest := false, testFails := satInc 0xFF x.testFails }) .SYN_EVENT 8) 0x17 k 2

/-- The counter criterion (R253): Δf of a 1 ms gate, in 10^-9 of the target, within 1 ppm; none where acquisition
failed. -/
def counterMet (dev : Option Int) : Bool := dev.any fun d => decide (d.natAbs ≤ 1000)

/-- SYN_TEST_DONE (R259). -/
def synTestDone (s : State) (k : Nat) (dev : Option Int) (band : Nat) : State :=
  let x := syOf s k
  if x.state = .test then
    if counterMet dev then setSy s k { x with state := .free, fails := 0, lastTest := s.now, retest := false, band := band }
    else if x.fails < 2 then setSy s k { x with fails := x.fails + 1, band := band }
    else synFailed (setSy s k { x with band := band }) k
  else s

/-- Start-up (R252, R261): every synthesizer searches its band and locks by the counter criterion, its test for the retest
timer of the spare (R259). -/
def synStart (s : State) : State :=
  forEach [0, 1, 2, 3, 4] s fun k s =>
    let (n, s) := draw s
    setSy s k { syOf s k with band := (Config.synBand n).toNat, lastTest := s.now }

/-- SY_STATUS FAMILY: the family of the target (R251, R257, R259). -/
def syFamily (s : State) (k : Nat) : Nat :=
  match (syOf s k).state with
  | .live => ff s .MC_CTRL_FAMILY (syOf s k).mc
  | .coast => ff s .MC_CTRL_FAMILY (syOf s k).mc
  | .handover => ff s .MC_CTRL_FAMILY (syOf s k).mc
  | _ => 0

/-- SYN_RETEST_TIMER (R259). -/
def synRetest (s : State) (k : Nat) : State :=
  let x := syOf s k
  if x.state = .free ∧ x.lastTest + 60000000000 ≤ s.now then setSy s k { x with state := .test, retest := true, fails := 0 }
  else s

def synStartTest (s : State) (k : Nat) : State := setSy s k { syOf s k with state := .test, retest := false, fails := 0 }

/-! ## MCK (R265) -/

def mckRunning (s : State) (j : Nat) : Bool := s.syn.mck.contains j

/-- MCK_CFG written: the output starts, or stops after its cycle. -/
def mckSet (s : State) (j : Nat) (on : Bool) : State :=
  s.setSyn fun y => { y with mck := if on then (if y.mck.contains j then y.mck else j :: y.mck) else y.mck.filter (· != j) }

/-- The outputs run as their registers say: in a unit that has taken the active unit's registers (R266, R430). -/
def mckFollow (s : State) : State := forEach [0, 1, 2, 3] s fun j s => mckSet s j (fb s .MCK_CFG_EN j)

/-- The nominal frequency of an MCK pin: MULT × fs (R263). -/
def mckHz (s : State) (j : Nat) : Nat :=
  128 * 2 ^ fv s .MCK_CFG_MULT j * if fb s .MCK_CFG_FAM j then 44100 else 48000

/-- What an MCK pin carries: divided by an exact ratio from the DCO of the synthesizer that serves SRC; it drives low
while it does not run (R263, R265). -/
def mckOut (s : State) (j : Nat) : Option MckOut :=
  let m := fv s .MCK_CFG_SRC j
  let d := dcoHz s m
  let g := Nat.gcd d (mckHz s j)
  if mckRunning s j then
    some { synth := serves s m, num := d / g, den := mckHz s j / g, hz := mckHz s j, freq := outFreq s m }
  else none

/-! ## Pulse outputs (R267 to R269) -/

/-- Half the period of a pulse output's source in ns, as a fraction. -/
def plsHalf (s : State) (w : Word) : Nat × Nat :=
  let i := fld w 16 2
  if fld w 18 1 = 1 then (500000000, 1)
  else if fv s .REF_CFG_KIND i = 4 then
    (500000000 * (if fv s .REF_CFG_DEN i = 1 then 1001 else 1), fv s .REF_NUM_NUM i)
  else (500000000, 1)

/-- OFS within its limits for the source (R267). -/
def plsOfsOk (s : State) (w : Word) (ofs : Int) : Bool := decide (ofs.natAbs * (plsHalf s w).2 ≤ (plsHalf s w).1)

/-- WIDTH shorter than half the period (R267). -/
def plsWidthOk (s : State) (w : Word) (us : Nat) : Bool := decide (us * 1000 * (plsHalf s w).2 < (plsHalf s w).1)

/-- The source kind allows the output to be enabled (R267). -/
def plsSourceOk (s : State) (w : Word) : Bool :=
  fld w 18 1 == 1 || fv s .REF_CFG_KIND (fld w 16 2) == 1 || fv s .REF_CFG_KIND (fld w 16 2) == 4

/-- EN written 1: counters clear, nothing measured (R269). EN written 0: the output stops. -/
def plsEnable (s : State) (p : Nat) : State := setPls s p {}
def plsDisable (s : State) (p : Nat) : State := setPls s p { plsOf s p with measured := false, due := false, overs := 0 }

/-- OFS written: ERR counts from the new offset, and the next pulse realigns by it (R268, R269; DEDUCED, log entry 76). -/
def plsOffset (s : State) (p : Nat) (old new : Int) : State :=
  let x := plsOf s p
  setPls s p { x with due := true, err := if x.measured then clampI (-2147483648) 2147483647 (x.err + old - new) else x.err }

/-- The source pulse of a time base: how far its time less ACC is past a whole second, in ns (R267). -/
def secondPast (s : State) (k : Nat) : Int := ((tns s k : Int) - (tbOf s k).acc) % 1000000000

/-- The instant of a source pulse that is measured now, in its media clock's time: for a reference input at the edge
that was measured, in ns from now; for a time base at the whole second that its time less ACC has just reached; none
where there is no pulse (R267). -/
def sourceAt (s : State) (p : Nat) (edge : Int) : Option Int :=
  let t := mcTime s (fv s .PLS_CFG_MC p)
  if fv s .PLS_CFG_SRCKIND p = 0 then some (t + edge)
  else
    let d := secondPast s (fv s .PLS_CFG_INDEX p)
    if d < 2 then some (t - d) else none

/-- The nominal period of the source in ns. -/
def plsPeriod (s : State) (p : Nat) : Nat :=
  let h := plsHalf s (rd s .PLS_CFG p)
  2 * h.1 / max 1 h.2

/-- The period an output keeps: that between the last two source pulses in the media clock's time, where none was missing
between them (R268). -/
def keptPeriod (s : State) (p : Nat) (x : Pls) (t : Int) : Nat :=
  let n := plsPeriod s p
  let old := if x.period = 0 then n else x.period
  match x.srcAt with
  | some u => if (2 * (t - u) - 2 * (n : Int)).natAbs < n then (t - u).toNat else old
  | none => old

/-- ERR: the output pulse nearest to the source pulse + OFS, less that (R268). -/
def plsErr (x : Pls) (goal : Int) : Int :=
  let next := x.nextAt - goal
  match x.lastAt with
  | some u => clampI (-2147483648) 2147483647 (if (u - goal).natAbs < next.natAbs then u - goal else next)
  | none => 0

/-- PLS_SOURCE_PULSE (R268, R269): the source pulse is measured. An output with no pulse sent yet places its first one. -/
def plsSource (s : State) (p : Nat) (edge : Int) : State :=
  if fb s .PLS_CFG_EN p then
    match sourceAt s p edge with
    | none => s
    | some t =>
      let x := plsOf s p
      let per := keptPeriod s p x t
      let goal := t + (rd s .PLS_OFS p).toInt
      let x := { x with measured := true, srcAt := some t, period := per }
      if x.aligned then
        let e := plsErr x goal
        let far := decide (fv s .PLS_TOL_TOL p < e.natAbs) && !(mcOf s (fv s .PLS_CFG_MC p)).switching
        setPls s p { x with
          err := e, overs := if far then x.overs + 1 else 0, due := x.due || (far && decide (2 ≤ x.overs)) }
      else setPls s p { x with nextAt := if goal < t then goal + per else goal }
  else s

/-- Where the next pulse begins: a realignment that is due moves it by −ERR, but not while the clock switches (R269). -/
def plsNext (s : State) (p : Nat) : Int :=
  let x := plsOf s p
  if x.aligned && x.due && !(mcOf s (fv s .PLS_CFG_MC p)).switching then x.nextAt - x.err else x.nextAt

/-- PLS_OUTPUT_PULSE (R268, R269): the next pulse, once its instant has come, and a period on the one after it; a
realignment skips a pulse that would begin less than one WIDTH after the end of the pulse before. -/
def plsOutput (s : State) (p : Nat) : State :=
  let x := plsOf s p
  let t := plsNext s p
  let us := fv s .PLS_WIDTH_WIDTH p
  if !fb s .PLS_CFG_EN p || !x.measured || decide (mcTime s (fv s .PLS_CFG_MC p) < t) then s
  else
    let turned := x.aligned && x.due && !(mcOf s (fv s .PLS_CFG_MC p)).switching
    let early := turned && match x.lastEnd with | some u => decide (t < u + 1000 * us) | none => false
    let x1 := { x with nextAt := t + x.period, aligned := true, due := x.due && x.aligned && !turned }
    let x2 := if turned then { x1 with overs := 0, count := satInc 0xFFFF x.count } else x1
    let s := if turned then raise (setPls s p x2) .SYN_EVENT 0x20 else setPls s p x2
    if early then s
    else emit (setPls s p { plsOf s p with lastAt := some t, lastEnd := some (t + 1000 * us) })
      (.pulse p t (t - x.nextAt) us (!fb s .PLS_CFG_POL p))

/-- SYN_MAP (Table 11-4). -/
def synMap (s : State) : Word :=
  let k := spareOf s
  word (at_ 31 (b2n ((syOf s k).state == .free)) + at_ 16 k + at_ 12 (serves s 3) + at_ 8 (serves s 2) +
    at_ 4 (serves s 1) + serves s 0)

def SyState.num : SyState → Nat
  | .live => 0 | .coast => 1 | .free => 2 | .handover => 3 | .test => 4 | .failed => 5

end Sys2Proof.Machine
end

