-- ==== Sys2Proof/Machine/Thimble.lean ====
section
/-! DEFINITION. The thimble: the fault log, bars, safe states, engine mute, QUIET, removal and full resets (spec/19;
spec/16 R372; spec/17 R393 to R395, R406). -/

namespace Sys2Proof.Machine

/-! ## The faults (Table 19-3) -/

/-- A row of Table 19-3: reaction code, whether QUIET is entered at once, 0 no bar, 1 until a full reset, 2 while the
condition stands. -/
def faultRow : Nat → Nat × Bool × Nat
  | 0x01 => (5, true, 1) | 0x02 => (5, true, 1) | 0x03 => (3, false, 1) | 0x04 => (0, false, 2)
  | 0x05 => (5, false, 1) | 0x06 => (5, true, 1) | 0x07 => (0, false, 2) | 0x08 => (0, false, 1)
  | 0x09 => (2, false, 1) | 0x0A => (1, false, 1) | 0x0B => (1, false, 1) | 0x0C => (1, false, 1)
  | 0x0D => (2, false, 1) | 0x0E => (2, false, 1) | 0x0F => (0, false, 0) | 0x10 => (2, false, 0)
  | 0x11 => (5, true, 1) | 0x12 => (4, false, 1) | 0x13 => (4, false, 1) | 0x14 => (3, false, 2)
  | 0x15 => (5, true, 1) | 0x16 => (6, false, 1) | 0x17 => (0, false, 0) | 0x18 => (2, false, 0)
  | 0x19 => (5, false, 1)
  | _ => (0, false, 0)

/-- The region Table 19-3 gives a fault that has a single one; for the others the reporter names it (R480). -/
def faultRegion (code region : Nat) : Nat :=
  if code ≤ 0x06 ∨ code = 0x08 then 3
  else if code = 0x07 ∨ (0x0F ≤ code ∧ code ≤ 0x19) then 2
  else region

/-- The row of Table 16-1 that an offset of BAR0 lies in. -/
def blockRow (off : Nat) : Nat :=
  let n := off / 65536
  if n < 6 then n
  else if n < 0x08 then 6 else if n < 0x10 then 7 else if n < 0x20 then 8 else if n < 0x24 then 9
  else if n < 0x26 then 10 else if n < 0x28 then 11 else if n < 0x2A then 12 else if n < 0x2C then 13
  else if n < 0x2E then 14 else if n < 0x30 then 15 else if n < 0x38 then 16 else 17

/-! ## Log and bars (R446, R456) -/

/-- One entry of the fault log (R456, Table 19-7). -/
def logFault (s : State) (r : Report1) : State :=
  let row := faultRow r.code
  let old := Tbl.getD s.saf.log s.saf.next {}
  let e : Flt := {
    code := r.code, region := faultRegion r.code r.region, reaction := row.1, bar := row.2.2 != 0, inj := r.inj
    boot := s.glb.boots % 65536, detail := r.detail, stitch := s.mix.stitch % 2 ^ 32, tack := tack s 0 }
  raise (s.setSaf fun y => { y with
    log := Tbl.put y.log y.next e, next := (y.next + 1) % 64
    lost := if old.code ≠ 0 then satInc 0xFFFF y.lost else y.lost }) .SAF_EVENT 1

/-- A bar begins (R446). -/
def barOn (s : State) (code : Nat) : State :=
  if (faultRow code).2.2 = 0 ∨ (Tbl.get? s.saf.bars code).isSome then s
  else raise (s.setSaf fun y => { y with bars := Tbl.put y.bars code s.now }) .SAF_EVENT 2

/-- Bars tied to a condition end with it (R446): TCXO_FAULT for code 0x07, CFG_FAULT for 0x14. -/
def barsEnd (s : State) : State :=
  let s := if s.ref.tcxoFault then s else s.setSaf fun y => { y with bars := Tbl.del y.bars 0x07 }
  if s.glb.cfgFault then s else s.setSaf fun y => { y with bars := Tbl.del y.bars 0x14 }

/-! ## Engine mute (R453) -/

/-- Every output block of this stitch becomes the fade. -/
def muteNow (s : State) : State :=
  let s := s.setMix fun m => { m with dests := Tbl.mapV m.dests fun d x => { x with out := underCeil s d (fadeBlock x.prev) } }
  forEach (s.mix.dests.map (·.1)) s fun d s => voxAgain s d

/-- Engine mute from this stitch, or from the next one after its fence (R11, R453). -/
def engineMute (s : State) : State :=
  if s.saf.mute ≠ 0 then s
  else
    let s := raise s .SAF_EVENT 4
    if s.mix.ran ∧ s.now < s.mix.boundaryAt + 117000 then muteNow (s.setSaf fun y => { y with mute := 2 })
    else s.setSaf fun y => { y with mute := 1 }

/-! ## QUIET and removal (R406, R455) -/

def stopLanes (s : State) : State := forEach (List.range 8) s fun g s => cgStopping s g

def portsOff (s : State) : State := forEach [0, 1, 2, 3] s fun n s => portEnable s n false

/-- MCK outputs stop on whole cycles, pulse outputs stop (R265, R455). -/
def clocksOff (s : State) : State :=
  forEach [0, 1, 2, 3] (s.setSyn fun y => { y with mck := [] }) fun p s => plsDisable s p

/-- Every lane group is OFF. -/
def lanesDone (s : State) : Bool := (List.range 8).all fun g => (groupOf s g).state == .off

/-- A heartbeat in progress is cut (R455). -/
def cutHeartbeat (s : State) : State :=
  match s.pr.hbAt with
  | some t => if s.now < t + 5760 then emit s .heartbeatCut else s
  | none => s

/-- A witness that goes QUIET drops both of its lines (R455). -/
def dropLines (s : State) : State :=
  if isWitness s then emit (s.setWit fun w => { w with lineA := false, lineB := false, state := .none }) (.oeLines false false)
  else s

/-- Entry into QUIET (R455). -/
def enterQuiet (s : State) (how : QuietHow) : State :=
  if s.glb.mode = .quiet then s
  else
    let s := cutHeartbeat (s.setGlb fun g => { g with mode := .quiet })
    let s := s.setSaf fun y => { y with quiet := some how, quietAt := s.now }
    let s := if isPair s then setGate s false else s
    let s := coGateAll (wakeUpdate (clocksOff (closeAll (portsOff (dropLines s)))))
    match how with
    | .inOrder => stopLanes s
    | .atOnce => stopLanes (emit s (.laneForce true))

/-- A lone unit in QUIET entered in order releases its gate once its lanes have finished (R455). -/
def quietGate (s : State) : State :=
  if s.saf.quiet = some .inOrder ∧ lanesDone s ∧ s.glb.gate then setGate s false else s

/-- After 1.5 ms of zero the lane pins go high-impedance; the groups go on to OFF as in R145 (R147, R455). -/
def quietLaneRelease (s : State) : State :=
  if s.saf.quiet = some .atOnce ∧ !s.saf.lanesOff ∧ s.saf.quietAt + 1500000 ≤ s.now then
    let s := emit (s.setSaf fun y => { y with lanesOff := true }) (.laneForce false)
    setGate s false
  else s

/-- Steps 2 and 3 of the hand-off (R406): groups stop, control outputs are de-energized, legs stop after their packets
in progress, sessions close. -/
def removalSteps (s : State) : State :=
  let s := s.setPl fun p => { p with eject := false }
  let s := s.setGlb fun g => { g with sendA := false, sendB := false, sendOne := false }
  wakeUpdate (closeAll (coGateAll (stopLanes s)))

/-- EJECT (R406, R407): a unit of a pair gives up its role first; an active one goes on when its gate has fallen. -/
def ejectStart (s : State) : State :=
  if s.glb.mode = .removing then s
  else
    let bare := s.glb.mode == .bare
    let s := raise s .PL_EVENT 0x10
    let s := if s.glb.mode = .quiet then s else s.setGlb fun g => { g with mode := .removing }
    if bare then emit ((removalSteps s).setGlb fun g => { g with ledEject := true }) .ledEject
    else
      let s := yieldRole s
      if s.pr.state = .yielded ∧ s.glb.gate then s.setPl fun p => { p with eject := true } else removalSteps s

/-- LED_EJECT lights once every step is complete (R406). -/
def ejectDone (s : State) : State :=
  if s.glb.mode = .removing ∧ !s.pl.eject ∧ !s.glb.ledEject ∧ lanesDone s then
    emit (s.setGlb fun g => { g with ledEject := true }) .ledEject
  else s

/-- A yielding unit whose gate has fallen goes on with the removal (R425). -/
def yieldDone (s : State) : State :=
  let s := s.setPr fun p => { p with yieldRun := none }
  if s.pl.eject then removalSteps s else s

/-! ## Safe states (R454, Table 19-4) -/

/-- Every seam and converter is disabled. -/
def bridgesOff (s : State) : State :=
  forEach s.rb.convs (forEach s.rb.seams s fun e s => seamOff s e.1) fun e s => scOff s e.1

/-- What each block does in its safe state. -/
def safeAct (s : State) (row : Nat) : State :=
  match row with
  | 1 => vToCap s
  | 2 => forEach [0, 1, 2, 3] s fun k s =>
      let s := stopSlew s k
      if (tbOf s k).state = .mirrored then s else tbState s k .holding
  | 3 => forEach [0, 1, 2, 3] s fun m s => fallBack s m
  | 4 => forEach [0, 1, 2, 3, 4] s fun k s =>
      if (syOf s k).state = .live then setSy s k { syOf s k with state := .coast, lostAt := s.now } else s
  | 5 => stopLanes s
  | 6 => portsOff s
  | 7 => forEach s.str.tx (forEach s.str.rx s fun e s => if e.2.enabled then disableLater s .rx e.1 else s) fun e s =>
      if e.2.enabled then disableLater s .tx e.1 else s
  | 10 => vcoreEval (bridgesOff s)
  | 11 => coGateAll s
  | 12 => forEach s.spl.spools s fun e s => resetSpool s e.1
  | 13 => wakeUpdate s
  | 14 => closeAll s
  | 15 => yieldRole s
  | 17 => abortXfer s
  | _ => s

/-- A block enters its safe state (R372, R447, R454): under engine mute those of the mixing, dynamics and seam blocks
are absorbed. -/
def safeState (s : State) (row : Nat) : State :=
  if row = 0 ∨ row = 16 then
    let s := raise (s.setSaf fun y => { y with safe := y.safe ||| 2 ^ row }) .SAF_EVENT 4
    enterQuiet s .inOrder
  else if (row = 8 ∨ row = 9 ∨ row = 10) ∧ s.saf.mute ≠ 0 then s
  else
    let s := raise (s.setSaf fun y => { y with safe := y.safe ||| 2 ^ row }) .SAF_EVENT 4
    let s := safeAct s row
    if row = 1 ∨ row = 8 ∨ row = 9 then engineMute s else s

/-- Register parity (R372): flag, first address, CFG_FAULT; the active role is relinquished. -/
def parityFault (s : State) (off : Nat) : State :=
  let s := raise s .GLB_EVENT 2
  let s := s.setGlb fun g => { g with
    parAddr := (match g.parAddr with | some a => some a | none => some (off / 4)), cfgFault := true }
  if s.pr.state = .active then yieldRole s else s

/-! ## Full resets (R393 to R395) -/

/-- A full reset (Table 17-5): everything returns to its state at reset; the fault log, the pattern NOR, the levels of
the straps and of the OE_ALLOW and PCIE_PERST# pins, what waits and the model's own record stay. `cause` is LAST_RESET;
at power-on the log is empty and the count of resets is 0. -/
def fullReset (s : State) (cause : Nat) : State :=
  let s0 := State.reset
  { s0 with
    now := s.now, freeCtr := s.freeCtr, emitted := (cutHeartbeat s).emitted, pending := s.pending
    glb := { s0.glb with
      straps := s.glb.straps, lastReset := cause, boots := if cause = 0 then 0 else (s.glb.boots + 1) % 65536 }
    pl := { s0.pl with norA := s.pl.norA, norB := s.pl.norB }
    pr := { s0.pr with line := s.pr.line, lineAt := s.pr.lineAt }
    evt := { s0.evt with perst := s.evt.perst, perstUp := s.evt.perstUp }
    saf := if cause = 0 then s0.saf else { s0.saf with log := s.saf.log, next := s.saf.next, lost := s.saf.lost } }

/-! ## Taking the faults of an instant (R445, R447) -/

/-- Put a report in ascending code order. -/
def insReport (r : Report1) : List Report1 → List Report1
  | [] => [r]
  | x :: xs => if r.code < x.code then r :: x :: xs else x :: insReport r xs

/-- Log one fault, its bar and its counters; parity sets CFG_FAULT; at code 0x04 Tj is not below 105 °C (R450). -/
def noteFault (s : State) (r : Report1) : State :=
  let s := barOn (logFault s r) r.code
  match r.code with
  | 0x04 => s.setSaf fun y => { y with cool := none }
  | 0x10 => s.setSaf fun y => { y with ue := satInc 0xFFFF y.ue }
  | 0x11 => s.setSaf fun y => { y with ue := satInc 0xFFFF y.ue }
  | 0x12 => s.setSaf fun y => { y with ue := satInc 0xFFFF y.ue }
  | 0x13 => s.setSaf fun y => { y with mismatches := satInc 0xFFFF y.mismatches }
  | 0x14 => parityFault s r.detail
  | _ => s

/-- The blocks that a fault of reaction 3 puts into their safe states. -/
def safeRows (r : Report1) : List Nat :=
  match r.code with
  | 0x03 => [5, 11]
  | 0x14 => [blockRow r.detail]
  | _ => []

/-- The reactions of the faults of one instant, the stronger absorbing the weaker (R447). -/
def reactAll (s : State) (rs : List Report1) : State :=
  let is5 (r : Report1) := (faultRow r.code).1 == 5
  if rs.any is5 then enterQuiet s (if rs.any fun r => is5 r && (faultRow r.code).2.1 then .atOnce else .inOrder)
  else
    let s := if rs.any fun r => (faultRow r.code).1 == 4 then engineMute s else s
    forEach (rs.flatMap safeRows) s fun row s => safeState s row

/-- The thimble takes what was reported (R445, R447): logged in ascending code order, then the reactions; none while
QUIET stands. A lockstep mismatch is followed by a full reset after 10 ms, a watchdog expiry by one at once. -/
def takeReports (s : State) : State :=
  match s.saf.due with
  | [] => s
  | due =>
    let rs := due.foldl (fun l r => insReport r l) []
    let live := s.glb.mode != .quiet
    let s := forEach rs (s.setSaf fun y => { y with due := [] }) fun r s => noteFault s r
    let s := if live then reactAll s rs else s
    let s := if live ∧ (rs.any fun r => r.code == 0x15) then s.setSaf fun y => { y with lockstepAt := some s.now } else s
    if rs.any fun r => r.code == 0x16 then fullReset s 3 else s

/-- Eight fence misses in a row of an exhausted fabric: QUIET in order (R449). -/
def exhaustedQuiet (s : State) : State :=
  if s.shed.exhausted ∧ 8 ≤ s.shed.missRun then enterQuiet s .inOrder else s

/-! ## Commands of the thimble -/

/-- LOCKSTEP_RESET_TIMER (R445). -/
def lockstepReset (s : State) : State :=
  match s.saf.lockstepAt with
  | some t => if t + 10000000 ≤ s.now then fullReset s 3 else s
  | none => s

/-- A measured junction temperature in 1/16 °C (R450): TEMP_WARN on its way up, armed again 5 °C below, and the time
below 105 °C. -/
def takeTj (s : State) (tj : Int) : State :=
  let warn : Int := 16 * (fv s .SAF_CFG_TEMP_WARN : Nat)
  let rises := s.saf.warnArmed && decide (warn ≤ tj)
  let s := s.setSaf fun y => { y with
    tj := tj
    warnArmed := if rises then false else y.warnArmed || decide (tj ≤ warn - 80)
    cool := if tj < 1680 then (match y.cool with | some t => some t | none => some s.now) else none }
  if rises then raise s .SAF_EVENT 8 else s

/-- TEMP_BAR_END (R450). -/
def tempBarEnd (s : State) : State :=
  match s.saf.cool with
  | some t => if t + 60000000000 ≤ s.now then s.setSaf fun y => { y with bars := Tbl.del y.bars 0x04 } else s
  | none => s

/-- ECC_HOUR_END (R451): the hour's count is published and judged. -/
def eccHour (s : State) (ce : Nat) : State :=
  let s := s.setSaf fun y => { y with ceHour := min ce 0xFFFF }
  if fv s .SAF_CFG_CE_MAX < ce then reportFault (raise s .SAF_EVENT 0x10) 0x0F 0 2 else s

/-- DIGEST_COMPARE (R452). -/
def digestCompare (s : State) (ok : Bool) : State :=
  let s := s.setSaf fun y => { y with passes := (y.passes + 1) % 65536 }
  if ok then s else reportFault s 0x13 0 2

/-- Why SAF_INJECT is refused (R457). -/
def injectFails (s : State) (v : Word) : List (Code × Bool) :=
  let code := fld v 0 8
  let okCode := decide (0x09 ≤ code ∧ code ≤ 0x0E) || decide (0x12 ≤ code ∧ code ≤ 0x15)
  [(.badValue, fld v 16 16 != 0x5356 || !okCode),
   (.wrongState, code == 0x09 && needlesOk s == 0),
   (.wrongState, code == 0x0D && s.mix.dests.isEmpty),
   (.wrongState, code == 0x0E && !(List.range 8).any fun k => fb s .CO_CFG_EN k)]

/-- The block of a destination whose copies are found to disagree after they have run (R102): the fade of the block they
gave, unless engine mute or a missed fence has taken its place. -/
def hemLate (s : State) (d : Nat) (x : Dst) : List Int :=
  match s.saf.mute, x.fence with
  | 0, .none => hemFade (hemOf s d).raw
  | 0, .ramp r => rampOut r (hemFade (hemOf s d).raw)
  | _, _ => x.out

/-- A hem disagreement of a destination that is presented from outside: its block fades, it is muted (R102, R457). -/
def injectHem (s : State) (d : Nat) : State :=
  let s := raise (setHem s d { hemOf s d with muted := true, ramp := none }) .DYN_EVENT 2
  voxAgain (s.setMix fun m => { m with dests := Tbl.upd m.dests d fun x => { x with out := hemLate s d x } }) d

/-- Reports made from here on count as injected. -/
def markInjected (n : Nat) (s : State) : State :=
  s.setSaf fun y => { y with due := (y.due.zipIdx).map fun e => if n ≤ e.2 then { e.1 with inj := true } else e.1 }

/-- SAF_INJECT (R457): the fault is presented to the thimble as if detected. In QUIET only the log takes it (R447). -/
def inject (s : State) (code : Nat) : State :=
  let live := s.glb.mode != .quiet
  let n := s.saf.due.length
  match code with
  | 0x09 =>
    match ((List.range 32).filter fun k => (needleOf s k).inService).getLast? with
    | some k => reportFault (if live then needleOut s k else s) 0x09 k (k / 16) true
    | none => s
  | 0x0A => reportFault (if live then paceFault s s.fab.pace else s) 0x0A 0 (slowRegion s) true
  | 0x0B => s.setSaf fun y => { y with injFence := true }
  | 0x0C =>
    if s.shed.exhausted ∨ !live then reportFault s 0x0C 0 (slowRegion s) true else markInjected n (exhaust s)
  | 0x0D =>
    match s.mix.dests.head? with
    | some (d, _) =>
      if (hemOf s d).muted then s else reportFault (if live then injectHem s d else s) 0x0D d 0 true
    | none => s
  | 0x0E =>
    match (List.range 8).find? fun k => fb s .CO_CFG_EN k with
    | some k => if live then markInjected n (coDisagree s k 2) else reportFault s 0x0E k 2 true
    | none => s
  | 0x14 => reportFault s 0x14 (addr .FAB_VHOLD) 2 true
  | c => reportFault s c 0 2 true

/-- A register joins those whose stored parity is wrong (R371; DEDUCED, log entry 103). -/
def addBad (l : List Nat) (off : Nat) : List Nat := if l.contains off then l else l ++ [off]

/-- SCRUB_PASS (R371, R372): the registers that this pass finds wrong beside those found before, whose check fails
again; a fault found before raises CFG_PARITY again and is logged no second time (log entry 108). -/
def scrubPass (s : State) (bad : List Nat) : State :=
  let s := s.setGlb fun g => { g with scrubCnt := (g.scrubCnt + 1) % 2 ^ 32 }
  let s := if s.rf.parityBad = [] then s else raise s .GLB_EVENT 2
  forEach bad s fun off s =>
    if s.rf.parityBad.contains off ∨ (findReg off).isNone then s
    else reportFault { s with rf := { s.rf with parityBad := s.rf.parityBad ++ [off] } } 0x14 off 2

/-- A fence miss that the thimble detects: which destinations are incomplete is open, but for at least one of them, and so
is the work that was complete (R54, R55, log entry 63). -/
def detectMiss (s : State) : State :=
  let (k, s) := draw s
  let ds := s.mix.dests.map (·.1)
  let missed := ds.filter (Config.missed k)
  reportFault (fenceMiss s (if missed.isEmpty then ds else missed) (Config.workDone k).toNat) 0x0B 0 (slowRegion s)

/-- A DRAM burst with an uncorrectable error: words of items in it leave poisoned, positions of jitter-buffer rings in it
read as empty (R181, R306); what lies there is open (log entry 50). -/
def dramError (s : State) (addr : Nat) : State :=
  let (k, s) := draw s
  forEach (Config.dramPlaces k addr) s fun p s =>
    let (ring, i, a, w) := p
    if ring then setRx s i { rxOf s i with ring := Tbl.del (rxOf s i).ring a }
    else setSp s i ((spOf s i).damage a w)

/-- What a fault that is detected has damaged, in every mode: the words and positions of a DRAM burst (R181, R306), a
register whose parity is wrong from then on (R371). -/
def damaged (s : State) (code detail : Nat) : State :=
  if code = 0x14 then { s with rf := { s.rf with parityBad := addBad s.rf.parityBad detail } }
  else if code = 0x10 then dramError s detail
  else s

/-- A fault that stands: those whose effect on an object is part of their detection have it (R35, R36, R54, R102, R283,
R307, R259); in QUIET the fault is reported only. -/
def detected (s : State) (code detail region : Nat) : State :=
  if s.glb.mode = .quiet then reportFault s code detail region
  else match code with
    | 0x14 => reportFault s 0x14 detail 2
    | 0x09 => reportFault (needleOut s (detail % 32)) 0x09 (detail % 32) (detail % 32 / 16)
    | 0x0A => reportFault (paceFault s s.fab.pace) 0x0A 0 (slowRegion s)
    | 0x0B => detectMiss s
    | 0x0C => exhaust s
    | 0x0D => if (Tbl.get? s.mix.dests detail).isSome then
        reportFault (injectHem s detail) 0x0D detail region else s
    | 0x0E => if detail < 8 then coDisagree s detail region else s
    | 0x07 =>
      if s.ref.tcxoFault then s
      else reportFault (raise (s.setRef fun r => { r with tcxoFault := true, agreeFrom := none }) .REF_EVENT 0x200) 0x07 0 2
    | 0x17 => if (syOf s detail).state = .test then synFailed s detail else s
    | 0x18 => if detail < 4096 then reportFault (raise (resetSpool s detail) .SPL_EVENT 4) 0x18 detail 2 else s
    | c => reportFault s c detail region

/-- FAULT_DETECT (R445): the thimble detects a fault of Table 19-3. A disagreement of a destination that is muted for one
already reports nothing (R103). -/
def detect (s : State) (code detail region : Nat) : State :=
  if code = 0 ∨ 0x19 < code ∨ (code = 0x0D ∧ (hemOf s detail).muted) then s
  else detected (damaged s code detail) code detail region

end Sys2Proof.Machine
end

