-- ==== Sys2Proof/Machine/RegChecks.lean ====
section
/-! DEFINITION. What each block's registers refuse (spec/02 to spec/19), beside the checks that every register shares
(R361): ranges between fields, present values of other registers, states of objects. -/

namespace Sys2Proof.Machine

/-- A write changes bits of a mask (R362). -/
def changes (s : State) (r : Reg) (i j : Nat) (v : Word) (mask : Nat) : Bool :=
  ((rd s r i j).toNat ^^^ v.toNat) &&& mask != 0

/-- More than one of a command register's bits is written 1. -/
def manyBits (v : Word) (n : Nat) : Bool := decide (1 < (bitsOf v.toNat n 0).length)

/-- A value lies in a range. -/
def within (v lo hi : Nat) : Bool := decide (lo ≤ v ∧ v ≤ hi)

/-- An object is enabled, one admitted and waiting for its boundary included. -/
def objOn (s : State) (o : ObjKind) (i : Nat) : Bool := (allLoads s).any fun l => l.kind == o.num && l.index == i && !l.out

/-! ## Global, fabric, mix (spec/16, spec/02, spec/03) -/

/-- GLB_RESET (Table 16-6). -/
def glbResetFails (s : State) (v : Word) : List (Code × Bool) :=
  [ (.badValue, (bit v 0 && bit v 1) || ((bit v 0 || bit v 1) && fld v 16 16 != 0x5356)),
    (.wrongState, bit v 0 && (s.pl.cfgRun || held s 17)) ]

def fabFails (s : State) (r : Reg) (v : Word) : List (Code × Bool) :=
  match r with
  | .FAB_VCAP => capFails s (fld v 0 7)
  | .FAB_RESERVE0 => resFails s (fld v 0 22)
  | _ => []

/-- The record staged in BS_REC0 to BS_REC3 of a set. -/
def stagedRec (s : State) (k : Nat) : Rec := ⟨rd s .BS_REC k 0, rd s .BS_REC k 1, rd s .BS_REC k 2, rd s .BS_REC k 3⟩

/-- One command of BS_CMD by its bit: OPEN, ADD, COMMIT, ABORT (R78, R79). -/
def bsBit (k : Nat) (s : State) (b : Nat) : State :=
  match b with
  | 0 => bsOpen s k .regPath
  | 1 => bsAdd s k [stagedRec s k]
  | 2 => regRequest (bsDeciding s k) (.commit k none)
  | _ => bsFree s k

/-- Why one command of BS_CMD is refused. -/
def bsBitFails (k : Nat) (s : State) (b : Nat) : List (Code × Bool) :=
  match b with
  | 0 => bsOpenFails s k
  | 1 => bsAddFails s k .regPath [stagedRec s k]
  | 2 => bsCommitFails s k .regPath ++ regRequestFails s
  | _ => bsOwned s k .regPath

/-- BS_CMD: the commands written 1, from the lowest bit on; each is judged after the ones before it, and the write is
refused when one of them is (DESIGN CHOICE, log entry 33). -/
def bsCmdFails (s : State) (k : Nat) (v : Word) : List (Code × Bool) :=
  ((bitsOf v.toNat 4 0).foldl (fun (a : State × List (Code × Bool)) b => (bsBit k a.1 b, a.2 ++ bsBitFails k a.1 b)) (s, [])).2

/-! ## Time bases, references, synthesizers (spec/09 to spec/11) -/

/-- TB_CTRL and what stands while EN is 1 (R199, R200, R225). -/
def tbFails (s : State) (r : Reg) (k : Nat) (v : Word) : List (Code × Bool) :=
  let en := fb s .TB_CTRL_EN k
  match r with
  | .TB_CMD => [(.badValue, manyBits v 2)]
  | .TC_CTRL => [(.badValue, [0, 2, 4, 6].any fun b => fld v b 2 == 3)]
  | .TB_CTRL =>
    let relay := fld v 26 2 == 2
    [ (.badValue, bit v 31 && !profileOk (fld v 28 3) (fld v 8 8) (fld v 24 2) (fv s .TB_INTV_LOG_SYNC k)
        (fv s .TB_INTV_LOG_ANN k) (fv s .TB_INTV_LOG_DELAY k)),
      (.badValue, bit v 31 && relay && fld v 28 3 != 4),
      (.wrongState, en && changes s .TB_CTRL k 0 v 0x7F87FF00),
      (.conflict, relay && [0, 1, 2, 3].any fun q => q != k && fv s .TB_CTRL_ROLE q == 2) ]
  | .TB_VLAN => [(.wrongState, en && changes s .TB_VLAN k 0 v 0x7FFF)]
  | .TB_INTV => [(.wrongState, en && changes s .TB_INTV k 0 v 0xFFFFFFFF)]
  | _ => []

/-- The software frequency offset in 10^-12 lies within ±200 ppm (R247). -/
def swFreqOk (x : Int) : Bool := decide (x.natAbs ≤ 200000000)

/-- The value of a pair of registers once the low word is written (R370). -/
def pairValue (s : State) (hi : Reg) (i : Nat) (v : Word) : Nat :=
  (Tbl.getD s.rf.hi (addr hi i) (rd s hi i)).toNat * 2 ^ 32 + v.toNat

/-- A running phase step of a media clock. -/
def stepRuns (s : State) (m : Nat) : Bool := (mcOf s m).stepEnd.isSome

def refFails (s : State) (r : Reg) (i j : Nat) (v : Word) : List (Code × Bool) :=
  let kind := fv s .REF_CFG_KIND i
  let rate := fv s .REF_CFG_RATE i
  let den := fv s .REF_CFG_DEN i
  let num := fv s .REF_NUM_NUM i
  let ofs := sext 32 (rd s .REF_OFS i).toNat
  match r with
  | .REF_CFG =>
    [(.badValue, !refRateOk (fld v 29 3) (fld v 24 4) (fld v 23 1) num ||
      !refOfsOk (fld v 29 3) (fld v 24 4) (fld v 23 1) num ofs)]
  | .REF_NUM => [(.badValue, !refRateOk kind rate den (fld v 0 27) || !refOfsOk kind rate den (fld v 0 27) ofs)]
  | .REF_OFS => [(.badValue, !refOfsOk kind rate den num (sext 32 v.toNat))]
  | .QL_W0 => [(.badValue, !within (fld v 0 11) 1 (fld v 16 11))]
  | .MC_CTRL => [(.badValue, i == 0 && bit v 29)]
  | .MC_OFS => [(.badValue, decide (500000000 < (sext 32 v.toNat).natAbs))]
  | .MC_SW_PS => [(.badValue, decide (1000000 < (sext 32 v.toNat).natAbs))]
  | .MC_TBL => [(.badValue, !tblEntryOk v || tblTwice s i j v), (.conflict, tblConflict s i j v)]
  | .MC_SW_FREQ_HI => [(.wrongState, !fb s .MC_CTRL_SW i)]
  | .MC_SW_FREQ_LO =>
    [(.badValue, !swFreqOk (sext 64 (pairValue s .MC_SW_FREQ_HI i v))), (.wrongState, !fb s .MC_CTRL_SW i)]
  | .REF_CMD =>
    let m := fv s .REF_CMD_ARG_MC
    [ (.badValue, manyBits v 3), (.wrongState, bit v 2 && !fb s .MC_CTRL_SW m), (.busy, bit v 2 && stepRuns s m) ]
  | _ => []

def synFails (s : State) (r : Reg) (i : Nat) (v : Word) : List (Code × Bool) :=
  match r with
  | .SYN_LOCK => [(.badValue, decide (fv s .SYN_LOL_LOL_WIN ≤ fld v 0 7))]
  | .SYN_LOL => [(.badValue, decide (fld v 0 9 ≤ fv s .SYN_LOCK_LOCK_WIN))]
  | .SYN_CMD =>
    let k := fv s .SYN_CMD_ARG_SY
    [ (.badValue, manyBits v 3), (.wrongState, bit v 2 && (syOf s k).state != .failed),
      (.wrongState, bit v 1 && (syOf s k).state != .free) ]
  | .MCK_CFG => [(.wrongState, fb s .MCK_CFG_EN i && changes s .MCK_CFG i 0 v 0x37)]
  | .PLS_CFG =>
    [ (.badValue, !plsOfsOk s v (sext 32 (rd s .PLS_OFS i).toNat) || !plsWidthOk s v (fv s .PLS_WIDTH_WIDTH i)),
      (.wrongState, fb s .PLS_CFG_EN i && changes s .PLS_CFG i 0 v 0x40370000),
      (.wrongState, bit v 31 && !fb s .PLS_CFG_EN i && !plsSourceOk s v) ]
  | .PLS_OFS => [(.badValue, !plsOfsOk s (rd s .PLS_CFG i) (sext 32 v.toNat))]
  | .PLS_WIDTH =>
    [ (.badValue, !plsWidthOk s (rd s .PLS_CFG i) (fld v 0 17)),
      (.wrongState, fb s .PLS_CFG_EN i && changes s .PLS_WIDTH i 0 v 0x1FFFF) ]
  | _ => []

/-! ## Lanes and host channels (spec/06) -/

/-- Who owns an end of a spool besides one internal block: the host window or another internal block (R293). -/
def prodTaken (s : State) (n : Nat) (butHost : Bool) : Bool :=
  fb s .SP_W0_HOST_P n || (!butHost && fb s .HOST_OUT_EN && fv s .HOST_OUT_SPOOL == n) ||
    (butHost && fb s .SES_MBOX_EN && fv s .SES_MBOX_RSP == n)

def consTaken (s : State) (n : Nat) (butHost : Bool) : Bool :=
  fb s .SP_W0_HOST_C n || (!butHost && hostInNames s n) || (butHost && mboxNames s n) || replayNames s n

def laneFails (s : State) (r : Reg) (i j : Nat) (v : Word) : List (Code × Bool) :=
  let off (g : Nat) : Bool := (groupOf s g).state == .off
  match r with
  | .CG_FMT => [(.badValue, cgFmtBad s i v), (.wrongState, !off i && changes s .CG_FMT i 0 v 0x3C3FFF0F)]
  | .CG_ACC => [(.badValue, !accOk (fld v 0 9) (cgSlots s i) (fv s .CG_FMT_WIDTH i) (cgMcb s i))]
  | .CG_CTRL =>
    [(.wrongState, bit v 0 && ((groupOf s i).state == .stopping ||
      (off i && within (cgMcb s i) 4 7 && !groupInTable s i)))]
  | .LANE_DIR => [(.wrongState, !off (i / 8) && changes s .LANE_DIR i 0 v 3)]
  | .SLOT_MAP => [(.badValue, !mapOk v), (.noCapacity, !mapRoom s .SLOT_MAP i j v)]
  | .HOST_MAP => [(.badValue, !mapOk v), (.noCapacity, !mapRoom s .HOST_MAP i j v)]
  | .HOST_IN =>
    [ (.wrongState, fb s .HOST_IN_EN && changes s .HOST_IN 0 0 v 0x37FFFF),
      (.conflict, bit v 31 && !fb s .HOST_IN_EN && consTaken s (fld v 0 12) true) ]
  | .HOST_OUT =>
    [ (.wrongState, fb s .HOST_OUT_EN && changes s .HOST_OUT 0 0 v 0x7F37FFFF),
      (.conflict, bit v 31 && !fb s .HOST_OUT_EN && prodTaken s (fld v 0 12) true) ]
  | _ => []

/-! ## Ports and switch (spec/07) -/

def portFails (s : State) (r : Reg) (i : Nat) (v : Word) : List (Code × Bool) :=
  let en := fb s .PORT_CTRL_EN i
  match r with
  | .SW_CMD =>
    let vid := fld (rd s .SW_MACW 0) 16 12
    let mac := fld (rd s .SW_MACW 0) 0 16 * 2 ^ 32 + (rd s .SW_MACW 1).toNat
    [ (.noCapacity, bit v 1 && (macWay s vid mac).isNone),
      (.notFound, bit v 2 && !bit v 1 && !macHasFixed s vid mac) ]
  | .PORT_CTRL =>
    [ (.badValue, !modeOffered i (fld v 0 3) || cbsLeft s i v), (.wrongState, en && changes s .PORT_CTRL i 0 v 0x1F) ]
  | .PORT_VLAN => [(.wrongState, en && changes s .PORT_VLAN i 0 v 0xC7000FFF)]
  | .CBS_A => [(.badValue, cbsBad s i true v)]
  | .CBS_B => [(.badValue, cbsBad s i false v)]
  | .PORT_CMD =>
    [ (.badValue, manyBits v 3 || (i == 4 && (bit v 0 || bit v 1)) || (bit v 0 && gateBad s i)),
      (.wrongState, bit v 1 && (portOf s i).pend.isNone) ]
  | .VLAN => [(.badValue, vlanBad s i v)]
  | _ => []

/-! ## Streams (spec/08) -/

/-- Why a disable is refused: nothing is enabled. -/
def disFails (s : State) (o : ObjKind) (i : Nat) : List (Code × Bool) := [(.wrongState, !objOn s o i)]

/-- A receive stream's words while it is enabled: only OFFSET may change (R197). -/
def rxWordFails (s : State) (r : Reg) (i j : Nat) (v : Word) : List (Code × Bool) :=
  let mask := if r = .RX_W1 then 0x7FFF else (desc r).rw
  (.wrongState, objOn s .rx i && changes s r i j v mask) ::
    if r = .RX_W1 then [(.badValue, fld v 16 11 % 6 != 0)] else []

/-- A transmit stream's words while it is enabled, or until its last packet has left (R193, R197). -/
def txWordFails (s : State) (r : Reg) (i j : Nat) (v : Word) : List (Code × Bool) :=
  [(.wrongState, (objOn s .tx i || (txOf s i).state != .off) && changes s r i j v (desc r).rw)]

def strFails (s : State) (r : Reg) (i j : Nat) (v : Word) : List (Code × Bool) :=
  match r with
  | .STR_CMD =>
    let x := fv s .STR_CMD_ARG_INDEX
    let req := bit v 0 || bit v 2
    (.badValue, manyBits v 7 || (bit v 6 && decide (63 < x))) :: (if req then regRequestFails s else []) ++
      (if bit v 1 then disFails s .rx x else []) ++ if bit v 3 then disFails s .tx x else []
  | .RX_W0 => rxWordFails s r i j v
  | .RX_W1 => rxWordFails s r i j v
  | .RX_W2 => rxWordFails s r i j v
  | .RX_W3 => rxWordFails s r i j v
  | .RX_W4 => rxWordFails s r i j v
  | .RX_DST_A => rxWordFails s r i j v
  | .RX_SRC_A => rxWordFails s r i j v
  | .RX_DST_B => rxWordFails s r i j v
  | .RX_SRC_B => rxWordFails s r i j v
  | .TX_W0 => txWordFails s r i j v
  | .TX_W1 => txWordFails s r i j v
  | .TX_W2 => txWordFails s r i j v
  | .TX_W3 => txWordFails s r i j v
  | .TX_W4 => txWordFails s r i j v
  | .TX_W5 => txWordFails s r i j v
  | .TX_W6 => txWordFails s r i j v
  | .TX_W7 => txWordFails s r i j v
  | .TX_DST_A => txWordFails s r i j v
  | .TX_DST_B => txWordFails s r i j v
  | .TX_SRC_A => txWordFails s r i j v
  | .TX_SRC_B => txWordFails s r i j v
  | .TX_DMAC_A_HI => txWordFails s r i j v
  | .TX_DMAC_A_LO => txWordFails s r i j v
  | .TX_DMAC_B_HI => txWordFails s r i j v
  | .TX_DMAC_B_LO => txWordFails s r i j v
  | .TX_CS0 => txWordFails s r i j v
  | .TX_CS => txWordFails s r i j v
  | .TX_MAP => [(.badValue, !mapOk v), (.noCapacity, !mapRoom s .TX_MAP i j v)]
  | .HK_W0 =>
    let busy := hankMembers s i != 0
    [ (.badValue, fld v 0 11 % 6 != 0), (.wrongState, busy && changes s .HK_W0 i 0 v 0x3000),
      (.conflict, busy && !bit v 31) ]
  | _ => []

/-! ## Dynamics, bridges (spec/04, spec/05) -/

/-- Ranges of the compressor words (Table 04-1). -/
def schFails (s : State) (r : Reg) (i : Nat) (v : Word) : List (Code × Bool) :=
  match r with
  | .SCH_W0 => [(.badValue, decide (4 < fld v 0 3)), (.noCapacity, !hpfRoom s i v)]
  | .SCH_W1 =>
    [(.badValue, !(within (fld v 24 8) 0 120 && (within (fld v 16 8) 10 200 || fld v 16 8 == 255) &&
      within (fld v 8 8) 0 24 && within (fld v 0 8) 0 48))]
  | .SCH_W2 => [(.badValue, !(within (fld v 16 10) 1 1000 && within (fld v 0 13) 5 5000))]
  | _ => []

def dynFails (s : State) (r : Reg) (i : Nat) (v : Word) : List (Code × Bool) :=
  match r with
  | .DYN_CMD =>
    let x := fv s .DYN_CMD_ARG_INDEX
    [ (.badValue, manyBits v 7 || (bit v 0 && decide (2047 < x)) || ((bit v 5 || bit v 6) && decide (255 < x))),
      (.wrongState, bit v 0 && !(hemOf s x).muted),
      (.wrongState, (bit v 3 || bit v 5) && s.fab.admPending) ] ++
      (if bit v 4 then disFails s .meter x else []) ++ if bit v 6 then disFails s .vox x else []
  | .HEM_W0 => [(.badValue, decide (40 < fld v 0 6))]
  | .HEM_W1 => [(.badValue, !within (fld v 0 9) 1 500)]
  | .VOX_W0 => [(.badValue, decide (160 < fld v 8 8) || !within (fld v 0 5) 1 16)]
  | .VOX_W1 => [(.badValue, decide (5000 < fld v 0 13))]
  | _ => schFails s r i v

/-- What a bridge's INPUT may hold (Table 05-7): a lane or stream channel selector, or a destination. -/
def bridgeInputBad (dir : Nat) (v : Word) : Bool :=
  if dir = 0 then !selectorOk v || (fld v 28 4 != 1 && fld v 28 4 != 2) else decide (2047 < v.toNat)

def rbFails (s : State) (r : Reg) (i : Nat) (v : Word) : List (Code × Bool) :=
  match r with
  | .RB_CMD =>
    let x := fv s .RB_CMD_ARG_INDEX
    [(.badValue, manyBits v 5), (.wrongState, (bit v 0 || bit v 2) && s.fab.admPending)] ++
      (if bit v 1 then disFails s .seam x else []) ++ if bit v 3 then disFails s .conv x else []
  | .SM_W0 =>
    [ (.badValue, !within (fld v 13 4) 1 8 || decide (1 < fld v 8 2) || (fld v 8 2 == 1 && decide (3 < fld v 0 3))),
      (.wrongState, objOn s .seam i && changes s .SM_W0 i 0 v 0x201E000) ]
  | .SM_W1 =>
    [ (.badValue, changes s .SM_W1 i 0 v 0xFFFFFFFF && bridgeInputBad (fv s .SM_W0_DIR i) v),
      (.wrongState, objOn s .seam i && changes s .SM_W1 i 0 v 0xFFFFFFFF) ]
  | .SC_W0 =>
    [ (.badValue, fld v 0 4 == 4 || decide (8 < fld v 0 4)),
      (.wrongState, objOn s .conv i && changes s .SC_W0 i 0 v 0x200000F) ]
  | .SC_W1 =>
    [ (.badValue, changes s .SC_W1 i 0 v 0xFFFFFFFF && bridgeInputBad (fv s .SC_W0_DIR i) v),
      (.wrongState, objOn s .conv i && changes s .SC_W1 i 0 v 0xFFFFFFFF) ]
  | _ => []

/-! ## Control I/O and schedule (spec/12) -/

/-- A word of a schedule entry that is ARMED or DECIDING (R288). -/
def seWordFails (s : State) (e : Nat) : List (Code × Bool) :=
  [(.conflict, (seOf s e).state == .armed || (seOf s e).state == .deciding)]

/-- The lock bits that later writes meet (R375): those set, and on the active unit of a pair those that wait for the
boundary at which both units set them. -/
def locksAsked (s : State) : Nat :=
  if s.glb.passive then s.glb.locks else s.glb.lockPend.foldl (fun a p => a ||| p.2) s.glb.locks

/-- The locked rules of R284. -/
def ruleLockFails (s : State) (k : Nat) : List (Code × Bool) := [(.locked, locksAsked s / 2 % 2 == 1 && ruleLocked s k)]

def cioFails (s : State) (r : Reg) (i : Nat) (v : Word) : List (Code × Bool) :=
  match r with
  | .CIO_CMD =>
    let x := fv s .CIO_CMD_ARG_INDEX
    [ (.badValue, manyBits v 4 || (bit v 0 && decide (31 < x)) || (bit v 1 && decide (7 < x))),
      (.wrongState, bit v 1 && (coOf s x).state != .held) ] ++
      (if bit v 2 then
        seWriteFails s x ++ (if seAction s x = 1 then bsOwned s (seSet s x) .regPath ++ regRequestFails s else [])
      else []) ++
      if bit v 3 then seDelFails s x else []
  | .GP_CFG => [(.conflict, gpDirConflict s i (fld v 30 2))]
  | .CO_CFG => [(.conflict, coConflict s i v)]
  | .CR_W0 => (.badValue, fld v 28 2 == 3) :: ruleLockFails s i
  | .CR_W1 => (.badValue, !opOk (fld v 16 16) || !opOk (fld v 0 16)) :: ruleLockFails s i
  | .CR_W2 => (.badValue, !opOk (fld v 16 16) || !opOk (fld v 0 16)) :: ruleLockFails s i
  | .CR_W3 => ruleLockFails s i
  | .CR_W4 => ruleLockFails s i
  | .CR_W5 => (.badValue, decide (fld v 0 20 < fv s .CR_W6_WIN_DUR i)) :: ruleLockFails s i
  | .CR_W6 => (.badValue, !within (fld v 0 20) 1 (fv s .CR_W5_WIN_PERIOD i)) :: ruleLockFails s i
  | .SE_W0 => seWordFails s i
  | .SE_W1 => seWordFails s i
  | .SE_W2 => seWordFails s i
  | .SE_W3 => seWordFails s i
  | .SE_W4 => seWordFails s i
  | _ => []

/-! ## Spools, events, sessions (spec/13 to spec/15) -/

def splFails (s : State) (r : Reg) (i : Nat) (v : Word) : List (Code × Bool) :=
  match r with
  | .SPL_CMD => [(.badValue, manyBits v 2), (.wrongState, bit v 0 && !fb s .SP_W0_EN (fv s .SPL_CMD_ARG_INDEX))]
  | .SP_W0 => spW0Fails s i v
  | .SP_W1 => spW1Fails s i v
  | _ => []

def evtFails (s : State) (r : Reg) (i : Nat) (v : Word) : List (Code × Bool) :=
  match r with
  | .EVT_CMD =>
    [(.badValue, manyBits v 2), (.wrongState, bit v 0 && !clrPendOk s (fv s .EVT_CMD_ARG_INDEX))]
  | .ATT_TX => [(.badValue, fld v 9 3 != 0)]
  | .ATT_CG => [(.badValue, bit v 11)]
  | .EV_CFG => [(.conflict, evCfgConflict s i v)]
  | .EV_OCFG => [(.badValue, fld v 24 2 != 1), (.conflict, evCfgConflict s (1792 + i) v)]
  | _ => []

def sesFails (s : State) (r : Reg) (v : Word) : List (Code × Bool) :=
  match r with
  | .SES_MBOX =>
    let on := bit v 31
    let same := fb s .SES_MBOX_EN && fv s .SES_MBOX_REQ == fld v 16 12 && fv s .SES_MBOX_RSP == fld v 0 12
    [ (.badValue, fld v 16 12 == fld v 0 12 && (on || changes s .SES_MBOX 0 0 v 0xFFF0FFF)),
      (.conflict, on && !same && (consTaken s (fld v 16 12) false || prodTaken s (fld v 0 12) false)) ]
  | .SES_CMD =>
    [(.badValue, manyBits v 2), (.wrongState, bit v 0 && (sesOf s (fv s .SES_CMD_ARG_SESSION)).isNone)]
  | _ => []

/-! ## Redundancy, safety, loader (spec/17 to spec/19) -/

def prFails (s : State) (r : Reg) (v : Word) : List (Code × Bool) :=
  match r with
  | .PR_CMD =>
    let st := s.pr.state
    [ (.badValue, manyBits v 3), (.wrongState, bit v 0 && st != .active),
      (.wrongState, bit v 1 && !(st == .standby || (st == .unsynced && (s.pr.cause == 1 || s.pr.cause == 2)))) ]
  | _ => []

def safFails (s : State) (r : Reg) (v : Word) : List (Code × Bool) :=
  match r with
  | .SAF_CMD => [(.badValue, manyBits v 2)]
  | .SAF_INJECT => injectFails s v
  | _ => []

def plFails (s : State) (r : Reg) (v : Word) : List (Code × Bool) :=
  match r with
  | .PL_CMD =>
    [(.badValue, manyBits v 2), (.wrongState, bit v 0 && (s.pl.xfer.isSome || s.pl.cfgRun || s.pl.rescan || held s 17))]
  | _ => []

/-- What the block of a register refuses. -/
def blockFails (s : State) (r : Reg) (i j : Nat) (v : Word) : List (Code × Bool) :=
  match blockRow (addr r i j) with
  | 0 => if r = .GLB_RESET then glbResetFails s v else []
  | 1 => fabFails s r v
  | 2 => tbFails s r i v
  | 3 => refFails s r i j v
  | 4 => synFails s r i v
  | 5 => laneFails s r i j v
  | 6 => portFails s r i v
  | 7 => strFails s r i j v
  | 8 => if r = .BS_CMD then bsCmdFails s i v else []
  | 9 => dynFails s r i v
  | 10 => rbFails s r i v
  | 11 => cioFails s r i v
  | 12 => splFails s r i v
  | 13 => evtFails s r i v
  | 14 => sesFails s r v
  | 15 => prFails s r v
  | 16 => safFails s r v
  | _ => plFails s r v

end Sys2Proof.Machine
end

