-- ==== Sys2Proof/Machine/RegWrites.lean ====
section
/-! DEFINITION. What an accepted write of a block's register does (spec/02 to spec/19): the value is stored, comes
into force when the block's chapter says, or starts the command it names. -/

namespace Sys2Proof.Machine

/-- The bits a register stores of a written word (R6, R26). -/
def kept (r : Reg) (v : Word) : Word := word (v.toNat &&& (desc r).rw)

/-- Store a register that applies at once. -/
def put (s : State) (r : Reg) (i j : Nat) (v : Word) : State := wr s r (kept r v) i j

/-- Store a register that applies at the boundary of R14. -/
def putLater (s : State) (r : Reg) (i j : Nat) (v : Word) : State := wrLater s r (kept r v) i j

/-- Store a register that applies at the next one-second window (R249). -/
def putWindow (s : State) (r : Reg) (i j : Nat) (v : Word) : State := wrWindow s r (kept r v) i j

/-- Do one thing when a command bit is written 1. -/
def onBit (v : Word) (b : Nat) (s : State) (f : State → State) : State := if bit v b then f s else s

/-! ## Global (spec/16) -/

/-- Lock bits are set (R374, R375): at once, or with the peer at one boundary, forwarded over the lining. -/
def lockBits (s : State) (bits : Nat) : State :=
  if bits = 0 then s
  else if isPair s ∧ s.pr.state = .active ∧ s.pr.linUp then
    mirror (s.setGlb fun g => { g with lockPend := g.lockPend ++ [(s.now, bits)] }) (.lock s.now bits)
  else if s.glb.locks ||| bits = s.glb.locks then s
  else raise (s.setGlb fun g => { g with locks := g.locks ||| bits }) .GLB_EVENT 4

def clrWerr (s : State) : State := s.setGlb fun g => { g with werror := none, werrCnt := 0 }

def glbCmd (s : State) (v : Word) : State := lockBits (onBit v 0 s clrWerr) (fld v 4 5)

/-- A configuration reset is accepted (R396); in BARE it is a full reset (R385). -/
def startCfgReset (s : State) : State :=
  if s.glb.mode = .bare then fullReset s 2 else s.setPl fun p => { p with cfgRun := true, cfgAt := s.now }

def glbResetWrite (s : State) (v : Word) : State :=
  if bit v 1 then fullReset s 2 else if bit v 0 then closeAll (startCfgReset s) else s

def glbWrite (s : State) (r : Reg) (i j : Nat) (v : Word) : State :=
  match r with
  | .GLB_CMD => glbCmd s v
  | .GLB_RESET => glbResetWrite s v
  | _ => put s r i j v

/-! ## Fabric (spec/02) -/

def clrSlack (s : State) : State := s.setFab fun f => { f with slack := 0xFFFF }
def fabClrCounts (s : State) : State := s.setFab fun f => { f with fenceMisses := 0, paceFaults := 0, shedCount := 0 }

def fabWrite (s : State) (r : Reg) (i j : Nat) (v : Word) : State :=
  match r with
  | .FAB_VCAP => vcoreEval (put s r i j v)
  | .FAB_RESERVE0 => vcoreEval (put s r i j v)
  | .FAB_CMD => onBit v 0 (onBit v 1 s clrSlack) fabClrCounts
  | _ => put s r i j v

/-! ## Mix (spec/03) -/

/-- The commands of BS_CMD that are written 1, from the lowest bit on. -/
def bsCmd (s : State) (k : Nat) (v : Word) : State := (bitsOf v.toNat 4 0).foldl (bsBit k) s

def mixWrite (s : State) (r : Reg) (i j : Nat) (v : Word) : State :=
  match r with
  | .BS_CMD => bsCmd s i v
  | .MIX_RAMP_DEF => putLater s r i j v
  | .MIX_KEY_RAMP => putLater s r i j v
  | _ => put s r i j v

/-! ## Time bases, references, synthesizers (spec/09 to spec/11) -/

/-- TB_CTRL written: EN starts or stops the PTP instance (R215). -/
def tbCtrlWrite (s : State) (k : Nat) (v : Word) : State :=
  let was := fb s .TB_CTRL_EN k
  let s := put s .TB_CTRL k 0 v
  if was = bit v 31 ∨ held s 2 then s else tbEnable s k (bit v 31)

def tbWrite (s : State) (r : Reg) (i j : Nat) (v : Word) : State :=
  let k := fv s .TB_CMD_ARG_TB
  match r with
  | .TB_CMD => onBit v 1 (onBit v 0 s fun s => snapTb s k) fun s => tbClrCounts s k
  | .TB_CTRL => tbCtrlWrite s i v
  | _ => put s r i j v

/-- MC_CTRL written: SW suspends or resumes the loop at once, the other fields at the next window (R247, R249). -/
def mcCtrlWrite (s : State) (m : Nat) (v : Word) : State :=
  let was := fb s .MC_CTRL_SW m
  let s := putWindow s .MC_CTRL m 0 v
  if was ∧ !bit v 30 then swOff s m
  else if !was ∧ bit v 30 then swRun s m
  else s

/-- SW_FREQ takes effect as a whole when its low word is written (R247, R370). -/
def swFreqWrite (s : State) (m : Nat) (v : Word) : State :=
  let hi := Tbl.getD s.rf.hi (addr .MC_SW_FREQ_HI m) (rd s .MC_SW_FREQ_HI m)
  let x := sext 64 (pairValue s .MC_SW_FREQ_HI m v)
  let s := wr (wr s .MC_SW_FREQ_HI hi m) .MC_SW_FREQ_LO v m
  let s := { s with rf := { s.rf with hi := Tbl.del s.rf.hi (addr .MC_SW_FREQ_HI m) } }
  swRun (setMc s m { mcOf s m with swFreq := x }) m

/-- The high word of a pair waits for its low word (R370). -/
def stageHi (s : State) (r : Reg) (i : Nat) (v : Word) : State :=
  { s with rf := { s.rf with hi := Tbl.put s.rf.hi (addr r i) (kept r v) } }

def mcClrCounts (s : State) (m : Nat) : State := setMc s m { mcOf s m with switches := 0, slips := 0 }

def refWrite (s : State) (r : Reg) (i j : Nat) (v : Word) : State :=
  let m := fv s .REF_CMD_ARG_MC
  match r with
  | .REF_CMD => onBit v 2 (onBit v 1 (onBit v 0 s fun s => mcClrCounts s m) fun s => relearn s m) fun s => swStep s m
  | .MC_CTRL => mcCtrlWrite s i v
  | .MC_SW_FREQ_HI => stageHi s r i v
  | .MC_SW_FREQ_LO => swFreqWrite s i v
  | .MC_OFS => put s r i j v
  | .MC_SW_PS => put s r i j v
  | .REF_CMD_ARG => put s r i j v
  | _ => putWindow s r i j v

def synClrCounts (s : State) (k : Nat) : State := setSy s k { syOf s k with lols := 0, relocks := 0, testFails := 0 }

def synWrite (s : State) (r : Reg) (i j : Nat) (v : Word) : State :=
  let k := fv s .SYN_CMD_ARG_SY
  match r with
  | .SYN_CMD =>
    onBit v 2 (onBit v 1 (onBit v 0 s fun s => synClrCounts s k) fun s => synStartTest s k) fun s => synStartTest s k
  | .MCK_CFG => mckSet (put s r i j v) i (bit v 31)
  | .PLS_CFG =>
    let was := fb s .PLS_CFG_EN i
    let s := put s r i j v
    if was = bit v 31 then s else if bit v 31 then plsEnable s i else plsDisable s i
  | .PLS_OFS => plsOffset (put s r i j v) i (rd s .PLS_OFS i).toInt v.toInt
  | _ => put s r i j v

/-! ## Lanes (spec/06) -/

/-- CG_CTRL EN written: an orderly start of an OFF group, or a stop (R144, R145, R147); a held block starts nothing
(R454), and during start-up the groups wait for the step that starts them (R388). -/
def cgEnWrite (s : State) (g : Nat) (v : Word) : State :=
  let s := put s .CG_CTRL g 0 v
  if !bit v 0 then cgStopping s g
  else if held s 5 ∨ s.glb.mode = .starting then s
  else cgStart s g

def hostClrCounts (s : State) : State := s.setLn fun l => { l with hostBad := 0, hostUnder := 0, hostOver := 0 }

def laneWrite (s : State) (r : Reg) (i j : Nat) (v : Word) : State :=
  match r with
  | .CG_CTRL => cgEnWrite s i v
  | .CG_CMD => onBit v 0 s fun s => cgClrCounts s i
  | .HOST_CMD => onBit v 0 s hostClrCounts
  | .SLOT_MAP => putLater s r i j v
  | .HOST_MAP => putLater s r i j v
  | .HOST_IN => putLater s r i j v
  | .HOST_OUT => putLater s r i j v
  | _ => put s r i j v

/-! ## Ports and switch (spec/07) -/

def portEnWrite (s : State) (n : Nat) (v : Word) : State :=
  let was := fb s .PORT_CTRL_EN n
  let s := put s .PORT_CTRL n 0 v
  if was = bit v 31 then s
  else if bit v 31 ∧ (held s 6 ∨ s.glb.mode = .quiet) then s
  else portEnable s n (bit v 31)

def stagedVid (s : State) : Nat := fld (rd s .SW_MACW 0) 16 12
def stagedMac (s : State) : Nat := fld (rd s .SW_MACW 0) 0 16 * 2 ^ 32 + (rd s .SW_MACW 1).toNat

def swCmd (s : State) (v : Word) : State :=
  let s := onBit v 0 s macFlush
  let s := onBit v 1 s fun s => macAdd s (stagedVid s) (stagedMac s) (fld (rd s .SW_MACW 2) 0 5)
  onBit v 2 s fun s => macDel s (stagedVid s) (stagedMac s)

def portClrCounts (s : State) (n : Nat) : State := modCnt s n fun _ => {}
def gateApply (s : State) (n : Nat) : State := setPort s n { portOf s n with pend := some (adminGate s n) }
def gateCancel (s : State) (n : Nat) : State := setPort s n { portOf s n with pend := none }

def portWrite (s : State) (r : Reg) (i j : Nat) (v : Word) : State :=
  match r with
  | .SW_CMD => swCmd s v
  | .PORT_CTRL => portEnWrite s i v
  | .PORT_CMD =>
    onBit v 2 (onBit v 1 (onBit v 0 s fun s => gateApply s i) fun s => gateCancel s i) fun s => portClrCounts s i
  | _ => put s r i j v

/-! ## Streams (spec/08) -/

def strCmd (s : State) (v : Word) : State :=
  let x := fv s .STR_CMD_ARG_INDEX
  let cls := fv s .STR_CMD_ARG_CLASS
  if bit v 0 then regRequest s (.enable .rx x cls)
  else if bit v 1 then disableLater s .rx x
  else if bit v 2 then regRequest s (.enable .tx x cls)
  else if bit v 3 then disableLater s .tx x
  else if bit v 4 then clrRx s x
  else if bit v 5 then clrTx s x
  else if bit v 6 then clrHank s x
  else s

/-- RX word 1: while the stream is enabled a new OFFSET acts at the boundary of R14 (R183). -/
def rxOffsetWrite (s : State) (r : Nat) (v : Word) : State :=
  if objOn s .rx r then putLater s .RX_W1 r 0 v else put s .RX_W1 r 0 v

/-- HK word 0: while members are enabled a new OFFSET acts at the boundary of R14 (R184). -/
def hankWrite (s : State) (h : Nat) (v : Word) : State :=
  if hankMembers s h = 0 then put s .HK_W0 h 0 v else putLater s .HK_W0 h 0 v

/-- A destination MAC takes effect as a whole when its low word is written (R370). -/
def dmacWrite (s : State) (hi lo : Reg) (t : Nat) (v : Word) : State :=
  let h := Tbl.getD s.rf.hi (addr hi t) (rd s hi t)
  let s := wr (wr s hi h t) lo v t
  { s with rf := { s.rf with hi := Tbl.del s.rf.hi (addr hi t) } }

def strWrite (s : State) (r : Reg) (i j : Nat) (v : Word) : State :=
  match r with
  | .STR_CMD => strCmd s v
  | .RX_W1 => rxOffsetWrite s i v
  | .HK_W0 => hankWrite s i v
  | .TX_MAP => putLater s r i j v
  | .TX_DMAC_A_HI => stageHi s r i v
  | .TX_DMAC_B_HI => stageHi s r i v
  | .TX_DMAC_A_LO => dmacWrite s .TX_DMAC_A_HI r i v
  | .TX_DMAC_B_LO => dmacWrite s .TX_DMAC_B_HI r i v
  | _ => put s r i j v

/-! ## Dynamics, bridges (spec/04, spec/05) -/

/-- HEM_CLR waits for its boundary; one that waits already keeps its own (R14, R103). -/
def hemClrLater (s : State) (d : Nat) : State :=
  let x := hemOf s d
  setHem s d { x with clearReq := some (x.clearReq.getD s.now) }
def clrHold (s : State) (m : Nat) : State := setMeter s m { meterOf s m with clrReq := true }
def clrClip (s : State) (m : Nat) : State := setMeter s m { meterOf s m with clips := 0 }

def dynCmd (s : State) (v : Word) : State :=
  let x := fv s .DYN_CMD_ARG_INDEX
  let cls := fv s .DYN_CMD_ARG_CLASS
  if bit v 0 then hemClrLater s x
  else if bit v 1 then clrHold s x
  else if bit v 2 then clrClip s x
  else if bit v 3 then regRequest s (.enable .meter x cls)
  else if bit v 4 then disableLater s .meter x
  else if bit v 5 then regRequest s (.enable .vox x cls)
  else if bit v 6 then disableLater s .vox x
  else s

def dynWrite (s : State) (r : Reg) (i j : Nat) (v : Word) : State :=
  match r with
  | .DYN_CMD => dynCmd s v
  | .DYN_CMD_ARG => put s r i j v
  | _ => putLater s r i j v

def clrSlips (s : State) (m : Nat) : State := setSeam s m { seamOf s m with slips := 0 }

def rbCmd (s : State) (v : Word) : State :=
  let x := fv s .RB_CMD_ARG_INDEX
  let cls := fv s .RB_CMD_ARG_CLASS
  if bit v 0 then regRequest s (.enable .seam x cls)
  else if bit v 1 then disableLater s .seam x
  else if bit v 2 then regRequest s (.enable .conv x cls)
  else if bit v 3 then disableLater s .conv x
  else if bit v 4 then clrSlips s x
  else s

def rbWrite (s : State) (r : Reg) (i j : Nat) (v : Word) : State :=
  match r with
  | .RB_CMD => rbCmd s v
  | .SM_W0 => putLater s r i j v
  | _ => put s r i j v

/-! ## Control I/O and schedule (spec/12) -/

/-- SE_WRITE (R286): a commit becomes a request, any other action is armed or runs at once. -/
def seWrite (s : State) (e : Nat) : State :=
  if seAction s e = 1 then
    regRequest (setSe (bsDeciding s (seSet s e)) e ((seOf s e).anew .deciding)) (.commit (seSet s e) (some (e, seNear s e)))
  else seArm s e

def cioCmd (s : State) (v : Word) : State :=
  let x := fv s .CIO_CMD_ARG_INDEX
  if bit v 0 then clrEdges s x
  else if bit v 1 then coClr s x
  else if bit v 2 then seWrite s x
  else if bit v 3 then seDel s x
  else s

def cioWrite (s : State) (r : Reg) (i j : Nat) (v : Word) : State :=
  match r with
  | .CIO_CMD => cioCmd s v
  | .CO_CFG => coCfgWrite s i (kept r v)
  | .CR_W0 => onBit (~~~ v) 31 (put s r i j v) fun s => ruleOff s i
  | _ => put s r i j v

/-! ## Spools, events, sessions (spec/13 to spec/15) -/

def splWrite (s : State) (r : Reg) (i j : Nat) (v : Word) : State :=
  match r with
  | .SPL_CMD =>
    let n := fv s .SPL_CMD_ARG_INDEX
    onBit v 1 (onBit v 0 s fun s => flushSpool s n) fun s => splClrCounts s n
  | .SPL_STORE => storeWatch (put s r i j v)
  | .SP_W0 => spW0Write s i (kept r v)
  | .SP_W2 => if bit v 23 then setSp s i { spOf s i with levelHit := false } else s
  | _ => put s r i j v

/-- FORCE: one assertion of a source, as an edge of its SENSE (Table 14-5); a source in a reserved group never asserts
(R310). -/
def force (s : State) (src : Nat) : State :=
  if src < 1792 ∧ (groupReg (src / 64)).isNone then s else assertSrc s src

/-- TGT_EOI: VEC is stored, and EOI = 1 ends the interrupt (R320). -/
def tgtEoiWrite (s : State) (t : Nat) (v : Word) : State :=
  let s := put s .TGT_EOI t 0 v
  onBit v 31 s fun s => eoi s t (fld v 0 6)

def evtWrite (s : State) (r : Reg) (i j : Nat) (v : Word) : State :=
  match r with
  | .EVT_CMD =>
    let src := fv s .EVT_CMD_ARG_INDEX
    onBit v 1 (onBit v 0 s fun s => clrPend s src) fun s => force s src
  | .TGT_CTRL => tgtCtrl s i (kept r v)
  | .TGT_EOI => tgtEoiWrite s i v
  | .EV_CFG => evCfgWrite s i v
  | .EV_OCFG => evCfgWrite s (1792 + i) v
  | _ => put s r i j v

/-- Session counters clear (R354). -/
def sesClrCounts (s : State) : State :=
  s.setSes fun y => { y with
    authFails := 0, malformed := 0, overrun := 0
    ses := Tbl.mapV y.ses fun _ x => { x with dups := 0, stales := 0, cmds := 0 } }

/-- SES_IP6 takes effect as a whole when its lowest word is written (R370; DEDUCED, log entry 113). -/
def ip6Write (s : State) (i : Nat) (v : Word) : State :=
  if i ≠ 3 then stageHi s .SES_IP6 i v
  else
    let s := closeWhere s fun x => !x.client.mbox
    let s := forEach [0, 1, 2] s fun k s => wr s .SES_IP6 (Tbl.getD s.rf.hi (addr .SES_IP6 k) (rd s .SES_IP6 k)) k
    let s := { s with rf := { s.rf with hi := [0, 1, 2].foldl (fun h k => Tbl.del h (addr .SES_IP6 k)) s.rf.hi } }
    put s .SES_IP6 3 0 v

def sesWrite (s : State) (r : Reg) (i j : Nat) (v : Word) : State :=
  match r with
  | .SES_CMD =>
    let k := fv s .SES_CMD_ARG_SESSION
    onBit v 1 (onBit v 0 s fun s => closeSession s k) sesClrCounts
  | .SES_NET => put (closeWhere s fun x => !x.client.mbox) r i j v
  | .SES_CFG => put (closeWhere s fun x => !x.client.mbox) r i j v
  | .SES_IP4 => put (closeWhere s fun x => !x.client.mbox) r i j v
  | .SES_IP6 => ip6Write s i v
  | .SES_MBOX => put (closeWhere s fun x => x.client.mbox) r i j v
  | _ => put s r i j v

/-! ## Redundancy, safety, loader (spec/17 to spec/19) -/

/-- A /P field waits for its region (R366). -/
def post (s : State) (r : Reg) (v : Word) : State :=
  { s with rf := { s.rf with posted := s.rf.posted ++ [(s.now, addr r, kept r v)] } }

def prClrCounts (s : State) : State :=
  s.setPr fun p => { p with roleChanges := 0, diverges := 0, witBad := 0, missed := 0 }

/-- REMIRROR starts a join (R441). -/
def remirror (s : State) : State := beginJoin s

/-- RELINQUISH yields the active role (R441). -/
def relinquish (s : State) : State := yieldRole s

def prWrite (s : State) (r : Reg) (v : Word) : State :=
  match r with
  | .PR_CFG => post s r v
  | .PR_CMD => onBit v 2 (onBit v 1 (onBit v 0 s relinquish) remirror) prClrCounts
  | _ => put s r 0 0 v

def clrLog (s : State) : State := s.setSaf fun y => { y with log := [], next := 0 }
def safClrCounts (s : State) : State := s.setSaf fun y => { y with ue := 0, ceHour := 0, passes := 0, mismatches := 0, lost := 0 }

def safWrite (s : State) (r : Reg) (v : Word) : State :=
  match r with
  | .SAF_CFG => post s r v
  | .SAF_CMD => onBit v 1 (onBit v 0 s clrLog) safClrCounts
  | .SAF_INJECT => inject s (fld v 0 8)
  | _ => put s r 0 0 v

/-- RESCAN begins (R409). -/
def rescanStart (s : State) : State := s.setPl fun p => { p with rescan := true }

def plWrite (s : State) (r : Reg) (v : Word) : State :=
  match r with
  | .PL_CMD => onBit v 1 (onBit v 0 s rescanStart) ejectStart
  | _ => put s r 0 0 v

/-- What a block's register does when a write of it is accepted. -/
def blockWrite (s : State) (r : Reg) (i j : Nat) (v : Word) : State :=
  if (evtGroup r).isSome then clearFlags s r v i
  else match blockRow (addr r i j) with
  | 0 => glbWrite s r i j v
  | 1 => fabWrite s r i j v
  | 2 => tbWrite s r i j v
  | 3 => refWrite s r i j v
  | 4 => synWrite s r i j v
  | 5 => laneWrite s r i j v
  | 6 => portWrite s r i j v
  | 7 => strWrite s r i j v
  | 8 => mixWrite s r i j v
  | 9 => dynWrite s r i j v
  | 10 => rbWrite s r i j v
  | 11 => cioWrite s r i j v
  | 12 => splWrite s r i j v
  | 13 => evtWrite s r i j v
  | 14 => sesWrite s r i j v
  | 15 => prWrite s r v
  | 16 => safWrite s r v
  | _ => plWrite s r v

end Sys2Proof.Machine
end

