-- ==== Sys2Proof/Machine/RegReads.lean ====
section
/-! DEFINITION. What a read of a register answers (R24, R25, R356, R357): the stored bits, and beside them what the
device shows in its read-only fields (the register tables of spec/02 to spec/19). -/

namespace Sys2Proof.Machine

/-- A flag at a bit. -/
def flag (lo : Nat) (b : Bool) : Nat := at_ lo (b2n b)

/-- High and low word of a 64-bit value (R369). -/
def hi32 (v : Nat) : Nat := v / 2 ^ 32 % 2 ^ 32
def lo32 (v : Nat) : Nat := v % 2 ^ 32

/-- A gain as a 16-bit code. -/
def gain16 (x : Int) : Nat := field 16 x

/-! ## Global, fabric (spec/16, spec/02) -/

def modeNum : Mode → Nat
  | .starting => 0 | .bare => 1 | .running => 2 | .quiet => 3 | .removing => 4

/-- ROLE of GLB_STATUS (R410): 0 alone, 1 active, 2 standby, 3 witness. -/
def glbRole (s : State) : Nat :=
  if isWitness s then 3 else if isPair s then (if s.pr.state = .active then 1 else 2) else 0

/-- The BUSY bit of an address in a slow region (Table 16-2). -/
def slowRegion? (off : Nat) : Option Nat :=
  match blockRow off with
  | 15 => some 0
  | 16 => some 1
  | 17 => some 2
  | _ => none

/-- REG_BUSY (R366): a region is busy until its posted write is applied; a PR_CFG that waits for the boundary at which
both units apply it is not applied yet (R441). -/
def regBusy (s : State) : Nat :=
  [0, 1, 2].foldl (fun a k =>
    a + flag k ((s.rf.posted.any fun p => slowRegion? p.2.1 == some k) || (k == 0 && s.pr.cfgWait != []))) 0

def glbRead (s : State) (r : Reg) : Nat :=
  match r with
  | .DEV_ID => 0x53566480
  | .GLB_STEP => Config.stepping.toNat
  | .GLB_STATUS =>
    at_ 29 (modeNum s.glb.mode) + at_ 27 (glbRole s) + flag 26 (unitB s) + flag 25 s.glb.cfgFault + at_ 22 s.glb.lastReset
  | .REG_WSTATUS => s.glb.wstatus.toNat
  | .REG_WERROR => (match s.glb.werror with | some w => w.toNat | none => 0)
  | .REG_WERRCNT => s.glb.werrCnt
  | .REG_BUSY => regBusy s
  | .GLB_LOCK => s.glb.locks
  | .CFG_PAR_ADDR => (match s.glb.parAddr with | some a => 2 ^ 31 + a | none => 0)
  | .SCRUB_CNT => s.glb.scrubCnt
  | .UID_HI => hi32 Config.uid.toNat
  | .UID_LO => lo32 Config.uid.toNat
  | _ => 0

def vstateNum : VState → Nat
  | .steady => 0 | .raising => 1 | .confirming => 2 | .hold => 3 | .lowering => 4

def fabRead (s : State) (r : Reg) (i : Nat) : Nat :=
  let f := s.fab
  match r with
  | .FAB_STATUS => at_ 8 (needlesOk s) + vstateNum f.vstate
  | .FAB_VCORE => at_ 16 f.vtarget + vPresent s
  | .FAB_DEMAND => (demand s).all
  | .FAB_DEMAND_C =>
    let d := demand s
    (match i with | 0 => d.d0 | 1 => d.d1 | 2 => d.d2 | _ => d.d3)
  | .FAB_GUAR => gEff s (vPresent s)
  | .FAB_LIMIT => 10 * gEff s (vCap s) / 11
  | .FAB_PACE => min 0x3FFFFF f.pace
  | .FAB_SLACK_MIN => min 0xFFFF f.slack
  | .FAB_FENCE_MISS_CNT => f.fenceMisses
  | .FAB_PACE_FAULT_CNT => f.paceFaults
  | .ADM_RESULT => flag 31 f.admPending + at_ 8 f.admResult.num
  | .ADM_SEQ_LAST => lo32 f.admSeq
  | .SHED_HEAD => at_ 16 f.shedCount + f.shedNext
  | .FAB_TRIM => tCurve i
  | .FAB_NEEDLE => flag 31 (needleOf s i).inService + flag 30 (decide (16 ≤ i)) + min 0x3FFFFF (needleOf s i).pace
  | .SHED_LOG_W0 =>
    let e := Tbl.getD f.shedLog i {}
    at_ 30 e.cls + at_ 24 e.kind + at_ 22 e.cause + e.index
  | .SHED_LOG_W1 => lo32 (Tbl.getD f.shedLog i {}).seq
  | _ => 0

/-! ## Time bases (spec/09) -/

/-- PEND: the held step, zero outside JUMP_HELD (R212, R225). -/
def heldStep (b : TimeBase) : Int := if b.state = .jumpHeld then b.pend else 0

def tbRead (s : State) (r : Reg) (i : Nat) : Nat :=
  let b := tbOf s i
  match r with
  | .TC_NOFIX_CNT => s.tb.noFix
  | .TS_RX_FIX => (tsFix s i).1
  | .TS_TX_FIX => (tsFix s i).2
  | .LINK_DELAY => Tbl.getD s.tb.linkDelay i 0
  | .TB_STATUS =>
    at_ 29 b.state.num + flag 28 b.committed.isSome + at_ 24 (portStateCode s i) + at_ 16 (b.jumpGen % 256) + b.stepGen % 65536
  | .TB_GM_UTC => b.gmUtc
  | .TB_GM_ID_HI => hi32 (match b.gm with | some d => d.id | none => 0)
  | .TB_GM_ID_LO => lo32 (match b.gm with | some d => d.id | none => 0)
  | .TB_CLK_ID_HI => if s.glb.inReset then 0 else hi32 (clkId s i)
  | .TB_CLK_ID_LO => if s.glb.inReset then 0 else lo32 (clkId s i)
  | .TB_OFS_HI => hi32 (field 64 b.ofs)
  | .TB_OFS_LO => lo32 (field 64 b.ofs)
  | .TB_MPD => min 0xFFFFFFFF b.mpd
  | .TB_FREQ => field 32 b.freq
  | .TB_PEND_HI => hi32 (field 64 (heldStep b))
  | .TB_PEND_LO => lo32 (field 64 (heldStep b))
  | .TB_STEP_HI => hi32 (field 64 b.step)
  | .TB_STEP_LO => lo32 (field 64 b.step)
  | .STEP_TACK => b.stepTack
  | .TB_ACC_HI => hi32 (field 64 b.acc)
  | .TB_ACC_LO => lo32 (field 64 b.acc)
  | .TB_TNS_HI => hi32 (tns s i)
  | .TB_TNS_LO => lo32 (tns s i)
  | .SNAP_SEC_HI => at_ 16 (b.snap.gen % 65536) + b.snap.sec / 2 ^ 32 % 65536
  | .SNAP_SEC_LO => lo32 b.snap.sec
  | .SNAP_NS => b.snap.ns
  | .SNAP_FRAC => b.snap.frac
  | .TB_SNAP_TNS_HI => hi32 b.snap.tns
  | .TB_SNAP_TNS_LO => lo32 b.snap.tns
  | .TB_CNT => at_ 16 b.annTimeouts + b.outliers
  | _ => 0

/-! ## References and synthesizers (spec/10, spec/11) -/

/-- Whole seconds until an instant, rounded up. -/
def secLeft (s : State) (t : Nat) : Nat := (t - s.now + 999999999) / 1000000000

/-- A signed value that saturates at 32 bits. -/
def satField32 (v : Int) : Nat := field 32 (sat32 v)

def refRead (s : State) (r : Reg) (i : Nat) : Nat :=
  let q := slotOf s i
  let q := if i = 20 then { q with q := if s.ref.tcxoFault then .noSignal else .qualified } else q
  let x := mcOf s i
  match r with
  | .REF_TCXO => flag 31 s.ref.tcxoFault + field 16 s.ref.temp
  | .QL_W2 =>
    at_ 30 q.q.num + flag 29 q.drift + flag 28 q.voted +
      at_ 16 (if q.q = .qualifying then secLeft s (q.timer + 1000000000 * ff s .QL_W1_QTIME i) % 4096 else 0) + q.disquals
  | .QL_W3 => field 32 q.fofs
  | .MC_STATUS =>
    let w := wtrOf s i
    at_ 29 x.state.num + flag 28 x.switching + flag 27 w.isSome + flag 26 (hoValid s i) + flag 25 x.ageValid +
      flag 24 x.gridFar + flag 19 x.sel.isSome + at_ 16 (x.sel.getD 0) +
      (match w with | some (_, t) => secLeft s t % 4096 | none => 0)
  | .MC_PHASE => satField32 x.phase
  | .MC_FREQ_HI => hi32 (field 64 (outFreq s i))
  | .MC_FREQ_LO => lo32 (field 64 (outFreq s i))
  | .MC_HO_FREQ_HI => hi32 (field 64 x.fAvg)
  | .MC_HO_FREQ_LO => lo32 (field 64 x.fAvg)
  | .MC_HO_EST => min 0xFFFFFFFF (x.est / 8000000000)
  | .MC_HO_TIME => min 0xFFFFFFFF x.hoSec
  | .MC_LOCKED => min 0xFFFFFFFF x.lockedSec
  | .MC_CNT => at_ 16 x.switches + x.slips
  | .MC_C1 => field 32 (coef x.c1 1)
  | .MC_C2 => field 32 (coef x.c2 2)
  | .MC_C3 => field 32 (coef x.c3 3)
  | .MC_AGE => field 32 x.age
  | .MC_TAVG => field 16 x.tAvg
  | _ => 0

def synRead (s : State) (r : Reg) (i : Nat) : Nat :=
  let k := syOf s i
  match r with
  | .SYN_MAP => (synMap s).toNat
  | .SY_STATUS => at_ 28 k.state.num + at_ 26 k.mc + at_ 25 (syFamily s i) + at_ 21 k.band
  | .SY_PHERR => satField32 k.pherr
  | .SY_CNT => at_ 16 k.lols + at_ 8 k.relocks + k.testFails
  | .MCK_CFG => flag 30 (mckRunning s i)
  | .PLS_CFG => flag 29 (plsOf s i).aligned
  | .PLS_ERR => satField32 (plsOf s i).err
  | .PLS_CNT => (plsOf s i).count
  | _ => 0

/-! ## Lanes, ports, streams (spec/06 to spec/08) -/

/-- A crossfade has a side whose weight still moves. -/
def fading {α : Type} (ss : List (Side α)) : Bool := ss.any fun x => x.w.running

def laneRead (s : State) (r : Reg) (i j : Nat) : Nat :=
  let g := groupOf s i
  match r with
  | .LN_FRAME => (lnFrame s).toNat
  | .CG_STATUS => at_ 29 g.state.num + flag 28 (g.state != .running) + at_ 24 g.curRate
  | .CG_PHASE => field 16 g.phase
  | .CG_CNT_A => at_ 16 g.stops + g.glitches
  | .CG_CNT_B => at_ 16 g.rateFaults + g.slips
  | .SLOT_MAP => flag 31 (fading (Tbl.getD s.ln.slotSides (32 * i + j) []))
  | .HOST_STAT => at_ 22 s.ln.hostBad + at_ 11 s.ln.hostUnder + s.ln.hostOver
  | .HOST_MAP => flag 31 (fading (Tbl.getD s.ln.hostSides i []))
  | _ => 0

def portNum : PortState → Nat
  | .disabled => 0 | .negotiating => 1 | .up => 2

/-- A MAC entry (Table 07-9). -/
def macWord (s : State) (i w : Nat) : Nat :=
  match Tbl.get? s.sw.mac i with
  | none => 0
  | some e =>
    let kind := match e.fixed, e.owners with
      | none, 0 => 0
      | some _, 0 => 1
      | none, _ => 2
      | some _, _ => 3
    match w with
    | 0 => 2 ^ 31 + at_ 29 kind + at_ 16 e.vid + e.mac / 2 ^ 32 % 65536
    | 1 => lo32 e.mac
    | _ => at_ 16 (match e.learned with | some (_, t) => (s.now - t) / 1000000000 % 1024 | none => 0) + e.mask

def portRead (s : State) (r : Reg) (i j : Nat) : Nat :=
  let p := portOf s i
  let c := p.cnt
  let op := p.oper.list.getD j (0xFF, 125000)
  match r with
  | .PORT_STATUS => at_ 29 (portNum p.state) + at_ 27 p.speed + flag 26 p.fec + at_ 24 p.fault
  | .GATE_STATUS => flag 31 p.oper.en + flag 30 p.pend.isSome + p.cur % 64
  | .RX_FRAMES_LO => lo32 c.rxFrames
  | .RX_FRAMES_HI => hi32 c.rxFrames
  | .TX_FRAMES_LO => lo32 c.txFrames
  | .TX_FRAMES_HI => hi32 c.txFrames
  | .RX_OCTETS_LO => lo32 c.rxOctets
  | .RX_OCTETS_HI => hi32 c.rxOctets
  | .TX_OCTETS_LO => lo32 c.txOctets
  | .TX_OCTETS_HI => hi32 c.txOctets
  | .RX_FCS => c.rxFcs
  | .RX_DROP => c.rxDrop
  | .TX_GATE_DROP => c.gateDrop
  | .TX_FLUSH => c.flush
  | .QDROP => Tbl.getD c.qdrop j 0
  | .GATE_OPER_W0 => op.1
  | .GATE_OPER_W1 => op.2
  | .MAC_W0 => macWord s i 0
  | .MAC_W1 => macWord s i 1
  | .MAC_W2 => macWord s i 2
  | _ => 0

/-- The receive counters (Table 08-6). -/
def rxCounter (x : Rx) (j : Nat) : Nat :=
  [x.legA.pkts, x.legB.pkts, x.legA.lost, x.legB.lost, x.late, x.early, x.dup, x.malformed, x.underruns, x.missing,
    x.legA.used, x.legB.used, x.refilled].getD j 0

def strRead (s : State) (r : Reg) (i j : Nat) : Nat :=
  let x := rxOf s i
  let t := txOf s i
  match r with
  | .STR_CAP => at_ 16 (txCounted s) + rxCounted s
  | .STR_NOMATCH => s.str.noMatch
  | .RX_W0 => flag 31 x.enabled + at_ 28 (if x.enabled then x.cls else 0)
  | .RX_W24 => at_ 30 x.state.num + flag 29 x.legA.live + flag 28 x.legB.live + flag 27 x.muted
  | .RX_W25 => at_ 16 (field 16 x.levelMin) + field 16 x.level
  | .RXC => rxCounter x j
  | .TX_W0 => flag 31 t.enabled + at_ 28 (if t.enabled then t.cls else 0)
  | .TX_W28 =>
    let legs := (txLegs s i).map (·.1)
    at_ 30 t.state.num + flag 29 (t.enabled && legs.contains false) + flag 28 (t.enabled && legs.contains true)
  | .TXC_W0 => t.pktsA
  | .TXC_W1 => t.pktsB
  | .TXC_W2 => t.late
  | .HK_W1 => at_ 16 (hankMembers s i) + Tbl.getD s.str.hank i 0
  | .TX_MAP => flag 31 (fading (Tbl.getD s.str.mapSides (64 * i + j) []))
  | _ => 0

/-! ## Mix, dynamics, bridges (spec/03 to spec/05) -/

def ownerNum : Option Requester → Nat
  | none => 31
  | some .regPath => 16
  | some (.session k) => k

/-- The tables that entries show: those of the stitch before while the latest one is being computed (R86). -/
def entries (s : State) : Tables := if computing s then s.mix.shown else s.mix.tables

/-- A *_NOW field: the value at the last sample of the stitch whose tables the entry shows (R86). -/
def nowRead (s : State) (r : Ramp) : Int := if (entries s).ran then r.val 5 else r.now

def srcRead (s : State) (i w : Nat) : Nat :=
  match Tbl.get? (entries s).sources i with
  | none => 0
  | some x =>
    if w = 0 then 2 ^ 31 + flag 30 (x.dying.isSome || fading x.sides) + at_ 28 x.cls else x.input.toNat

def dstRead (s : State) (i w : Nat) : Nat :=
  match Tbl.get? (entries s).dests i with
  | none => (match w with | 0 => 0xFFFF | 2 => at_ 16 16384 | 3 => at_ 16 400 + 16384 | _ => 0)
  | some x =>
    match w with
    | 0 => 2 ^ 31 + flag 30 (x.dying.isSome || fading x.sides || x.gain.running || x.duck.running) + at_ 28 x.cls + flag 27 x.ducked + x.feed
    | 1 => at_ 16 (gain16 x.gain.target) + gain16 (nowRead s x.gain)
    | 2 => at_ 16 x.duckGain + x.duckAct
    | _ => at_ 16 x.duckRel + gain16 (nowRead s x.duck)

def busRead (s : State) (i w : Nat) : Nat :=
  let b := Tbl.getD (entries s).buses i {}
  if w = 0 then flag 31 b.active + at_ 28 b.cls + b.act
  else
    let subs := (entries s).listeners.foldl (fun a l => a + (l.2.subs.filter fun u => u.bus == i).length) 0
    let talks := (entries s).sources.foldl (fun a x => a + (x.2.talks.filter fun t => t.bus == i).length) 0
    at_ 16 subs + talks

def lstRead (s : State) (i w : Nat) : Nat :=
  let l := Tbl.getD (entries s).listeners i {}
  let own (k : Nat) : Nat := l.own.getD k 0xFFFF
  match w with
  | 0 => at_ 16 (own 0) + own 1
  | 1 => at_ 16 (own 2) + own 3
  | _ => flag 31 (decide (1 < l.sides.length)) + l.subs.length

def talkRead (s : State) (i j w : Nat) : Nat :=
  match (Tbl.getD (entries s).sources i {}).talks.find? fun t => t.slot == j with
  | none => 0
  | some t =>
    if w = 0 then
      2 ^ 31 + flag 30 (t.dying || t.eff.running) + flag 29 (t.gateOpen || t.key / 16384 == 0) + at_ 24 t.cls + at_ 16 t.bus + t.key
    else at_ 16 t.gain + gain16 (nowRead s t.eff)

def subRead (s : State) (i j : Nat) : Nat :=
  match (Tbl.getD (entries s).listeners i {}).subs.find? fun u => u.slot == j with
  | none => 0
  | some u => 2 ^ 31 + flag 30 (u.dying || u.ramp.running) + at_ 28 u.cls + at_ 16 u.bus + u.gain

def xpRead (s : State) (i w : Nat) : Nat :=
  match Tbl.get? (entries s).xps i with
  | none => 0
  | some x =>
    if w = 0 then 2 ^ 31 + flag 30 (x.dying || x.ramp.running) + at_ 28 x.cls + at_ 16 x.src + x.dst
    else at_ 16 x.gain + gain16 (nowRead s x.ramp)

def mixRead (s : State) (r : Reg) (i j : Nat) : Nat :=
  let x := setOf s i
  match r with
  | .MIX_STITCH_LO => lo32 s.mix.stitch
  | .MIX_STITCH_HI => hi32 s.mix.stitch
  | .MIX_REFUSE =>
    let f := s.mix.refuse
    at_ 24 f.code.num + at_ 20 f.set + at_ 16 f.reason + f.change
  | .BS_STATUS => at_ 29 x.state.num + at_ 24 (ownerNum x.owner) + x.recs.length
  | .BS_RESULT => at_ 24 x.code.num + x.index
  | .BS_SKIP => x.skip
  | .BS_STITCH_LO => lo32 x.stitch
  | .BS_STITCH_HI => hi32 x.stitch
  | .SRC_W0 => srcRead s i 0
  | .SRC_W1 => srcRead s i 1
  | .DST_W0 => dstRead s i 0
  | .DST_W1 => dstRead s i 1
  | .DST_W2 => dstRead s i 2
  | .DST_W3 => dstRead s i 3
  | .BUS_W0 => busRead s i 0
  | .BUS_W1 => busRead s i 1
  | .LST_W0 => lstRead s i 0
  | .LST_W1 => lstRead s i 1
  | .LST_W2 => lstRead s i 2
  | .TALK_W0 => talkRead s i j 0
  | .TALK_W1 => talkRead s i j 1
  | .SUB => subRead s i j
  | .XP_W0 => xpRead s i 0
  | .XP_W1 => xpRead s i 1
  | _ => 0

/-- GR_NOW (R94). -/
def grNow (gs : Int) : Nat := field 16 (clampI (-32768) 32767 (rhe gs 20))

def dynRead (s : State) (r : Reg) (i : Nat) : Nat :=
  match r with
  | .SCH_W3 =>
    (match Tbl.get? s.dyn.chains i with
    | some c => flag 31 (c.naCause != 0) + at_ 29 c.naCause + grNow (if computing s then c.gsWas else c.gs)
    | none => 0)
  | .HEM_W2 => flag 31 (hemOf s i).muted + field 16 (hemGr (if computing s then (hemOf s i).was else (hemOf s i).gA))
  | .MTR_W0 => flag 31 (meterOf s i).enabled + at_ 28 (if (meterOf s i).enabled then (meterOf s i).cls else 0)
  | .MTR_W1 => at_ 16 (field 16 (meterOf s i).peak) + field 16 (meterOf s i).rms
  | .MTR_W2 => at_ 16 (field 16 (meterOf s i).hold) + (meterOf s i).clips
  | .VOX_W0 =>
    flag 31 (voxOf s i).enabled + flag 30 (voxOf s i).on + at_ 28 (if (voxOf s i).enabled then (voxOf s i).cls else 0)
  | .VOX_STATE => (List.range 32).foldl (fun a j => a + flag j (voxOf s (32 * i + j)).seen) 0
  | _ => 0

/-- RATIO brings the 2^-40 estimate to 2^-28 with one rounding half to even (log entry 68). -/
def rbRead (s : State) (r : Reg) (i : Nat) : Nat :=
  let m := seamOf s i
  match r with
  | .SM_W0 => flag 31 m.enabled + at_ 28 m.state.num + at_ 26 (if m.enabled then m.cls else 0)
  | .SM_W2 => (rhe m.ratio 12).toNat
  | .SM_W3 => at_ 16 m.slips + field 16 (seamPpm s i)
  | .SC_W0 => flag 31 (convOf s i).enabled + at_ 26 (if (convOf s i).enabled then (convOf s i).cls else 0)
  | _ => 0

/-! ## Control I/O, spools, events, sessions (spec/12 to spec/15) -/

def cioRead (s : State) (r : Reg) (i : Nat) : Nat :=
  match r with
  | .GP_LEVEL => (gpLevel s).toNat
  | .SE_LAST => s.cio.last
  | .GP_TACK => (pinOf s i).tack
  | .GP_CNT => (pinOf s i).edges
  | .CO_STATUS =>
    let c := coOf s i
    at_ 30 c.state.num + flag 29 c.cmdA + flag 28 c.cmdB + flag 27 c.rbA + flag 26 c.rbB + c.disagrees
  | .CR_W7 =>
    let x := ruleOf s i
    flag 31 x.out + flag 30 x.raw + flag 29 x.latch + flag 28 x.open_
  | .SE_W0 => at_ 30 (seOf s i).state.num + flag 29 (seOf s i).late
  | .SE_W5 => at_ 24 (seOf s i).result
  | _ => 0

def splRead (s : State) (r : Reg) (i : Nat) : Nat :=
  let x := spOf s i
  match r with
  | .SPL_STORE => at_ 16 s.spl.store
  | .SPL_FREE => freeCells s
  | .SP_W2 =>
    at_ 30 (prodOf s i) + at_ 28 (consOf s i) + flag 27 x.openItem.isSome + flag 26 x.mark.isSome + flag 25 x.markLost +
      flag 24 x.resetting + flag 23 x.levelHit + at_ 16 x.unreadLost + spCells x
  | .SP_W3 => at_ 16 (min 0xFFFF x.items.length) + at_ 8 x.drops + x.poisoned
  | _ => 0

def evStateNum : EvState → Nat
  | .idle => 0 | .latched => 1 | .held => 2 | .queued => 3 | .inService => 4

def evEntry (s : State) (src : Nat) : Nat :=
  flag 30 (evInput s src) + at_ 27 (evStateNum (evSrc s src).state) + flag 26 (evSrc s src).again

/-- A source is LATCHED, HELD or QUEUED (EV_PEND). -/
def evPending (s : State) (src : Nat) : Bool := (evSrc s src).state != .idle && (evSrc s src).state != .inService

/-- A queued source waits only on a masked vector (R319). -/
def waitsOnMask (s : State) (src : Nat) : Bool :=
  (evSrc s src).state == .queued && evEn s src && tgtFree s (evTarget s src) &&
    decide (evPrio s src < runPri s (evTarget s src)) && s.evt.msixEn && s.evt.reachedL0 && vecMasked s (evVec s src)

def evtRead (s : State) (r : Reg) (i j : Nat) : Nat :=
  let t := evTgt s i
  match r with
  | .EV_GSTAT => at_ 16 (evGrp s i).releases + (heldIn s i).length
  | .TGT_STATUS =>
    flag 31 (asleep s i) + flag 30 (waking s i) + at_ 16 t.stack.length + at_ 8 (runPri s i) +
      (match t.stack with | p :: _ => p.vec | [] => 0)
  | .TGT_CNT => at_ 8 t.stackFaults + t.eoiIdle
  | .TGT_DELIV => t.delivered
  | .TGT_STACK =>
    (match t.stack.reverse[j]? with
    | some p => 2 ^ 31 + at_ 16 p.src + at_ 8 p.prio + p.vec
    | none => 0)
  | .EV_PEND => (List.range 32).foldl (fun a b => a + flag b (evPending s (32 * i + b))) 0
  | .EV_CFG => evEntry s i
  | .EV_OCFG => evEntry s (1792 + i)
  | .MSIX_PBA =>
    (List.range 32).foldl (fun a b => a + flag b (s.evt.srcs.any fun e => waitsOnMask s e.1 && evVec s e.1 == 32 * i + b)) 0
  | _ => 0

/-- Keys present in the key store (SES_KEYS PRESENT). -/
def keysPresent (s : State) : Nat := [0, 1, 2].foldl (fun a r => a + flag r (Tbl.get? s.ses.keys r).isSome) 0

def sesRead (s : State) (r : Reg) (i j : Nat) : Nat :=
  let open_ (f : Ses → Nat) : Nat := match sesOf s i with | some x => f x | none => 0
  match r with
  | .SES_KEYS => keysPresent s
  | .SES_CNT => at_ 16 s.ses.authFails + s.ses.malformed
  | .SES_CNT2 => s.ses.overrun
  | .SS_W0 => open_ fun x => 2 ^ 31 + at_ 29 x.role + flag 28 x.client.mbox + x.idle
  | .SS_W1 => open_ (·.id)
  | .SS_W2 => open_ (·.high)
  | .SS_W3 => open_ fun x => at_ 16 x.dups + x.stales
  | .SS_W4 => open_ (·.cmds)
  | .SS_W5 => open_ fun x => at_ 16 x.client.udp
  | .SES_SUB => open_ fun x => (List.range 32).foldl (fun a b => a + flag b (x.subs.contains (32 * j + b))) 0
  | _ => 0

/-! ## Redundancy, safety, loader (spec/17 to spec/19) -/

/-- The wait-to-restore of a reversion, seconds left (R436). -/
def prWtrLeft (s : State) : Nat :=
  match s.pr.wtrFrom with
  | some t => secLeft s (t + 1000000000 * fv s .PR_CFG_WTR)
  | none => 0

def witNum : WitState → Nat
  | .none => 0 | .actA => 1 | .actB => 2

def witRead (s : State) (r : Reg) : Nat :=
  let w := s.wit
  match r with
  | .WIT_STATUS =>
    at_ 30 (witNum w.state) + flag 29 w.seenA + flag 28 w.seenB + flag 27 w.isMatch +
      (match w.sent with | some t => t % 65536 | none => 0)
  | .WIT_CNT => at_ 16 w.missA + w.missB
  | .WIT_MOVES => w.moves
  | _ => 0

def unitRead (s : State) (r : Reg) : Nat :=
  let p := s.pr
  match r with
  | .PR_STATUS =>
    at_ 29 p.state.num + at_ 27 (s.glb.straps % 4) + flag 26 p.line + flag 25 s.glb.gate + flag 24 p.witOk + flag 23 p.frozen +
      flag 22 p.linUp + flag 21 (isPair s && healthy s) + flag 20 (synced s) + flag 19 (claiming s) +
      flag 18 (p.state == .yielded) + at_ 16 p.cause + p.matchCnt
  | .PR_WTR => prWtrLeft s
  | .PR_CNT => at_ 16 p.roleChanges + p.diverges
  | .PR_CNT2 => at_ 16 p.witBad + p.missed
  | .PR_WIT_ID => p.witId
  | .PR_PEER_DIG => leNat (p.peerDigest.take 4)
  | .PR_LAST_HI => hi32 p.lastRole
  | .PR_LAST_LO => lo32 p.lastRole
  | .PR_LINING => flag 31 p.linUp + min 0xFFFF p.linDelay
  | .PR_TBERR => if p.state = .active then 0 else field 32 p.tbErr
  | _ => 0

/-- The witness registers read zero outside the witness role, the unit registers in it (R441). -/
def prRead (s : State) (r : Reg) : Nat := if isWitness s then witRead s r else unitRead s r

def safRead (s : State) (r : Reg) (i : Nat) : Nat :=
  let y := s.saf
  let e := Tbl.getD y.log i {}
  match r with
  | .SAF_STATUS => flag 31 (!y.bars.isEmpty) + flag 30 y.quiet.isSome + flag 29 (y.mute != 0) + field 16 y.tj
  | .SAF_SAFE => y.safe
  | .SAF_VMON => at_ 16 y.vin + y.vcore
  | .SAF_ECC => at_ 16 y.ue + y.ceHour
  | .SAF_DIGEST => at_ 16 y.mismatches + y.passes
  | .FLT_HEAD => at_ 16 y.lost + y.next
  | .FLT_W0 =>
    at_ 24 e.code + at_ 22 e.region + at_ 19 e.reaction + flag 18 e.bar + flag 17 e.inj + e.boot
  | .FLT_W1 => e.detail
  | .FLT_W2 => e.stitch
  | .FLT_W3 => e.tack
  | _ => 0

def plRead (s : State) (r : Reg) (i : Nat) : Nat :=
  let p := s.pl
  match r with
  | .PL_STATUS =>
    at_ 31 p.actBit + flag 30 p.validA + flag 29 p.validB + flag 28 p.xfer.isSome + flag 27 p.cfgRun + at_ 24 p.phase +
      at_ 20 p.failA + at_ 16 p.failB
  | .PL_SEQ_A => p.seqA
  | .PL_SEQ_B => p.seqB
  | .PL_DIGEST => leNat ((p.digest.drop (4 * i)).take 4)
  | .PL_REJ => p.rej
  | .PL_FIRST_REJ => (match p.firstRej with | some (c, o) => at_ 24 c + 2 ^ 23 + o % 2 ^ 22 | none => 0)
  | .PL_TIME => at_ 16 (min 0xFFFF p.loadMs) + min 0xFFFF p.startMs
  | .PL_SPI => at_ 24 (min 255 p.sfdp.density) + at_ 16 p.sfdp.read + flag 8 p.sfdp.addr4 + p.sfdp.erase
  | _ => 0

/-! ## A read -/

/-- What the device shows in a register's read-only fields. -/
def shown (s : State) (r : Reg) (i j : Nat) : Nat :=
  match blockRow (addr r i j) with
  | 0 => glbRead s r
  | 1 => fabRead s r i
  | 2 => tbRead s r i
  | 3 => refRead s r i
  | 4 => synRead s r i
  | 5 => laneRead s r i j
  | 6 => portRead s r i j
  | 7 => strRead s r i j
  | 8 => mixRead s r i j
  | 9 => dynRead s r i
  | 10 => rbRead s r i
  | 11 => cioRead s r i
  | 12 => splRead s r i
  | 13 => evtRead s r i j
  | 14 => sesRead s r i j
  | 15 => prRead s r
  | 16 => safRead s r i
  | _ => plRead s r i

/-- The bits of a register that read as stored; in the witness role the unit registers of a pair show none (R441). -/
def storedBits (s : State) (r : Reg) (i j : Nat) : Nat :=
  if isWitness s && blockRow (addr r i j) == 15 then 0 else (desc r).rw ||| (desc r).w1c

/-- A register as it reads: stored bits and shown fields; write-only and reserved bits read zero (R6, R24). -/
def readReg (s : State) (r : Reg) (i : Nat := 0) (j : Nat := 0) : Word :=
  word (((rd s r i j).toNat &&& storedBits s r i j) ||| shown s r i j)

/-- A read of one 32-bit register of BAR0 (R356): a reserved address reads zero. -/
def readBar0 (s : State) (off : Nat) : Word := match findReg off with | some (r, i, j) => readReg s r i j | none => 0

/-- A read of BAR0 of any width (R357): the addressed bytes in ascending order, each of its 32-bit register as if that had
been read alone. -/
def readBytes (s : State) (off : Nat) : Nat → List Nat
  | 0 => []
  | n + 1 => (readBar0 s (off / 4 * 4)).toNat / 2 ^ (8 * (off % 4)) % 256 :: readBytes s (off + 1) n

end Sys2Proof.Machine
end

