-- ==== Sys2Proof/Machine/RegIf.lean ====
section
/-! DEFINITION. Writes as they arrive (spec/16): the checks of R361 in the order of R23, the result capture of R364 and
R365, writes to the spool windows. -/

namespace Sys2Proof.Machine

/-- Who writes a register: a PCIe requester, a session by REG_WRITE, the pattern loader (R345, R364, R388). -/
inductive Origin where
  | pcie | firyn | loader
  deriving DecidableEq, Repr

/-! ## The checks that every register shares -/

/-- The register has no writable field (R26); PHY_LAT of N0 and N1 is read-only (Table 09-6). -/
def noField (r : Reg) (i : Nat) : Bool :=
  (desc r).rw ||| (desc r).w1c ||| (desc r).wo == 0 || (r == .PHY_LAT && decide (i < 2))

/-- The write starts a register-path request (R44). -/
def startsRequest (s : State) (r : Reg) (v : Word) : Bool :=
  match r with
  | .STR_CMD => bit v 0 || bit v 2
  | .DYN_CMD => bit v 3 || bit v 5
  | .RB_CMD => bit v 0 || bit v 2
  | .BS_CMD => bit v 2
  | .CIO_CMD => bit v 2 && seAction s (fv s .CIO_CMD_ARG_INDEX) == 1
  | _ => false

/-- A write that sets a lock bit (Table 16-6). -/
def setsLock (r : Reg) (v : Word) : Bool := r == .GLB_CMD && fld v 4 5 != 0

/-- Active-owned state: what a standby refuses with PASSIVE (R330, R356, R376, R409, R441, R458). -/
def activeOwned (r : Reg) (off : Nat) (v : Word) : Bool :=
  match blockRow off with
  | 0 => setsLock r v
  | 13 => false
  | 15 => r == .PR_CFG
  | 16 => false
  | 17 => false
  | _ => (desc r).rw ||| (desc r).wo != 0

/-- The mode of the module lets nothing of this block be written (R385, R390, R455). -/
def modeRefuses (s : State) (r : Reg) (off : Nat) (v : Word) : Bool :=
  let blk := blockRow off
  (s.glb.mode == .bare && !((r == .GLB_CMD && !setsLock r v) || r == .GLB_RESET || r == .PL_CMD)) ||
    (s.glb.mode == .quiet && blk != 0 && blk != 16 && blk != 17) ||
    (isWitness s && blk != 0 && blk != 15 && blk != 17)

/-- A field's value lies outside its range, or a reserved bit is written 1 (R6, R361). -/
def outOfRange (r : Reg) (v : Word) : Bool :=
  v.toNat &&& (desc r).rsv != 0 || (desc r).ranges.any fun g => !within (fld v g.1 g.2.1) g.2.2.1 g.2.2.2

/-- A posted write of the register's region is pending (R366, R367). -/
def regionBusy (s : State) (r : Reg) (off : Nat) : Bool :=
  (desc r).posted && ((s.rf.posted.any fun p => slowRegion? p.2.1 == slowRegion? off) ||
    (slowRegion? off == some 0 && s.pr.cfgWait != []))

/-- The register lies in a lock group whose bit is set (R374), or was asked for by an earlier write (R375). -/
def isLocked (s : State) (r : Reg) : Bool :=
  match (desc r).lock with
  | some b => locksAsked s / 2 ^ b % 2 == 1
  | none => false

/-- Every reason why a write fails (R23, R361). -/
def regFails (o : Origin) (s : State) (r : Reg) (i j off : Nat) (v : Word) : List (Code × Bool) :=
  [ (.access, noField r i || (o != .pcie && startsRequest s r v)),
    (.locked, isLocked s r),
    (.passive, o != .loader && s.glb.passive && activeOwned r off v),
    (.busy, o != .loader && regionBusy s r off),
    (.badValue, outOfRange r v),
    (.wrongState, o != .loader && modeRefuses s r off v),
    (.integrity, s.rf.parityBad.contains off) ] ++ blockFails s r i j v

/-! ## One write -/

/-- The bits of a command register that are forwarded as they are written: those whose effect is mirrored in no other
form, as enables, sets, schedule entries, sessions and releases are (Table 18-8). -/
def fwdBits (r : Reg) : Nat :=
  match r with
  | .FAB_CMD => 3 | .TB_CMD => 3 | .REF_CMD => 7 | .SYN_CMD => 7 | .CG_CMD => 1 | .HOST_CMD => 1 | .SW_CMD => 7
  | .PORT_CMD => 7 | .STR_CMD => 0x70 | .DYN_CMD => 6 | .RB_CMD => 0x10 | .CIO_CMD => 1 | .SPL_CMD => 3 | .SES_CMD => 2
  | _ => 0

/-- The active unit of a pair forwards what it takes into active-owned registers (R427). -/
def forwardWrite (s : State) (r : Reg) (off : Nat) (v : Word) : State :=
  let w := if (desc r).rw ≠ 0 then kept r v else word (v.toNat &&& fwdBits r)
  if isPair s ∧ s.pr.state = .active ∧ r ≠ .PR_CFG ∧ activeOwned r off v ∧ ((desc r).rw ≠ 0 ∨ w ≠ 0) then
    mirror s (.write s.now off w)
  else s

/-- An accepted write, with what its register does. -/
def acceptWrite (o : Origin) (s : State) (r : Reg) (i j off : Nat) (v : Word) : State :=
  if o = .loader ∧ (desc r).posted then put s r i j v
  else forwardWrite (blockWrite s r i j v) r off v

/-- The result of a write before it is carried out (R366: the code is final). -/
def writeCode (o : Origin) (s : State) (off : Nat) (v : Word) : Code :=
  match findReg off with
  | none => .access
  | some (r, i, j) => firstCode (regFails o s r i j off v)

/-- A write whose result is known is carried out: one that fails changes nothing, one that meets a wrong parity reports
it (R373). -/
def carryOut (o : Origin) (s : State) (off : Nat) (v : Word) (c : Code) : State :=
  match findReg off with
  | none => s
  | some (r, i, j) =>
    if s.rf.parityBad.contains off then reportFault s 0x14 off 2
    else if c = .ok then acceptWrite o s r i j off v
    else s

/-- One 32-bit write of BAR0 (R359 to R363, R373): its result, and the state after it. -/
def writeReg (o : Origin) (s : State) (off : Nat) (v : Word) : Code × State :=
  (writeCode o s off v, carryOut o s off v (writeCode o s off v))

/-! ## Spool windows (R297, R308) -/

/-- Has an offset of a window a writable field (Table 13-2)? -/
def windowField (off : Nat) : Bool :=
  off == 4 || off == 8 || off == 0x10 || off == 0x14 || off == 0x18 || (decide (0x400 ≤ off) && decide (off < 0x800) && off % 4 == 0)

/-- One write of a spool window: `off` is the offset in BAR2 (R355). -/
def writeWindow (s : State) (off : Nat) (v : Word) (poison : Bool) : Code × State :=
  let x := off % 4096
  let n := off / 4096
  if !windowField x ∨ 4096 ≤ n then (.access, s)
  else if s.glb.passive then (.passive, s)
  else if (x = 4 ∨ x = 0x18) ∧ fld v 15 15 ≠ 0 then (.badValue, s)
  else if s.glb.mode = .bare ∨ s.glb.mode = .quiet ∨ isWitness s then
    (if (windowWrite s n x v poison).1 = .badValue then .badValue else .wrongState, s)
  else windowWrite s n x v poison

/-! ## Result capture (R364, R365) -/

/-- The layout of REG_WSTATUS (Table 16-5); BAR reads 1 for BAR2. -/
def statusWord (c : Code) (bar off : Nat) : Word := word (at_ 24 c.num + at_ 22 (b2n (bar != 0)) + off / 4 % 2 ^ 22)

/-- REG_WSTATUS takes the result; the first failure is held in REG_WERROR, every one is counted and raises WRITE_ERR. -/
def capture (s : State) (c : Code) (bar off : Nat) : State :=
  if c = .ok then s.setGlb fun g => { g with wstatus := statusWord c bar off }
  else
    raise (s.setGlb fun g => { g with
      wstatus := statusWord c bar off
      werror := some (g.werror.getD (statusWord c bar off))
      werrCnt := satInc 0xFFFFFFFF g.werrCnt }) .GLB_EVENT 1

/-- The result of a PCIe write of BAR0 (R23, R355, R360): ACCESS where byte enables are missing, and INTEGRITY for a
poisoned one that no earlier check of R23 refuses. -/
def pcieCode (s : State) (off : Nat) (v : Word) (be : Nat) (poison : Bool) : Code :=
  if be ≠ 15 then .access
  else
    match findReg off with
    | none => .access
    | some (r, i, j) => firstCode ((.integrity, poison) :: regFails .pcie s r i j off v)

/-- A PCIe write of one 32-bit register (R355, R359, R360, R364): byte enables, poison, BAR0 or BAR2. A discarded write
of BAR0 checks the parity of the register it addresses as well (R373). -/
def pcieWrite (s : State) (bar off : Nat) (v : Word) (be : Nat) (poison : Bool) : State :=
  if bar = 0 then
    let c := pcieCode s off v be poison
    carryOut .pcie (capture s c 0 off) off v c
  else if be ≠ 15 then capture s .access bar off
  else
    let (c, t) := writeWindow s off v poison
    capture t c bar off

/-- A PCIe write of a named register of BAR0. -/
def regWrite (s : State) (r : Reg) (i j : Nat) (v : Word) (be : Nat) : State := pcieWrite s 0 (addr r i j) v be false

/-- A command bit written through a register, all byte enables set. -/
def cmdBit (s : State) (r : Reg) (i b : Nat) : State := regWrite s r i 0 (word (2 ^ b)) 15

/-! ## Posted writes (R366, R368) -/

/-- A posted value is applied to its register; PR_CFG goes to the pair, which applies it at one boundary (R441). -/
def applyPosted (s : State) (p : Nat × Nat × Word) : State :=
  match findReg p.2.1 with
  | some (.PR_CFG, _, _) =>
    if isPair s ∧ s.pr.state = .active ∧ s.pr.linUp then
      mirror (s.setPr fun x => { x with cfgWait := x.cfgWait ++ [(s.now, p.2.2.toNat)] }) (.prCfg s.now p.2.2)
    else wr s .PR_CFG p.2.2
  | some (r, i, j) => wr s r p.2.2 i j
  | none => s

/-- POSTED_WRITE_APPLY: the write accepted first is applied and its region's BUSY falls (R366). -/
def postedApply (s : State) : State :=
  match s.rf.posted with
  | [] => s
  | p :: ps => applyPosted { s with rf := { s.rf with posted := ps } } p

end Sys2Proof.Machine
end

