-- ==== Sys2Proof/Machine/Pattern.lean ====
section
/-! DEFINITION. Selecting an image, applying its registers and admitting its objects (spec/17 R383, R388; spec/02
R48). -/

namespace Sys2Proof.Machine

/-! ## Selecting (R383) -/

def imageOf (s : State) (b : Bool) : Nor := if b then s.pl.norB else s.pl.norA
def checkOf (s : State) (b : Bool) : ImgCheck := checkImage (b && absentB s) (imageOf s b)

/-- What the headers say goes to the status: a header that fails its check, or the SEQUENCE of a valid one. -/
def noteHeader (s : State) (b : Bool) : State :=
  let c := norHeaderFail (b && absentB s) (imageOf s b)
  if c ≠ 0 then raise (noteImage s b { fail := c }) .PL_EVENT 2
  else
    let q := norSeq (b && absentB s) (imageOf s b)
    s.setPl fun p => if b then { p with failB := 0, seqB := q } else { p with failA := 0, seqA := q }

/-- Try images in order: the first valid one is selected, the others record why not. -/
def tryImages (s : State) : List Bool → State × Option (Nat × ImgCheck)
  | [] => (s, none)
  | b :: bs =>
    let c := checkOf s b
    if c.fail = 0 then (noteImage s b c, some (b2n b, c)) else tryImages (raise (noteImage s b c) .PL_EVENT 2) bs

/-- Read and select an image. -/
def selectImage (s : State) : State × Option (Nat × ImgCheck) :=
  let s := noteHeader (noteHeader s false) true
  tryImages s (tryOrder s)

/-- The selected image becomes the active one. -/
def setActive (s : State) (image : Nat) (c : ImgCheck) : State :=
  s.setPl fun p => { p with active := some image, actBit := image, digest := c.digest }

/-! ## Records (R388) -/

def PatRec.at : PatRec → Nat
  | .reg a _ _ => a
  | .change a _ => a
  | .enable a _ _ _ _ _ => a

/-- The object an ENABLES record names (R347). -/
def objKindOf : Nat → Option ObjKind
  | 0 => some .rx | 1 => some .tx | 2 => some .meter | 3 => some .vox | 4 => some .seam | 5 => some .conv
  | _ => none

/-- How many objects of a kind there are. -/
def objCount : ObjKind → Nat
  | .rx => 256 | .tx => 256 | .meter => 4096 | .vox => 256 | .seam => 512 | .conv => 512

/-- The operations a pattern may hold (R388). -/
def patOp (op : Nat) : Bool := [0x01, 0x03, 0x05, 0x06, 0x08, 0x09, 0x0B, 0x0D, 0x0E].contains op

/-- A record that is rejected counts; the first one is recorded (R388). -/
def rejectRec (s : State) (at_ : Nat) (c : Code) : State :=
  let s := s.setPl fun p => { p with
    rej := satInc 0xFFFF p.rej
    firstRej := match p.firstRej with | some e => some e | none => some (c.num, at_ / 4) }
  raise s .PL_EVENT 1

/-- The register records, one write each; a record that fails changes nothing. -/
def applyRegs (s : State) (rs : List PatRec) : State :=
  forEach rs s fun r s =>
    match r with
    | .reg a off v =>
      if s.glb.inReset then s
      else
        let (c, t) := writeReg .loader s off v
        if c = .ok then t else rejectRec t a c
    | _ => s

/-- SYSTEM, PORT_MACS and KEYS of a pattern (R388 steps 1 and 2). -/
def applyFixed (s : State) (p : Pattern) : State :=
  let s := s.setSpl fun y => { y with store := p.store }
  let macs := (p.macs.zipIdx.filter fun e => e.1 != 0).map fun e => (e.2, e.1)
  (s.setGlb fun g => { g with macs := macs }).setSes fun y => { y with keys := p.keys }

/-! ## Judging object records (R388) -/

/-- Judging a pattern: the tables it would leave in full, the tables so far, the records in order, the rejected ones. -/
structure PatJudge where
  full : State
  m : Mix
  ok : List PatRec := []
  rej : List (Nat × Code) := []
  deriving DecidableEq, Repr

/-- The range check of a change of a pattern. -/
def patChangeCode (s : State) (r : Rec) : Code :=
  if !patOp r.op || !r.ok then .badValue
  else if r.op = 1 then selectorCode s r.w3
  else .ok

/-- The changes of a pattern that pass their range check. -/
def patChanges (s : State) (rs : List PatRec) : List Rec :=
  rs.filterMap fun p => match p with
    | .change _ r => if patChangeCode s r = .ok then some r else none
    | _ => none

def patCtx (s : State) (seqOf : Nat → Nat) : ApplyCtx :=
  { ramp := (rd s .MIX_RAMP_DEF).toNat, keyRamp := (rd s .MIX_KEY_RAMP).toNat, before := s.mix, heard := s.mix.tables
    seqOf := seqOf, keyOn := refOn s }

/-- Judge one record; what fails for a reason other than capacity is rejected. -/
def judgeRec (all : List Rec) (j : PatJudge) (p : PatRec) : PatJudge :=
  let no (a : Nat) (c : Code) : PatJudge := { j with rej := j.rej ++ [(a, c)] }
  match p with
  | .reg _ _ _ => j
  | .change a r =>
    let c := patChangeCode j.full r
    if c ≠ .ok then no a c
    else match nameFail (fun _ => .ok) {} j.full.mix all r with
      | some f => no a f.code
      | none =>
        let m := applyChange (patCtx j.full fun _ => 0) 0 r j.m
        match worstFail m r with
        | some f => no a f.code
        | none => { j with m := m, ok := j.ok ++ [p] }
  | .enable a o act cls rsv i =>
    match objKindOf o with
    | none => no a .badValue
    | some k =>
      if act ≠ 0 ∨ 3 < cls ∨ rsv ≠ 0 ∨ objCount k ≤ i then no a .badValue
      else
        let c := firstCode ((enableFails j.full k i).filter fun e => e.1 != .noCapacity)
        if c ≠ .ok then no a c
        else { j with
          ok := j.ok ++ [p]
          full := j.full.setMix fun m => { m with
            enables := m.enables ++ [{ acceptedAt := 0, obj := k, index := i, cls := cls, on := true }] } }

/-- Judge the object records of a pattern on the registers of `s`. -/
def judgePattern (s : State) (rs : List PatRec) : PatJudge :=
  let all := patChanges s rs
  let full := s.setMix fun _ => applyRecs (patCtx { s with mix := {} } fun _ => 0) all {}
  rs.foldl (judgeRec all) { full := full, m := {} }

/-! ## Admission class by class (R48) -/

/-- What a record names: operation or object, and its indices. -/
def PatRec.key : PatRec → Nat × Nat × Nat
  | .reg a _ _ => (0x200, a, 0)
  | .change _ r => (r.op, r.a, if r.op = 0x03 ∨ r.op = 0x06 ∨ r.op = 0x09 then r.b else 0)
  | .enable _ o _ _ _ i => (0x100 + o, i, 0)

/-- Does a record name an object that costs work? -/
def PatRec.isWork : PatRec → Bool
  | .reg _ _ _ => false
  | .change _ r => [0x01, 0x03, 0x06, 0x09, 0x0B].contains r.op
  | .enable _ _ _ _ _ _ => true

def PatRec.cls : PatRec → Nat
  | .reg _ _ _ => 0
  | .change _ r => r.cls
  | .enable _ _ _ c _ _ => c

/-- What its object costs (Table 02-1). -/
def PatRec.cost (s : State) : PatRec → Nat
  | .reg _ _ _ => 0
  | .change _ r => match r.op with
    | 0x01 => mixCost s 0 0 | 0x03 => mixCost s 1 0 | 0x06 => mixCost s 2 (32 * r.a) | 0x09 => mixCost s 3 0
    | _ => mixCost s 4 0
  | .enable _ o _ _ _ i => match objKindOf o with | some k => objCost s k i | none => 0

/-- The class its object has now, if it exists. -/
def PatRec.present (s : State) : PatRec → Option Nat
  | .reg _ _ _ => none
  | .change _ r => match r.op with
    | 0x01 => if s.mix.srcLive r.a then (Tbl.get? s.mix.sources r.a).map (·.cls) else none
    | 0x03 => if s.mix.talkLive r.a r.b then (s.mix.talk? r.a r.b).map (·.cls) else none
    | 0x06 => if s.mix.subLive r.a r.b then (s.mix.sub? r.a r.b).map (·.cls) else none
    | 0x09 => if s.mix.xpLive r.a r.b then (s.mix.xp? r.a r.b).map (·.2.cls) else none
    | _ => if s.mix.dstLive r.a then (Tbl.get? s.mix.dests r.a).map (·.cls) else none
  | .enable _ o _ _ _ i => match objKindOf o with
    | some k => ((allLoads s).find? fun l => l.kind == k.num && l.index == i && !l.out).map (·.cls)
    | none => none

/-- Admission of a pattern so far: tables, a state that holds the enables taken, demand, classes taken by key, records
taken, records not admitted. -/
structure PatAdmit where
  m : Mix
  cur : State
  d : Demand
  seen : List ((Nat × Nat × Nat) × Nat) := []
  took : List PatRec := []
  short : List PatRec := []
  deriving DecidableEq, Repr

/-- No table is exceeded by a record (R41). -/
def patRoom (a : PatAdmit) (m : Mix) : PatRec → Bool
  | .reg _ _ _ => true
  | .change _ r => (roomFail m r).isNone
  | .enable _ o _ _ _ i => match objKindOf o with
    | some k => !(enableFails a.cur k i).any fun e => e.1 == .noCapacity && e.2
    | none => false

/-- One record of the order of R48: taken, or not admitted; what adds no work is always taken (R42). -/
def admitRec (s : State) (a : PatAdmit) (p : PatRec) : PatAdmit :=
  let old := match a.seen.find? fun e => e.1 == p.key with
    | some e => some e.2
    | none => p.present s
  let m := match p with
    | .change _ r => applyChange (patCtx s fun _ => 0) 0 r a.m
    | _ => a.m
  let cur := match p with
    | .enable _ o _ c _ i => (match objKindOf o with
      | some k => a.cur.setMix fun x => { x with
          enables := x.enables ++ [{ acceptedAt := 0, obj := k, index := i, cls := c, on := true }] }
      | none => a.cur)
    | _ => a.cur
  if old = some p.cls then { a with m := m, cur := cur, took := a.took ++ [p] }
  else
    let cost := p.cost s
    let d := (match old with | some c => a.d.sub c cost | none => a.d).add p.cls cost
    if a.short.isEmpty && patRoom a m p && fits s d (res0 s) (vCap s) (p.cls == 0) then
      { a with m := m, cur := cur, d := d, seen := (p.key, p.cls) :: a.seen, took := a.took ++ [p] }
    else { a with short := a.short ++ [p] }

/-- The work records in the order of R48: by class, then as they stand. -/
def byClass (rs : List PatRec) : List PatRec :=
  [0, 1, 2, 3].flatMap fun c => rs.filter fun p => p.isWork && p.cls == c

/-- Kind and index of a record's object in the tables of the full pattern (Table 02-26). -/
def PatRec.objIn (full : State) : PatRec → Option (Nat × Nat)
  | .reg _ _ _ => none
  | .change _ r => match r.op with
    | 0x01 => some (0, r.a)
    | 0x03 => (full.mix.talk? r.a r.b).map fun t => (1, 16 * r.a + t.slot)
    | 0x06 => (full.mix.sub? r.a r.b).map fun t => (2, 32 * r.a + t.slot)
    | 0x09 => (full.mix.xp? r.a r.b).map fun t => (3, t.1)
    | _ => some (4, r.a)
  | .enable _ o _ _ _ i => (objKindOf o).map fun k => (k.num, i)

/-- What takes effect of a pattern: records taken, and records that are not admitted with everything that depends on
an object among them that does not exist. -/
def admitPattern (s : State) (j : PatJudge) : List PatRec × List PatRec :=
  let order := byClass j.ok
  let a := order.foldl (admitRec s) { m := s.mix, cur := s, d := demand s }
  let ls := allLoads j.full
  let lost := a.short.flatMap fun p =>
    if (p.present s).isSome then [] else match p.objIn j.full with
      | some o => withDeps j.full ls o.1 o.2
      | none => []
  let out (p : PatRec) : Bool := a.short.contains p || match p.objIn j.full with
    | some o => (p.present s).isNone && lost.contains o
    | none => false
  ((j.ok.filter fun p => !out p), order.filter out)

/-- SHED_LOG of objects not admitted (R48, R60): source for KIND 1 and 3, listener for KIND 2, streams by channel. -/
def logShort (s : State) (full : State) (ps : List PatRec) : State :=
  if ps.isEmpty then s
  else
    let cs := cands full (allLoads full)
    forEach ps (raise s .FAB_EVENT 0x10) fun p s =>
      let key := (p.objIn full).getD (0, 0)
      let cls := match cs.find? fun c => c.kind == key.1 && c.index == key.2 with | some c => c.cls | none => p.cls
      let one (kind i : Nat) (s : State) : State :=
        logShed s { cls := cls, kind := kind, cause := 2, index := i, seq := p.at / 4 }
      match p with
      | .reg _ _ _ => s
      | .change _ r => (match r.op with
        | 0x01 => one 0 r.a s | 0x03 => one 1 r.a s | 0x06 => one 2 r.a s | 0x09 => one 3 r.a s
        | _ => one 4 r.a s)
      | .enable _ o _ _ _ i => (match o with
        | 0 => forEach (List.range (rxChans full i)) s fun c s => one 9 (64 * i + c) s
        | 1 => forEach (List.range (txChans full i)) s fun c s => one 10 (64 * i + c) s
        | 2 => one 7 i s | 3 => one 8 i s | 4 => one 5 i s
        | _ => one 6 i s)

/-! ## Taking effect -/

/-- Changes of the records taken, with their offsets. -/
def takenChanges (ps : List PatRec) : List (Nat × Rec) :=
  ps.filterMap fun p => match p with | .change a r => some (a, r) | _ => none

/-- The records taken come into the tables as one net change (R398): objects get consecutive numbers in section order
(R47), what names an object that is not there is left out, enables wait for their boundary. -/
def applyTaken (s : State) (first : List Rec) (ps : List PatRec) : State :=
  let made := (ps.filter fun p => p.isWork && (p.present s).isNone).map PatRec.at
  let base := s.fab.admSeq + 1
  let cs := takenChanges ps
  let n := first.length
  let seqFor (l : List (Nat × Rec)) (i : Nat) : Nat := match l[i - n]? with
    | some e => seqIn base made e.1
    | none => 0
  let after := applyRecs (patCtx s (seqFor cs)) (first ++ cs.map (·.2)) s.mix
  let cs := cs.filter fun e => (nameFail (fun _ => .ok) s.mix after [] e.2).isNone
  let mix := applyRecs (patCtx s (seqFor cs)) (first ++ cs.map (·.2)) s.mix
  let ens := ps.filterMap fun p => match p with
    | .enable a o _ c _ i => (objKindOf o).map fun k =>
        ({ acceptedAt := s.now, obj := k, index := i, cls := c, on := true, seq := seqIn base made a } : Enable)
    | _ => none
  let s := s.setFab fun f => { f with admSeq := f.admSeq + made.length }
  s.setMix fun _ => { mix with enables := s.mix.enables ++ ens }

/-- Rejected records go to the status (R388). -/
def noteRejects (s : State) (rej : List (Nat × Code)) : State := forEach rej s fun e s => rejectRec s e.1 e.2

end Sys2Proof.Machine
end

