-- ==== Sys2Proof/Machine/StartUp.lean ====
section
/-! DEFINITION. Start-up, audio start, BARE, and the writing of the inactive image (spec/17 R384 to R392; spec/01 R9). -/

namespace Sys2Proof.Machine

/-! ## Audio start (R9, R389) -/

/-- The time of a media clock's grid, T − MOFS, in 10^-12 / 147 ns (R227). -/
def gridTime (s : State) (m : Nat) : Int := ((tns s (mediaTb s m) : Int) - (rd s .MC_OFS m).toInt) * 147000000000000

/-- Blocks of a media clock that its media time base has passed: floor((T − MOFS) / block period), 6 samples of its
family (R9, R226, R227). -/
def blocksPassed (s : State) (m : Nat) : Nat := field 64 (gridTime s m / blockUnits s m)

/-- How far a media clock's media time base is past an instant of its grid, in 10^-12 / 147 ns; the stitches themselves
are MC0's (R228). -/
def gridLate (s : State) (m : Nat) : Nat := if m = 0 then 0 else (gridTime s m % blockUnits s m).toNat

/-- The stitch number and the block counts are loaded, so that the next boundary has the number of R9; ACC of every time
base is cleared (R218, R227). -/
def loadStitch (s : State) : State :=
  let s := s.setTb fun b => { b with tbs := Tbl.mapV b.tbs fun _ x => { x with acc := 0 } }
  let s := forEach [0, 1, 2, 3] s fun m s => setMc s m { mcOf s m with blocks := blocksPassed s m }
  s.setMix fun m => { m with stitch := blocksPassed s 0 }

/-- Start every lane group that is enabled (R144, R388). -/
def startLanes (s : State) : State :=
  if held s 5 then s else forEach (List.range 8) s fun g s => if fb s .CG_CTRL_EN g then cgStart s g else s

/-- Every enable that waits takes effect. -/
def enableAll (s : State) : State :=
  let es := s.mix.enables
  forEach es (s.setMix fun m => { m with enables := [] }) fun e s => applyEnable s e

/-- Whole milliseconds since an instant. -/
def msSince (s : State) (t : Nat) : Nat := min ((s.now - t) / 1000000) 0xFFFF

/-- VCORE is rising for a request or being confirmed (Table 02-5). -/
def vBusy (s : State) : Bool := s.fab.vstate == .raising || s.fab.vstate == .confirming

/-- AUDIO_START (R389): a pattern that needs a higher step is decided when VCORE has reached it. The stitches start on the
grid: the boundary before lies at its last instant (R228). -/
def audioStart (s : State) : State :=
  if s.pl.started ∧ s.glb.mode = .starting ∧ !s.mix.audioOn ∧ !vBusy s then
    let late := (gridTime s 0 % blockUnits s 0).toNat / 147000000000000
    let s := refAudioStart (loadStitch s) (some (gridLate s))
    let s := s.setGlb fun g => { g with mode := .running }
    let s := s.setPl fun p => { p with started := false, phase := 6, startMs := msSince s p.releaseAt }
    let s := s.setMix fun m => { m with audioOn := true, ran := false, boundaryAt := s.now - late }
    vcoreEval (startLanes (enableAll s))
  else s

/-! ## BARE (R384) -/

/-- The MODE that N0 tries in BARE, by turn. -/
def bareMode (k : Nat) : Nat := match k % 4 with | 0 => 0 | 1 => 1 | 2 => 3 | _ => 2

/-- N0 tries a MODE of BARE from now on. -/
def bareTry (s : State) (k : Nat) : State :=
  let s := portEnable s 0 false
  let s := setFd (setFd (setFd s .PORT_CTRL_MODE (bareMode k)) .PORT_CTRL_KX_ADV 1) .PORT_CTRL_EN 1
  portEnable (s.setPl fun p => { p with bareIdx := k % 4, bareAt := s.now }) 0 true

/-- A full reset that selects no image enters BARE. -/
def enterBare (s : State) : State :=
  let s := (s.setGlb fun g => { g with mode := .bare }).setPl fun p => { p with active := none, phase := 7 }
  bareTry s 0

/-- BARE_MODE_TIMER: 2 s without reaching UP. -/
def bareTimer (s : State) : State :=
  if s.glb.mode = .bare ∧ (portOf s 0).state ≠ .up ∧ s.pl.bareAt + 2000000000 ≤ s.now then bareTry s (s.pl.bareIdx + 1)
  else s

/-! ## Start-up (R387 to R392) -/

/-- Pace calibration at VCORE 1.20 V: needles below R35 are taken out. -/
def calibrate (s : State) (paces : List Nat) : State :=
  forEach paces.zipIdx s fun p s =>
    if p.2 < 32 ∧ p.1 < tCurve 30 * 7 / 256 then
      raise (setNeedle s p.2 { needleOf s p.2 with inService := false, pace := p.1 }) .FAB_EVENT 0x20
    else if p.2 < 32 then setNeedle s p.2 { needleOf s p.2 with pace := p.1 }
    else s

/-- VCORE rises to the step that the pattern selects, and audio start waits until it is confirmed (R48, R50, Table
02-5). -/
def raiseForPattern (s : State) : State :=
  let sel := selected s
  if s.fab.vnow < sel then vRaise s sel else s

/-- Step 4 of R388: the objects of a pattern are admitted and wait for audio start. -/
def admitStart (s : State) (recs : List PatRec) : State :=
  let j := judgePattern s recs
  let s := noteRejects s j.rej
  let (took, out) := admitPattern s j
  raiseForPattern (applyTaken (logShort s j.full out) [] took)

/-- Step 5 of R388: LOCKS. -/
def applyLocks (s : State) (bits : Nat) : State :=
  if bits = 0 then s else raise (s.setGlb fun g => { g with locks := g.locks ||| bits }) .GLB_EVENT 4

/-- Step 5 of start-up: a unit whose peer is active joins it, any other one applies its pattern's objects; a unit of a
pair then claims (R391, Table 18-7). -/
def startPattern (s : State) (p : Pattern) (peerOe : Option Bool) : State :=
  let s := applyRegs (applyFixed s p) p.recs
  if s.glb.inReset then s
  else if isPair s ∧ peerOe = some true then applyLocks (beginJoin s) p.locks
  else
    let s := applyLocks (admitStart s p.recs) p.locks
    let s := s.setPl fun x => { x with started := true }
    if isPair s then prState s .claiming else s

/-- What a start-up finds outside the module at once: straps, OE_ALLOW. -/
def senseStart (s : State) (env : StartEnv) : State :=
  let s := s.setGlb fun g => { g with inReset := false, straps := env.straps % 4 }
  let s := s.setPr fun p => { p with line := env.oePin, lineAt := s.now }
  s.setPl fun p => { p with releaseAt := s.now, norA := env.norA.getD p.norA, norB := env.norB.getD p.norB }

/-- How the loader reads the NOR: the fastest read that SFDP declares, 4-byte addresses above 16 MiB, and 0x0B with 3-byte
addresses where SFDP cannot be read (R377); then erases go by 64 KiB (DESIGN CHOICE, log entry 110). -/
def norReading : Option SfdpTable → Sfdp
  | some t =>
    { density := t.density, read := if t.fast144 then 0 else if t.fast114 then 1 else 2, addr4 := decide (16 < t.density)
      erase := if t.erase = 4 then 4 else 64 }
  | none => { density := 0, read := 2, addr4 := false, erase := 64 }

/-- Steps 2 to 4 of start-up: SFDP and the pattern are read (Table 17-4). -/
def readStart (s : State) (env : StartEnv) : State :=
  s.setPl fun p => { p with sfdp := norReading env.sfdp, loadMs := min env.loadMs 0xFFFF, phase := 5 }

/-- The lining has come up during start-up, and the peer's DIGEST with it (R391, R426). -/
def liningStart (s : State) (env : StartEnv) : State :=
  match env.lining with
  | some d => if isPair s then
      raise (s.setPr fun p => { p with linUp := true, linRun := 64, linSeen := true, peerDigest := d }) .PR_EVENT 0x20 else s
  | none => s

/-- The start-up of a unit with audio: the output gate of one that is alone, the images, the pattern (R387, R388). -/
def startUnit (s : State) (env : StartEnv) : State :=
  let s := if isPair s then s else setGate s env.oePin
  let r := selectImage (readStart s env)
  match r.2 with
  | none => enterBare r.1
  | some (i, c) => startPattern (liningStart (calibrate (setActive r.1 i c) env.paces) env) c.pat env.peerOe

/-- The role a unit starts in (Table 18-1). -/
def startRole (s : State) : State := if isPair s then rolePowers s else prState s .solo

/-- Start-up by what the straps and the DRAM allow: a module whose boot or DRAM fails goes QUIET at that step (R392, Table
17-4); a witness starts its service (R390). -/
def startAs (s : State) (env : StartEnv) : State :=
  if !env.bootOk then reportFault s 0x19 0 2
  else if !env.dramOk then reportFault (s.setPl fun p => { p with phase := 1 }) 0x19 0 2
  else if isWitness s then (s.setGlb fun g => { g with mode := .running }).setPl fun p => { p with phase := 6 }
  else startUnit s env

/-- RESET_RELEASE (R387): start-up as far as its pattern is decided. -/
def startUp (s : State) (env : StartEnv) : State :=
  if !s.glb.inReset then s else startAs (startRole (synStart (senseStart s env))) env

/-! ## The inactive image (R351, R378, R386) -/

/-- Which image a transfer writes: the one that is not active, A in BARE. -/
def inactive (s : State) : Nat := match s.pl.active with | some 0 => 1 | _ => 0

def setNor (s : State) (image : Nat) (n : Nor) : State :=
  s.setPl fun p => if image = 0 then { p with norA := n } else { p with norB := n }

/-- Bytes written over others at an offset; what lies between stays erased. -/
def overlay (bs : List Byte) (off : Nat) (new : List Byte) : List Byte :=
  norBytes bs 0 off ++ new ++ bs.drop (off + new.length)

def norList : Nor → List Byte
  | .bytes bs => bs
  | .unreadable => []

/-- IMG_BEGIN: the inactive image is erased, header first. -/
def imgBegin (s : State) (who len : Nat) : State :=
  (setNor s (inactive s) (.bytes [])).setPl fun p => { p with xfer := some { owner := who, len := len } }

/-- IMG_DATA: the next bytes are programmed; the header is held. -/
def imgData (s : State) (x : Xfer) (bs : List Byte) : State :=
  let hdr := x.hdr ++ bs.take (64 - x.hdr.length)
  let body := bs.drop (hdr.length - x.hdr.length)
  let s := if body.isEmpty then s
    else setNor s (inactive s) (.bytes (overlay (norList (imageOf s (inactive s == 1))) (max 64 x.got) body))
  s.setPl fun p => { p with xfer := some { x with got := x.got + bs.length, hdr := hdr } }

/-- What IMG_END checks: the body in the NOR against the held header (R382). -/
def imgCheck (s : State) (x : Xfer) : ImgCheck :=
  let body := norBytes (norList (imageOf s (inactive s == 1))) 64 (leAt x.hdr 8 4)
  let c := headerFail x.hdr
  if c ≠ 0 then { fail := c } else checkBody x.hdr body

/-- IMG_END: a body that passes gets its header; the transfer is over either way. -/
def imgEnd (s : State) (x : Xfer) (c : ImgCheck) : State :=
  let i := inactive s
  let s := if c.fail = 0 then setNor s i (.bytes (overlay (norList (imageOf s (i == 1))) 0 x.hdr)) else s
  noteImage (abortXfer s) (i == 1) c

/-- An erase or program operation of the NOR, and whether it fails: the NOR lies outside the module, so it is open which
do (R386, log entry 88). -/
def norTry (s : State) : Bool × State :=
  let (k, s) := draw s
  (Config.norFails k, s)

/-- An error of the NOR ends the transfer and leaves the image invalid (R386; log entry 88). -/
def norError (s : State) : State := abortXfer (setNor s (inactive s) (.bytes []))

/-- IMG_BEGIN at the NOR: an erase error is INTERNAL. -/
def eraseImage (s : State) (who len : Nat) : Code × State :=
  if imageOf s (inactive s == 1) = .unreadable then (.internal, abortXfer s)
  else
    let (bad, s) := norTry s
    if bad then (.internal, norError s) else (.ok, imgBegin s who len)

/-- IMG_DATA at the NOR: bytes of the header are held and program nothing; a program error is INTERNAL. -/
def programImage (s : State) (x : Xfer) (bs : List Byte) : Code × State :=
  if x.got + bs.length ≤ 64 then (.ok, imgData s x bs)
  else
    let (bad, s) := norTry s
    if bad then (.internal, norError s) else (.ok, imgData s x bs)

/-- IMG_END at the NOR: only an image that passes every check gets its header, which is read back; an error is INTERNAL.
-/
def sealImage (s : State) (x : Xfer) (c : ImgCheck) : Code × State :=
  if c.fail ≠ 0 then (.integrity, imgEnd s x c)
  else
    let (bad, s) := norTry s
    let i := inactive s == 1
    if bad then (.internal, noteImage (norError s) i { c with fail := (checkImage false (.bytes [])).fail }) else (.ok, imgEnd s x c)

/-! ## RESCAN (R409) -/

/-- RESCAN_COMPLETE: both images are read and checked; ACTIVE and PL_DIGEST stay. -/
def rescanDone (s : State) : State :=
  if s.pl.rescan then
    let s := noteImage (noteImage s false (checkOf s false)) true (checkOf s true)
    s.setPl fun p => { p with rescan := false }
  else s

end Sys2Proof.Machine
end

