-- ==== Sys2Proof/Machine/ConfigReset.lean ====
section
/-! DEFINITION. Configuration resets: reading, deciding, and the net change at their boundary (spec/17 R395 to R401). -/

namespace Sys2Proof.Machine

/-! ## Taking part and failing (R396, R401) -/

/-- The peer takes part in a configuration reset: both units in mirror sync over a lining that is up (R401). -/
def cfgWithPeer (s : State) : Bool := isPair s && s.pr.state == .active && s.pr.linUp && s.pr.peerSync

/-- The configuration reset fails: the present configuration and the fields of the selection before it stay, but for
the failure codes (R396). -/
def cfgFailed (s old : State) : State :=
  raise (s.setPl fun p => { old.pl with failA := p.failA, failB := p.failB, cfgRun := false, net := none }) .PL_EVENT 8

/-! ## What differs (R398, R399) -/

/-- A register whose RW fields differ between the present and the new configuration; `guarded` says that the present
object does not let the field be written (R399). -/
structure Chg where
  off : Nat
  reg : Reg
  i : Nat
  j : Nat
  v : Word
  guarded : Bool
  deriving DecidableEq, Repr

/-- MSI-X registers belong to the PCIe function, which a configuration reset leaves alone (Table 17-5). -/
def ofPcie : Reg → Bool
  | .MSIX_LO => true | .MSIX_HI => true | .MSIX_DATA => true | .MSIX_CTRL => true
  | _ => false

/-- The stored word of an offset. -/
def stored (s : State) (off : Nat) : Word := Tbl.getD s.rf.regs off (resetAt off)

/-- Every register that differs. -/
def cfgChanges (s sh : State) : List Chg :=
  let offs := (sh.rf.regs.foldl (fun t e => Tbl.put t e.1 ()) (s.rf.regs.map fun e => (e.1, ()))).map (·.1)
  offs.filterMap fun off => match findReg off with
    | some (r, i, j) =>
      let m := (desc r).rw
      let v := stored sh off
      if ofPcie r ∨ (stored s off).toNat &&& m = v.toNat &&& m then none
      else some { off := off, reg := r, i := i, j := j, v := kept r v, guarded := (blockFails s r i j v).any fun e => e.1 == .wrongState && e.2 }
    | none => none

/-- A guarded field of object `i` in one of some registers changes. -/
def hitBy (cs : List Chg) (rs : List Reg) (i : Nat) : Bool := cs.any fun c => c.guarded && c.i == i && rs.contains c.reg

/-- Registers of a receive stream. -/
def rxRegs : List Reg := [.RX_W0, .RX_W1, .RX_W2, .RX_W3, .RX_W4, .RX_DST_A, .RX_SRC_A, .RX_DST_B, .RX_SRC_B]

/-- A group whose format or lane direction changes. -/
def groupHit (cs : List Chg) (g : Nat) : Bool :=
  hitBy cs [.CG_FMT] g || cs.any fun c => c.guarded && c.reg == .LANE_DIR && c.i / 8 == g

/-! ## Stopping and starting objects (R399) -/

/-- What is enabled now and is not enabled, or not so defined, in the new configuration stops in order. -/
def cfgStops (s sh : State) (cs : List Chg) : State :=
  let stops (f : Fd) (i : Nat) (hit : Bool) : Bool := fb s f i && (hit || !fb sh f i)
  let s1 := forEach [0, 1, 2, 3] s fun k t =>
    if stops .TB_CTRL_EN k (hitBy cs [.TB_CTRL, .TB_VLAN, .TB_INTV] k) then tbEnable t k false else t
  let s1 := forEach [0, 1, 2, 3] s1 fun p t => if stops .PLS_CFG_EN p (hitBy cs [.PLS_CFG, .PLS_WIDTH] p) then plsDisable t p else t
  let s1 := forEach [0, 1, 2, 3] s1 fun j t => if stops .MCK_CFG_EN j (hitBy cs [.MCK_CFG] j) then mckSet t j false else t
  let s1 := forEach (List.range 8) s1 fun g t => if stops .CG_CTRL_EN g (groupHit cs g) then cgStopping t g else t
  let s1 := forEach [0, 1, 2, 3] s1 fun n t =>
    if stops .PORT_CTRL_EN n (hitBy cs [.PORT_CTRL, .PORT_VLAN] n) then portEnable t n false else t
  let s1 := forEach (List.range 256) s1 fun r t => if hitBy cs rxRegs r then rxOff t r else t
  let s1 := forEach (List.range 256) s1 fun r t => if hitBy cs txRegs r then txOff t r else t
  forEach (List.range 512) s1 fun m t =>
    let t := if hitBy cs [.SM_W0, .SM_W1] m then seamOff t m else t
    if hitBy cs [.SC_W0, .SC_W1] m then scOff t m else t

/-- What the new configuration enables and is not running so starts; a group still stopping starts once it is OFF. -/
def cfgStarts (s old : State) (cs : List Chg) : State :=
  let starts (f : Fd) (i : Nat) (hit : Bool) : Bool := fb s f i && (hit || !fb old f i)
  let s := forEach [0, 1, 2, 3] s fun k t =>
    if starts .TB_CTRL_EN k (hitBy cs [.TB_CTRL, .TB_VLAN, .TB_INTV] k) then tbEnable t k true else t
  let s := forEach [0, 1, 2, 3] s fun p t => if starts .PLS_CFG_EN p (hitBy cs [.PLS_CFG, .PLS_WIDTH] p) then plsEnable t p else t
  let s := forEach [0, 1, 2, 3] s fun j t => if starts .MCK_CFG_EN j (hitBy cs [.MCK_CFG] j) then mckSet t j true else t
  forEach [0, 1, 2, 3] (startLanes s) fun n t => if fb t .PORT_CTRL_EN n then portEnable t n true else t

/-- Event entries change one by one: a source that changes its target or vector is withdrawn first (R323, R399). -/
def cfgEvents (s : State) (cs : List Chg) : State :=
  forEach cs s fun c s =>
    let one (src : Nat) : State :=
      let s := if evCfgConflict s src c.v then evCfgWrite s src (word ((evCfg s src).toNat % 2 ^ 31)) else s
      evCfgWrite s src c.v
    match c.reg with
    | .EV_CFG => one c.i
    | .EV_OCFG => one (1792 + c.i)
    | .TGT_CTRL => tgtCtrl s c.i c.v
    | _ => s

/-- Changes that act when their register comes into force: map crossfades, realigned pulses, spools whose entry
changes, rules defined anew, the software control of a media clock. -/
def cfgHooks (s old : State) (cs : List Chg) : State :=
  forEach cs s fun c s =>
    match c.reg with
    | .SLOT_MAP => mapHook s (s.now, c.off, c.v)
    | .HOST_MAP => mapHook s (s.now, c.off, c.v)
    | .TX_MAP => mapHook s (s.now, c.off, c.v)
    | .PLS_OFS => plsOffset s c.i (rd old .PLS_OFS c.i).toInt c.v.toInt
    | .SP_W0 => if bit c.v 31 then flushSpool s c.i else disableSpool s c.i
    | .SP_W1 => flushSpool s c.i
    | .CO_CFG => setCo s c.i { coOf s c.i with state := .off, was := false, ready := false, cmdA := false, cmdB := false }
    | .MC_CTRL =>
      if fb old .MC_CTRL_SW c.i ∧ !bit c.v 30 then swOff s c.i
      else if !fb old .MC_CTRL_SW c.i ∧ bit c.v 30 then swRun s c.i
      else s
    | .CR_W0 => s.setCio fun y => { y with ruleA := Tbl.del y.ruleA c.i, ruleB := Tbl.del y.ruleB c.i }
    | _ => s

/-- The RW fields take their new values, and nothing waits any more (Table 17-5). -/
def cfgRegs (s : State) (cs : List Chg) : State :=
  let regs := cs.foldl (fun t c =>
    let m := (desc c.reg).rw
    let o := Tbl.getD t c.off (resetAt c.off)
    Tbl.set (resetAt c.off) t c.off (word (o.toNat - (o.toNat &&& m) + c.v.toNat))) s.rf.regs
  { s with rf := { regs := regs } }

/-! ## The net change of the mix (R398) -/

def recWord (op cls a b gain aux : Nat) (w3 : Nat) : Rec :=
  { w0 := word (at_ 24 op + at_ 20 cls), w1 := word (at_ 16 a + b), w2 := word (at_ 16 gain + aux), w3 := word w3 }

/-- Deletions of mix objects that the pattern lacks, and settings that it does not give, back to their defaults. -/
def cfgRemovals (m : Mix) (ps : List PatRec) : List Rec :=
  let rs := (takenChanges ps).map (·.2)
  let has (op a : Nat) (b : Option Nat) : Bool :=
    rs.any fun r => r.op == op && r.a == a && (match b with | some x => r.b == x | none => true)
  (m.xps.filterMap fun e =>
    if e.2.dying || has 0x09 e.2.src (some e.2.dst) then none else some (recWord 0x0A 0 e.2.src e.2.dst 0 0 0)) ++
  (m.sources.flatMap fun e => e.2.talks.filterMap fun t =>
    if t.dying || has 0x03 e.1 (some t.bus) then none else some (recWord 0x04 0 e.1 t.bus 0 0 0)) ++
  (m.listeners.flatMap fun e => e.2.subs.filterMap fun u =>
    if u.dying || has 0x06 e.1 (some u.bus) then none else some (recWord 0x07 0 e.1 u.bus 0 0 0)) ++
  (m.sources.filterMap fun e =>
    if e.2.dying.isSome || has 0x01 e.1 none then none else some (recWord 0x02 0 e.1 0 0 0 0)) ++
  (m.dests.filterMap fun e =>
    if e.2.dying.isSome || has 0x0B e.1 none then none else some (recWord 0x0C 0 e.1 0 0 0 0)) ++
  (m.buses.filterMap fun e => if has 0x05 e.1 none then none else some (recWord 0x05 2 e.1 0 0 0 0)) ++
  (m.listeners.filterMap fun e =>
    if has 0x08 e.1 none || e.2.own == [0xFFFF, 0xFFFF, 0xFFFF, 0xFFFF] then none
    else some (recWord 0x08 0 e.1 0 0xFFFF 0xFFFF 0xFFFFFFFF)) ++
  (m.dests.filterMap fun e =>
    if e.2.dying.isSome || !has 0x0B e.1 none || has 0x0D e.1 none || e.2.feed == 0xFFFF then none
    else some (recWord 0x0D 0 e.1 0xFFFF 0 0 0)) ++
  (m.dests.filterMap fun e =>
    if e.2.dying.isSome || !has 0x0B e.1 none || has 0x0E e.1 none || (e.2.duckGain == 16384 && e.2.duckAct == 0 && e.2.duckRel == 400)
    then none else some (recWord 0x0E 0 e.1 0 16384 0 400))

/-- Objects beside the mix that the pattern does not enable stop (R398). -/
def cfgDisables (s : State) (ps : List PatRec) : State :=
  forEach (loads s) s fun l s =>
    let kept := ps.any fun p => match p with
      | .enable _ o _ _ _ i => (match objKindOf o with | some k => k.num == l.kind && i == l.index | none => false)
      | _ => false
    if kept then s
    else match l.kind with
      | 5 => seamOff s l.index | 6 => scOff s l.index | 7 => meterOff s l.index | 8 => voxDisable s l.index
      | 9 => rxOff s l.index | _ => txOff s l.index

/-- Something of the mix is still ramping out, or a stream is fading out (R31, R400). -/
def outgoing (s : State) : Bool :=
  let m := s.mix
  ((loads s).any (·.out)) || (m.sources.any fun e => e.2.dying.isSome || e.2.talks.any (·.dying)) || (m.listeners.any fun e => e.2.subs.any (·.dying)) ||
    (m.xps.any fun e => e.2.dying) || m.dests.any fun e => e.2.dying.isSome

/-- Enables that a pattern brings are due at this boundary. -/
def enablesNow (s : State) : State :=
  s.setMix fun m => { m with enables := m.enables.map fun e => { e with acceptedAt := s.now - 20000 } }

/-- The objects of the new configuration: what fits takes effect; while something ramps out, what does not fit waits
(R400), else it is logged (R48). -/
def cfgObjects (s sh : State) (recs : List PatRec) : State :=
  let j := judgePattern sh recs
  let s := noteRejects s j.rej
  let s := cfgDisables s j.ok
  let first := cfgRemovals s.mix j.ok
  let s := s.setMix fun m => { m with enables := [], commits := [] }
  let s := s.setMix fun m => applyRecs (patCtx s fun _ => 0) first m
  let (took, out) := admitPattern s j
  let s := enablesNow (applyTaken s [] took)
  if outgoing s then s.setPl fun p => { p with deferred := out } else logShort s j.full out

/-- The records that were put off take effect as far as they are admitted. -/
def cfgLate (s : State) : State :=
  let recs := s.pl.deferred
  let ens := recs.filterMap fun p => match p with
    | .enable _ o _ c _ i => (objKindOf o).map fun k => ({ acceptedAt := 0, obj := k, index := i, cls := c, on := true } : Enable)
    | _ => none
  let all := (takenChanges recs).map (·.2)
  let full := s.setMix fun m => { applyRecs (patCtx s fun _ => 0) all m with enables := m.enables ++ ens }
  let (took, out) := admitPattern s { full := full, m := s.mix, ok := recs }
  let before := s.mix.enables
  let s := applyTaken (logShort (s.setPl fun p => { p with deferred := [] }) full out) [] took
  s.setMix fun m => { m with
    enables := before ++ (m.enables.drop before.length).map fun e => { e with acceptedAt := s.now - 20000 } }

/-- The records that were put off are decided again at the first boundary after every outgoing ramp has ended (R400);
where they need a higher step they wait for VCORE (Table 02-5). -/
def cfgDeferred (s : State) : State :=
  if s.pl.deferred.isEmpty ∨ outgoing s ∨ s.fab.vstate = .raising ∨ s.fab.vstate = .confirming then s
  else
    let t := cfgLate s
    let need := selected t
    if s.fab.vnow < need then vRaise s need else t

/-! ## The boundary of a configuration reset (R397, Table 17-5) -/

/-- Basting sets, schedule entries and requests are discarded; a register-path request that waits ends in WRONG_STATE. -/
def cfgDiscard (s : State) : State :=
  let s := forEach (List.range 8) s fun k s => if (setOf s k).state = .free then s else bsFree s k
  let s := s.setCio fun y => { y with sched := [] }
  let pend := s.fab.admPending
  let s := s.setFab fun f => { f with queue := [], waiting := none, decided := [], admPending := false
                                      admResult := if pend then .wrongState else f.admResult }
  let s := s.setMix fun m => { m with commits := [], enables := [] }
  raiseIf pend s .FAB_EVENT 0x40

/-- Control outputs that a readback fault holds are free again (R397, R283). -/
def freeHeld (s : State) : State :=
  forEach (List.range 8) s fun k s =>
    if (coOf s k).state = .held then
      setCo s k { coOf s k with state := .off, was := false, ready := false, cmdA := false, cmdB := false }
    else s

/-- Hem mutes, HELD outputs, safe states, CFG_FAULT, what is being shed and an exhausted fabric are cleared (Table
17-5); a hem comes back with its ramp. -/
def cfgClear (s : State) : State :=
  let s := s.setDyn fun y => { y with
    hems := Tbl.mapV y.hems fun _ h => if h.muted then { h with clearReq := some (s.now - 20000) } else h }
  let s := freeHeld s
  let s := { s with rf := { s.rf with parityBad := [] }, shed := { s.shed with exhausted := false, missRun := 0, pend := [] } }
  let s := s.setPr fun p => { p with cfgWait := [] }
  (s.setSaf fun y => { y with safe := 0 }).setGlb fun g => { g with cfgFault := false, parAddr := none, locks := 0, lockPend := [] }

/-- The registers of the new configuration, written on reset values (R388, R397). -/
def cfgShadow (s : State) (p : Pattern) : State :=
  let r := State.reset
  let r := { r with now := s.now, glb := { r.glb with inReset := false, straps := s.glb.straps }, pl := s.pl, tb := s.tb }
  applyRegs ((applyFixed r p).setPl fun x => { x with rej := 0, firstRej := none }) p.recs

/-- Static MAC entries and gate lists as the new configuration has them. -/
def cfgSwitch (s sh : State) : State :=
  let s := s.setSw fun w => { w with
    mac := (Tbl.mapV w.mac fun _ e => { e with fixed := none }).filter fun e => e.2.learned.isSome || e.2.owners != 0 }
  let s := forEach sh.sw.mac s fun e s => match e.2.fixed with
    | some m => macAdd s e.2.vid e.2.mac m
    | none => s
  forEach [0, 1, 2, 3] s fun n s =>
    match (portOf sh n).pend with
    | some g => setPort s n { portOf s n with pend := some g }
    | none => if portOf s n = {} then s else setPort s n { portOf s n with pend := none, oper := {}, cur := 0 }

/-- The new configuration takes effect at boundary n. -/
def cfgApply (s : State) (x : CfgNet) : State :=
  let p := x.check.pat
  let old := s
  let sh := cfgShadow s p
  let cs := cfgChanges s sh
  let s := cfgClear (cfgDiscard s)
  let s := cfgStops (cfgEvents s cs) sh cs
  let s := cfgSwitch (cfgHooks (cfgRegs s cs) old cs) sh
  let s := (s.setSes fun y => { y with keys := p.keys }).setGlb fun g => { g with macs := sh.glb.macs, locks := sh.glb.locks, lastReset := 4 }
  let s := s.setCio fun y => { y with sched := sh.cio.sched }
  let s := forEach [0, 1, 2, 3] s fun m s => setMc s m { mcOf s m with swFreq := (mcOf sh m).swFreq }
  let s := cfgStarts s old cs
  let s := (setActive s x.image x.check).setPl fun q => { q with
    net := none, cfgRun := false, rej := sh.pl.rej, firstRej := sh.pl.firstRej, startMs := msSince s s.pl.cfgAt, deferred := [] }
  let s := raiseIf (sh.pl.rej != 0) s .PL_EVENT 1
  let s := applyLocks (cfgObjects s sh p.recs) p.locks
  lining (refAudioStart (loadStitch (raise s .PL_EVENT 4)) none) (.digest s.pl.digest)

/-- What configuration resets do at a boundary. -/
def cfgBoundary (s : State) : State :=
  match s.pl.net with
  | some x => (match x.acceptedAt with
    | some t => if dueNow s t then cfgApply s x else cfgDeferred s
    | none => cfgDeferred s)
  | none => cfgDeferred s

/-! ## Deciding (R396, R397, R401; Table 02-5) -/

/-- The work that the boundary of a configuration reset adds to what is instantiated (R31): objects of the mix by class,
and objects beside it that are not there in that class. What it removes counts until then. -/
def cfgAdds (s after : State) : Demand :=
  let old := loads s
  let new := (allLoads after).filter fun l => !l.out && !old.any fun o => o.kind == l.kind && o.index == l.index && o.cls == l.cls
  ((mixDemand after.mix []).minus (mixDemand s.mix [])).plus (mixDemand {} new)

/-- A selected image as a configuration that waits, with the demand it adds at its boundary (R31). -/
def cfgNet (s : State) (image : Nat) (c : ImgCheck) : CfgNet :=
  let x : CfgNet := { acceptedAt := none, image := image, check := c }
  { x with adds := cfgAdds s (cfgApply s x) }

/-- An image is selected for a configuration reset. -/
def cfgSelect (s : State) (loadMs : Nat) : State :=
  let (t, sel) := if isWitness s then (s, none) else selectImage s
  match sel with
  | none => cfgFailed t s
  | some (i, c) => t.setPl fun p => { p with
      net := some { acceptedAt := none, image := i, check := c }, loadMs := min loadMs 0xFFFF }

/-- A selected configuration is decided: a pair exchanges its DIGEST, a lone unit names the boundary. -/
def cfgDecided (s : State) (x : CfgNet) : State :=
  let x := cfgNet s x.image x.check
  afterDecision (vcoreEval (if cfgWithPeer s then lining (s.setPl fun p => { p with net := some x }) (.cfg x.check.digest)
    else s.setPl fun p => { p with net := some { x with acceptedAt := some s.now } }))

/-- A selected configuration that needs a higher step waits for VCORE; one that fits is decided (R50, Table 02-5). The
step is selected with the FAB_VCAP that the configuration brings, so that VCORE can rise above the present one before
the boundary (DESIGN CHOICE, log entry 64). -/
def cfgJudge (s : State) : State :=
  match s.pl.net with
  | none => s
  | some x =>
    let need := selected (cfgApply s x)
    if s.fab.vnow < need then vRaise (s.setPl fun p => { p with net := some { x with rising := true } }) need
    else cfgDecided s x

/-- CFG_RESET_DECIDE: an image is selected, or the reset fails; the selected configuration is decided, at once or, as a
request that needs a higher step, when VCORE has risen. While VCORE rises nothing is decided (Table 02-5). -/
def cfgDecide (s : State) (loadMs : Nat) : State :=
  if !s.pl.cfgRun ∨ s.fab.vstate = .raising ∨ s.fab.vstate = .confirming then s
  else match s.pl.net with
    | some x => if x.rising then cfgJudge s else s
    | none => cfgJudge (cfgSelect s loadMs)

/-- The boundary of the selected configuration is named: it is the first one at least 20 µs from now. -/
def cfgName (s : State) : State :=
  match s.pl.net with
  | some x => mirror (s.setPl fun p => { p with net := some { x with acceptedAt := some s.now } }) (.cfgBoundary s.now)
  | none => s

/-- The peer's answer: the active unit names the boundary whether or not the peer holds the same DIGEST (R401). A standby
asked by the active unit selects its own image, and leaves mirror sync when the DIGEST differs. -/
def cfgPeer (s : State) (digest : List Byte) : State :=
  if s.pr.state = .active then
    match s.pl.net with
    | some x => if x.acceptedAt.isNone ∧ !x.rising then cfgName s else s
    | none => s
  else if s.pr.state = .standby then
    let s := cfgSelect (s.setPl fun p => { p with cfgRun := true, cfgAt := s.now }) s.pl.loadMs
    match s.pl.net with
    | some x =>
      if x.check.digest = digest then
        vcoreEval (lining (s.setPl fun p => { p with net := some (cfgNet s x.image x.check) }) (.cfg x.check.digest))
      else unsync (lining (s.setPl fun p => { p with cfgRun := false, net := none }) (.cfg x.check.digest)) 3
    | none => unsync (lining s (.cfg [])) 3
  else s

end Sys2Proof.Machine
end

