-- ==== Sys2Proof/Machine/Frames.lean ====
section
/-! DEFINITION. The frames on the WIT lines: the CRC-8, heartbeats, OUTCRC, witness frames (spec/18 R412 to R415). -/

namespace Sys2Proof.Machine

/-! ## CRC-8 (R412) -/

/-- One bit of the CRC-8 with polynomial 0x07. -/
def crc8Bit (c : Nat) : Nat := if 128 ≤ c then (2 * c % 256) ^^^ 7 else 2 * c

/-- The CRC-8 of a WIT frame's payload. -/
def crc8 (bs : List Byte) : Nat :=
  bs.foldl (fun c b => crc8Bit (crc8Bit (crc8Bit (crc8Bit (crc8Bit (crc8Bit (crc8Bit (crc8Bit (c ^^^ b.toNat))))))))) 0

/-- A frame: SYNC, seven payload bytes, CRC (R412). -/
def witBytes (sync : Nat) (payload : List Byte) : List Byte :=
  BitVec.ofNat 8 sync :: payload ++ [BitVec.ofNat 8 (crc8 payload)]

/-- The payload of a frame with the right SYNC, length and CRC. -/
def witPayload (sync : Nat) (bs : List Byte) : Option (List Byte) :=
  match bs with
  | b :: rest =>
    let p := rest.take 7
    if bs.length = 9 ∧ b.toNat = sync ∧ rest.drop 7 = [BitVec.ofNat 8 (crc8 p)] then some p else none
  | [] => none

/-! ## Heartbeats (Table 18-3) -/

def Heartbeat.bytes (h : Heartbeat) : List Byte :=
  witBytes 0x2D (BitVec.ofNat 8
      (at_ 7 (h.unit % 2) + at_ 5 (h.role % 4) + at_ 4 (b2n h.healthy) + at_ 3 (b2n h.synced) + at_ 2 (b2n h.claim) + at_ 1 (b2n h.yielding)) ::
    beBytes 2 h.stitch ++ beBytes 4 h.outcrc)

/-- A received heartbeat whose SYNC and CRC are right. -/
def parseHeartbeat (bs : List Byte) : Option Heartbeat :=
  (witPayload 0x2D bs).map fun p =>
    let f := beNat (p.take 1)
    { unit := f / 128, role := f / 32 % 4, healthy := f / 16 % 2 == 1, synced := f / 8 % 2 == 1, claim := f / 4 % 2 == 1
      yielding := f / 2 % 2 == 1, stitch := beNat ((p.drop 1).take 2), outcrc := beNat (p.drop 3) }

/-! ## OUTCRC (R414) -/

/-- The 32 bytes of control-rule results. -/
def ruleBytes (s : State) : List Byte :=
  (List.range 32).map fun i => BitVec.ofNat 8 ((List.range 8).foldl (fun a b => a + at_ b (b2n (ruleOut s (8 * i + b)))) 0)

/-- The bytes OUTCRC covers: every destination's six samples, then the rule results. -/
def outBytes (s : State) : List Byte :=
  (s.mix.dests.flatMap fun e => (six e.2.out 0).flatMap fun x => leBytes 3 (field 24 x)) ++ ruleBytes s

def outCrc (s : State) : Nat := crc32 (outBytes s)

/-- The heartbeat of this stitch (R413, R425, R446). -/
def heartbeatOf (s : State) : Heartbeat :=
  { unit := b2n (unitB s), role := roleSent s, healthy := healthyAt s (s.mix.boundaryAt + 108000), synced := synced s
    claim := claiming s, yielding := s.pr.state == .yielded, stitch := s.mix.stitch % 65536, outcrc := outCrc s }

/-! ## Witness frames (Table 18-4) -/

def WitFrame.bytes (f : WitFrame) : List Byte :=
  witBytes 0x4B (BitVec.ofNat 8
      (at_ 7 (b2n f.oeA) + at_ 6 (b2n f.oeB) + at_ 5 (b2n f.seenA) + at_ 4 (b2n f.seenB) + at_ 3 (b2n f.isMatch)) ::
    beBytes 2 f.stitch ++ beBytes 4 f.id)

def parseWitFrame (bs : List Byte) : Option WitFrame :=
  (witPayload 0x4B bs).map fun p =>
    let f := beNat (p.take 1)
    { oeA := f / 128 == 1, oeB := f / 64 % 2 == 1, seenA := f / 32 % 2 == 1, seenB := f / 16 % 2 == 1
      isMatch := f / 8 % 2 == 1, stitch := beNat ((p.drop 1).take 2), id := beNat (p.drop 3) }

end Sys2Proof.Machine
end

