-- ==== Sys2Proof/Machine/Pair.lean ====
section
/-! DEFINITION. A unit of a pair: heartbeats, witness frames and its gate, role changes, the lining link, joins,
divergence and reversion (spec/18 R420 to R440). -/

namespace Sys2Proof.Machine

/-- A unit of a pair at work. -/
def unitOn (s : State) : Bool := isPair s && !s.glb.inReset

/-! ## Divergence and reversion (R430, R432, R436) -/

/-- This unit is the preferred one (R436). -/
def preferred (s : State) : Bool := fv s .PR_CFG_PREF == (if unitB s then 2 else 1)

/-- MATCHES and WTR start over. -/
def clearMatches (s : State) : State := s.setPr fun p => { p with matchCnt := 0, wtrFrom := none }

/-- The OUTCRC of a stitch equals the peer's. -/
def crcEqual (s : State) : State :=
  match s.pr.state with
  | .standby =>
    let n := if s.pr.frozen then 0 else satInc 16383 s.pr.matchCnt
    s.setPr fun p => { p with
      matchCnt := n
      wtrFrom := if 8000 ≤ n ∧ preferred s ∧ !p.claim then (match p.wtrFrom with | some t => some t | none => some s.now) else none }
  | .joining =>
    match s.pr.join with
    | some j =>
      if !j.taken then s
      else if 64 ≤ j.equal + 1 then
        prState (s.setPr fun p => { p with join := none }) .standby
      else s.setPr fun p => { p with join := some { j with equal := j.equal + 1 } }
    | none => s
  | _ => s

/-- DIVERGE is raised and counted. -/
def diverge (s : State) : State := raise (s.setPr fun p => { p with diverges := satInc 0xFFFF p.diverges }) .PR_EVENT 4

/-- The OUTCRC of a stitch differs from the peer's: a standby starts a join, a join takes the state again. -/
def crcDiffers (s : State) : State :=
  match s.pr.state with
  | .standby =>
    beginJoin ((clearMatches (diverge s)).setPr fun p => { p with cause := 1, riseStands := true })
  | .joining =>
    match s.pr.join with
    | some j =>
      if j.taken then lining (s.setPr fun p => { p with join := some { j with taken := false, equal := 0 } }) (.joinAsk s.pl.digest) else s
    | none => s
  | .active => if s.pr.peerSync then (diverge s).setPr fun p => { p with peerSync := false, diverged := true } else s
  | _ => s

/-- Compare the OUTCRC of one stitch. -/
def crcCompare (s : State) (own peer : Nat) : State := if own = peer then crcEqual s else crcDiffers s

/-- The peer's OUTCRC of a stitch arrives; it waits where the own one is not known yet. -/
def peerCrc (s : State) (stitch crc : Nat) : State :=
  match s.pr.crcs.find? fun e => e.1 == stitch with
  | some e => crcCompare s e.2 crc
  | none => s.setPr fun p => { p with peerCrc := some (stitch, crc) }

/-! ## Heartbeats (R413, R425) -/

/-- This unit's side of the lining is down: nothing received for 3 stitches, or only just again (R426; DESIGN CHOICE,
log entry 111). -/
def deaf (s : State) : Bool := decide (3 ≤ s.pr.linMiss) || (!s.pr.linUp && decide (s.pr.linRun < 8))

/-- The stitch of a follower is computed, with the decisions that have arrived (R427, R428; DEDUCED, log entry 109). -/
def runOwed (s : State) : State :=
  match s.pr.owed with
  | some errs => engine (s.setPr fun p => { p with owed := none }) errs
  | none => s

/-- HEARTBEAT_SEND at S_n + 109 µs: a unit whose work is complete sends its heartbeat; its
OUTCRC goes to the peer in every stitch, also while the lining is down, so that it can come up (R426, R432). -/
def heartbeatSend (s : State) (workDone : Bool) : State :=
  if !unitOn s ∨ s.glb.mode = .quiet then s
  else
    let s := runOwed s
    let n := s.mix.stitch
    let c := outCrc s
    let fit := workDone && healthy s && s.pr.state != .yielded
    let s := s.setPr fun p => { p with
      crcs := ((n, c) :: p.crcs).take 4, claimRun := if p.claim then p.claimRun + 1 else 0, hbFit := fit }
    let s := if workDone then (emit s (.heartbeat (heartbeatOf s).bytes)).setPr fun p => { p with hbAt := some s.now } else s
    let s := emit s (.lining (.outcrc n c (deaf s) fit))
    match s.pr.peerCrc with
    | some e => if e.1 = n then crcCompare (s.setPr fun p => { p with peerCrc := none }) c e.2 else s
    | none => s

/-! ## Witness frames and the gate (R420, R422) -/

/-- A receive stream whose state is another than in `old` is raised and hit. -/
def rxHit (old s : State) (r : Nat) : State :=
  if (rxOf old r).state = (rxOf s r).state then s else hitAttached (raise s .STR_EVENT 1) .ATT_RX r 2

/-- A receive stream of which a leg's LIVE is another than in `old` is raised and hit. -/
def liveHit (old s : State) (r : Nat) : State :=
  let same (b : Bool) : Bool := (legOf (rxOf old r) b).live == (legOf (rxOf s r) b).live
  if same false && same true then s else hitAttached (raise s .STR_EVENT 0x10) .ATT_RX r 3

/-- Receive streams and clock groups whose state, or LIVE, is another than in `old`: raised, and a hit for those that are
attached, as for any change (R147, R182, R312). -/
def stateHits (old s : State) : State :=
  let s := forEach ((old.str.rx ++ s.str.rx).map (·.1)).eraseDups s fun r s => liveHit old (rxHit old s r) r
  forEach (List.range 8) s fun g s =>
    if (groupOf old g).state = (groupOf s g).state then s else hitAttached (raise s .LN_EVENT 1) .ATT_CG g 0

/-- A clock group as the active unit has it: its changes of state, slips and glitches are raised and hit here too (R147,
R312). -/
def takeGroup (s : State) (g : Nat) (x : Group) : State :=
  let was := groupOf s g
  let s := cgState (setGroup s g { x with state := was.state }) g x.state
  let s := if was.slips < x.slips then hitAttached (raise s .LN_EVENT 0x10) .ATT_CG g 1 else s
  if was.glitches < x.glitches then hitAttached (raise s .LN_EVENT 4) .ATT_CG g 2 else s

/-- Own audio state is discarded before a join (Table 18-7). -/
def dropAudio (s : State) : State :=
  stateHits s { s with
    mix := { stitch := s.mix.stitch, boundaryAt := s.mix.boundaryAt }, dyn := {}, rb := {}, str := {}
    pl := { s.pl with started := false } }

/-- The frame counts as valid once this unit has a stitch number to compare (R420). -/
def frameValid (s : State) (f : WitFrame) : Bool := !s.mix.audioOn || f.stitch == s.mix.stitch % 65536

/-- WITNESS_FRAME_RECEIVE. -/
def witnessFrame (s : State) (bs : List Byte) : State :=
  if !unitOn s then s
  else match parseWitFrame bs with
    | none => s.setPr fun p => { p with witBad := satInc 0xFFFF p.witBad }
    | some f =>
      if !frameValid s f then s.setPr fun p => { p with witBad := satInc 0xFFFF p.witBad }
      else
        let seen := f.peerSeen s
        let s := noteResort (s.setPr fun p => { p with
          frame := some f, lastFrame := some f, witId := f.id, unseen := if seen then 0 else satInc 8 p.unseen
          resort := p.resort && !seen })
        if s.pr.state = .claiming ∧ f.peerOe s then beginJoin (dropAudio s) else s

/-- No valid frame in this stitch: the third in a row freezes the unit (R422). -/
def frameMissed (s : State) : State :=
  let s := s.setPr fun p => { p with
    missed := satInc 0xFFFF p.missed, missRun := p.missRun + 1, agreeRun := 0, otherRun := 0, unseen := 0 }
  if 3 ≤ s.pr.missRun ∧ !s.pr.frozen then
    raise (clearMatches (s.setPr fun p => { p with frozen := true, witOk := false })) .PR_EVENT 0x10
  else s

/-- A valid frame while FROZEN: 64 that agree with the gate end it, 64 that do not raise WIT_MISMATCH. -/
def frameFrozen (s : State) (oe : Bool) : State :=
  if oe = s.glb.gate then
    let n := s.pr.agreeRun + 1
    if 64 ≤ n then raise (s.setPr fun p => { p with frozen := false, witOk := true, agreeRun := 0, otherRun := 0 }) .PR_EVENT 0x10
    else s.setPr fun p => { p with agreeRun := n, otherRun := 0 }
  else
    let n := s.pr.otherRun + 1
    raiseIf (n == 64) (s.setPr fun p => { p with agreeRun := 0, otherRun := n }) .PR_EVENT 0x100

/-- The OE_ALLOW line has read a level since F_n + 0.5 µs (R420). -/
def lineSteady (s : State) (oe : Bool) : Bool := s.pr.line == oe && decide (s.pr.lineAt + 3500 ≤ s.now)

/-- The gate takes the level of the own OE flag. -/
def gateFollow (s : State) (oe : Bool) : State :=
  if oe = s.glb.gate ∨ !lineSteady s oe then s
  else if oe then (if mayRise s ∧ s.glb.mode ≠ .quiet then setGate s true else s)
  else
    let s := setGate s false
    if s.pr.state = .yielded then yieldDone s else s

/-- OUTPUT_GATE_UPDATE at F_n + 4 µs (R420, R422). -/
def gateUpdate (s : State) : State :=
  if !unitOn s then s
  else match s.pr.frame with
    | none => frameMissed s
    | some f =>
      let s := s.setPr fun p => { p with frame := none, missRun := 0 }
      if s.pr.frozen then frameFrozen s (f.ownOe s)
      else gateFollow (s.setPr fun p => { p with witOk := true }) (f.ownOe s)

/-- OE_ALLOW_PIN_CHANGE: the line of a unit of a pair; alone the gate follows the pin (R421), in QUIET until the lanes
have finished (R455), and not in reset (R394). -/
def oePin (s : State) (level : Bool) : State :=
  let s := s.setPr fun p => { p with line := level, lineAt := s.now }
  let released := s.glb.mode == .quiet && (s.saf.lanesOff || (s.saf.quiet == some .inOrder && lanesDone s))
  if isPair s ∨ isWitness s ∨ s.glb.inReset ∨ released then s else setGate s level

/-! ## Role changes (R423, R433, R436, R437) -/

/-- The last witness frame shows both units in step (MATCH). -/
def frameMatch (s : State) : Bool := match s.pr.lastFrame with | some f => f.isMatch | none => false

/-- The witness has moved the lines by a reversion: the units were in step, and the active one gave no reason for a
takeover, which wins over it (R417, R440; DEDUCED, log entry 87). -/
def reverts (s : State) (fit : Bool) : Bool := fit && frameMatch s

/-- The gate has risen since the last boundary: the unit becomes ACTIVE; a yield of the same stitch follows (R440). At a
reversion the peer enters STANDBY with it (R437). -/
def roleRise (s : State) : State :=
  let old := s.pr.state
  let rev := reverts s (s.pr.peerFit && s.pr.linUp && old != .unsynced)
  let s := prState (s.setPr fun p => { p with join := none, peerSync := p.peerSync || (rev && old == .standby) }) .active
  let s := if old = .claiming then s else raise s .PR_EVENT (if rev then 0x40 else 2)
  if old = .yielded then yieldRole s else s

/-- The gate has fallen since the last boundary: a healthy unit with its lining up enters STANDBY, any other one
UNSYNCED, and so does one that found a divergence in the stitch (R440). -/
def roleFall (s : State) : State :=
  let rev := reverts s (s.pr.hbFit && (s.pr.state == .active || s.pr.leaving))
  let s := raiseIf rev s .PR_EVENT 0x40
  if s.pr.state ≠ .active then s
  else if s.pr.linUp ∧ healthy s ∧ !s.pr.diverged then prState s .standby
  else unsync s (if s.pr.linUp then 1 else 2)

/-- PR_CFG values that both units apply at this boundary (R441). -/
def prCfgBoundary (s : State) : State :=
  let due := s.pr.cfgWait.filter fun w => dueNow s w.1
  let s := s.setPr fun p => { p with cfgWait := p.cfgWait.filter fun w => !dueNow s w.1 }
  noteResort (forEach due s fun w s => wr s .PR_CFG (word w.2))

/-- Stitches without a lining message, and with one (R426). -/
def liningCount (s : State) : State :=
  s.setPr fun p => { p with
    linSeen := false, linMiss := if p.linSeen then 0 else p.linMiss + 1, linRun := if p.linSeen then p.linRun + 1 else 0 }

/-- What a unit of a pair does at a boundary. -/
def pairBoundary (s : State) : State :=
  if !unitOn s then s
  else
    let rise := s.glb.gate && !s.pr.gateWas
    let fall := !s.glb.gate && s.pr.gateWas
    let s := s.setPr fun p => { p with gateWas := s.glb.gate, yieldRun := p.yieldRun.map (· + 1) }
    let s := liningCount (prCfgBoundary s)
    let s := if rise then roleRise s else if fall then roleFall s else s
    roleEnds (s.setPr fun p => { p with diverged := false, riseStands := false })

/-- YIELD_TIMEOUT (R425): the unit has driven on for 64 stitches. -/
def yieldTimeout (s : State) : State :=
  match s.pr.yieldRun with
  | some n => if s.pr.state = .yielded ∧ 64 ≤ n ∧ s.glb.gate then yieldDone (setGate s false) else s
  | none => s

/-- REVERSION_WTR_EXPIRE (R436). -/
def prWtrExpire (s : State) : State :=
  match s.pr.wtrFrom with
  | some t =>
    if s.pr.state = .standby ∧ !s.pr.frozen ∧ preferred s ∧ t + 1000000000 * fv s .PR_CFG_WTR ≤ s.now then
      s.setPr fun p => { p with claim := true, claimRun := 0, wtrFrom := none }
    else s
  | none => s

/-- CLAIM_TIMEOUT (R436). -/
def claimTimeout (s : State) : State :=
  if s.pr.state = .standby ∧ s.pr.claim ∧ 64 ≤ s.pr.claimRun ∧ !s.glb.gate then
    clearMatches (s.setPr fun p => { p with claim := false, claimRun := 0 })
  else s

/-! ## The lining (R426, R439) -/

/-- LINING_DOWN: three stitches without a message at either unit, or block lock lost. -/
def liningDown (s : State) (lockLost : Bool) : State :=
  if !unitOn s ∨ !s.pr.linUp ∨ !(lockLost || decide (3 ≤ s.pr.linMiss) || s.pr.peerDeaf) then s
  else
    let s := raise (s.setPr fun p => { p with linUp := false, linRun := 0, peerSync := false }) .PR_EVENT 0x20
    match s.pr.state with
    | .standby => unsync s 2
    | .joining => unsync s 2
    | .active => (match s.pl.net with
      | some x => if x.acceptedAt.isNone then cfgName s else s
      | none => s)
    | _ => s

/-- LINING_UP: 64 stitches of messages in a row, which the peer receives too; both units send their DIGEST. -/
def liningUp (s : State) : State :=
  if !unitOn s ∨ s.pr.linUp ∨ s.pr.linRun < 64 ∨ s.pr.peerDeaf then s
  else lining (raise (s.setPr fun p => { p with linUp := true }) .PR_EVENT 0x20) (.digest s.pl.digest)

/-! ## Joins (R430, Table 18-7) -/

/-- JOIN_START: the standing condition of Table 18-7. -/
def joinStart (s : State) : State :=
  let peerOe : Bool := match s.pr.lastFrame with | some f => f.peerOe s | none => false
  if unitOn s ∧ s.pr.state = .unsynced ∧ s.pr.linUp ∧ s.pr.missRun = 0 ∧ peerOe ∧ s.pr.peerDigest = s.pl.digest then beginJoin s else s

/-- JOIN_TIMEOUT: not complete within 2 s. -/
def joinTimeout (s : State) : State :=
  match s.pr.join with
  | some j => if s.pr.state = .joining ∧ j.from_ + 2000000000 ≤ s.now then unsync s 2 else s
  | none => s

/-- The state the active unit gives to a joining one. -/
def joinImage (s : State) : JoinImage :=
  { stitch := s.mix.stitch, regs := s.rf.regs, force := s.rf.force, waits := s.rf.waits, locks := s.glb.locks
    admSeq := s.fab.admSeq, mix := s.mix, dyn := s.dyn, rb := s.rb, ln := s.ln, str := s.str, cio := s.cio, tb := s.tb
    ref := s.ref, spl := s.spl, sess := s.ses.ses }

/-- Event flags and the unit's own registers are not mirrored (R330, Table 18-8). -/
def ownReg (off : Nat) : Bool :=
  match findReg off with
  | some (r, _, _) => (desc r).w1c != 0 || ofPcie r || !activeOwned r off 0
  | none => true

/-- A session as a standby holds it: commands whose replies were never mirrored count as not executed (R353). -/
def mirroredSes (x : Ses) : Ses :=
  { x with window := x.window.map (fun w => if w = .executing then .unused else w), busy := none, waiting := [] }

/-- The state of the active unit in place of the own one, but for what is not mirrored (Table 18-8); the time bases are in
MIRRORED (R429). -/
def takeState (s : State) (x : JoinImage) : State :=
  let regs := (x.regs.filter fun e => !ownReg e.1).foldl (fun t e => Tbl.put t e.1 e.2) (s.rf.regs.filter fun e => ownReg e.1)
  let s := { s with
    rf := { s.rf with regs := regs, force := x.force, waits := x.waits }
    mix := { x.mix with boundaryAt := s.mix.boundaryAt }
    dyn := x.dyn, rb := x.rb, ln := x.ln, str := x.str, ref := x.ref, spl := x.spl
    cio := x.cio }
  let s := s.setTb fun b => { x.tb with linkDelay := b.linkDelay, noFix := b.noFix, nextPdelay := b.nextPdelay, pdelayAsked := b.pdelayAsked }
  forEach [0, 1, 2, 3] s fun k s => tbMirror s k true

/-- The joining unit takes the complete state: it computes with it from now on (R430); its MCK outputs run as the active
unit's registers say (R266). -/
def takeImage (s : State) (x : JoinImage) : State :=
  match s.pr.join with
  | none => s
  | some j =>
    if s.pr.state ≠ .joining then s
    else
      let s := stateHits s (mckFollow (takeState s x))
      let s := s.setGlb fun g => { g with locks := x.locks, mode := if g.mode = .starting then .running else g.mode }
      let s := s.setFab fun f => { f with admSeq := x.admSeq }
      let s := s.setSes fun y => { y with ses := Tbl.mapV (x.sess.filter fun e => !e.2.client.mbox) fun _ z => mirroredSes z }
      let s := s.setPl fun p => { p with started := false, phase := 6 }
      s.setPr fun p => { p with join := some { j with taken := true, equal := 0 }, owed := none }

/-! ## Mirrored changes at the standby (R427, Table 18-8) -/

/-- Do something as of an instant at which the active unit did it. -/
def asOf (s : State) (t : Nat) (f : State → State) : State := { f { s with now := t } with now := s.now }

def bitsOn (ks : List Nat) (n : Nat) : Bool := ks.contains n

/-- Rule results and debounced levels in place of the own ones (R275). -/
def takeControl (s : State) (a b deb : List Nat) : State :=
  let rule (on : List Nat) (t : Tbl RuleSt) : Tbl RuleSt :=
    (List.range 256).foldl (fun t r =>
      let x := Tbl.getD t r {}
      Tbl.set {} t r { x with out := bitsOn on r }) t
  let s := s.setCio fun y => { y with ruleA := rule a y.ruleA, ruleB := rule b y.ruleB }
  forEach (List.range 32) s fun g s =>
    if (pinOf s g).deb = bitsOn deb g then s else setPin s g { pinOf s g with deb := bitsOn deb g }

/-- Image commands of the active unit act on the inactive image here too (R353). -/
def mirrorImage (s : State) (step owner arg : Nat) (bs : List Byte) : State :=
  match step, s.pl.xfer with
  | 0, _ => (eraseImage s owner arg).2
  | 1, some x => (programImage s x bs).2
  | 2, some x => lining s (.imgResult ((imgCheck s x).fail == 0))
  | 2, none => lining s (.imgResult false)
  | 3, _ => abortXfer s
  | 4, some x => (sealImage s x (if arg = 1 then imgCheck s x else { imgCheck s x with fail := 4 })).2
  | _, _ => s

/-- A mirrored set: what this unit has shed of it before it came to be stays its own (R58). -/
def takeSet (s : State) (k : Nat) (x : BSet) : BSet :=
  let own := setOf s k
  { x with lost := if own.state = .armed ∧ own.recs = x.recs then own.lost else [] }

/-- One mirrored change. -/
def takeMirror (s : State) (m : Mirrored) : State :=
  match m with
  | .write t off v => (match findReg off with | some (r, i, j) => asOf s t fun s => blockWrite s r i j v | none => s)
  | .commit t k x => vcoreEval (s.setMix fun y => { y with
      sets := Tbl.put y.sets k (takeSet s k x)
      commits := if y.commits.any fun c => c.set == k then y.commits else y.commits ++ [{ acceptedAt := t, set := k }] })
  | .set k x => vcoreEval (s.setMix fun y => { y with sets := Tbl.put y.sets k (takeSet s k x) })
  | .admSeq n => s.setFab fun f => { f with admSeq := n }
  | .enable e => vcoreEval (s.setMix fun y => { y with enables := y.enables ++ [e] })
  | .sched e x => seMirrored s e x
  | .lock t bits => s.setGlb fun g => { g with lockPend := g.lockPend ++ [(t, bits)] }
  | .prCfg t v => s.setPr fun p => { p with cfgWait := p.cfgWait ++ [(t, v.toNat)] }
  | .step k pend t => setTbk s k { tbOf s k with pend := pend, committed := some t }
  | .cfgBoundary t => (match s.pl.net with
    | some x => s.setPl fun p => { p with net := some { x with acceptedAt := some t } }
    | none => s)
  | .image st k arg bs => mirrorImage s st k arg bs
  | .hemClear d t => if (hemOf s d).muted then setHem s d { hemOf s d with clearReq := some t } else s
  | .coClear k => if (coOf s k).state = .held then coClr s k else s
  | .session k x => s.setSes fun y => { y with
      ses := match x with | some z => Tbl.put y.ses k (mirroredSes z) | none => Tbl.del y.ses k }
  | .control a b deb => takeControl s a b deb
  | .group g x => takeGroup s g x
  | .receive r complete plays acr => rxDecided (setRx s r { rxOf s r with acr := acr }) r (complete && plays)
  | .seam k ratio loop act =>
    let s := setSeam s k { seamOf s k with ratio := ratio, loop := loop }
    match act with
    | some t => seamTrig s k t
    | none => s
  | .timeBase k x => setTbk s k { x with state := .mirrored, saved := x.state }
  | .mediaClock k x => setMc s k { x with coast := (mcOf s k).coast }
  | .spool n x => setSp s n x

/-! ## Lining messages (R426 to R432) -/

/-- The runs of positions of a stream that this unit holds, among some from a position on. -/
def heldRuns (x : Rx) : Nat → Nat → List (Nat × List (List Int))
  | _, 0 => []
  | p, n + 1 =>
    match Tbl.get? x.ring p, heldRuns x (p + 1) n with
    | none, rs => rs
    | some f, [] => [(p, [f])]
    | some f, (q, fs) :: rs => if q = p + 1 then (p, f :: fs) :: rs else (p, [f]) :: (q, fs) :: rs

/-- The sequence numbers whose replies a window holds. -/
def storedSeqs (x : Ses) : List Nat :=
  (x.window.zipIdx).filterMap fun e =>
    match e.1 with
    | .stored _ _ _ => some ((2 ^ 32 - e.2 % 2 ^ 32 + x.high) % 2 ^ 32)
    | _ => none

/-- The standby's verdict on an image: both images must have passed (R353). -/
def imageVerdict (s : State) (ok : Bool) : State :=
  match s.pl.xfer with
  | some x => (match x.verdict, (sesOf s x.owner).bind (·.busy) with
    | some own, some q =>
      let good := ok && own == 0
      let c := imgCheck s x
      let r := sealImage s x (if good then c else { c with fail := if own = 0 then 4 else own })
      let s := mirror r.2 (.image 4 x.owner (b2n (r.1 == .ok)) [])
      endCommand s x.owner q r.1 (if r.1 = .ok then leBytes 4 c.seq else [])
    | _, _ => s)
  | none => s

/-- A unit that follows the active one, in mirror sync or on its way to it. -/
def follower (s : State) : Bool := s.pr.state == .standby || s.pr.state == .joining

/-- What the active unit has mirrored in one message; with the decisions of a stitch that stitch is computed (R427,
R428). -/
def takeMirrors (s : State) (ms : List Mirrored) : State :=
  if !follower s then s
  else
    let t := forEach ms s fun m s => match m with
      | .session k (some z) => lining (takeMirror s m) (.ack k (storedSeqs z))
      | _ => takeMirror s m
    if ms.any fun m => match m with | .control _ _ _ => true | _ => false then runOwed t else t

/-- A message from the peer is used. -/
def takeMessage (s : State) (m : LinMsg) : State :=
  match m with
  | .mirror ms => takeMirrors s ms
  | .outcrc n c _ fit => peerCrc (s.setPr fun p => { p with peerFit := fit }) n c
  | .digest d =>
    let s := s.setPr fun p => { p with peerDigest := d }
    if s.pr.state = .joining ∧ d ≠ s.pl.digest then unsync (raise s .PR_EVENT 0x80) 3 else s
  | .joinAsk d =>
    let s := s.setPr fun p => { p with peerDigest := d }
    if s.pr.state = .active then
      let s := lining (s.setPr fun p => { p with peerSync := false }) (.digest s.pl.digest)
      if d = s.pl.digest then lining s (.join (joinImage s)) else s
    else s
  | .measure e d => s.setPr fun p => { p with tbErr := e, linDelay := d }
  | .peer on => s.setPr fun p => { p with peerSync := on }
  | .join x => takeImage s x
  | .ack k stored => s.setSes fun y => { y with
      out := y.out.map fun r => if r.ses = k ∧ stored.contains r.seq then { r with acked := true } else r }
  | .ask r pos n => forEach (heldRuns (rxOf s r) pos n) s fun e s => lining s (.refill r e.1 e.2)
  | .refill r pos fs => refill s r pos fs
  | .late =>
    if s.pr.state = .standby then beginJoin (s.setPr fun p => { p with cause := 1 }) else s
  | .cfg d => cfgPeer s d
  | .imgResult ok => imageVerdict s ok

/-- A lining message counts as received, and says whether the peer receives any (R426); one that was lacking does not. -/
def liningHeard (s : State) (m : LinMsg) : State :=
  match m with
  | .late => s
  | .outcrc _ _ deaf _ => s.setPr fun p => { p with linSeen := true, peerDeaf := deaf }
  | _ => s.setPr fun p => { p with linSeen := true }

/-- LINING_MESSAGE_RECEIVE. -/
def liningMessage (s : State) (m : LinMsg) : State :=
  if !unitOn s then s
  else
    let s := liningHeard s m
    if s.pr.linUp then takeMessage s m else s

/-! ## What the active unit sends (R427, R428, R431) -/

/-- The unit whose active role is in effect mirrors to a unit that listens. -/
def mirrors (s : State) : Bool := unitOn s && (s.pr.state == .active || s.pr.leaving) && s.pr.linUp

/-- A decision that both units take from the active one: a re-anchor, or the ratio measured in HOLD (R120, R121, R123). -/
def Seam.reanchors (x : Seam) : Bool :=
  match x.trig with
  | some .jump => true
  | some (.ratio _) => true
  | _ => false

/-- A set as it is mirrored: shedding stays with the unit that sheds (R58), and a commit that is not decided counts as not
executed (R353). -/
def BSet.mirrored (x : BSet) : BSet :=
  { x with lost := [], state := if x.state = .deciding then .open else x.state }

/-- A set of this state as it is mirrored; that of a CHANGE comes to be with its decision. -/
def mirroredSet (s : State) (k : Nat) : BSet :=
  let x := setOf s k
  if x.state = .deciding ∧ s.ses.ses.any fun e => e.2.oneSet == some k then { x with state := .free, owner := none, recs := [] }
  else x.mirrored

/-- A schedule entry as it is mirrored, with the words that a command gave it with it; one that is not decided counts as
not written (R353). -/
def mirroredEntry (old s : State) (e : Nat) (x : Sched) : List Mirrored :=
  let was := Tbl.get? old.cio.sched e
  if was = some x ∨ x.state = .deciding then []
  else
    let all := match was with | some y => y.state == .deciding | none => false
    ((seRegs.filter fun r => all || rd s r e != rd old r e).map fun r => Mirrored.write s.now (addr r e) (rd s r e)) ++ [.sched e x]

/-- The changes of a command that go to the peer (Table 18-8, R353): commits, enables, sets, entries, admission sequence
numbers, steps, re-anchor decisions, releases, the end of an image transfer with its session (R340), sessions. A set
that is PENDING takes effect in both units. -/
def mirrorOf (old s : State) : List Mirrored :=
  ((s.mix.commits.filter fun c => !old.mix.commits.contains c).map fun c =>
      Mirrored.commit c.acceptedAt c.set (setOf s c.set).mirrored) ++
    ((s.mix.enables.filter fun e => !old.mix.enables.contains e).map Mirrored.enable) ++
    ((List.range 8).flatMap fun k =>
      let x := mirroredSet s k
      let was := mirroredSet old k
      if x = was ∨ x.state = .pending ∨ was.state = .pending then [] else [Mirrored.set k x]) ++
    (s.cio.sched.flatMap fun e => mirroredEntry old s e.1 e.2) ++
    (if s.fab.admSeq = old.fab.admSeq then [] else [.admSeq s.fab.admSeq]) ++
    ([0, 1, 2, 3].flatMap fun k => match (tbOf s k).committed with
      | some t => if (tbOf old k).committed = some t then [] else [Mirrored.step k (tbOf s k).pend t]
      | none => []) ++
    ((s.rb.seams.filter fun e => !old.rb.seams.contains e).flatMap fun e =>
      if e.2.reanchors ∧ (seamOf old e.1).trig ≠ e.2.trig then [Mirrored.seam e.1 e.2.ratio e.2.loop e.2.trig] else []) ++
    ((s.dyn.hems.filter fun e => !old.dyn.hems.contains e).flatMap fun e => match e.2.clearReq with
      | some t => if (hemOf old e.1).clearReq = some t then [] else [Mirrored.hemClear e.1 t]
      | none => []) ++
    ((List.range 8).flatMap fun k =>
      if (coOf old k).state = .held ∧ (coOf s k).state ≠ .held then [Mirrored.coClear k] else []) ++
    (s.ses.ses.flatMap fun e =>
      if e.2.client.mbox ∨ Tbl.get? old.ses.ses e.1 = some e.2 then [] else [Mirrored.session e.1 (some e.2)]) ++
    (match old.pl.xfer with
      | some x => if s.pl.xfer.isNone ∧ (sesOf s x.owner).isNone then [.image 3 x.owner 0 []] else []
      | none => []) ++
    (old.ses.ses.flatMap fun e => if (Tbl.get? s.ses.ses e.1).isNone then [Mirrored.session e.1 none] else [])

/-- What a command has mirrored and changed goes to the peer in one lining message (R353, R427). -/
def mirrorChanges (old s : State) : State :=
  let ms := s.pr.outbox ++ if mirrors s then mirrorOf old s else []
  if ms.isEmpty || !isPair s then s else lining (s.setPr fun p => { p with outbox := [] }) (.mirror ms)

/-- The decisions of a stitch go to the peer (Table 18-8). -/
def mirrorStitch (s : State) : State :=
  if !mirrors s then s
  else
    let on (t : Tbl RuleSt) : List Nat := (t.filter fun e => e.2.out).map (·.1)
    let deb := (s.cio.pins.filter fun e => e.2.deb).map (·.1)
    let s := mirror s (.control (on s.cio.ruleA) (on s.cio.ruleB) deb)
    let s := forEach s.ln.groups s fun e s => mirror s (.group e.1 e.2)
    let s := forEach s.str.rx s fun e s => if e.2.enabled then mirror s (.receive e.1 (!e.2.under) e.2.playing e.2.acr) else s
    let s := forEach s.rb.seams s fun e s => if e.2.enabled then mirror s (.seam e.1 e.2.ratio e.2.loop none) else s
    let s := forEach [0, 1, 2, 3] s fun k s => mirror (mirror s (.timeBase k (tbOf s k))) (.mediaClock k (mcOf s k))
    forEach s.spl.spools s fun e s => mirror s (.spool e.1 e.2)

/-- Positions that the next blocks but one need and that are not there are asked of the peer (R431). -/
def askMissing (s : State) : State :=
  if !unitOn s ∨ !s.pr.linUp then s
  else forEach s.str.rx s fun e s =>
    let x := e.2
    let n := perStitch (rxRate s e.1)
    let p := x.read + 2 * n
    let lacks := (List.range n).any fun i => (Tbl.get? x.ring (p + i)).isNone
    if x.enabled ∧ x.state = .running ∧ lacks then lining s (.ask e.1 p n) else s

end Sys2Proof.Machine
end

