-- ==== Sys2Proof/Machine/Sessions.lean ====
section
/-! DEFINITION. Control sessions: opening, the window, the commands of Table 15-4, decisions and replies (spec/15). -/

namespace Sys2Proof.Machine

/-! ## Who is heard (R332, R333, R353, R384, R385) -/

/-- The unit serves Firyn: the active or lone unit, not in reset, not the witness, not in QUIET or REMOVING, where
sessions close. -/
def sesServed (s : State) : Bool :=
  !s.glb.inReset && !s.glb.passive && !isWitness s &&
    (s.glb.mode == .starting || s.glb.mode == .running || s.glb.mode == .bare)

/-- SES_IP6 as one number. -/
def sesIp6 (s : State) : Nat := [0, 1, 2, 3].foldl (fun a j => a * 2 ^ 32 + (rd s .SES_IP6 j).toNat) 0

/-- An IPv6 address from its first 16 bits and the 112 bits after them. -/
def ipJoin (first rest : Nat) : Nat := first * 2 ^ 112 + rest

/-- The link-local address of BARE: modified EUI-64 of N0's factory MAC address (R384). -/
def linkLocal : Nat := ipJoin 0xFE80 (eui64 (Config.factoryMac 0).toNat ^^^ 2 ^ 57)

/-- The local address of an IP version; zero where it is not used. -/
def localIp (s : State) (v6 : Bool) : Nat :=
  if s.glb.mode = .bare then (if v6 then linkLocal else 0)
  else if v6 then sesIp6 s else (rd s .SES_IP4).toNat

/-- The management VLAN and the UDP port of Firyn (R332, R384). -/
def sesVid (s : State) : Nat := if s.glb.mode = .bare then 1 else fv s .SES_NET_VID
def sesUdp (s : State) : Nat := if s.glb.mode = .bare then 47810 else fv s .SES_NET_UDP

/-- Firyn is accepted on a port. -/
def sesPort (s : State) (n : Nat) : Bool :=
  if s.glb.mode = .bare then n == 0 else decide (n < 4) && fv s .SES_CFG_PORTS / 2 ^ n % 2 == 1

/-- A message of a client reaches the device: the mailbox is on, or it comes through a port in use on the management VLAN,
to the UDP port of Firyn at a local address in use. -/
def reaches (s : State) (c : Client) : Bool :=
  if c.mbox then fb s .SES_MBOX_EN && s.glb.mode != .bare
  else sesPort s c.port && c.vid == sesVid s && c.dport == sesUdp s && c.dip == localIp s c.v6 && c.dip != 0

/-- Two clients share their source address (R339). -/
def sameSource (a b : Client) : Bool := a.mbox == b.mbox && (a.mbox || (a.v6 == b.v6 && a.ip == b.ip))

/-- Two messages come over one transport, from one source address and UDP port (R335). -/
def sameClient (a b : Client) : Bool := sameSource a b && (a.mbox || a.udp == b.udp)

/-- A malformed message is dropped and counted (R335). -/
def malformed (s : State) : State := s.setSes fun y => { y with malformed := satInc 0xFFFF y.malformed }

/-! ## Opening (R336 to R339) -/

/-- A SESSION_ID names an open or a challenged session. -/
def idUsed (s : State) (id : Nat) : Bool := s.ses.ses.any (fun e => e.2.id == id) || s.ses.chals.any fun c => c.id == id

/-- The first nonzero unused SESSION_ID from a random one on (R337). -/
def freshId (s : State) (base : Nat) : Nat :=
  ((List.range 24).map fun i => (base + i) % 2 ^ 32).find? (fun v => v != 0 && !idUsed s v) |>.getD base

/-- HELLO: a CHALLENGE with a fresh SESSION_ID and nonce; a fifth challenged session displaces the oldest. -/
def hello (s : State) (c : Client) (body : List Byte) : State :=
  if !sesServed s ∨ !reaches s c ∨ held s 14 then s
  else if body.length ≠ 32 then malformed s
  else if s.ses.blocked.any fun b => sameSource b.1 c && decide (s.now < b.2) then s
  else
    let (a, s) := draw s
    let (b, s) := draw s
    let id := freshId s (Config.sessionId a).toNat
    let dn := leBytes 16 (Config.nonce b).toNat
    let ch : Chal :=
      { id := id, client := c, role := leNat (body.take 1), idle := leAt body 20 2
        cnonce := (body.drop 4).take 16, dnonce := dn, at_ := s.now }
    let s := s.setSes fun y => { y with
      chals := (if y.chals.length < 4 then y.chals else y.chals.drop 1) ++ [ch] }
    sendTo s c (message 0x02 id 0 0 0 dn)

/-- CLIENT_MAC and DEVICE_MAC (R338): `tag` is the last character of FIRYN1 or FIRYN2. -/
def firynMac (key : List Byte) (tag : Byte) (n1 n2 : List Byte) (id role idle : Nat) : List Byte :=
  (hmac key ([0x46#8, 0x49#8, 0x52#8, 0x59#8, 0x4E#8, tag] ++ n1 ++ n2 ++ leBytes 4 id ++ leBytes 1 role ++
    leBytes 2 idle)).take 16

/-- Why a PROOF opens nothing (R339). -/
def proofFails (s : State) (ch : Chal) (mac : List Byte) : List (Code × Bool) :=
  [ (.badValue, decide (2 < ch.role) || (ch.idle != 0 && (decide (ch.idle < 10) || decide (3600 < ch.idle)))),
    (.notFound, (roleKey s ch.role).isNone),
    (.noCapacity, (Tbl.freeFrom s.ses.ses 16 0).isNone),
    (.integrity, firynMac ((roleKey s ch.role).getD []) 0x31#8 ch.cnonce ch.dnonce ch.id ch.role ch.idle != mac) ]

/-- A WELCOME. -/
def welcome (s : State) (c : Client) (id : Nat) (code : Code) (body : List Byte) : State :=
  sendTo s c (message 0x04 id 0 0 code.num body)

/-- The session opens under the lowest free number and records its client (R339). -/
def openSession (s : State) (ch : Chal) (c : Client) : State :=
  let k := (Tbl.freeFrom s.ses.ses 16 0).getD 0
  let idle := if ch.idle = 0 then fv s .SES_CFG_IDLE_DEF else ch.idle
  let key := (roleKey s ch.role).getD []
  let s := raise (putSes s k { id := ch.id, role := ch.role, client := c, idle := idle, lastReq := s.now }) .SES_EVENT 1
  welcome s c ch.id .ok (leBytes 1 k ++ leBytes 1 ch.role ++ leBytes 2 idle ++ leBytes 4 0x53566480 ++
    firynMac key 0x32#8 ch.dnonce ch.cnonce ch.id ch.role idle)

/-- PROOF: the challenge is used up; WELCOME says whether the session opens. -/
def proof (s : State) (c : Client) (id : Nat) (body : List Byte) : State :=
  if !sesServed s ∨ !reaches s c then s
  else match s.ses.chals.find? fun ch => ch.id == id with
    | none => if idUsed s id then s else malformed s
    | some ch =>
      if body.length ≠ 16 then malformed s
      else
        let s := s.setSes fun y => { y with chals := y.chals.filter fun x => x.id != id }
        let code := firstCode (proofFails s ch body)
        if code = .ok then openSession s ch c
        else if code = .integrity then
          let s := s.setSes fun y => { y with
            authFails := satInc 0xFFFF y.authFails, blocked := y.blocked ++ [(c, s.now + 1000000000)] }
          welcome (raise s .SES_EVENT 4) c id code []
        else welcome s c id code []

/-- CHALLENGE_LAPSE: 2 s after the CHALLENGE. -/
def challengeLapse (s : State) : State :=
  s.setSes fun y => { y with chals := y.chals.filter fun c => decide (s.now < c.at_ + 2000000000) }

/-- AUTH_BLOCK_EXPIRE. -/
def authExpire (s : State) : State :=
  s.setSes fun y => { y with blocked := y.blocked.filter fun b => decide (s.now < b.2) }

/-- SESSION_IDLE_TIMEOUT (R340). -/
def idleTimeout (s : State) : State := closeWhere s fun x => decide (x.lastReq + 1000000000 * x.idle ≤ s.now)

/-! ## The commands (R344 to R352) -/

/-- How a command ends: result code, reply body, what follows the reply. -/
structure Ended where
  code : Code
  body : List Byte := []
  after : After := .nothing
  deriving DecidableEq, Repr

/-- OPs whose refusal carries a change INDEX (R344). -/
def indexed (op : Nat) : Bool := op == 0x11 || op == 0x12 || op == 0x14 || op == 0x15

/-- A refusal; INDEX is 0xFFFF where it belongs to no single change. -/
def refusal (op : Nat) (c : Code) (index : Option Nat := none) : Ended :=
  { code := c, body := if indexed op then leBytes 2 (index.getD 0xFFFF) ++ leBytes 2 0 else [] }

/-- End with the first of some failures, or go on. -/
def orRefuse (s : State) (op : Nat) (fails : List (Code × Bool)) (go : State × Option Ended) : State × Option Ended :=
  let c := firstCode fails
  if c = .ok then go else (s, some (refusal op c))

/-- End with OK. -/
def done (s : State) (body : List Byte := []) (after : After := .nothing) : State × Option Ended :=
  (s, some { code := .ok, body := body, after := after })

/-- One number of a body. -/
def arg (q : Request) (off n : Nat) : Nat := leAt q.body off n

/-- A request of a session enters the admission queue; it takes its place by its arrival (R43, R343). -/
def sesRequest (s : State) (k : Nat) (q : Request) (kind : AdmKind) : State × Option Ended :=
  (addRequest s (.session k) kind s.mix.stitch q.tack, none)

/-- NOP. -/
def opNop (s : State) (_k : Nat) (_q : Request) : State × Option Ended := done s

/-- Words of BAR0 from an address on. -/
def readWords (s : State) : Nat → Nat → List Byte
  | 0, _ => []
  | n + 1, a => leBytes 4 (readBar0 s a).toNat ++ readWords s n (a + 4)

/-- ACCESS: not aligned, or past 0x003F_FFFF (R345). -/
def addrBad (a n : Nat) : Bool := a % 4 != 0 || decide (0x400000 < a + 4 * n)

/-- REG_READ. -/
def opRegRead (s : State) (_k : Nat) (q : Request) : State × Option Ended :=
  let a := arg q 0 4
  let n := arg q 4 2
  orRefuse s q.op [(.badValue, n == 0 || decide (256 < n)), (.access, addrBad a n)] (done s (readWords s n a))

/-- REG_WRITE; a reset it starts follows its reply. -/
def opRegWrite (s : State) (_k : Nat) (q : Request) : State × Option Ended :=
  let a := arg q 0 4
  let v := word (arg q 4 4)
  orRefuse s q.op [(.access, addrBad a 1)]
    (if a = addr .GLB_RESET then
      orRefuse s q.op [(writeCode .firyn s a v, writeCode .firyn s a v != .ok)]
        (if bit v 1 ∨ (bit v 0 ∧ s.glb.mode = .bare) then done s [] .fullReset
         else if bit v 0 then done (startCfgReset s) [] .cfgReset
         else done s)
     else
      let (c, t) := writeReg .firyn s a v
      (t, some (if c = .ok then { code := .ok } else refusal q.op c)))

/-- The four words of a record in a body. -/
def bodyRec (q : Request) (off : Nat) : Rec := recOf ((q.body.drop off).take 16)

/-- BS_OPEN. -/
def opBsOpen (s : State) (k : Nat) (q : Request) : State × Option Ended :=
  let b := arg q 0 1
  if 7 < b then (s, some (refusal q.op .badValue))
  else orRefuse s q.op (bsOpenFails s b) (done (bsOpen s b (.session k)))

/-- BS_ADD. -/
def opBsAdd (s : State) (k : Nat) (q : Request) : State × Option Ended :=
  let b := arg q 0 1
  let rs := (List.range (arg q 1 1)).map fun i => bodyRec q (4 + 16 * i)
  if 7 < b then (s, some (refusal q.op .badValue))
  else
    let c := firstCode (bsAddFails s b (.session k) rs)
    if c = .ok then done (bsAdd s b rs)
    else (s, some (refusal q.op c (if c = .badValue then rs.findIdx? fun r => !r.ok else none)))

/-- BS_COMMIT. -/
def opBsCommit (s : State) (k : Nat) (q : Request) : State × Option Ended :=
  let b := arg q 0 1
  if 7 < b then (s, some (refusal q.op .badValue))
  else orRefuse s q.op (bsCommitFails s b (.session k)) (sesRequest (bsDeciding s b) k q (.commit b none))

/-- BS_ABORT. -/
def opBsAbort (s : State) (k : Nat) (q : Request) : State × Option Ended :=
  let b := arg q 0 1
  if 7 < b then (s, some (refusal q.op .badValue))
  else orRefuse s q.op (bsOwned s b (.session k)) (done (bsFree s b))

/-- CHANGE: a set of one change, committed at once (R346). -/
def opChange (s : State) (k : Nat) (q : Request) : State × Option Ended :=
  let r := bodyRec q 0
  if !r.ok then (s, some (refusal q.op .badValue (some 0)))
  else match (List.range 8).find? fun b => (setOf s b).state == .free with
    | none => (s, some (refusal q.op .noCapacity))
    | some b =>
      let s := bsDeciding (bsAdd (bsOpen s b (.session k)) b [r]) b
      sesRequest (modSes s k fun x => { x with oneSet := some b }) k q (.commit b none)

/-- The words of a schedule entry as a body gives them. -/
def seWords (q : Request) : List (Reg × Word) :=
  seRegs.zipIdx.map fun e => (e.1, word (arg q (4 + 4 * e.2) 4))

/-- The words of an entry are written. -/
def seWriteWords (s : State) (e : Nat) (ws : List (Reg × Word)) : State :=
  forEach ws s fun w s => wr s w.1 (kept w.1 w.2) e

/-- SCHED_WRITE: its words and SE_WRITE in one; a refusal, at once or by admission, changes nothing (R22). -/
def opSchedWrite (s : State) (k : Nat) (q : Request) : State × Option Ended :=
  let e := arg q 0 2
  let ws := seWords q
  if 511 < e ∨ ws.any fun w => outOfRange w.1 w.2 then (s, some (refusal q.op .badValue))
  else
    let t := seWriteWords s e ws
    let own := if seAction t e = 1 then bsOwned s (seSet t e) (.session k) else []
    orRefuse s q.op (seWordFails s e ++ seWriteFails t e ++ own)
      (if seAction t e = 1 then
        sesRequest (setSe (bsDeciding t (seSet t e)) e { (seOf s e).anew .deciding with prior := seRegs.map fun r => rd s r e }) k q
          (.commit (seSet t e) (some (e, seNear t e)))
       else done (seArm t e))

/-- SCHED_DEL. -/
def opSchedDel (s : State) (_k : Nat) (q : Request) : State × Option Ended :=
  let e := arg q 0 2
  if 511 < e then (s, some (refusal q.op .badValue)) else orRefuse s q.op (seDelFails s e) (done (seDel s e))

/-- ENABLE (R347). -/
def opEnable (s : State) (k : Nat) (q : Request) : State × Option Ended :=
  let act := arg q 1 1
  let cls := arg q 2 1
  let i := arg q 4 2
  match objKindOf (arg q 0 1) with
  | none => (s, some (refusal q.op .badValue))
  | some o =>
    if 1 < act ∨ 3 < cls ∨ objCount o ≤ i then (s, some (refusal q.op .badValue))
    else if act = 0 then sesRequest s k q (.enable o i cls)
    else orRefuse s q.op (disFails s o i) (done (disableLater s o i))

/-- RELEASE: a muted hem or a held control output. -/
def opRelease (s : State) (_k : Nat) (q : Request) : State × Option Ended :=
  let i := arg q 2 2
  match arg q 0 1 with
  | 0 =>
    if 2047 < i then (s, some (refusal q.op .badValue))
    else orRefuse s q.op [(.wrongState, !(hemOf s i).muted)] (done (hemClrLater s i))
  | 1 =>
    if 7 < i then (s, some (refusal q.op .badValue))
    else orRefuse s q.op [(.wrongState, (coOf s i).state != .held)] (done (coClr s i))
  | _ => (s, some (refusal q.op .badValue))

/-- The readings of one meter as the last boundary published them (R105, R348). -/
def meterBytes (s : State) (m : Nat) : List Byte :=
  let x := meterOf s m
  leBytes 2 (field 16 x.peak) ++ leBytes 2 (field 16 x.rms) ++ leBytes 2 (field 16 x.pubHold) ++ leBytes 2 x.pubClips

/-- METER_READ. -/
def opMeterRead (s : State) (_k : Nat) (q : Request) : State × Option Ended :=
  let m := arg q 0 2
  let n := arg q 2 2
  orRefuse s q.op [(.badValue, n == 0 || decide (128 < n) || decide (4096 < m + n))]
    (done s (leBytes 8 s.mix.stitch ++ (List.range n).flatMap fun i => meterBytes s (m + i)))

/-- SUBSCRIBE (R349). -/
def opSubscribe (s : State) (k : Nat) (q : Request) : State × Option Ended :=
  let first := arg q 0 2
  let n := arg q 2 2
  let on := arg q 4 1
  orRefuse s q.op [(.badValue, decide (1 < on) || decide (2048 < first + n))]
    (done (modSes s k fun x =>
      let others := x.subs.filter fun e => !(decide (first ≤ e) && decide (e < first + n))
      { x with subs := if on = 1 then others ++ (List.range n).map (first + ·) else others }))

/-- ACCEPT_STEP (R213, R350): STITCH is the one whose boundary S_{n+1} applies the step. -/
def opAcceptStep (s : State) (_k : Nat) (q : Request) : State × Option Ended :=
  let b := arg q 0 1
  let x := tbOf s b
  orRefuse s q.op
    [ (.badValue, decide (3 < b)), (.wrongState, x.state != .jumpHeld || x.committed.isSome),
      (.conflict, x.jumpGen != arg q 1 1) ]
    (done (commitStep s b) (leBytes 8 (effectStitch s + 1)))

/-- Image commands go to a standby in mirror sync too (R353). -/
def fwdImage (s : State) (step k a : Nat) (bs : List Byte) : State :=
  if hasStandby s then mirror s (.image step k a bs) else s

/-- A step of an image transfer ends: what was done is forwarded, and an error of the NOR is answered (R353, R386). -/
def imageDone (op : Nat) (r : Code × State) (fwd : State → State) : State × Option Ended :=
  if r.1 = .ok then done (fwd r.2) else (r.2, some (refusal op r.1))

/-- IMG_BEGIN (R351, R386): an erase error, or a NOR that cannot be read, is INTERNAL. -/
def opImgBegin (s : State) (k : Nat) (q : Request) : State × Option Ended :=
  let n := arg q 0 4
  orRefuse s q.op
    [ (.badValue, decide (n < 64) || decide (4194304 < n)), (.wrongState, s.pl.rescan || s.pl.cfgRun),
      (.conflict, s.pl.xfer.isSome && !ownsXfer s k),
      (.internal, imageOf s (inactive s == 1) == .unreadable) ]
    (imageDone q.op (eraseImage s k n) fun t => fwdImage t 0 k n [])

/-- IMG_DATA: exactly where the bytes received so far end. Without a transfer of the session's own, no piece is the last
one (R23, R351; DEDUCED, log entry 107). -/
def opImgData (s : State) (k : Nat) (q : Request) : State × Option Ended :=
  let bs := q.body.drop 4
  match s.pl.xfer with
  | some x =>
    if x.owner ≠ k then (s, some (refusal q.op (if bs.length % 4 = 0 then .wrongState else .badValue)))
    else orRefuse s q.op
      [ (.badValue, decide (x.len < arg q 0 4 + bs.length) ||
          (bs.length % 4 != 0 && arg q 0 4 + bs.length != x.len)),
        (.wrongState, arg q 0 4 != x.got) ]
      (imageDone q.op (programImage s x bs) fun t => fwdImage t 1 k 0 bs)
  | none => (s, some (refusal q.op (if bs.length % 4 = 0 then .wrongState else .badValue)))

/-- IMG_END: with a standby in mirror sync the reply waits for its verdict (R353). -/
def opImgEnd (s : State) (k : Nat) (q : Request) : State × Option Ended :=
  match s.pl.xfer with
  | some x =>
    if x.owner ≠ k ∨ x.got ≠ x.len then (s, some (refusal q.op .wrongState))
    else
      let c := imgCheck s x
      if hasStandby s then
        (fwdImage (s.setPl fun p => { p with xfer := some { x with verdict := some c.fail } }) 2 k 0 [], none)
      else
        let r := sealImage s x c
        (r.2, some (if r.1 = .ok then { code := .ok, body := leBytes 4 c.seq } else refusal q.op r.1))
  | none => (s, some (refusal q.op .wrongState))

/-- IMG_ABORT. -/
def opImgAbort (s : State) (k : Nat) (q : Request) : State × Option Ended :=
  orRefuse s q.op [(.wrongState, !ownsXfer s k)] (done (fwdImage (abortXfer s) 3 k 0 []))

/-- CFG_RESET (R352): a full reset in BARE (R385). -/
def opCfgReset (s : State) (_k : Nat) (q : Request) : State × Option Ended :=
  orRefuse s q.op [(.badValue, arg q 0 4 != 0x53566480), (.wrongState, s.pl.cfgRun || held s 17)]
    (if s.glb.mode = .bare then done s [] .fullReset else done (startCfgReset s) [] .cfgReset)

/-- FULL_RESET: after the reply. -/
def opFullReset (s : State) (_k : Nat) (q : Request) : State × Option Ended :=
  orRefuse s q.op [(.badValue, arg q 0 4 != 0x53566480)] (done s [] .fullReset)

/-- CLOSE: answered, then closed. -/
def opClose (s : State) (_k : Nat) (_q : Request) : State × Option Ended := done s [] .close

/-! ## Executing a command (R342 to R344) -/

/-- The roles of a command: bit 0 viewer, bit 1 operator, bit 2 tailor; none for an OP outside Table 15-4. -/
def opRoles (op : Nat) : Option Nat :=
  if op = 0x00 ∨ op = 0x01 ∨ op = 0x20 ∨ op = 0x21 ∨ op = 0x60 then some 7
  else if (0x10 ≤ op ∧ op ≤ 0x18) ∨ op = 0x30 then some 6
  else if op = 0x02 ∨ (0x40 ≤ op ∧ op ≤ 0x43) ∨ op = 0x50 ∨ op = 0x51 then some 4
  else none

/-- The body has the length of Table 15-4. -/
def opLength (op : Nat) (body : List Byte) : Bool :=
  let n := body.length
  match op with
  | 0x01 => n == 8
  | 0x02 => n == 8
  | 0x10 => n == 4
  | 0x11 => let c := leAt body 1 1; decide (1 ≤ c ∧ c ≤ 64) && n == 4 + 16 * c
  | 0x12 => n == 4
  | 0x13 => n == 4
  | 0x14 => n == 16
  | 0x15 => n == 24
  | 0x16 => n == 4
  | 0x17 => n == 8
  | 0x18 => n == 4
  | 0x20 => n == 4
  | 0x21 => n == 8
  | 0x30 => n == 4
  | 0x40 => n == 4
  | 0x41 => decide (8 ≤ n ∧ n ≤ 1028)
  | 0x50 => n == 4
  | 0x51 => n == 4
  | _ => n == 0

/-- The commands of BARE (R385). -/
def opBare (op : Nat) : Bool := op == 0x00 || op == 0x01 || (decide (0x40 ≤ op) && decide (op ≤ 0x60))

/-- What refuses a command whatever its body asks for. -/
def opFails (s : State) (k : Nat) (q : Request) : List (Code × Bool) :=
  let role := match sesOf s k with | some x => x.role | none => 0
  match opRoles q.op with
  | none => [(.badValue, true)]
  | some rs =>
    [ (.noRole, rs / 2 ^ role % 2 == 0), (.badValue, !opLength q.op q.body),
      (.wrongState, s.glb.mode == .bare && !opBare q.op) ]

/-- The reasons of `fails` refuse a command, unless its own refusal comes first in the order of R23; a body of the wrong
length asks for nothing. -/
def amongFails (s : State) (q : Request) (fails : List (Code × Bool)) (go : State × Option Ended) : State × Option Ended :=
  let own := match go.2 with
    | some e => e.code
    | none => .ok
  if opLength q.op q.body ∧ firstCode ((own, own != .ok) :: fails) = own then go
  else (s, some (refusal q.op (firstCode fails)))

/-- A command is executed: it ends at once, or waits for a decision. -/
def runOp (s : State) (k : Nat) (q : Request) : State × Option Ended :=
  amongFails s q (opFails s k q)
    (match q.op with
    | 0x00 => opNop s k q
    | 0x01 => opRegRead s k q
    | 0x02 => opRegWrite s k q
    | 0x10 => opBsOpen s k q
    | 0x11 => opBsAdd s k q
    | 0x12 => opBsCommit s k q
    | 0x13 => opBsAbort s k q
    | 0x14 => opChange s k q
    | 0x15 => opSchedWrite s k q
    | 0x16 => opSchedDel s k q
    | 0x17 => opEnable s k q
    | 0x18 => opRelease s k q
    | 0x20 => opMeterRead s k q
    | 0x21 => opSubscribe s k q
    | 0x30 => opAcceptStep s k q
    | 0x40 => opImgBegin s k q
    | 0x41 => opImgData s k q
    | 0x42 => opImgEnd s k q
    | 0x43 => opImgAbort s k q
    | 0x50 => opCfgReset s k q
    | 0x51 => opFullReset s k q
    | 0x60 => opClose s k q
    | _ => (s, some (refusal q.op .badValue)))

/-- A session starts a command; one whose own write closed its session is answered before it is gone. -/
def startCommand (s : State) (k : Nat) (q : Request) : State :=
  match sesOf s k with
  | none => s
  | some x =>
    match runOp (modSes s k fun x => { x with busy := some q }) k q with
    | (t, none) => t
    | (t, some e) =>
      if (sesOf t k).isSome then endCommand t k q e.code e.body e.after
      else sendTo t x.client (message 0x11 x.id q.seq q.op e.code.num e.body)

/-! ## The window (R341) -/

/-- The window moves up to a new highest number. -/
def shiftWindow (x : Ses) (seq d : Nat) : Ses :=
  { x with high := seq, window := (List.replicate (min d 64) WinPos.unused ++ x.window).take 64 }

/-- STALE: an empty body, not stored. -/
def stale (s : State) (x : Ses) (q : Request) : State := sendTo s x.client (message 0x11 x.id q.seq q.op Code.stale.num [])

/-- A reply of a session waits for the standby's acknowledgment (R353): its command has not got its reply (R342). -/
def replyWaits (s : State) (k : Nat) : Bool := s.ses.out.any fun r => r.ses == k

/-- One waiting command starts before another (R343). -/
def startsBefore (a b : Nat × Request) : Bool :=
  if a.2.stitch ≠ b.2.stitch then decide (a.2.stitch < b.2.stitch)
  else if a.2.tack ≠ b.2.tack then tackBefore a.2.tack b.2.tack
  else decide (a.1 < b.1)

/-- The waiting commands that may start, with their sessions (R342). -/
def readyCommands (s : State) : List (Nat × Request) :=
  s.ses.ses.filterMap fun e =>
    match e.2.busy, e.2.waiting with
    | none, q :: _ => if replyWaits s e.1 then none else some (e.1, q)
    | _, _ => none

/-- A command that its window lets through starts, waits, or finds no room (R342); it also waits while a command of
another session that comes before it may start (R343; equal tacks: DESIGN CHOICE, log entry 106). -/
def acceptCommand (s : State) (k : Nat) (x : Ses) (q : Request) : State :=
  let first := (readyCommands s).all fun r => !startsBefore r (k, q)
  if x.busy.isNone ∧ x.waiting.isEmpty ∧ replyWaits s k = false ∧ first then startCommand (putSes s k (markPos x q.seq .executing)) k q
  else if x.waiting.length < 8 then
    putSes s k { markPos x q.seq .executing with waiting := x.waiting ++ [q] }
  else (putSes s k x).setSes fun y => { y with overrun := satInc 0xFFFF y.overrun }

/-- A REQUEST of an open session meets its window; a position whose reply still waits to be sent is an executing one
(R341, R353). -/
def windowJudge (s : State) (k : Nat) (x : Ses) (q : Request) : State :=
  let d := (2 ^ 32 - x.high % 2 ^ 32 + q.seq) % 2 ^ 32
  if 0 < d ∧ d < 2 ^ 31 then acceptCommand s k (shiftWindow x q.seq d) q
  else match winIndex x.high q.seq with
    | none => stale (putSes s k { x with stales := satInc 0xFFFF x.stales }) x q
    | some i =>
      match x.window.getD i .closed with
      | .unused => acceptCommand s k x q
      | .executing => putSes s k x
      | .closed => stale (putSes s k x) x q
      | .stored r op body =>
        if s.ses.out.any fun p => p.ses == k && p.seq == q.seq then putSes s k x else
        sendTo (putSes s k { x with dups := satInc 0xFFFF x.dups }) x.client (message 0x11 x.id q.seq op r body)

/-- A REQUEST arrives (R335, R343): its session must be open, its source the recorded one; one that names a challenged
session is dropped. -/
def requestArriveAt (s : State) (op : Nat) (r : FirynReq) (at_ : Nat × Nat) : State :=
  if !sesServed s ∨ !reaches s r.client then s
  else match s.ses.ses.find? fun e => e.2.id == r.id with
    | none => if idUsed s r.id then s else malformed s
    | some (k, x) =>
      if 1400 < r.body.length ∨ !sameClient x.client r.client then malformed s
      else
        windowJudge s k { x with client := r.client, lastReq := s.now }
          { seq := r.seq % 2 ^ 32, op := op, body := r.body, stitch := at_.1, tack := at_.2 }

/-- A REQUEST whose datagram arrives now. -/
def requestArrive (s : State) (op : Nat) (r : FirynReq) : State := requestArriveAt s op r (arrival s)

/-! ## Order across sessions (R343) -/

/-- COMMAND_START: of the sessions that may start a waiting command, the one whose command came first. -/
def commandStart (s : State) : State :=
  match (readyCommands s).foldl (fun b r => match b with
    | none => some r
    | some x => if startsBefore r x then some r else b) none with
  | none => s
  | some (k, q) => startCommand (modSes s k fun x => { x with waiting := x.waiting.drop 1 }) k q

/-! ## Decisions reach their commands (R44, R346, R353) -/

/-- The body of a command whose request was admitted: the stitch at which it takes effect (R344). -/
def admittedBody (s : State) (op : Nat) : List Byte := if op = 0x12 ∨ op = 0x14 then leBytes 8 (effectStitch s) else []

/-- A decision ends the command that waits for it; the set of a refused CHANGE is freed. -/
def sesDecision (s : State) (d : Decided) : State :=
  match d.who with
  | .session k =>
    match sesOf s k with
    | some x =>
      match x.busy with
      | some q =>
        let s := match x.oneSet with
          | some b => if d.code = .ok then s else bsFree s b
          | none => s
        let s := modSes s k fun x => { x with oneSet := none }
        if d.code = .ok then endCommand s k q .ok (admittedBody s q.op)
        else endCommand s k q d.code (refusal q.op d.code d.change).body
      | none => s
    | none => s
  | .regPath => s

/-- OPEN sets that nobody owns any more are discarded: also one whose session closed while it was DECIDING or ARMED and
that comes back to OPEN (Table 03-3; DESIGN CHOICE, log entry 93). -/
def freeOrphans (s : State) : State :=
  forEach s.mix.sets s fun e s => if e.2.state = .open ∧ e.2.owner = none then bsFree s e.1 else s

/-- What has been decided goes to the sessions; an image whose standby is gone was verified by one unit only. -/
def sessionDecisions (s : State) : State :=
  let ds := s.fab.decided
  let s := forEach ds (s.setFab fun f => { f with decided := [] }) fun d s => sesDecision s d
  let s := freeOrphans s
  match s.pl.xfer with
  | some x => if x.verdict.isSome ∧ !hasStandby s then imageVerdict s false else s
  | none => s

/-! ## Replies leave (R353) -/

/-- A reply is sent, and what follows it happens (R340, R352). -/
def sendOne (s : State) (r : Reply) : State :=
  let s := sendReply s r
  match r.after with
  | .nothing => s
  | .close => closeSession s r.ses
  | .cfgReset => closeAll s
  | .fullReset => fullReset s 2

/-- The replies that satisfy a test are sent, in order. -/
def sendWhere (s : State) (p : Reply → Bool) : State :=
  let go := s.ses.out.filter p
  forEach go (s.setSes fun y => { y with out := y.out.filter fun r => !p r }) fun r s => sendOne s r

/-- Without a standby in mirror sync a reply is sent at once; so is one of the mailbox, whose sessions are not mirrored.
-/
def flushReplies (s : State) : State :=
  if s.ses.out.isEmpty then s
  else sendWhere s fun r => !hasStandby s || (match sesOf s r.ses with | some x => x.client.mbox | none => true)

/-- REPLY_SEND: the standby has acknowledged the lining message that carries the reply. -/
def replySend (s : State) : State := sendWhere s fun r => r.acked

/-! ## Messages as bytes (R333 to R335) -/

/-- A Firyn message is parsed and used; it came at a stitch and a tack in TB0 (R343). -/
def firynBytesAt (s : State) (c : Client) (bs : List Byte) (at_ : Nat × Nat) : State :=
  if !sesServed s ∨ !reaches s c then s
  else
    let body := bs.drop 16
    let type := leAt bs 3 1
    let id := leAt bs 4 4
    if bs.take 3 ≠ [0x46#8, 0x59#8, 1#8] ∨ bs.length < 16 ∨ leAt bs 12 2 ≠ body.length ∨ 1400 < body.length then malformed s
    else if type = 0x01 then hello s c body
    else if type = 0x03 then proof s c id body
    else if type = 0x10 then requestArriveAt s (leAt bs 14 1) { client := c, id := id, seq := leAt bs 8 4, body := body } at_
    else malformed s

/-- A Firyn message that arrives now. -/
def firynBytes (s : State) (c : Client) (bs : List Byte) : State := firynBytesAt s c bs (arrival s)

/-- The mailbox's requests are taken from REQ, one message an item (R333), each with the tack of its commit (R343). -/
def takeItems : Nat → State → State
  | 0, s => s
  | n + 1, s =>
    if !fb s .SES_MBOX_EN ∨ !sesServed s then s
    else
      let r := fv s .SES_MBOX_REQ
      match internalHead s r with
      | some i => takeItems n (flushReplies (firynBytesAt (internalFinish s r) { mbox := true } i.bytes i.done))
      | none => s

def mailboxTake (s : State) : State :=
  if fb s .SES_MBOX_EN then takeItems (spOf s (fv s .SES_MBOX_REQ)).items.length s else s

/-! ## ARP and neighbor discovery (R332) -/

/-- A request for the own address is answered from the port where it came in, by the unit that serves Firyn. -/
def arpRequest (s : State) (r : ArpReq) : State :=
  if sesServed s ∧ sesPort s r.port ∧ r.vid = sesVid s ∧ r.target ≠ 0 ∧ r.target = localIp s r.v6 then
    emit s (.arp r.port r.v6 r.mac r.ip)
  else s

end Sys2Proof.Machine
end

