-- ==== Sys2Proof/Machine/Finish.lean ====
section
/-! DEFINITION. What ends every command: decisions reach their senders, mailbox items and replies move, the thimble takes
what was reported, the peer learns what changed. -/

namespace Sys2Proof.Machine

/-- What a command answers. -/
abbrev Out := Host.Outcome State Fault Refusal

/-- Nothing is left over for the end of a command: no decision, reply, mailbox item or report waits, no bar stands, no
set has lost its owner, no lanes fade for QUIET, the module is alone and not in REMOVING. -/
def calm (s : State) : Bool :=
  s.fab.decided.isEmpty && s.ses.out.isEmpty && s.pl.xfer.isNone && !fb s .SES_MBOX_EN && s.saf.due.isEmpty &&
    s.saf.bars.isEmpty && !s.shed.exhausted && s.saf.quiet != some .inOrder && s.glb.mode != .removing && !isPair s &&
    s.mix.sets.all fun e => e.2.state != .open || e.2.owner != none

/-- Decisions are delivered (R44, Table 03-3), the mailbox is read (R333), replies leave (R353), the thimble takes the
faults of the instant (R445, R449, R446), orderly stops and removals go on (R406, R455), the peer gets the changes
(R427). -/
def finishAll (old s : State) : State :=
  let s := mailboxTake (sessionDecisions (settleDecided s))
  let s := flushReplies (sessionDecisions s)
  let s := exhaustedQuiet (takeReports s)
  mirrorChanges old (ejectDone (quietGate (barsEnd s)))

/-- The end of a command that began in `old`. -/
def finish (old s : State) : State := if calm s then s else finishAll old s

/-- Carry out a command: its effect, then the end of the command. A command takes no time, and the queue is not
touched. -/
def run (s : State) (f : State → State) : Out := .next { finish s (f s) with now := s.now, pending := s.pending }

end Sys2Proof.Machine
end

