-- ==== Sys2Proof/Machine/CmdControl.lean ====
section
/-! DEFINITION. Meanings: GPIO, control outputs and the schedule (spec/12). -/

namespace Sys2Proof.Machine

/-! ## The rows -/

/-- GPIO_EDGE (R272). -/
def execGpioEdge (g : Fin 32) (level : Bool) (s : State) : Out := run s fun s => gpioEdge s g.val level

/-- GPIO_DEBOUNCED (R273). -/
def execGpioDebounced (g : Fin 32) (s : State) : Out := run s fun s => gpioDebounced s g.val

/-- CO_READBACK (R283). -/
def execCoReadback (k : Fin 8) (a b : Bool) (s : State) : Out := run s fun s => coReadback s k.val a b

/-- CO_CLR (R283). -/
def execCoClr (s : State) : Out := run s fun s => cmdBit s .CIO_CMD 0 1

/-- CLR_EDGES (R290). -/
def execClrEdges (s : State) : Out := run s fun s => cmdBit s .CIO_CMD 0 0

/-- SE_WRITE (R286). -/
def execSeWrite (s : State) : Out := run s fun s => cmdBit s .CIO_CMD 0 2

/-- SE_DEL (R288). -/
def execSeDel (s : State) : Out := run s fun s => cmdBit s .CIO_CMD 0 3

/-- SCHEDULE_FIRE (R287). -/
def execScheduleFire (s : State) : Out := run s fun s => scheduleFire s

/-- SCHEDULE_PULSE_END (R287). -/
def execSchedulePulseEnd (g : Fin 32) (s : State) : Out := run s fun s => pulseEnd s g.val

/-- GP_OUT_WRITE (R274). -/
def execGpOutWrite (v : Word) (be : Fin 16) (s : State) : Out := run s fun s => regWrite s .GP_OUT 0 0 v be.val

/-- CO_CFG_WRITE (R284). -/
def execCoCfgWrite (k : Fin 8) (v : Word) (be : Fin 16) (s : State) : Out :=
  run s fun s => regWrite s .CO_CFG k.val 0 v be.val

end Sys2Proof.Machine
end

