-- ==== Sys2Proof/Machine/CmdEvents.lean ====
section
/-! DEFINITION. Meanings: event sources, moderation, delivery and power states (spec/14). -/

namespace Sys2Proof.Machine

/-- A block group's interval has run out (R315, R317). -/
def moderationEnd (s : State) (g : Nat) : State :=
  let s := releaseDue s
  if g < 28 ∧ intervalOver s g then releaseGroup s g else s

/-- An object group's hold-off has run out (R316). -/
def holdoffOver (s : State) (g : Nat) : State :=
  let s := releaseDue s
  if 28 ≤ g ∧ intervalOver s g then endHoldoff s g else s

/-- A write of the entry of a source: block sources in EV_CFG, object sources in EV_OCFG (Table 14-10). -/
def evEntryWrite (s : State) (src : Nat) (v : Word) (be : Nat) : State :=
  if src < 1792 then regWrite s .EV_CFG src 0 v be else regWrite s .EV_OCFG (src - 1792) 0 v be

/-- The function or its link changes state; system software may set MSI-X Enable and Function Mask with it (R318, R319,
R324). -/
def pcieChange (s : State) (d : DState) (l : LinkState) (msix : Option MsixCtl) : State :=
  let s := match msix with
    | some c => s.setEvt fun e => { e with msixEn := c.enable, msixMask := c.mask }
    | none => s
  pciePower s d l

/-! ## The rows -/

/-- EVENT_ASSERT (R314). -/
def execEventAssert (src : Fin 2048) (s : State) : Out := run s fun s => senseSrc s src.val

/-- MODERATION_INTERVAL_END (R315). -/
def execModerationIntervalEnd (g : Fin 32) (s : State) : Out := run s fun s => moderationEnd s g.val

/-- HOLDOFF_END (R316). -/
def execHoldoffEnd (g : Fin 32) (s : State) : Out := run s fun s => holdoffOver s g.val

/-- MSIX_DELIVER (R318). -/
def execMsixDeliver (t : Fin 8) (s : State) : Out := run s fun s => deliver s t.val

/-- TGT_EOI (R320). -/
def execTgtEoi (t : Fin 8) (v : Word) (be : Fin 16) (s : State) : Out :=
  run s fun s => regWrite s .TGT_EOI t.val 0 v be.val

/-- FORCE (R331). -/
def execForce (s : State) : Out := run s fun s => cmdBit s .EVT_CMD 0 1

/-- CLR_PEND (R314). -/
def execClrPend (s : State) : Out := run s fun s => cmdBit s .EVT_CMD 0 0

/-- EV_CFG_WRITE (R323). -/
def execEvCfgWrite (src : Fin 2048) (v : Word) (be : Fin 16) (s : State) : Out :=
  run s fun s => evEntryWrite s src.val v be.val

/-- TGT_CTRL_WRITE (R325). -/
def execTgtCtrlWrite (t : Fin 8) (v : Word) (be : Fin 16) (s : State) : Out :=
  run s fun s => regWrite s .TGT_CTRL t.val 0 v be.val

/-- PCIE_POWER_STATE_CHANGE (R324). -/
def execPciePowerStateChange (d : DState) (l : LinkState) (msix : Option MsixCtl) (s : State) : Out :=
  run s fun s => pcieChange s d l msix

end Sys2Proof.Machine
end

