-- ==== Sys2Proof/Machine/CmdFabric.lean ====
section
/-! DEFINITION. Meanings: admission, VCORE and the fabric registers (spec/02). -/

namespace Sys2Proof.Machine

/-! ## The rows -/

/-- ADMISSION_DECIDE (R45). -/
def execAdmissionDecide (s : State) : Out := run s fun s => admissionDecide s

/-- VCORE_SETTLED (R51). -/
def execVcoreSettled (s : State) : Out := run s fun s => vcoreSettled s

/-- VCORE_CONFIRMED (R51). -/
def execVcoreConfirmed (s : State) : Out := run s fun s => vcoreConfirmed s

/-- VCORE_HOLD_EXPIRE (R52). -/
def execVcoreHoldExpire (s : State) : Out := run s fun s => holdExpire s

/-- VCORE_STEP_DOWN (R52). -/
def execVcoreStepDown (s : State) : Out := run s fun s => stepDown s

/-- FAB_VCAP_WRITE (R49). -/
def execFabVcapWrite (v : Word) (be : Fin 16) (s : State) : Out := run s fun s => regWrite s .FAB_VCAP 0 0 v be.val

/-- FAB_RESERVE0_WRITE (R39). -/
def execFabReserve0Write (v : Word) (be : Fin 16) (s : State) : Out :=
  run s fun s => regWrite s .FAB_RESERVE0 0 0 v be.val

/-- CLR_SLACK (R59). -/
def execClrSlack (s : State) : Out := run s fun s => cmdBit s .FAB_CMD 0 1

/-- FAB_CLR_COUNTS (R59). -/
def execFabClrCounts (s : State) : Out := run s fun s => cmdBit s .FAB_CMD 0 0

end Sys2Proof.Machine
end

