-- ==== Sys2Proof/Machine/CmdLanes.lean ====
section
/-! DEFINITION. Meanings: seams, clock groups and lanes (spec/05, spec/06). -/

namespace Sys2Proof.Machine

/-- A group that has stopped is OFF; it starts again at once if EN was written 1 in the meantime and nothing holds the
block (R145, R147, R454). -/
def groupStopped (s : State) (g : Nat) : State :=
  let was := (groupOf s g).state
  let s := cgStopDone s g
  if was = .stopping ∧ (groupOf s g).state = .off ∧ fb s .CG_CTRL_EN g ∧ s.glb.mode = .running ∧ !held s 5 then
    cgStart s g
  else s

/-! ## The rows -/

/-- SEAM_TRAIN_END (R122). -/
def execSeamTrainEnd (m : Fin 512) (s : State) : Out := run s fun s => seamTrainEnd s m.val

/-- SEAM_REANCHOR (R120). -/
def execSeamReanchor (x : SeamShift) (s : State) : Out := run s fun s => seamJump s x.seam.val x.jump x.fill

/-- SEAM_INPUT_STOP (R121). -/
def execSeamInputStop (m : Fin 512) (s : State) : Out := run s fun s => seamInputStop s m.val

/-- SEAM_RATIO_MEASURED (R121). -/
def execSeamRatioMeasured (m : Fin 512) (ratio : Nat) (s : State) : Out := run s fun s => seamMeasured s m.val ratio

/-- SEAM_RANGE_RECOVER (R122). -/
def execSeamRangeRecover (m : Fin 512) (s : State) : Out := run s fun s => seamRecover s m.val

/-- LANE_FRAME_START (R143). -/
def execLaneFrameStart (g : Fin 8) (f : LaneFrame) (s : State) : Out := run s fun s => laneFrameStart s g.val f

/-- CG_STOP (R138). -/
def execCgStop (g : Fin 8) (s : State) : Out := run s fun s => cgStopEvent s g.val

/-- CG_ANCHOR (R144). -/
def execCgAnchor (g : Fin 8) (s : State) : Out := run s fun s => cgAnchor s g.val

/-- CG_RATE_SETTLED (R141). -/
def execCgRateSettled (g : Fin 8) (s : State) : Out := run s fun s => cgSettled s g.val

/-- CG_STOP_DONE (R145). -/
def execCgStopDone (g : Fin 8) (s : State) : Out := run s fun s => groupStopped s g.val

/-- CG_EN_WRITE (R147). -/
def execCgEnWrite (g : Fin 8) (v : Word) (be : Fin 16) (s : State) : Out :=
  run s fun s => regWrite s .CG_CTRL g.val 0 v be.val

/-- CG_CLR_COUNTS (R151). -/
def execCgClrCounts (g : Fin 8) (s : State) : Out := run s fun s => cmdBit s .CG_CMD g.val 0

/-- HOST_CLR_COUNTS (R151). -/
def execHostClrCounts (s : State) : Out := run s fun s => cmdBit s .HOST_CMD 0 0

/-- SLOT_MAP_WRITE (R134). -/
def execSlotMapWrite (lane : Fin 64) (slot : Fin 32) (v : Word) (be : Fin 16) (s : State) : Out :=
  run s fun s => regWrite s .SLOT_MAP lane.val slot.val v be.val

/-- HOST_MAP_WRITE (R150). -/
def execHostMapWrite (c : Fin 64) (v : Word) (be : Fin 16) (s : State) : Out :=
  run s fun s => regWrite s .HOST_MAP c.val 0 v be.val

end Sys2Proof.Machine
end

