-- ==== Sys2Proof/Machine/CmdMix.lean ====
section
/-! DEFINITION. Meanings: the commands of the mixing, dynamics and bridge registers (spec/03 to spec/05). -/

namespace Sys2Proof.Machine

/-! ## The rows -/

/-- BS_CMD_OPEN (R78). -/
def execBsCmdOpen (k : Fin 8) (s : State) : Out := run s fun s => cmdBit s .BS_CMD k.val 0

/-- BS_CMD_ADD (R79). -/
def execBsCmdAdd (k : Fin 8) (s : State) : Out := run s fun s => cmdBit s .BS_CMD k.val 1

/-- BS_CMD_COMMIT (R81). -/
def execBsCmdCommit (k : Fin 8) (s : State) : Out := run s fun s => cmdBit s .BS_CMD k.val 2

/-- BS_CMD_ABORT (R81). -/
def execBsCmdAbort (k : Fin 8) (s : State) : Out := run s fun s => cmdBit s .BS_CMD k.val 3

/-- HEM_CLR (R103). -/
def execHemClr (s : State) : Out := run s fun s => cmdBit s .DYN_CMD 0 0

/-- CLR_HOLD (R106). -/
def execClrHold (s : State) : Out := run s fun s => cmdBit s .DYN_CMD 0 1

/-- CLR_CLIP (R107). -/
def execClrClip (s : State) : Out := run s fun s => cmdBit s .DYN_CMD 0 2

/-- METER_EN (R104). -/
def execMeterEn (s : State) : Out := run s fun s => cmdBit s .DYN_CMD 0 3

/-- METER_DIS (R104). -/
def execMeterDis (s : State) : Out := run s fun s => cmdBit s .DYN_CMD 0 4

/-- VOX_EN (R108). -/
def execVoxEn (s : State) : Out := run s fun s => cmdBit s .DYN_CMD 0 5

/-- VOX_DIS (R108). -/
def execVoxDis (s : State) : Out := run s fun s => cmdBit s .DYN_CMD 0 6

/-- SEAM_EN (R115). -/
def execSeamEn (s : State) : Out := run s fun s => cmdBit s .RB_CMD 0 0

/-- SEAM_DIS (R122). -/
def execSeamDis (s : State) : Out := run s fun s => cmdBit s .RB_CMD 0 1

/-- SC_EN (R115). -/
def execScEn (s : State) : Out := run s fun s => cmdBit s .RB_CMD 0 2

/-- SC_DIS (R115). -/
def execScDis (s : State) : Out := run s fun s => cmdBit s .RB_CMD 0 3

/-- CLR_SLIPS (R126). -/
def execClrSlips (s : State) : Out := run s fun s => cmdBit s .RB_CMD 0 4

end Sys2Proof.Machine
end

