-- ==== Sys2Proof/Machine/Witness.lean ====
section
/-! DEFINITION. The witness: which heartbeats are valid, its decision, its lines and frames (spec/18 R415 to R419). -/

namespace Sys2Proof.Machine

/-- The witness service runs: only a reset, QUIET or a lack of power stops it (R390, R419). -/
def witnessOn (s : State) : Bool := isWitness s && (s.glb.mode == .running || s.glb.mode == .removing) && !s.glb.inReset

/-- HEARTBEAT_RECEIVE: a heartbeat with the right SYNC and CRC on the line of its unit, with the instant it started. -/
def heartbeatReceive (s : State) (line : Nat) (bs : List Byte) (start : Nat) : State :=
  if !witnessOn s then s
  else match parseHeartbeat bs with
    | some h =>
      if h.unit ≠ line then s
      else s.setWit fun w => if line = 0 then { w with hbA := some (h, start) } else { w with hbB := some (h, start) }
    | none => s

/-- The unit whose heartbeats the stitch timer follows: the active one; in NONE unit A if it was heard within 64
stitches (R416). -/
def follows (w : Witness) : Bool :=
  match w.state with
  | .actA => false
  | .actB => true
  | .none => !decide (w.agoA < 64)

/-- The expected start of this stitch's heartbeats; set afresh after 64 stitches without a valid one (R416). -/
def expectedStart (s : State) (w : Witness) : Nat :=
  let first := match w.hbA, w.hbB with
    | some a, some b => some (min a.2 b.2)
    | some a, none => some a.2
    | none, some b => some b.2
    | none, none => none
  let stale := decide (64 ≤ w.agoA) && decide (64 ≤ w.agoB)
  match w.expect, first with
  | some e, some f => if stale then f else e
  | some e, none => e
  | none, some f => f
  | none, none => s.now - 6000

/-- A heartbeat starts within 0.5 µs of the expected instant and is complete before D_n (R416). -/
def onTime (e start : Nat) : Bool := decide (start ≤ e + 500) && decide (e ≤ start + 500) && decide (start + 5760 < e + 6000)

/-- In NONE a claim of the unit that the timer does not follow is valid when complete within the 125 µs before D_n. -/
def lateClaim (e : Nat) (h : Heartbeat) (start : Nat) : Bool :=
  h.claim && decide (start + 5760 < e + 6000) && decide (e + 6000 ≤ start + 5760 + 125000)

/-- The valid heartbeat of a unit for this stitch, with its start. -/
def validHb (w : Witness) (e : Nat) (b : Bool) : Option (Heartbeat × Nat) :=
  match if b then w.hbB else w.hbA with
  | some (h, t) =>
    if onTime e t || (w.state == .none && follows w != b && lateClaim e h t) then some (h, t) else none
  | none => none

/-! ## The decision (R417, R418) -/

/-- What the witness judges at D_n. -/
structure Judged where
  a : Option Heartbeat
  b : Option Heartbeat
  isMatch : Bool
  deriving DecidableEq, Repr

def hbFailed : Option Heartbeat → Bool
  | some h => !h.healthy || h.yielding
  | none => true

def takeoverOk : Option Heartbeat → Bool
  | some h => h.healthy && !h.yielding && h.role == 2 && (h.synced || h.claim)
  | none => false

def reversionOk (m : Bool) (y : Option Heartbeat) : Bool :=
  takeoverOk y && m && match y with | some h => h.synced && h.claim | none => false

def claimant : Option Heartbeat → Bool
  | some h => h.healthy && !h.yielding && h.claim
  | none => false

def hbActive : Option Heartbeat → Bool
  | some h => h.role == 1
  | none => false

/-- The state after the decision: the first row of Table 18-5 that fits. -/
def witDecide (st : WitState) (j : Judged) : WitState :=
  match st with
  | .none =>
    if hbActive j.a then .actA
    else if hbActive j.b then .actB
    else if claimant j.a then .actA
    else if claimant j.b then .actB
    else .none
  | .actA =>
    if hbFailed j.a then (if takeoverOk j.b then .actB else .actA)
    else if reversionOk j.isMatch j.b then .actB
    else .actA
  | .actB =>
    if hbFailed j.b then (if takeoverOk j.a then .actA else .actB)
    else if reversionOk j.isMatch j.a then .actA
    else .actB

/-- STITCH of the frame (Table 18-4): `st` is the state after the decision, whose unit it grants. -/
def witStitch (st : WitState) (sent : Option Nat) (j : Judged) : Nat :=
  let of (x y : Option Heartbeat) : Nat := match x, y with
    | some h, _ => h.stitch
    | none, some h => h.stitch
    | none, none => match sent with | some n => (n + 1) % 65536 | none => 0
  match st with
  | .actA => of j.a j.b
  | .actB => of j.b j.a
  | .none => if hbActive j.a then of j.a j.b else if hbActive j.b then of j.b j.a else of j.a j.b

/-- The lines of a state: one line high for the unit granted (Table 18-5, R419). -/
def witLines : WitState → Bool × Bool
  | .none => (false, false)
  | .actA => (true, false)
  | .actB => (false, true)

/-- WITNESS_DECISION: judge, send the frame, move the lines at the fence, the falling one first. -/
def witnessDecision (s : State) : State :=
  if !witnessOn s then s
  else
    let w := s.wit
    let e := expectedStart s w
    let va := validHb w e false
    let vb := validHb w e true
    let a := va.map (·.1)
    let b := vb.map (·.1)
    let m := match a, b with
      | some x, some y => x.stitch == y.stitch && x.outcrc == y.outcrc
      | _, _ => false
    let j : Judged := { a := a, b := b, isMatch := m }
    let st := witDecide w.state j
    let lines := witLines st
    let n := witStitch st w.sent j
    let agoA := if a.isSome then 0 else satInc 64 w.agoA
    let agoB := if b.isSome then 0 else satInc 64 w.agoB
    let after := follows { w with state := st, agoA := agoA, agoB := agoB }
    let main := if after then vb else va
    let other := if after then va else vb
    let next := match main, other with
      | some x, _ => x.2 + 125000
      | none, some x => x.2 + 125000
      | none, none => e + 125000
    let moved := lines.1 != w.lineA || lines.2 != w.lineB
    let f : WitFrame := { oeA := lines.1, oeB := lines.2, seenA := a.isSome, seenB := b.isSome, isMatch := m, stitch := n, id := Config.uid.toNat % 2 ^ 32 }
    let s := s.setWit fun w => { w with
      state := st, hbA := none, hbB := none, expect := some next
      agoA := agoA, agoB := agoB
      seenA := a.isSome, seenB := b.isSome, isMatch := m, sent := some n
      missA := if a.isSome then w.missA else satInc 0xFFFF w.missA, missB := if b.isSome then w.missB else satInc 0xFFFF w.missB
      moves := if moved then satInc 0xFFFFFFFF w.moves else w.moves, lineA := lines.1, lineB := lines.2 }
    let s := emit s (.witness f.bytes)
    if !moved then s
    else
      let s := if w.lineA || w.lineB then emit s (.oeLines false false) else s
      emit s (.oeLines lines.1 lines.2)

end Sys2Proof.Machine
end

