-- ==== Sys2Proof/Machine/CmdPair.lean ====
section
/-! DEFINITION. Meanings: the pair, its gate, the lining and the witness (spec/18). -/

namespace Sys2Proof.Machine

/-! ## The rows -/

/-- HEARTBEAT_SEND (R413). -/
def execHeartbeatSend (workDone : Bool) (s : State) : Out := run s fun s => heartbeatSend s workDone

/-- HEARTBEAT_RECEIVE (R416). -/
def execHeartbeatReceive (unitB : Bool) (bytes : List Byte) (start : Nat) (s : State) : Out :=
  run s fun s => heartbeatReceive s (b2n unitB) bytes start

/-- WITNESS_DECISION (R418). -/
def execWitnessDecision (s : State) : Out := run s fun s => witnessDecision s

/-- WITNESS_FRAME_RECEIVE (R420). -/
def execWitnessFrameReceive (bytes : List Byte) (s : State) : Out := run s fun s => witnessFrame s bytes

/-- OUTPUT_GATE_UPDATE (R420). -/
def execOutputGateUpdate (s : State) : Out := run s fun s => gateUpdate s

/-- LINING_MESSAGE_RECEIVE (R427). -/
def execLiningMessageReceive (msg : LinMsg) (s : State) : Out := run s fun s => liningMessage s msg

/-- LINING_DOWN (R426). -/
def execLiningDown (lockLost : Bool) (s : State) : Out := run s fun s => liningDown s lockLost

/-- LINING_UP (R426). -/
def execLiningUp (s : State) : Out := run s fun s => liningUp s

/-- JOIN_START (R430). -/
def execJoinStart (s : State) : Out := run s fun s => joinStart s

/-- JOIN_TIMEOUT (R423). -/
def execJoinTimeout (s : State) : Out := run s fun s => joinTimeout s

/-- REVERSION_WTR_EXPIRE (R436). -/
def execReversionWtrExpire (s : State) : Out := run s fun s => prWtrExpire s

/-- CLAIM_TIMEOUT (R436). -/
def execClaimTimeout (s : State) : Out := run s fun s => claimTimeout s

/-- YIELD_TIMEOUT (R425). -/
def execYieldTimeout (s : State) : Out := run s fun s => yieldTimeout s

/-- REMIRROR (R441). -/
def execRemirror (s : State) : Out := run s fun s => cmdBit s .PR_CMD 0 1

/-- RELINQUISH (R441). -/
def execRelinquish (s : State) : Out := run s fun s => cmdBit s .PR_CMD 0 0

/-- PR_CLR_COUNTS (R441). -/
def execPrClrCounts (s : State) : Out := run s fun s => cmdBit s .PR_CMD 0 2

/-- PR_CFG_WRITE (R441). -/
def execPrCfgWrite (v : Word) (be : Fin 16) (s : State) : Out := run s fun s => regWrite s .PR_CFG 0 0 v be.val

/-- OE_ALLOW_PIN_CHANGE (R421). -/
def execOeAllowPinChange (level : Bool) (s : State) : Out := run s fun s => oePin s level

end Sys2Proof.Machine
end

