-- ==== Sys2Proof/Machine/CmdPorts.lean ====
section
/-! DEFINITION. Meanings: ports, the switch, gates, and multicast membership (spec/07). -/

namespace Sys2Proof.Machine

/-- Ports come up while nothing holds them disabled (R454, R455). -/
def portsRun (s : State) (f : State → State) : State := if held s 6 ∨ s.glb.mode = .quiet ∨ s.glb.inReset then s else f s

/-- A query asks for a group's membership: for every group, for this one, for this one and its source. -/
def queryAsks (q : MemQuery) (group : Nat) (src : Option Nat) : Bool :=
  q.group == 0 || (q.group == group && (q.sources.isEmpty ||
    match src with
    | some a => q.sources.contains a
    | none => true))

/-- The answers to a query: one report for each group that a stream joined through the port, at an instant within the
maximum response time (R159; the instant is a free value, log entry 35). -/
def answerQuery (s : State) (q : MemQuery) : State :=
  forEach (s.str.rx.filterMap fun e => if e.2.enabled then some e.1 else none) s fun r s =>
    forEach [false, true] s fun b s =>
      if !(legPorts s r b).contains q.port then s
      else match legGroup s r b with
        | some (_, some (group, src)) =>
          if fb s .RX_W2_IPV6 r = q.v6 ∧ queryAsks q group src then
            let (n, s) := draw s
            let t := s.now + (Config.answerDelay n).toNat % (q.maxNs + 1)
            addReport s { due := t, by_ := s.now + q.maxNs, port := q.port, v6 := q.v6, group := group, src := src, leave := false }
          else s
        | _ => s

/-- How long an older querier is taken to be present: the 260 s of the standards (PRESUMED, log entry 36). -/
def olderNs : Nat := 260000000000

/-- What was queued on a port before its compatibility mode changed is cancelled (R160, log entry 36). -/
def cancelReports (s : State) (n : Nat) (v6 : Bool) : State :=
  s.setSw fun w => { w with reports := w.reports.filter fun r => r.port != n || r.v6 != v6 || r.old == olderMode s n v6 }

/-- A membership query arrives (R159, R160): IGMPv1 is ignored and raises IGMP_OLD; IGMPv2 and MLDv1 bring the port into
their compatibility mode, which cancels what is pending there. -/
def memQuery (s : State) (q : MemQuery) : State :=
  if 4 ≤ q.port then s
  else if !q.v6 ∧ q.version = 1 then raise s .SW_EVENT 8
  else
    let s := if q.v6 ∧ q.version = 1 then setPort s q.port { portOf s q.port with oldMld := s.now + olderNs }
      else if !q.v6 ∧ q.version = 2 then setPort s q.port { portOf s q.port with oldIgmp := s.now + olderNs } else s
    answerQuery (cancelReports s q.port q.v6) q

/-! ## The rows -/

/-- PORT_EN_WRITE (R153). -/
def execPortEnWrite (n : Fin 4) (v : Word) (be : Fin 16) (s : State) : Out :=
  run s fun s => regWrite s .PORT_CTRL n.val 0 v be.val

/-- LINK_UP (R153). -/
def execLinkUp (n : Fin 4) (kx fec : Bool) (s : State) : Out :=
  run s fun s => portsRun s fun s => linkUp s n.val kx fec

/-- NEGOTIATION_FAULT (R153). -/
def execNegotiationFault (n : Fin 4) (fault : Fin 4) (s : State) : Out :=
  run s fun s => negotiationFault s n.val fault.val

/-- LINK_DOWN (R153). -/
def execLinkDown (n : Fin 4) (s : State) : Out := run s fun s => linkDown s n.val

/-- FRAME_INGRESS (R154). -/
def execFrameIngress (n : Fin 5) (f : Frame) (s : State) : Out := run s fun s => ingress s n.val f

/-- FRAME_EGRESS (R161). -/
def execFrameEgress (n : Fin 5) (s : State) : Out := run s fun s => frameEgress s n.val

/-- MAC_AGE_OUT (R156). -/
def execMacAgeOut (s : State) : Out := run s fun s => macAge s

/-- GATE_ENTRY_CHANGE (R163). -/
def execGateEntryChange (n : Fin 4) (s : State) : Out := run s fun s => gateEntry s n.val

/-- GATE_CONFIG_TAKEOVER (R165). -/
def execGateConfigTakeover (n : Fin 4) (s : State) : Out := run s fun s => gateTakeover s n.val

/-- MAC_ADD (R157). -/
def execMacAdd (s : State) : Out := run s fun s => cmdBit s .SW_CMD 0 1

/-- MAC_DEL (R167). -/
def execMacDel (s : State) : Out := run s fun s => cmdBit s .SW_CMD 0 2

/-- FLUSH_LEARNED (R167). -/
def execFlushLearned (s : State) : Out := run s fun s => cmdBit s .SW_CMD 0 0

/-- PORT_CLR_COUNTS (R167). -/
def execPortClrCounts (n : Fin 5) (s : State) : Out := run s fun s => cmdBit s .PORT_CMD n.val 2

/-- GATE_APPLY (R165). -/
def execGateApply (n : Fin 5) (s : State) : Out := run s fun s => cmdBit s .PORT_CMD n.val 0

/-- GATE_CANCEL (R165). -/
def execGateCancel (n : Fin 5) (s : State) : Out := run s fun s => cmdBit s .PORT_CMD n.val 1

/-- MEMBERSHIP_REPORT_SEND (R159). -/
def execMembershipReportSend (s : State) : Out := run s fun s => sendReports s

/-- MEMBERSHIP_QUERY_RECEIVE (R159). -/
def execMembershipQueryReceive (q : MemQuery) (s : State) : Out := run s fun s => memQuery s q

end Sys2Proof.Machine
end

