-- ==== Sys2Proof/Machine/CmdPower.lean ====
section
/-! DEFINITION. Meanings: resets, start-up, configuration resets, PCIE_PERST#, removal and RESCAN (spec/17, R476). -/

namespace Sys2Proof.Machine

/-- PCIE_PERST# low resets the PCIe function: its link is down, MSI-X is disabled and its table returns to reset; the
rest runs on (R476). -/
def perstLow (s : State) : State :=
  let keep (off : Nat) : Bool := match findReg off with | some (r, _, _) => !ofPcie r | none => true
  let s := { s with rf := { s.rf with regs := s.rf.regs.filter fun e => keep e.1 } }
  pciePower (s.setEvt fun e => { e with perst := true, msixEn := false, msixMask := false }) .d0 .down

/-- PCIE_PERST# is released: the function serves configuration requests from 50 ms after this instant on (R476). -/
def perstHigh (s : State) : State :=
  if s.evt.perst then s.setEvt fun e => { e with perst := false, perstUp := s.now } else s

/-! ## The rows -/

/-- CFG_RESET_DECIDE (R397). -/
def execCfgResetDecide (loadMs : Nat) (s : State) : Out := run s fun s => cfgDecide s loadMs

/-- POWER_ON (R405). -/
def execPowerOn (s : State) : Out := run s fun s => fullReset s 0

/-- RST_ASSERT (R394). -/
def execRstAssert (s : State) : Out := run s fun s => fullReset s 1

/-- RESET_RELEASE (R387). -/
def execResetRelease (env : StartEnv) (s : State) : Out := run s fun s => startUp s env

/-- WATCHDOG_EXPIRE (R393). -/
def execWatchdogExpire (s : State) : Out := run s fun s => reportFault s 0x16 0 2

/-- PERST_ASSERT (R476). -/
def execPerstAssert (s : State) : Out := run s fun s => perstLow s

/-- BARE_MODE_TIMER (R384). -/
def execBareModeTimer (s : State) : Out := run s fun s => bareTimer s

/-- EJECT_DEBOUNCED (R406). -/
def execEjectDebounced (s : State) : Out := run s fun s => ejectStart s

/-- EJECT (R406). -/
def execEject (s : State) : Out := run s fun s => cmdBit s .PL_CMD 0 1

/-- RESCAN (R409). -/
def execRescan (s : State) : Out := run s fun s => cmdBit s .PL_CMD 0 0

/-- PCIE_PERST_RELEASE (R476). -/
def execPciePerstRelease (s : State) : Out := run s fun s => perstHigh s

/-- RESCAN_COMPLETE (R409). -/
def execRescanComplete (s : State) : Out := run s fun s => rescanDone s

end Sys2Proof.Machine
end

