-- ==== Sys2Proof/Machine/CmdRefs.lean ====
section
/-! DEFINITION. Meanings: reference sources and media clocks (spec/10). -/

namespace Sys2Proof.Machine

/-- A held block keeps its selection frozen (R454). -/
def mcRun (s : State) (f : State → State) : State := if held s 3 then s else f s

/-! ## The rows -/

/-- REF_EDGE (R233). -/
def execRefEdge (k : Fin 21) (dev : Int) (s : State) : Out := run s fun s => refEdge s k.val dev

/-- REF_SIGNAL_LOSS (R234). -/
def execRefSignalLoss (k : Fin 21) (s : State) : Out := run s fun s => refSignalLoss s k.val

/-- QUAL_WINDOW_END (R234). -/
def execQualWindowEnd (k : Fin 21) (fofs : Int) (s : State) : Out := run s fun s => qualWindowEnd s k.val fofs

/-- QTIME_EXPIRE (R234). -/
def execQtimeExpire (k : Fin 21) (s : State) : Out := run s fun s => qtimeExpire s k.val

/-- TCXO_FAULT_CLEAR (R235). -/
def execTcxoFaultClear (s : State) : Out := run s fun s => tcxoClear s

/-- WTR_EXPIRE (R238). -/
def execWtrExpire (m : Fin 4) (s : State) : Out := run s fun s => wtrExpire s m.val

/-- MC_LOCK_ACHIEVED (R241). -/
def execMcLockAchieved (m : Fin 4) (s : State) : Out := run s fun s => mcRun s fun s => mcLock s m.val

/-- HOLDOVER_LIMIT (R246). -/
def execHoldoverLimit (m : Fin 4) (s : State) : Out := run s fun s => holdoverLimit s m.val

/-- MC_SW_WRITE (R247). -/
def execMcSwWrite (m : Fin 4) (v : Word) (be : Fin 16) (s : State) : Out :=
  run s fun s => regWrite s .MC_CTRL m.val 0 v be.val

/-- SW_FREQ_WRITE (R247). -/
def execSwFreqWrite (m : Fin 4) (v : Word) (be : Fin 16) (s : State) : Out :=
  run s fun s => regWrite s .MC_SW_FREQ_LO m.val 0 v be.val

/-- SW_STEP (R247). -/
def execSwStep (s : State) : Out := run s fun s => cmdBit s .REF_CMD 0 2

/-- PHASE_STEP_DONE (R262). -/
def execPhaseStepDone (m : Fin 4) (s : State) : Out := run s fun s => phaseStepDone s m.val

/-- RELEARN (R245). -/
def execRelearn (s : State) : Out := run s fun s => cmdBit s .REF_CMD 0 1

/-- REF_CLR_COUNTS (R249). -/
def execRefClrCounts (s : State) : Out := run s fun s => cmdBit s .REF_CMD 0 0

end Sys2Proof.Machine
end

