-- ==== Sys2Proof/Machine/CmdRegisters.lean ====
section
/-! DEFINITION. Meanings: register writes without a row of their own, posted writes, parity, locks and resets
(spec/16). -/

namespace Sys2Proof.Machine

/-! ## The rows -/

/-- REGISTER_WRITE (R361). -/
def execRegisterWrite (bar2 : Bool) (off : Nat) (v : Word) (be : Fin 16) (poison : Bool) (s : State) : Out :=
  run s fun s => pcieWrite s (if bar2 then 2 else 0) off v be.val poison

/-- POSTED_WRITE_APPLY (R366). -/
def execPostedWriteApply (s : State) : Out := run s fun s => postedApply s

/-- SCRUB_PASS (R371). -/
def execScrubPass (bad : List Nat) (s : State) : Out := run s fun s => scrubPass s bad

/-- LOCK_HEM (R374). -/
def execLockHem (s : State) : Out := run s fun s => cmdBit s .GLB_CMD 0 4

/-- LOCK_CO (R374). -/
def execLockCo (s : State) : Out := run s fun s => cmdBit s .GLB_CMD 0 5

/-- LOCK_VCAP (R374). -/
def execLockVcap (s : State) : Out := run s fun s => cmdBit s .GLB_CMD 0 6

/-- LOCK_ROLES (R374). -/
def execLockRoles (s : State) : Out := run s fun s => cmdBit s .GLB_CMD 0 7

/-- LOCK_KEYS (R374). -/
def execLockKeys (s : State) : Out := run s fun s => cmdBit s .GLB_CMD 0 8

/-- CLR_WERR (R365). -/
def execClrWerr (s : State) : Out := run s fun s => cmdBit s .GLB_CMD 0 0

/-- GLB_RESET_FULL (R393). -/
def execGlbResetFull (s : State) : Out := run s fun s => regWrite s .GLB_RESET 0 0 (word 0x53560002) 15

/-- GLB_RESET_CFG (R396). -/
def execGlbResetCfg (s : State) : Out := run s fun s => regWrite s .GLB_RESET 0 0 (word 0x53560001) 15

end Sys2Proof.Machine
end

