-- ==== Sys2Proof/Machine/CmdSafety.lean ====
section
/-! DEFINITION. Meanings: the fence, faults, temperature, ECC and the fault log (spec/02 R34 to R36, spec/19). -/

namespace Sys2Proof.Machine

/-- The fence of a stitch, with the temperature and voltages that the thimble has measured since the last one. -/
def fenceStep (s : State) (m : FenceMeas) : State :=
  let s := match m.volts with
    | some (a, b) => s.setSaf fun y => { y with vin := min a 0xFFFF, vcore := min b 0xFFFF }
    | none => s
  let s := match m.tj with
    | some t => takeTj s t
    | none => s
  fence s m

/-! ## The rows -/

/-- FENCE (R11). -/
def execFence (m : FenceMeas) (s : State) : Out := run s fun s => fenceStep s m

/-- FAULT_DETECT (R445). -/
def execFaultDetect (code : Fin 26) (detail : Nat) (region : Fin 3) (s : State) : Out :=
  run s fun s => detect s code.val detail region.val

/-- QUIET_LANE_RELEASE (R455). -/
def execQuietLaneRelease (s : State) : Out := run s fun s => quietLaneRelease s

/-- LOCKSTEP_RESET_TIMER (R445). -/
def execLockstepResetTimer (s : State) : Out := run s fun s => lockstepReset s

/-- TEMP_BAR_END (R450). -/
def execTempBarEnd (s : State) : Out := run s fun s => tempBarEnd s

/-- ECC_HOUR_END (R451). -/
def execEccHourEnd (ce : Nat) (s : State) : Out := run s fun s => eccHour s ce

/-- DIGEST_COMPARE (R452). -/
def execDigestCompare (ok : Bool) (s : State) : Out := run s fun s => digestCompare s ok

/-- CLR_LOG (R456). -/
def execClrLog (s : State) : Out := run s fun s => cmdBit s .SAF_CMD 0 0

/-- SAF_CLR_COUNTS (R458). -/
def execSafClrCounts (s : State) : Out := run s fun s => cmdBit s .SAF_CMD 0 1

/-- SAF_INJECT (R457). -/
def execSafInject (v : Word) (be : Fin 16) (s : State) : Out := run s fun s => regWrite s .SAF_INJECT 0 0 v be.val

/-- TJ_RISES_THROUGH_TEMP_WARN (R450). -/
def execTjRisesThroughTempWarn (tj : Int) (s : State) : Out := run s fun s => takeTj s tj

end Sys2Proof.Machine
end

