-- ==== Sys2Proof/Machine/CmdSessions.lean ====
section
/-! DEFINITION. Meanings: Firyn messages, session commands and session registers (spec/15). -/

namespace Sys2Proof.Machine

/-- A write of a register whose change closes sessions (R354). -/
def sesRegWrite (s : State) (x : SesReg) (v : Word) (be : Nat) : State :=
  match x with
  | .net => regWrite s .SES_NET 0 0 v be
  | .cfg => regWrite s .SES_CFG 0 0 v be
  | .ip4 => regWrite s .SES_IP4 0 0 v be
  | .ip6 j => regWrite s .SES_IP6 j.val 0 v be
  | .mbox => regWrite s .SES_MBOX 0 0 v be

/-! ## The rows -/

/-- HELLO (R337). -/
def execHello (c : Client) (body : List Byte) (s : State) : Out := run s fun s => hello s c body

/-- PROOF (R339). -/
def execProof (c : Client) (id : Nat) (body : List Byte) (s : State) : Out := run s fun s => proof s c id body

/-- CHALLENGE_LAPSE (R337). -/
def execChallengeLapse (s : State) : Out := run s fun s => challengeLapse s

/-- AUTH_BLOCK_EXPIRE (R339). -/
def execAuthBlockExpire (s : State) : Out := run s fun s => authExpire s

/-- SESSION_IDLE_TIMEOUT (R340). -/
def execSessionIdleTimeout (s : State) : Out := run s fun s => idleTimeout s

/-- COMMAND_START (R343). -/
def execCommandStart (s : State) : Out := run s fun s => commandStart s

/-- REPLY_SEND (R353). -/
def execReplySend (s : State) : Out := run s fun s => replySend s

/-- NOP (R344). -/
def execNop (q : FirynReq) (s : State) : Out := run s fun s => requestArrive s 0x00 q

/-- REG_READ (R345). -/
def execRegRead (q : FirynReq) (s : State) : Out := run s fun s => requestArrive s 0x01 q

/-- REG_WRITE (R345). -/
def execRegWrite (q : FirynReq) (s : State) : Out := run s fun s => requestArrive s 0x02 q

/-- BS_OPEN (R346). -/
def execBsOpen (q : FirynReq) (s : State) : Out := run s fun s => requestArrive s 0x10 q

/-- BS_ADD (R346). -/
def execBsAdd (q : FirynReq) (s : State) : Out := run s fun s => requestArrive s 0x11 q

/-- BS_COMMIT (R346). -/
def execBsCommit (q : FirynReq) (s : State) : Out := run s fun s => requestArrive s 0x12 q

/-- BS_ABORT (R346). -/
def execBsAbort (q : FirynReq) (s : State) : Out := run s fun s => requestArrive s 0x13 q

/-- CHANGE (R346). -/
def execChange (q : FirynReq) (s : State) : Out := run s fun s => requestArrive s 0x14 q

/-- SCHED_WRITE (R346). -/
def execSchedWrite (q : FirynReq) (s : State) : Out := run s fun s => requestArrive s 0x15 q

/-- SCHED_DEL (R288). -/
def execSchedDel (q : FirynReq) (s : State) : Out := run s fun s => requestArrive s 0x16 q

/-- ENABLE (R347). -/
def execEnable (q : FirynReq) (s : State) : Out := run s fun s => requestArrive s 0x17 q

/-- RELEASE (R344). -/
def execRelease (q : FirynReq) (s : State) : Out := run s fun s => requestArrive s 0x18 q

/-- METER_READ (R348). -/
def execMeterRead (q : FirynReq) (s : State) : Out := run s fun s => requestArrive s 0x20 q

/-- SUBSCRIBE (R349). -/
def execSubscribe (q : FirynReq) (s : State) : Out := run s fun s => requestArrive s 0x21 q

/-- ACCEPT_STEP (R350). -/
def execAcceptStep (q : FirynReq) (s : State) : Out := run s fun s => requestArrive s 0x30 q

/-- IMG_BEGIN (R351). -/
def execImgBegin (q : FirynReq) (s : State) : Out := run s fun s => requestArrive s 0x40 q

/-- IMG_DATA (R351). -/
def execImgData (q : FirynReq) (s : State) : Out := run s fun s => requestArrive s 0x41 q

/-- IMG_END (R386). -/
def execImgEnd (q : FirynReq) (s : State) : Out := run s fun s => requestArrive s 0x42 q

/-- IMG_ABORT (R351). -/
def execImgAbort (q : FirynReq) (s : State) : Out := run s fun s => requestArrive s 0x43 q

/-- CFG_RESET (R352). -/
def execCfgReset (q : FirynReq) (s : State) : Out := run s fun s => requestArrive s 0x50 q

/-- FULL_RESET (R352). -/
def execFullReset (q : FirynReq) (s : State) : Out := run s fun s => requestArrive s 0x51 q

/-- CLOSE (R340). -/
def execClose (q : FirynReq) (s : State) : Out := run s fun s => requestArrive s 0x60 q

/-- KILL (R354). -/
def execKill (s : State) : Out := run s fun s => cmdBit s .SES_CMD 0 0

/-- SES_CLR_COUNTS (R354). -/
def execSesClrCounts (s : State) : Out := run s fun s => cmdBit s .SES_CMD 0 1

/-- SES_CONFIG_WRITE (R354). -/
def execSesConfigWrite (x : SesReg) (v : Word) (be : Fin 16) (s : State) : Out :=
  run s fun s => sesRegWrite s x v be.val

/-- ARP_REQUEST_RECEIVE (R332). -/
def execArpRequestReceive (q : ArpReq) (s : State) : Out := run s fun s => arpRequest s q

/-- MALFORMED_MESSAGE (R335). -/
def execMalformedMessage (c : Client) (bytes : List Byte) (s : State) : Out := run s fun s => firynBytes s c bytes

end Sys2Proof.Machine
end

