-- ==== Sys2Proof/Machine/CmdSpools.lean ====
section
/-! DEFINITION. Meanings: host operations on spool windows, internal producers, spool commands (spec/13). -/

namespace Sys2Proof.Machine

/-- A host write at an offset of a spool window in BAR2 (R297, R355). -/
def windowOp (s : State) (n off : Nat) (v : Word) (be : Nat) (poison : Bool) : State :=
  pcieWrite s 2 (4096 * n + off) v be poison

/-- The internal producer that owns a spool's producer end hands over an item (R293, R295). -/
def producerCommit (s : State) (n : Nat) (it : NewItem) : State := if internalProd s n then (internalCommit s n it).1 else s

/-- A reset is over; a held block keeps its spools in reset (R307, R454). -/
def spoolReady (s : State) (n : Nat) : State := if held s 12 then s else spoolResetDone s n

/-! ## The rows -/

/-- P_OPEN (R298). -/
def execPOpen (n : Fin 4096) (v : Word) (be : Fin 16) (s : State) : Out :=
  run s fun s => windowOp s n.val 0x10 v be.val false

/-- P_DATA (R298). -/
def execPData (n : Fin 4096) (i : Fin 256) (v : Word) (be : Fin 16) (poison : Bool) (s : State) : Out :=
  run s fun s => windowOp s n.val (0x400 + 4 * i.val) v be.val poison

/-- P_END (R298). -/
def execPEnd (n : Fin 4096) (v : Word) (be : Fin 16) (s : State) : Out :=
  run s fun s => windowOp s n.val 0x14 v be.val false

/-- P_END_ABORT (R298). -/
def execPEndAbort (n : Fin 4096) (s : State) : Out := run s fun s => windowOp s n.val 0x14 (word (2 ^ 31)) 15 false

/-- ADVANCE (R299). -/
def execAdvance (n : Fin 4096) (k : Fin 32768) (s : State) : Out :=
  run s fun s => windowOp s n.val 8 (word k.val) 15 false

/-- DROP (R299). -/
def execDrop (n : Fin 4096) (s : State) : Out := run s fun s => windowOp s n.val 8 (word (2 ^ 31)) 15 false

/-- MARK (R304). -/
def execMark (n : Fin 4096) (s : State) : Out := run s fun s => windowOp s n.val 8 (word (2 ^ 30)) 15 false

/-- REWIND (R304). -/
def execRewind (n : Fin 4096) (s : State) : Out := run s fun s => windowOp s n.val 8 (word (2 ^ 29)) 15 false

/-- CONSUMER_READ_STALL (R300). -/
def execConsumerReadStall (n : Fin 4096) (off : Fin 4096) (s : State) : Out :=
  run s fun s => windowReadEvent s n.val off.val

/-- INTERNAL_ITEM_COMMIT (R295). -/
def execInternalItemCommit (n : Fin 4096) (item : NewItem) (s : State) : Out :=
  run s fun s => producerCommit s n.val item

/-- FLUSH (R305). -/
def execFlush (s : State) : Out := run s fun s => cmdBit s .SPL_CMD 0 0

/-- SPL_CLR_COUNTS (R309). -/
def execSplClrCounts (s : State) : Out := run s fun s => cmdBit s .SPL_CMD 0 1

/-- SPOOL_EN_WRITE (R305). -/
def execSpoolEnWrite (n : Fin 4096) (v : Word) (be : Fin 16) (s : State) : Out :=
  run s fun s => regWrite s .SP_W0 n.val 0 v be.val

/-- SPOOL_RESET_DONE (R307). -/
def execSpoolResetDone (n : Fin 4096) (s : State) : Out := run s fun s => spoolReady s n.val

end Sys2Proof.Machine
end

