-- ==== Sys2Proof/Machine/CmdStitch.lean ====
section
/-! DEFINITION. Meanings: the stitch boundary and what ends with a stitch (spec/01, spec/03, spec/04, R389). -/

namespace Sys2Proof.Machine

/-- A boundary with what the pair, the sessions and the lining do at it: role changes before anything that depends on the
role, NOTIFY, the mirrored decisions of the stitch, the packets asked of the peer (R349, R423, R427, R431, R433). -/
def stitchStep (s : State) (env : StitchEnv) : State :=
  if s.glb.inReset then s
  else askMissing (mirrorStitch (notifyAll (boundary (runOwed s) env fun s => cfgBoundary (pairBoundary s))))

/-! ## The rows -/

/-- STITCH_BOUNDARY (R8). -/
def execStitchBoundary (env : StitchEnv) (s : State) : Out := run s fun s => stitchStep s env

/-- RAMP_END (R74). -/
def execRampEnd (s : State) : Out := run s fun s => rampEnd s

/-- NA_RELEASE (R97). -/
def execNaRelease (k : Fin 2048) (s : State) : Out := run s fun s => naRelease s k.val

/-- METER_HOLD_EXPIRE (R106). -/
def execMeterHoldExpire (m : Fin 4096) (s : State) : Out := run s fun s => meterHold s m.val

/-- VOX_ON (R109). -/
def execVoxOn (k : Fin 256) (s : State) : Out := run s fun s => voxOn s k.val

/-- VOX_OFF (R109). -/
def execVoxOff (k : Fin 256) (s : State) : Out := run s fun s => voxOff s k.val

/-- AUDIO_START (R389). -/
def execAudioStart (s : State) : Out := run s fun s => audioStart s

end Sys2Proof.Machine
end

