-- ==== Sys2Proof/Machine/CmdStreams.lean ====
section
/-! DEFINITION. Meanings: stream packets, stream commands and stream registers (spec/08). -/

namespace Sys2Proof.Machine

/-! ## The rows -/

/-- TX_CHANNEL_MAP_WRITE (R192). -/
def execTxChannelMapWrite (t : Fin 256) (c : Fin 64) (v : Word) (be : Fin 16) (s : State) : Out :=
  run s fun s => regWrite s .TX_MAP t.val c.val v be.val

/-- PACKET_RECEIVE (R179). -/
def execPacketReceive (p : Pkt) (s : State) : Out := run s fun s => packetReceive s p

/-- RX_TIMEOUT (R182). -/
def execRxTimeout (k : Fin 256) (s : State) : Out := run s fun s => rxTimeout s k.val

/-- LEG_LIVE_TIMEOUT (R187). -/
def execLegLiveTimeout (k : Fin 256) (legB : Bool) (s : State) : Out := run s fun s => legTimeout s k.val legB

/-- TX_PACKET_START (R191). -/
def execTxPacketStart (t : Fin 256) (s : State) : Out := run s fun s => txPacketStart s t.val

/-- RX_EN (R182). -/
def execRxEn (s : State) : Out := run s fun s => cmdBit s .STR_CMD 0 0

/-- RX_DIS (R182). -/
def execRxDis (s : State) : Out := run s fun s => cmdBit s .STR_CMD 0 1

/-- TX_EN (R193). -/
def execTxEn (s : State) : Out := run s fun s => cmdBit s .STR_CMD 0 2

/-- TX_DIS (R193). -/
def execTxDis (s : State) : Out := run s fun s => cmdBit s .STR_CMD 0 3

/-- CLR_RX (R197). -/
def execClrRx (s : State) : Out := run s fun s => cmdBit s .STR_CMD 0 4

/-- CLR_TX (R197). -/
def execClrTx (s : State) : Out := run s fun s => cmdBit s .STR_CMD 0 5

/-- CLR_HANK (R197). -/
def execClrHank (s : State) : Out := run s fun s => cmdBit s .STR_CMD 0 6

/-- RX_OFFSET_WRITE (R183). -/
def execRxOffsetWrite (k : Fin 256) (v : Word) (be : Fin 16) (s : State) : Out :=
  run s fun s => regWrite s .RX_W1 k.val 0 v be.val

/-- HANK_OFFSET_WRITE (R184). -/
def execHankOffsetWrite (h : Fin 64) (v : Word) (be : Fin 16) (s : State) : Out :=
  run s fun s => regWrite s .HK_W0 h.val 0 v be.val

end Sys2Proof.Machine
end

