-- ==== Sys2Proof/Machine/CmdSynths.lean ====
section
/-! DEFINITION. Meanings: synthesizers, MCK and pulse outputs (spec/11). -/

namespace Sys2Proof.Machine

/-- A held block coasts, with no hand-over and no test (R454). -/
def synRun (s : State) (f : State → State) : State := if held s 4 then s else f s

/-! ## The rows -/

/-- SYN_LOSS_OF_LOCK (R254). -/
def execSynLossOfLock (k : Fin 5) (atEdge : Bool) (errs : List Int) (s : State) : Out :=
  run s fun s => synLoss s k.val atEdge errs

/-- SYN_RELOCK_ATTEMPT (R256). -/
def execSynRelockAttempt (k : Fin 5) (s : State) : Out := run s fun s => synRun s fun s => synTry s k.val

/-- NO_SPARE (R256). -/
def execNoSpare (m : Fin 4) (s : State) : Out := run s fun s => synNoSpare s m.val

/-- HANDOVER_START (R257). -/
def execHandoverStart (s : State) : Out := run s fun s => synRun s handoverStart

/-- HANDOVER_SWITCHOVER (R257). -/
def execHandoverSwitchover (s : State) : Out := run s fun s => synRun s handoverSwitch

/-- HANDOVER_FAIL (R257). -/
def execHandoverFail (s : State) : Out := run s fun s => synRun s handoverFail

/-- SYN_TEST_DONE (R259). -/
def execSynTestDone (k : Fin 5) (dev : Option Int) (band : Fin 16) (s : State) : Out :=
  run s fun s => synRun s fun s => synTestDone s k.val dev band.val

/-- SYN_RETEST_TIMER (R259). -/
def execSynRetestTimer (k : Fin 5) (s : State) : Out := run s fun s => synRun s fun s => synRetest s k.val

/-- RETRY (R259). -/
def execRetry (s : State) : Out := run s fun s => cmdBit s .SYN_CMD 0 2

/-- SYN_TEST (R259). -/
def execSynTest (s : State) : Out := run s fun s => cmdBit s .SYN_CMD 0 1

/-- SYN_CLR_COUNTS (R270). -/
def execSynClrCounts (s : State) : Out := run s fun s => cmdBit s .SYN_CMD 0 0

/-- MCK_CFG_WRITE (R265). -/
def execMckCfgWrite (j : Fin 4) (v : Word) (be : Fin 16) (s : State) : Out :=
  run s fun s => regWrite s .MCK_CFG j.val 0 v be.val

/-- PLS_CFG_WRITE (R269). -/
def execPlsCfgWrite (p : Fin 4) (v : Word) (be : Fin 16) (s : State) : Out :=
  run s fun s => regWrite s .PLS_CFG p.val 0 v be.val

/-- PLS_OFS_WRITE (R269). -/
def execPlsOfsWrite (p : Fin 4) (v : Word) (be : Fin 16) (s : State) : Out :=
  run s fun s => regWrite s .PLS_OFS p.val 0 v be.val

/-- PLS_SOURCE_PULSE (R268). -/
def execPlsSourcePulse (p : Fin 4) (edge : Int) (s : State) : Out := run s fun s => plsSource s p.val edge

/-- PLS_OUTPUT_PULSE (R269). -/
def execPlsOutputPulse (p : Fin 4) (s : State) : Out := run s fun s => plsOutput s p.val

/-- IN_PLACE_RELOCK (R256). -/
def execInPlaceRelock (x : SynLock) (s : State) : Out := run s fun s => synRun s fun s => synRelock s x.k.val x.errs

end Sys2Proof.Machine
end

