-- ==== Sys2Proof/Machine/CmdTime.lean ====
section
/-! DEFINITION. Meanings: PTP, time steps and the time-base registers (spec/09). -/

namespace Sys2Proof.Machine

/-- PTP runs while the block is not held: its instances neither send nor judge, every time base runs on (R454). -/
def tbRun (s : State) (f : State → State) : State := if held s 2 then s else f s

/-! ## The rows -/

/-- PTP_MESSAGE_RECEIVE (R212). -/
def execPtpMessageReceive (k port : Fin 4) (msg : PtpMsg) (s : State) : Out :=
  run s fun s => tbRun s fun s => ptpReceive s k.val port.val msg

/-- ANNOUNCE_TIMEOUT (R215). -/
def execAnnounceTimeout (k : Fin 4) (s : State) : Out := run s fun s => tbRun s fun s => announceTimeout s k.val

/-- PTP_MASTER_SEND (R200): and the delay requests of a time base whose interval has come (log entry 71). -/
def execPtpMasterSend (k : Fin 4) (s : State) : Out := run s fun s => tbRun s fun s => masterSend s k.val

/-- PDELAY_SEND (R208). -/
def execPdelaySend (n : Fin 4) (s : State) : Out := run s fun s => tbRun s fun s => pdelaySend s n.val

/-- PERSIST_EXPIRE (R213). -/
def execPersistExpire (k : Fin 4) (s : State) : Out := run s fun s => tbRun s fun s => persistExpire s k.val

/-- TB_CTRL_WRITE (R215). -/
def execTbCtrlWrite (k : Fin 4) (v : Word) (be : Fin 16) (s : State) : Out :=
  run s fun s => regWrite s .TB_CTRL k.val 0 v be.val

/-- SNAP (R222). -/
def execSnap (s : State) : Out := run s fun s => cmdBit s .TB_CMD 0 0

/-- TB_CLR_COUNTS (R225). -/
def execTbClrCounts (s : State) : Out := run s fun s => cmdBit s .TB_CMD 0 1

/-- PDELAY_REQ_RECEIVE (R208). -/
def execPdelayReqReceive (n : Fin 4) (msg : PdelayMsg) (s : State) : Out :=
  run s fun s => tbRun s fun s => pdelayReceive s n.val msg.seq msg.resp

end Sys2Proof.Machine
end

