-- ==== Sys2Proof/Machine/Dispatch.lean ====
section
/-! DEFINITION. One arm per command. -/

namespace Sys2Proof.Machine

def exec (i : Instr) (s : State) : Host.Outcome State Fault Refusal :=
  match i with
  | .stitchBoundary env => Sys2Proof.Machine.execStitchBoundary env s
  | .rampEnd => Sys2Proof.Machine.execRampEnd s
  | .naRelease k => Sys2Proof.Machine.execNaRelease k s
  | .meterHoldExpire m => Sys2Proof.Machine.execMeterHoldExpire m s
  | .voxOn k => Sys2Proof.Machine.execVoxOn k s
  | .voxOff k => Sys2Proof.Machine.execVoxOff k s
  | .audioStart => Sys2Proof.Machine.execAudioStart s
  | .heartbeatSend workDone => Sys2Proof.Machine.execHeartbeatSend workDone s
  | .fence m => Sys2Proof.Machine.execFence m s
  | .admissionDecide => Sys2Proof.Machine.execAdmissionDecide s
  | .vcoreSettled => Sys2Proof.Machine.execVcoreSettled s
  | .vcoreConfirmed => Sys2Proof.Machine.execVcoreConfirmed s
  | .vcoreHoldExpire => Sys2Proof.Machine.execVcoreHoldExpire s
  | .vcoreStepDown => Sys2Proof.Machine.execVcoreStepDown s
  | .fabVcapWrite v be => Sys2Proof.Machine.execFabVcapWrite v be s
  | .fabReserve0Write v be => Sys2Proof.Machine.execFabReserve0Write v be s
  | .clrSlack => Sys2Proof.Machine.execClrSlack s
  | .fabClrCounts => Sys2Proof.Machine.execFabClrCounts s
  | .bsCmdOpen k => Sys2Proof.Machine.execBsCmdOpen k s
  | .bsCmdAdd k => Sys2Proof.Machine.execBsCmdAdd k s
  | .bsCmdCommit k => Sys2Proof.Machine.execBsCmdCommit k s
  | .bsCmdAbort k => Sys2Proof.Machine.execBsCmdAbort k s
  | .hemClr => Sys2Proof.Machine.execHemClr s
  | .clrHold => Sys2Proof.Machine.execClrHold s
  | .clrClip => Sys2Proof.Machine.execClrClip s
  | .meterEn => Sys2Proof.Machine.execMeterEn s
  | .meterDis => Sys2Proof.Machine.execMeterDis s
  | .voxEn => Sys2Proof.Machine.execVoxEn s
  | .voxDis => Sys2Proof.Machine.execVoxDis s
  | .seamEn => Sys2Proof.Machine.execSeamEn s
  | .seamDis => Sys2Proof.Machine.execSeamDis s
  | .scEn => Sys2Proof.Machine.execScEn s
  | .scDis => Sys2Proof.Machine.execScDis s
  | .clrSlips => Sys2Proof.Machine.execClrSlips s
  | .seamTrainEnd m => Sys2Proof.Machine.execSeamTrainEnd m s
  | .seamReanchor x => Sys2Proof.Machine.execSeamReanchor x s
  | .seamInputStop m => Sys2Proof.Machine.execSeamInputStop m s
  | .seamRatioMeasured m ratio => Sys2Proof.Machine.execSeamRatioMeasured m ratio s
  | .seamRangeRecover m => Sys2Proof.Machine.execSeamRangeRecover m s
  | .laneFrameStart g f => Sys2Proof.Machine.execLaneFrameStart g f s
  | .cgStop g => Sys2Proof.Machine.execCgStop g s
  | .cgAnchor g => Sys2Proof.Machine.execCgAnchor g s
  | .cgRateSettled g => Sys2Proof.Machine.execCgRateSettled g s
  | .cgStopDone g => Sys2Proof.Machine.execCgStopDone g s
  | .cgEnWrite g v be => Sys2Proof.Machine.execCgEnWrite g v be s
  | .cgClrCounts g => Sys2Proof.Machine.execCgClrCounts g s
  | .hostClrCounts => Sys2Proof.Machine.execHostClrCounts s
  | .slotMapWrite lane slot v be => Sys2Proof.Machine.execSlotMapWrite lane slot v be s
  | .hostMapWrite c v be => Sys2Proof.Machine.execHostMapWrite c v be s
  | .txChannelMapWrite t c v be => Sys2Proof.Machine.execTxChannelMapWrite t c v be s
  | .portEnWrite n v be => Sys2Proof.Machine.execPortEnWrite n v be s
  | .linkUp n kx fec => Sys2Proof.Machine.execLinkUp n kx fec s
  | .negotiationFault n fault => Sys2Proof.Machine.execNegotiationFault n fault s
  | .linkDown n => Sys2Proof.Machine.execLinkDown n s
  | .frameIngress n f => Sys2Proof.Machine.execFrameIngress n f s
  | .frameEgress n => Sys2Proof.Machine.execFrameEgress n s
  | .macAgeOut => Sys2Proof.Machine.execMacAgeOut s
  | .gateEntryChange n => Sys2Proof.Machine.execGateEntryChange n s
  | .gateConfigTakeover n => Sys2Proof.Machine.execGateConfigTakeover n s
  | .macAdd => Sys2Proof.Machine.execMacAdd s
  | .macDel => Sys2Proof.Machine.execMacDel s
  | .flushLearned => Sys2Proof.Machine.execFlushLearned s
  | .portClrCounts n => Sys2Proof.Machine.execPortClrCounts n s
  | .gateApply n => Sys2Proof.Machine.execGateApply n s
  | .gateCancel n => Sys2Proof.Machine.execGateCancel n s
  | .membershipReportSend => Sys2Proof.Machine.execMembershipReportSend s
  | .packetReceive p => Sys2Proof.Machine.execPacketReceive p s
  | .rxTimeout k => Sys2Proof.Machine.execRxTimeout k s
  | .legLiveTimeout k legB => Sys2Proof.Machine.execLegLiveTimeout k legB s
  | .txPacketStart t => Sys2Proof.Machine.execTxPacketStart t s
  | .rxEn => Sys2Proof.Machine.execRxEn s
  | .rxDis => Sys2Proof.Machine.execRxDis s
  | .txEn => Sys2Proof.Machine.execTxEn s
  | .txDis => Sys2Proof.Machine.execTxDis s
  | .clrRx => Sys2Proof.Machine.execClrRx s
  | .clrTx => Sys2Proof.Machine.execClrTx s
  | .clrHank => Sys2Proof.Machine.execClrHank s
  | .rxOffsetWrite k v be => Sys2Proof.Machine.execRxOffsetWrite k v be s
  | .hankOffsetWrite h v be => Sys2Proof.Machine.execHankOffsetWrite h v be s
  | .ptpMessageReceive k port msg => Sys2Proof.Machine.execPtpMessageReceive k port msg s
  | .announceTimeout k => Sys2Proof.Machine.execAnnounceTimeout k s
  | .ptpMasterSend k => Sys2Proof.Machine.execPtpMasterSend k s
  | .pdelaySend n => Sys2Proof.Machine.execPdelaySend n s
  | .persistExpire k => Sys2Proof.Machine.execPersistExpire k s
  | .tbCtrlWrite k v be => Sys2Proof.Machine.execTbCtrlWrite k v be s
  | .snap => Sys2Proof.Machine.execSnap s
  | .tbClrCounts => Sys2Proof.Machine.execTbClrCounts s
  | .refEdge k dev => Sys2Proof.Machine.execRefEdge k dev s
  | .refSignalLoss k => Sys2Proof.Machine.execRefSignalLoss k s
  | .qualWindowEnd k fofs => Sys2Proof.Machine.execQualWindowEnd k fofs s
  | .qtimeExpire k => Sys2Proof.Machine.execQtimeExpire k s
  | .tcxoFaultClear => Sys2Proof.Machine.execTcxoFaultClear s
  | .wtrExpire m => Sys2Proof.Machine.execWtrExpire m s
  | .mcLockAchieved m => Sys2Proof.Machine.execMcLockAchieved m s
  | .holdoverLimit m => Sys2Proof.Machine.execHoldoverLimit m s
  | .mcSwWrite m v be => Sys2Proof.Machine.execMcSwWrite m v be s
  | .swFreqWrite m v be => Sys2Proof.Machine.execSwFreqWrite m v be s
  | .swStep => Sys2Proof.Machine.execSwStep s
  | .phaseStepDone m => Sys2Proof.Machine.execPhaseStepDone m s
  | .relearn => Sys2Proof.Machine.execRelearn s
  | .refClrCounts => Sys2Proof.Machine.execRefClrCounts s
  | .synLossOfLock k atEdge pherr => Sys2Proof.Machine.execSynLossOfLock k atEdge pherr s
  | .synRelockAttempt k => Sys2Proof.Machine.execSynRelockAttempt k s
  | .noSpare m => Sys2Proof.Machine.execNoSpare m s
  | .handoverStart => Sys2Proof.Machine.execHandoverStart s
  | .handoverSwitchover => Sys2Proof.Machine.execHandoverSwitchover s
  | .handoverFail => Sys2Proof.Machine.execHandoverFail s
  | .synTestDone k pass band => Sys2Proof.Machine.execSynTestDone k pass band s
  | .synRetestTimer k => Sys2Proof.Machine.execSynRetestTimer k s
  | .retry => Sys2Proof.Machine.execRetry s
  | .synTest => Sys2Proof.Machine.execSynTest s
  | .synClrCounts => Sys2Proof.Machine.execSynClrCounts s
  | .mckCfgWrite j v be => Sys2Proof.Machine.execMckCfgWrite j v be s
  | .plsCfgWrite p v be => Sys2Proof.Machine.execPlsCfgWrite p v be s
  | .plsOfsWrite p v be => Sys2Proof.Machine.execPlsOfsWrite p v be s
  | .plsSourcePulse p err => Sys2Proof.Machine.execPlsSourcePulse p err s
  | .plsOutputPulse p => Sys2Proof.Machine.execPlsOutputPulse p s
  | .gpioEdge g level => Sys2Proof.Machine.execGpioEdge g level s
  | .gpioDebounced g => Sys2Proof.Machine.execGpioDebounced g s
  | .coReadback k a b => Sys2Proof.Machine.execCoReadback k a b s
  | .coClr => Sys2Proof.Machine.execCoClr s
  | .clrEdges => Sys2Proof.Machine.execClrEdges s
  | .seWrite => Sys2Proof.Machine.execSeWrite s
  | .seDel => Sys2Proof.Machine.execSeDel s
  | .scheduleFire => Sys2Proof.Machine.execScheduleFire s
  | .schedulePulseEnd g => Sys2Proof.Machine.execSchedulePulseEnd g s
  | .gpOutWrite v be => Sys2Proof.Machine.execGpOutWrite v be s
  | .coCfgWrite k v be => Sys2Proof.Machine.execCoCfgWrite k v be s
  | .pOpen n v be => Sys2Proof.Machine.execPOpen n v be s
  | .pData n w v be poison => Sys2Proof.Machine.execPData n w v be poison s
  | .pEnd n v be => Sys2Proof.Machine.execPEnd n v be s
  | .pEndAbort n => Sys2Proof.Machine.execPEndAbort n s
  | .advance n k => Sys2Proof.Machine.execAdvance n k s
  | .drop n => Sys2Proof.Machine.execDrop n s
  | .mark n => Sys2Proof.Machine.execMark n s
  | .rewind n => Sys2Proof.Machine.execRewind n s
  | .consumerReadStall n off => Sys2Proof.Machine.execConsumerReadStall n off s
  | .internalItemCommit n item => Sys2Proof.Machine.execInternalItemCommit n item s
  | .flush => Sys2Proof.Machine.execFlush s
  | .splClrCounts => Sys2Proof.Machine.execSplClrCounts s
  | .spoolEnWrite n v be => Sys2Proof.Machine.execSpoolEnWrite n v be s
  | .spoolResetDone n => Sys2Proof.Machine.execSpoolResetDone n s
  | .eventAssert src => Sys2Proof.Machine.execEventAssert src s
  | .moderationIntervalEnd g => Sys2Proof.Machine.execModerationIntervalEnd g s
  | .holdoffEnd g => Sys2Proof.Machine.execHoldoffEnd g s
  | .msixDeliver t => Sys2Proof.Machine.execMsixDeliver t s
  | .tgtEoi t v be => Sys2Proof.Machine.execTgtEoi t v be s
  | .force => Sys2Proof.Machine.execForce s
  | .clrPend => Sys2Proof.Machine.execClrPend s
  | .evCfgWrite src v be => Sys2Proof.Machine.execEvCfgWrite src v be s
  | .tgtCtrlWrite t v be => Sys2Proof.Machine.execTgtCtrlWrite t v be s
  | .pciePowerStateChange d l msix => Sys2Proof.Machine.execPciePowerStateChange d l msix s
  | .hello c body => Sys2Proof.Machine.execHello c body s
  | .proof c id body => Sys2Proof.Machine.execProof c id body s
  | .challengeLapse => Sys2Proof.Machine.execChallengeLapse s
  | .authBlockExpire => Sys2Proof.Machine.execAuthBlockExpire s
  | .sessionIdleTimeout => Sys2Proof.Machine.execSessionIdleTimeout s
  | .commandStart => Sys2Proof.Machine.execCommandStart s
  | .replySend => Sys2Proof.Machine.execReplySend s
  | .nop q => Sys2Proof.Machine.execNop q s
  | .regRead q => Sys2Proof.Machine.execRegRead q s
  | .regWrite q => Sys2Proof.Machine.execRegWrite q s
  | .bsOpen q => Sys2Proof.Machine.execBsOpen q s
  | .bsAdd q => Sys2Proof.Machine.execBsAdd q s
  | .bsCommit q => Sys2Proof.Machine.execBsCommit q s
  | .bsAbort q => Sys2Proof.Machine.execBsAbort q s
  | .change q => Sys2Proof.Machine.execChange q s
  | .schedWrite q => Sys2Proof.Machine.execSchedWrite q s
  | .schedDel q => Sys2Proof.Machine.execSchedDel q s
  | .enable q => Sys2Proof.Machine.execEnable q s
  | .release q => Sys2Proof.Machine.execRelease q s
  | .meterRead q => Sys2Proof.Machine.execMeterRead q s
  | .subscribe q => Sys2Proof.Machine.execSubscribe q s
  | .acceptStep q => Sys2Proof.Machine.execAcceptStep q s
  | .imgBegin q => Sys2Proof.Machine.execImgBegin q s
  | .imgData q => Sys2Proof.Machine.execImgData q s
  | .imgEnd q => Sys2Proof.Machine.execImgEnd q s
  | .imgAbort q => Sys2Proof.Machine.execImgAbort q s
  | .cfgReset q => Sys2Proof.Machine.execCfgReset q s
  | .fullReset q => Sys2Proof.Machine.execFullReset q s
  | .close q => Sys2Proof.Machine.execClose q s
  | .kill => Sys2Proof.Machine.execKill s
  | .sesClrCounts => Sys2Proof.Machine.execSesClrCounts s
  | .sesConfigWrite x v be => Sys2Proof.Machine.execSesConfigWrite x v be s
  | .registerWrite bar2 off v be poison => Sys2Proof.Machine.execRegisterWrite bar2 off v be poison s
  | .postedWriteApply => Sys2Proof.Machine.execPostedWriteApply s
  | .scrubPass bad => Sys2Proof.Machine.execScrubPass bad s
  | .lockHem => Sys2Proof.Machine.execLockHem s
  | .lockCo => Sys2Proof.Machine.execLockCo s
  | .lockVcap => Sys2Proof.Machine.execLockVcap s
  | .lockRoles => Sys2Proof.Machine.execLockRoles s
  | .lockKeys => Sys2Proof.Machine.execLockKeys s
  | .clrWerr => Sys2Proof.Machine.execClrWerr s
  | .glbResetFull => Sys2Proof.Machine.execGlbResetFull s
  | .glbResetCfg => Sys2Proof.Machine.execGlbResetCfg s
  | .cfgResetDecide loadMs => Sys2Proof.Machine.execCfgResetDecide loadMs s
  | .powerOn => Sys2Proof.Machine.execPowerOn s
  | .rstAssert => Sys2Proof.Machine.execRstAssert s
  | .resetRelease env => Sys2Proof.Machine.execResetRelease env s
  | .watchdogExpire => Sys2Proof.Machine.execWatchdogExpire s
  | .perstAssert => Sys2Proof.Machine.execPerstAssert s
  | .bareModeTimer => Sys2Proof.Machine.execBareModeTimer s
  | .ejectDebounced => Sys2Proof.Machine.execEjectDebounced s
  | .eject => Sys2Proof.Machine.execEject s
  | .rescan => Sys2Proof.Machine.execRescan s
  | .heartbeatReceive unitB bytes start => Sys2Proof.Machine.execHeartbeatReceive unitB bytes start s
  | .witnessDecision => Sys2Proof.Machine.execWitnessDecision s
  | .witnessFrameReceive bytes => Sys2Proof.Machine.execWitnessFrameReceive bytes s
  | .outputGateUpdate => Sys2Proof.Machine.execOutputGateUpdate s
  | .liningMessageReceive msg => Sys2Proof.Machine.execLiningMessageReceive msg s
  | .liningDown lockLost => Sys2Proof.Machine.execLiningDown lockLost s
  | .liningUp => Sys2Proof.Machine.execLiningUp s
  | .joinStart => Sys2Proof.Machine.execJoinStart s
  | .joinTimeout => Sys2Proof.Machine.execJoinTimeout s
  | .reversionWtrExpire => Sys2Proof.Machine.execReversionWtrExpire s
  | .claimTimeout => Sys2Proof.Machine.execClaimTimeout s
  | .yieldTimeout => Sys2Proof.Machine.execYieldTimeout s
  | .remirror => Sys2Proof.Machine.execRemirror s
  | .relinquish => Sys2Proof.Machine.execRelinquish s
  | .prClrCounts => Sys2Proof.Machine.execPrClrCounts s
  | .prCfgWrite v be => Sys2Proof.Machine.execPrCfgWrite v be s
  | .faultDetect code detail region => Sys2Proof.Machine.execFaultDetect code detail region s
  | .quietLaneRelease => Sys2Proof.Machine.execQuietLaneRelease s
  | .lockstepResetTimer => Sys2Proof.Machine.execLockstepResetTimer s
  | .tempBarEnd => Sys2Proof.Machine.execTempBarEnd s
  | .eccHourEnd ce => Sys2Proof.Machine.execEccHourEnd ce s
  | .digestCompare ok => Sys2Proof.Machine.execDigestCompare ok s
  | .clrLog => Sys2Proof.Machine.execClrLog s
  | .safClrCounts => Sys2Proof.Machine.execSafClrCounts s
  | .safInject v be => Sys2Proof.Machine.execSafInject v be s
  | .oeAllowPinChange level => Sys2Proof.Machine.execOeAllowPinChange level s
  | .pciePerstRelease => Sys2Proof.Machine.execPciePerstRelease s
  | .tjRisesThroughTempWarn tj => Sys2Proof.Machine.execTjRisesThroughTempWarn tj s
  | .rescanComplete => Sys2Proof.Machine.execRescanComplete s
  | .arpRequestReceive q => Sys2Proof.Machine.execArpRequestReceive q s
  | .membershipQueryReceive q => Sys2Proof.Machine.execMembershipQueryReceive q s
  | .pdelayReqReceive n msg => Sys2Proof.Machine.execPdelayReqReceive n msg s
  | .malformedMessage c bytes => Sys2Proof.Machine.execMalformedMessage c bytes s
  | .inPlaceRelock x => Sys2Proof.Machine.execInPlaceRelock x s

end Sys2Proof.Machine
end

