-- ==== Sys2Proof/Machine/Tick.lean ====
section
/-! DEFINITION. What a nanosecond does while nothing is commanded (log entry 1): the time bases run, the shapers gain or
lose credit, stalled reads run out. What is due at the present instant is released before (R329). -/

namespace Sys2Proof.Machine

/-- One nanosecond of TCXO time passes (R162, R198, R300). -/
def tick (s : State) : State := expireStalled (creditTick (tickAll { releaseDue s with now := s.now + 1 }))

end Sys2Proof.Machine
end

