-- ==== Sys2Proof/Safety.lean ====
section
/-! DEFINITION. The terms in which claims speak of a run: what the machine may never do, and when a command finds
nothing in its way. -/

namespace Sys2Proof

open Sys2Proof.Machine

/-- The witness grants at most one unit: never are both of its OE_ALLOW lines high (R419). -/
def oneGrant (w : Witness) : Bool := !(w.lineA && w.lineB)

/-- A PCIe write of a register with all byte enables finds nothing against it (R23, R361). -/
abbrev Accepted (s : State) (r : Reg) (i j : Nat) (v : Word) : Prop := writeCode .pcie s (addr r i j) v = .ok

/-- The state in which an accepted PCIe write acts: REG_WSTATUS reports it (R364). -/
def noted (s : State) (r : Reg) (i j : Nat) : State :=
  s.setGlb fun g => { g with wstatus := statusWord .ok 0 (addr r i j) }

/-- Writes of the spool windows are taken: the unit is no standby and no witness, and no mode refuses them (R308, R385,
R390, R455). -/
def windowsOpen (s : State) : Bool := !s.glb.passive && s.glb.mode != .bare && s.glb.mode != .quiet && !isWitness s

/-- The state after an accepted write of a spool window that left `s`: REG_WSTATUS reports it (R364). -/
def notedWindow (s : State) (n off : Nat) : State :=
  s.setGlb fun g => { g with wstatus := statusWord .ok 2 (4096 * n + off) }

/-- As `calm`, but an image may be arriving, its verdict not awaited. -/
def still (s : State) : Bool :=
  calm (s.setPl fun p => { p with xfer := none }) && match s.pl.xfer with | some x => x.verdict.isNone | none => true

/-- The end of a command finds nothing to do, whatever role the module plays: as `calm`, but bars may stand whose
condition stands, and a stop or a removal in order may be under way that has not finished. -/
def settled (s : State) : Bool :=
  s.fab.decided.isEmpty && s.ses.out.isEmpty && s.pl.xfer.isNone && !fb s .SES_MBOX_EN && s.saf.due.isEmpty && !s.shed.exhausted &&
    s.pr.outbox.isEmpty && (s.mix.sets.all fun e => e.2.state != .open || e.2.owner != none) &&
    (s.ref.tcxoFault || (Tbl.get? s.saf.bars 0x07).isNone) && (s.glb.cfgFault || (Tbl.get? s.saf.bars 0x14).isNone) &&
    !(s.saf.quiet == some .inOrder && lanesDone s && s.glb.gate) &&
    !(s.glb.mode == .removing && !s.pl.eject && !s.glb.ledEject && lanesDone s)

/-- Of the registers only event flags differ: what waits, is staged, posted or damaged is the same, and every register
that is no event register reads as before (R363). -/
def OnlyFlags (s t : State) : Prop :=
  t.rf = { s.rf with regs := t.rf.regs } ∧
  ∀ r i j, i < (desc r).n1 → j < (desc r).n2 → evtGroup r = none → rd t r i j = rd s r i j

end Sys2Proof
end

