-- ==== Sys2Proof/Certificates/Slice0/Obligations.lean ====
section
/-! DEFINITION. The statements for the provers. -/

open Sys2Proof Sys2Proof.Machine

/-- O1. An accepted FAB_CMD write of CLR_SLACK sets the lowest slack to 0xFFFF, one of CLR_COUNTS sets the fence-miss,
pace-fault and shed counts to 0; beside REG_WSTATUS nothing else changes. Spec: R59; spec/02 Table 02-18; R364. -/
def Obligations.FabricCountersClear : Prop :=
  ∀ s : State, calm s = true →
    (Accepted s .FAB_CMD 0 0 2 →
      exec .clrSlack s = .next ((noted s .FAB_CMD 0 0).setFab fun f => { f with slack := 0xFFFF })) ∧
    (Accepted s .FAB_CMD 0 0 1 →
      exec .fabClrCounts s =
        .next ((noted s .FAB_CMD 0 0).setFab fun f => { f with fenceMisses := 0, paceFaults := 0, shedCount := 0 }))

/-- O2. VCORE_SETTLED ends a ramp of 10 µs a step at the target and starts confirmation; VCORE_CONFIRMED after 8
stitches at pace with no request waiting goes to STEADY and raises VCORE_CHANGE; VCORE_HOLD_EXPIRE after the hold time
starts stepping down toward the selected step; VCORE_STEP_DOWN takes one step of 10 mV while the selected step is
lower, and at the selected step goes to STEADY and raises VCORE_CHANGE. Nothing else changes. The instant of a step
down (10 µs after the step before) is the model's reading of R51. Spec: R51; R52; R53; spec/02 Table 02-5. -/
def Obligations.VcoreTransitions : Prop :=
  ∀ s : State, calm s = true →
    (s.fab.vstate = .raising → s.fab.vAt + 10000 * ((s.fab.vtarget : Int) - s.fab.vfrom).natAbs ≤ s.now →
      exec .vcoreSettled s =
        .next (s.setFab fun f => { f with vstate := .confirming, vnow := f.vtarget, confirm := 0 })) ∧
    (s.fab.vstate = .confirming → 8 ≤ s.fab.confirm → s.fab.waiting = none →
      exec .vcoreConfirmed s =
        .next (raise (s.setFab fun f => { f with vstate := .steady, waiting := none, confirm := 0 }) .FAB_EVENT 8)) ∧
    (∀ t, s.fab.holdFrom = some t → s.fab.vstate = .hold → t + 1000000000 * fv s .FAB_VHOLD_HOLD_S ≤ s.now →
      exec .vcoreHoldExpire s =
        .next (s.setFab fun f => { f with
          vstate := .lowering, holdFrom := none, vfrom := f.vnow, vtarget := min f.vnow (selected s), vAt := s.now })) ∧
    (s.fab.vstate = .lowering → selected s + 1 < s.fab.vnow → s.fab.vAt + 10000 ≤ s.now →
      exec .vcoreStepDown s =
        .next (s.setFab fun f => { f with vnow := f.vnow - 1, vAt := s.now, vtarget := selected s })) ∧
    (s.fab.vstate = .lowering → s.fab.vnow ≤ selected s → s.fab.vnow < s.fab.vfrom →
      exec .vcoreStepDown s =
        .next (raise (s.setFab fun f => { f with vstate := .steady, vtarget := f.vnow }) .FAB_EVENT 8))

/-- O3. At rest (VCORE steady, no request waiting), for the register-path enable request at the head of the queue that
its object's rules allow and that adds work: if R40 fails it is refused with NO_CAPACITY and nothing is enabled; if
R40 holds and the present step suffices, the object's enable waits for its boundary with the next admission sequence
number. Either way the request leaves the queue, ADM_RESULT holds the code, the pending bit falls and ADM_DONE is
raised; nothing else changes. Spec: R40; R42; R44; R47; R53; spec/02 Table 02-5. -/
def Obligations.EnableRequestDecided : Prop :=
  ∀ (s : State) (o : ObjKind) (i c st tk : Nat),
    let r : AdmReq := { who := .regPath, kind := .enable o i c, stitch := st, tack := tk }
    let v := judge? s r
    calm s = true → s.fab.vstate = .steady → s.fab.waiting = none → headReq s = some r → held s 1 = false →
    v.code = .ok → v.added ≠ [] →
    ((allLoads s).any fun l => l.kind == o.num && l.index == i) = false →
    (10 * gEff s (vCap s) < 11 * (if v.only0 then v.d.all else v.d.low + max v.d.d0 (res0 s)) →
      exec .admissionDecide s = .next (raise (s.setFab fun f => { f with
        queue := f.queue.erase r, admPending := false, admResult := .noCapacity }) .FAB_EVENT 0x40)) ∧
    (11 * (if v.only0 then v.d.all else v.d.low + max v.d.d0 (res0 s)) ≤ 10 * gEff s (vCap s) →
      stepFor s v.d ≤ s.fab.vnow →
      exec .admissionDecide s = .next (raise { s with
        fab := { s.fab with
          queue := s.fab.queue.erase r, admSeq := s.fab.admSeq + 1, admPending := false, admResult := .ok }
        mix := { s.mix with
          enables := s.mix.enables ++
            [{ acceptedAt := s.now, obj := o, index := i, cls := c, on := true, seq := s.fab.admSeq + 1 }] } }
        .FAB_EVENT 0x40))

/-- O4. For every state and demand d, the selected step is at most Vcap; at every lower step 11 × (D123 + max(D0,
RES0)) exceeds 10 × G_N of that step; and unless the selected step is Vcap itself the work fits at it. Spec: R50; R40;
R34. -/
def Obligations.SelectedStepIsLowest : Prop :=
  ∀ (s : State) (d : Demand),
    let need := 11 * (d.d1 + d.d2 + d.d3 + max d.d0 (res0 s))
    stepFor s d ≤ vCap s ∧
    (∀ v, v < stepFor s d → 10 * gEff s v < need) ∧
    (stepFor s d < vCap s → need ≤ 10 * gEff s (stepFor s d))

/-- O5. An accepted write of FAB_VCAP (FAB_RESERVE0) while the controller is STEADY stores the cap (the class-0
reserve). If the step then selected is the present one nothing else changes; if it is higher, VCORE starts to rise to
it; if it is lower, the hold timer starts. Spec: R39; R49; R50; R52; R53; spec/02 Table 02-5; R364. -/
def Obligations.CapAndReserveWrites : Prop :=
  ∀ (s : State) (v : Word), calm s = true → s.rf.regs.wf = true → s.fab.vstate = .steady → held s 1 = false →
    s.glb.mode ≠ .starting →
    (Accepted s .FAB_VCAP 0 0 v →
      let t := wr (noted s .FAB_VCAP 0 0) .FAB_VCAP (kept .FAB_VCAP v)
      vCap t = fld v 0 7 ∧
      (selected t = s.fab.vnow → exec (.fabVcapWrite v 15) s = .next t) ∧
      (s.fab.vnow < selected t → exec (.fabVcapWrite v 15) s = .next (t.setFab fun f => { f with
        vstate := .raising, vfrom := f.vnow, vtarget := selected t, vAt := s.now, confirm := 0, holdFrom := none })) ∧
      (selected t < s.fab.vnow → exec (.fabVcapWrite v 15) s = .next (t.setFab fun f => { f with
        vstate := .hold, holdFrom := some s.now }))) ∧
    (Accepted s .FAB_RESERVE0 0 0 v →
      let t := wr (noted s .FAB_RESERVE0 0 0) .FAB_RESERVE0 (kept .FAB_RESERVE0 v)
      res0 t = fld v 0 22 ∧
      (selected t = s.fab.vnow → exec (.fabReserve0Write v 15) s = .next t) ∧
      (s.fab.vnow < selected t → exec (.fabReserve0Write v 15) s = .next (t.setFab fun f => { f with
        vstate := .raising, vfrom := f.vnow, vtarget := selected t, vAt := s.now, confirm := 0, holdFrom := none })) ∧
      (selected t < s.fab.vnow → exec (.fabReserve0Write v 15) s = .next (t.setFab fun f => { f with
        vstate := .hold, holdFrom := some s.now })))

/-- O6. An accepted write of CLR_RX, CLR_TX, CLR_HANK, CG_CMD CLR_COUNTS, HOST_CMD CLR_COUNTS, CLR_SLIPS or PORT_CMD
CLR_COUNTS sets the counters that its register table names to 0 (LEVEL_MIN to 0x7FFF); beside REG_WSTATUS nothing else
changes. Spec: R126; R151; R167; R197; spec/06 Table 06-5; spec/07 Table 07-6; spec/08 Table 08-10; R364. -/
def Obligations.StreamAndLaneCountersClear : Prop :=
  ∀ s : State, calm s = true →
    (Accepted s .STR_CMD 0 0 16 →
      let r := fv s .STR_CMD_ARG_INDEX
      let z (l : Leg) : Leg := { l with pkts := 0, lost := 0, used := 0 }
      exec .clrRx s = .next (setRx (noted s .STR_CMD 0 0) r { rxOf s r with
        legA := z (rxOf s r).legA, legB := z (rxOf s r).legB, late := 0, early := 0, dup := 0, malformed := 0
        underruns := 0, missing := 0, refilled := 0, levelMin := 0x7FFF })) ∧
    (Accepted s .STR_CMD 0 0 32 →
      let t := fv s .STR_CMD_ARG_INDEX
      exec .clrTx s = .next (setTx (noted s .STR_CMD 0 0) t { txOf s t with pktsA := 0, pktsB := 0, late := 0 })) ∧
    (Accepted s .STR_CMD 0 0 64 →
      exec .clrHank s = .next ((noted s .STR_CMD 0 0).setStr fun y => { y with
        hank := Tbl.del y.hank (fv s .STR_CMD_ARG_INDEX) })) ∧
    (∀ g : Fin 8, Accepted s .CG_CMD g 0 1 →
      exec (.cgClrCounts g) s = .next (setGroup (noted s .CG_CMD g 0) g { groupOf s g with
        stops := 0, glitches := 0, rateFaults := 0, slips := 0 })) ∧
    (Accepted s .HOST_CMD 0 0 1 →
      exec .hostClrCounts s = .next ((noted s .HOST_CMD 0 0).setLn fun l => { l with
        hostBad := 0, hostUnder := 0, hostOver := 0 })) ∧
    (Accepted s .RB_CMD 0 0 16 →
      let m := fv s .RB_CMD_ARG_INDEX
      exec .clrSlips s = .next (setSeam (noted s .RB_CMD 0 0) m { seamOf s m with slips := 0 })) ∧
    (∀ n : Fin 5, Accepted s .PORT_CMD n 0 4 →
      exec (.portClrCounts n) s = .next (setPort (noted s .PORT_CMD n 0) n { portOf s n with cnt := {} }))

/-- O7. An accepted write of TB_CMD, REF_CMD, SYN_CMD, SPL_CMD, SES_CMD or SAF_CMD CLR_COUNTS, of CLR_LOG or of
CLR_WERR sets what its register table names to 0 (CLR_LOG empties the fault log and its next entry is 0; CLR_WERR
drops REG_WERROR and its count); beside REG_WSTATUS nothing else changes. Spec: R225; R249; R270; R309; R354; R458;
R365; spec/16 Table 16-6; spec/19 Table 19-8; R364. -/
def Obligations.UnitCountersClear : Prop :=
  ∀ s : State, calm s = true →
    (Accepted s .TB_CMD 0 0 2 →
      let k := fv s .TB_CMD_ARG_TB
      exec .tbClrCounts s = .next ((noted s .TB_CMD 0 0).setTb fun t => { t with
        tbs := Tbl.put t.tbs k { tbOf s k with annTimeouts := 0, outliers := 0 } })) ∧
    (Accepted s .REF_CMD 0 0 1 →
      let m := fv s .REF_CMD_ARG_MC
      exec .refClrCounts s = .next (setMc (noted s .REF_CMD 0 0) m { mcOf s m with switches := 0, slips := 0 })) ∧
    (Accepted s .SYN_CMD 0 0 1 →
      let k := fv s .SYN_CMD_ARG_SY
      exec .synClrCounts s = .next (setSy (noted s .SYN_CMD 0 0) k { syOf s k with lols := 0, relocks := 0, testFails := 0 })) ∧
    (Accepted s .SPL_CMD 0 0 2 →
      let n := fv s .SPL_CMD_ARG_INDEX
      exec .splClrCounts s = .next (setSp (noted s .SPL_CMD 0 0) n { spOf s n with drops := 0, poisoned := 0, unreadLost := 0 })) ∧
    (Accepted s .SES_CMD 0 0 2 →
      exec .sesClrCounts s = .next { noted s .SES_CMD 0 0 with ses := { s.ses with
        authFails := 0, malformed := 0, overrun := 0
        ses := Tbl.mapV s.ses.ses fun _ x => { x with dups := 0, stales := 0, cmds := 0 } } }) ∧
    (Accepted s .SAF_CMD 0 0 2 →
      exec .safClrCounts s = .next ((noted s .SAF_CMD 0 0).setSaf fun y => { y with
        ue := 0, ceHour := 0, passes := 0, mismatches := 0, lost := 0 })) ∧
    (Accepted s .SAF_CMD 0 0 1 →
      exec .clrLog s = .next ((noted s .SAF_CMD 0 0).setSaf fun y => { y with log := [], next := 0 })) ∧
    (Accepted s .GLB_CMD 0 0 1 →
      exec .clrWerr s = .next ((noted s .GLB_CMD 0 0).setGlb fun g => { g with werror := none, werrCnt := 0 }))

/-- O8. An accepted METER_EN, VOX_EN, SEAM_EN, SC_EN, RX_EN or TX_EN, or COMMIT of a basting set, puts a request of
the register path at the end of the admission queue with the present stitch and tack, and the pending bit rises; a
committed set turns DECIDING. Beside REG_WSTATUS nothing else changes. Spec: R43; R44; R81; R104; R108; R115; R197;
R364. -/
def Obligations.RegisterPathRequests : Prop :=
  ∀ s : State, calm s = true →
    let asked (t : State) (kind : AdmKind) : State := t.setFab fun f => { f with
      admPending := true
      queue := f.queue ++ [{ who := .regPath, kind := kind, stitch := s.mix.stitch, tack := tack s 0 }] }
    let d := noted s .DYN_CMD 0 0
    let r := noted s .RB_CMD 0 0
    let x := noted s .STR_CMD 0 0
    (Accepted s .DYN_CMD 0 0 8 →
      exec .meterEn s = .next (asked d (.enable .meter (fv s .DYN_CMD_ARG_INDEX) (fv s .DYN_CMD_ARG_CLASS)))) ∧
    (Accepted s .DYN_CMD 0 0 32 →
      exec .voxEn s = .next (asked d (.enable .vox (fv s .DYN_CMD_ARG_INDEX) (fv s .DYN_CMD_ARG_CLASS)))) ∧
    (Accepted s .RB_CMD 0 0 1 →
      exec .seamEn s = .next (asked r (.enable .seam (fv s .RB_CMD_ARG_INDEX) (fv s .RB_CMD_ARG_CLASS)))) ∧
    (Accepted s .RB_CMD 0 0 4 →
      exec .scEn s = .next (asked r (.enable .conv (fv s .RB_CMD_ARG_INDEX) (fv s .RB_CMD_ARG_CLASS)))) ∧
    (Accepted s .STR_CMD 0 0 1 →
      exec .rxEn s = .next (asked x (.enable .rx (fv s .STR_CMD_ARG_INDEX) (fv s .STR_CMD_ARG_CLASS)))) ∧
    (Accepted s .STR_CMD 0 0 4 →
      exec .txEn s = .next (asked x (.enable .tx (fv s .STR_CMD_ARG_INDEX) (fv s .STR_CMD_ARG_CLASS)))) ∧
    (∀ k : Fin 8, Accepted s .BS_CMD k 0 4 →
      exec (.bsCmdCommit k) s =
        .next (asked (putSet (noted s .BS_CMD k 0) k { setOf s k with state := .deciding }) (.commit k none)))

/-- O9. An accepted METER_DIS, VOX_DIS, SEAM_DIS, SC_DIS, RX_DIS or TX_DIS adds one disable of that object, accepted
now, to the changes that wait for their boundary; beside REG_WSTATUS nothing else changes. Spec: R14; R42; R104; R108;
R115; R122; R197; R364. -/
def Obligations.DisablesWait : Prop :=
  ∀ s : State, calm s = true →
    let off (t : State) (o : ObjKind) (i : Nat) : State := t.setMix fun m => { m with
      enables := m.enables ++ [{ acceptedAt := s.now, obj := o, index := i, cls := 0, on := false }] }
    let d := noted s .DYN_CMD 0 0
    let r := noted s .RB_CMD 0 0
    let x := noted s .STR_CMD 0 0
    (Accepted s .DYN_CMD 0 0 16 → exec .meterDis s = .next (off d .meter (fv s .DYN_CMD_ARG_INDEX))) ∧
    (Accepted s .DYN_CMD 0 0 64 → exec .voxDis s = .next (off d .vox (fv s .DYN_CMD_ARG_INDEX))) ∧
    (Accepted s .RB_CMD 0 0 2 → exec .seamDis s = .next (off r .seam (fv s .RB_CMD_ARG_INDEX))) ∧
    (Accepted s .RB_CMD 0 0 8 → exec .scDis s = .next (off r .conv (fv s .RB_CMD_ARG_INDEX))) ∧
    (Accepted s .STR_CMD 0 0 2 → exec .rxDis s = .next (off x .rx (fv s .STR_CMD_ARG_INDEX))) ∧
    (Accepted s .STR_CMD 0 0 8 → exec .txDis s = .next (off x .tx (fv s .STR_CMD_ARG_INDEX)))

/-- O10. An accepted OPEN makes the set open, empty and owned by the register path; ADD appends the staged record;
ABORT frees the set and drops its records. Beside REG_WSTATUS nothing else changes. Spec: R78; R79; R81; spec/03 Table
03-3; R364. -/
def Obligations.BastingSetCommands : Prop :=
  ∀ (s : State) (k : Fin 8), calm s = true →
    (Accepted s .BS_CMD k 0 1 → exec (.bsCmdOpen k) s = .next (putSet (noted s .BS_CMD k 0) k { setOf s k with
      state := .open, owner := some .regPath, recs := [], created := [] })) ∧
    (Accepted s .BS_CMD k 0 2 → exec (.bsCmdAdd k) s = .next (putSet (noted s .BS_CMD k 0) k { setOf s k with
      recs := (setOf s k).recs ++ [⟨rd s .BS_REC k 0, rd s .BS_REC k 1, rd s .BS_REC k 2, rd s .BS_REC k 3⟩] })) ∧
    (Accepted s .BS_CMD k 0 8 → exec (.bsCmdAbort k) s = .next (putSet (noted s .BS_CMD k 0) k { setOf s k with
      state := .free, owner := none, recs := [], created := [], seq := 0 }))

/-- O11. An accepted write of SLOT_MAP, HOST_MAP or a transmit channel map entry, and of RX word 1 while the stream is
enabled or HK word 0 while a member is enabled, stores the value; the value in force stays the one before, and the new
one waits with the instant of its acceptance. RX word 1 of a stream that is off and HK word 0 of a hank without
enabled members are in force at once. Beside REG_WSTATUS nothing else changes. Spec: R14; R134; R150; R183; R184;
R192; R364. -/
def Obligations.DeferredMapWrites : Prop :=
  ∀ (s : State) (v : Word), calm s = true → s.rf.regs.wf = true →
    let later (t : State) (r : Reg) (i j : Nat) : State := { wr t r (kept r v) i j with rf := { (wr t r (kept r v) i j).rf with
      force := Tbl.put s.rf.force (addr r i j) (rdF s r i j)
      waits := s.rf.waits ++ [(s.now, addr r i j, kept r v)] } }
    (∀ (lane : Fin 64) (slot : Fin 32), Accepted s .SLOT_MAP lane slot v →
      let t := later (noted s .SLOT_MAP lane slot) .SLOT_MAP lane slot
      exec (.slotMapWrite lane slot v 15) s = .next t ∧ rdF t .SLOT_MAP lane slot = rdF s .SLOT_MAP lane slot ∧
        rd t .SLOT_MAP lane slot = kept .SLOT_MAP v) ∧
    (∀ c : Fin 64, Accepted s .HOST_MAP c 0 v →
      let t := later (noted s .HOST_MAP c 0) .HOST_MAP c 0
      exec (.hostMapWrite c v 15) s = .next t ∧ rdF t .HOST_MAP c = rdF s .HOST_MAP c) ∧
    (∀ (k : Fin 256) (c : Fin 64), Accepted s .TX_MAP k c v →
      let t := later (noted s .TX_MAP k c) .TX_MAP k c
      exec (.txChannelMapWrite k c v 15) s = .next t ∧ rdF t .TX_MAP k c = rdF s .TX_MAP k c) ∧
    (∀ k : Fin 256, Accepted s .RX_W1 k 0 v →
      let t := later (noted s .RX_W1 k 0) .RX_W1 k 0
      (objOn s .rx k = true →
        exec (.rxOffsetWrite k v 15) s = .next t ∧ rdF t .RX_W1 k = rdF s .RX_W1 k) ∧
      (objOn s .rx k = false →
        exec (.rxOffsetWrite k v 15) s = .next (wr (noted s .RX_W1 k 0) .RX_W1 (kept .RX_W1 v) k))) ∧
    (∀ h : Fin 64, Accepted s .HK_W0 h 0 v →
      let t := later (noted s .HK_W0 h 0) .HK_W0 h 0
      (hankMembers s h ≠ 0 →
        exec (.hankOffsetWrite h v 15) s = .next t ∧ rdF t .HK_W0 h = rdF s .HK_W0 h) ∧
      (hankMembers s h = 0 →
        exec (.hankOffsetWrite h v 15) s = .next (wr (noted s .HK_W0 h 0) .HK_W0 (kept .HK_W0 v) h)))

/-- O12. An accepted HEM_CLR asks for the hem's mute to end (from the next boundary on; a request that already waits keeps
its instant), CLR_HOLD for the meter's hold
to be taken again, CLR_CLIP sets the meter's clip count to 0, CLR_EDGES the pin's edge count, and CO_CLR takes the
control output out of HELD to OFF with its pins released until the next evaluation. Beside REG_WSTATUS nothing else
changes. Spec: R103; R106; R107; R283; R290; spec/12 Table 12-3; R364. -/
def Obligations.HoldsAndEdgesClear : Prop :=
  ∀ s : State, calm s = true →
    let x := fv s .DYN_CMD_ARG_INDEX
    let c := fv s .CIO_CMD_ARG_INDEX
    (Accepted s .DYN_CMD 0 0 1 →
      exec .hemClr s = .next (setHem (noted s .DYN_CMD 0 0) x { hemOf s x with
        clearReq := some ((hemOf s x).clearReq.getD s.now) })) ∧
    (Accepted s .DYN_CMD 0 0 2 →
      exec .clrHold s = .next (setMeter (noted s .DYN_CMD 0 0) x { meterOf s x with clrReq := true })) ∧
    (Accepted s .DYN_CMD 0 0 4 →
      exec .clrClip s = .next (setMeter (noted s .DYN_CMD 0 0) x { meterOf s x with clips := 0 })) ∧
    (Accepted s .CIO_CMD 0 0 1 →
      exec .clrEdges s = .next (setPin (noted s .CIO_CMD 0 0) c { pinOf s c with edges := 0 })) ∧
    (Accepted s .CIO_CMD 0 0 2 →
      (coOf s c).state = .held ∧
      exec .coClr s = .next (setCo (noted s .CIO_CMD 0 0) c { coOf s c with
        state := .off, was := false, ready := false, cmdA := false, cmdB := false }))

/-- O13. On a unit that is alone, an accepted lock command (LOCK_HEM 0, LOCK_CO 1, LOCK_VCAP 2, LOCK_ROLES 3,
LOCK_KEYS 4) whose bit is 0 sets that bit of LOCKS and raises GLB_EVENT LOCK_CHANGED; one whose bit is already 1
changes nothing. Beside REG_WSTATUS nothing else changes. Spec: R374; R375; spec/16 Table 16-6; R364. -/
def Obligations.LocksSet : Prop :=
  ∀ s : State, calm s = true →
    let n := noted s .GLB_CMD 0 0
    let locked (b : Nat) : State :=
      if s.glb.locks ||| 2 ^ b = s.glb.locks then n
      else raise (n.setGlb fun g => { g with locks := g.locks ||| 2 ^ b }) .GLB_EVENT 4
    (Accepted s .GLB_CMD 0 0 0x10 → exec .lockHem s = .next (locked 0)) ∧
    (Accepted s .GLB_CMD 0 0 0x20 → exec .lockCo s = .next (locked 1)) ∧
    (Accepted s .GLB_CMD 0 0 0x40 → exec .lockVcap s = .next (locked 2)) ∧
    (Accepted s .GLB_CMD 0 0 0x80 → exec .lockRoles s = .next (locked 3)) ∧
    (Accepted s .GLB_CMD 0 0 0x100 → exec .lockKeys s = .next (locked 4))

/-- O14. An accepted SNAP latches seconds, nanoseconds, fraction, total nanoseconds and step generation of the time
base; RELEARN drops what the media clock has learned; SW_STEP begins, from the phase reached now, a phase step of
round(SW_PS × 256 × f_DCO / 10^12) fine steps, with their sign, that takes one MCK cycle a fine step; RETRY and TEST put
the synthesizer in TEST with no failure counted. Beside REG_WSTATUS nothing else changes. Spec: R222; R247; R249; R251;
R259; R262; R270; R364. -/
def Obligations.ClockCommands : Prop :=
  ∀ s : State, calm s = true →
    let k := fv s .TB_CMD_ARG_TB
    let m := fv s .REF_CMD_ARG_MC
    let y := fv s .SYN_CMD_ARG_SY
    (Accepted s .TB_CMD 0 0 1 →
      exec .snap s = .next ((noted s .TB_CMD 0 0).setTb fun t => { t with tbs := Tbl.put t.tbs k { tbOf s k with
        snap := { sec := tns s k / 1000000000, ns := tns s k % 1000000000, frac := tbFrac s k, tns := tns s k,
                  gen := (tbOf s k).stepGen } } })) ∧
    (Accepted s .REF_CMD 0 0 2 →
      exec .relearn s = .next (setMc (noted s .REF_CMD 0 0) m { mcOf s m with
        recs := [], lockedSec := 0, ageValid := false, age := 0, c1 := none, c2 := none, c3 := none })) ∧
    (Accepted s .REF_CMD 0 0 4 →
      let steps := rdiv ((rd s .MC_SW_PS m).toInt * 256 * dcoHz s m) 1000000000000
      let mck := if ff s .MC_CTRL_FAMILY m = 1 then 22579200 else 24576000
      let u := mcRunOn (noted s .REF_CMD 0 0) m
      exec .swStep s = .next (setMc u m { mcOf u m with
        stepEnd := some (s.now + steps.natAbs * 1000000000 / mck), stepN := steps, stepFrom := s.now, stepDone := 0 })) ∧
    (Accepted s .SYN_CMD 0 0 4 →
      exec .retry s = .next (setSy (noted s .SYN_CMD 0 0) y { syOf s y with state := .test, retest := false, fails := 0 })) ∧
    (Accepted s .SYN_CMD 0 0 2 →
      exec .synTest s = .next (setSy (noted s .SYN_CMD 0 0) y { syOf s y with state := .test, retest := false, fails := 0 }))

/-- O15. An accepted MAC_ADD puts the staged address with its ports as a static entry into the way that already holds
it, else into a way that is free or only learned; MAC_DEL takes the static part of the entry away, and the entry with
it if nothing else holds it; FLUSH_LEARNED leaves static and own entries only; GATE_APPLY makes the administrative
gates pending, GATE_CANCEL drops the pending ones. Beside REG_WSTATUS nothing else changes. Spec: R156; R157; R165;
R167; spec/07 Table 07-6; R364. -/
def Obligations.SwitchCommands : Prop :=
  ∀ s : State, calm s = true →
    let n := noted s .SW_CMD 0 0
    let vid := fld (rd s .SW_MACW 0) 16 12
    let mac := fld (rd s .SW_MACW 0) 0 16 * 2 ^ 32 + (rd s .SW_MACW 1).toNat
    (Accepted s .SW_CMD 0 0 2 →
      ∃ i, macWay s vid mac = some i ∧
        let own := match Tbl.get? s.sw.mac i with
          | some e => if e.vid = vid ∧ e.mac = mac then e.owners else 0
          | none => 0
        exec .macAdd s = .next (n.setSw fun w => { w with
          mac := Tbl.put w.mac i { vid := vid, mac := mac, fixed := some (fld (rd s .SW_MACW 2) 0 5), owners := own } })) ∧
    (Accepted s .SW_CMD 0 0 4 →
      ∃ i, macFind s vid mac = some i ∧
        exec .macDel s = .next (n.setSw fun w => { w with
          mac := Tbl.keep (Tbl.upd w.mac i fun e => { e with fixed := none }) fun j e =>
            !(j == i && e.fixed.isNone && e.owners == 0 && e.learned.isNone) })) ∧
    (Accepted s .SW_CMD 0 0 1 →
      exec .flushLearned s = .next (n.setSw fun w => { w with
        mac := Tbl.keep (Tbl.mapV w.mac fun _ e => { e with learned := none }) fun _ e =>
          e.fixed.isSome || e.owners != 0 })) ∧
    (∀ p : Fin 5, Accepted s .PORT_CMD p 0 1 →
      exec (.gateApply p) s = .next (setPort (noted s .PORT_CMD p 0) p { portOf s p with pend := some (adminGate s p) })) ∧
    (∀ p : Fin 5, Accepted s .PORT_CMD p 0 2 →
      exec (.gateCancel p) s = .next (setPort (noted s .PORT_CMD p 0) p { portOf s p with pend := none }))

/-- O16. CG_STOP, when two nominal periods have passed without a frame start, takes a running or rate-faulted group to
STOPPED, counts STOPS and raises LN_EVENT. CG_ANCHOR takes a STARTING group that has been stable for STABLE frames to
RUNNING at its rate, with phase 0, to be anchored at the boundary that follows; CG_RATE_SETTLED marks a rate-faulted one
whose accepted rate has held for 100 ms as settled and changes nothing else, and the boundary that follows takes it to
RUNNING at that rate in the same way. CG_STOP_DONE takes a STOPPING group whose 64 frames have gone (and that EN does
not start again) to OFF. Lanes, bridges and event flags apart nothing changes, and no other group does. Spec: R136;
R138; R141; R144; R145; R147; spec/06 Table 06-6. -/
def Obligations.ClockGroupTransitions : Prop :=
  ∀ (s : State) (g : Fin 8), calm s = true → s.rf.regs.wf = true →
    let x := groupOf s g
    let near (t : State) : Prop :=
      t = { s with rf := t.rf, evt := t.evt, ln := t.ln, rb := t.rb } ∧ OnlyFlags s t ∧
      (∀ h, h ≠ g.val → groupOf t h = groupOf s h) ∧ bit (rd t .LN_EVENT) 0 = true
    let runs (rate : Nat) : Group := { x with
      state := .running, curRate := rate, phase := 0, play := .refade, playOut := .rampIn, fresh := true, settled := false
      glitchRun := 0, offRun := 0, okFrom := none }
    (x.state = .running ∨ x.state = .rateFault → stopDue s g = true →
      ∃ t, exec (.cgStop g) s = .next t ∧ near t ∧ bit (rd t .LN_EVENT) 1 = true ∧
        groupOf t g = { x with
          state := .stopped, play := x.play.stop, playOut := .zero, okFrom := none, settled := false, fresh := false
          glitchRun := 0, offRun := 0, stable := 0, stops := satInc 0xFFFF x.stops }) ∧
    (x.state = .starting → fv s .CG_TIMING_STABLE g ≤ x.stable →
      ∃ t, exec (.cgAnchor g) s = .next t ∧ near t ∧ groupOf t g = runs x.stableRate) ∧
    (∀ t0, x.state = .rateFault → x.okFrom = some t0 → t0 + 100000000 ≤ s.now →
      let t := setGroup s g { x with settled := true }
      exec (.cgRateSettled g) s = .next t ∧ groupOf (cgReturns t) g = runs x.okRate) ∧
    (x.state = .stopping → x.playOut = .zero → x.stopLeft = 0 → fb s .CG_CTRL_EN g = false →
      ∃ t, exec (.cgStopDone g) s = .next t ∧ near t ∧
        groupOf t g = { x with state := .off, play := .zero, playOut := .zero, lastAt := none, wire := [] })

/-- O17. For an enabled seam with no trigger of this stitch: TRAIN_END after TRAIN ms in TRAINING, REANCHOR (a tack more
than JUMP from its prediction or a fill more than 4 samples from its set point, on a unit that decides for itself) and
INPUT_STOP (its input reported stopped, or 64 nominal periods without it) in RUNNING, the ratio measured 20 ms after
input returned in HOLD (on a unit that decides for itself) and RECOVER after TRAIN ms in range in RANGE each become the
seam's trigger, and nothing else changes; a REANCHOR within both bounds and an INPUT_STOP of an input that has not
stopped change nothing. Taken at the boundary, they lead to RUNNING (TRAIN_END with a ratio within 2 %, a ratio within
100 ppm of the held one, RECOVER), to a re-anchor that counts SLIPS (REANCHOR within 2 %), to HOLD with the ratio held
(INPUT_STOP), to TRAINING (any other measured ratio) and to RANGE (TRAIN_END or REANCHOR outside 2 %). Spec: R117; R120;
R121; R122; spec/05 Table 05-2. -/
def Obligations.SeamEventsAct : Prop :=
  ∀ (s : State) (m : Fin 512) (r jump fill : Nat), calm s = true →
    let x := seamOf s m
    let kept (t : SeamTrig) : State := setSeam s m { x with trig := some t }
    let acts (t : SeamTrig) : Seam := seamOf (seamAct (kept t) m) m
    x.enabled = true → x.trig = none →
    (∀ t0, x.state = .training → x.trainFrom = some t0 → t0 + 1000000 * fv s .RB_SEAM_CFG_TRAIN ≤ s.now →
      exec (.seamTrainEnd m) s = .next (kept .trainEnd) ∧
      acts .trainEnd = (if seamWithin s m x.ratio 20
        then { x with state := .running, play := .rampIn, trainFrom := none, inRangeFrom := none }
        else { x with state := .range, play := x.play.stop, trainFrom := none, inRangeFrom := none })) ∧
    (x.state = .running →
      (mcMirrors s = false → 10 * fv s .RB_SEAM_CFG_JUMP < jump ∨ 4 < fill →
        exec (.seamReanchor ⟨m, jump, fill⟩) s = .next (kept .jump)) ∧
      (jump ≤ 10 * fv s .RB_SEAM_CFG_JUMP → fill ≤ 4 → exec (.seamReanchor ⟨m, jump, fill⟩) s = .next s) ∧
      (seamWithin s m x.ratio 20 = true → acts .jump = { x with play := .refade, slips := satInc 0xFFFF x.slips }) ∧
      (seamWithin s m x.ratio 20 = false →
        acts .jump = { x with state := .range, play := x.play.stop, trainFrom := none, inRangeFrom := none })) ∧
    (x.state = .running →
      (seamStopped s m = true → exec (.seamInputStop m) s = .next (kept .stop)) ∧
      (seamStopped s m = false → exec (.seamInputStop m) s = .next s) ∧
      acts .stop = { x with state := .hold, held := x.ratio, play := x.play.stop, trainFrom := none, inRangeFrom := none }) ∧
    (∀ t0, x.state = .hold → x.trainFrom = some t0 → t0 + 20000000 ≤ s.now →
      (mcMirrors s = false → exec (.seamRatioMeasured m r) s = .next (kept (.ratio r))) ∧
      acts (.ratio r) = (if ((r : Int) - x.held).natAbs * 10000 ≤ x.held
        then { x with state := .running, ratio := r, play := .rampIn, trainFrom := none, inRangeFrom := none }
        else { x with state := .training, ratio := r, trainFrom := some s.now })) ∧
    (∀ t0, x.state = .range → x.inRangeFrom = some t0 → t0 + 1000000 * fv s .RB_SEAM_CFG_TRAIN ≤ s.now →
      exec (.seamRangeRecover m) s = .next (kept .recover) ∧
      acts .recover = { x with state := .running, play := .rampIn, trainFrom := none, inRangeFrom := none })

/-- O18. A frame start that ends a frame of a STARTING group: with the right number of BCK edges and a period at an
accepted rate that is the rate of the frames before (or the first), the stable count grows by one and holds that rate;
with a wrong number of edges or no accepted rate it is 0. The instant is kept, the place in the output block moves on,
what a frame sent carries is zeros on each output lane, and beside lanes and what the pins send nothing changes. An edge
of a group's own FSY pin starts no frame, and nothing changes, where the group takes its frames from FRAME or starts
them on the other edge. Spec: R128; R130; R140; R142; R143; R144; R136. -/
def Obligations.StartingGroupCountsFrames : Prop :=
  ∀ (s : State) (g : Fin 8) (f : LaneFrame) (t0 : Nat), calm s = true →
    let x := groupOf s g
    let right := f.bck = cgSlots s g * slotBits (fv s .CG_FMT_WIDTH g)
    let near (t : State) (n r : Nat) : Prop :=
      groupOf t g = { x with
        stable := n, stableRate := r, lastAt := some s.now, pos := if x.fresh then x.pos else x.pos + 1, wire := (groupOf t g).wire } ∧
      ((groupOf t g).wire = x.wire ∨ ∀ w ∈ (groupOf t g).wire, w.2 = laneOut s g w.1 fun _ => 0) ∧
      (∀ h, h ≠ g.val → groupOf t h = groupOf s h) ∧
      t = { s with ln := t.ln, emitted := t.emitted }
    f.shared = false →
    (fb s .CG_FMT_FSY_SRC g = true ∨ fb s .CG_FMT_FSY_POL g ≠ f.falling → exec (.laneFrameStart g f) s = .next s) ∧
    (fb s .CG_FMT_FSY_SRC g = false → fb s .CG_FMT_FSY_POL g = f.falling → x.state = .starting → x.lastAt = some t0 →
    (∀ r, right → acceptedRate s g f.period = some r → x.stable = 0 ∨ x.stableRate = r →
      ∃ t, exec (.laneFrameStart g f) s = .next t ∧ near t (x.stable + 1) r) ∧
    (¬ right ∨ acceptedRate s g f.period = none →
      ∃ t, exec (.laneFrameStart g f) s = .next t ∧ near t 0 x.stableRate))

/-- O19. An accepted write of CG_CTRL stores it. After start-up and while the lane block is not held, EN 1 takes an OFF
group to STARTING with no stable frame; EN 0 takes a group that is neither OFF nor STOPPING to
STOPPING, whose blocks fade and whose 64 frames count from now; each raises GROUP_CHANGE. EN 1 at a group that is not
OFF, EN 0 at one that is OFF or STOPPING, and EN 1 during start-up or while the lane block is held only store the value.
Spec: R144; R145; R147; spec/06 Table 06-6; R364. -/
def Obligations.GroupEnableWrites : Prop :=
  ∀ (s : State) (g : Fin 8) (v : Word), calm s = true → Accepted s .CG_CTRL g 0 v →
    let x := groupOf s g
    let w := wr (noted s .CG_CTRL g 0) .CG_CTRL (kept .CG_CTRL v) g
    let moved (y : Group) : State := hitAttached (raise (setGroup w g y) .LN_EVENT 1) .ATT_CG g 0
    (bit v 0 = true → x.state ≠ .off ∨ held s 5 = true ∨ s.glb.mode = .starting → exec (.cgEnWrite g v 15) s = .next w) ∧
    (bit v 0 = false → x.state = .off ∨ x.state = .stopping → exec (.cgEnWrite g v 15) s = .next w) ∧
    (bit v 0 = true → held s 5 = false → s.glb.mode ≠ .starting → x.state = .off →
      exec (.cgEnWrite g v 15) s =
        .next (moved { x with state := .starting, stable := 0, lastAt := none, play := .zero, playOut := .zero })) ∧
    (bit v 0 = false → x.state ≠ .off → x.state ≠ .stopping →
      exec (.cgEnWrite g v 15) s = .next (moved { x with
        state := .stopping, play := x.play.stop, playOut := if x.fresh then .zero else x.playOut.stop, fresh := false
        settled := false, glitchRun := 0, offRun := 0, stopLeft := 64, stopAt := s.now, okFrom := none }))

/-- O20. Outside reset, QUIET and the safe state of the switch: an accepted PORT_CTRL write that sets EN takes a
disabled port to NEGOTIATING; LINK_UP takes a negotiating port to UP with the speed of its mode and no fault;
NEGOTIATION_FAULT keeps the fault of a negotiating port. LINK_DOWN of a port that is UP, and a write that clears EN,
discard its queued frames, counted in TX_FLUSH, and take it to NEGOTIATING or DISABLED. Every change of state raises
SW_EVENT LINK; nothing else changes. Spec: R152; R153; spec/07 Table 07-1; spec/07 Table 07-2; R364. -/
def Obligations.PortLinkStates : Prop :=
  ∀ (s : State) (n : Fin 4), calm s = true →
    let moved (t : State) (p : Port) : State := raise (setPort t n p) .SW_EVENT 1
    (∀ v, Accepted s .PORT_CTRL n 0 v →
      let w := wr (noted s .PORT_CTRL n 0) .PORT_CTRL (kept .PORT_CTRL v) n
      (fb s .PORT_CTRL_EN n = false → bit v 31 = true → held s 6 = false → s.glb.mode ≠ .quiet →
        (portOf s n).state = .disabled →
        exec (.portEnWrite n v 15) s = .next (moved w { portOf s n with state := .negotiating })) ∧
      (fb s .PORT_CTRL_EN n = true → bit v 31 = false → (portOf s n).state ≠ .disabled →
        exec (.portEnWrite n v 15) s =
          .next (moved (flushPort w n) { portOf (flushPort w n) n with state := .disabled }))) ∧
    (∀ kx fec, held s 6 = false → s.glb.mode ≠ .quiet → s.glb.inReset = false → (portOf s n).state = .negotiating →
      exec (.linkUp n kx fec) s = .next (moved s { portOf s n with
        state := .up, speed := speedOf s n kx, fault := 0
        fec := fec && fv s .PORT_CTRL_MODE n == 0 && fb s .PORT_CTRL_FEC_ADV n && speedOf s n kx == 2 })) ∧
    (∀ f, (portOf s n).state = .negotiating →
      exec (.negotiationFault n f) s = .next (setPort s n { portOf s n with fault := f })) ∧
    ((portOf s n).state = .up →
      exec (.linkDown n) s = .next (moved (flushPort s n) { portOf (flushPort s n) n with state := .negotiating }))

/-- O21. At a port that is UP, or at E: a frame with a bad FCS is counted in RX_FCS alone. A good frame counts frames
and octets; one of no valid VLAN, not let in by ACCEPT, of a VLAN the port is no member of, longer than MAXFRAME, to a
reserved address or a Delay message on a P2P port is counted in RX_DROP. Any other frame has its source learned; a
peer-delay message from a port is queued for E, one that enters at E goes nowhere, any other frame is queued on every
port of its mask that is E or UP. Nothing else changes. Spec: R152; R153; R154; R155; R157; R158; R208. -/
def Obligations.FrameIngressForwards : Prop :=
  ∀ (s : State) (n : Fin 5) (f0 : Frame), calm s = true → (n.val < 4 → (portOf s n).state = .up) →
    let cnt (g : PortCnt → PortCnt) (t : State) : State := setPort t n { portOf t n with cnt := g (portOf t n).cnt }
    let seen := cnt (fun c => { c with rxFrames := sat64 c.rxFrames 1, rxOctets := sat64 c.rxOctets f0.len }) s
    let f := classify s n f0
    (f0.fcsOk = false → exec (.frameIngress n f0) s = .next (cnt (fun c => { c with rxFcs := inc32 c.rxFcs }) s)) ∧
    (f0.fcsOk = true → vlanOf s f.vid = none →
      exec (.frameIngress n f0) s = .next (cnt (fun c => { c with rxDrop := inc32 c.rxDrop }) seen)) ∧
    (∀ w, f0.fcsOk = true → vlanOf s f.vid = some w →
      let bad := !acceptsTag s n f0 || fld w (8 + n) 1 == 0 || decide (fv s .SW_CFG_MAXFRAME < f.len) ||
        reservedDst f.dst || p2pDrops s n f
      let learned := macLearn seen f.vid f.src n
      let qf : QFrame := { frame := f, fromPort := n, inAt := s.now }
      (bad = true → exec (.frameIngress n f0) s = .next (cnt (fun c => { c with rxDrop := inc32 c.rxDrop }) seen)) ∧
      (bad = false → isPdelay f = true → n.val < 4 → exec (.frameIngress n f0) s = .next (enqueueFrame learned 4 qf)) ∧
      (bad = false → isPdelay f = true → n.val = 4 → exec (.frameIngress n f0) s = .next learned) ∧
      (bad = false → isPdelay f = false →
        exec (.frameIngress n f0) s = .next (forEach (bitsOf (forwardMask learned n f w) 5 0) learned fun p t =>
          if p < 4 ∧ (portOf t p).state ≠ .up then t else enqueueFrame t p qf)))

/-- O22. On a port that is UP and not sending, with no head frame that fits no window: the first frame of the highest
queue that is not empty, open and in credit is taken out if it fits what is left of its window, sent with its tag as the
VLAN says, counted, and the port is busy for its wire time; a frame that is no PTP message and of no stream changes
nothing else. If it does not fit, nothing is sent and nothing changes. At E the first frame of the highest queue that is
not empty is handed over unshaped, with its tag as the VLAN says. Spec: R155; R158; R161; R162; R164. -/
def Obligations.FrameEgressSends : Prop :=
  ∀ (s : State) (n : Fin 5) (q : Nat) (qf : QFrame) (rest : List QFrame), calm s = true →
    queueAt s n q = qf :: rest → qf.frame.ptp = none → qf.frame.tx = none →
    let cnt (f : Frame) (t : State) : State := setPort t n { portOf t n with cnt := { (portOf t n).cnt with
      txFrames := sat64 (portOf t n).cnt.txFrames 1, txOctets := sat64 (portOf t n).cnt.txOctets f.len } }
    (n.val < 4 → (portOf s n).state = .up → (portOf s n).busyUntil ≤ s.now →
      (∀ k g l, k < 8 → queueAt s n k = g :: l → fitsNever s n k (egressForm s n g.frame).len = false) →
      q < 8 → creditOk s n q = true → (windowNow s n q).isSome = true →
      (∀ k g l, q < k → k < 8 → queueAt s n k = g :: l → creditOk s n k = false ∨ windowNow s n k = none) →
      let f := egressForm s n qf.frame
      let u := cnt f (setQueue s n q rest)
      (fitsNow s n q f.len = true → exec (.frameEgress n) s = .next (emit (setPort u n { portOf u n with
        busyUntil := s.now + wireNs s n f.len, sending := q }) (.frame n f))) ∧
      (fitsNow s n q f.len = false → exec (.frameEgress n) s = .next s)) ∧
    (n.val = 4 → q < 8 → (∀ k, q < k → k < 8 → queueAt s n k = []) →
      let f := egressForm s n qf.frame
      exec (.frameEgress n) s = .next (emit (cnt f (setQueue s n q rest)) (.toEngine f)))

/-- O23. MAC_AGE_OUT removes exactly the entries that are only learned and not refreshed for AGEING seconds.
GATE_ENTRY_CHANGE of an enabled gate puts the list at the entry its time implies. GATE_CONFIG_TAKEOVER, once the
pending configuration may take over, makes it the operational one at the entry its time implies and leaves none
pending. Nothing else changes. Spec: R156; R163; R165; R166. -/
def Obligations.AgeingAndGates : Prop :=
  ∀ (s : State) (n : Fin 4), calm s = true →
    let place (g : GateCfg) : Nat := (entryAt (cycleList g) (gateOffset g (tns s g.tb)) 0).1
    (exec .macAgeOut s = .next (s.setSw fun w => { w with mac := Tbl.keep w.mac fun _ e => match e.learnedOnly with
      | some t => decide (s.now < t + 1000000000 * fv s .SW_CFG_AGEING)
      | none => true })) ∧
    ((portOf s n).oper.en = true →
      exec (.gateEntryChange n) s = .next (setPort s n { portOf s n with cur := place (portOf s n).oper })) ∧
    (∀ g, (portOf s n).pend = some g → takeoverDue s n = true →
      exec (.gateConfigTakeover n) s = .next (setPort s n { portOf s n with oper := g, pend := none, cur := place g }))

/-- O24. RX_TIMEOUT of a RUNNING stream that accepted no packet for 500 ms takes it to WAITING and raises STR_EVENT
STATE, and the enabled seams on that stream hear that their input stopped; LEG_LIVE_TIMEOUT of a live leg without an
accepted packet for 100 ms ends its LIVE and raises STR_EVENT LEG. Each may hit the stream's object source; nothing else
changes. Spec: R121; R182; R187; R312; spec/08 Table 08-2. -/
def Obligations.StreamTimeouts : Prop :=
  ∀ (s : State) (k : Fin 256), calm s = true →
    let x := rxOf s k
    (x.state = .running → x.lastAcc + 500000000 ≤ s.now →
      exec (.rxTimeout k) s = .next (forEach (seamsOnRx s k)
        (hitAttached (raise (setRx s k { x with state := .waiting }) .STR_EVENT 1) .ATT_RX k 2)
        fun m t => seamTrig t m .stop)) ∧
    (∀ t, x.legA.lastAcc = some t → x.legA.live = true → t + 100000000 ≤ s.now →
      exec (.legLiveTimeout k false) s = .next (hitAttached (raise (setRx s k { x with
        legA := { x.legA with live := false } }) .STR_EVENT 0x10) .ATT_RX k 3)) ∧
    (∀ t, x.legB.lastAcc = some t → x.legB.live = true → t + 100000000 ≤ s.now →
      exec (.legLiveTimeout k true) s = .next (hitAttached (raise (setRx s k { x with
        legB := { x.legB with live := false } }) .STR_EVENT 0x10) .ATT_RX k 3))

/-- O25. PACKET_RECEIVE: a packet that matches no enabled stream counts NO_MATCH; a malformed one counts MALFORMED on
its stream. A well-formed one is counted on its leg (and anchors an ACR stream); then one whose first position lies
before the window counts LATE and raises STR_EVENT LATE, one whose last position lies beyond it counts EARLY, one that
its leg delivered already (by sequence number and position) counts DUP. A packet in the window that is new and brings a
position without data counts USED on its leg and makes the leg live; of the ring, positions with data keep them and the
packet's other positions get its samples. Spec: R176; R177; R179; R180; R187; R189; R197. -/
def Obligations.PacketJudged : Prop :=
  ∀ (s : State) (p : Pkt), calm s = true →
    (matchStream s p = none →
      exec (.packetReceive p) s = .next (s.setStr fun y => { y with noMatch := inc32 y.noMatch })) ∧
    (∀ r b, matchStream s p = some (r, b) →
      let x := rxOf s r
      (pktBad s r p = true →
        exec (.packetReceive p) s = .next (setRx s r { x with malformed := inc32 x.malformed })) ∧
      (pktBad s r p = false →
        let bits := if fmtIsAaf (rxFmt s r) then 8 else 16
        let u := acrAnchor (setRx s r (setLeg x b ((legOf x b).count bits (pktSeq p)))) r p
        let y := rxOf u r
        let n := pktSamples s r p
        let pos := pktPos u r p
        let first := readPos u r + (perStitch (rxRate s r) : Nat)
        let beyond := readPos u r * 48000 + ((y.off + 1536) * rateHz (rxRate s r) : Nat)
        (pos < first → exec (.packetReceive p) s =
          .next (hitAttached (raise (setRx u r { y with late := inc32 y.late }) .STR_EVENT 2) .ATT_RX r 1)) ∧
        (first ≤ pos → beyond ≤ (pos + n - 1) * 48000 →
          exec (.packetReceive p) s = .next (setRx u r { y with early := inc32 y.early })) ∧
        (first ≤ pos → (pos + n - 1) * 48000 < beyond → (legOf y b).got.contains (pktSeq p, pos.toNat) = true →
          exec (.packetReceive p) s = .next (setRx u r { y with dup := inc32 y.dup })) ∧
        (first ≤ pos → (pos + n - 1) * 48000 < beyond → (legOf y b).got.contains (pktSeq p, pos.toNat) = false →
          y.merged.contains (pktSeq p, pos.toNat) = false → allHeld y pos.toNat n = false →
          ∃ t, exec (.packetReceive p) s = .next t ∧ (legOf (rxOf t r) b).used = inc32 (legOf y b).used ∧
            (legOf (rxOf t r) b).live = true ∧
            (∀ q, Tbl.get? (rxOf t r).ring q = (match Tbl.get? y.ring q with
              | some f => some f
              | none => if pos.toNat ≤ q then (pktFrames s r p)[q - pos.toNat]? else none)) ∧
            t = { s with rf := t.rf, evt := t.evt, str := t.str } ∧ OnlyFlags s t)))

/-- O26. For a transmit stream that is not OFF, no earlier run of which still ends, and whose next packet begins before
its end and has all its samples, TX_PACKET_START forms the packet, queues its frame on each of the legs that the unit's
role at the packet's last sample gives it (it passes the checks of port E, which learns its source, and on a port that
is not UP it is counted in TX_FLUSH instead), moves on to the next packet index, drops the samples sent, and the stream
is RUNNING. Of a disabled stream whose last run still ends, it sends that run's packet, by the definition the run had;
the run that has no further packet is gone, and the stream turns OFF unless it was enabled again. Spec: R153; R157;
R191; R193; R194; R195; R434. -/
def Obligations.TransmitPacketQueued : Prop :=
  ∀ (s : State) (k : Fin 256) (i : Nat) (fs : List (List Int)), calm s = true →
    let ready (d : State) : Prop :=
      let x := txOf d k
      let len := txLen d k
      x.state ≠ .off ∧ x.next = some i ∧ 0 < len ∧ fs = (List.range len).filterMap (fun j => Tbl.get? x.buf (i * len + j)) ∧
        fs.length = len ∧ ∀ e, x.until_ = some e → i * len < e
    let after (d : State) : Tx := { txOf d k with
      state := .running, next := some (i + 1), buf := Tbl.keep (txOf d k).buf fun p _ => decide ((i + 1) * txLen d k ≤ p) }
    let sends (d t : State) : State :=
      let legs := txLegsIf d k (if (i + 1) * txLen d k ≤ (txOf d k).roleAt then (txOf d k).wasOne else s.glb.sendOne)
      forEach legs t fun l t => txQueue t l.2 (txFrame d k i l.1 l.2 (txBody d k i l.1 fs))
    (ready s → (∀ e ∈ s.str.tails, e.1 % 256 ≠ k.val) →
      exec (.txPacketStart k) s = .next (sends s (setTx s k (after s)))) ∧
    (∀ (n : Nat) (e : TxTail), (txOf s k).next = none → s.str.tails = [(n, e)] → n % 256 = k.val →
      let d := asTail s k e
      let t := sends d s
      let gone := t.setStr fun y => { y with tails := [] }
      ready d → exec (.txPacketStart k) s = .next (
        if (e.run.until_.any fun p => decide (p ≤ (i + 1) * txLen d k)) = true then
          (if (txOf s k).enabled = true then gone else setTx gone k { txOf s k with state := .off })
        else t.setStr fun y => { y with tails := [(n, { e with run := after d })] }))

/-- O27. MEMBERSHIP_REPORT_SEND sends every report that is due, in order, in the older form while an older querier is
present; one whose port is not UP is counted in TX_FLUSH of that port instead, one of another compatibility mode than its
port is in now is dropped, and the others are kept. An IGMPv1 query only raises SW_EVENT IGMP_OLD. Any other query adds
reports, each for the port asked and due within the maximum response time, one of them for every group asked for that an
enabled stream joined through that port; an IGMPv2 or MLDv1 one starts the port's compatibility time, and what waits there
in the other mode is cancelled. An ARP request or neighbor
solicitation on the session VLAN of a served port for the own address is answered to its sender. Nothing else changes.
The 260 s of the compatibility time and the instant of an answer are the model's (log entries 36 and 35). Spec: R159;
R160; R332. -/
def Obligations.MembershipAndAddresses : Prop :=
  ∀ s : State, calm s = true →
    (let due := s.sw.reports.filter fun r => decide (r.due ≤ s.now)
     let kept := due.filter fun r => r.old == olderMode s r.port r.v6
     ∃ t, exec .membershipReportSend s = .next t ∧ t = { s with sw := t.sw, emitted := t.emitted } ∧
       t.sw = { s.sw with ports := t.sw.ports, reports := s.sw.reports.filter fun r => decide (s.now < r.due) } ∧
       t.emitted = s.emitted ++ (kept.filter fun r => (portOf s r.port).state == .up).map (fun r =>
         .membership r.port r.v6 r.group r.src r.leave
           (decide (s.now < if r.v6 then (portOf s r.port).oldMld else (portOf s r.port).oldIgmp))) ∧
       ∀ n, portOf t n = { portOf s n with cnt := { (portOf s n).cnt with
         flush := Nat.repeat inc32 (kept.filter fun r => r.port == n && (portOf s n).state != .up).length
           (portOf s n).cnt.flush } }) ∧
    (∀ q : MemQuery, q.port < 4 → q.v6 = false → q.version = 1 →
      exec (.membershipQueryReceive q) s = .next (raise s .SW_EVENT 8)) ∧
    (∀ q : MemQuery, q.port < 4 → (q.v6 = true ∨ q.version ≠ 1) →
      ∃ t rs, exec (.membershipQueryReceive q) s = .next t ∧
        t = { s with freeCtr := t.freeCtr, sw := t.sw } ∧
        t.sw.reports = (s.sw.reports.filter fun r =>
          r.port != q.port || r.v6 != q.v6 || r.old == olderMode t q.port q.v6) ++ rs ∧
        (∀ r ∈ rs, s.now ≤ r.due ∧ r.due ≤ s.now + q.maxNs ∧ r.port = q.port ∧ r.v6 = q.v6 ∧ r.leave = false ∧
          r.old = olderMode t q.port q.v6) ∧
        (∀ k x b mac group src, (k, x) ∈ s.str.rx → x.enabled = true → (legPorts s k b).contains q.port = true →
          legGroup s k b = some (mac, some (group, src)) → fb s .RX_W2_IPV6 k = q.v6 → queryAsks q group src = true →
          ∃ r ∈ rs, r.group = group ∧ r.src = src) ∧
        (q.v6 = true → q.version = 1 → (portOf t q.port).oldMld = s.now + 260000000000) ∧
        (q.v6 = false → q.version = 2 → (portOf t q.port).oldIgmp = s.now + 260000000000)) ∧
    (∀ r : ArpReq, sesServed s = true → sesPort s r.port = true → r.vid = sesVid s →
      r.target ≠ 0 → r.target = localIp s r.v6 →
      exec (.arpRequestReceive r) s = .next { s with emitted := s.emitted ++ [.arp r.port r.v6 r.mac r.ip] })

/-- O28. NA_RELEASE frees a chain that was muted for a NaN or an infinity once 4096 blocks were clean with no trigger
left and no such value in its coefficient set: the cause is cleared, the mute ramp runs to unity over 16 stitches and
DYN_EVENT NA is raised. METER_HOLD_EXPIRE of an enabled meter whose hold time of HOLD x 500 ms has passed makes the
held peak the last peak and begins the time again. VOX_ON switches an enabled detector on after ATTACK blocks at or
above the threshold (at least one), VOX_OFF switches it off after 8 x HANG blocks below (at least one). Where the
condition does not hold nothing changes. Spec: R97; R106; R109. -/
def Obligations.WatchersSettle : Prop :=
  ∀ s : State, calm s = true →
    (∀ k : Fin 2048, let c := chainOf s k
      exec (.naRelease k) s = .next (
        if c.naCause ≠ 0 ∧ 4096 ≤ c.naRun ∧ c.naTrig = 0 ∧ c.csNon = false then
          raise (setChain s k { c with naCause := 0, mute := c.mute.to 16384 16 }) .DYN_EVENT 1 else s)) ∧
    (∀ (m : Fin 4096) (t : Nat), let x := meterOf s m
      x.holdFrom = some t → exec (.meterHoldExpire m) s = .next (
        if x.enabled = true ∧ ff s .MTR_W0_HOLD m ≠ 0 ∧ t + 500000000 * ff s .MTR_W0_HOLD m ≤ s.now then
          setMeter s m { x with hold := x.peak, holdFrom := some s.now } else s)) ∧
    (∀ v : Fin 256, let x := voxOf s v
      exec (.voxOn v) s = .next (
        if x.enabled = true ∧ x.on = false ∧ max 1 (ff s .VOX_W0_ATTACK v) ≤ x.above then
          setVox s v { x with on := true, below := 0 } else s) ∧
      exec (.voxOff v) s = .next (
        if x.enabled = true ∧ x.on = true ∧ max 1 (8 * ff s .VOX_W1_HANG v) ≤ x.below then
          setVox s v { x with on := false, above := 0 } else s))

/-- O29. For a one-step Sync of the selected master on a port on which an end-instance time base listens (one of another
sender changes nothing), the offset is the receive instant
less the master time and the mean path delay. TRACKING or ACQUIRING: below JTHR (16 units to the nanosecond) the
offset is slewed, the estimate and the slew rate being free values, the rate never above MAX_SLEW; ACQUIRING becomes
TRACKING. At or above JTHR the first and second in a row are counted in OUTLIERS and change nothing else; the third
enters JUMP_HELD: the slew stops, JUMP_GEN advances modulo 256, PEND is the offset negated in whole nanoseconds,
STATE_CHANGE and TB_JUMP are raised. JUMP_HELD: PEND follows every offset; the third in a row below JTHR returns to
TRACKING and slews. While a step is committed an offset only updates PEND. The first offset with INIT_AUTO is
committed as a step. Nothing else changes. Spec: R211; R212; R213; R214; R215. -/
def Obligations.SyncOffsetsJudged : Prop :=
  ∀ (s : State) (k port : Fin 4) (sender seq : Nat) (origin corr : Int),
    calm s = true → held s 2 = false → tbListens s k port = true → fv s .TB_CTRL_ROLE k ≠ 2 →
    (fromMaster s k port sender = false → exec (.ptpMessageReceive k port (.sync sender seq false origin corr)) s = .next s) ∧
    (fromMaster s k port sender = true →
    let b := tbOf s k
    let t2t1 := rxStamp s k port - (origin + corr)
    let o := t2t1 - b.mpd
    let x : TimeBase := { b with t2t1 := t2t1, ofs := o, initDone := b.state == .acquiring || b.initDone }
    let big := 16 * fv s .TB_JTHR_JTHR k ≤ o.natAbs
    let changed (y : TimeBase) := raise (setTbk s k y) .TB_EVENT (2 ^ (8 + k.val))
    let slewed (t : State) : State := { setTbk t k { tbOf t k with
      freq := (Config.servoFreq s.freeCtr).toInt, slewLeft := -o * 16000000000
      slewRate := (Config.slewRate s.freeCtr).toNat % (fv s .TB_SERVO_MAX_SLEW k * 256000 + 1) } with freeCtr := s.freeCtr + 1 }
    let next (t : State) := exec (.ptpMessageReceive k port (.sync sender seq false origin corr)) s = .next t
    let held_ : TimeBase := { x with
      slewLeft := 0, slewRate := 0, outRun := 0, okRun := 0, jumpGen := (b.jumpGen + 1) % 256, pend := pendOf o
      heldSince := some s.now, state := .jumpHeld }
    (b.committed.isSome = true → next (setTbk s k { x with initDone := b.initDone, pend := pendOf o })) ∧
    (b.committed = none →
      (b.state = .tracking ∨ b.state = .acquiring ∧ (b.initDone = true ∨ fb s .TB_CTRL_INIT_AUTO k = false) →
        (big → b.outRun < 2 →
          next (setTbk s k { x with outRun := b.outRun + 1, outliers := satInc 0xFFFF b.outliers })) ∧
        (big → 2 ≤ b.outRun → next (raise (changed held_) .TB_EVENT (2 ^ k.val)))) ∧
      (b.state = .tracking → ¬big → next (slewed (setTbk s k { x with outRun := 0 }))) ∧
      (b.state = .acquiring → (b.initDone = true ∨ fb s .TB_CTRL_INIT_AUTO k = false) → ¬big →
        next (slewed (changed { x with outRun := 0, state := .tracking }))) ∧
      (b.state = .acquiring → b.initDone = false → fb s .TB_CTRL_INIT_AUTO k = true → s.mix.audioOn = true →
        next (setTbk s k { x with pend := pendOf o, committed := some s.now, after := .tracking })) ∧
      (b.state = .jumpHeld →
        (big → next (setTbk s k { x with pend := pendOf o, okRun := 0 })) ∧
        (¬big → b.okRun < 2 → next (setTbk s k { x with pend := pendOf o, okRun := b.okRun + 1 })) ∧
        (¬big → 2 ≤ b.okRun →
          next (slewed (changed { x with pend := 0, okRun := 0, heldSince := none, state := .tracking }))))))

/-- O30. ANNOUNCE_TIMEOUT of an enabled time base counts, stops the slew, drops the grandmaster and goes to HOLDING from
ACQUIRING, TRACKING and JUMP_HELD with nothing committed, whose pending step it drops; no other time base changes.
PERSIST_EXPIRE commits the held step of JUMP_HELD where AUTO_STEP is set and PERSIST seconds have passed, else does
nothing. PTP_MASTER_SEND of a MASTER whose port is UP sends the Announce and the Sync that are due, a two-step Sync with
its Follow_Up, its own data set, as its registers give it now, becoming the grandmaster's; and a time base sends the
delay request that is due on each of its ports (the row is the model's choice for that, log entry 71); each message has
its number, the next instants are set, and where nothing is due nothing changes. PDELAY_SEND sends the request due on an
UP P2P port and keeps its number and time-stamp; PDELAY_REQ_RECEIVE there answers a request with both time-stamps and
takes LINK_DELAY from an answer to the last request, its own two time-stamps those of the MAC; an answer to no such
request changes nothing. Spec: R153; R199; R200; R201; R204; R208; R211; R213; R215; R225; spec/09 Table 09-4. -/
def Obligations.TimeBaseTimers : Prop :=
  ∀ s : State, calm s = true → held s 2 = false →
    (∀ k : Fin 4, let b := tbOf s k
      annOver s k = true → fb s .TB_CTRL_EN k = true →
      (b.state = .acquiring ∨ b.state = .tracking ∨ b.state = .jumpHeld ∧ b.committed = none) →
      ∃ t, exec (.announceTimeout k) s = .next t ∧
        tbOf t k = { b with
          annAt := some s.now, annTimeouts := satInc 0xFFFF b.annTimeouts, slewLeft := 0, slewRate := 0, gm := none
          state := .holding, after := (if b.state = .acquiring then .holding else b.after)
          pend := (if b.state = .jumpHeld then 0 else b.pend)
          heldSince := (if b.state = .jumpHeld then none else b.heldSince) } ∧
        (∀ j, j ≠ k.val → tbOf t j = tbOf s j) ∧
        t = { s with rf := t.rf, evt := t.evt, tb := { s.tb with tbs := t.tb.tbs } } ∧ OnlyFlags s t) ∧
    (∀ (k : Fin 4) (h : Nat), let b := tbOf s k
      b.heldSince = some h → s.mix.audioOn = true →
      exec (.persistExpire k) s = .next (
        if b.state = .jumpHeld ∧ b.committed = none ∧ h + 1000000000 * fv s .TB_SERVO_PERSIST k ≤ s.now ∧
            fb s .TB_SERVO_AUTO_STEP k = true then
          setTbk s k { b with committed := some s.now, after := .tracking } else s)) ∧
    (∀ k : Fin 4, let b := tbOf s k
      let p := fv s .TB_CTRL_PORT k
      let leads : Prop := b.state = .master ∧ (portOf s p).state = .up
      let ann : Prop := leads ∧ b.nextAnn ≤ s.now
      let sync : Prop := leads ∧ b.nextSync ≤ s.now
      let asks := delayPorts s k
      let two := fb s .TB_CTRL_TWO_STEP k
      let time : Int := (tb16 s k : Int) + txCorr s p
      let h := ptpTx s k p b.syncNo
      let sent : List Emission :=
        (if ann then [.ptp k (ptpTx s k p b.annNo) (.announce (ownDs s k))] else []) ++
        (if sync then .ptp k h (.sync two (if two then 0 else time) 0 0 (ownDs s k)) ::
          (if two then [.ptp k h (.followUp time 0 0)] else []) else []) ++
        asks.map fun p => .ptp k (ptpTx s k p b.delayNo) (if isP2p s k then .pdelayReq else .delayReq)
      let own := ownDs s k
      let u := if (ann ∨ sync) ∧ b.gm.map (·.id) ≠ some own.id then raise s .TB_EVENT (2 ^ (12 + k.val)) else s
      let c : TimeBase := { b with
        gm := (if ann ∨ sync then some own else b.gm)
        gmUtc := (if ann ∨ sync then own.utc.getD b.gmUtc else b.gmUtc)
        nextAnn := (if ann then s.now + logNs (fv s .TB_INTV_LOG_ANN k) else b.nextAnn)
        annNo := (if ann then (b.annNo + 1) % 65536 else b.annNo)
        nextSync := (if sync then s.now + logNs (fv s .TB_INTV_LOG_SYNC k) else b.nextSync)
        syncNo := (if sync then (b.syncNo + 1) % 65536 else b.syncNo)
        nextDelay := (if asks = [] then b.nextDelay else s.now + logNs (fv s .TB_INTV_LOG_DELAY k))
        delayNo := (if asks = [] then b.delayNo else (b.delayNo + 1) % 65536)
        asked := asks.foldl (fun t p => Tbl.put t p (b.delayNo, (tb16 s k : Int) + txCorr s p)) b.asked }
      (ann ∨ sync ∨ asks ≠ [] → exec (.ptpMasterSend k) s = .next { setTbk u k c with emitted := s.emitted ++ sent }) ∧
      (¬ann → ¬sync → asks = [] → exec (.ptpMasterSend k) s = .next s)) ∧
    (∀ n : Fin 4, tcMode s n = 2 → (portOf s n).state = .up →
      let out : Int := (16 * s.now + txCorr s n : Nat)
      let in_ : Int := (16 * s.now : Nat) - (rxCorr s n : Nat)
      let seq := match Tbl.get? s.tb.pdelayAsked n with
        | some (q, _) => (q + 1) % 65536
        | none => 0
      (Tbl.getD s.tb.nextPdelay n 0 ≤ s.now → exec (.pdelaySend n) s = .next { s with
        tb := { s.tb with
          nextPdelay := Tbl.put s.tb.nextPdelay n (s.now + pdelayNs s)
          pdelayAsked := Tbl.put s.tb.pdelayAsked n (seq, out) }
        emitted := s.emitted ++ [.pdelayReq n (fv s .TC_CTRL_P2P_DOMAIN) seq] }) ∧
      ∀ q : Nat,
        exec (.pdelayReqReceive n ⟨q, none⟩) s = .next { s with
          emitted := s.emitted ++ [.pdelayResp n (fv s .TC_CTRL_P2P_DOMAIN) q in_ out] } ∧
        ∀ t2 t3 : Int,
          (∀ t1, Tbl.get? s.tb.pdelayAsked n = some (q, t1) →
            let d := (clampI 0 0xFFFFFFFF (((in_ - t1) - (t3 - t2)) / 2)).toNat
            exec (.pdelayReqReceive n ⟨q, some (t2, t3)⟩) s =
              .next { s with tb := { s.tb with linkDelay := Tbl.put s.tb.linkDelay n d } }) ∧
          ((∀ t1, Tbl.get? s.tb.pdelayAsked n ≠ some (q, t1)) →
            exec (.pdelayReqReceive n ⟨q, some (t2, t3)⟩) s = .next s))

/-- O31. REF_EDGE: a phase jump above JUMP takes QUALIFYING and QUALIFIED back to the start of QUALIFYING, otherwise a
usable source leaves NO_SIGNAL for QUALIFYING. REF_SIGNAL_LOSS takes a source that is no longer usable to NO_SIGNAL.
QTIME_EXPIRE takes a source that was QUALIFYING and usable for QTIME to QUALIFIED. QUAL_WINDOW_END puts the waiting
reference registers into force, takes the measured offset, and: beyond HARD restarts QUALIFYING, is counted in
QUALIFIED, where the third in a row without a vote against the TCXO disqualifies; beyond SOFT only it raises the
drift; within both it ends both; within HARD leaves DISQUALIFIED for QUALIFYING. Entry into QUALIFIED and its end
raise their flags. Then every media clock whose loop is closed follows Table 10-4 (mcEvalAll). Nothing else changes.
Spec: R230; R233; R234; R235; R249; spec/10 Table 10-2. -/
def Obligations.SourcesQualify : Prop :=
  ∀ (s : State) (k : Fin 21), calm s = true → k ≠ 20 →
    let x := slotOf s k
    let begun (x : RefSlot) : RefSlot := { x with q := .qualifying, timer := s.now, drift := false, voted := false, hardRun := 0 }
    let into (s : State) (x : RefSlot) := mcEvalAll (setSlot s k x)
    let lost (s : State) (x : RefSlot) (was : QState) := mcEvalAll (raiseIf (was == .qualified) (setSlot s k x) .REF_EVENT 0x10)
    (∀ dev : Int, ¬ (4 ≤ k.val ∧ k.val < 8) →
      let y : RefSlot := if k.val < 4 then { x with lastEdge := some s.now } else x
      let u := if k.val < 4 then setSlot s k y else s
      (ff s .QL_W1_JUMP k < dev.natAbs → x.q = .qualifying ∨ x.q = .qualified →
        exec (.refEdge k dev) s = .next (lost u (begun y) x.q)) ∧
      (dev.natAbs ≤ ff s .QL_W1_JUMP k → x.q = .noSignal → slotUsable u k = true →
        exec (.refEdge k dev) s = .next (into u (begun y))) ∧
      (dev.natAbs ≤ ff s .QL_W1_JUMP k → x.q ≠ .noSignal → exec (.refEdge k dev) s = .next (mcEvalAll u))) ∧
    (x.q ≠ .noSignal → slotUsable s k = false → exec (.refSignalLoss k) s =
      .next (lost s { x with q := .noSignal, drift := false, voted := false, hardRun := 0 } x.q)) ∧
    (qtimeOver s k = true → exec (.qtimeExpire k) s =
      .next (mcEvalAll (raise (setSlot s k { x with q := .qualified, qualAt := s.now }) .REF_EVENT 8))) ∧
    (∀ fofs : Int,
      let u := landWindow s
      let y : RefSlot := { x with fofs := fofs }
      let hard := ff u .QL_W0_HARD k * 800 < fofs.natAbs
      let soft := ff u .QL_W0_SOFT k * 800 < fofs.natAbs
      let next (t : State) := exec (.qualWindowEnd k fofs) s = .next (mcEvalAll (tcxoWatch t))
      (x.q = .noSignal → next (setSlot u k y)) ∧
      (x.q = .qualifying → next (setSlot u k (if hard then begun y else y))) ∧
      (x.q = .qualified → hard → x.hardRun < 2 → next (setSlot u k { y with hardRun := x.hardRun + 1 })) ∧
      (x.q = .qualified → hard → 2 ≤ x.hardRun → voteAgainstTcxo (setSlot u k y) k = false →
        next (raise (setSlot u k { y with
          q := .disqualified, drift := false, voted := false, hardRun := 0, disquals := satInc 0xFFFF x.disquals }) .REF_EVENT 0x10)) ∧
      (x.q = .qualified → ¬hard → soft →
        next (raiseIf (!x.drift) (setSlot u k { y with hardRun := 0, drift := true }) .REF_EVENT 0x40)) ∧
      (x.q = .qualified → ¬hard → ¬soft → next (setSlot u k { y with hardRun := 0, drift := false })) ∧
      (x.q = .disqualified → next (setSlot u k (if hard then y else begun y))))

/-- O32. WTR_EXPIRE switches a LOCKED media clock to the candidate whose wait to restore is over: the entry is
selected, the switch begins, SWITCHES counts, ACQUIRING and MC_STATE follow. MC_LOCK_ACHIEVED of an ACQUIRING media
clock whose phase stayed in the window for LOCK_TIME makes it LOCKED, ends the switch, raises MC_LOCK and MC_STATE,
and marks every pulse of that media clock for one correction, no other pulse and no other media clock. HOLDOVER_LIMIT
makes a media clock in HOLDOVER LOST once its estimated error exceeds HO_ERR_MAX or HO_MAX minutes have passed, with
MC_STATE and MC_LOST; on a standby neither happens of its own. PHASE_STEP_DONE at the end of a phase step's time moves the
phase by what is left of it (a positive step delays the clock) and ends it. Otherwise nothing changes. Spec: R238;
R239; R240; R241; R246; R262; R268; spec/10 Table 10-4. -/
def Obligations.LoopEvents : Prop :=
  ∀ (s : State) (m : Fin 4), calm s = true →
    let x := mcOf s m
    (∀ e t, wtrOf s m = some (e, t) → held s 3 = false →
      exec (.wtrExpire m) s = .next (
        if t ≤ s.now then raise (setMc s m { x with
          sel := some e, switching := true, fresh := true, inWinFrom := none, base := x.freq, switches := satInc 0xFFFF x.switches
          state := .acquiring }) .REF_EVENT 1
        else s)) ∧
    (∀ t, held s 3 = false → x.inWinFrom = some t →
      (x.state = .acquiring → mcMirrors s = false → fb s .MC_CTRL_SW m = false → t + 1000000000 * ff s .MC_LOCK_LOCK_TIME m ≤ s.now →
        let y : Mc := { x with switching := false, fresh := false, recAt := s.now }
        let due (z : Tbl Pls) (p : Nat) := if fv s .PLS_CFG_MC p = m then Tbl.mod {} z p fun q => { q with due := true } else z
        let u := (raise (setMc s m y) .REF_EVENT 4).setSyn fun z => { z with pls := [0, 1, 2, 3].foldl due s.syn.pls }
        exec (.mcLockAchieved m) s = .next (raise (setMc u m { y with state := .locked }) .REF_EVENT 1)) ∧
      (s.now < t + 1000000000 * ff s .MC_LOCK_LOCK_TIME m → exec (.mcLockAchieved m) s = .next s)) ∧
    exec (.holdoverLimit m) s = .next (
      if x.state = .holdover ∧ fb s .MC_CTRL_SW m = false ∧ mcMirrors s = false ∧
          (ff s .MC_HO_ERR_HO_ERR_MAX m * 8000000000 < x.est ∨
            x.hoFrom + ff s .MC_HO_HO_MAX m * 60000000000 ≤ s.now) then
        raise (raise (setMc s m { x with switching := false, state := .lost }) .REF_EVENT 1) .REF_EVENT 2
      else s) ∧
    (∀ t, x.stepEnd = some t →
      let u := mcRunOn s m
      let y := mcOf u m
      let left := stepUnits u m x.stepN.natAbs - stepUnits u m y.stepDone
      exec (.phaseStepDone m) s = .next (if t ≤ s.now then setMc u m { y with
        frac := (if 0 < x.stepN then y.frac - left else y.frac + left), stepEnd := none, stepN := 0, stepFrom := s.now
        stepDone := 0 } else s))

/-- O33. SYN_LOSS_OF_LOCK of a LIVE synthesizer at a band edge, or whose phase error was above 16 × LOL_WIN for the last
4 comparisons, takes it to COAST, freezes the frequency word of its media clock, records the band edge and the last
phase error, counts it and raises LOL; with neither it changes nothing. SYN_RELOCK_ATTEMPT notes the attempt 1 ms after
a loss on phase error, and one every second while there is no spare. IN_PLACE_RELOCK within 20 ms of the loss, or in a
repeated attempt, with the phase error within 16 × LOCK_WIN for the last LOCK_N comparisons, returns to LIVE, takes the
error, counts, raises RELOCK, and its media clock, run on at the frozen word, follows; else it changes nothing. NO_SPARE
marks a synthesizer coasting for 20 ms with no spare free and no hand-over of its own running, raises NO_SPARE and takes
an ACQUIRING or LOCKED media clock to HOLDOVER or LOST (a standby's own does not). HANDOVER_START puts the spare into
HANDOVER for the lowest media clock that needs it, in a band that is a free value. HANDOVER_SWITCHOVER makes it LIVE
with no phase error and the old synthesizer TEST, raises HANDOVER, and the media clock follows; HANDOVER_FAIL sends the
spare back to TEST. SYN_TEST_DONE: a counted frequency within 1 ppm frees the synthesizer, the first two failures are
counted. SYN_RETEST_TIMER tests a FREE synthesizer again after 60 s. Where the condition fails nothing changes. Spec:
R254; R256; R257; R258; R259; R260; spec/11 Table 11-4. -/
def Obligations.SynthesizersHandOver : Prop :=
  ∀ s : State, calm s = true →
    let spare := spareOf s
    let y := syOf s spare
    (∀ (k : Fin 5) (edge : Bool) (errs : List Int), let x := syOf s k
      let lost : Prop := edge = true ∨ 4 ≤ errs.length ∧ ∀ e ∈ errs.reverse.take 4, 16 * fv s .SYN_LOL_LOL_WIN < e.natAbs
      (x.state = .live → lost → exec (.synLossOfLock k edge errs) s = .next (raise (setSy s k { x with
        state := .coast, word := (mcOf s x.mc).freq, lostAt := s.now, atEdge := edge, tryAt := none, noSpare := false
        pherr := clampI (-2147483648) 2147483647 (errs.getLastD x.pherr), lols := satInc 0xFFFF x.lols }) .SYN_EVENT 1)) ∧
      (x.state ≠ .live ∨ ¬ lost → exec (.synLossOfLock k edge errs) s = .next s)) ∧
    (∀ m : Fin 4, let k := serves s m; let x := syOf s k
      x.state = .coast → x.mc = m → x.lostAt + 20000000 ≤ s.now → spareFree s = false → handingOver s m = false → x.noSpare = false →
      let t := setMc (raise (setSy s k { x with noSpare := true }) .SYN_EVENT 0x10) m { mcOf s m with coast := true }
      exec (.noSpare m) s = .next (
        if fb s .MC_CTRL_SW m = false ∧ mcMirrors s = false ∧ ((mcOf s m).state = .acquiring ∨ (mcOf s m).state = .locked) then fallBack t m else t)) ∧
    (held s 4 = false →
      (∀ k : Fin 5, let x := syOf s k
        exec (.synRelockAttempt k) s = .next (
          if x.state = .coast ∧ x.atEdge = false ∧
              (x.tryAt = none ∧ x.lostAt + 1000000 ≤ s.now ∨
                ∃ t ∈ x.tryAt, t + 1000000000 ≤ s.now ∧ x.noSpare = true) then
            setSy s k { x with tryAt := some s.now } else s) ∧
        (∀ errs : List Int,
          let locked : Prop := fv s .SYN_LOCK_LOCK_N ≤ errs.length ∧
            ∀ e ∈ errs.reverse.take (fv s .SYN_LOCK_LOCK_N), e.natAbs ≤ 16 * fv s .SYN_LOCK_LOCK_WIN
          (∀ t, x.tryAt = some t → x.state = .coast → x.atEdge = false → (s.now ≤ x.lostAt + 20000000 ∨ x.noSpare = true) →
            locked → exec (.inPlaceRelock ⟨k, errs⟩) s = .next (mcRelocked (raise (setSy (mcRunOn s x.mc) k { x with
              state := .live, pherr := clampI (-2147483648) 2147483647 (errs.getLastD x.pherr), tryAt := none, noSpare := false
              relocks := satInc 0xFF x.relocks }) .SYN_EVENT 2) x.mc)) ∧
          (¬ locked → exec (.inPlaceRelock ⟨k, errs⟩) s = .next s)) ∧
        (∀ (dev : Option Int) (band : Fin 16), x.state = .test →
          let good : Prop := ∃ d, dev = some d ∧ d.natAbs ≤ 1000
          (good → exec (.synTestDone k dev band) s = .next (setSy s k { x with
            state := .free, fails := 0, lastTest := s.now, retest := false, band := band.val })) ∧
          (¬ good → x.fails < 2 → exec (.synTestDone k dev band) s =
            .next (setSy s k { x with fails := x.fails + 1, band := band.val }))) ∧
        exec (.synRetestTimer k) s = .next (
          if x.state = .free ∧ x.lastTest + 60000000000 ≤ s.now then
            setSy s k { x with state := .test, retest := true, fails := 0 } else s)) ∧
      (∀ m, handoverFor s = some m → spareFree s = true → exec .handoverStart s =
        .next { setSy s spare { y with
          state := .handover, mc := m, retest := false, fails := 0, band := (Config.synBand s.freeCtr).toNat } with
          freeCtr := s.freeCtr + 1 }) ∧
      (y.state = .handover → (syOf s (serves s y.mc)).state = .coast →
        let old := syOf s (serves s y.mc)
        let u := mcRunOn s y.mc
        let t := setSy (setSy u (serves s y.mc) { old with
          state := .test, tryAt := none, noSpare := false, fails := 0, retest := false }) spare { y with state := .live, pherr := 0 }
        exec .handoverSwitchover s =
          .next (mcRelocked (raise (setMc t y.mc { mcOf u y.mc with removing := true }) .SYN_EVENT 4) y.mc)) ∧
      exec .handoverFail s = .next (
        if y.state = .handover then setSy s spare { y with state := .test, fails := 0, retest := false } else s))

/-- O34. An accepted write of TB_CTRL is stored; EN raised starts the PTP instance with all its intervals beginning
now, EN cleared leaves the time base in FREE_RUN with no grandmaster, no slew and no pending step (unless one is
committed). One of MC_CTRL waits for the next window; clearing SW applies the row of Table 10-4 that fits at once, one
by one below: a standby selects nothing, a held block falls back, else lock, a better or lost selection, a reversion
whose wait is over, the limit of HOLDOVER, and where none fits HOLDOVER, in which a clock stays (the model's reading
of the last row, log entry 77), else LOST. Setting SW, and a write of SW_FREQ's low word, which puts both words into
force, run the clock at the software frequency from now on. MCK_CFG starts or stops the output: a running one carries
MULT × fs, an exact ratio of the DCO of the synthesizer that serves SRC, at the word that one runs on (frozen while it
coasts), a stopped one nothing. A change of PLS_CFG EN begins or ends its measuring, PLS_OFS asks for one realignment
by the error from the new offset (the model's reading, log entry 76). PLS_SOURCE_PULSE of an enabled output measures
its source in the time of its media clock (an edge of a pin, or the last whole second of a time base less its ACC),
and keeps the period where no pulse was missed; before the first pulse it places that pulse OFS after the source's;
after it, it takes the error and asks for a realignment with the third error in a row above TOL while the media clock
is not switching. PLS_OUTPUT_PULSE sends nothing before a source pulse was measured and before the next pulse's
instant in the media clock's time; a pulse has its WIDTH and the polarity of POL and sets the next one a period on;
the first is aligned; one that is due moves by the error, is counted and raises PLS_REALIGN, or is skipped where it
would begin less than a WIDTH after the pulse before ended. Nothing else changes. Spec: R215; R247; R249; R251; R263;
R265; R267; R268; R269; R364; R370; spec/10 Table 10-4. -/
def Obligations.ClockRegistersAct : Prop :=
  ∀ (s : State) (v : Word) (k : Fin 4), calm s = true →
    (Accepted s .TB_CTRL k 0 v → held s 2 = false → (tbOf s k).state ≠ .mirrored →
      let u := wr (noted s .TB_CTRL k 0) .TB_CTRL (kept .TB_CTRL v) k
      let b := tbOf s k
      let en := fb s .TB_CTRL_EN k
      (en = bit v 31 → exec (.tbCtrlWrite k v 15) s = .next u) ∧
      (en = false → bit v 31 = true → exec (.tbCtrlWrite k v 15) s =
        .next (setTbk u k { b with annAt := some s.now, nextAnn := s.now, nextSync := s.now, nextDelay := s.now })) ∧
      (en = true → bit v 31 = false → ∃ t, exec (.tbCtrlWrite k v 15) s = .next t ∧
        tbOf t k = { b with
          annAt := none, outRun := 0, okRun := 0, heldSince := none, after := .freeRun, syncSeq := none, asked := [], slewLeft := 0
          slewRate := 0, gm := none, state := .freeRun, pend := (if b.committed.isSome then b.pend else 0) } ∧
        t = { u with rf := t.rf, evt := t.evt, tb := t.tb } ∧ OnlyFlags u t)) ∧
    (Accepted s .MC_CTRL k 0 v →
      let u := wrWindow (noted s .MC_CTRL k 0) .MC_CTRL (kept .MC_CTRL v) k
      let next (t : State) : Prop := exec (.mcSwWrite k v 15) s = .next t
      (fb s .MC_CTRL_SW k = bit v 30 → next u) ∧
      (fb s .MC_CTRL_SW k = false → bit v 30 = true → next (swRun u k)) ∧
      (fb s .MC_CTRL_SW k = true → bit v 30 = false →
        (mcMirrors s = true → next u) ∧
        (mcMirrors s = false → held s 3 = true → next (fallBack u k)) ∧
        (mcMirrors s = false → held s 3 = false → lockDue u k = true → next (mcLock u k)) ∧
        (mcMirrors s = false → held s 3 = false → lockDue u k = false →
          (∀ t, mcRow u k = some t → next t) ∧
          (mcRow u k = none → ∀ e t, wtrOf u k = some (e, t) →
            next (if t ≤ s.now then startSwitch u k e else fallBack u k)) ∧
          (mcRow u k = none → wtrOf u k = none →
            next (if holdoverOver u k then enterLost u k
              else if (mcOf s k).state = .holdover ∧ hoValid u k = true then u else fallBack u k))))) ∧
    (Accepted s .MC_SW_FREQ_LO k 0 v →
      let u := noted s .MC_SW_FREQ_LO k 0
      let hi := Tbl.getD s.rf.hi (addr .MC_SW_FREQ_HI k) (rd s .MC_SW_FREQ_HI k)
      let t := wr (wr u .MC_SW_FREQ_HI hi k) .MC_SW_FREQ_LO v k
      exec (.swFreqWrite k v 15) s = .next (swRun (setMc
        { t with rf := { t.rf with hi := Tbl.del s.rf.hi (addr .MC_SW_FREQ_HI k) } } k
        { mcOf s k with swFreq := sext 64 (hi.toNat * 2 ^ 32 + v.toNat) }) k)) ∧
    (∀ u : State, (mcOf (swRun u k) k).freq = (mcOf u k).swFreq) ∧
    (Accepted s .MCK_CFG k 0 v → ∃ t, exec (.mckCfgWrite k v 15) s = .next t ∧
      t = { wr (noted s .MCK_CFG k 0) .MCK_CFG (kept .MCK_CFG v) k with syn := { s.syn with mck := t.syn.mck } } ∧
      mckRunning t k = bit v 31 ∧ (∀ j, j ≠ k.val → mckRunning t j = mckRunning s j) ∧
      (bit v 31 = false → mckOut t k = none) ∧
      (bit v 31 = true → ∃ o, mckOut t k = some o ∧ o.synth = serves s (fv t .MCK_CFG_SRC k) ∧
        o.freq = outFreq s (fv t .MCK_CFG_SRC k) ∧
        o.hz = 128 * 2 ^ fv t .MCK_CFG_MULT k * (if fb t .MCK_CFG_FAM k then 44100 else 48000) ∧
        o.den ≠ 0 ∧ o.num * o.hz = o.den * dcoHz s (fv t .MCK_CFG_SRC k))) ∧
    (Accepted s .PLS_CFG k 0 v →
      let u := wr (noted s .PLS_CFG k 0) .PLS_CFG (kept .PLS_CFG v) k
      exec (.plsCfgWrite k v 15) s = .next (
        if fb s .PLS_CFG_EN k = bit v 31 then u
        else setPls u k (if bit v 31 then {} else { plsOf s k with measured := false, due := false, overs := 0 }))) ∧
    (Accepted s .PLS_OFS k 0 v → exec (.plsOfsWrite k v 15) s =
      .next (setPls (wr (noted s .PLS_OFS k 0) .PLS_OFS (kept .PLS_OFS v) k) k { plsOf s k with
        due := true
        err := if (plsOf s k).measured = true then
          clampI (-2147483648) 2147483647 ((plsOf s k).err + (rd s .PLS_OFS k).toInt - v.toInt) else (plsOf s k).err })) ∧
    (let x := plsOf s k
     let switching := (mcOf s (fv s .PLS_CFG_MC k)).switching
     let width := fv s .PLS_WIDTH_WIDTH k
     let clock := mcTime s (fv s .PLS_CFG_MC k)
     (∀ edge : Int,
       let second : Int := ((tns s (fv s .PLS_CFG_INDEX k) : Int) - (tbOf s (fv s .PLS_CFG_INDEX k)).acc) % 1000000000
       let seen (t : Int) : State :=
         let goal := t + (rd s .PLS_OFS k).toInt
         let y : Pls := { x with measured := true, srcAt := some t, period := keptPeriod s k x t }
         if x.aligned = true then
           let e := plsErr y goal
           let far := decide (fv s .PLS_TOL_TOL k < e.natAbs) && !switching
           setPls s k { y with err := e, overs := (if far then x.overs + 1 else 0), due := x.due || (far && decide (2 ≤ x.overs)) }
         else setPls s k { y with nextAt := if goal < t then goal + y.period else goal }
       (fb s .PLS_CFG_EN k = false → exec (.plsSourcePulse k edge) s = .next s) ∧
       (fb s .PLS_CFG_EN k = true → fv s .PLS_CFG_SRCKIND k = 0 → exec (.plsSourcePulse k edge) s = .next (seen (clock + edge))) ∧
       (fb s .PLS_CFG_EN k = true → fv s .PLS_CFG_SRCKIND k ≠ 0 → exec (.plsSourcePulse k edge) s = .next (
         if second < 2 then seen (clock - second) else s))) ∧
     (let moved : Bool := x.aligned && x.due && !switching
      let t : Int := if moved then x.nextAt - x.err else x.nextAt
      (fb s .PLS_CFG_EN k = false ∨ x.measured = false ∨ clock < t → exec (.plsOutputPulse k) s = .next s) ∧
      (fb s .PLS_CFG_EN k = true → x.measured = true → t ≤ clock →
        let y : Pls := { x with nextAt := t + x.period, aligned := true, due := x.due && x.aligned && !moved }
        let z : Pls := { y with overs := 0, count := satInc 0xFFFF x.count }
        let sent (u : State) (y : Pls) : State :=
          emit (setPls u k { y with lastAt := some t, lastEnd := some (t + 1000 * width) })
            (.pulse k t (t - x.nextAt) width (!fb s .PLS_CFG_POL k))
        (moved = false → exec (.plsOutputPulse k) s = .next (sent (setPls s k y) y)) ∧
        (moved = true →
          let u := raise (setPls s k z) .SYN_EVENT 0x20
          exec (.plsOutputPulse k) s = .next (
            if (x.lastEnd.any fun e => decide (t < e + 1000 * width)) = true then u else sent u z)))))

/-- O35. GPIO_EDGE with the level a pin has changes nothing; with another level it takes the raw level, the instant,
and the pin's tack in time base TB at a resolution of 8 ns. The debounced level follows at once where DEB is 0, else
at GPIO_DEBOUNCED once DEB milliseconds have passed since the raw edge. When it changes in a direction that EDGE
selects, GP_TACK takes the tack of the raw edge, overwriting the one before, EDGES counts one (it saturates), and
GP_EDGE is raised; in another direction only the level changes. Nothing else changes. Spec: R273. -/
def Obligations.DebouncedEdgesTimed : Prop :=
  ∀ (s : State) (g : Fin 32), calm s = true →
    let x := pinOf s g
    let edge := fv s .GP_CFG_EDGE g
    let follow (s : State) (y : Pin) : State :=
      if y.deb = y.raw then setPin s g y
      else if edge = 3 ∨ edge = 1 ∧ y.raw = true ∨ edge = 2 ∧ y.raw = false then
        raise (setPin s g { y with deb := y.raw, tack := y.rawTack, edges := satInc 0xFFFF y.edges }) .CIO_EVENT 1
      else setPin s g { y with deb := y.raw }
    (∀ level : Bool,
      let y : Pin := { x with raw := level, rawAt := s.now, rawTack := tack s (fv s .GP_CFG_TB g) / 8 * 8 }
      (x.raw = level → exec (.gpioEdge g level) s = .next s) ∧
      (x.raw ≠ level → fv s .GP_CFG_DEB g = 0 → exec (.gpioEdge g level) s = .next (follow s y)) ∧
      (x.raw ≠ level → fv s .GP_CFG_DEB g ≠ 0 → exec (.gpioEdge g level) s = .next (setPin s g y))) ∧
    (s.now < x.rawAt + 1000000 * fv s .GP_CFG_DEB g ∨ x.deb = x.raw → exec (.gpioDebounced g) s = .next s) ∧
    (x.rawAt + 1000000 * fv s .GP_CFG_DEB g ≤ s.now → x.deb ≠ x.raw → exec (.gpioDebounced g) s = .next (follow s x))

/-- O36. An accepted write of GP_OUT stores it. One of CO_CFG that sets EN of a disabled output, or clears EN, leaves
the output OFF with no command taken; one that keeps EN set leaves it as it is. CO_READBACK notes the levels of an
enabled output that is not high-impedance, and changes nothing else while they agree with its state, while it is HELD,
or within 10 µs of its change; else the disagreement holds the output, is counted, raised and reported, and the thimble
logs it as fault 0x0E. An accepted SE_WRITE of a SET, PULSE or EVENT entry whose time lies ahead arms it, and one whose
time is near or past (with LATE_OK) runs it at once, late; that of a COMMIT entry makes entry and set DECIDING and puts
its request at the end of the admission queue. An accepted SE_DEL frees the entry; a commit's set returns to OPEN with
nothing created, and the selected step is judged anew. SCHEDULE_FIRE runs every armed entry whose time has come, in
ascending index: each becomes DONE, not late, and its run is noted with its instant; SET drives its level and cancels a
pending return, PULSE drives 1 with its return after WIDTH, EVENT notes the entry and raises SE_FIRED, COMMIT joins the
commits of the boundary; while the schedule is held nothing runs. SCHEDULE_PULSE_END drives 0 once the return is due.
Spec: R50; R274; R283; R284; R286; R287; R288; R364; R456; spec/12 Table 12-4; spec/12 Table 12-5. -/
def Obligations.OutputsAndSchedule : Prop :=
  ∀ (s : State) (v : Word), calm s = true →
    let e := fv s .CIO_CMD_ARG_INDEX
    (Accepted s .GP_OUT 0 0 v →
      exec (.gpOutWrite v 15) s = .next (wr (noted s .GP_OUT 0 0) .GP_OUT (kept .GP_OUT v))) ∧
    (∀ k : Fin 8, Accepted s .CO_CFG k 0 v →
      let u := wr (noted s .CO_CFG k 0) .CO_CFG (kept .CO_CFG v) k
      exec (.coCfgWrite k v 15) s = .next (
        if bit (kept .CO_CFG v) 31 = true ∧ fb s .CO_CFG_EN k = true then u
        else setCo u k { coOf s k with state := .off, was := false, ready := false, cmdA := false, cmdB := false })) ∧
    (∀ (k : Fin 8) (a b : Bool), let x := coOf s k
      (fb s .CO_CFG_EN k = false ∨ pinsOff s = true → exec (.coReadback k a b) s = .next s) ∧
      (fb s .CO_CFG_EN k = true → pinsOff s = false →
        x.state = .held ∨ s.now < x.setAt + 10000 ∨ (a = (x.state == .on) ∧ b = (x.state == .on)) →
        exec (.coReadback k a b) s = .next (setCo s k { x with rbA := a, rbB := b })) ∧
      (fb s .CO_CFG_EN k = true → pinsOff s = false → x.state ≠ .held → x.setAt + 10000 ≤ s.now →
        a ≠ (x.state == .on) ∨ b ≠ (x.state == .on) →
        ∃ t, exec (.coReadback k a b) s = .next t ∧
          coOf t k = { x with
            rbA := a, rbB := b, state := .held, was := false, disagrees := satInc 0xFFFF x.disagrees } ∧
          bit (rd t .CIO_EVENT) 1 = true ∧ Tbl.get? t.saf.log s.saf.next = some {
            code := 0x0E, reaction := 2, bar := true, inj := false, boot := s.glb.boots % 65536, detail := k
            region := (if a = (x.state == .on) then 1 else if b = (x.state == .on) then 0 else 2)
            stitch := s.mix.stitch % 2 ^ 32, tack := tack s 0 } ∧
          OnlyFlags s t ∧ t = { s with
            rf := t.rf, evt := t.evt, cio := { s.cio with cos := t.cio.cos }
            saf := { s.saf with log := t.saf.log, next := (s.saf.next + 1) % 64, lost := t.saf.lost, bars := t.saf.bars } })) ∧
    (Accepted s .CIO_CMD 0 0 4 →
      let n := noted s .CIO_CMD 0 0
      let armed := setSe n e ((seOf s e).anew .armed)
      (seAction s e ≠ 1 → seNear s e = false → exec .seWrite s = .next armed) ∧
      (seAction s e ≠ 1 → seNear s e = true → exec .seWrite s = .next (seRun armed e true s.now)) ∧
      (seAction s e = 1 → exec .seWrite s = .next (setSe ((putSet n (seSet s e) { setOf s (seSet s e) with
          state := .deciding }).setFab fun f => { f with
        admPending := true
        queue := f.queue ++ [{
          who := .regPath, kind := .commit (seSet s e) (some (e, seNear s e)), stitch := s.mix.stitch, tack := tack s 0 }] })
        e ((seOf s e).anew .deciding)))) ∧
    (Accepted s .CIO_CMD 0 0 8 →
      let freed := setSe (noted s .CIO_CMD 0 0) e { seOf s e with state := .free }
      (seAction s e ≠ 1 → exec .seDel s = .next freed) ∧
      (seAction s e = 1 → exec .seDel s = .next (vcoreEval (freed.setMix fun m => { m with
        sets := Tbl.upd m.sets (seSet s e) fun b => { b with state := .open, created := [] } })))) ∧
    (held s 11 = true → exec .scheduleFire s = .next s) ∧
    (held s 11 = false →
      exec .scheduleFire s = .next (forEach
        (s.cio.sched.filterMap fun e => if e.2.state = .armed ∧ seDue s e.1 then some e.1 else none) s
        fun e t => seRun t e false (t.now - 20000))) ∧
    (∀ (t : State) (e from_ : Nat) (late : Bool),
      let g := sePin t e
      let u := raiseIf late (setSe t e { seOf t e with
        state := .done, late := late, runs := (seOf t e).runs + 1, ranAt := t.now }) .CIO_EVENT 8
      let out (t : State) (b : Bool) : State :=
        wr t .GP_OUT (word ((rd t .GP_OUT).toNat - at_ g (b2n (bit (rd t .GP_OUT) g)) + at_ g (b2n b)))
      (seAction t e = 1 → seRun t e late from_ =
        u.setMix fun m => { m with commits := m.commits ++ [{ acceptedAt := from_, set := seSet t e, entry := some e }] }) ∧
      (seAction t e = 2 → seRun t e late from_ =
        out (u.setCio fun y => { y with pulses := Tbl.del y.pulses g }) (fb t .SE_W1_LEVEL e)) ∧
      (seAction t e = 3 → seRun t e late from_ =
        out (u.setCio fun y => { y with pulses := Tbl.put y.pulses g (t.now + 1000 * fv t .SE_W1_WIDTH e) }) true) ∧
      (seAction t e = 4 → seRun t e late from_ = raise (u.setCio fun y => { y with last := e }) .CIO_EVENT 4)) ∧
    (∀ (g : Fin 32) (t : Nat), Tbl.get? s.cio.pulses g = some t →
      let w := (rd s .GP_OUT).toNat
      exec (.schedulePulseEnd g) s = .next (
        if t ≤ s.now then
          wr (s.setCio fun y => { y with pulses := Tbl.del y.pulses g }) .GP_OUT (word (w - at_ g (b2n (bit (word w) g))))
        else s)) ∧
    (∀ g : Fin 32, Tbl.get? s.cio.pulses g = none → exec (.schedulePulseEnd g) s = .next s)

/-- O37. At a spool whose producer end is the host's, P_OPEN with no item open opens one with TAG and the tack of the
spool's time base; P_DATA appends its word (with its poison tag) while the item has fewer than 16,384 words, a word that
finds no room for a cut item being dropped; P_END commits the open item with LENGTH = 4 × WORDS − PAD, the PAD bytes of
its last word zero, SRC the spool and the next SEQ, each of its words with its parity bit and the instant noted, and
answers the reads that stall; a cut item is freed with nothing committed; P_END with ABORT frees the open item. Each
reports OK in REG_WSTATUS. Room is made first where a cell is added: what makeRoom answers fits the quota and the store,
and without REPLAY it is the spool as it was. INTERNAL_ITEM_COMMIT commits the whole item, or, when there is no room,
counts one DROP (it saturates) and raises OVER; at a spool with no internal producer it changes nothing. A spool put
back holds what was put there, and LEVEL_HIT as well when its cells rise to LEVEL. Spec: R291; R293; R294; R295; R298;
R302; R305; R364; spec/13 Table 13-1; spec/13 Table 13-2. -/
def Obligations.ItemsProduced : Prop :=
  ∀ (s : State) (n : Fin 4096) (v : Word), calm s = true → let x := spOf s n
    (windowsOpen s = true → hostProd s n = true →
      (∀ y, fld v 0 16 = 0 → x.openItem = none → makeRoom s n x 1 = some y →
        exec (.pOpen n v 15) s = .next (notedWindow
          (putSpool s n { y with openItem := some { tag := fld v 16 16, tack := tack s (fv s .SP_W0_TB n) } }) n 0x10)) ∧
      (∀ (o : OpenItem) (i : Fin 256) (poison : Bool), x.openItem = some o → o.words.length < 16384 →
        let o' : OpenItem := { o with
          words := o.words ++ [v]
          poison := if poison then o.poison ++ [o.words.length + 4] else o.poison }
        (∀ y, makeRoom s n x (o'.cells - o.cells) = some y → exec (.pData n i v 15 poison) s =
          .next (notedWindow (putSpool s n { y with openItem := some o' }) n (0x400 + 4 * i))) ∧
        (o.cut = true → makeRoom s n x (o'.cells - o.cells) = none →
          exec (.pData n i v 15 poison) s = .next (notedWindow s n (0x400 + 4 * i)))) ∧
      (∀ o : OpenItem, x.openItem = some o → let k := o.words.length; let pad := fld v 0 2
        fld v 2 30 = 0 → (pad ≠ 0 → k ≠ 0) → 4 * k - pad ≤ 65535 →
        exec (.pEnd n v 15) s = .next (notedWindow (answerStalled (putSpool s n
          (if o.cut then { x with openItem := none }
           else Spool.commit { x with openItem := none } o.tag (fv s .SP_W0_TB n) n o.tack (4 * k - pad)
             (zeroPad pad o.words) o.poison (arrival s))) n) n 0x14)) ∧
      (x.openItem.isSome = true →
        exec (.pEndAbort n) s = .next (notedWindow (putSpool s n { x with openItem := none }) n 0x14))) ∧
    (∀ it : NewItem,
      (internalProd s n = false → exec (.internalItemCommit n it) s = .next s) ∧
      (internalProd s n = true → fb s .SP_W0_EN n = true → x.resetting = false → it.body.length ≤ 65535 →
        let room := makeRoom s n x (cellsOf (wordsOf it.body).length)
        (∀ y, room = some y → exec (.internalItemCommit n it) s = .next (answerStalled (putSpool s n
          (y.commit it.tag it.tb n it.tack it.body.length (wordsOf it.body) it.poison (arrival s))) n)) ∧
        (room = none → exec (.internalItemCommit n it) s =
          .next (raise (setSp s n { x with drops := satInc 0xFF x.drops }) .SPL_EVENT 2)))) ∧
    (∀ (y : Spool) (tag tb src at_ len : Nat) (words : List Word) (poison : List Nat),
      let q := (y.seq + 1) % 2 ^ 32
      ∃ it : Item, y.commit tag tb src at_ len words poison (arrival s) = { y with seq := q, items := y.items ++ [it] } ∧
        (it.tag, it.tb, it.src, it.tack, it.seq, it.len) = (tag, tb, src, at_, q, len) ∧ it.words = words ∧
        it.poison = poison ∧ it.done = (s.mix.stitch, tack s 0) ∧
        ∀ w, w < it.total → it.parity[w]? = some (parityOf (it.at_ w))) ∧
    (∀ more y, makeRoom s n x more = some y → roomFor s n y more = true ∧ (fb s .SP_W0_REPLAY n = false → y = x)) ∧
    (∀ y : Spool, let lev := fv s .SP_W1_LEVEL n
      let t := putSpool s n y
      OnlyFlags s t ∧
      t = { s with rf := t.rf, evt := t.evt, spl := { s.spl with spools := t.spl.spools, armed := t.spl.armed } } ∧
      spOf t n = { y with levelHit := (y.levelHit || decide (0 < lev ∧ spCells x < lev ∧ lev ≤ spCells y)) })

/-- O38. At a spool whose consumer end is the host's and with an item under the cursor, ADVANCE by fewer than REMAIN
words moves the cursor on; ADVANCE by REMAIN words and DROP finish the item: without REPLAY it is freed and the cursor
stands at the next one's header, with REPLAY the item stays and the cursor moves on. In a REPLAY spool MARK marks the
item under the cursor and clears MARK_LOST, and REWIND moves the cursor to header word 0 of the marked item. Each
reports OK in REG_WSTATUS. CONSUMER_READ_STALL answers the empty marker at once on a standby, or for a stalling read
while STALL is 0; a stalling read else waits STALL microseconds; any other is answered with the window's word at once.
Nothing else changes. Spec: R297; R299; R300; R303; R304; R308; R364; spec/13 Table 13-2. -/
def Obligations.ItemsConsumed : Prop :=
  ∀ (s : State) (n : Fin 4096), calm s = true → let x := spOf s n
    (windowsOpen s = true → hostCons s n = true → ∀ it : Item, x.head = some it →
      let ended : Spool :=
        if fb s .SP_W0_REPLAY n then { x with cur := x.cur + 1, pos := 0 }
        else { x with items := x.items.eraseIdx x.cur, pos := 0 }
      (∀ k : Fin 32768, k.val ≠ 0 → k.val < it.total - x.pos →
        exec (.advance n k) s = .next (notedWindow (putSpool s n { x with pos := x.pos + k }) n 8)) ∧
      (∀ k : Fin 32768, k.val ≠ 0 → k.val = it.total - x.pos →
        exec (.advance n k) s = .next (notedWindow (putSpool s n ended) n 8)) ∧
      exec (.drop n) s = .next (notedWindow (putSpool s n ended) n 8) ∧
      (fb s .SP_W0_REPLAY n = true →
        exec (.mark n) s = .next (notedWindow (setSp s n { x with mark := some it.seq, markLost := false }) n 8))) ∧
    (windowsOpen s = true → hostCons s n = true → fb s .SP_W0_REPLAY n = true → ∀ q i, x.mark = some q →
      x.items.findIdx? (fun it => it.seq == q) = some i →
      exec (.rewind n) s = .next (notedWindow (setSp s n { x with cur := i, pos := 0 }) n 8)) ∧
    (∀ off : Fin 4096, let at_ := off.val / 4 * 4
      (s.glb.passive = true ∨ stalls s n at_ = true ∧ fv s .SPL_STALL_STALL = 0 →
        exec (.consumerReadStall n off) s = .next (emit s (.hostRead n at_ 0xFFFFFFFF))) ∧
      (s.glb.passive = false → stalls s n at_ = true → fv s .SPL_STALL_STALL ≠ 0 →
        exec (.consumerReadStall n off) s = .next (s.setSpl fun y => { y with
          stalled := y.stalled ++ [(n.val, at_, s.now + 1000 * fv s .SPL_STALL_STALL)] })) ∧
      (s.glb.passive = false → stalls s n at_ = false →
        exec (.consumerReadStall n off) s = .next (emit s (.hostRead n at_ (windowRead s n at_)))))

/-- O39. An accepted FLUSH removes every committed item of the spool that SPL_CMD_ARG names, sets FLUSHED when one lay
under the cursor, loses the mark (MARK_LOST), cuts the open item and sets FLUSH_CUT for it. An accepted write
of SP word 0 that sets EN, or of a disabled spool, only stores its fields; one that clears EN flushes the spool, frees
the open item, restarts SEQ (the model's choice) and clears HOST_P and HOST_C. SPOOL_RESET_DONE ends a reset, unless
the spool block is held in reset. Spec: R304; R305; R307; R309; R364; spec/13 Table 13-4; spec/13 Table 13-5. -/
def Obligations.SpoolControl : Prop :=
  ∀ (s : State) (n : Fin 4096), calm s = true → let x := spOf s n
    let flushed (t : State) : State :=
      putSpool t n { x with
        items := [], cur := 0, pos := 0
        flushed := (x.flushed || x.head.isSome)
        mark := none
        markLost := (x.markLost || x.mark.isSome)
        openItem := x.openItem.map fun o => { o with cut := true }
        flushCut := (x.flushCut || x.openItem.isSome) }
    (Accepted s .SPL_CMD 0 0 1 → fv s .SPL_CMD_ARG_INDEX = n.val →
      exec .flush s = .next (flushed (noted s .SPL_CMD 0 0))) ∧
    (∀ v : Word, Accepted s .SP_W0 n 0 v →
      let u := wr (noted s .SP_W0 n 0) .SP_W0 (kept .SP_W0 v) n
      (fb s .SP_W0_EN n = false ∨ bit (kept .SP_W0 v) 31 = true → exec (.spoolEnWrite n v 15) s = .next u) ∧
      (fb s .SP_W0_EN n = true → bit (kept .SP_W0 v) 31 = false →
        let f := flushed u
        exec (.spoolEnWrite n v 15) s = .next (setFd (setFd
          (putSpool f n { spOf f n with openItem := none, seq := 0 }) .SP_W0_HOST_P 0 n) .SP_W0_HOST_C 0 n))) ∧
    (exec (.spoolResetDone n) s = .next
      (if held s 12 = false ∧ x.resetting = true then setSp s n { x with resetting := false } else s))

/-- O40. EVENT_ASSERT at an object source takes its hit, or changes nothing without one; at a block source it takes the
source's first edge and asserts where SENSE counts it, and a level source whose input is high asserts from IDLE. An
assertion latches an IDLE source that is not enabled and offers an enabled one to moderation, counts again for a HELD
one, marks an IN_SERVICE one again, and else changes nothing. Moderation releases a source at once for a target that
sleeps; else it makes the source HELD. In a block group the assertion opens the interval with TIME and CNT or counts
within it, one that has run out being released first, and the group's release is due when the count reaches CNT; in an
object group the release is due outside a hold-off. What is due is released after the assertions of its instant, at the
latest before the next delivery or end of an interval (log entry 106): a block group's interval ends, an object group's
hold-off opens. A release counts for the group, is noted with its tack and the sessions subscribed then when EN is 1,
and queues the source, or puts it back to IDLE until the link has reached L0. MODERATION_INTERVAL_END and HOLDOFF_END
release what is held once the time has run out, and else do no more than that. Spec: R311; R313; R314; R315; R316; R317;
R325; R327; R328; spec/14 Table 14-3. -/
def Obligations.EventsModerated : Prop :=
  ∀ (s : State) (src : Fin 2048) (g : Fin 32), calm s = true →
    let x := evSrc s src
    let k := src.val / 64
    let gr := evGrp s k
    let high := x.state = .idle ∧ evInput s src = true
    let asserted (t : State) : State := wakeUpdate (
      if x.state = .idle then (if evEn s src = true then moderate t src else setSrcState t src .latched)
      else if x.state = .held then countAgain t src
      else if x.state = .inService then setSrc t src { x with again := true }
      else t)
    let lapsed (u : State) (g : Nat) : Prop := ∃ t, (evGrp u g).from_ = some t ∧ t + 1000 * (evGrp u g).time ≤ u.now
    let freed (u : State) (g : Nat) : State := forEach (heldIn u g) u fun j t => releaseSrc t j
    let released (u : State) (g : Nat) : State := setGrp (freed u g) g { evGrp (freed u g) g with from_ := none, count := 0, due := false }
    let holdoff (u : State) (g : Nat) : State :=
      let h := fv u .EV_HGRP_HOLDOFF (g - 28)
      setGrp u g { evGrp u g with from_ := if h = 0 then none else some u.now, time := h, due := false }
    let opened (u : State) : EvGrp := { evGrp u k with
      from_ := some s.now, time := fv s .EV_GRP_TIME k, cnt := fv s .EV_GRP_CNT k, count := 1, due := decide (fv s .EV_GRP_CNT k ≤ 1) }
    let counted : EvGrp := { gr with count := gr.count + 1, due := decide (gr.cnt ≤ gr.count + 1) }
    let r := releaseDue s
    (1792 ≤ src.val → exec (.eventAssert src) s = .next
      (if src.val ∈ s.evt.hits then asserted (s.setEvt fun e => { e with hits := e.hits.erase src }) else s)) ∧
    (src.val < 1792 → ∀ up rest, takeEdge s.evt.edges src = (some up, rest) →
      let t := s.setEvt fun e => { e with edges := rest }
      exec (.eventAssert src) s = .next
        (if evSense s src = 0 ∧ high ∨ evSense s src = 1 ∧ up = true ∨ evSense s src = 2 ∧ up = false ∨ 2 < evSense s src
         then asserted t else t)) ∧
    (src.val < 1792 → ∀ rest, takeEdge s.evt.edges src = (none, rest) →
      exec (.eventAssert src) s = .next (if evSense s src = 0 ∧ high then asserted s else s)) ∧
    (asleep s (evTarget s src) = true → moderate s src = releaseSrc s src) ∧
    (asleep s (evTarget s src) = false → k < 28 →
      (gr.from_ = none → moderate s src = setGrp (setSrcState s src .held) k (opened s)) ∧
      (∀ t, gr.from_ = some t → s.now < t + 1000 * gr.time → moderate s src = setGrp (setSrcState s src .held) k counted) ∧
      (lapsed s k → moderate s src = setGrp (setSrcState (released s k) src .held) k (opened (released s k)))) ∧
    (k < 28 → x.state = .held →
      (∀ t, gr.from_ = some t → s.now < t + 1000 * gr.time → countAgain s src = setGrp s k counted) ∧
      (lapsed s k → let u := released s k
        countAgain s src = setGrp (if (evSrc u src).state = .idle then setSrcState u src .held else u) k (opened u))) ∧
    (asleep s (evTarget s src) = false → 28 ≤ k →
      moderate s src = if gr.from_ = none ∨ lapsed s k then setGrp (setSrcState s src .held) k { gr with due := true }
        else setSrcState s src .held) ∧
    r = forEach (s.evt.grps.filterMap fun e => if e.2.due = true then some e.1 else none) s (fun g t =>
      if g < 28 then released t g else holdoff (freed t g) g) ∧
    (s.evt.srcs.wf = true → let r := releaseSrc s src
      evSrc r src = { x with state := if s.evt.reachedL0 = true then .queued else .idle } ∧
      evGrp r k = { gr with releases := satInc 0xFFFF gr.releases } ∧
      r.evt.released = s.evt.released ++ (if evEn s src = true then [(src.val, tack s 0, s.ses.ses.filterMap fun e =>
        if e.2.subs.contains src.val = true then some e.2.id else none)] else [])) ∧
    (g.val < 28 ∧ lapsed r g → exec (.moderationIntervalEnd g) s = .next (released r g)) ∧
    (¬ (g.val < 28 ∧ lapsed r g) → exec (.moderationIntervalEnd g) s = .next r) ∧
    (28 ≤ g.val ∧ lapsed r g → exec (.holdoffEnd g) s = .next
      (if heldIn r g = [] then setGrp r g { evGrp r g with from_ := none } else holdoff (freed r g) g)) ∧
    (¬ (28 ≤ g.val ∧ lapsed r g) → exec (.holdoffEnd g) s = .next r)

/-- O41. A write of TGT_EOI with EOI = 1 at a target whose stack is not empty and whose top entry has another vector
empties the stack, takes every source that was on it out of service, top first, raises bit t of EVT_EVENT, counts one
STACK_FAULTS (it saturates) and makes the fault message due. MSIX_DELIVER sends a message that is due on FAULT_VEC with
that vector's address and data, pushing nothing, when the target takes messages and the vector may be sent, and beside it
changes at most what sources and groups release; while one is due and either does not hold, it stays due. A source
leaves service to LATCHED, and enters moderation when enabled, if it was asserted again or its level input is high, and
else to IDLE. Spec: R321. -/
def Obligations.StackFaults : Prop :=
  ∀ (s : State) (t : Fin 8) (v : Word), calm s = true → let x := evTgt s t
    (∀ p rest, Accepted s .TGT_EOI t 0 v → bit v 31 = true → x.stack = p :: rest → p.vec ≠ fld v 0 6 →
      let u := setTgt (wr (noted s .TGT_EOI t 0) .TGT_EOI (kept .TGT_EOI v) t) t
        { x with stack := [], faultDue := true, stackFaults := satInc 0xFF x.stackFaults }
      exec (.tgtEoi t v 15) s = .next (wakeUpdate (raise
        (forEach (p :: rest) u fun q s => endService s q.src) .EVT_EVENT (2 ^ t.val)))) ∧
    (let fvec := fv s .TGT_CTRL_FAULT_VEC t;
      x.faultDue = true →
      (tgtFree s t = true ∧ vecFree s fvec = true → ∃ r : State,
        r = { s with evt := { s.evt with srcs := r.evt.srcs, grps := r.evt.grps, released := r.evt.released } } ∧
        exec (.msixDeliver t) s = .next (emit (setTgt r t
          { x with faultDue := false, delivered := satInc 0xFFFFFFFF x.delivered })
          (.msix fvec ((rd s .MSIX_HI fvec).toNat * 2 ^ 32 + (rd s .MSIX_LO fvec).toNat) (rd s .MSIX_DATA fvec).toNat))) ∧
      (∀ u, ¬ (tgtFree s t = true ∧ vecFree s fvec = true) → exec (.msixDeliver t) s = .next u →
        (evTgt u t).faultDue = true)) ∧
    (∀ src : Fin 2048, let y := evSrc s src
      let l := setSrc s src { state := .latched }
      endService s src =
        if y.again = true ∨ evSense s src = 0 ∧ evInput s src = true then
          (if evEn s src = true then moderate l src else l)
        else setSrc s src {})

/-- O42. MSIX_DELIVER, after the releases that are due (the model's choice, log entry 106) and with no fault message to
send, sends the vector, with its entry's address and data, of a source that is QUEUED, names the target and has a PRIO below the running priority, where
target and vector may be sent to: no such source has a lower PRIO, and of equal ones it has the lowest index; the source
becomes IN_SERVICE, (VECTOR, PRIO, source) is pushed and the delivery is counted. Without such a source nothing more
happens. A write of TGT_EOI with EOI = 1 and the vector of the top entry pops it, and its source leaves service; on an
empty stack it counts one EOI_IDLE (it saturates). A write with EOI = 0 only stores VEC. Spec: R314; R318; R319; R320;
R322; R327; spec/14 Table 14-3; spec/14 Table 14-9. -/
def Obligations.DeliveryAndEoi : Prop :=
  ∀ (s : State) (t : Fin 8) (v : Word), calm s = true →
    let x := evTgt s t
    let fvec := fv s .TGT_CTRL_FAULT_VEC t
    let r := releaseDue s
    let ready (e : Nat × EvSrc) : Prop := e ∈ r.evt.srcs ∧ e.2.state = .queued ∧ evTarget s e.1 = t.val ∧
      evPrio s e.1 < (match x.stack with | p :: _ => p.prio | [] => 16) ∧ tgtFree s t = true ∧
      vecFree s (evVec s e.1) = true
    let push (src : Nat) : State := emit (setTgt (setSrcState r src .inService) t { x with
      stack := { vec := evVec s src, prio := evPrio s src, src := src } :: x.stack
      delivered := satInc 0xFFFFFFFF x.delivered })
      (.msix (evVec s src) ((rd s .MSIX_HI (evVec s src)).toNat * 2 ^ 32 + (rd s .MSIX_LO (evVec s src)).toNat)
        (rd s .MSIX_DATA (evVec s src)).toNat)
    let u := wr (noted s .TGT_EOI t 0) .TGT_EOI (kept .TGT_EOI v) t
    (x.faultDue = false ∨ tgtFree s t = false ∨ vecFree s fvec = false →
      ((∀ e, ¬ ready e) → exec (.msixDeliver t) s = .next r) ∧
      (∀ e, ready e → ∃ d, ready d ∧ exec (.msixDeliver t) s = .next (push d.1) ∧
        evPrio s d.1 ≤ evPrio s e.1 ∧ (r.evt.srcs.wf = true → evPrio s d.1 = evPrio s e.1 → d.1 ≤ e.1))) ∧
    (Accepted s .TGT_EOI t 0 v →
      (bit v 31 = false → exec (.tgtEoi t v 15) s = .next u) ∧
      (bit v 31 = true → x.stack = [] →
        exec (.tgtEoi t v 15) s = .next (setTgt u t { x with eoiIdle := satInc 0xFF x.eoiIdle })) ∧
      (bit v 31 = true → ∀ p rest, x.stack = p :: rest → p.vec = fld v 0 6 →
        exec (.tgtEoi t v 15) s = .next (wakeUpdate (endService (setTgt u t { x with stack := rest }) p.src))))

/-- O43. An accepted FORCE asserts the source that EVT_CMD_ARG names; CLR_PEND puts it to IDLE. An accepted write of a
source entry stores EN, SENSE, PRIO, TARGET and VECTOR; writing EN 1 to a disabled LATCHED source enters moderation,
writing EN 0 to an enabled HELD or QUEUED one latches it. An accepted write of TGT_CTRL stores it, and
PCIE_POWER_STATE_CHANGE takes the function's state, the link's (DOWN while PERST# is low), the MSI-X enable and the
function mask where the host wrote them, noting that the link has reached L0; whichever targets fall asleep have the
HELD sources that name them released. Each ends by putting WAKE# where it belongs: asserted while an asleep target has a
QUEUED enabled source and the block is not held in reset; a change is shown on the pin, and an assertion sets PME and
raises WAKE. Spec: R314; R323; R324; R325; R326; R331; R454; R476; spec/14 Table 14-3; spec/14 Table 14-5; spec/14 Table
14-10. -/
def Obligations.EventControls : Prop :=
  ∀ (s : State), calm s = true → s.rf.regs.wf = true →
    let n := fv s .EVT_CMD_ARG_INDEX
    let fallen (u : State) : State := forEach [0, 1, 2, 3, 4, 5, 6, 7] u fun k t =>
      if asleep t k = true ∧ asleep s k = false then
        forEach (t.evt.srcs.filterMap fun e => if e.2.state = .held ∧ evTarget t e.1 = k then some e.1 else none) t
          fun j t => releaseSrc t j
      else t
    let entry (src : Nat) (u : State) (v : Word) : State := wakeUpdate (
      if bit v 31 = true ∧ evEn s src = false ∧ (evSrc s src).state = .latched then moderate u src
      else if bit v 31 = false ∧ evEn s src = true ∧ ((evSrc s src).state = .held ∨ (evSrc s src).state = .queued) then
        setSrcState u src .latched
      else u)
    (Accepted s .EVT_CMD 0 0 2 → exec .force s = .next (assertSrc (noted s .EVT_CMD 0 0) n)) ∧
    (Accepted s .EVT_CMD 0 0 1 →
      exec .clrPend s = .next (wakeUpdate (setSrcState (noted s .EVT_CMD 0 0) n .idle))) ∧
    (∀ (src : Fin 2048) (v : Word), src.val < 1792 → Accepted s .EV_CFG src 0 v →
      exec (.evCfgWrite src v 15) s = .next
        (entry src (wr (noted s .EV_CFG src 0) .EV_CFG (word (v.toNat &&& 0x830F073F)) src) v)) ∧
    (∀ (src : Fin 2048) (v : Word), 1792 ≤ src.val → Accepted s .EV_OCFG (src - 1792) 0 v →
      exec (.evCfgWrite src v 15) s = .next
        (entry src (wr (noted s .EV_OCFG (src - 1792) 0) .EV_OCFG (word (v.toNat &&& 0x830F073F)) (src - 1792)) v)) ∧
    (∀ (t : Fin 8) (v : Word), Accepted s .TGT_CTRL t 0 v →
      exec (.tgtCtrlWrite t v 15) s = .next (wakeUpdate (fallen (wr (noted s .TGT_CTRL t 0) .TGT_CTRL (kept .TGT_CTRL v) t)))) ∧
    (∀ (d : DState) (l : LinkState) (m : Option MsixCtl),
      let l' := if s.evt.perst = true then .down else l
      exec (.pciePowerStateChange d l m) s = .next (wakeUpdate (fallen (s.setEvt fun e => { e with
        dstate := d, link := l', msixEn := (m.map (·.enable)).getD e.msixEn, msixMask := (m.map (·.mask)).getD e.msixMask, reachedL0 := (e.reachedL0 || l' == .l0) })))) ∧
    (let want := anyWaking s && !held s 13
      let w := wakeUpdate s
      (want = s.evt.wake → w = s) ∧
      (want ≠ s.evt.wake → w.evt.wake = want ∧ w.evt.pme = (s.evt.pme || want) ∧
        w.emitted = s.emitted ++ [.wakePin want] ∧ (want = true → bit (rd w .EVT_EVENT) 8 = true))) ∧
    (anyWaking s = true ↔ ∃ t < 8, asleep s t = true ∧
      ∃ e ∈ s.evt.srcs, e.2.state = .queued ∧ evEn s e.1 = true ∧ evTarget s e.1 = t)

/-- O44. A REQUEST of an open session of a network client of a lone unit, with a SEQ above HIGH, with nothing executing
or waiting in its session and no other session's ready command before it, moves the window up to it and executes. A
command that its role, its body length or BARE refuses is answered with that code, or with one of its own that comes
before it in the order of R23, and has no effect; a REG_WRITE or REG_READ to no address is refused with ACCESS whatever
the role. Otherwise each OP of Table 15-4 has its effect: NOP and METER_READ and REG_READ read; REG_WRITE writes one
register; BS_OPEN, BS_ADD, BS_ABORT, SCHED_WRITE, SCHED_DEL, ENABLE (disable), RELEASE, ACCEPT_STEP do as their
registers do; BS_COMMIT, CHANGE, an enable and a COMMIT entry of SCHED_WRITE enter the admission queue and are answered
when decided; SUBSCRIBE adds or removes event sources; IMG_BEGIN, IMG_DATA, IMG_END and IMG_ABORT transfer an image, an
erase or program operation of the NOR that fails ending the transfer with INTERNAL; CFG_RESET starts one and closes
every session after its reply; FULL_RESET resets after its reply; CLOSE closes after its reply. The REPLY carries the
code and the body, is stored at the position of its SEQ, and the command is counted (it saturates). Spec: R23; R341;
R342; R344; R345; R346; R347; R348; R349; R350; R351; R352. -/
def Obligations.SessionCommandsAnswered : Prop :=
  ∀ (s : State) (r : FirynReq) (k : Nat) (x : Ses),
    still s = true → sesServed s = true → reaches s r.client = true → r.client.mbox = false → hasStandby s = false →
    s.ses.ses.find? (fun e => e.2.id == r.id) = some (k, x) → r.body.length ≤ 1400 → sameClient x.client r.client = true →
    x.busy = none → x.waiting = [] →
    let seq := r.seq % 2 ^ 32
    let d := (2 ^ 32 - x.high % 2 ^ 32 + seq) % 2 ^ 32
    0 < d → d < 2 ^ 31 →
    let q (op : Nat) : Request := { seq := seq, op := op, body := r.body, stitch := s.mix.stitch, tack := tack s 0 }
    (∀ op, ∀ c ∈ readyCommands s, startsBefore c (k, q op) = false) →
    let begun (op : Nat) : State := putSes s k { x with
      client := r.client, lastReq := s.now, high := seq, busy := some (q op)
      window := ((List.replicate (min d 64) WinPos.unused ++ x.window).take 64).set 0 .executing }
    let drawn (op : Nat) : State := { begun op with freeCtr := s.freeCtr + 1 }
    let may (op : Nat) : Prop := firstCode (opFails (begun op) k (q op)) = .ok
    let reply (t : State) (op : Nat) (c : Code) (body : List Byte) : State :=
      emit (modSes t k fun y => { y with
          window := y.window.set 0 (.stored c.num op body), busy := none, cmds := satInc 0xFFFFFFFF y.cmds })
        (.firyn r.client (message 0x11 x.id seq op c.num body))
    let queued (t : State) (kind : AdmKind) : State := addRequest t (.session k) kind s.mix.stitch (tack s 0)
    let a (off n : Nat) : Nat := leAt r.body off n
    let who : Requester := .session k
    let rec_ (off : Nat) : Rec := recOf ((r.body.drop off).take 16)
    (∀ e ∈ [(0x00, Instr.nop r), (0x01, .regRead r), (0x10, .bsOpen r), (0x11, .bsAdd r),
        (0x12, .bsCommit r), (0x13, .bsAbort r), (0x14, .change r), (0x15, .schedWrite r), (0x16, .schedDel r),
        (0x17, .enable r), (0x18, .release r), (0x20, .meterRead r), (0x21, .subscribe r), (0x30, .acceptStep r),
        (0x40, .imgBegin r), (0x41, .imgData r), (0x42, .imgEnd r), (0x43, .imgAbort r), (0x50, .cfgReset r),
        (0x51, .fullReset r), (0x60, .close r)], ¬ may e.1 →
      let fails := opFails (begun e.1) k (q e.1)
      (opLength e.1 r.body = false → exec e.2 s = .next (reply (begun e.1) e.1 (firstCode fails)
        (if indexed e.1 = true then leBytes 2 0xFFFF ++ leBytes 2 0 else []))) ∧
      ∃ c body, c ≠ .ok ∧ firstCode ((c, true) :: fails) = c ∧ exec e.2 s = .next (reply (begun e.1) e.1 c body)) ∧
    (opLength 0x02 r.body = false → exec (.regWrite r) s =
      .next (reply (begun 0x02) 0x02 (firstCode (opFails (begun 0x02) k (q 0x02))) [])) ∧
    (opLength 0x02 r.body = true → addrBad (a 0 4) 1 = true →
      exec (.regWrite r) s = .next (reply (begun 0x02) 0x02 .access [])) ∧
    (opLength 0x01 r.body = true → addrBad (a 0 4) (a 4 2) = true →
      exec (.regRead r) s = .next (reply (begun 0x01) 0x01 .access [])) ∧
    (may 0x00 → exec (.nop r) s = .next (reply (begun 0x00) 0x00 .ok [])) ∧
    (may 0x01 → 0 < a 4 2 → a 4 2 ≤ 256 → addrBad (a 0 4) (a 4 2) = false →
      exec (.regRead r) s = .next (reply (begun 0x01) 0x01 .ok (readWords (begun 0x01) (a 4 2) (a 0 4)))) ∧
    (may 0x02 → a 0 4 ≠ addr .GLB_RESET → addrBad (a 0 4) 1 = false →
      writeCode .firyn (begun 0x02) (a 0 4) (word (a 4 4)) = .ok →
      let t := carryOut .firyn (begun 0x02) (a 0 4) (word (a 4 4)) .ok
      still t = true → hasStandby t = false → t.now = s.now → t.pending = s.pending →
      sesOf t k = sesOf (begun 0x02) k → exec (.regWrite r) s = .next (reply t 0x02 .ok [])) ∧
    (may 0x10 → a 0 1 ≤ 7 → firstCode (bsOpenFails s (a 0 1)) = .ok →
      exec (.bsOpen r) s = .next (reply (bsOpen (begun 0x10) (a 0 1) who) 0x10 .ok [])) ∧
    (may 0x11 → a 0 1 ≤ 7 →
      let rs := (List.range (a 1 1)).map fun i => rec_ (4 + 16 * i)
      firstCode (bsAddFails s (a 0 1) who rs) = .ok →
      exec (.bsAdd r) s = .next (reply (bsAdd (begun 0x11) (a 0 1) rs) 0x11 .ok [])) ∧
    (may 0x12 → a 0 1 ≤ 7 → firstCode (bsCommitFails s (a 0 1) who) = .ok →
      exec (.bsCommit r) s = .next (queued (bsDeciding (begun 0x12) (a 0 1)) (.commit (a 0 1) none))) ∧
    (may 0x13 → a 0 1 ≤ 7 → firstCode (bsOwned s (a 0 1) who) = .ok →
      exec (.bsAbort r) s = .next (reply (bsFree (begun 0x13) (a 0 1)) 0x13 .ok [])) ∧
    (∀ b, may 0x14 → (rec_ 0).ok = true → ((List.range 8).find? fun b => (setOf s b).state == .free) = some b →
      exec (.change r) s = .next (queued (modSes (bsDeciding (bsAdd (bsOpen (begun 0x14) b who) b [rec_ 0]) b) k
        fun y => { y with oneSet := some b }) (.commit b none))) ∧
    (may 0x15 → a 0 2 ≤ 511 → (seWords (q 0x15)).any (fun w => outOfRange w.1 w.2) = false →
      let e := a 0 2
      let t := seWriteWords (begun 0x15) e (seWords (q 0x15))
      firstCode (seWordFails (begun 0x15) e ++ seWriteFails t e ++
        (if seAction t e = 1 then bsOwned s (seSet t e) who else [])) = .ok →
      (seAction t e = 1 → exec (.schedWrite r) s = .next (queued (setSe (bsDeciding t (seSet t e)) e {
          (seOf s e).anew .deciding with prior := seRegs.map fun r => rd s r e })
        (.commit (seSet t e) (some (e, seNear t e))))) ∧
      (seAction t e ≠ 1 → exec (.schedWrite r) s = .next (reply (seArm t e) 0x15 .ok [])) ∧
      (seNear t e = false → seArm t e = setSe t e ((seOf s e).anew .armed))) ∧
    (may 0x16 → a 0 2 ≤ 511 → firstCode (seDelFails (begun 0x16) (a 0 2)) = .ok →
      exec (.schedDel r) s = .next (reply (seDel (begun 0x16) (a 0 2)) 0x16 .ok []) ∧
      (seAction s (a 0 2) ≠ 1 → seDel (begun 0x16) (a 0 2) =
        setSe (begun 0x16) (a 0 2) { seOf s (a 0 2) with state := .free })) ∧
    (∀ o, may 0x17 → objKindOf (a 0 1) = some o → a 2 1 ≤ 3 → a 4 2 < objCount o →
      (a 1 1 = 0 → exec (.enable r) s = .next (queued (begun 0x17) (.enable o (a 4 2) (a 2 1)))) ∧
      (a 1 1 = 1 → firstCode (disFails (begun 0x17) o (a 4 2)) = .ok →
        exec (.enable r) s = .next (reply (disableLater (begun 0x17) o (a 4 2)) 0x17 .ok []))) ∧
    (may 0x18 →
      (a 0 1 = 0 → a 2 2 ≤ 2047 → (hemOf s (a 2 2)).muted = true →
        exec (.release r) s = .next (reply (hemClrLater (begun 0x18) (a 2 2)) 0x18 .ok [])) ∧
      (a 0 1 = 1 → a 2 2 ≤ 7 → (coOf s (a 2 2)).state = .held →
        exec (.release r) s = .next (reply (coClr (begun 0x18) (a 2 2)) 0x18 .ok []))) ∧
    (may 0x20 → 0 < a 2 2 → a 2 2 ≤ 128 → a 0 2 + a 2 2 ≤ 4096 →
      exec (.meterRead r) s = .next (reply (begun 0x20) 0x20 .ok
        (leBytes 8 s.mix.stitch ++ (List.range (a 2 2)).flatMap fun i => meterBytes s (a 0 2 + i)))) ∧
    (may 0x21 → a 4 1 ≤ 1 → a 0 2 + a 2 2 ≤ 2048 →
      let others := x.subs.filter fun e => !(decide (a 0 2 ≤ e) && decide (e < a 0 2 + a 2 2))
      exec (.subscribe r) s = .next (reply (modSes (begun 0x21) k fun y => { y with
        subs := if a 4 1 = 1 then others ++ (List.range (a 2 2)).map (a 0 2 + ·) else others }) 0x21 .ok [])) ∧
    (may 0x30 → a 0 1 ≤ 3 → (tbOf s (a 0 1)).state = .jumpHeld → (tbOf s (a 0 1)).committed = none →
      (tbOf s (a 0 1)).jumpGen = a 1 1 → s.mix.audioOn = true →
      exec (.acceptStep r) s = .next (reply (setTbk (begun 0x30) (a 0 1)
        { tbOf s (a 0 1) with committed := some s.now, after := .tracking }) 0x30 .ok (leBytes 8 (effectStitch s + 1)))) ∧
    (may 0x40 → 64 ≤ a 0 4 → a 0 4 ≤ 4194304 → s.pl.rescan = false → s.pl.cfgRun = false →
      s.pl.xfer = none ∨ ownsXfer s k = true → imageOf s (inactive s == 1) ≠ .unreadable →
      exec (.imgBegin r) s = .next (if Config.norFails s.freeCtr = true then reply (norError (drawn 0x40)) 0x40 .internal []
        else reply (imgBegin (drawn 0x40) k (a 0 4)) 0x40 .ok [])) ∧
    (∀ y, s.pl.xfer = some y → y.owner = k →
      (may 0x41 → a 0 4 = y.got → y.got + (r.body.drop 4).length ≤ y.len →
        (r.body.drop 4).length % 4 = 0 ∨ y.got + (r.body.drop 4).length = y.len →
        exec (.imgData r) s = .next (
          if y.got + (r.body.drop 4).length ≤ 64 then reply (imgData (begun 0x41) y (r.body.drop 4)) 0x41 .ok []
          else if Config.norFails s.freeCtr = true then reply (norError (drawn 0x41)) 0x41 .internal []
          else reply (imgData (drawn 0x41) y (r.body.drop 4)) 0x41 .ok [])) ∧
      (may 0x42 → y.got = y.len →
        let c := imgCheck s y
        (c.fail ≠ 0 → exec (.imgEnd r) s = .next (reply (imgEnd (begun 0x42) y c) 0x42 .integrity [])) ∧
        (c.fail = 0 → if Config.norFails s.freeCtr = true then
            ∃ t, exec (.imgEnd r) s = .next (reply t 0x42 .internal []) ∧ t.pl.xfer = none ∧ imageOf t (inactive s == 1) = .bytes []
          else exec (.imgEnd r) s = .next (reply (imgEnd (drawn 0x42) y c) 0x42 .ok (leBytes 4 c.seq)))) ∧
      (may 0x43 → exec (.imgAbort r) s = .next (reply (abortXfer (begun 0x43)) 0x43 .ok []))) ∧
    (may 0x50 → a 0 4 = 0x53566480 → s.pl.cfgRun = false → held s 17 = false → s.glb.mode = .bare →
      exec (.cfgReset r) s = .next (fullReset (reply (begun 0x50) 0x50 .ok []) 2)) ∧
    (may 0x50 → a 0 4 = 0x53566480 → s.pl.cfgRun = false → held s 17 = false → s.glb.mode ≠ .bare →
      exec (.cfgReset r) s = .next (closeWhere (reply (startCfgReset (begun 0x50)) 0x50 .ok []) fun _ => true)) ∧
    (may 0x51 → a 0 4 = 0x53566480 →
      exec (.fullReset r) s = .next (fullReset (reply (begun 0x51) 0x51 .ok []) 2)) ∧
    (may 0x60 → exec (.close r) s = .next (closeSession (reply (begun 0x60) 0x60 .ok []) k))

/-- O45. In a lone unit that serves Firyn, a HELLO of 32 bytes from a network client that is not blocked is answered by
a CHALLENGE with a nonce and a SESSION_ID that is not zero and that no open or challenged session has; a fifth
challenged session displaces the oldest. A PROOF of 16 bytes uses its challenge up: with nothing against it the session
opens under the lowest free number, SES_EVENT reports it and a WELCOME carries its number, role, idle time and MAC; a
wrong MAC is counted, blocks the source for 1 s, and is reported; every failure is answered by its code. CHALLENGE_LAPSE
drops challenges that are 2 s old, AUTH_BLOCK_EXPIRE blocks that have ended, SESSION_IDLE_TIMEOUT closes idle sessions,
KILL the named one, and a change of the session network registers all those of the network (of SES_MBOX, cleared, those
of the mailbox); SES_IP6 changes as a whole with its word 3, its other words wait for it. Bytes that are no message, a
HELLO or a PROOF with a body of another length and a PROOF that names no session are counted as malformed (a PROOF that
names an open session changes nothing); others act as their row. Closing removes the session, is reported, aborts the
image transfer it owns, and leaves no set in its name. Spec: R332; R333; R334; R335; R336; R337; R338; R339; R340; R354;
R370; spec/03 Table 03-3. -/
def Obligations.SessionsOpenAndClose : Prop :=
  ∀ (s : State) (c : Client), calm s = true →
    let hears : Prop := sesServed s = true ∧ reaches s c = true ∧ c.mbox = false
    let gone (t : State) : State := closeWhere t fun x => !x.client.mbox
    let counted : State := s.setSes fun y => { y with malformed := satInc 0xFFFF y.malformed }
    (∀ body : List Byte, hears → held s 14 = false → body.length = 32 →
      (∀ b ∈ s.ses.blocked, sameSource b.1 c = true → b.2 ≤ s.now) →
      let id := freshId s (Config.sessionId s.freeCtr).toNat
      let dn := leBytes 16 (Config.nonce (s.freeCtr + 1)).toNat
      exec (.hello c body) s = .next (emit { s with
        freeCtr := s.freeCtr + 2
        ses := { s.ses with
          chals := (if s.ses.chals.length < 4 then s.ses.chals else s.ses.chals.drop 1) ++ [{
            id := id, client := c, role := leNat (body.take 1), idle := leAt body 20 2
            cnonce := (body.drop 4).take 16, dnonce := dn, at_ := s.now }] } } (.firyn c (message 0x02 id 0 0 0 dn)))) ∧
    (∀ body : List Byte, hears → held s 14 = false → body.length ≠ 32 → exec (.hello c body) s = .next counted) ∧
    (∀ (id : Nat) (body : List Byte), hears → s.ses.chals.find? (fun ch => ch.id == id) = none →
      exec (.proof c id body) s = .next (if idUsed s id = true then s else counted)) ∧
    (∀ (id : Nat) (body : List Byte) (ch : Chal), hears → s.ses.chals.find? (fun ch => ch.id == id) = some ch →
      body.length ≠ 16 → exec (.proof c id body) s = .next counted) ∧
    (∀ n, s.ses.ses.length ≤ 16 → s.ses.chals.length ≤ 4 → freshId s n ≠ 0 ∧ idUsed s (freshId s n) = false) ∧
    (∀ (id : Nat) (body : List Byte) (ch : Chal), hears → s.ses.chals.find? (fun ch => ch.id == id) = some ch →
      body.length = 16 →
      let u := s.setSes fun y => { y with chals := y.chals.filter fun x => x.id != id }
      let code := firstCode (proofFails u ch body)
      let k := (Tbl.freeFrom s.ses.ses 16 0).getD 0
      let idle := if ch.idle = 0 then fv s .SES_CFG_IDLE_DEF else ch.idle
      let welcome (t : State) (code : Code) (body : List Byte) : State :=
        emit t (.firyn c (message 0x04 id 0 0 code.num body))
      (code = .ok → ch.id = id → exec (.proof c id body) s = .next (welcome (raise (putSes u k
          { id := id, role := ch.role, client := c, idle := idle, lastReq := s.now }) .SES_EVENT 1) .ok
        (leBytes 1 k ++ leBytes 1 ch.role ++ leBytes 2 idle ++ leBytes 4 0x53566480 ++
          firynMac ((roleKey s ch.role).getD []) 0x32#8 ch.dnonce ch.cnonce id ch.role idle))) ∧
      (code = .integrity → exec (.proof c id body) s = .next (welcome (raise (u.setSes fun y => { y with
          authFails := satInc 0xFFFF y.authFails, blocked := y.blocked ++ [(c, s.now + 1000000000)] }) .SES_EVENT 4)
        .integrity [])) ∧
      (code ≠ .ok → code ≠ .integrity → exec (.proof c id body) s = .next (welcome u code []))) ∧
    exec .challengeLapse s = .next (s.setSes fun y => { y with
      chals := y.chals.filter fun c => decide (s.now < c.at_ + 2000000000) }) ∧
    exec .authBlockExpire s = .next (s.setSes fun y => { y with blocked := y.blocked.filter fun b => decide (s.now < b.2) }) ∧
    exec .sessionIdleTimeout s = .next (closeWhere s fun x => decide (x.lastReq + 1000000000 * x.idle ≤ s.now)) ∧
    (Accepted s .SES_CMD 0 0 1 →
      exec .kill s = .next (closeSession (noted s .SES_CMD 0 0) (fv s .SES_CMD_ARG_SESSION))) ∧
    (∀ (v : Word) (j : Fin 4),
      (Accepted s .SES_NET 0 0 v → exec (.sesConfigWrite .net v 15) s =
        .next (wr (gone (noted s .SES_NET 0 0)) .SES_NET (kept .SES_NET v))) ∧
      (Accepted s .SES_CFG 0 0 v → exec (.sesConfigWrite .cfg v 15) s =
        .next (wr (gone (noted s .SES_CFG 0 0)) .SES_CFG (kept .SES_CFG v))) ∧
      (Accepted s .SES_IP4 0 0 v → exec (.sesConfigWrite .ip4 v 15) s =
        .next (wr (gone (noted s .SES_IP4 0 0)) .SES_IP4 (kept .SES_IP4 v))) ∧
      (Accepted s .SES_IP6 j 0 v → j ≠ 3 → exec (.sesConfigWrite (.ip6 j) v 15) s = .next { noted s .SES_IP6 j 0 with
        rf := { s.rf with hi := Tbl.put s.rf.hi (addr .SES_IP6 j) (kept .SES_IP6 v) } }) ∧
      (Accepted s .SES_IP6 3 0 v →
        let word (i : Nat) : Word := Tbl.getD s.rf.hi (addr .SES_IP6 i) (rd s .SES_IP6 i)
        let u := gone (noted s .SES_IP6 3 0)
        let t := wr (wr (wr u .SES_IP6 (word 0) 0) .SES_IP6 (word 1) 1) .SES_IP6 (word 2) 2
        let left := Tbl.del (Tbl.del (Tbl.del s.rf.hi (addr .SES_IP6 0)) (addr .SES_IP6 1)) (addr .SES_IP6 2)
        s.rf.regs.wf = true → exec (.sesConfigWrite (.ip6 3) v 15) s =
          .next (wr { t with rf := { t.rf with hi := left } } .SES_IP6 (kept .SES_IP6 v) 3)) ∧
      (Accepted s .SES_MBOX 0 0 v → bit (kept .SES_MBOX v) 31 = false → s.rf.regs.wf = true →
        exec (.sesConfigWrite .mbox v 15) s = .next (wr (closeWhere (noted s .SES_MBOX 0 0) fun x => x.client.mbox) .SES_MBOX
          (kept .SES_MBOX v)))) ∧
    (∀ bs : List Byte, hears →
      let body := bs.drop 16
      let formed : Prop := bs.take 3 = [0x46, 0x59, 1] ∧ 16 ≤ bs.length ∧ leAt bs 12 2 = body.length ∧ body.length ≤ 1400
      (¬ formed → exec (.malformedMessage c bs) s = .next counted) ∧
      (formed → leAt bs 3 1 = 1 → exec (.malformedMessage c bs) s = exec (.hello c body) s) ∧
      (formed → leAt bs 3 1 = 3 → exec (.malformedMessage c bs) s = exec (.proof c (leAt bs 4 4) body) s) ∧
      (formed → leAt bs 3 1 = 0x10 → leAt bs 14 1 = 0x00 → exec (.malformedMessage c bs) s =
        exec (.nop { client := c, id := leAt bs 4 4, seq := leAt bs 8 4, body := body }) s) ∧
      (formed → leAt bs 3 1 ≠ 1 → leAt bs 3 1 ≠ 3 → leAt bs 3 1 ≠ 0x10 → exec (.malformedMessage c bs) s = .next counted)) ∧
    (∀ (u : State) (k : Nat) (x : Ses), sesOf u k = some x → u.ses.ses.wf = true → u.rf.regs.wf = true → u.mix.sets.wf = true →
      let t := closeSession u k
      sesOf t k = none ∧ bit (rd t .SES_EVENT) 1 = true ∧ (ownsXfer u k = true → t.pl.xfer = none) ∧
        ∀ b < 8, (setOf t b).owner ≠ some (.session k))

/-- O46. In a lone unit with nothing left over, REGISTER_WRITE answers as follows. Byte enables other than all four give
ACCESS; a BAR0 write that fails its checks (of a register whose parity is right) its code, and a poisoned one INTEGRITY
or the code of a check that R23 puts before it: REG_WSTATUS takes code and address, REG_WERROR the first failure,
REG_WERRCNT counts, WRITE_ERR is raised, and nothing else changes. A window write fails with ACCESS where the window has
no writable field and with PASSIVE on a standby. An accepted write of any of the registers named stores the value's
writable bits, reads back so, and beside REG_WSTATUS nothing else changes; one of MIX_RAMP_DEF, MIX_KEY_RAMP, HOST_IN,
HOST_OUT or a seam's word 0 is stored too, and the value in force stays the one before until its boundary; rule word 0
with EN 0 also clears latch and timer at the next evaluation. An accepted write of an event register clears exactly the
flags written 1 (the wake its sources cause may raise the WAKE flag again). An accepted SAF_CFG write waits with its
instant, offset and value and the register reads as before; POSTED_WRITE_APPLY applies the write accepted first and
drops it. SCRUB_PASS that finds nothing new wrong counts one pass, and raises CFG_PARITY again for what is wrong still
(log entry 108). Spec: R22; R24; R355; R359; R360; R361; R362; R364; R365; R366; R371; spec/16 Table 16-5. -/
def Obligations.RegisterWrites : Prop :=
  ∀ (s : State) (v : Word), calm s = true → s.rf.regs.wf = true →
    let failed (c : Code) (bar off : Nat) : State := raise (s.setGlb fun g => { g with
      wstatus := statusWord c bar off
      werror := some (g.werror.getD (statusWord c bar off))
      werrCnt := satInc 0xFFFFFFFF g.werrCnt }) .GLB_EVENT 1
    (∀ (bar2 : Bool) (off : Nat) (be : Fin 16) (poison : Bool), be.val ≠ 15 → bar2 = true ∨ s.rf.parityBad.contains off = false →
      exec (.registerWrite bar2 off v be poison) s = .next (failed .access (if bar2 then 2 else 0) off)) ∧
    (∀ off, s.rf.parityBad.contains off = false → exec (.registerWrite false off v 15 true) s = .next (failed
      (match findReg off with
        | some (r, i, j) => firstCode ((.integrity, true) :: regFails .pcie s r i j off v)
        | none => .access) 0 off)) ∧
    (∀ off, writeCode .pcie s off v ≠ .ok → s.rf.parityBad.contains off = false →
      exec (.registerWrite false off v 15 false) s = .next (failed (writeCode .pcie s off v) 0 off)) ∧
    (∀ (off : Nat) (poison : Bool),
      (windowField (off % 4096) = false → exec (.registerWrite true off v 15 poison) s = .next (failed .access 2 off)) ∧
      (windowField (off % 4096) = true → off < 2 ^ 24 → s.glb.passive = true →
        exec (.registerWrite true off v 15 poison) s = .next (failed .passive 2 off))) ∧
    (∀ r ∈ ([.FAB_VHOLD, .TB_CMD_ARG, .TC_CTRL, .PHY_LAT, .TB_VLAN, .TB_DS, .TB_DS2, .TB_INTV, .TB_SERVO, .TB_JTHR, .TB_UTC,
        .REF_CMD_ARG, .MC_OFS, .MC_SW_PS, .SYN_CMD_ARG, .SYN_LOCK, .SYN_LOL, .PLS_WIDTH, .PLS_TOL, .CG_FMT, .CG_TIMING, .CG_ACC,
        .LANE_DIR, .SW_CFG, .SW_MACW, .PORT_VLAN, .PORT_PCPMAP, .CBS_A, .CBS_B, .GATE_CTRL, .GATE_CYCLE,
        .GATE_BASE_HI, .GATE_BASE_LO, .GATE_BASE_NS, .VLAN, .GATE_ADM_W0, .GATE_ADM_W1, .STR_CMD_ARG, .RX_W0, .RX_W2, .RX_W3,
        .RX_W4, .RX_DST_A, .RX_SRC_A, .RX_DST_B, .RX_SRC_B, .TX_W0, .TX_W1, .TX_W2, .TX_W3, .TX_W4, .TX_W5, .TX_W6, .TX_W7,
        .TX_DST_A, .TX_DST_B, .TX_SRC_A, .TX_SRC_B, .TX_CS0, .TX_CS, .BS_REC, .DYN_CMD_ARG,
        .RB_CMD_ARG, .RB_SEAM_CFG, .SM_W1, .SC_W0, .SC_W1, .CIO_CMD_ARG, .CIO_SOFT, .GP_OUT, .GP_CFG, .CR_W1,
        .CR_W2, .CR_W3, .CR_W4, .CR_W5, .CR_W6, .SE_W0, .SE_W1, .SE_W2, .SE_W3, .SE_W4, .SPL_CMD_ARG, .SPL_STALL, .SP_W1,
        .EVT_CMD_ARG, .EV_GRP, .EV_HGRP, .ATT_RX, .ATT_TX, .ATT_CG, .MSIX_LO, .MSIX_HI, .MSIX_DATA, .MSIX_CTRL, .SES_KEYS,
        .SES_CMD_ARG] : List Reg), ∀ i < (desc r).n1, ∀ j < (desc r).n2, Accepted s r i j v →
      let t := wr (noted s r i j) r (kept r v) i j
      exec (.registerWrite false (addr r i j) v 15 false) s = .next t ∧ rd t r i j = kept r v) ∧
    (∀ r ∈ ([.MIX_RAMP_DEF, .MIX_KEY_RAMP, .HOST_IN, .HOST_OUT, .SM_W0] : List Reg), ∀ i < (desc r).n1, Accepted s r i 0 v →
      let w := wr (noted s r i 0) r (kept r v) i
      let t : State := { w with rf := { w.rf with
        force := Tbl.put s.rf.force (addr r i) (rdF s r i), waits := s.rf.waits ++ [(s.now, addr r i, kept r v)] } }
      exec (.registerWrite false (addr r i) v 15 false) s = .next t ∧ rd t r i = kept r v ∧ rdF t r i = rdF s r i) ∧
    (∀ i < (desc .CR_W0).n1, Accepted s .CR_W0 i 0 v →
      let t := wr (noted s .CR_W0 i 0) .CR_W0 (kept .CR_W0 v) i
      let clears (z : Tbl RuleSt) : Tbl RuleSt := Tbl.upd z i fun x => { x with fresh := true }
      exec (.registerWrite false (addr .CR_W0 i) v 15 false) s = .next (if bit v 31 = true then t else
        t.setCio fun y => { y with ruleA := clears y.ruleA, ruleB := clears y.ruleB })) ∧
    (∀ (r : Reg) (i : Nat), (evtGroup r).isSome → i < (desc r).n1 → 0 < (desc r).n2 → Accepted s r i 0 v →
      let w := word ((rd s r i).toNat - ((rd s r i).toNat &&& v.toNat &&& (desc r).w1c))
      ∃ t, exec (.registerWrite false (addr r i) v 15 false) s = .next t ∧ OnlyFlags s t ∧
        t = { noted s r i 0 with rf := t.rf, evt := t.evt, emitted := t.emitted } ∧
        (rd t r i = w ∨ r = .EVT_EVENT ∧ rd t r i = word (w.toNat ||| 0x100))) ∧
    (Accepted s .SAF_CFG 0 0 v →
      let t := { noted s .SAF_CFG 0 0 with rf := { s.rf with posted := s.rf.posted ++ [(s.now, addr .SAF_CFG, kept .SAF_CFG v)] } }
      exec (.registerWrite false (addr .SAF_CFG) v 15 false) s = .next t ∧ rd t .SAF_CFG = rd s .SAF_CFG) ∧
    (∀ (a off : Nat) (w : Word) (ps : List (Nat × Nat × Word)) (r : Reg) (i j : Nat), s.rf.posted = (a, off, w) :: ps →
      findReg off = some (r, i, j) → i < (desc r).n1 → j < (desc r).n2 → r ≠ .SES_MBOX → (r = .PR_CFG → i = 0 ∧ j = 0) →
      exec .postedWriteApply s = .next (wr { s with rf := { s.rf with posted := ps } } r w i j)) ∧
    (s.rf.posted = [] → exec .postedWriteApply s = .next s) ∧
    (∀ bad : List Nat, (∀ off ∈ bad, s.rf.parityBad.contains off = true ∨ findReg off = none) →
      let u := s.setGlb fun g => { g with scrubCnt := (g.scrubCnt + 1) % 2 ^ 32 }
      exec (.scrubPass bad) s = .next (if s.rf.parityBad = [] then u else raise u .GLB_EVENT 2))

/-- O47. A witness in service keeps a heartbeat with right SYNC and CRC that arrives on the line of the unit it names,
with its start; any other bytes, and everything while no witness service runs, change nothing. At WITNESS_DECISION,
with the valid heartbeats judged and MATCH true only when both are valid with equal STITCH and OUTCRC: in NONE a unit
that says ROLE 1 is granted, A before B, else a claimant, A before B, else nobody; in ACT_X the lines move to Y when X
has failed and Y is eligible for takeover, or X has not failed and Y is eligible for reversion, else they stay.
Afterwards exactly the line of the granted unit is high, the heartbeats are used up, SEEN and MATCH are as judged, a
unit without a valid heartbeat counts a miss, and one frame is sent; when a line moves, that is counted and the
falling line falls first. Nothing but the witness and what it emits changes. Spec: R415; R416; R417; R418; R419;
spec/18 Table 18-5; spec/18 Table 18-4. -/
def Obligations.WitnessDecides : Prop :=
  ∀ s : State, calm s = true →
    (∀ (line : Bool) (bs : List Byte) (start : Nat),
      (∀ h, witnessOn s = true → parseHeartbeat bs = some h → h.unit = b2n line →
        exec (.heartbeatReceive line bs start) s = .next (s.setWit fun w =>
          if line then { w with hbB := some (h, start) } else { w with hbA := some (h, start) })) ∧
      (witnessOn s = false ∨ parseHeartbeat bs = none ∨ (∃ h, parseHeartbeat bs = some h ∧ h.unit ≠ b2n line) →
        exec (.heartbeatReceive line bs start) s = .next s)) ∧
    (witnessOn s = false → exec .witnessDecision s = .next s) ∧
    (witnessOn s = true →
      let w := s.wit
      let a := (validHb w (expectedStart s w) false).map (·.1)
      let b := (validHb w (expectedStart s w) true).map (·.1)
      let same : Bool := match a, b with
        | some x, some y => x.stitch == y.stitch && x.outcrc == y.outcrc
        | _, _ => false
      let failed (x : Option Heartbeat) : Bool := x.all fun h => !h.healthy || h.yielding
      let takes (y : Option Heartbeat) : Bool := y.any fun h => h.healthy && !h.yielding && h.role == 2 && (h.synced || h.claim)
      let reverts (y : Option Heartbeat) : Bool := y.any fun h => h.healthy && !h.yielding && h.role == 2 && h.synced && h.claim && same
      let claims (x : Option Heartbeat) : Bool := x.any fun h => h.healthy && !h.yielding && h.claim
      let holds (x : Option Heartbeat) : Bool := x.any fun h => h.role == 1
      ∃ t, exec .witnessDecision s = .next t ∧ t = { s with wit := t.wit, emitted := t.emitted } ∧
        (w.state = .none → t.wit.state =
          if holds a then .actA else if holds b then .actB else if claims a then .actA else if claims b then .actB else .none) ∧
        (w.state = .actA → t.wit.state = if (failed a && takes b) || (!failed a && reverts b) then .actB else .actA) ∧
        (w.state = .actB → t.wit.state = if (failed b && takes a) || (!failed b && reverts a) then .actA else .actB) ∧
        t.wit.lineA = (t.wit.state == .actA) ∧ t.wit.lineB = (t.wit.state == .actB) ∧
        t.wit.hbA = none ∧ t.wit.hbB = none ∧ t.wit.seenA = a.isSome ∧ t.wit.seenB = b.isSome ∧ t.wit.isMatch = same ∧
        (a = none → t.wit.missA = satInc 0xFFFF w.missA) ∧ (b = none → t.wit.missB = satInc 0xFFFF w.missB) ∧
        (a ≠ none → t.wit.missA = w.missA ∧ t.wit.agoA = 0) ∧ (b ≠ none → t.wit.missB = w.missB ∧ t.wit.agoB = 0) ∧
        (∃ f : WitFrame, f.oeA = t.wit.lineA ∧ f.oeB = t.wit.lineB ∧ f.seenA = a.isSome ∧ f.seenB = b.isSome ∧ f.isMatch = same ∧
          f.id = Config.uid.toNat % 2 ^ 32 ∧ t.wit.sent = some f.stitch ∧
          t.emitted = s.emitted ++ [.witness f.bytes] ++
            (if t.wit.lineA = w.lineA ∧ t.wit.lineB = w.lineB then []
             else (if w.lineA || w.lineB then [.oeLines false false] else []) ++ [.oeLines t.wit.lineA t.wit.lineB])) ∧
        (t.wit.lineA = w.lineA ∧ t.wit.lineB = w.lineB → t.wit.moves = w.moves) ∧
        (¬ (t.wit.lineA = w.lineA ∧ t.wit.lineB = w.lineB) → t.wit.moves = satInc 0xFFFFFFFF w.moves))

/-- O48. A unit of a pair keeps a valid witness frame for its gate and counts an invalid one; the peer's SEEN flag
clears or counts the stitches without the peer; an UNSYNCED unit of cause 1 or 2 with LAST_RESORT and 8 of them claims,
and that claim stands until the peer is seen. At OUTPUT_GATE_UPDATE a stitch without a valid frame counts as missed and
ends the count of stitches without the peer, and the third in a row freezes a unit that is not frozen: WIT_OK, MATCHES
and WTR are cleared and WITNESS_CHANGE is raised. With a frame, a frozen unit keeps its gate and counts: the 64th
agreeing frame in a row ends it with WITNESS_CHANGE, the 64th of the other level raises WIT_MISMATCH. A unit that is not
frozen sets WIT_OK, and its gate takes the level of its own OE flag if the OE_ALLOW line has read it without
interruption since F_n + 0.5 µs and, for a rise, the unit is CLAIMING, STANDBY or UNSYNCED, or was when the stitch's
divergence or yield began, and not in QUIET; else the gate stays. When the gate of a yielding unit that does not remove
itself falls, the yield ends. Outside a working unit of a pair nothing changes. YIELD_TIMEOUT releases the gate of a
YIELDED unit that has driven on for 64 stitches. OE_ALLOW_PIN_CHANGE is noted with its instant; alone, out of reset and
not in QUIET, the gate follows the pin. Spec: R420; R421; R422; R423; R425; R394; R455. -/
def Obligations.GateFollowsWitness : Prop :=
  ∀ s : State, settled s = true → s.cio.sched.wf = true → s.ses.ses.wf = true →
    (∀ bs : List Byte,
      let bad : State := s.setPr fun p => { p with witBad := satInc 0xFFFF p.witBad }
      (unitOn s = false → exec (.witnessFrameReceive bs) s = .next s) ∧
      (unitOn s = true → parseWitFrame bs = none → exec (.witnessFrameReceive bs) s = .next bad) ∧
      (∀ f, unitOn s = true → parseWitFrame bs = some f →
        (s.mix.audioOn = true → f.stitch ≠ s.mix.stitch % 65536 → exec (.witnessFrameReceive bs) s = .next bad) ∧
        (s.mix.audioOn = false ∨ f.stitch = s.mix.stitch % 65536 → ¬ (s.pr.state = .claiming ∧ f.peerOe s = true) →
          let n := if f.peerSeen s then 0 else satInc 8 s.pr.unseen
          exec (.witnessFrameReceive bs) s = .next (s.setPr fun p => { p with
            frame := some f, lastFrame := some f, witId := f.id, unseen := n
            resort := (p.resort && !f.peerSeen s) || (p.state == .unsynced && fb s .PR_CFG_LAST_RESORT && decide (8 ≤ n) &&
              (p.cause == 1 || p.cause == 2)) })))) ∧
    (unitOn s = false → exec .outputGateUpdate s = .next s) ∧
    (unitOn s = true → s.pr.frame = none →
      let u := s.setPr fun p => { p with
        missed := satInc 0xFFFF p.missed, missRun := p.missRun + 1, agreeRun := 0, otherRun := 0, unseen := 0 }
      exec .outputGateUpdate s = .next (if 2 ≤ s.pr.missRun ∧ s.pr.frozen = false then
        raise (u.setPr fun p => { p with frozen := true, witOk := false, matchCnt := 0, wtrFrom := none }) .PR_EVENT 0x10 else u)) ∧
    (∀ f, unitOn s = true → s.pr.frame = some f →
      let u := s.setPr fun p => { p with frame := none, missRun := 0 }
      let oe := f.ownOe s
      let steady : Prop := s.pr.line = oe ∧ s.pr.lineAt + 3500 ≤ s.now
      let v := u.setPr fun p => { p with witOk := true }
      (s.pr.frozen = true → oe = s.glb.gate → exec .outputGateUpdate s = .next (if 63 ≤ s.pr.agreeRun then
        raise (u.setPr fun p => { p with frozen := false, witOk := true, agreeRun := 0, otherRun := 0 }) .PR_EVENT 0x10
        else u.setPr fun p => { p with agreeRun := p.agreeRun + 1, otherRun := 0 })) ∧
      (s.pr.frozen = true → oe ≠ s.glb.gate →
        let w := u.setPr fun p => { p with agreeRun := 0, otherRun := p.otherRun + 1 }
        exec .outputGateUpdate s = .next (if s.pr.otherRun = 63 then raise w .PR_EVENT 0x100 else w)) ∧
      (s.pr.frozen = false → (oe = s.glb.gate ∨ ¬ steady) → exec .outputGateUpdate s = .next v) ∧
      (s.pr.frozen = false → oe ≠ s.glb.gate → steady → oe = true → s.saf.quiet = none →
        let may : Prop := (s.pr.state = .claiming ∨ s.pr.state = .standby ∨ s.pr.state = .unsynced ∨
          s.pr.riseStands = true ∧ (s.pr.state = .joining ∨ s.pr.state = .yielded)) ∧ s.glb.mode ≠ .quiet
        (may → exec .outputGateUpdate s = .next (setGate v true) ∧ (setGate v true).glb.gate = true) ∧
        (¬ may → exec .outputGateUpdate s = .next v)) ∧
      (s.pr.frozen = false → oe ≠ s.glb.gate → steady → oe = false →
        (s.pr.state ≠ .yielded → exec .outputGateUpdate s = .next (setGate v false) ∧ (setGate v false).glb.gate = false) ∧
        (s.pr.state = .yielded → s.pl.eject = false →
          exec .outputGateUpdate s = .next ((setGate v false).setPr fun p => { p with yieldRun := none })))) ∧
    (∀ n, s.pr.yieldRun = some n → s.pr.state = .yielded → 64 ≤ n → s.glb.gate = true → s.pl.eject = false →
      exec .yieldTimeout s = .next ((setGate s false).setPr fun p => { p with yieldRun := none }) ∧ (setGate s false).glb.gate = false) ∧
    ((∀ n, s.pr.yieldRun = some n → s.pr.state = .yielded → 64 ≤ n → s.glb.gate = false) → exec .yieldTimeout s = .next s) ∧
    (∀ level : Bool,
      let u := s.setPr fun p => { p with line := level, lineAt := s.now }
      (isPair s = true ∨ isWitness s = true ∨ s.glb.inReset = true → exec (.oeAllowPinChange level) s = .next u) ∧
      (isPair s = false → isWitness s = false → s.glb.inReset = false → s.glb.mode ≠ .quiet → s.saf.quiet = none →
        exec (.oeAllowPinChange level) s = .next (setGate u level) ∧ (setGate u level).glb.gate = level))

/-- O49. In a settled unit of a pair, LINING_UP after 64 stitches of messages, the peer hearing them too, raises
LINING_CHANGE and sends the own DIGEST; LINING_DOWN after three stitches without one at either unit, or with block lock
lost, raises it and takes a STANDBY or JOINING unit to UNSYNCED of cause 2. JOIN_START takes an UNSYNCED unit whose
lining is up, whose last frame shows the peer driving and whose peer has its DIGEST to JOINING, and asks to join with
the DIGEST; JOIN_TIMEOUT after 2 s takes it to UNSYNCED of cause 2. REVERSION_WTR_EXPIRE sets CLAIM of the preferred
unit at the end of WTR, CLAIM_TIMEOUT clears it with MATCHES after 64 stitches without the gate. REMIRROR joins (or ends
UNSYNCED of cause 2 with the lining down, of cause 3 with JOIN_REFUSED and another DIGEST). RELINQUISH makes the ACTIVE
unit YIELDED: it takes no writes of active-owned state; one whose gate is high drives on, but a FROZEN one releases it
at once; the role and what it sends stay until the first boundary after the gate has fallen (roleEnds), which ends them
with ROLE_CHANGE. Each other state but ACTIVE and STANDBY sends no leg, STANDBY entered or left raises SYNC_CHANGE,
CLR_COUNTS clears the counts and a PR_CFG write is posted. Where its condition does not hold, an event changes nothing.
Spec: R423; R425; R426; R430; R433; R434; R436; R441; R366; spec/18 Table 18-6; spec/18 Table 18-7. -/
def Obligations.UnitChangesState : Prop :=
  ∀ s : State, settled s = true → s.cio.sched.wf = true → s.ses.ses.wf = true → s.rf.regs.wf = true →
    let within (t : State) : Prop := OnlyFlags s t ∧ t = { s with
      rf := t.rf, evt := t.evt, emitted := t.emitted, cio := { s.cio with cos := t.cio.cos }, tb := t.tb, pr := t.pr, glb := t.glb
      str := { s.str with tx := t.str.tx, tails := t.str.tails } }
    let silent (t : State) : Prop := t.glb.passive = true ∧ t.glb.active = false ∧ t.glb.sendA = false ∧ t.glb.sendB = false ∧
      t.glb.sendOne = false ∧ t.pr.matchCnt = 0 ∧ t.pr.wtrFrom = none ∧ t.pr.claim = false ∧
      (s.pr.state = .standby → bit (rd t .PR_EVENT) 3 = true) ∧ within t
    let unsynced (cause : Nat) (t : State) : Prop := t.pr.state = .unsynced ∧ t.pr.cause = cause ∧ t.pr.join = none ∧ silent t
    let joins (t : State) : Prop := t.pr.state = .joining ∧ t.pr.join = some { from_ := s.now } ∧
      t.emitted = s.emitted ++ (if s.pr.state = .standby then [.lining (.peer false)] else []) ++ [.lining (.joinAsk s.pl.digest)] ∧
      silent t
    (unitOn s = true → s.pr.linUp = false → 64 ≤ s.pr.linRun → s.pr.peerDeaf = false → exec .liningUp s = .next
      (emit (raise (s.setPr fun p => { p with linUp := true }) .PR_EVENT 0x20) (.lining (.digest s.pl.digest)))) ∧
    (unitOn s = false ∨ s.pr.linUp = true ∨ s.pr.linRun < 64 ∨ s.pr.peerDeaf = true → exec .liningUp s = .next s) ∧
    (∀ lost : Bool,
      let down : Prop := unitOn s = true ∧ s.pr.linUp = true ∧ (lost = true ∨ 3 ≤ s.pr.linMiss ∨ s.pr.peerDeaf = true)
      (¬ down → exec (.liningDown lost) s = .next s) ∧
      (down → s.pr.state = .standby ∨ s.pr.state = .joining → ∃ t, exec (.liningDown lost) s = .next t ∧ unsynced 2 t ∧
        t.pr.linUp = false ∧ t.pr.peerSync = false ∧ bit (rd t .PR_EVENT) 5 = true) ∧
      (down → s.pr.state ≠ .standby → s.pr.state ≠ .joining → s.pl.net = none → exec (.liningDown lost) s =
        .next (raise (s.setPr fun p => { p with linUp := false, linRun := 0, peerSync := false }) .PR_EVENT 0x20))) ∧
    (let may : Prop := unitOn s = true ∧ s.pr.state = .unsynced ∧ s.pr.linUp = true ∧ s.pr.missRun = 0 ∧
        (∃ f, s.pr.lastFrame = some f ∧ f.peerOe s = true) ∧ s.pr.peerDigest = s.pl.digest;
      (may → ∃ t, exec .joinStart s = .next t ∧ joins t) ∧ (¬ may → exec .joinStart s = .next s)) ∧
    (∀ j, s.pr.join = some j → s.pr.state = .joining →
      (j.from_ + 2000000000 ≤ s.now → ∃ t, exec .joinTimeout s = .next t ∧ unsynced 2 t) ∧
      (s.now < j.from_ + 2000000000 → exec .joinTimeout s = .next s)) ∧
    (s.pr.join = none ∨ s.pr.state ≠ .joining → exec .joinTimeout s = .next s) ∧
    (let may : Prop := ∃ a, s.pr.wtrFrom = some a ∧ s.pr.state = .standby ∧ s.pr.frozen = false ∧ preferred s = true ∧
        a + 1000000000 * fv s .PR_CFG_WTR ≤ s.now;
      (may → exec .reversionWtrExpire s = .next (s.setPr fun p => { p with claim := true, claimRun := 0, wtrFrom := none })) ∧
      (¬ may → exec .reversionWtrExpire s = .next s)) ∧
    (let may : Prop := s.pr.state = .standby ∧ s.pr.claim = true ∧ 64 ≤ s.pr.claimRun ∧ s.glb.gate = false;
      (may → exec .claimTimeout s = .next (s.setPr fun p => { p with claim := false, claimRun := 0, matchCnt := 0, wtrFrom := none })) ∧
      (¬ may → exec .claimTimeout s = .next s)) ∧
    (Accepted s .PR_CMD 0 0 2 → (s.pr.state = .standby ∨ s.pr.state = .unsynced) ∧
      (s.pr.linUp = false → ∃ t, exec .remirror s = .next t ∧ unsynced 2 t) ∧
      (s.pr.linUp = true → s.pr.peerDigest ≠ [] → s.pr.peerDigest ≠ s.pl.digest →
        ∃ t, exec .remirror s = .next t ∧ unsynced 3 t ∧ bit (rd t .PR_EVENT) 7 = true) ∧
      (isPair s = true → s.pr.linUp = true → s.pr.peerDigest = [] ∨ s.pr.peerDigest = s.pl.digest → ∃ t, exec .remirror s = .next t ∧ joins t)) ∧
    (Accepted s .PR_CMD 0 0 1 → s.pr.state = .active ∧ (isPair s = true →
      ∃ t, exec .relinquish s = .next t ∧ t.pr.state = .yielded ∧ t.pr.join = none ∧ within t ∧
        t.pr.leaving = true ∧ t.glb.passive = true ∧ t.glb.active = s.glb.active ∧ t.pr.matchCnt = 0 ∧ t.pr.wtrFrom = none ∧
        t.pr.claim = false ∧
        (t.glb.sendA, t.glb.sendB, t.glb.sendOne) = (s.glb.sendA, s.glb.sendB, s.glb.sendOne) ∧
        t.pr.lastRole = s.pr.lastRole ∧ t.pr.roleChanges = s.pr.roleChanges ∧
        t.pr.yieldRun = (if s.glb.gate = true ∧ s.pr.frozen = false then some 0 else none) ∧
        t.glb.gate = (s.glb.gate && !s.pr.frozen))) ∧
    (∀ u : State, u.pr.leaving = true → u.pr.state = .yielded →
      (u.glb.gate = true → roleEnds u = u) ∧
      (u.glb.gate = false → (roleEnds u).pr.leaving = false ∧ (roleEnds u).glb.passive = true ∧ (roleEnds u).glb.active = false ∧
        (roleEnds u).pr.lastRole = u.mix.stitch ∧ (roleEnds u).pr.roleChanges = satInc 0xFFFF u.pr.roleChanges ∧
        (u.rf.regs.wf = true → bit (rd (roleEnds u) .PR_EVENT) 0 = true) ∧
        ((roleEnds u).glb.sendA, (roleEnds u).glb.sendB, (roleEnds u).glb.sendOne) = (false, false, false))) ∧
    (Accepted s .PR_CMD 0 0 4 → exec .prClrCounts s = .next ((noted s .PR_CMD 0 0).setPr fun p => { p with
      roleChanges := 0, diverges := 0, witBad := 0, missed := 0 })) ∧
    (∀ v, Accepted s .PR_CFG 0 0 v → exec (.prCfgWrite v 15) s = .next { noted s .PR_CFG 0 0 with
      rf := { s.rf with posted := s.rf.posted ++ [(s.now, addr .PR_CFG, kept .PR_CFG v)] } })

/-- O50. In a settled unit of a pair outside QUIET, HEARTBEAT_SEND keeps the OUTCRC of its stitch with those of the
three before, sends the heartbeat of Table 18-3 if the stitch's work is complete (and none if it is not), and sends the
OUTCRC to the peer, with whether it hears the peer and is fit to take over (log entries 109 and 111); a follower whose
stitch still waits for its decisions computes it first; elsewhere it changes nothing. LINING_MESSAGE_RECEIVE notes that
a message came (a missing one is none), and changes nothing else while the lining is down; elsewhere than in a unit of a
pair it changes nothing. An OUTCRC of the peer waits until the own one of its stitch is known. Compared on either path:
equal, a STANDBY counts a match (0 while FROZEN), and the preferred one runs WTR from 8,000 on and no other does;
another unit that is not JOINING is unchanged. Different, an ACTIVE unit whose peer is synced raises and counts DIVERGE
and counts the peer as not synced; a STANDBY raises and counts DIVERGE and SYNC_CHANGE, sends no leg, and is JOINING of
cause 1 (UNSYNCED with the lining down or another DIGEST), a rise of its gate in this stitch standing. A decision that
comes late takes a STANDBY to JOINING of cause 1. Changes mirrored to a unit that is neither STANDBY nor JOINING are not
used. Spec: R413; R425; R427; R428; R432; R436; R440; R441; spec/18 Table 18-3; spec/18 Table 18-7. -/
def Obligations.PeersCompareOutputs : Prop :=
  ∀ s : State, settled s = true → s.cio.sched.wf = true → s.ses.ses.wf = true → s.rf.regs.wf = true →
    let within (t : State) : Prop := OnlyFlags s t ∧ t = { s with
      rf := t.rf, evt := t.evt, emitted := t.emitted, cio := { s.cio with cos := t.cio.cos }, tb := t.tb, pr := t.pr, glb := t.glb
      str := { s.str with tx := t.str.tx, tails := t.str.tails } }
    let joins (u : State) : Prop := u.pr.linUp = true ∧ (u.pr.peerDigest = [] ∨ u.pr.peerDigest = u.pl.digest)
    let equal (u : State) : State :=
      let n := if u.pr.frozen then 0 else satInc 16383 u.pr.matchCnt;
      if u.pr.state = .standby then
        u.setPr fun p => { p with
          matchCnt := n, wtrFrom := if 8000 ≤ n ∧ preferred u = true ∧ p.claim = false then some (p.wtrFrom.getD u.now) else none }
      else u
    let differs (u t : State) : Prop :=
      (u.pr.state = .active → u.pr.peerSync = true → t = (raise (u.setPr fun p => { p with diverges := satInc 0xFFFF p.diverges }) .PR_EVENT 4).setPr
        fun p => { p with peerSync := false, diverged := true }) ∧
      (u.pr.state = .standby → within t ∧ t.pr.diverges = satInc 0xFFFF u.pr.diverges ∧ bit (rd t .PR_EVENT) 2 = true ∧
        bit (rd t .PR_EVENT) 3 = true ∧ t.glb.passive = true ∧ t.glb.sendA = false ∧ t.glb.sendB = false ∧ t.glb.gate = u.glb.gate ∧
        t.pr.riseStands = true ∧ (joins u → t.pr.state = .joining ∧ t.pr.cause = 1) ∧ (¬ joins u → t.pr.state = .unsynced))
    let n := s.mix.stitch
    let c := outCrc s
    let heard := s.setPr fun p => { p with linSeen := true }
    let crcHeard (deaf fit : Bool) := s.setPr fun p => { p with linSeen := true, peerDeaf := deaf, peerFit := fit }
    (∀ done, unitOn s = false ∨ s.glb.mode = .quiet → exec (.heartbeatSend done) s = .next s) ∧
    (∀ done errs, s.pr.owed = some errs → unitOn s = true → s.glb.mode ≠ .quiet →
      heartbeatSend s done = heartbeatSend (engine (s.setPr fun p => { p with owed := none }) errs) done) ∧
    (∀ done, unitOn s = true → s.glb.mode ≠ .quiet → s.pr.owed = none →
      let fit := done && healthy s && s.pr.state != .yielded
      let kept := s.setPr fun p => { p with
        crcs := ((n, c) :: p.crcs).take 4, claimRun := if p.claim then p.claimRun + 1 else 0, hbFit := fit }
      let sent := if done = true then (emit kept (.heartbeat (heartbeatOf s).bytes)).setPr fun p => { p with hbAt := some s.now } else kept
      let told := emit sent (.lining (.outcrc n c (decide (3 ≤ s.pr.linMiss) || (!s.pr.linUp && decide (s.pr.linRun < 8))) fit))
      let known := told.setPr fun p => { p with peerCrc := none }
      ((∀ e, s.pr.peerCrc = some e → e.1 ≠ n) → exec (.heartbeatSend done) s = .next told) ∧
      (s.pr.peerCrc = some (n, c) → s.pr.state ≠ .joining → exec (.heartbeatSend done) s = .next (equal known)) ∧
      (∀ d, s.pr.peerCrc = some (n, d) → d ≠ c → (s.pr.state = .active ∧ s.pr.peerSync = true) ∨ s.pr.state = .standby →
        ∃ t, exec (.heartbeatSend done) s = .next t ∧ differs known t)) ∧
    (∀ m, unitOn s = false → exec (.liningMessageReceive m) s = .next s) ∧
    (∀ m, unitOn s = true → s.pr.linUp = false → exec (.liningMessageReceive m) s = .next (match m with
      | .late => s
      | .outcrc _ _ deaf _ => s.setPr fun p => { p with linSeen := true, peerDeaf := deaf }
      | _ => heard)) ∧
    (unitOn s = true → s.pr.linUp = true →
      (∀ k d deaf fit, s.pr.crcs.find? (fun e => e.1 == k) = none → exec (.liningMessageReceive (.outcrc k d deaf fit)) s =
        .next ((crcHeard deaf fit).setPr fun p => { p with peerCrc := some (k, d) })) ∧
      (∀ k d deaf fit, s.pr.crcs.find? (fun e => e.1 == k) = some (k, d) → s.pr.state ≠ .joining →
        exec (.liningMessageReceive (.outcrc k d deaf fit)) s = .next (equal (crcHeard deaf fit))) ∧
      (∀ k d own deaf fit, s.pr.crcs.find? (fun e => e.1 == k) = some (k, own) → own ≠ d →
        (s.pr.state = .active ∧ s.pr.peerSync = true) ∨ s.pr.state = .standby →
        ∃ t, exec (.liningMessageReceive (.outcrc k d deaf fit)) s = .next t ∧ differs (crcHeard deaf fit) t) ∧
      (∀ xs, s.pr.state ≠ .standby → s.pr.state ≠ .joining → exec (.liningMessageReceive (.mirror xs)) s = .next heard) ∧
      (∀ on, exec (.liningMessageReceive (.peer on)) s = .next (heard.setPr fun p => { p with peerSync := on })) ∧
      (s.pr.state ≠ .standby → exec (.liningMessageReceive .late) s = .next s) ∧
      (s.pr.state = .standby → joins s → ∃ t, exec (.liningMessageReceive .late) s = .next t ∧ within t ∧ t.pr.state = .joining ∧
        t.pr.cause = 1 ∧ bit (rd t .PR_EVENT) 3 = true ∧ t.glb.passive = true) ∧
      (∀ e d, exec (.liningMessageReceive (.measure e d)) s = .next (heard.setPr fun p => { p with tbErr := e, linDelay := d })))

/-- O51. POWER_ON, RST_ASSERT, an accepted GLB_RESET FULL (and CFG in BARE), a due lockstep reset, and in a settled
module a watchdog expiry return every field to its state at reset but for straps and pins, the NOR, the fault log (not
at power-on), LAST_RESET and the count of resets, cutting a heartbeat on its way; WATCHDOG_EXPIRE logs fault 0x16 first.
GLB_RESET CFG outside BARE sets CFG_RUN and closes every session. CFG_RESET_DECIDE without a configuration reset to
decide changes nothing; else it selects an image that passes every check, or, with no valid header, or no image that
passes, or in a witness, it ends the reset with CFG_RESET_FAIL, only FAIL_A and FAIL_B changed. A selected configuration
whose work needs no higher step is decided for the boundary 20 µs on, with the demand of the work it adds, and the
selected step is judged anew; one that does has VCORE rise first, and is decided when that is over. RESET_RELEASE
outside reset changes nothing; in a settled module in reset it starts a witness with MODE RUNNING, and takes a lone unit
without a valid image to BARE with N0 negotiating. Spec: R384; R387; R390; R393; R394; R396; R397; R445; spec/02 Table
02-5; spec/17 Table 17-4; spec/17 Table 17-5; spec/19 Table 19-7. -/
def Obligations.ResetsReturnEverything : Prop :=
  ∀ s : State,
    let full (cause : Nat) : State := { State.reset with
      now := s.now, freeCtr := s.freeCtr, pending := s.pending
      emitted := s.emitted ++ (if (s.pr.hbAt.any fun t => decide (s.now < t + 5760)) = true then [.heartbeatCut] else [])
      glb := { State.reset.glb with
        straps := s.glb.straps, lastReset := cause, boots := if cause = 0 then 0 else (s.glb.boots + 1) % 65536 }
      pl := { State.reset.pl with norA := s.pl.norA, norB := s.pl.norB }
      pr := { State.reset.pr with line := s.pr.line, lineAt := s.pr.lineAt }
      evt := { State.reset.evt with perst := s.evt.perst, perstUp := s.evt.perstUp }
      saf := if cause = 0 then State.reset.saf else { State.reset.saf with log := s.saf.log, next := s.saf.next, lost := s.saf.lost } }
    let watch : Flt := { code := 0x16, region := 2, reaction := 6, bar := true, inj := false, boot := s.glb.boots % 65536
                         detail := 0, stitch := s.mix.stitch % 2 ^ 32, tack := tack s 0 }
    exec .powerOn s = .next (full 0) ∧ exec .rstAssert s = .next (full 1) ∧
    (Accepted s .GLB_RESET 0 0 (word 0x53560002) → exec .glbResetFull s = .next (full 2)) ∧
    (Accepted s .GLB_RESET 0 0 (word 0x53560001) → s.glb.mode = .bare → exec .glbResetCfg s = .next (full 2)) ∧
    (Accepted s .GLB_RESET 0 0 (word 0x53560001) → s.glb.mode ≠ .bare → calm s = true →
      exec .glbResetCfg s = .next (closeAll ((noted s .GLB_RESET 0 0).setPl fun p => { p with cfgRun := true, cfgAt := s.now }))) ∧
    (settled s = true → exec .watchdogExpire s = .next { full 3 with saf := { (full 3).saf with
      log := Tbl.put s.saf.log s.saf.next watch, next := (s.saf.next + 1) % 64
      lost := if (Tbl.getD s.saf.log s.saf.next {}).code ≠ 0 then satInc 0xFFFF s.saf.lost else s.saf.lost } }) ∧
    (∀ a, s.saf.lockstepAt = some a → a + 10000000 ≤ s.now → exec .lockstepResetTimer s = .next (full 3)) ∧
    (settled s = true → s.cio.sched.wf = true → s.ses.ses.wf = true →
      ((∀ a, s.saf.lockstepAt = some a → s.now < a + 10000000) → exec .lockstepResetTimer s = .next s) ∧
      (∀ ms, s.pl.cfgRun = false ∨ s.fab.vstate = .raising ∨ s.fab.vstate = .confirming ∨
          (∃ x, s.pl.net = some x ∧ x.rising = false) → exec (.cfgResetDecide ms) s = .next s) ∧
      (∀ env, s.glb.inReset = false → exec (.resetRelease env) s = .next s)) ∧
    (settled s = true → isPair s = false → s.rf.regs.wf = true → s.fab.vstate ≠ .raising → s.fab.vstate ≠ .confirming →
      ∀ ms, s.pl.cfgRun = true → s.pl.net = none →
      ∃ t, exec (.cfgResetDecide ms) s = .next t ∧ OnlyFlags s t ∧
        t = { s with rf := t.rf, evt := t.evt, pl := t.pl, fab := t.fab } ∧
        (isWitness s = true ∨ tryOrder s = [] ∨ (∀ b ∈ tryOrder s, (checkOf s b).fail ≠ 0) →
          t.fab = s.fab ∧ t.pl = { s.pl with failA := t.pl.failA, failB := t.pl.failB, cfgRun := false, net := none } ∧ bit (rd t .PL_EVENT) 3 = true) ∧
        (isWitness s = false → (∃ b ∈ tryOrder s, (checkOf s b).fail = 0) →
          ∃ b ∈ tryOrder s, (checkOf s b).fail = 0 ∧ t.pl.cfgRun = true ∧ t.pl.loadMs = min ms 0xFFFF ∧
            let x : CfgNet := { acceptedAt := none, image := b2n b, check := checkOf s b }
            let u : State := { t with fab := s.fab, pl := { t.pl with net := some x } }
            let need := selected (cfgApply u x)
            let y : CfgNet := { x with acceptedAt := some s.now, adds := cfgAdds u (cfgApply u x) }
            (need ≤ s.fab.vnow → t.pl.net = some y ∧
              t.fab = (afterDecision (vcoreEval { u with pl := { u.pl with net := some y } })).fab) ∧
            (s.fab.vnow < need → t.pl.net = some { x with rising := true } ∧ t.fab = { s.fab with
              vstate := .raising, vfrom := s.fab.vnow, vtarget := need, vAt := s.now, confirm := 0, holdFrom := none }))) ∧
    (settled s = true → isPair s = false → s.cio.sched.wf = true → s.ses.ses.wf = true →
      s.fab.vstate ≠ .raising → s.fab.vstate ≠ .confirming → s.pl.cfgRun = true →
      ∀ ms x, s.pl.net = some x → x.rising = true → selected (cfgApply s x) ≤ s.fab.vnow →
        exec (.cfgResetDecide ms) s = .next (afterDecision (vcoreEval (s.setPl fun p => { p with net := some {
          acceptedAt := some s.now, image := x.image, check := x.check
          adds := cfgAdds s (cfgApply s { acceptedAt := none, image := x.image, check := x.check }) } })))) ∧
    (settled s = true → s.glb.inReset = true → s.pr.state = .start → s.saf.quiet = none → ∀ env : StartEnv, env.bootOk = true → env.dramOk = true →
      (env.straps % 4 = 3 → ∃ t, exec (.resetRelease env) s = .next t ∧ t.glb.inReset = false ∧ t.glb.mode = .running ∧
        t.glb.straps = 3 ∧ t.pl.phase = 6 ∧ t.pl.releaseAt = s.now) ∧
      (env.straps % 4 = 0 → env.norA = some (.bytes []) → env.norB = some (.bytes []) →
        ∃ t, exec (.resetRelease env) s = .next t ∧ t.glb.inReset = false ∧ t.glb.mode = .bare ∧ t.pl.phase = 7 ∧
          t.pl.active = none ∧ t.glb.gate = env.oePin ∧ t.pl.bareIdx = 0 ∧ t.pl.bareAt = s.now ∧ (portOf t 0).state = .negotiating))

/-- O52. In a module alone with nothing left over, PERST_ASSERT takes the link DOWN and the function to D0 with MSI-X
disabled and unmasked and its registers at reset; no other register, source or stack differs, but targets that fall
asleep release their HELD sources and WAKE# follows; PCIE_PERST_RELEASE ends that and notes the instant; without PERST#
it changes nothing. BARE_MODE_TIMER in BARE, 2 s after the last trial with N0 not UP, has N0 negotiate the next MODE;
else it changes nothing. EJECT_DEBOUNCED and an accepted PL_CMD EJECT raise EJECT_REQ, set MODE to REMOVING, stop every
lane group and every leg; LED_EJECT lights at once where every group is OFF. In BARE the same steps run, every session
closed, and LED_EJECT lights after them. In REMOVING they change nothing. An accepted RESCAN sets the flag;
RESCAN_COMPLETE then stores what the checks of both images found and clears it, ACTIVE and DIGEST as they were; without
it, nothing changes. LED_STAT shows the mode, and in RUNNING the role: it blinks at 2 Hz while STARTING, at 0.5 Hz in
BARE and at 8 Hz in QUIET, is off in REMOVING, on with an off-pulse every second in a unit of a pair that is not ACTIVE
(the model's reading of standby, log entry 78), and on else. Spec: R324; R326; R384; R406; R407; R408; R409; R476;
spec/17 Table 17-7; spec/17 Table 17-9. -/
def Obligations.RemovalAndScan : Prop :=
  ∀ s : State, calm s = true → s.rf.regs.wf = true →
    let isMsix (r : Reg) : Bool := r == .MSIX_LO || r == .MSIX_HI || r == .MSIX_DATA || r == .MSIX_CTRL
    let stays (off : Nat) : Bool := match findReg off with
      | some (r, _, _) => !isMsix r
      | none => true
    let base : State := { s with rf := { s.rf with regs := s.rf.regs.filter fun e => stays e.1 } }
    let fallen (u : State) : State := forEach [0, 1, 2, 3, 4, 5, 6, 7] u fun k t =>
      if asleep t k = true ∧ asleep s k = false then
        forEach (t.evt.srcs.filterMap fun e => if e.2.state = .held ∧ evTarget t e.1 = k then some e.1 else none) t
          fun j t => releaseSrc t j
      else t
    let leaves (u : State) (o : Host.Outcome State Fault Refusal) : Prop := ∃ t, o = .next t ∧
      t.glb = { u.glb with
        mode := .removing, sendA := false, sendB := false, sendOne := false, ledEject := (u.glb.ledEject || lanesDone s) } ∧
      t.pl = { s.pl with eject := false } ∧ bit (rd t .PL_EVENT) 4 = true ∧ OnlyFlags s t ∧ t.mix = s.mix ∧
      ∀ g < 8, (groupOf t g).state = .off ∨ (groupOf t g).state = .stopping
    let bareLeaves (u : State) : State :=
      emit ((removalSteps ((raise u .PL_EVENT 0x10).setGlb fun g => { g with mode := .removing })).setGlb fun g => {
        g with ledEject := true }) .ledEject
    let bareGoes (u : State) (o : Host.Outcome State Fault Refusal) : Prop :=
      let t := bareLeaves u;
      (s.ses.ses.wf = true → t.ses.ses = []) ∧
      (settled t = true → t.cio.sched.wf = true → t.ses.ses.wf = true → o = .next { t with now := s.now, pending := s.pending })
    exec .perstAssert s = .next (wakeUpdate (fallen (base.setEvt fun e => { e with
      perst := true, msixEn := false, msixMask := false, dstate := .d0, link := .down }))) ∧
    (∀ r i j, i < (desc r).n1 → j < (desc r).n2 → rd base r i j = if isMsix r = true then word (desc r).reset else rd s r i j) ∧
    (s.evt.perst = true → exec .pciePerstRelease s = .next (s.setEvt fun e => { e with perst := false, perstUp := s.now })) ∧
    (s.evt.perst = false → exec .pciePerstRelease s = .next s) ∧
    (let due : Prop := s.glb.mode = .bare ∧ (portOf s 0).state ≠ .up ∧ s.pl.bareAt + 2000000000 ≤ s.now;
      (due → ∃ t, exec .bareModeTimer s = .next t ∧ t = { s with rf := t.rf, evt := t.evt, sw := t.sw, pl := t.pl } ∧
        t.pl = { s.pl with bareIdx := (s.pl.bareIdx + 1) % 4, bareAt := s.now } ∧ (portOf t 0).state = .negotiating) ∧
      (¬ due → exec .bareModeTimer s = .next s)) ∧
    (s.glb.mode ≠ .quiet → s.glb.mode ≠ .bare → s.pr.state ≠ .yielded → s.ses.ses = [] →
      leaves s (exec .ejectDebounced s) ∧ (Accepted s .PL_CMD 0 0 2 → leaves (noted s .PL_CMD 0 0) (exec .eject s))) ∧
    (s.glb.mode = .bare → bareGoes s (exec .ejectDebounced s) ∧
      (Accepted s .PL_CMD 0 0 2 → bareGoes (noted s .PL_CMD 0 0) (exec .eject s))) ∧
    (let u := s.setGlb fun g => { g with mode := .removing };
      settled u = true → u.cio.sched.wf = true → u.ses.ses.wf = true → exec .ejectDebounced u = .next u) ∧
    (Accepted s .PL_CMD 0 0 1 → exec .rescan s = .next ((noted s .PL_CMD 0 0).setPl fun p => { p with rescan := true })) ∧
    (s.pl.rescan = true →
      let a := checkOf s false;
      let b := checkOf s true;
      exec .rescanComplete s = .next (s.setPl fun p => { p with
        rescan := false, validA := a.fail == 0, failA := a.fail, seqA := a.seq, validB := b.fail == 0, failB := b.fail, seqB := b.seq })) ∧
    (s.pl.rescan = false → exec .rescanComplete s = .next s) ∧
    (∀ u : State, u.glb.inReset = false →
      (u.glb.mode = .starting → ledStat u = .blinks 2000) ∧ (u.glb.mode = .bare → ledStat u = .blinks 500) ∧
      (u.glb.mode = .quiet → ledStat u = .blinks 8000) ∧ (u.glb.mode = .removing → ledStat u = .off) ∧
      (u.glb.mode = .running → ledStat u = if isPair u = true ∧ u.pr.state ≠ .active then .dips else .on))

/-- O53. In a settled module FAULT_DETECT of code 0 does nothing; of a code of Table 19-3 that concerns no other block
(0x04, 0x08, 0x0F, 0x10, 0x12, 0x13) it writes one log entry with the row's region, reaction and bar, begins the bar if
it does not stand, counts uncorrected errors and mismatches (an uncorrectable DRAM error damages what lies there, which
the spec leaves open: log entry 50), and for reaction 4 outside QUIET raises ENGINE_MUTE, the outputs fading in this
stitch before its fence (under their ceilings), else from the next one. DIGEST_COMPARE counts and reports a failure as
0x13, ECC_HOUR_END publishes the hour's count and reports 0x0F with ECC_CE_HIGH above CE_MAX, SAF_INJECT of 0x12 or 0x13
is logged with INJ = 1, of 0x0B it waits for the next fence. A temperature sets TJ, raises TEMP_WARN when armed at or
above the value, arms it again 5 °C below, and starts or ends the time below 105 °C; TEMP_BAR_END ends bar 0x04 after 60
s of it. In a module alone without sessions, a fault of reaction 5 is logged and MODE is QUIET, in order or at once,
with every lane group OFF or STOPPING. QUIET_LANE_RELEASE after 1.5 ms of zero releases the lane pins and the gate, the
groups going on to OFF as in R145; before, and in any other case, it does nothing. Spec: R445; R446; R447; R450; R451;
R452; R453; R455; R456; R457; R480; spec/19 Table 19-3. -/
def Obligations.ThimbleReacts : Prop :=
  ∀ s : State, settled s = true → s.cio.sched.wf = true → s.ses.ses.wf = true →
    let entry (u : State) (code detail region reaction : Nat) (bar inj : Bool) : Flt := {
      code := code, region := region, reaction := reaction, bar := bar, inj := inj, boot := u.glb.boots % 65536
      detail := detail, stitch := u.mix.stitch % 2 ^ 32, tack := tack u 0 }
    let rows : List (Nat × Nat × Nat × Bool) :=
      [(0x04, 3, 0, true), (0x08, 3, 0, true), (0x0F, 2, 0, false), (0x10, 2, 2, false), (0x12, 2, 4, true), (0x13, 2, 4, true)]
    let taken (x : Nat × Nat × Nat × Bool) (detail : Nat) (inj : Bool) (u t : State) : Prop :=
      let y := u.saf
      let mutes : Bool := x.2.2.1 == 4 && u.glb.mode != .quiet && y.mute == 0
      let early : Bool := u.mix.ran && decide (u.now < u.mix.boundaryAt + 117000)
      OnlyFlags u t ∧ t = { u with
        rf := t.rf, evt := t.evt
        mix := if mutes && early then { u.mix with dests := Tbl.mapV u.mix.dests fun k d => { d with out := underCeil u k (fadeBlock d.prev) } } else u.mix
        saf := { y with
          log := Tbl.put y.log y.next (entry u x.1 detail x.2.1 x.2.2.1 x.2.2.2 inj), next := (y.next + 1) % 64
          lost := if (Tbl.getD y.log y.next {}).code ≠ 0 then satInc 0xFFFF y.lost else y.lost
          bars := if x.2.2.2 && (Tbl.get? y.bars x.1).isNone then Tbl.put y.bars x.1 u.now else y.bars
          ue := if x.1 = 0x10 ∨ x.1 = 0x12 then satInc 0xFFFF y.ue else y.ue
          mismatches := if x.1 = 0x13 then satInc 0xFFFF y.mismatches else y.mismatches
          mute := if mutes then (if early then 2 else 1) else y.mute } }
    let passed : State := s.setSaf fun y => { y with passes := (y.passes + 1) % 65536 }
    (∀ detail region, exec (.faultDetect 0 detail region) s = .next s) ∧
    (∀ x ∈ rows, ∀ (c : Fin 26) detail region, c.val = x.1 → ∃ t, exec (.faultDetect c detail region) s = .next t ∧
      taken x detail false (if x.1 = 0x10 then dramError s detail else s) t) ∧
    exec (.digestCompare true) s = .next passed ∧
    (∃ t, exec (.digestCompare false) s = .next t ∧ taken (0x13, 2, 4, true) 0 false passed t) ∧
    (∀ ce, let hour := s.setSaf fun y => { y with ceHour := min ce 0xFFFF }
      (ce ≤ fv s .SAF_CFG_CE_MAX → exec (.eccHourEnd ce) s = .next hour) ∧
      (fv s .SAF_CFG_CE_MAX < ce → ∃ t, exec (.eccHourEnd ce) s = .next t ∧ taken (0x0F, 2, 0, false) 0 false (raise hour .SAF_EVENT 0x10) t)) ∧
    (∀ v, Accepted s .SAF_INJECT 0 0 v → fld v 0 8 = 0x0B →
      exec (.safInject v 15) s = .next ((noted s .SAF_INJECT 0 0).setSaf fun y => { y with injFence := true })) ∧
    (∀ x ∈ rows, ∀ v, Accepted s .SAF_INJECT 0 0 v → fld v 0 8 = x.1 → x.1 = 0x12 ∨ x.1 = 0x13 →
      ∃ t, exec (.safInject v 15) s = .next t ∧ taken x 0 true (noted s .SAF_INJECT 0 0) t) ∧
    (∀ tj : Int,
      let warn : Int := 16 * (fv s .SAF_CFG_TEMP_WARN : Nat)
      let rises : Prop := s.saf.warnArmed = true ∧ warn ≤ tj
      let cool : Option Nat := if tj < 1680 then some (s.saf.cool.getD s.now) else none
      (rises → exec (.tjRisesThroughTempWarn tj) s = .next
        (raise (s.setSaf fun y => { y with tj := tj, warnArmed := false, cool := cool }) .SAF_EVENT 8)) ∧
      (¬ rises → exec (.tjRisesThroughTempWarn tj) s = .next
        (s.setSaf fun y => { y with tj := tj, warnArmed := y.warnArmed || decide (tj ≤ warn - 80), cool := cool }))) ∧
    (∀ a, s.saf.cool = some a → a + 60000000000 ≤ s.now →
      exec .tempBarEnd s = .next (s.setSaf fun y => { y with bars := Tbl.del y.bars 0x04 })) ∧
    ((∀ a, s.saf.cool = some a → s.now < a + 60000000000) → exec .tempBarEnd s = .next s) ∧
    (calm s = true → s.ses.ses = [] → s.glb.mode ≠ .quiet →
      ∀ x ∈ [((0x01, 3), true), ((0x02, 3), true), ((0x05, 3), false), ((0x06, 3), true), ((0x11, 2), true), ((0x19, 2), false)],
        ∀ (c : Fin 26) detail region, c.val = x.1.1 → ∃ t, exec (.faultDetect c detail region) s = .next t ∧
          t.glb.mode = .quiet ∧ t.saf.quiet = some (if x.2 = true then .atOnce else .inOrder) ∧ t.saf.quietAt = s.now ∧
          Tbl.get? t.saf.log s.saf.next = some (entry s x.1.1 detail x.1.2 5 true false) ∧ (Tbl.get? t.saf.bars x.1.1).isSome = true ∧
          ∀ g < 8, (groupOf t g).state = .off ∨ (groupOf t g).state = .stopping) ∧
    (calm s = true → s.saf.quiet = some .atOnce → s.saf.lanesOff = false → s.saf.quietAt + 1500000 ≤ s.now →
      ∃ t, exec .quietLaneRelease s = .next t ∧ t.saf = { s.saf with lanesOff := true } ∧ t.glb = { s.glb with gate := false } ∧
        .laneForce false ∈ t.emitted ∧ t.mix = s.mix ∧ t.ln = s.ln ∧ OnlyFlags s t) ∧
    (s.saf.quiet ≠ some .atOnce ∨ s.saf.lanesOff = true ∨ s.now < s.saf.quietAt + 1500000 → exec .quietLaneRelease s = .next s)

/-- O54. With audio running, a stitch boundary adds 1 to the stitch number (modulo 2^64); before audio start it leaves
the number alone; in reset it changes nothing. RAMP_END settles and deletes what has ramped out. AUDIO_START, once
start-up has completed and VCORE does not rise for the pattern, clears the time bases' ACC, loads the block counts and the
stitch number from MC0's media time, puts the boundaries on its grid, enters RUNNING and lets waiting enables and lane
groups start; otherwise nothing. FENCE judges a stitch once: a
complete stitch on time records each needle's pace and the fabric pace, lowers the least slack and ends a run of
misses. TCXO_FAULT clears, with the bar of fault 07, when the sources have agreed for QTIME. COMMAND_START runs the
waiting command that came first of the sessions with none executing: a NOP is answered. REPLY_SEND sends the
acknowledged replies in order. Spec: R8; R9; R34; R35; R36; R74; R235; R343; R344; R353; R389; R446. -/
def Obligations.StitchesCommandsAndRepliesProceed : Prop :=
  (∀ (s : State) (env : StitchEnv),
    (s.glb.inReset = true → settled s = true → s.cio.sched.wf = true → s.ses.ses.wf = true →
      exec (.stitchBoundary env) s = .next s) ∧
    (s.glb.inReset = false → s.pl.net = none → s.pl.deferred = [] → calm (stitchStep s env) = true →
      ∃ t, exec (.stitchBoundary env) s = .next t ∧
        t.mix.stitch = if s.mix.audioOn = true then (s.mix.stitch + 1) % 2 ^ 64 else s.mix.stitch)) ∧
  (∀ s : State, calm s = true →
    ∃ t, exec .rampEnd s = .next t ∧ t.mix = s.mix.endRamps ∧
      t.dyn = (metersGone (s.setMix Mix.endRamps)).dyn ∧ t = { s with mix := t.mix, dyn := t.dyn, fab := t.fab }) ∧
  (∀ s : State,
    let rises : Prop := s.fab.vstate = .raising ∨ s.fab.vstate = .confirming
    (¬ (s.pl.started = true ∧ s.glb.mode = .starting ∧ s.mix.audioOn = false) ∨ rises → calm s = true →
      exec .audioStart s = .next s) ∧
    (s.pl.started = true → s.glb.mode = .starting → s.mix.audioOn = false → ¬ rises →
      let late := (gridTime s 0 % blockUnits s 0).toNat / 147000000000000
      let w := refAudioStart (loadStitch s) (some (gridLate s))
      let v : State := { w with
        glb := { w.glb with mode := .running }
        pl := { w.pl with started := false, phase := 6, startMs := msSince w w.pl.releaseAt }
        mix := { w.mix with audioOn := true, ran := false, boundaryAt := w.now - late } }
      let t := vcoreEval (startLanes (enableAll v))
      calm t = true → exec .audioStart s = .next { t with now := s.now, pending := s.pending } ∧
        t.mix.stitch = blocksPassed s 0)) ∧
  (∀ (s : State) (m : FenceMeas), calm s = true → m.volts = none → m.tj = none →
    ((s.mix.audioOn = false ∧ s.pl.started = false) ∨ s.shed.fenced = some s.mix.stitch → exec (.fence m) s = .next s) ∧
    (let total := (List.range 32).foldl (fun a k => if (needleOf s k).inService = true then a + m.paces.getD k 0 else a) 0;
      s.mix.audioOn = true → s.shed.fenced ≠ some s.mix.stitch → s.glb.mode ≠ .quiet → m.complete = true →
      s.saf.injFence = false →
      (∀ k, k < 32 → (needleOf s k).inService = true → tNow s * 7 / 256 ≤ m.paces.getD k 0) →
      tNow s * needlesOk s / 32 ≤ total →
      ∃ t, exec (.fence m) s = .next t ∧ t = { s with fab := t.fab, shed := t.shed } ∧
        t.shed = { s.shed with fenced := some s.mix.stitch, missRun := 0 } ∧
        t.fab.slack = min s.fab.slack m.slack ∧ t.fab.pace = total ∧ t.fab.slowPrev = false ∧
        ∀ k, k < 32 → (needleOf t k).pace = m.paces.getD k 0 ∧ (needleOf t k).inService = (needleOf s k).inService)) ∧
  (∀ s : State, settled s = true → s.cio.sched.wf = true → s.ses.ses.wf = true → s.saf.bars.wf = true →
    let q := (otherQualified s 20).foldl (fun a k => max a (ff s .QL_W1_QTIME k)) 0
    let ends : Prop := s.ref.tcxoFault = true ∧ tcxoAgrees s = true ∧ ∃ t, s.ref.agreeFrom = some t ∧ t + 1000000000 * q ≤ s.now
    (ends → exec .tcxoFaultClear s = .next { s with
      ref := { s.ref with tcxoFault := false, agreeFrom := none }, saf := { s.saf with bars := Tbl.del s.saf.bars 0x07 } }) ∧
    (¬ ends → exec .tcxoFaultClear s = .next s)) ∧
  (∀ s : State, still s = true → hasStandby s = false →
    ((∀ e ∈ s.ses.ses, e.2.busy ≠ none ∨ e.2.waiting = []) → exec .commandStart s = .next s) ∧
    (∀ k x q rest i, Tbl.get? s.ses.ses k = some x → s.ses.ses.wf = true → x.busy = none → x.waiting = q :: rest →
      (∀ e ∈ s.ses.ses, e.1 ≠ k → e.2.busy = none → ∀ p ps, e.2.waiting = p :: ps →
        startsBefore (k, q) (e.1, p) = true ∧ startsBefore (e.1, p) (k, q) = false) →
      q.op = 0x00 → firstCode (opFails s k q) = .ok → x.client.mbox = false → winIndex x.high q.seq = some i →
      exec .commandStart s = .next (emit (putSes s k { x with
          waiting := rest, busy := none, window := x.window.set i (.stored Code.ok.num 0x00 [])
          cmds := satInc 0xFFFFFFFF x.cmds })
        (.firyn x.client (message 0x11 x.id q.seq 0x00 Code.ok.num []))))) ∧
  (∀ s : State, settled (s.setSes fun y => { y with out := [] }) = true → s.cio.sched.wf = true → s.ses.ses.wf = true →
    (∀ r ∈ s.ses.out, r.acked = true ∧ r.after = .nothing ∧ ∃ x, Tbl.get? s.ses.ses r.ses = some x ∧ x.client.mbox = false) →
    exec .replySend s = .next { s with
      ses := { s.ses with out := [] }
      emitted := s.emitted ++ s.ses.out.filterMap fun r => (Tbl.get? s.ses.ses r.ses).map fun x =>
        Emission.firyn x.client (message 0x11 x.id r.seq r.op r.result r.body) })

/-- O55. From every state in which at most one OE_ALLOW line of the witness is high, whatever command is at the front
of the queue (or none, while a nanosecond passes), the next state has at most one line high: OE_ALLOW_A and OE_ALLOW_B
are never high at once. Spec: R418; R419; R455; spec/18 Table 18-5. -/
def Obligations.StepKeepsOneGrant : Prop :=
  ∀ s t : State, oneGrant s.wit = true → step s = .next t → oneGrant t.wit = true

/-- O56. In the reset state both OE_ALLOW lines of the witness are low, so the invariant that they are never high at
once holds there. Spec: R419; R476; spec/18 Table 18-5. -/
def Obligations.NoGrantAfterReset : Prop :=
  State.reset.wit.lineA = false ∧ State.reset.wit.lineB = false ∧ oneGrant State.reset.wit = true

/-- O57. For every command and state, step of the state with the command put at the front of its queue is exec of the
command on the state with the queue's rest. With an empty queue step answers the state one tick later (the model's
choice, log entry 1). Spec: R8; spec/95 STITCH_BOUNDARY. -/
def Obligations.StepRunsFrontCommand : Prop :=
  (∀ (c : Instr) (s : State), step { s with pending := c :: s.pending } = exec c s) ∧
  (∀ s : State, s.pending = [] → step s = .next (tick s))

/-- O58. For every command, whatever its operands, and every state, exec answers a next state: no command ends in a
fault or a refusal, since a request that fails answers a result code. The state's time and the commands that wait
behind are as before. Spec: R22; R24. -/
def Obligations.EveryCommandCompletes : Prop :=
  ∀ (c : Instr) (s : State), ∃ t, exec c s = .next t ∧ t.now = s.now ∧ t.pending = s.pending

/-- O59. In the state right after reset every register entry reads the value of its Reset column. The module is in
reset, no audio runs, no mix object exists, no set is open, no session or challenge is known, no spool holds an item,
no control output is on, no event is latched, no fault is held, nothing is locked, posted or staged and no command
waits. The straps, which the spec leaves to the carrier, read alone; that is the model's choice. Spec: R5; R284; R332;
R374; spec/17 Table 17-5. -/
def Obligations.ResetLeaves : Prop :=
  let s := State.reset
  (∀ (r : Reg) (i j : Nat), rd s r i j = word (desc r).reset) ∧
  s.glb.inReset = true ∧ s.mix.audioOn = false ∧
  (s.mix.sources = [] ∧ s.mix.dests = [] ∧ s.mix.buses = [] ∧ s.mix.listeners = [] ∧ s.mix.xps = []) ∧
  (∀ k, (setOf s k).state = .free) ∧ s.ses.ses = [] ∧ s.ses.chals = [] ∧
  (∀ n, (spOf s n).items = []) ∧ (∀ k, (coOf s k).state = .off) ∧ (∀ k, (evSrc s k).state = .idle) ∧
  s.saf.log = [] ∧ s.saf.due = [] ∧ s.glb.locks = 0 ∧ s.rf.posted = [] ∧ s.rf.hi = [] ∧ s.rf.waits = [] ∧ s.pending = []

/-- O60. For every register of the map, in every entry its block gives it, the address computed from base, index and
spacing is a multiple of 4 inside the 4 MiB of BAR0 and is looked up as exactly that entry; so two entries have one
address only if they are the same entry. An address that is no entry's is refused with ACCESS. Spec: R355; R356; R4;
spec/16 Table 16-1. -/
def Obligations.RegistersShareNoAddress : Prop :=
  (∀ (r : Reg) (i j : Nat), i < (desc r).n1 → j < (desc r).n2 →
    findReg (addr r i j) = some (r, i, j) ∧ addr r i j % 4 = 0 ∧ addr r i j < 2 ^ 22) ∧
  (∀ (r q : Reg) (i j k l : Nat), i < (desc r).n1 → j < (desc r).n2 → k < (desc q).n1 → l < (desc q).n2 →
    addr r i j = addr q k l → r = q ∧ i = k ∧ j = l) ∧
  (∀ (o : Origin) (s : State) (off : Nat) (v : Word), findReg off = none → writeCode o s off v = .access)
end

