-- ==== Sys2Proof/Laws/Fabric.lean ====
section
/-! SUPPORT. The admission test and the selected step (R40, R50). -/

namespace Sys2Proof.Machine

/-- The search for a step reads the effective guarantee and nothing else of the state. -/
theorem stepFrom_congr {s t : State} (h : ∀ c, gEff s c = gEff t c) (need n c : Nat) :
    stepFrom s need n c = stepFrom t need n c := by
  induction n generalizing c with
  | zero => rfl
  | succ n ih => simp only [stepFrom, h, ih]

theorem stepFrom_bounds (s : State) (need n c : Nat) : c ≤ stepFrom s need n c ∧ stepFrom s need n c ≤ c + n := by
  induction n generalizing c with
  | zero => simp [stepFrom]
  | succ n ih =>
    simp only [stepFrom]
    split
    · omega
    · have := ih (c + 1); omega

/-- A step that the search finds before its end carries the work, and none below it does. -/
theorem stepFrom_spec (s : State) (need n c : Nat) :
    (∀ v, c ≤ v → v < stepFrom s need n c → 10 * gEff s v < 11 * need) ∧
      (stepFrom s need n c < c + n → 11 * need ≤ 10 * gEff s (stepFrom s need n c)) := by
  induction n generalizing c with
  | zero => simp [stepFrom]; omega
  | succ n ih =>
    simp only [stepFrom]
    split
    · rename_i h; exact ⟨fun v _ _ => by omega, fun _ => h⟩
    · rename_i h
      obtain ⟨h1, h2⟩ := ih (c + 1)
      refine ⟨fun v hv hlt => ?_, fun hlt => h2 (by omega)⟩
      by_cases hcv : v = c
      · subst hcv; omega
      · exact h1 v (by omega) hlt

end Sys2Proof.Machine
end

