-- ==== Sys2Proof/Laws/RegMap.lean ====
section
/-! SUPPORT. The register map is unambiguous: the address of a register entry is found as that entry. -/

namespace Sys2Proof.Machine

/-- The last address of a register. -/
def Desc.last (d : Desc) : Nat := d.base + (d.n1 - 1) * d.st1 + (d.n2 - 1) * d.st2

/-- The strides of a register fit its dimensions. -/
def Desc.fits (d : Desc) : Bool :=
  decide (0 < d.n1) && decide (0 < d.n2) && (d.n2 == 1 && d.st2 == 0 || decide (0 < d.st2)) &&
    (d.n1 == 1 && d.st1 == 0 || decide ((d.n2 - 1) * d.st2 < d.st1))

/-- No address of `e` belongs to `d`: one lies before the other, or they are columns of one table. -/
def Desc.apart (d e : Desc) : Bool :=
  decide (e.last < d.base) || decide (d.last < e.base) ||
  decide (e.st1 = d.st1 ∧ 0 < d.st1 ∧
    (let g := (e.base + d.st1 * d.base - d.base) % d.st1; (d.n2 - 1) * d.st2 < g ∧ g + (e.n2 - 1) * e.st2 < d.st1)) ||
  decide (e.st1 = d.st1 ∧ e.st2 = d.st2 ∧ 0 < d.st2 ∧ d.st1 % d.st2 = 0 ∧
    (e.base + d.st2 * d.base - d.base) % d.st2 ≠ 0)

theorem Desc.entry_le_last {d : Desc} {i j : Nat} (hi : i < d.n1) (hj : j < d.n2) :
    d.base + i * d.st1 + j * d.st2 ≤ d.last := by
  have h1 : i * d.st1 ≤ (d.n1 - 1) * d.st1 := Nat.mul_le_mul_right _ (by omega)
  have h2 : j * d.st2 ≤ (d.n2 - 1) * d.st2 := Nat.mul_le_mul_right _ (by omega)
  unfold Desc.last; omega

theorem Desc.index_self {d : Desc} (h : d.fits = true) {i j : Nat} (hi : i < d.n1) (hj : j < d.n2) :
    d.index (d.base + i * d.st1 + j * d.st2) = some (i, j) := by
  simp only [Desc.fits, Bool.and_eq_true, Bool.or_eq_true, decide_eq_true_eq, beq_iff_eq] at h
  obtain ⟨⟨⟨h1, h2⟩, h3⟩, h4⟩ := h
  have hj' : j * d.st2 ≤ (d.n2 - 1) * d.st2 := Nat.mul_le_mul_right _ (by omega)
  unfold Desc.index
  rw [if_neg (by omega)]
  have ex : d.base + i * d.st1 + j * d.st2 - d.base = i * d.st1 + j * d.st2 := by omega
  have ei : (if d.n1 = 1 then 0 else (i * d.st1 + j * d.st2) / d.st1) = i := by
    split
    · omega
    · have hlt : j * d.st2 < d.st1 := by omega
      rw [Nat.mul_comm, Nat.mul_add_div (by omega), Nat.div_eq_of_lt hlt]; omega
  have ey : (if d.n1 = 1 then i * d.st1 + j * d.st2 else (i * d.st1 + j * d.st2) % d.st1) = j * d.st2 := by
    split
    · have : i = 0 := by omega
      subst this; omega
    · have hlt : j * d.st2 < d.st1 := by omega
      rw [Nat.mul_comm, Nat.mul_add_mod, Nat.mod_eq_of_lt hlt]
  simp only [ex, ei, ey]
  have ej : (if d.n2 = 1 then 0 else j * d.st2 / d.st2) = j := by
    split
    · omega
    · exact Nat.mul_div_cancel _ (by omega)
  have ez : (if d.n2 = 1 then j * d.st2 else j * d.st2 % d.st2) = 0 := by
    split
    · have : j = 0 := by omega
      subst this; omega
    · exact Nat.mul_mod_left _ _
  rw [ej, ez, if_pos ⟨hi, hj, rfl⟩]

theorem Desc.index_eq (d : Desc) (off : Nat) : d.index off =
    if off < d.base then none
    else if (if d.n1 = 1 then 0 else (off - d.base) / d.st1) < d.n1 ∧
        (if d.n2 = 1 then 0 else (if d.n1 = 1 then off - d.base else (off - d.base) % d.st1) / d.st2) < d.n2 ∧
        (if d.n2 = 1 then (if d.n1 = 1 then off - d.base else (off - d.base) % d.st1)
          else (if d.n1 = 1 then off - d.base else (off - d.base) % d.st1) % d.st2) = 0
      then some (if d.n1 = 1 then 0 else (off - d.base) / d.st1,
        if d.n2 = 1 then 0 else (if d.n1 = 1 then off - d.base else (off - d.base) % d.st1) / d.st2)
      else none := rfl

/-- An address found in a register is the address of the entry found. -/
theorem Desc.index_some {d : Desc} (h : d.fits = true) {off i j : Nat} (hx : d.index off = some (i, j)) :
    off = d.base + i * d.st1 + j * d.st2 ∧ i < d.n1 ∧ j < d.n2 := by
  simp only [Desc.fits, Bool.and_eq_true, Bool.or_eq_true, decide_eq_true_eq, beq_iff_eq] at h
  obtain ⟨⟨⟨h1, h2⟩, h3⟩, h4⟩ := h
  rw [Desc.index_eq] at hx
  split at hx
  · cases hx
  · rename_i hge
    generalize hy : (if d.n1 = 1 then off - d.base else (off - d.base) % d.st1) = y at hx
    generalize hi0 : (if d.n1 = 1 then 0 else (off - d.base) / d.st1) = i' at hx
    generalize hj0 : (if d.n2 = 1 then 0 else y / d.st2) = j' at hx
    by_cases hc : i' < d.n1 ∧ j' < d.n2 ∧ (if d.n2 = 1 then y else y % d.st2) = 0
    · rw [if_pos hc] at hx
      simp only [Option.some.injEq, Prod.mk.injEq] at hx
      obtain ⟨rfl, rfl⟩ := hx
      obtain ⟨hi, hj, hz⟩ := hc
      refine ⟨?_, hi, hj⟩
      have hyj : y = j' * d.st2 := by
        by_cases hn : d.n2 = 1
        · simp only [hn, if_true] at hj0 hz; subst hj0; omega
        · simp only [hn, if_false] at hj0 hz
          have := Nat.div_add_mod y d.st2
          rw [hz, hj0, Nat.mul_comm] at this; omega
      by_cases hn : d.n1 = 1
      · simp only [hn, if_true] at hi0 hy; subst hi0; omega
      · simp only [hn, if_false] at hi0 hy
        have := Nat.div_add_mod (off - d.base) d.st1
        rw [hy, hi0, Nat.mul_comm] at this; omega
    · rw [if_neg hc] at hx; cases hx

theorem Desc.index_apart {d e : Desc} (hd : d.fits = true) (h : d.apart e = true) {i j : Nat} (hi : i < e.n1)
    (hj : j < e.n2) : d.index (e.base + i * e.st1 + j * e.st2) = none := by
  cases hx : d.index (e.base + i * e.st1 + j * e.st2) with
  | none => rfl
  | some p =>
    obtain ⟨k, l⟩ := p
    exfalso
    obtain ⟨heq, hk, hl⟩ := Desc.index_some hd hx
    have he := Desc.entry_le_last hi hj
    have hdl := Desc.entry_le_last hk hl
    have hlb : l * d.st2 ≤ (d.n2 - 1) * d.st2 := Nat.mul_le_mul_right _ (by omega)
    have hjb : j * e.st2 ≤ (e.n2 - 1) * e.st2 := Nat.mul_le_mul_right _ (by omega)
    simp only [Desc.apart, Bool.or_eq_true, decide_eq_true_eq] at h
    rcases h with ((h | h) | ⟨h1, hpos, hg1, hg2⟩) | ⟨h1, h2, hpos, hdvd, hg⟩
    · omega
    · omega
    · have hb : d.base ≤ d.st1 * d.base := Nat.le_mul_of_pos_left _ hpos
      rw [h1] at heq
      have e1 : (e.base + d.st1 * d.base - d.base) + j * e.st2 + d.st1 * i = l * d.st2 + d.st1 * (k + d.base) := by
        rw [Nat.mul_add, Nat.mul_comm _ i, Nat.mul_comm _ k]; omega
      have e2 := congrArg (· % d.st1) e1
      simp only [Nat.add_mul_mod_self_left] at e2
      rw [Nat.mod_eq_of_lt (a := l * d.st2) (by omega), Nat.add_mod, Nat.mod_eq_of_lt (a := j * e.st2) (by omega),
        Nat.mod_eq_of_lt (by omega)] at e2
      omega
    · have hb : d.base ≤ d.st2 * d.base := Nat.le_mul_of_pos_left _ hpos
      obtain ⟨q, hq⟩ := Nat.dvd_of_mod_eq_zero hdvd
      rw [h1, h2, hq] at heq
      have e1 : (e.base + d.st2 * d.base - d.base) + d.st2 * (q * i + j) = d.st2 * (q * k + l + d.base) := by
        simp only [Nat.mul_add]
        rw [← Nat.mul_assoc, ← Nat.mul_assoc, Nat.mul_comm _ i, Nat.mul_comm _ k, Nat.mul_comm _ j, Nat.mul_comm _ l]
        omega
      have e2 := congrArg (· % d.st2) e1
      simp only [Nat.add_mul_mod_self_left, Nat.mul_mod_right] at e2
      exact hg e2

/-- In a list whose registers lie apart, an entry's address is found as that entry. -/
theorem findIn_entry {l : List Reg} (hf : l.all (fun r => (desc r).fits) = true)
    (hp : l.Pairwise fun d e => (desc d).apart (desc e) = true) {r : Reg} (hr : r ∈ l) {i j : Nat}
    (hi : i < (desc r).n1) (hj : j < (desc r).n2) : findIn l (addr r i j) = some (r, i, j) := by
  induction l with
  | nil => cases hr
  | cons q l ih =>
    simp only [List.all_cons, Bool.and_eq_true] at hf
    rw [List.pairwise_cons] at hp
    unfold findIn
    rcases List.mem_cons.mp hr with e | e
    · subst e
      rw [show (desc r).index (addr r i j) = some (i, j) from Desc.index_self hf.1 hi hj]
    · rw [show (desc q).index (addr r i j) = none from Desc.index_apart hf.1 (hp.1 r e) hi hj]
      exact ih hf.2 hp.2 e

/-- The first addresses of the blocks that follow one another (Table 16-1). -/
def blockStarts : List Nat :=
  [0x10000, 0x20000, 0x30000, 0x40000, 0x50000, 0x60000, 0x80000, 0x100000, 0x200000, 0x240000, 0x260000, 0x280000,
   0x2A0000, 0x2C0000, 0x2E0000, 0x300000, 0x380000, 0x400000]

/-- A register lies in one block, in that block's list, on addresses that are multiples of 4. -/
def placed (r : Reg) : Bool :=
  let d := desc r
  (regsAt d.base).contains r && (blockStarts.all fun b => decide (b ≤ d.base) || decide (d.last < b)) &&
    d.base % 4 == 0 && d.st1 % 4 == 0 && d.st2 % 4 == 0

theorem all_placed (r : Reg) : placed r = true := by cases r <;> decide

/-- Addresses on one side of every block start have one list. -/
theorem regsAt_same {a b : Nat} (h : ∀ c ∈ blockStarts, a < c ↔ b < c) : regsAt a = regsAt b := by
  unfold regsAt
  simp only [blockStarts, List.mem_cons, List.not_mem_nil, or_false, forall_eq_or_imp, forall_eq] at h
  obtain ⟨h1, h2, h3, h4, h5, h6, h7, h8, h9, h10, h11, h12, h13, h14, h15, h16, h17, h18⟩ := h
  simp only [h1, h2, h3, h4, h5, h6, h7, h8, h9, h10, h11, h12, h13, h14, h15, h16, h17, h18]

/-- The lists of all blocks. -/
def blockLists : List (List Reg) :=
  [regs_glb, regs_fab, regs_tb, regs_ref, regs_syn, regs_ln, regs_sw, regs_str, regs_mix, regs_dyn, regs_rb, regs_cio,
   regs_spl, regs_evt, regs_ses, regs_pr, regs_saf, regs_pl, []]

theorem ite_mem {α : Type} {l : List α} {c : Prop} [Decidable c] {a b : α} (ha : a ∈ l) (hb : b ∈ l) :
    (if c then a else b) ∈ l := by split <;> assumption

theorem regsAt_mem (off : Nat) : regsAt off ∈ blockLists := by
  unfold regsAt blockLists
  repeat' apply ite_mem
  all_goals simp only [List.mem_cons, true_or, or_true]

theorem lists_apart : blockLists.all (fun l => l.all (fun r => (desc r).fits) &&
    decide (l.Pairwise fun d e => (desc d).apart (desc e) = true)) = true := by decide

/-- The address of a register entry is found as that entry (R356). -/
theorem findReg_addr (r : Reg) {i j : Nat} (hi : i < (desc r).n1) (hj : j < (desc r).n2) :
    findReg (addr r i j) = some (r, i, j) := by
  have hp := all_placed r
  simp only [placed, Bool.and_eq_true, beq_iff_eq, List.contains_iff_mem, List.all_eq_true, Bool.or_eq_true,
    decide_eq_true_eq] at hp
  obtain ⟨⟨⟨⟨hmem, hblk⟩, h4⟩, h41⟩, h42⟩ := hp
  have hl := Desc.entry_le_last hi hj
  have hoff : addr r i j = (desc r).base + i * (desc r).st1 + j * (desc r).st2 := rfl
  have hsame : regsAt (addr r i j) = regsAt (desc r).base := by
    refine regsAt_same fun c hc => ?_
    rcases hblk c hc with h | h <;> omega
  have hmod : addr r i j % 4 = 0 := by
    rw [hoff, Nat.add_mod, Nat.add_mod (desc r).base, Nat.mul_mod i, Nat.mul_mod j, h4, h41, h42]
    simp
  have hlist := List.all_eq_true.mp lists_apart _ (regsAt_mem (desc r).base)
  simp only [Bool.and_eq_true, decide_eq_true_eq] at hlist
  rw [findReg, if_pos hmod, hsame]
  exact findIn_entry hlist.1 hlist.2 hmem hi hj

end Sys2Proof.Machine
end

