-- ==== Sys2Proof/Laws/State.lean ====
section
/-! SUPPORT. One lemma per field of the state per block update, so that no proof unfolds a record update. -/

namespace Sys2Proof.Machine

@[simp] theorem State.setFab_now (s : State) (f : Fab → Fab) : (s.setFab f).now = s.now := rfl
@[simp] theorem State.setFab_freeCtr (s : State) (f : Fab → Fab) : (s.setFab f).freeCtr = s.freeCtr := rfl
@[simp] theorem State.setFab_rf (s : State) (f : Fab → Fab) : (s.setFab f).rf = s.rf := rfl
@[simp] theorem State.setFab_glb (s : State) (f : Fab → Fab) : (s.setFab f).glb = s.glb := rfl
@[simp] theorem State.setFab_fab (s : State) (f : Fab → Fab) : (s.setFab f).fab = f s.fab := rfl
@[simp] theorem State.setFab_shed (s : State) (f : Fab → Fab) : (s.setFab f).shed = s.shed := rfl
@[simp] theorem State.setFab_mix (s : State) (f : Fab → Fab) : (s.setFab f).mix = s.mix := rfl
@[simp] theorem State.setFab_dyn (s : State) (f : Fab → Fab) : (s.setFab f).dyn = s.dyn := rfl
@[simp] theorem State.setFab_rb (s : State) (f : Fab → Fab) : (s.setFab f).rb = s.rb := rfl
@[simp] theorem State.setFab_ln (s : State) (f : Fab → Fab) : (s.setFab f).ln = s.ln := rfl
@[simp] theorem State.setFab_sw (s : State) (f : Fab → Fab) : (s.setFab f).sw = s.sw := rfl
@[simp] theorem State.setFab_tb (s : State) (f : Fab → Fab) : (s.setFab f).tb = s.tb := rfl
@[simp] theorem State.setFab_str (s : State) (f : Fab → Fab) : (s.setFab f).str = s.str := rfl
@[simp] theorem State.setFab_ref (s : State) (f : Fab → Fab) : (s.setFab f).ref = s.ref := rfl
@[simp] theorem State.setFab_syn (s : State) (f : Fab → Fab) : (s.setFab f).syn = s.syn := rfl
@[simp] theorem State.setFab_cio (s : State) (f : Fab → Fab) : (s.setFab f).cio = s.cio := rfl
@[simp] theorem State.setFab_spl (s : State) (f : Fab → Fab) : (s.setFab f).spl = s.spl := rfl
@[simp] theorem State.setFab_evt (s : State) (f : Fab → Fab) : (s.setFab f).evt = s.evt := rfl
@[simp] theorem State.setFab_saf (s : State) (f : Fab → Fab) : (s.setFab f).saf = s.saf := rfl
@[simp] theorem State.setFab_ses (s : State) (f : Fab → Fab) : (s.setFab f).ses = s.ses := rfl
@[simp] theorem State.setFab_pl (s : State) (f : Fab → Fab) : (s.setFab f).pl = s.pl := rfl
@[simp] theorem State.setFab_pr (s : State) (f : Fab → Fab) : (s.setFab f).pr = s.pr := rfl
@[simp] theorem State.setFab_wit (s : State) (f : Fab → Fab) : (s.setFab f).wit = s.wit := rfl
@[simp] theorem State.setFab_emitted (s : State) (f : Fab → Fab) : (s.setFab f).emitted = s.emitted := rfl
@[simp] theorem State.setFab_pending (s : State) (f : Fab → Fab) : (s.setFab f).pending = s.pending := rfl

@[simp] theorem State.setMix_now (s : State) (f : Mix → Mix) : (s.setMix f).now = s.now := rfl
@[simp] theorem State.setMix_freeCtr (s : State) (f : Mix → Mix) : (s.setMix f).freeCtr = s.freeCtr := rfl
@[simp] theorem State.setMix_rf (s : State) (f : Mix → Mix) : (s.setMix f).rf = s.rf := rfl
@[simp] theorem State.setMix_glb (s : State) (f : Mix → Mix) : (s.setMix f).glb = s.glb := rfl
@[simp] theorem State.setMix_fab (s : State) (f : Mix → Mix) : (s.setMix f).fab = s.fab := rfl
@[simp] theorem State.setMix_shed (s : State) (f : Mix → Mix) : (s.setMix f).shed = s.shed := rfl
@[simp] theorem State.setMix_mix (s : State) (f : Mix → Mix) : (s.setMix f).mix = f s.mix := rfl
@[simp] theorem State.setMix_dyn (s : State) (f : Mix → Mix) : (s.setMix f).dyn = s.dyn := rfl
@[simp] theorem State.setMix_rb (s : State) (f : Mix → Mix) : (s.setMix f).rb = s.rb := rfl
@[simp] theorem State.setMix_ln (s : State) (f : Mix → Mix) : (s.setMix f).ln = s.ln := rfl
@[simp] theorem State.setMix_sw (s : State) (f : Mix → Mix) : (s.setMix f).sw = s.sw := rfl
@[simp] theorem State.setMix_tb (s : State) (f : Mix → Mix) : (s.setMix f).tb = s.tb := rfl
@[simp] theorem State.setMix_str (s : State) (f : Mix → Mix) : (s.setMix f).str = s.str := rfl
@[simp] theorem State.setMix_ref (s : State) (f : Mix → Mix) : (s.setMix f).ref = s.ref := rfl
@[simp] theorem State.setMix_syn (s : State) (f : Mix → Mix) : (s.setMix f).syn = s.syn := rfl
@[simp] theorem State.setMix_cio (s : State) (f : Mix → Mix) : (s.setMix f).cio = s.cio := rfl
@[simp] theorem State.setMix_spl (s : State) (f : Mix → Mix) : (s.setMix f).spl = s.spl := rfl
@[simp] theorem State.setMix_evt (s : State) (f : Mix → Mix) : (s.setMix f).evt = s.evt := rfl
@[simp] theorem State.setMix_saf (s : State) (f : Mix → Mix) : (s.setMix f).saf = s.saf := rfl
@[simp] theorem State.setMix_ses (s : State) (f : Mix → Mix) : (s.setMix f).ses = s.ses := rfl
@[simp] theorem State.setMix_pl (s : State) (f : Mix → Mix) : (s.setMix f).pl = s.pl := rfl
@[simp] theorem State.setMix_pr (s : State) (f : Mix → Mix) : (s.setMix f).pr = s.pr := rfl
@[simp] theorem State.setMix_wit (s : State) (f : Mix → Mix) : (s.setMix f).wit = s.wit := rfl
@[simp] theorem State.setMix_emitted (s : State) (f : Mix → Mix) : (s.setMix f).emitted = s.emitted := rfl
@[simp] theorem State.setMix_pending (s : State) (f : Mix → Mix) : (s.setMix f).pending = s.pending := rfl

@[simp] theorem State.setDyn_now (s : State) (f : Dyn → Dyn) : (s.setDyn f).now = s.now := rfl
@[simp] theorem State.setDyn_freeCtr (s : State) (f : Dyn → Dyn) : (s.setDyn f).freeCtr = s.freeCtr := rfl
@[simp] theorem State.setDyn_rf (s : State) (f : Dyn → Dyn) : (s.setDyn f).rf = s.rf := rfl
@[simp] theorem State.setDyn_glb (s : State) (f : Dyn → Dyn) : (s.setDyn f).glb = s.glb := rfl
@[simp] theorem State.setDyn_fab (s : State) (f : Dyn → Dyn) : (s.setDyn f).fab = s.fab := rfl
@[simp] theorem State.setDyn_shed (s : State) (f : Dyn → Dyn) : (s.setDyn f).shed = s.shed := rfl
@[simp] theorem State.setDyn_mix (s : State) (f : Dyn → Dyn) : (s.setDyn f).mix = s.mix := rfl
@[simp] theorem State.setDyn_dyn (s : State) (f : Dyn → Dyn) : (s.setDyn f).dyn = f s.dyn := rfl
@[simp] theorem State.setDyn_rb (s : State) (f : Dyn → Dyn) : (s.setDyn f).rb = s.rb := rfl
@[simp] theorem State.setDyn_ln (s : State) (f : Dyn → Dyn) : (s.setDyn f).ln = s.ln := rfl
@[simp] theorem State.setDyn_sw (s : State) (f : Dyn → Dyn) : (s.setDyn f).sw = s.sw := rfl
@[simp] theorem State.setDyn_tb (s : State) (f : Dyn → Dyn) : (s.setDyn f).tb = s.tb := rfl
@[simp] theorem State.setDyn_str (s : State) (f : Dyn → Dyn) : (s.setDyn f).str = s.str := rfl
@[simp] theorem State.setDyn_ref (s : State) (f : Dyn → Dyn) : (s.setDyn f).ref = s.ref := rfl
@[simp] theorem State.setDyn_syn (s : State) (f : Dyn → Dyn) : (s.setDyn f).syn = s.syn := rfl
@[simp] theorem State.setDyn_cio (s : State) (f : Dyn → Dyn) : (s.setDyn f).cio = s.cio := rfl
@[simp] theorem State.setDyn_spl (s : State) (f : Dyn → Dyn) : (s.setDyn f).spl = s.spl := rfl
@[simp] theorem State.setDyn_evt (s : State) (f : Dyn → Dyn) : (s.setDyn f).evt = s.evt := rfl
@[simp] theorem State.setDyn_saf (s : State) (f : Dyn → Dyn) : (s.setDyn f).saf = s.saf := rfl
@[simp] theorem State.setDyn_ses (s : State) (f : Dyn → Dyn) : (s.setDyn f).ses = s.ses := rfl
@[simp] theorem State.setDyn_pl (s : State) (f : Dyn → Dyn) : (s.setDyn f).pl = s.pl := rfl
@[simp] theorem State.setDyn_pr (s : State) (f : Dyn → Dyn) : (s.setDyn f).pr = s.pr := rfl
@[simp] theorem State.setDyn_wit (s : State) (f : Dyn → Dyn) : (s.setDyn f).wit = s.wit := rfl
@[simp] theorem State.setDyn_emitted (s : State) (f : Dyn → Dyn) : (s.setDyn f).emitted = s.emitted := rfl
@[simp] theorem State.setDyn_pending (s : State) (f : Dyn → Dyn) : (s.setDyn f).pending = s.pending := rfl

@[simp] theorem State.setRb_now (s : State) (f : Bridges → Bridges) : (s.setRb f).now = s.now := rfl
@[simp] theorem State.setRb_freeCtr (s : State) (f : Bridges → Bridges) : (s.setRb f).freeCtr = s.freeCtr := rfl
@[simp] theorem State.setRb_rf (s : State) (f : Bridges → Bridges) : (s.setRb f).rf = s.rf := rfl
@[simp] theorem State.setRb_glb (s : State) (f : Bridges → Bridges) : (s.setRb f).glb = s.glb := rfl
@[simp] theorem State.setRb_fab (s : State) (f : Bridges → Bridges) : (s.setRb f).fab = s.fab := rfl
@[simp] theorem State.setRb_shed (s : State) (f : Bridges → Bridges) : (s.setRb f).shed = s.shed := rfl
@[simp] theorem State.setRb_mix (s : State) (f : Bridges → Bridges) : (s.setRb f).mix = s.mix := rfl
@[simp] theorem State.setRb_dyn (s : State) (f : Bridges → Bridges) : (s.setRb f).dyn = s.dyn := rfl
@[simp] theorem State.setRb_rb (s : State) (f : Bridges → Bridges) : (s.setRb f).rb = f s.rb := rfl
@[simp] theorem State.setRb_ln (s : State) (f : Bridges → Bridges) : (s.setRb f).ln = s.ln := rfl
@[simp] theorem State.setRb_sw (s : State) (f : Bridges → Bridges) : (s.setRb f).sw = s.sw := rfl
@[simp] theorem State.setRb_tb (s : State) (f : Bridges → Bridges) : (s.setRb f).tb = s.tb := rfl
@[simp] theorem State.setRb_str (s : State) (f : Bridges → Bridges) : (s.setRb f).str = s.str := rfl
@[simp] theorem State.setRb_ref (s : State) (f : Bridges → Bridges) : (s.setRb f).ref = s.ref := rfl
@[simp] theorem State.setRb_syn (s : State) (f : Bridges → Bridges) : (s.setRb f).syn = s.syn := rfl
@[simp] theorem State.setRb_cio (s : State) (f : Bridges → Bridges) : (s.setRb f).cio = s.cio := rfl
@[simp] theorem State.setRb_spl (s : State) (f : Bridges → Bridges) : (s.setRb f).spl = s.spl := rfl
@[simp] theorem State.setRb_evt (s : State) (f : Bridges → Bridges) : (s.setRb f).evt = s.evt := rfl
@[simp] theorem State.setRb_saf (s : State) (f : Bridges → Bridges) : (s.setRb f).saf = s.saf := rfl
@[simp] theorem State.setRb_ses (s : State) (f : Bridges → Bridges) : (s.setRb f).ses = s.ses := rfl
@[simp] theorem State.setRb_pl (s : State) (f : Bridges → Bridges) : (s.setRb f).pl = s.pl := rfl
@[simp] theorem State.setRb_pr (s : State) (f : Bridges → Bridges) : (s.setRb f).pr = s.pr := rfl
@[simp] theorem State.setRb_wit (s : State) (f : Bridges → Bridges) : (s.setRb f).wit = s.wit := rfl
@[simp] theorem State.setRb_emitted (s : State) (f : Bridges → Bridges) : (s.setRb f).emitted = s.emitted := rfl
@[simp] theorem State.setRb_pending (s : State) (f : Bridges → Bridges) : (s.setRb f).pending = s.pending := rfl

@[simp] theorem State.setLn_now (s : State) (f : Lanes → Lanes) : (s.setLn f).now = s.now := rfl
@[simp] theorem State.setLn_freeCtr (s : State) (f : Lanes → Lanes) : (s.setLn f).freeCtr = s.freeCtr := rfl
@[simp] theorem State.setLn_rf (s : State) (f : Lanes → Lanes) : (s.setLn f).rf = s.rf := rfl
@[simp] theorem State.setLn_glb (s : State) (f : Lanes → Lanes) : (s.setLn f).glb = s.glb := rfl
@[simp] theorem State.setLn_fab (s : State) (f : Lanes → Lanes) : (s.setLn f).fab = s.fab := rfl
@[simp] theorem State.setLn_shed (s : State) (f : Lanes → Lanes) : (s.setLn f).shed = s.shed := rfl
@[simp] theorem State.setLn_mix (s : State) (f : Lanes → Lanes) : (s.setLn f).mix = s.mix := rfl
@[simp] theorem State.setLn_dyn (s : State) (f : Lanes → Lanes) : (s.setLn f).dyn = s.dyn := rfl
@[simp] theorem State.setLn_rb (s : State) (f : Lanes → Lanes) : (s.setLn f).rb = s.rb := rfl
@[simp] theorem State.setLn_ln (s : State) (f : Lanes → Lanes) : (s.setLn f).ln = f s.ln := rfl
@[simp] theorem State.setLn_sw (s : State) (f : Lanes → Lanes) : (s.setLn f).sw = s.sw := rfl
@[simp] theorem State.setLn_tb (s : State) (f : Lanes → Lanes) : (s.setLn f).tb = s.tb := rfl
@[simp] theorem State.setLn_str (s : State) (f : Lanes → Lanes) : (s.setLn f).str = s.str := rfl
@[simp] theorem State.setLn_ref (s : State) (f : Lanes → Lanes) : (s.setLn f).ref = s.ref := rfl
@[simp] theorem State.setLn_syn (s : State) (f : Lanes → Lanes) : (s.setLn f).syn = s.syn := rfl
@[simp] theorem State.setLn_cio (s : State) (f : Lanes → Lanes) : (s.setLn f).cio = s.cio := rfl
@[simp] theorem State.setLn_spl (s : State) (f : Lanes → Lanes) : (s.setLn f).spl = s.spl := rfl
@[simp] theorem State.setLn_evt (s : State) (f : Lanes → Lanes) : (s.setLn f).evt = s.evt := rfl
@[simp] theorem State.setLn_saf (s : State) (f : Lanes → Lanes) : (s.setLn f).saf = s.saf := rfl
@[simp] theorem State.setLn_ses (s : State) (f : Lanes → Lanes) : (s.setLn f).ses = s.ses := rfl
@[simp] theorem State.setLn_pl (s : State) (f : Lanes → Lanes) : (s.setLn f).pl = s.pl := rfl
@[simp] theorem State.setLn_pr (s : State) (f : Lanes → Lanes) : (s.setLn f).pr = s.pr := rfl
@[simp] theorem State.setLn_wit (s : State) (f : Lanes → Lanes) : (s.setLn f).wit = s.wit := rfl
@[simp] theorem State.setLn_emitted (s : State) (f : Lanes → Lanes) : (s.setLn f).emitted = s.emitted := rfl
@[simp] theorem State.setLn_pending (s : State) (f : Lanes → Lanes) : (s.setLn f).pending = s.pending := rfl

@[simp] theorem State.setSw_now (s : State) (f : Switch → Switch) : (s.setSw f).now = s.now := rfl
@[simp] theorem State.setSw_freeCtr (s : State) (f : Switch → Switch) : (s.setSw f).freeCtr = s.freeCtr := rfl
@[simp] theorem State.setSw_rf (s : State) (f : Switch → Switch) : (s.setSw f).rf = s.rf := rfl
@[simp] theorem State.setSw_glb (s : State) (f : Switch → Switch) : (s.setSw f).glb = s.glb := rfl
@[simp] theorem State.setSw_fab (s : State) (f : Switch → Switch) : (s.setSw f).fab = s.fab := rfl
@[simp] theorem State.setSw_shed (s : State) (f : Switch → Switch) : (s.setSw f).shed = s.shed := rfl
@[simp] theorem State.setSw_mix (s : State) (f : Switch → Switch) : (s.setSw f).mix = s.mix := rfl
@[simp] theorem State.setSw_dyn (s : State) (f : Switch → Switch) : (s.setSw f).dyn = s.dyn := rfl
@[simp] theorem State.setSw_rb (s : State) (f : Switch → Switch) : (s.setSw f).rb = s.rb := rfl
@[simp] theorem State.setSw_ln (s : State) (f : Switch → Switch) : (s.setSw f).ln = s.ln := rfl
@[simp] theorem State.setSw_sw (s : State) (f : Switch → Switch) : (s.setSw f).sw = f s.sw := rfl
@[simp] theorem State.setSw_tb (s : State) (f : Switch → Switch) : (s.setSw f).tb = s.tb := rfl
@[simp] theorem State.setSw_str (s : State) (f : Switch → Switch) : (s.setSw f).str = s.str := rfl
@[simp] theorem State.setSw_ref (s : State) (f : Switch → Switch) : (s.setSw f).ref = s.ref := rfl
@[simp] theorem State.setSw_syn (s : State) (f : Switch → Switch) : (s.setSw f).syn = s.syn := rfl
@[simp] theorem State.setSw_cio (s : State) (f : Switch → Switch) : (s.setSw f).cio = s.cio := rfl
@[simp] theorem State.setSw_spl (s : State) (f : Switch → Switch) : (s.setSw f).spl = s.spl := rfl
@[simp] theorem State.setSw_evt (s : State) (f : Switch → Switch) : (s.setSw f).evt = s.evt := rfl
@[simp] theorem State.setSw_saf (s : State) (f : Switch → Switch) : (s.setSw f).saf = s.saf := rfl
@[simp] theorem State.setSw_ses (s : State) (f : Switch → Switch) : (s.setSw f).ses = s.ses := rfl
@[simp] theorem State.setSw_pl (s : State) (f : Switch → Switch) : (s.setSw f).pl = s.pl := rfl
@[simp] theorem State.setSw_pr (s : State) (f : Switch → Switch) : (s.setSw f).pr = s.pr := rfl
@[simp] theorem State.setSw_wit (s : State) (f : Switch → Switch) : (s.setSw f).wit = s.wit := rfl
@[simp] theorem State.setSw_emitted (s : State) (f : Switch → Switch) : (s.setSw f).emitted = s.emitted := rfl
@[simp] theorem State.setSw_pending (s : State) (f : Switch → Switch) : (s.setSw f).pending = s.pending := rfl

@[simp] theorem State.setTb_now (s : State) (f : TimeBases → TimeBases) : (s.setTb f).now = s.now := rfl
@[simp] theorem State.setTb_freeCtr (s : State) (f : TimeBases → TimeBases) : (s.setTb f).freeCtr = s.freeCtr := rfl
@[simp] theorem State.setTb_rf (s : State) (f : TimeBases → TimeBases) : (s.setTb f).rf = s.rf := rfl
@[simp] theorem State.setTb_glb (s : State) (f : TimeBases → TimeBases) : (s.setTb f).glb = s.glb := rfl
@[simp] theorem State.setTb_fab (s : State) (f : TimeBases → TimeBases) : (s.setTb f).fab = s.fab := rfl
@[simp] theorem State.setTb_shed (s : State) (f : TimeBases → TimeBases) : (s.setTb f).shed = s.shed := rfl
@[simp] theorem State.setTb_mix (s : State) (f : TimeBases → TimeBases) : (s.setTb f).mix = s.mix := rfl
@[simp] theorem State.setTb_dyn (s : State) (f : TimeBases → TimeBases) : (s.setTb f).dyn = s.dyn := rfl
@[simp] theorem State.setTb_rb (s : State) (f : TimeBases → TimeBases) : (s.setTb f).rb = s.rb := rfl
@[simp] theorem State.setTb_ln (s : State) (f : TimeBases → TimeBases) : (s.setTb f).ln = s.ln := rfl
@[simp] theorem State.setTb_sw (s : State) (f : TimeBases → TimeBases) : (s.setTb f).sw = s.sw := rfl
@[simp] theorem State.setTb_tb (s : State) (f : TimeBases → TimeBases) : (s.setTb f).tb = f s.tb := rfl
@[simp] theorem State.setTb_str (s : State) (f : TimeBases → TimeBases) : (s.setTb f).str = s.str := rfl
@[simp] theorem State.setTb_ref (s : State) (f : TimeBases → TimeBases) : (s.setTb f).ref = s.ref := rfl
@[simp] theorem State.setTb_syn (s : State) (f : TimeBases → TimeBases) : (s.setTb f).syn = s.syn := rfl
@[simp] theorem State.setTb_cio (s : State) (f : TimeBases → TimeBases) : (s.setTb f).cio = s.cio := rfl
@[simp] theorem State.setTb_spl (s : State) (f : TimeBases → TimeBases) : (s.setTb f).spl = s.spl := rfl
@[simp] theorem State.setTb_evt (s : State) (f : TimeBases → TimeBases) : (s.setTb f).evt = s.evt := rfl
@[simp] theorem State.setTb_saf (s : State) (f : TimeBases → TimeBases) : (s.setTb f).saf = s.saf := rfl
@[simp] theorem State.setTb_ses (s : State) (f : TimeBases → TimeBases) : (s.setTb f).ses = s.ses := rfl
@[simp] theorem State.setTb_pl (s : State) (f : TimeBases → TimeBases) : (s.setTb f).pl = s.pl := rfl
@[simp] theorem State.setTb_pr (s : State) (f : TimeBases → TimeBases) : (s.setTb f).pr = s.pr := rfl
@[simp] theorem State.setTb_wit (s : State) (f : TimeBases → TimeBases) : (s.setTb f).wit = s.wit := rfl
@[simp] theorem State.setTb_emitted (s : State) (f : TimeBases → TimeBases) : (s.setTb f).emitted = s.emitted := rfl
@[simp] theorem State.setTb_pending (s : State) (f : TimeBases → TimeBases) : (s.setTb f).pending = s.pending := rfl

@[simp] theorem State.setEvt_now (s : State) (f : Evt → Evt) : (s.setEvt f).now = s.now := rfl
@[simp] theorem State.setEvt_freeCtr (s : State) (f : Evt → Evt) : (s.setEvt f).freeCtr = s.freeCtr := rfl
@[simp] theorem State.setEvt_rf (s : State) (f : Evt → Evt) : (s.setEvt f).rf = s.rf := rfl
@[simp] theorem State.setEvt_glb (s : State) (f : Evt → Evt) : (s.setEvt f).glb = s.glb := rfl
@[simp] theorem State.setEvt_fab (s : State) (f : Evt → Evt) : (s.setEvt f).fab = s.fab := rfl
@[simp] theorem State.setEvt_shed (s : State) (f : Evt → Evt) : (s.setEvt f).shed = s.shed := rfl
@[simp] theorem State.setEvt_mix (s : State) (f : Evt → Evt) : (s.setEvt f).mix = s.mix := rfl
@[simp] theorem State.setEvt_dyn (s : State) (f : Evt → Evt) : (s.setEvt f).dyn = s.dyn := rfl
@[simp] theorem State.setEvt_rb (s : State) (f : Evt → Evt) : (s.setEvt f).rb = s.rb := rfl
@[simp] theorem State.setEvt_ln (s : State) (f : Evt → Evt) : (s.setEvt f).ln = s.ln := rfl
@[simp] theorem State.setEvt_sw (s : State) (f : Evt → Evt) : (s.setEvt f).sw = s.sw := rfl
@[simp] theorem State.setEvt_tb (s : State) (f : Evt → Evt) : (s.setEvt f).tb = s.tb := rfl
@[simp] theorem State.setEvt_str (s : State) (f : Evt → Evt) : (s.setEvt f).str = s.str := rfl
@[simp] theorem State.setEvt_ref (s : State) (f : Evt → Evt) : (s.setEvt f).ref = s.ref := rfl
@[simp] theorem State.setEvt_syn (s : State) (f : Evt → Evt) : (s.setEvt f).syn = s.syn := rfl
@[simp] theorem State.setEvt_cio (s : State) (f : Evt → Evt) : (s.setEvt f).cio = s.cio := rfl
@[simp] theorem State.setEvt_spl (s : State) (f : Evt → Evt) : (s.setEvt f).spl = s.spl := rfl
@[simp] theorem State.setEvt_evt (s : State) (f : Evt → Evt) : (s.setEvt f).evt = f s.evt := rfl
@[simp] theorem State.setEvt_saf (s : State) (f : Evt → Evt) : (s.setEvt f).saf = s.saf := rfl
@[simp] theorem State.setEvt_ses (s : State) (f : Evt → Evt) : (s.setEvt f).ses = s.ses := rfl
@[simp] theorem State.setEvt_pl (s : State) (f : Evt → Evt) : (s.setEvt f).pl = s.pl := rfl
@[simp] theorem State.setEvt_pr (s : State) (f : Evt → Evt) : (s.setEvt f).pr = s.pr := rfl
@[simp] theorem State.setEvt_wit (s : State) (f : Evt → Evt) : (s.setEvt f).wit = s.wit := rfl
@[simp] theorem State.setEvt_emitted (s : State) (f : Evt → Evt) : (s.setEvt f).emitted = s.emitted := rfl
@[simp] theorem State.setEvt_pending (s : State) (f : Evt → Evt) : (s.setEvt f).pending = s.pending := rfl

@[simp] theorem State.setStr_now (s : State) (f : Streams → Streams) : (s.setStr f).now = s.now := rfl
@[simp] theorem State.setStr_freeCtr (s : State) (f : Streams → Streams) : (s.setStr f).freeCtr = s.freeCtr := rfl
@[simp] theorem State.setStr_rf (s : State) (f : Streams → Streams) : (s.setStr f).rf = s.rf := rfl
@[simp] theorem State.setStr_glb (s : State) (f : Streams → Streams) : (s.setStr f).glb = s.glb := rfl
@[simp] theorem State.setStr_fab (s : State) (f : Streams → Streams) : (s.setStr f).fab = s.fab := rfl
@[simp] theorem State.setStr_shed (s : State) (f : Streams → Streams) : (s.setStr f).shed = s.shed := rfl
@[simp] theorem State.setStr_mix (s : State) (f : Streams → Streams) : (s.setStr f).mix = s.mix := rfl
@[simp] theorem State.setStr_dyn (s : State) (f : Streams → Streams) : (s.setStr f).dyn = s.dyn := rfl
@[simp] theorem State.setStr_rb (s : State) (f : Streams → Streams) : (s.setStr f).rb = s.rb := rfl
@[simp] theorem State.setStr_ln (s : State) (f : Streams → Streams) : (s.setStr f).ln = s.ln := rfl
@[simp] theorem State.setStr_sw (s : State) (f : Streams → Streams) : (s.setStr f).sw = s.sw := rfl
@[simp] theorem State.setStr_tb (s : State) (f : Streams → Streams) : (s.setStr f).tb = s.tb := rfl
@[simp] theorem State.setStr_str (s : State) (f : Streams → Streams) : (s.setStr f).str = f s.str := rfl
@[simp] theorem State.setStr_ref (s : State) (f : Streams → Streams) : (s.setStr f).ref = s.ref := rfl
@[simp] theorem State.setStr_syn (s : State) (f : Streams → Streams) : (s.setStr f).syn = s.syn := rfl
@[simp] theorem State.setStr_cio (s : State) (f : Streams → Streams) : (s.setStr f).cio = s.cio := rfl
@[simp] theorem State.setStr_spl (s : State) (f : Streams → Streams) : (s.setStr f).spl = s.spl := rfl
@[simp] theorem State.setStr_evt (s : State) (f : Streams → Streams) : (s.setStr f).evt = s.evt := rfl
@[simp] theorem State.setStr_saf (s : State) (f : Streams → Streams) : (s.setStr f).saf = s.saf := rfl
@[simp] theorem State.setStr_ses (s : State) (f : Streams → Streams) : (s.setStr f).ses = s.ses := rfl
@[simp] theorem State.setStr_pl (s : State) (f : Streams → Streams) : (s.setStr f).pl = s.pl := rfl
@[simp] theorem State.setStr_pr (s : State) (f : Streams → Streams) : (s.setStr f).pr = s.pr := rfl
@[simp] theorem State.setStr_wit (s : State) (f : Streams → Streams) : (s.setStr f).wit = s.wit := rfl
@[simp] theorem State.setStr_emitted (s : State) (f : Streams → Streams) : (s.setStr f).emitted = s.emitted := rfl
@[simp] theorem State.setStr_pending (s : State) (f : Streams → Streams) : (s.setStr f).pending = s.pending := rfl

@[simp] theorem State.setRef_now (s : State) (f : Refs → Refs) : (s.setRef f).now = s.now := rfl
@[simp] theorem State.setRef_freeCtr (s : State) (f : Refs → Refs) : (s.setRef f).freeCtr = s.freeCtr := rfl
@[simp] theorem State.setRef_rf (s : State) (f : Refs → Refs) : (s.setRef f).rf = s.rf := rfl
@[simp] theorem State.setRef_glb (s : State) (f : Refs → Refs) : (s.setRef f).glb = s.glb := rfl
@[simp] theorem State.setRef_fab (s : State) (f : Refs → Refs) : (s.setRef f).fab = s.fab := rfl
@[simp] theorem State.setRef_shed (s : State) (f : Refs → Refs) : (s.setRef f).shed = s.shed := rfl
@[simp] theorem State.setRef_mix (s : State) (f : Refs → Refs) : (s.setRef f).mix = s.mix := rfl
@[simp] theorem State.setRef_dyn (s : State) (f : Refs → Refs) : (s.setRef f).dyn = s.dyn := rfl
@[simp] theorem State.setRef_rb (s : State) (f : Refs → Refs) : (s.setRef f).rb = s.rb := rfl
@[simp] theorem State.setRef_ln (s : State) (f : Refs → Refs) : (s.setRef f).ln = s.ln := rfl
@[simp] theorem State.setRef_sw (s : State) (f : Refs → Refs) : (s.setRef f).sw = s.sw := rfl
@[simp] theorem State.setRef_tb (s : State) (f : Refs → Refs) : (s.setRef f).tb = s.tb := rfl
@[simp] theorem State.setRef_str (s : State) (f : Refs → Refs) : (s.setRef f).str = s.str := rfl
@[simp] theorem State.setRef_ref (s : State) (f : Refs → Refs) : (s.setRef f).ref = f s.ref := rfl
@[simp] theorem State.setRef_syn (s : State) (f : Refs → Refs) : (s.setRef f).syn = s.syn := rfl
@[simp] theorem State.setRef_cio (s : State) (f : Refs → Refs) : (s.setRef f).cio = s.cio := rfl
@[simp] theorem State.setRef_spl (s : State) (f : Refs → Refs) : (s.setRef f).spl = s.spl := rfl
@[simp] theorem State.setRef_evt (s : State) (f : Refs → Refs) : (s.setRef f).evt = s.evt := rfl
@[simp] theorem State.setRef_saf (s : State) (f : Refs → Refs) : (s.setRef f).saf = s.saf := rfl
@[simp] theorem State.setRef_ses (s : State) (f : Refs → Refs) : (s.setRef f).ses = s.ses := rfl
@[simp] theorem State.setRef_pl (s : State) (f : Refs → Refs) : (s.setRef f).pl = s.pl := rfl
@[simp] theorem State.setRef_pr (s : State) (f : Refs → Refs) : (s.setRef f).pr = s.pr := rfl
@[simp] theorem State.setRef_wit (s : State) (f : Refs → Refs) : (s.setRef f).wit = s.wit := rfl
@[simp] theorem State.setRef_emitted (s : State) (f : Refs → Refs) : (s.setRef f).emitted = s.emitted := rfl
@[simp] theorem State.setRef_pending (s : State) (f : Refs → Refs) : (s.setRef f).pending = s.pending := rfl

@[simp] theorem State.setSyn_now (s : State) (f : Syns → Syns) : (s.setSyn f).now = s.now := rfl
@[simp] theorem State.setSyn_freeCtr (s : State) (f : Syns → Syns) : (s.setSyn f).freeCtr = s.freeCtr := rfl
@[simp] theorem State.setSyn_rf (s : State) (f : Syns → Syns) : (s.setSyn f).rf = s.rf := rfl
@[simp] theorem State.setSyn_glb (s : State) (f : Syns → Syns) : (s.setSyn f).glb = s.glb := rfl
@[simp] theorem State.setSyn_fab (s : State) (f : Syns → Syns) : (s.setSyn f).fab = s.fab := rfl
@[simp] theorem State.setSyn_shed (s : State) (f : Syns → Syns) : (s.setSyn f).shed = s.shed := rfl
@[simp] theorem State.setSyn_mix (s : State) (f : Syns → Syns) : (s.setSyn f).mix = s.mix := rfl
@[simp] theorem State.setSyn_dyn (s : State) (f : Syns → Syns) : (s.setSyn f).dyn = s.dyn := rfl
@[simp] theorem State.setSyn_rb (s : State) (f : Syns → Syns) : (s.setSyn f).rb = s.rb := rfl
@[simp] theorem State.setSyn_ln (s : State) (f : Syns → Syns) : (s.setSyn f).ln = s.ln := rfl
@[simp] theorem State.setSyn_sw (s : State) (f : Syns → Syns) : (s.setSyn f).sw = s.sw := rfl
@[simp] theorem State.setSyn_tb (s : State) (f : Syns → Syns) : (s.setSyn f).tb = s.tb := rfl
@[simp] theorem State.setSyn_str (s : State) (f : Syns → Syns) : (s.setSyn f).str = s.str := rfl
@[simp] theorem State.setSyn_ref (s : State) (f : Syns → Syns) : (s.setSyn f).ref = s.ref := rfl
@[simp] theorem State.setSyn_syn (s : State) (f : Syns → Syns) : (s.setSyn f).syn = f s.syn := rfl
@[simp] theorem State.setSyn_cio (s : State) (f : Syns → Syns) : (s.setSyn f).cio = s.cio := rfl
@[simp] theorem State.setSyn_spl (s : State) (f : Syns → Syns) : (s.setSyn f).spl = s.spl := rfl
@[simp] theorem State.setSyn_evt (s : State) (f : Syns → Syns) : (s.setSyn f).evt = s.evt := rfl
@[simp] theorem State.setSyn_saf (s : State) (f : Syns → Syns) : (s.setSyn f).saf = s.saf := rfl
@[simp] theorem State.setSyn_ses (s : State) (f : Syns → Syns) : (s.setSyn f).ses = s.ses := rfl
@[simp] theorem State.setSyn_pl (s : State) (f : Syns → Syns) : (s.setSyn f).pl = s.pl := rfl
@[simp] theorem State.setSyn_pr (s : State) (f : Syns → Syns) : (s.setSyn f).pr = s.pr := rfl
@[simp] theorem State.setSyn_wit (s : State) (f : Syns → Syns) : (s.setSyn f).wit = s.wit := rfl
@[simp] theorem State.setSyn_emitted (s : State) (f : Syns → Syns) : (s.setSyn f).emitted = s.emitted := rfl
@[simp] theorem State.setSyn_pending (s : State) (f : Syns → Syns) : (s.setSyn f).pending = s.pending := rfl

@[simp] theorem State.setCio_now (s : State) (f : Cio → Cio) : (s.setCio f).now = s.now := rfl
@[simp] theorem State.setCio_freeCtr (s : State) (f : Cio → Cio) : (s.setCio f).freeCtr = s.freeCtr := rfl
@[simp] theorem State.setCio_rf (s : State) (f : Cio → Cio) : (s.setCio f).rf = s.rf := rfl
@[simp] theorem State.setCio_glb (s : State) (f : Cio → Cio) : (s.setCio f).glb = s.glb := rfl
@[simp] theorem State.setCio_fab (s : State) (f : Cio → Cio) : (s.setCio f).fab = s.fab := rfl
@[simp] theorem State.setCio_shed (s : State) (f : Cio → Cio) : (s.setCio f).shed = s.shed := rfl
@[simp] theorem State.setCio_mix (s : State) (f : Cio → Cio) : (s.setCio f).mix = s.mix := rfl
@[simp] theorem State.setCio_dyn (s : State) (f : Cio → Cio) : (s.setCio f).dyn = s.dyn := rfl
@[simp] theorem State.setCio_rb (s : State) (f : Cio → Cio) : (s.setCio f).rb = s.rb := rfl
@[simp] theorem State.setCio_ln (s : State) (f : Cio → Cio) : (s.setCio f).ln = s.ln := rfl
@[simp] theorem State.setCio_sw (s : State) (f : Cio → Cio) : (s.setCio f).sw = s.sw := rfl
@[simp] theorem State.setCio_tb (s : State) (f : Cio → Cio) : (s.setCio f).tb = s.tb := rfl
@[simp] theorem State.setCio_str (s : State) (f : Cio → Cio) : (s.setCio f).str = s.str := rfl
@[simp] theorem State.setCio_ref (s : State) (f : Cio → Cio) : (s.setCio f).ref = s.ref := rfl
@[simp] theorem State.setCio_syn (s : State) (f : Cio → Cio) : (s.setCio f).syn = s.syn := rfl
@[simp] theorem State.setCio_cio (s : State) (f : Cio → Cio) : (s.setCio f).cio = f s.cio := rfl
@[simp] theorem State.setCio_spl (s : State) (f : Cio → Cio) : (s.setCio f).spl = s.spl := rfl
@[simp] theorem State.setCio_evt (s : State) (f : Cio → Cio) : (s.setCio f).evt = s.evt := rfl
@[simp] theorem State.setCio_saf (s : State) (f : Cio → Cio) : (s.setCio f).saf = s.saf := rfl
@[simp] theorem State.setCio_ses (s : State) (f : Cio → Cio) : (s.setCio f).ses = s.ses := rfl
@[simp] theorem State.setCio_pl (s : State) (f : Cio → Cio) : (s.setCio f).pl = s.pl := rfl
@[simp] theorem State.setCio_pr (s : State) (f : Cio → Cio) : (s.setCio f).pr = s.pr := rfl
@[simp] theorem State.setCio_wit (s : State) (f : Cio → Cio) : (s.setCio f).wit = s.wit := rfl
@[simp] theorem State.setCio_emitted (s : State) (f : Cio → Cio) : (s.setCio f).emitted = s.emitted := rfl
@[simp] theorem State.setCio_pending (s : State) (f : Cio → Cio) : (s.setCio f).pending = s.pending := rfl

@[simp] theorem State.setSpl_now (s : State) (f : Spools → Spools) : (s.setSpl f).now = s.now := rfl
@[simp] theorem State.setSpl_freeCtr (s : State) (f : Spools → Spools) : (s.setSpl f).freeCtr = s.freeCtr := rfl
@[simp] theorem State.setSpl_rf (s : State) (f : Spools → Spools) : (s.setSpl f).rf = s.rf := rfl
@[simp] theorem State.setSpl_glb (s : State) (f : Spools → Spools) : (s.setSpl f).glb = s.glb := rfl
@[simp] theorem State.setSpl_fab (s : State) (f : Spools → Spools) : (s.setSpl f).fab = s.fab := rfl
@[simp] theorem State.setSpl_shed (s : State) (f : Spools → Spools) : (s.setSpl f).shed = s.shed := rfl
@[simp] theorem State.setSpl_mix (s : State) (f : Spools → Spools) : (s.setSpl f).mix = s.mix := rfl
@[simp] theorem State.setSpl_dyn (s : State) (f : Spools → Spools) : (s.setSpl f).dyn = s.dyn := rfl
@[simp] theorem State.setSpl_rb (s : State) (f : Spools → Spools) : (s.setSpl f).rb = s.rb := rfl
@[simp] theorem State.setSpl_ln (s : State) (f : Spools → Spools) : (s.setSpl f).ln = s.ln := rfl
@[simp] theorem State.setSpl_sw (s : State) (f : Spools → Spools) : (s.setSpl f).sw = s.sw := rfl
@[simp] theorem State.setSpl_tb (s : State) (f : Spools → Spools) : (s.setSpl f).tb = s.tb := rfl
@[simp] theorem State.setSpl_str (s : State) (f : Spools → Spools) : (s.setSpl f).str = s.str := rfl
@[simp] theorem State.setSpl_ref (s : State) (f : Spools → Spools) : (s.setSpl f).ref = s.ref := rfl
@[simp] theorem State.setSpl_syn (s : State) (f : Spools → Spools) : (s.setSpl f).syn = s.syn := rfl
@[simp] theorem State.setSpl_cio (s : State) (f : Spools → Spools) : (s.setSpl f).cio = s.cio := rfl
@[simp] theorem State.setSpl_spl (s : State) (f : Spools → Spools) : (s.setSpl f).spl = f s.spl := rfl
@[simp] theorem State.setSpl_evt (s : State) (f : Spools → Spools) : (s.setSpl f).evt = s.evt := rfl
@[simp] theorem State.setSpl_saf (s : State) (f : Spools → Spools) : (s.setSpl f).saf = s.saf := rfl
@[simp] theorem State.setSpl_ses (s : State) (f : Spools → Spools) : (s.setSpl f).ses = s.ses := rfl
@[simp] theorem State.setSpl_pl (s : State) (f : Spools → Spools) : (s.setSpl f).pl = s.pl := rfl
@[simp] theorem State.setSpl_pr (s : State) (f : Spools → Spools) : (s.setSpl f).pr = s.pr := rfl
@[simp] theorem State.setSpl_wit (s : State) (f : Spools → Spools) : (s.setSpl f).wit = s.wit := rfl
@[simp] theorem State.setSpl_emitted (s : State) (f : Spools → Spools) : (s.setSpl f).emitted = s.emitted := rfl
@[simp] theorem State.setSpl_pending (s : State) (f : Spools → Spools) : (s.setSpl f).pending = s.pending := rfl

@[simp] theorem State.setSaf_now (s : State) (f : Saf → Saf) : (s.setSaf f).now = s.now := rfl
@[simp] theorem State.setSaf_freeCtr (s : State) (f : Saf → Saf) : (s.setSaf f).freeCtr = s.freeCtr := rfl
@[simp] theorem State.setSaf_rf (s : State) (f : Saf → Saf) : (s.setSaf f).rf = s.rf := rfl
@[simp] theorem State.setSaf_glb (s : State) (f : Saf → Saf) : (s.setSaf f).glb = s.glb := rfl
@[simp] theorem State.setSaf_fab (s : State) (f : Saf → Saf) : (s.setSaf f).fab = s.fab := rfl
@[simp] theorem State.setSaf_shed (s : State) (f : Saf → Saf) : (s.setSaf f).shed = s.shed := rfl
@[simp] theorem State.setSaf_mix (s : State) (f : Saf → Saf) : (s.setSaf f).mix = s.mix := rfl
@[simp] theorem State.setSaf_dyn (s : State) (f : Saf → Saf) : (s.setSaf f).dyn = s.dyn := rfl
@[simp] theorem State.setSaf_rb (s : State) (f : Saf → Saf) : (s.setSaf f).rb = s.rb := rfl
@[simp] theorem State.setSaf_ln (s : State) (f : Saf → Saf) : (s.setSaf f).ln = s.ln := rfl
@[simp] theorem State.setSaf_sw (s : State) (f : Saf → Saf) : (s.setSaf f).sw = s.sw := rfl
@[simp] theorem State.setSaf_tb (s : State) (f : Saf → Saf) : (s.setSaf f).tb = s.tb := rfl
@[simp] theorem State.setSaf_str (s : State) (f : Saf → Saf) : (s.setSaf f).str = s.str := rfl
@[simp] theorem State.setSaf_ref (s : State) (f : Saf → Saf) : (s.setSaf f).ref = s.ref := rfl
@[simp] theorem State.setSaf_syn (s : State) (f : Saf → Saf) : (s.setSaf f).syn = s.syn := rfl
@[simp] theorem State.setSaf_cio (s : State) (f : Saf → Saf) : (s.setSaf f).cio = s.cio := rfl
@[simp] theorem State.setSaf_spl (s : State) (f : Saf → Saf) : (s.setSaf f).spl = s.spl := rfl
@[simp] theorem State.setSaf_evt (s : State) (f : Saf → Saf) : (s.setSaf f).evt = s.evt := rfl
@[simp] theorem State.setSaf_saf (s : State) (f : Saf → Saf) : (s.setSaf f).saf = f s.saf := rfl
@[simp] theorem State.setSaf_ses (s : State) (f : Saf → Saf) : (s.setSaf f).ses = s.ses := rfl
@[simp] theorem State.setSaf_pl (s : State) (f : Saf → Saf) : (s.setSaf f).pl = s.pl := rfl
@[simp] theorem State.setSaf_pr (s : State) (f : Saf → Saf) : (s.setSaf f).pr = s.pr := rfl
@[simp] theorem State.setSaf_wit (s : State) (f : Saf → Saf) : (s.setSaf f).wit = s.wit := rfl
@[simp] theorem State.setSaf_emitted (s : State) (f : Saf → Saf) : (s.setSaf f).emitted = s.emitted := rfl
@[simp] theorem State.setSaf_pending (s : State) (f : Saf → Saf) : (s.setSaf f).pending = s.pending := rfl

@[simp] theorem State.setGlb_now (s : State) (f : Glb → Glb) : (s.setGlb f).now = s.now := rfl
@[simp] theorem State.setGlb_freeCtr (s : State) (f : Glb → Glb) : (s.setGlb f).freeCtr = s.freeCtr := rfl
@[simp] theorem State.setGlb_rf (s : State) (f : Glb → Glb) : (s.setGlb f).rf = s.rf := rfl
@[simp] theorem State.setGlb_glb (s : State) (f : Glb → Glb) : (s.setGlb f).glb = f s.glb := rfl
@[simp] theorem State.setGlb_fab (s : State) (f : Glb → Glb) : (s.setGlb f).fab = s.fab := rfl
@[simp] theorem State.setGlb_shed (s : State) (f : Glb → Glb) : (s.setGlb f).shed = s.shed := rfl
@[simp] theorem State.setGlb_mix (s : State) (f : Glb → Glb) : (s.setGlb f).mix = s.mix := rfl
@[simp] theorem State.setGlb_dyn (s : State) (f : Glb → Glb) : (s.setGlb f).dyn = s.dyn := rfl
@[simp] theorem State.setGlb_rb (s : State) (f : Glb → Glb) : (s.setGlb f).rb = s.rb := rfl
@[simp] theorem State.setGlb_ln (s : State) (f : Glb → Glb) : (s.setGlb f).ln = s.ln := rfl
@[simp] theorem State.setGlb_sw (s : State) (f : Glb → Glb) : (s.setGlb f).sw = s.sw := rfl
@[simp] theorem State.setGlb_tb (s : State) (f : Glb → Glb) : (s.setGlb f).tb = s.tb := rfl
@[simp] theorem State.setGlb_str (s : State) (f : Glb → Glb) : (s.setGlb f).str = s.str := rfl
@[simp] theorem State.setGlb_ref (s : State) (f : Glb → Glb) : (s.setGlb f).ref = s.ref := rfl
@[simp] theorem State.setGlb_syn (s : State) (f : Glb → Glb) : (s.setGlb f).syn = s.syn := rfl
@[simp] theorem State.setGlb_cio (s : State) (f : Glb → Glb) : (s.setGlb f).cio = s.cio := rfl
@[simp] theorem State.setGlb_spl (s : State) (f : Glb → Glb) : (s.setGlb f).spl = s.spl := rfl
@[simp] theorem State.setGlb_evt (s : State) (f : Glb → Glb) : (s.setGlb f).evt = s.evt := rfl
@[simp] theorem State.setGlb_saf (s : State) (f : Glb → Glb) : (s.setGlb f).saf = s.saf := rfl
@[simp] theorem State.setGlb_ses (s : State) (f : Glb → Glb) : (s.setGlb f).ses = s.ses := rfl
@[simp] theorem State.setGlb_pl (s : State) (f : Glb → Glb) : (s.setGlb f).pl = s.pl := rfl
@[simp] theorem State.setGlb_pr (s : State) (f : Glb → Glb) : (s.setGlb f).pr = s.pr := rfl
@[simp] theorem State.setGlb_wit (s : State) (f : Glb → Glb) : (s.setGlb f).wit = s.wit := rfl
@[simp] theorem State.setGlb_emitted (s : State) (f : Glb → Glb) : (s.setGlb f).emitted = s.emitted := rfl
@[simp] theorem State.setGlb_pending (s : State) (f : Glb → Glb) : (s.setGlb f).pending = s.pending := rfl

@[simp] theorem State.setSes_now (s : State) (f : Sessions → Sessions) : (s.setSes f).now = s.now := rfl
@[simp] theorem State.setSes_freeCtr (s : State) (f : Sessions → Sessions) : (s.setSes f).freeCtr = s.freeCtr := rfl
@[simp] theorem State.setSes_rf (s : State) (f : Sessions → Sessions) : (s.setSes f).rf = s.rf := rfl
@[simp] theorem State.setSes_glb (s : State) (f : Sessions → Sessions) : (s.setSes f).glb = s.glb := rfl
@[simp] theorem State.setSes_fab (s : State) (f : Sessions → Sessions) : (s.setSes f).fab = s.fab := rfl
@[simp] theorem State.setSes_shed (s : State) (f : Sessions → Sessions) : (s.setSes f).shed = s.shed := rfl
@[simp] theorem State.setSes_mix (s : State) (f : Sessions → Sessions) : (s.setSes f).mix = s.mix := rfl
@[simp] theorem State.setSes_dyn (s : State) (f : Sessions → Sessions) : (s.setSes f).dyn = s.dyn := rfl
@[simp] theorem State.setSes_rb (s : State) (f : Sessions → Sessions) : (s.setSes f).rb = s.rb := rfl
@[simp] theorem State.setSes_ln (s : State) (f : Sessions → Sessions) : (s.setSes f).ln = s.ln := rfl
@[simp] theorem State.setSes_sw (s : State) (f : Sessions → Sessions) : (s.setSes f).sw = s.sw := rfl
@[simp] theorem State.setSes_tb (s : State) (f : Sessions → Sessions) : (s.setSes f).tb = s.tb := rfl
@[simp] theorem State.setSes_str (s : State) (f : Sessions → Sessions) : (s.setSes f).str = s.str := rfl
@[simp] theorem State.setSes_ref (s : State) (f : Sessions → Sessions) : (s.setSes f).ref = s.ref := rfl
@[simp] theorem State.setSes_syn (s : State) (f : Sessions → Sessions) : (s.setSes f).syn = s.syn := rfl
@[simp] theorem State.setSes_cio (s : State) (f : Sessions → Sessions) : (s.setSes f).cio = s.cio := rfl
@[simp] theorem State.setSes_spl (s : State) (f : Sessions → Sessions) : (s.setSes f).spl = s.spl := rfl
@[simp] theorem State.setSes_evt (s : State) (f : Sessions → Sessions) : (s.setSes f).evt = s.evt := rfl
@[simp] theorem State.setSes_saf (s : State) (f : Sessions → Sessions) : (s.setSes f).saf = s.saf := rfl
@[simp] theorem State.setSes_ses (s : State) (f : Sessions → Sessions) : (s.setSes f).ses = f s.ses := rfl
@[simp] theorem State.setSes_pl (s : State) (f : Sessions → Sessions) : (s.setSes f).pl = s.pl := rfl
@[simp] theorem State.setSes_pr (s : State) (f : Sessions → Sessions) : (s.setSes f).pr = s.pr := rfl
@[simp] theorem State.setSes_wit (s : State) (f : Sessions → Sessions) : (s.setSes f).wit = s.wit := rfl
@[simp] theorem State.setSes_emitted (s : State) (f : Sessions → Sessions) : (s.setSes f).emitted = s.emitted := rfl
@[simp] theorem State.setSes_pending (s : State) (f : Sessions → Sessions) : (s.setSes f).pending = s.pending := rfl

@[simp] theorem State.setPl_now (s : State) (f : Loader → Loader) : (s.setPl f).now = s.now := rfl
@[simp] theorem State.setPl_freeCtr (s : State) (f : Loader → Loader) : (s.setPl f).freeCtr = s.freeCtr := rfl
@[simp] theorem State.setPl_rf (s : State) (f : Loader → Loader) : (s.setPl f).rf = s.rf := rfl
@[simp] theorem State.setPl_glb (s : State) (f : Loader → Loader) : (s.setPl f).glb = s.glb := rfl
@[simp] theorem State.setPl_fab (s : State) (f : Loader → Loader) : (s.setPl f).fab = s.fab := rfl
@[simp] theorem State.setPl_shed (s : State) (f : Loader → Loader) : (s.setPl f).shed = s.shed := rfl
@[simp] theorem State.setPl_mix (s : State) (f : Loader → Loader) : (s.setPl f).mix = s.mix := rfl
@[simp] theorem State.setPl_dyn (s : State) (f : Loader → Loader) : (s.setPl f).dyn = s.dyn := rfl
@[simp] theorem State.setPl_rb (s : State) (f : Loader → Loader) : (s.setPl f).rb = s.rb := rfl
@[simp] theorem State.setPl_ln (s : State) (f : Loader → Loader) : (s.setPl f).ln = s.ln := rfl
@[simp] theorem State.setPl_sw (s : State) (f : Loader → Loader) : (s.setPl f).sw = s.sw := rfl
@[simp] theorem State.setPl_tb (s : State) (f : Loader → Loader) : (s.setPl f).tb = s.tb := rfl
@[simp] theorem State.setPl_str (s : State) (f : Loader → Loader) : (s.setPl f).str = s.str := rfl
@[simp] theorem State.setPl_ref (s : State) (f : Loader → Loader) : (s.setPl f).ref = s.ref := rfl
@[simp] theorem State.setPl_syn (s : State) (f : Loader → Loader) : (s.setPl f).syn = s.syn := rfl
@[simp] theorem State.setPl_cio (s : State) (f : Loader → Loader) : (s.setPl f).cio = s.cio := rfl
@[simp] theorem State.setPl_spl (s : State) (f : Loader → Loader) : (s.setPl f).spl = s.spl := rfl
@[simp] theorem State.setPl_evt (s : State) (f : Loader → Loader) : (s.setPl f).evt = s.evt := rfl
@[simp] theorem State.setPl_saf (s : State) (f : Loader → Loader) : (s.setPl f).saf = s.saf := rfl
@[simp] theorem State.setPl_ses (s : State) (f : Loader → Loader) : (s.setPl f).ses = s.ses := rfl
@[simp] theorem State.setPl_pl (s : State) (f : Loader → Loader) : (s.setPl f).pl = f s.pl := rfl
@[simp] theorem State.setPl_pr (s : State) (f : Loader → Loader) : (s.setPl f).pr = s.pr := rfl
@[simp] theorem State.setPl_wit (s : State) (f : Loader → Loader) : (s.setPl f).wit = s.wit := rfl
@[simp] theorem State.setPl_emitted (s : State) (f : Loader → Loader) : (s.setPl f).emitted = s.emitted := rfl
@[simp] theorem State.setPl_pending (s : State) (f : Loader → Loader) : (s.setPl f).pending = s.pending := rfl

@[simp] theorem State.setPr_now (s : State) (f : Pair → Pair) : (s.setPr f).now = s.now := rfl
@[simp] theorem State.setPr_freeCtr (s : State) (f : Pair → Pair) : (s.setPr f).freeCtr = s.freeCtr := rfl
@[simp] theorem State.setPr_rf (s : State) (f : Pair → Pair) : (s.setPr f).rf = s.rf := rfl
@[simp] theorem State.setPr_glb (s : State) (f : Pair → Pair) : (s.setPr f).glb = s.glb := rfl
@[simp] theorem State.setPr_fab (s : State) (f : Pair → Pair) : (s.setPr f).fab = s.fab := rfl
@[simp] theorem State.setPr_shed (s : State) (f : Pair → Pair) : (s.setPr f).shed = s.shed := rfl
@[simp] theorem State.setPr_mix (s : State) (f : Pair → Pair) : (s.setPr f).mix = s.mix := rfl
@[simp] theorem State.setPr_dyn (s : State) (f : Pair → Pair) : (s.setPr f).dyn = s.dyn := rfl
@[simp] theorem State.setPr_rb (s : State) (f : Pair → Pair) : (s.setPr f).rb = s.rb := rfl
@[simp] theorem State.setPr_ln (s : State) (f : Pair → Pair) : (s.setPr f).ln = s.ln := rfl
@[simp] theorem State.setPr_sw (s : State) (f : Pair → Pair) : (s.setPr f).sw = s.sw := rfl
@[simp] theorem State.setPr_tb (s : State) (f : Pair → Pair) : (s.setPr f).tb = s.tb := rfl
@[simp] theorem State.setPr_str (s : State) (f : Pair → Pair) : (s.setPr f).str = s.str := rfl
@[simp] theorem State.setPr_ref (s : State) (f : Pair → Pair) : (s.setPr f).ref = s.ref := rfl
@[simp] theorem State.setPr_syn (s : State) (f : Pair → Pair) : (s.setPr f).syn = s.syn := rfl
@[simp] theorem State.setPr_cio (s : State) (f : Pair → Pair) : (s.setPr f).cio = s.cio := rfl
@[simp] theorem State.setPr_spl (s : State) (f : Pair → Pair) : (s.setPr f).spl = s.spl := rfl
@[simp] theorem State.setPr_evt (s : State) (f : Pair → Pair) : (s.setPr f).evt = s.evt := rfl
@[simp] theorem State.setPr_saf (s : State) (f : Pair → Pair) : (s.setPr f).saf = s.saf := rfl
@[simp] theorem State.setPr_ses (s : State) (f : Pair → Pair) : (s.setPr f).ses = s.ses := rfl
@[simp] theorem State.setPr_pl (s : State) (f : Pair → Pair) : (s.setPr f).pl = s.pl := rfl
@[simp] theorem State.setPr_pr (s : State) (f : Pair → Pair) : (s.setPr f).pr = f s.pr := rfl
@[simp] theorem State.setPr_wit (s : State) (f : Pair → Pair) : (s.setPr f).wit = s.wit := rfl
@[simp] theorem State.setPr_emitted (s : State) (f : Pair → Pair) : (s.setPr f).emitted = s.emitted := rfl
@[simp] theorem State.setPr_pending (s : State) (f : Pair → Pair) : (s.setPr f).pending = s.pending := rfl

@[simp] theorem State.setWit_now (s : State) (f : Witness → Witness) : (s.setWit f).now = s.now := rfl
@[simp] theorem State.setWit_freeCtr (s : State) (f : Witness → Witness) : (s.setWit f).freeCtr = s.freeCtr := rfl
@[simp] theorem State.setWit_rf (s : State) (f : Witness → Witness) : (s.setWit f).rf = s.rf := rfl
@[simp] theorem State.setWit_glb (s : State) (f : Witness → Witness) : (s.setWit f).glb = s.glb := rfl
@[simp] theorem State.setWit_fab (s : State) (f : Witness → Witness) : (s.setWit f).fab = s.fab := rfl
@[simp] theorem State.setWit_shed (s : State) (f : Witness → Witness) : (s.setWit f).shed = s.shed := rfl
@[simp] theorem State.setWit_mix (s : State) (f : Witness → Witness) : (s.setWit f).mix = s.mix := rfl
@[simp] theorem State.setWit_dyn (s : State) (f : Witness → Witness) : (s.setWit f).dyn = s.dyn := rfl
@[simp] theorem State.setWit_rb (s : State) (f : Witness → Witness) : (s.setWit f).rb = s.rb := rfl
@[simp] theorem State.setWit_ln (s : State) (f : Witness → Witness) : (s.setWit f).ln = s.ln := rfl
@[simp] theorem State.setWit_sw (s : State) (f : Witness → Witness) : (s.setWit f).sw = s.sw := rfl
@[simp] theorem State.setWit_tb (s : State) (f : Witness → Witness) : (s.setWit f).tb = s.tb := rfl
@[simp] theorem State.setWit_str (s : State) (f : Witness → Witness) : (s.setWit f).str = s.str := rfl
@[simp] theorem State.setWit_ref (s : State) (f : Witness → Witness) : (s.setWit f).ref = s.ref := rfl
@[simp] theorem State.setWit_syn (s : State) (f : Witness → Witness) : (s.setWit f).syn = s.syn := rfl
@[simp] theorem State.setWit_cio (s : State) (f : Witness → Witness) : (s.setWit f).cio = s.cio := rfl
@[simp] theorem State.setWit_spl (s : State) (f : Witness → Witness) : (s.setWit f).spl = s.spl := rfl
@[simp] theorem State.setWit_evt (s : State) (f : Witness → Witness) : (s.setWit f).evt = s.evt := rfl
@[simp] theorem State.setWit_saf (s : State) (f : Witness → Witness) : (s.setWit f).saf = s.saf := rfl
@[simp] theorem State.setWit_ses (s : State) (f : Witness → Witness) : (s.setWit f).ses = s.ses := rfl
@[simp] theorem State.setWit_pl (s : State) (f : Witness → Witness) : (s.setWit f).pl = s.pl := rfl
@[simp] theorem State.setWit_pr (s : State) (f : Witness → Witness) : (s.setWit f).pr = s.pr := rfl
@[simp] theorem State.setWit_wit (s : State) (f : Witness → Witness) : (s.setWit f).wit = f s.wit := rfl
@[simp] theorem State.setWit_emitted (s : State) (f : Witness → Witness) : (s.setWit f).emitted = s.emitted := rfl
@[simp] theorem State.setWit_pending (s : State) (f : Witness → Witness) : (s.setWit f).pending = s.pending := rfl

end Sys2Proof.Machine
end

