-- ==== Sys2Proof/Laws/Table.lean ====
section
/-! SUPPORT. What the operations of sparse tables do to each entry, and that they keep the canonical form. -/

namespace Sys2Proof.Machine

variable {α : Type}

@[simp] theorem Tbl.get?_nil (k : Nat) : Tbl.get? ([] : Tbl α) k = none := rfl

theorem Tbl.get?_put (t : Tbl α) (k j : Nat) (v : α) :
    Tbl.get? (Tbl.put t k v) j = if j = k then some v else Tbl.get? t j := by
  induction t with
  | nil => by_cases h : k = j <;> simp [Tbl.put, Tbl.get?, h, eq_comm]
  | cons e t ih =>
    obtain ⟨i, w⟩ := e
    simp only [Tbl.put]
    split
    · rename_i hik
      subst hik
      by_cases h : i = j
      · subst h; simp [Tbl.get?]
      · simp [Tbl.get?, h, Ne.symm h]
    · split
      · by_cases h : k = j <;> simp [Tbl.get?, h, eq_comm]
      · rename_i hik _
        by_cases hi : i = j
        · subst hi; simp [Tbl.get?, hik]
        · simp [Tbl.get?, hi, ih]

@[simp] theorem Tbl.get?_put_self (t : Tbl α) (k : Nat) (v : α) : Tbl.get? (Tbl.put t k v) k = some v := by
  simp [Tbl.get?_put]

theorem Tbl.get?_put_ne (t : Tbl α) {k j : Nat} (v : α) (h : j ≠ k) :
    Tbl.get? (Tbl.put t k v) j = Tbl.get? t j := by simp [Tbl.get?_put, h]

theorem Tbl.get?_del_ne (t : Tbl α) {k j : Nat} (h : j ≠ k) : Tbl.get? (Tbl.del t k) j = Tbl.get? t j := by
  induction t with
  | nil => rfl
  | cons e t ih =>
    obtain ⟨i, w⟩ := e
    simp only [Tbl.del]
    split
    · subst_vars; simp [Tbl.get?, Ne.symm h]
    · split
      · rfl
      · simp [Tbl.get?, ih]

@[simp] theorem Tbl.getD_put_self (t : Tbl α) (k : Nat) (v d : α) : Tbl.getD (Tbl.put t k v) k d = v := by
  simp [Tbl.getD]

theorem Tbl.getD_put_ne (t : Tbl α) {k j : Nat} (v d : α) (h : j ≠ k) :
    Tbl.getD (Tbl.put t k v) j d = Tbl.getD t j d := by simp [Tbl.getD, Tbl.get?_put_ne t v h]

theorem Tbl.get?_set_ne [DecidableEq α] (d : α) (t : Tbl α) {k j : Nat} (v : α) (h : j ≠ k) :
    Tbl.get? (Tbl.set d t k v) j = Tbl.get? t j := by
  unfold Tbl.set; split
  · exact Tbl.get?_del_ne t h
  · exact Tbl.get?_put_ne t v h

/-! ## The canonical form -/

theorem Tbl.risingFrom_mono {t : Tbl α} {a b : Nat} (h : Tbl.risingFrom b t = true) (hab : a ≤ b) :
    Tbl.risingFrom a t = true := by
  cases t with
  | nil => rfl
  | cons e t =>
    simp only [Tbl.risingFrom, Bool.and_eq_true, decide_eq_true_eq] at h ⊢
    exact ⟨Nat.le_trans hab h.1, h.2⟩

theorem Tbl.get?_below {t : Tbl α} {lo k : Nat} (h : Tbl.risingFrom lo t = true) (hk : k < lo) :
    Tbl.get? t k = none := by
  induction t generalizing lo with
  | nil => rfl
  | cons e t ih =>
    obtain ⟨i, w⟩ := e
    simp only [Tbl.risingFrom, Bool.and_eq_true, decide_eq_true_eq] at h
    have hi : i ≠ k := by omega
    simp [Tbl.get?, hi, ih h.2 (by omega)]

theorem Tbl.risingFrom_put {t : Tbl α} {lo k : Nat} (v : α) (h : Tbl.risingFrom lo t = true) (hk : lo ≤ k) :
    Tbl.risingFrom lo (Tbl.put t k v) = true := by
  induction t generalizing lo with
  | nil => simp [Tbl.put, Tbl.risingFrom, hk]
  | cons e t ih =>
    obtain ⟨i, w⟩ := e
    simp only [Tbl.risingFrom, Bool.and_eq_true, decide_eq_true_eq] at h
    simp only [Tbl.put]
    split
    · subst_vars; simp [Tbl.risingFrom, hk, h.2]
    · split
      · simp [Tbl.risingFrom, hk, h.2]; omega
      · simp [Tbl.risingFrom, h.1, ih h.2 (by omega)]

theorem Tbl.risingFrom_del {t : Tbl α} {lo : Nat} (k : Nat) (h : Tbl.risingFrom lo t = true) :
    Tbl.risingFrom lo (Tbl.del t k) = true := by
  induction t generalizing lo with
  | nil => rfl
  | cons e t ih =>
    obtain ⟨i, w⟩ := e
    have h' := h
    simp only [Tbl.risingFrom, Bool.and_eq_true, decide_eq_true_eq] at h
    simp only [Tbl.del]
    split
    · exact Tbl.risingFrom_mono h.2 (by omega)
    · split
      · exact h'
      · simp [Tbl.risingFrom, h.1, ih h.2]

/-- Every write of a table keeps its canonical form. -/
theorem Tbl.wf_put {t : Tbl α} (k : Nat) (v : α) (h : t.wf = true) : (Tbl.put t k v).wf = true :=
  Tbl.risingFrom_put v h (Nat.zero_le k)

theorem Tbl.wf_del {t : Tbl α} (k : Nat) (h : t.wf = true) : (Tbl.del t k).wf = true := Tbl.risingFrom_del k h

theorem Tbl.wf_set [DecidableEq α] (d : α) {t : Tbl α} (k : Nat) (v : α) (h : t.wf = true) :
    (Tbl.set d t k v).wf = true := by
  unfold Tbl.set; split
  · exact Tbl.wf_del k h
  · exact Tbl.wf_put k v h

theorem Tbl.risingFrom_keep {t : Tbl α} {lo : Nat} (p : Nat → α → Bool) (h : Tbl.risingFrom lo t = true) :
    Tbl.risingFrom lo (Tbl.keep t p) = true := by
  induction t generalizing lo with
  | nil => rfl
  | cons e t ih =>
    obtain ⟨i, w⟩ := e
    simp only [Tbl.risingFrom, Bool.and_eq_true, decide_eq_true_eq] at h
    have ih' := ih h.2
    unfold Tbl.keep at ih' ⊢
    by_cases hp : p i w = true
    · simp [List.filter, hp, Tbl.risingFrom, h.1, ih']
    · simp [List.filter, hp]; exact Tbl.risingFrom_mono ih' (by omega)

theorem Tbl.wf_keep {t : Tbl α} (p : Nat → α → Bool) (h : t.wf = true) : (Tbl.keep t p).wf = true :=
  Tbl.risingFrom_keep p h

theorem Tbl.get?_del_self {t : Tbl α} (k : Nat) (h : t.wf = true) : Tbl.get? (Tbl.del t k) k = none := by
  have aux : ∀ (t : Tbl α) (lo : Nat), Tbl.risingFrom lo t = true → Tbl.get? (Tbl.del t k) k = none := by
    intro t
    induction t with
    | nil => intro _ _; rfl
    | cons e t ih =>
      intro lo h
      obtain ⟨i, w⟩ := e
      simp only [Tbl.risingFrom, Bool.and_eq_true, decide_eq_true_eq] at h
      simp only [Tbl.del]
      split
      · subst_vars; exact Tbl.get?_below h.2 (Nat.lt_succ_self _)
      · split
        · rename_i hik hki
          simp only [Tbl.get?, hik, if_false]
          exact Tbl.get?_below h.2 (by omega)
        · rename_i hik _
          simp only [Tbl.get?, hik, if_false]
          exact ih _ h.2
  exact aux t 0 h

/-- A value written is read back; a value equal to the default is read as the default. -/
theorem Tbl.getD_set_self [DecidableEq α] (d : α) {t : Tbl α} (k : Nat) (v : α) (h : t.wf = true) :
    Tbl.getD (Tbl.set d t k v) k d = v := by
  unfold Tbl.set; split
  · subst_vars; simp [Tbl.getD, Tbl.get?_del_self k h]
  · simp

theorem Tbl.getD_set_ne [DecidableEq α] (d e : α) (t : Tbl α) {k j : Nat} (v : α) (h : j ≠ k) :
    Tbl.getD (Tbl.set d t k v) j e = Tbl.getD t j e := by simp [Tbl.getD, Tbl.get?_set_ne d t v h]

/-- The later of two values put under a key stays. -/
@[simp] theorem Tbl.put_put (t : Tbl α) (k : Nat) (v w : α) : Tbl.put (Tbl.put t k v) k w = Tbl.put t k w := by
  induction t with
  | nil => simp [Tbl.put]
  | cons e t ih =>
    obtain ⟨j, u⟩ := e
    simp only [Tbl.put]
    split
    · simp [Tbl.put]
    · split
      · simp [Tbl.put]
      · rename_i h1 h2
        simp only [Tbl.put, h1, h2, if_false, ih]

/-! ## What all entries satisfy -/

theorem Tbl.all_put {t : Tbl α} {p : Nat × α → Bool} (k : Nat) (v : α) (h : t.all p = true) (hv : p (k, v) = true) :
    (Tbl.put t k v).all p = true := by
  induction t with
  | nil => simp [Tbl.put, hv]
  | cons e t ih =>
    obtain ⟨j, w⟩ := e
    simp only [List.all_cons, Bool.and_eq_true] at h
    unfold Tbl.put
    split
    · simp [hv, h.2]
    · split
      · simp [hv, h.1, h.2]
      · simp [h.1, ih h.2]

theorem Tbl.all_del {t : Tbl α} {p : Nat × α → Bool} (k : Nat) (h : t.all p = true) : (Tbl.del t k).all p = true := by
  induction t with
  | nil => rfl
  | cons e t ih =>
    obtain ⟨j, w⟩ := e
    simp only [List.all_cons, Bool.and_eq_true] at h
    unfold Tbl.del
    split
    · exact h.2
    · split
      · simp [h.1, h.2]
      · simp [h.1, ih h.2]

theorem Tbl.all_set [DecidableEq α] {t : Tbl α} {p : Nat × α → Bool} (d : α) (k : Nat) (v : α) (h : t.all p = true)
    (hv : p (k, v) = true) : (Tbl.set d t k v).all p = true := by
  unfold Tbl.set
  split
  · exact Tbl.all_del k h
  · exact Tbl.all_put k v h hv

theorem Tbl.all_upd {t : Tbl α} {p : Nat × α → Bool} (k : Nat) (f : α → α) (h : t.all p = true)
    (hf : ∀ v, p (k, v) = true → p (k, f v) = true) : (Tbl.upd t k f).all p = true := by
  unfold Tbl.upd
  split
  · rename_i v hv
    refine Tbl.all_put k _ h (hf v ?_)
    clear hf
    induction t with
    | nil => cases hv
    | cons e t ih =>
      obtain ⟨j, w⟩ := e
      simp only [List.all_cons, Bool.and_eq_true] at h
      simp only [Tbl.get?] at hv
      split at hv
      · rename_i hj; cases hv; subst hj; exact h.1
      · exact ih h.2 hv
  · exact h

end Sys2Proof.Machine
end

