-- ==== Sys2Proof/Laws/Run.lean ====
section
/-! SUPPORT. What carrying out a command comes to when nothing is left over for its end, and what an accepted register
write comes to. -/

namespace Sys2Proof.Machine

/-- A command whose effect leaves nothing over has just that effect. -/
theorem run_calm {s : State} {f : State → State} (h : calm (f s) = true) :
    run s f = .next { f s with now := s.now, pending := s.pending } := by
  simp [run, finish, h]

/-- A command whose effect is `t`. -/
theorem run_is {s t : State} {f : State → State} (e : f s = t) (hc : calm t = true) (hn : t.now = s.now)
    (hp : t.pending = s.pending) : run s f = .next t := by
  subst e
  rw [run_calm hc, ← hn, ← hp]

/-- A write that meets no reason to fail. -/
theorem firstCode_ok {l : List (Code × Bool)} (h : firstCode l = .ok) {c : Code} (hc : (c, true) ∈ l) : c = .ok := by
  induction l with
  | nil => cases hc
  | cons x l ih =>
    obtain ⟨d, b⟩ := x
    simp only [firstCode] at h
    split at h
    · rename_i hb
      subst h
      exact absurd hb.2 (by cases firstCode l <;> decide)
    · rename_i hb
      rcases List.mem_cons.mp hc with e | e
      · cases e
        simp only [h, true_and] at hb
        cases c <;> first | rfl | exact absurd (by decide) hb
      · exact ih h e

theorem accepted_parity {s : State} {r : Reg} {i j : Nat} {v : Word} (hf : findReg (addr r i j) = some (r, i, j))
    (h : Accepted s r i j v) : s.rf.parityBad.contains (addr r i j) = false := by
  simp only [Accepted, writeCode, hf] at h
  cases hp : s.rf.parityBad.contains (addr r i j) with
  | false => rfl
  | true =>
    have := firstCode_ok h (c := .integrity) (by simp only [regFails, hp]; simp)
    cases this

/-- A whole write without poison has the result of its register. -/
theorem pcieCode_whole (s : State) (off : Nat) (v : Word) : pcieCode s off v 15 false = writeCode .pcie s off v := by
  simp only [pcieCode, writeCode, ne_eq, not_true_eq_false, ↓reduceIte]
  cases findReg off <;> simp [firstCode]

/-- An accepted write is noted in REG_WSTATUS and does what its block says. -/
theorem regWrite_ok {s : State} {r : Reg} {i j : Nat} {v : Word} (hf : findReg (addr r i j) = some (r, i, j))
    (h : Accepted s r i j v) :
    regWrite s r i j v 15 = forwardWrite (blockWrite (noted s r i j) r i j v) r (addr r i j) v := by
  have h' : writeCode .pcie s (addr r i j) v = .ok := h
  have hp := accepted_parity hf h
  have hp' : (noted s r i j).rf.parityBad.contains (addr r i j) = false := hp
  have e : regWrite s r i j v 15 = carryOut .pcie (noted s r i j) (addr r i j) v .ok := by
    simp [regWrite, pcieWrite, pcieCode_whole, h', capture, noted]
  rw [e]
  simp only [carryOut, hf, hp', acceptWrite]
  rfl

theorem forward_alone {s : State} (h : isPair s = false) (r : Reg) (off : Nat) (v : Word) :
    forwardWrite s r off v = s := by simp [forwardWrite, h]

theorem calm_alone {s : State} (h : calm s = true) : isPair s = false := by
  simp only [calm, Bool.and_eq_true, Bool.not_eq_true'] at h; exact h.1.2

/-- An accepted write of a unit that is alone, whose effect leaves nothing over. -/
theorem run_write {s : State} {r : Reg} {i j : Nat} {v : Word} {t : State} (hf : findReg (addr r i j) = some (r, i, j))
    (ha : Accepted s r i j v) (ht : blockWrite (noted s r i j) r i j v = t) (hc : calm t = true) :
    run s (fun s => regWrite s r i j v 15) = .next { t with now := s.now, pending := s.pending } := by
  have e : regWrite s r i j v 15 = t := by
    rw [regWrite_ok hf ha, ht, forward_alone (calm_alone hc)]
  rw [run_calm (by rw [e]; exact hc), e]


theorem run_write_is {s t : State} {r : Reg} {i j : Nat} {v : Word} (hf : findReg (addr r i j) = some (r, i, j))
    (ha : Accepted s r i j v) (e : blockWrite (noted s r i j) r i j v = t) (hc : calm t = true) (hn : t.now = s.now)
    (hp : t.pending = s.pending) : run s (fun s => regWrite s r i j v 15) = .next t := by
  rw [run_write hf ha e hc, ← hn, ← hp]

/-! ## Register storage -/

theorem rd_wr_self {s : State} (h : s.rf.regs.wf = true) (r : Reg) (v : Word) (i j : Nat) :
    rd (wr s r v i j) r i j = v := Tbl.getD_set_self _ _ _ h

theorem rd_wr_ne (s : State) {r q : Reg} (v : Word) {i j k l : Nat} (h : addr q k l ≠ addr r i j) :
    rd (wr s r v i j) q k l = rd s q k l := Tbl.getD_set_ne _ _ _ _ h

theorem wr_wf {s : State} (h : s.rf.regs.wf = true) (r : Reg) (v : Word) (i j : Nat) :
    (wr s r v i j).rf.regs.wf = true := Tbl.wf_set _ _ _ h

/-- Raising flags changes the flag register and the event block, nothing else. -/
theorem raise_eq (s : State) (r : Reg) (bits i : Nat) :
    ∃ rf evt, raise s r bits i = { s with rf := rf, evt := evt } ∧
      rf = (wr s r (word ((rd s r i).toNat ||| bits)) i).rf := by
  unfold raise pushEdges
  cases evtGroup r with
  | none => exact ⟨_, s.evt, rfl, rfl⟩
  | some g => exact ⟨_, _, rfl, rfl⟩

theorem rd_raise_ne (s : State) {r q : Reg} (bits : Nat) {i k l : Nat} (h : addr q k l ≠ addr r i 0) :
    rd (raise s r bits i) q k l = rd s q k l := by
  obtain ⟨rf, evt, e, hrf⟩ := raise_eq s r bits i
  rw [e]
  show Tbl.getD rf.regs _ _ = _
  rw [hrf]
  exact rd_wr_ne s _ h

/-- A field whose bits a register stores is stored as written. -/
theorem fld_kept {r : Reg} {lo n : Nat} (v : Word) (h : (List.range n).all (fun k => (desc r).rw.testBit (lo + k)) = true) :
    fld (kept r v) lo n = fld v lo n := by
  have hb : ∀ k < n, (desc r).rw.testBit (lo + k) = true := by
    intro k hk; exact List.all_eq_true.mp h k (List.mem_range.mpr hk)
  apply Nat.eq_of_testBit_eq
  intro k
  simp only [fld, Nat.testBit_mod_two_pow, kept, word, BitVec.toNat_ofNat, ← Nat.shiftRight_eq_div_pow, Nat.testBit_shiftRight, Nat.testBit_and]
  by_cases hk : k < n
  · by_cases h32 : lo + k < 32
    · simp [hk, hb k hk, h32]
    · have : v.toNat.testBit (lo + k) = false := Nat.testBit_lt_two_pow (Nat.lt_of_lt_of_le v.isLt (Nat.pow_le_pow_right (by decide) (by omega)))
      simp [h32, this]
  · simp [hk]
/-! ## What register writes and flags leave alone -/

@[simp] theorem wr_now (s : State) (r : Reg) (v : Word) (i j : Nat) : (wr s r v i j).now = s.now := rfl
@[simp] theorem wr_freeCtr (s : State) (r : Reg) (v : Word) (i j : Nat) : (wr s r v i j).freeCtr = s.freeCtr := rfl
@[simp] theorem wr_glb (s : State) (r : Reg) (v : Word) (i j : Nat) : (wr s r v i j).glb = s.glb := rfl
@[simp] theorem wr_fab (s : State) (r : Reg) (v : Word) (i j : Nat) : (wr s r v i j).fab = s.fab := rfl
@[simp] theorem wr_shed (s : State) (r : Reg) (v : Word) (i j : Nat) : (wr s r v i j).shed = s.shed := rfl
@[simp] theorem wr_mix (s : State) (r : Reg) (v : Word) (i j : Nat) : (wr s r v i j).mix = s.mix := rfl
@[simp] theorem wr_dyn (s : State) (r : Reg) (v : Word) (i j : Nat) : (wr s r v i j).dyn = s.dyn := rfl
@[simp] theorem wr_rb (s : State) (r : Reg) (v : Word) (i j : Nat) : (wr s r v i j).rb = s.rb := rfl
@[simp] theorem wr_ln (s : State) (r : Reg) (v : Word) (i j : Nat) : (wr s r v i j).ln = s.ln := rfl
@[simp] theorem wr_sw (s : State) (r : Reg) (v : Word) (i j : Nat) : (wr s r v i j).sw = s.sw := rfl
@[simp] theorem wr_tb (s : State) (r : Reg) (v : Word) (i j : Nat) : (wr s r v i j).tb = s.tb := rfl
@[simp] theorem wr_str (s : State) (r : Reg) (v : Word) (i j : Nat) : (wr s r v i j).str = s.str := rfl
@[simp] theorem wr_ref (s : State) (r : Reg) (v : Word) (i j : Nat) : (wr s r v i j).ref = s.ref := rfl
@[simp] theorem wr_syn (s : State) (r : Reg) (v : Word) (i j : Nat) : (wr s r v i j).syn = s.syn := rfl
@[simp] theorem wr_cio (s : State) (r : Reg) (v : Word) (i j : Nat) : (wr s r v i j).cio = s.cio := rfl
@[simp] theorem wr_spl (s : State) (r : Reg) (v : Word) (i j : Nat) : (wr s r v i j).spl = s.spl := rfl
@[simp] theorem wr_saf (s : State) (r : Reg) (v : Word) (i j : Nat) : (wr s r v i j).saf = s.saf := rfl
@[simp] theorem wr_ses (s : State) (r : Reg) (v : Word) (i j : Nat) : (wr s r v i j).ses = s.ses := rfl
@[simp] theorem wr_pl (s : State) (r : Reg) (v : Word) (i j : Nat) : (wr s r v i j).pl = s.pl := rfl
@[simp] theorem wr_pr (s : State) (r : Reg) (v : Word) (i j : Nat) : (wr s r v i j).pr = s.pr := rfl
@[simp] theorem wr_wit (s : State) (r : Reg) (v : Word) (i j : Nat) : (wr s r v i j).wit = s.wit := rfl
@[simp] theorem wr_emitted (s : State) (r : Reg) (v : Word) (i j : Nat) : (wr s r v i j).emitted = s.emitted := rfl
@[simp] theorem wr_pending (s : State) (r : Reg) (v : Word) (i j : Nat) : (wr s r v i j).pending = s.pending := rfl
@[simp] theorem wr_evt (s : State) (r : Reg) (v : Word) (i j : Nat) : (wr s r v i j).evt = s.evt := rfl

@[simp] theorem raise_now (s : State) (r : Reg) (bits i : Nat) : (raise s r bits i).now = s.now := by
  obtain ⟨_, _, e, _⟩ := raise_eq s r bits i; rw [e]
@[simp] theorem raise_freeCtr (s : State) (r : Reg) (bits i : Nat) : (raise s r bits i).freeCtr = s.freeCtr := by
  obtain ⟨_, _, e, _⟩ := raise_eq s r bits i; rw [e]
@[simp] theorem raise_glb (s : State) (r : Reg) (bits i : Nat) : (raise s r bits i).glb = s.glb := by
  obtain ⟨_, _, e, _⟩ := raise_eq s r bits i; rw [e]
@[simp] theorem raise_fab (s : State) (r : Reg) (bits i : Nat) : (raise s r bits i).fab = s.fab := by
  obtain ⟨_, _, e, _⟩ := raise_eq s r bits i; rw [e]
@[simp] theorem raise_shed (s : State) (r : Reg) (bits i : Nat) : (raise s r bits i).shed = s.shed := by
  obtain ⟨_, _, e, _⟩ := raise_eq s r bits i; rw [e]
@[simp] theorem raise_mix (s : State) (r : Reg) (bits i : Nat) : (raise s r bits i).mix = s.mix := by
  obtain ⟨_, _, e, _⟩ := raise_eq s r bits i; rw [e]
@[simp] theorem raise_dyn (s : State) (r : Reg) (bits i : Nat) : (raise s r bits i).dyn = s.dyn := by
  obtain ⟨_, _, e, _⟩ := raise_eq s r bits i; rw [e]
@[simp] theorem raise_rb (s : State) (r : Reg) (bits i : Nat) : (raise s r bits i).rb = s.rb := by
  obtain ⟨_, _, e, _⟩ := raise_eq s r bits i; rw [e]
@[simp] theorem raise_ln (s : State) (r : Reg) (bits i : Nat) : (raise s r bits i).ln = s.ln := by
  obtain ⟨_, _, e, _⟩ := raise_eq s r bits i; rw [e]
@[simp] theorem raise_sw (s : State) (r : Reg) (bits i : Nat) : (raise s r bits i).sw = s.sw := by
  obtain ⟨_, _, e, _⟩ := raise_eq s r bits i; rw [e]
@[simp] theorem raise_tb (s : State) (r : Reg) (bits i : Nat) : (raise s r bits i).tb = s.tb := by
  obtain ⟨_, _, e, _⟩ := raise_eq s r bits i; rw [e]
@[simp] theorem raise_str (s : State) (r : Reg) (bits i : Nat) : (raise s r bits i).str = s.str := by
  obtain ⟨_, _, e, _⟩ := raise_eq s r bits i; rw [e]
@[simp] theorem raise_ref (s : State) (r : Reg) (bits i : Nat) : (raise s r bits i).ref = s.ref := by
  obtain ⟨_, _, e, _⟩ := raise_eq s r bits i; rw [e]
@[simp] theorem raise_syn (s : State) (r : Reg) (bits i : Nat) : (raise s r bits i).syn = s.syn := by
  obtain ⟨_, _, e, _⟩ := raise_eq s r bits i; rw [e]
@[simp] theorem raise_cio (s : State) (r : Reg) (bits i : Nat) : (raise s r bits i).cio = s.cio := by
  obtain ⟨_, _, e, _⟩ := raise_eq s r bits i; rw [e]
@[simp] theorem raise_spl (s : State) (r : Reg) (bits i : Nat) : (raise s r bits i).spl = s.spl := by
  obtain ⟨_, _, e, _⟩ := raise_eq s r bits i; rw [e]
@[simp] theorem raise_saf (s : State) (r : Reg) (bits i : Nat) : (raise s r bits i).saf = s.saf := by
  obtain ⟨_, _, e, _⟩ := raise_eq s r bits i; rw [e]
@[simp] theorem raise_ses (s : State) (r : Reg) (bits i : Nat) : (raise s r bits i).ses = s.ses := by
  obtain ⟨_, _, e, _⟩ := raise_eq s r bits i; rw [e]
@[simp] theorem raise_pl (s : State) (r : Reg) (bits i : Nat) : (raise s r bits i).pl = s.pl := by
  obtain ⟨_, _, e, _⟩ := raise_eq s r bits i; rw [e]
@[simp] theorem raise_pr (s : State) (r : Reg) (bits i : Nat) : (raise s r bits i).pr = s.pr := by
  obtain ⟨_, _, e, _⟩ := raise_eq s r bits i; rw [e]
@[simp] theorem raise_wit (s : State) (r : Reg) (bits i : Nat) : (raise s r bits i).wit = s.wit := by
  obtain ⟨_, _, e, _⟩ := raise_eq s r bits i; rw [e]
@[simp] theorem raise_emitted (s : State) (r : Reg) (bits i : Nat) : (raise s r bits i).emitted = s.emitted := by
  obtain ⟨_, _, e, _⟩ := raise_eq s r bits i; rw [e]
@[simp] theorem raise_pending (s : State) (r : Reg) (bits i : Nat) : (raise s r bits i).pending = s.pending := by
  obtain ⟨_, _, e, _⟩ := raise_eq s r bits i; rw [e]

/-! ## Nothing left over -/

/-- What `calm` reads of the registers is the mailbox enable. -/
theorem calm_rf {s : State} {rf : RegFile} (evt : Evt) (h : calm s = true)
    (hm : Tbl.getD rf.regs (addr .SES_MBOX) (word (desc .SES_MBOX).reset) = rd s .SES_MBOX) :
    calm { s with rf := rf, evt := evt } = true := by
  have e : fb { s with rf := rf, evt := evt } .SES_MBOX_EN = fb s .SES_MBOX_EN := by
    unfold fb fv
    rw [show rd { s with rf := rf, evt := evt } (Fd.SES_MBOX_EN).reg 0 0 = rd s (Fd.SES_MBOX_EN).reg 0 0 from hm]
  unfold calm at h ⊢
  rw [e]
  exact h

theorem calm_wr {s : State} (h : calm s = true) {r : Reg} (v : Word) {i j : Nat} (hr : addr .SES_MBOX ≠ addr r i j) :
    calm (wr s r v i j) = true := calm_rf s.evt h (rd_wr_ne s v hr)

theorem calm_raise {s : State} (h : calm s = true) {r : Reg} (bits : Nat) {i : Nat} (hr : addr .SES_MBOX ≠ addr r i) :
    calm (raise s r bits i) = true := by
  obtain ⟨rf, evt, e, hrf⟩ := raise_eq s r bits i
  rw [e]
  refine calm_rf evt h ?_
  rw [hrf]
  exact rd_wr_ne s _ hr

/-- What `calm` reads of the basting sets. -/
theorem calm_sets {s : State} (h : calm s = true) {m : Mix}
    (hm : (m.sets.all fun e => e.2.state != .open || e.2.owner != none) = true) : calm { s with mix := m } = true := by
  unfold calm at h ⊢
  simp only [Bool.and_eq_true] at h ⊢
  exact ⟨h.1, hm⟩

/-- A set that is put keeps the calm, unless it is open without an owner. -/
theorem calm_putSet {s : State} (h : calm s = true) (k : Nat) (x : BSet)
    (hx : (x.state != .open || x.owner != none) = true) : calm (putSet s k x) = true := by
  refine calm_sets h (Tbl.all_set _ _ _ ?_ hx)
  unfold calm at h; simp only [Bool.and_eq_true] at h; exact h.2

/-! ## Decisions -/

/-- What a calm state has. -/
theorem calm_out {s : State} (h : calm s = true) : s.fab.decided = [] ∧ s.ses.out = [] ∧ s.pl.xfer = none ∧
    fb s .SES_MBOX_EN = false ∧ s.saf.due = [] ∧ s.saf.bars = [] ∧ s.shed.exhausted = false ∧
    s.saf.quiet ≠ some .inOrder ∧ s.glb.mode ≠ .removing ∧ isPair s = false ∧
    (s.mix.sets.all fun e => e.2.state != .open || e.2.owner != none) = true := by
  simpa [calm, and_assoc] using h

@[simp] theorem forEach_nil {α : Type} (s : State) (f : α → State → State) : forEach [] s f = s := rfl

/-- A loop that changes nothing at any of its elements changes nothing. -/
theorem forEach_id {α : Type} {xs : List α} {s : State} {f : α → State → State} (h : ∀ x ∈ xs, f x s = s) :
    forEach xs s f = s := by
  induction xs with
  | nil => rfl
  | cons x xs ih =>
    show forEach xs (f x s) f = s
    rw [h x List.mem_cons_self]
    exact ih fun y hy => h y (List.mem_cons_of_mem _ hy)

theorem settleDecided_nil {s : State} (h : s.fab.decided = []) : settleDecided s = s := by
  have e : (s.setFab fun f => { f with decided := [] }) = s := by
    rw [← h]; rfl
  simp only [settleDecided, h, List.filter_nil, e, forEach_nil]

theorem freeOrphans_calm {s : State} (h : calm s = true) : freeOrphans s = s := by
  refine forEach_id fun e he => ?_
  have hs := (calm_out h).2.2.2.2.2.2.2.2.2.2
  have := List.all_eq_true.mp hs e he
  split
  · rename_i hc; simp [hc.1, hc.2] at this
  · rfl

theorem sessionDecisions_calm {s : State} (h : calm s = true) : sessionDecisions s = s := by
  obtain ⟨hd, _, hx, _⟩ := calm_out h
  have e : (s.setFab fun f => { f with decided := [] }) = s := by
    rw [← hd]; rfl
  simp only [sessionDecisions, hd, e, forEach_nil, freeOrphans_calm h, hx]

theorem barsEnd_calm {s : State} (h : calm s = true) : barsEnd s = s := by
  obtain ⟨_, _, _, _, _, hb, _⟩ := calm_out h
  have e (k : Nat) : (s.setSaf fun y => { y with bars := Tbl.del y.bars k }) = s := by
    have : (fun y : Saf => { y with bars := Tbl.del y.bars k }) s.saf = s.saf := by
      show { s.saf with bars := Tbl.del s.saf.bars k } = s.saf
      rw [hb]; simp only [Tbl.del]; rw [← hb]
    show { s with saf := (fun y : Saf => { y with bars := Tbl.del y.bars k }) s.saf } = s
    rw [this]
  simp only [barsEnd]
  split <;> split <;> simp_all

/-- Once the decisions have been delivered and nothing is left over, that is the end of the command. -/
theorem finish_settles {old s : State} (h : calm (settleDecided s) = true) : finish old s = settleDecided s := by
  unfold finish
  split
  · rename_i hc; exact (settleDecided_nil (calm_out hc).1).symm
  · unfold finishAll
    generalize settleDecided s = t at h ⊢
    obtain ⟨hd, ho, hx, hm, hdue, hb, he, hq, hr, hp, hs⟩ := calm_out h
    have h1 : mailboxTake t = t := by simp [mailboxTake, hm]
    have h2 : flushReplies t = t := by simp [flushReplies, ho]
    have h3 : takeReports t = t := by simp [takeReports, hdue]
    have h4 : exhaustedQuiet t = t := by simp [exhaustedQuiet, he]
    have h5 : quietGate t = t := by simp [quietGate, hq]
    have h6 : ejectDone t = t := by simp [ejectDone, hr]
    have h7 : mirrorChanges old t = t := by simp [mirrorChanges, mirrors, unitOn, hp]
    simp only [sessionDecisions_calm h, h1, h2, h3, h4, barsEnd_calm h, h5, h6, h7]

/-- A command whose effect leaves only decisions over. -/
theorem run_settles {s : State} {f : State → State} (h : calm (settleDecided (f s)) = true) :
    run s f = .next { settleDecided (f s) with now := s.now, pending := s.pending } := by
  simp [run, finish_settles h]

end Sys2Proof.Machine
end

