-- ==== Sys2Proof/Laws/Write.lean ====
section
/-! SUPPORT. Which block carries out the write of a register entry, and what an accepted write of an entry comes to. -/

namespace Sys2Proof.Machine

/-- Addresses on one side of every block start lie in one row of Table 16-1. -/
theorem blockRow_same {a b : Nat} (h : ∀ c ∈ blockStarts, a < c ↔ b < c) : blockRow a = blockRow b := by
  simp only [blockStarts, List.mem_cons, List.not_mem_nil, or_false, forall_eq_or_imp, forall_eq] at h
  obtain ⟨h1, h2, h3, h4, h5, h6, h7, h8, h9, h10, h11, h12, h13, h14, h15, h16, h17, h18⟩ := h
  have e6 : a / 65536 < 6 ↔ b / 65536 < 6 := by omega
  have e8 : a / 65536 < 0x08 ↔ b / 65536 < 0x08 := by omega
  have e10 : a / 65536 < 0x10 ↔ b / 65536 < 0x10 := by omega
  have e20 : a / 65536 < 0x20 ↔ b / 65536 < 0x20 := by omega
  have e24 : a / 65536 < 0x24 ↔ b / 65536 < 0x24 := by omega
  have e26 : a / 65536 < 0x26 ↔ b / 65536 < 0x26 := by omega
  have e28 : a / 65536 < 0x28 ↔ b / 65536 < 0x28 := by omega
  have e2a : a / 65536 < 0x2A ↔ b / 65536 < 0x2A := by omega
  have e2c : a / 65536 < 0x2C ↔ b / 65536 < 0x2C := by omega
  have e2e : a / 65536 < 0x2E ↔ b / 65536 < 0x2E := by omega
  have e30 : a / 65536 < 0x30 ↔ b / 65536 < 0x30 := by omega
  have e38 : a / 65536 < 0x38 ↔ b / 65536 < 0x38 := by omega
  unfold blockRow
  simp only [e8, e10, e20, e24, e26, e28, e2a, e2c, e2e, e30, e38]
  by_cases hc : b / 65536 < 6
  · rw [if_pos (e6.mpr hc), if_pos hc]; omega
  · rw [if_neg (fun x => hc (e6.mp x)), if_neg hc]

/-- Every entry of a register lies in the row of Table 16-1 of its first one. -/
theorem blockRow_addr (r : Reg) {i j : Nat} (hi : i < (desc r).n1) (hj : j < (desc r).n2) :
    blockRow (addr r i j) = blockRow (desc r).base := by
  have hp := all_placed r
  simp only [placed, Bool.and_eq_true, beq_iff_eq, List.contains_iff_mem, List.all_eq_true, Bool.or_eq_true,
    decide_eq_true_eq] at hp
  obtain ⟨⟨⟨⟨_, hblk⟩, _⟩, _⟩, _⟩ := hp
  have hl := Desc.entry_le_last hi hj
  refine blockRow_same fun c hc => ?_
  have hoff : addr r i j = (desc r).base + i * (desc r).st1 + j * (desc r).st2 := rfl
  rcases hblk c hc with h | h <;> omega

/-- What an accepted write of a register entry does, with the entry's block given by number. -/
theorem blockWrite_entry (s : State) (r : Reg) {i j : Nat} (v : Word) (he : evtGroup r = none) (hi : i < (desc r).n1)
    (hj : j < (desc r).n2) : blockWrite s r i j v =
      match blockRow (desc r).base with
      | 0 => glbWrite s r i j v
      | 1 => fabWrite s r i j v
      | 2 => tbWrite s r i j v
      | 3 => refWrite s r i j v
      | 4 => synWrite s r i j v
      | 5 => laneWrite s r i j v
      | 6 => portWrite s r i j v
      | 7 => strWrite s r i j v
      | 8 => mixWrite s r i j v
      | 9 => dynWrite s r i j v
      | 10 => rbWrite s r i j v
      | 11 => cioWrite s r i j v
      | 12 => splWrite s r i j v
      | 13 => evtWrite s r i j v
      | 14 => sesWrite s r i j v
      | 15 => prWrite s r v
      | 16 => safWrite s r v
      | _ => plWrite s r v := by
  rw [blockWrite, he, blockRow_addr r hi hj]; rfl

/-- An accepted write of a register entry of a unit that is alone, whose effect leaves nothing over. -/
theorem run_entry {s t : State} (r : Reg) {i j : Nat} {v : Word} (hi : i < (desc r).n1) (hj : j < (desc r).n2)
    (ha : Accepted s r i j v) (e : blockWrite (noted s r i j) r i j v = t) (hc : calm t = true) (hn : t.now = s.now)
    (hp : t.pending = s.pending) : run s (fun s => regWrite s r i j v 15) = .next t :=
  run_write_is (findReg_addr r hi hj) ha e hc hn hp

/-- Different registers share no address. -/
theorem addr_ne {r q : Reg} (h : q ≠ r) {i j k l : Nat} (hi : i < (desc r).n1) (hj : j < (desc r).n2)
    (hk : k < (desc q).n1) (hl : l < (desc q).n2) : addr q k l ≠ addr r i j := by
  intro e
  have h1 := findReg_addr r hi hj
  have h2 := findReg_addr q hk hl
  rw [e, h1] at h2
  injection h2 with h2
  exact h (by cases h2; rfl)

/-- Different entries of a register share no address. -/
theorem addr_inj {r : Reg} {i j k l : Nat} (hi : i < (desc r).n1) (hj : j < (desc r).n2) (hk : k < (desc r).n1)
    (hl : l < (desc r).n2) (e : addr r k l = addr r i j) : k = i ∧ l = j := by
  have h1 := findReg_addr r hi hj
  have h2 := findReg_addr r hk hl
  rw [e, h1] at h2
  cases h2; exact ⟨rfl, rfl⟩

theorem calm_entry {s : State} (h : calm s = true) {r : Reg} (v : Word) {i j : Nat} (hr : Reg.SES_MBOX ≠ r)
    (hi : i < (desc r).n1) (hj : j < (desc r).n2) : calm (wr s r v i j) = true :=
  calm_wr h v (addr_ne hr hi hj (by decide) (by decide))

theorem calm_later {s : State} (h : calm s = true) {r : Reg} (v : Word) {i j : Nat} (hr : Reg.SES_MBOX ≠ r)
    (hi : i < (desc r).n1) (hj : j < (desc r).n2) : calm (wrLater s r v i j) = true :=
  calm_rf (s := s) s.evt h (rd_wr_ne s (q := .SES_MBOX) (k := 0) (l := 0) v (addr_ne hr hi hj (by decide) (by decide)))

end Sys2Proof.Machine
end

