-- ==== Sys2Proof/Laws/Flags.lean ====
section
/-! SUPPORT. Steps that raise event flags and hit event sources: what they leave alone, and that they leave nothing over. -/

namespace Sys2Proof.Machine

theorem onlyFlags_refl (s : State) : OnlyFlags s s := ⟨rfl, fun _ _ _ _ _ _ => rfl⟩

theorem onlyFlags_trans {s t u : State} (h : OnlyFlags s t) (g : OnlyFlags t u) : OnlyFlags s u := by
  refine ⟨?_, fun r i j hi hj he => (g.2 r i j hi hj he).trans (h.2 r i j hi hj he)⟩
  rw [g.1, h.1]

/-- A step that leaves the registers alone. -/
theorem onlyFlags_of_rf {s t : State} (h : t.rf = s.rf) : OnlyFlags s t :=
  ⟨by rw [h], fun r i j _ _ _ => by unfold rd; rw [h]⟩

/-- What follows a step that leaves the registers alone. -/
theorem onlyFlags_from {s t u : State} (h : t.rf = s.rf) (g : OnlyFlags t u) : OnlyFlags s u :=
  onlyFlags_trans (onlyFlags_of_rf h) g

/-- Only the registers and the event block differ. -/
def Flagged (s t : State) : Prop := t = { s with rf := t.rf, evt := t.evt } ∧ OnlyFlags s t

theorem Flagged.refl (s : State) : Flagged s s := ⟨rfl, onlyFlags_refl s⟩

theorem Flagged.trans {s t u : State} (h : Flagged s t) (g : Flagged t u) : Flagged s u := by
  refine ⟨?_, onlyFlags_trans h.2 g.2⟩
  rw [g.1, h.1]

theorem raise_flagged (s : State) {r : Reg} (bits : Nat) {i : Nat} (hr : (evtGroup r).isSome) (hi : i < (desc r).n1)
    (h1 : 0 < (desc r).n2) : Flagged s (raise s r bits i) := by
  obtain ⟨rf, evt, e, hrf⟩ := raise_eq s r bits i
  refine ⟨by rw [e], ?_, fun q k l hk hl hq => ?_⟩
  · rw [e]; simp only [hrf]; rfl
  · have hne : q ≠ r := by rintro rfl; rw [hq] at hr; cases hr
    exact rd_raise_ne s bits (addr_ne hne hi h1 hk hl)

theorem raiseIf_flagged (c : Bool) (s : State) {r : Reg} (bits : Nat) {i : Nat} (hr : (evtGroup r).isSome)
    (hi : i < (desc r).n1) (h1 : 0 < (desc r).n2) : Flagged s (raiseIf c s r bits i) := by
  unfold raiseIf; split
  · exact raise_flagged s bits hr hi h1
  · exact Flagged.refl s

theorem evt_flagged (s : State) (evt : Evt) : Flagged s { s with evt := evt } :=
  ⟨rfl, onlyFlags_of_rf rfl⟩

theorem hitSource_flagged (s : State) (src : Nat) : Flagged s (hitSource s src) := by
  unfold hitSource; split
  · exact Flagged.refl s
  · exact evt_flagged s _

theorem hitAttached_flagged (s : State) (att : Reg) (i b : Nat) : Flagged s (hitAttached s att i b) := by
  unfold hitAttached; simp only []; split
  · exact hitSource_flagged s _
  · exact Flagged.refl s

theorem hitAttached_rf (s : State) (att : Reg) (i b : Nat) : (hitAttached s att i b).rf = s.rf := by
  unfold hitAttached hitSource; simp only []
  split
  · split <;> rfl
  · rfl

/-- A field of a register that is no event register reads as before. -/
theorem onlyFlags_fv {s t : State} (h : OnlyFlags s t) (f : Fd) {i j : Nat} (hf : evtGroup f.reg = none)
    (hi : i < (desc f.reg).n1) (hj : j < (desc f.reg).n2) : fv t f i j = fv s f i j := by
  unfold fv; rw [h.2 f.reg i j hi hj hf]

theorem onlyFlags_fb {s t : State} (h : OnlyFlags s t) (f : Fd) {i j : Nat} (hf : evtGroup f.reg = none)
    (hi : i < (desc f.reg).n1) (hj : j < (desc f.reg).n2) : fb t f i j = fb s f i j := by
  unfold fb; rw [onlyFlags_fv h f hf hi hj]

/-- What `calm` needs survives flags. -/
theorem Flagged.calm {s t : State} (h : Flagged s t) (hc : calm s = true) : Machine.calm t = true := by
  rw [h.1]
  refine calm_rf (s := s) _ hc ?_
  exact h.2.2 .SES_MBOX 0 0 (by decide) (by decide) rfl

/-- What `calm` needs survives a change elsewhere that only raises flags. -/
theorem onlyFlags_calm {s t : State} (h : OnlyFlags s t) (hc : calm s = true)
    (e : t = { s with
      rf := t.rf, evt := t.evt, ln := t.ln, rb := t.rb, sw := t.sw, tb := t.tb, ref := t.ref, syn := t.syn, cio := t.cio
      spl := t.spl, dyn := t.dyn, str := t.str, emitted := t.emitted, freeCtr := t.freeCtr }) : Machine.calm t = true := by
  rw [e]
  exact calm_rf (s := { s with
      ln := t.ln, rb := t.rb, sw := t.sw, tb := t.tb, ref := t.ref, syn := t.syn, cio := t.cio
      spl := t.spl, dyn := t.dyn, str := t.str, emitted := t.emitted, freeCtr := t.freeCtr }) _ hc
    (h.2 .SES_MBOX 0 0 (by decide) (by decide) rfl)

theorem bit_eq_testBit (v : Word) (b : Nat) : bit v b = v.toNat.testBit b := by
  have e : (v.toNat.testBit b) = decide (v.toNat / 2 ^ b % 2 = 1) := Nat.testBit_eq_decide_div_mod_eq
  rw [e]
  by_cases h : v.toNat / 2 ^ b % 2 = 1 <;> simp [bit, fld, h]

/-- A flag raised reads 1. -/
theorem bit_or {a : Word} {k b : Nat} (hb : b < 32) (hk : k.testBit b = true) : bit (word (a.toNat ||| k)) b = true := by
  rw [bit_eq_testBit, word, BitVec.toNat_ofNat, Nat.testBit_mod_two_pow, Nat.testBit_or, hk]
  simp [hb]

/-- The flags a raise leaves. -/
theorem rd_raise_self {s : State} (h : s.rf.regs.wf = true) (r : Reg) (bits i : Nat) :
    rd (raise s r bits i) r i = word ((rd s r i).toNat ||| bits) := by
  obtain ⟨rf, evt, e, hrf⟩ := raise_eq s r bits i
  rw [e]
  show Tbl.getD rf.regs _ _ = _
  rw [hrf]
  exact rd_wr_self h r _ i 0

theorem raise_wf {s : State} (h : s.rf.regs.wf = true) (r : Reg) (bits i : Nat) :
    (raise s r bits i).rf.regs.wf = true := by
  obtain ⟨rf, evt, e, hrf⟩ := raise_eq s r bits i
  rw [e]
  show rf.regs.wf = true
  rw [hrf]
  exact wr_wf h r _ i 0

/-- A loop keeps what each of its steps keeps. -/
theorem forEach_rel {α : Type} {R : State → State → Prop} (hr : ∀ s, R s s) (ht : ∀ {s t u}, R s t → R t u → R s u)
    {f : α → State → State} (h : ∀ x s, R s (f x s)) (xs : List α) (s : State) : R s (forEach xs s f) := by
  induction xs generalizing s with
  | nil => exact hr s
  | cons x xs ih => exact ht (h x s) (ih (f x s))

/-- A command that is alone and only raises flags beside its own blocks. -/
theorem run_flags {s t : State} {f : State → State} (e : f s = t) (hc : calm s = true) (hf : OnlyFlags s t)
    (he : t = { s with
      rf := t.rf, evt := t.evt, ln := t.ln, rb := t.rb, sw := t.sw, tb := t.tb, ref := t.ref, syn := t.syn, cio := t.cio
      spl := t.spl, dyn := t.dyn, str := t.str, emitted := t.emitted, freeCtr := t.freeCtr }) : run s f = .next t :=
  run_is e (onlyFlags_calm hf hc he) (by rw [he]) (by rw [he])

theorem Flagged.glb {s t : State} (h : Flagged s t) : t.glb = s.glb := (congrArg State.glb h.1 :)
theorem Flagged.fab {s t : State} (h : Flagged s t) : t.fab = s.fab := (congrArg State.fab h.1 :)
theorem Flagged.mix {s t : State} (h : Flagged s t) : t.mix = s.mix := (congrArg State.mix h.1 :)
theorem Flagged.dyn {s t : State} (h : Flagged s t) : t.dyn = s.dyn := (congrArg State.dyn h.1 :)
theorem Flagged.rb {s t : State} (h : Flagged s t) : t.rb = s.rb := (congrArg State.rb h.1 :)
theorem Flagged.ln {s t : State} (h : Flagged s t) : t.ln = s.ln := (congrArg State.ln h.1 :)
theorem Flagged.sw {s t : State} (h : Flagged s t) : t.sw = s.sw := (congrArg State.sw h.1 :)
theorem Flagged.tb {s t : State} (h : Flagged s t) : t.tb = s.tb := (congrArg State.tb h.1 :)
theorem Flagged.str {s t : State} (h : Flagged s t) : t.str = s.str := (congrArg State.str h.1 :)
theorem Flagged.ref {s t : State} (h : Flagged s t) : t.ref = s.ref := (congrArg State.ref h.1 :)
theorem Flagged.syn {s t : State} (h : Flagged s t) : t.syn = s.syn := (congrArg State.syn h.1 :)
theorem Flagged.cio {s t : State} (h : Flagged s t) : t.cio = s.cio := (congrArg State.cio h.1 :)
theorem Flagged.spl {s t : State} (h : Flagged s t) : t.spl = s.spl := (congrArg State.spl h.1 :)

/-! ## Blocks beside the fabric, the mix and the units -/

/-- Beside event flags only blocks differ whose changes leave nothing over at the end of a command. -/
def Near (s t : State) : Prop :=
  t = { s with
    rf := t.rf, evt := t.evt, ln := t.ln, rb := t.rb, sw := t.sw, tb := t.tb, ref := t.ref, syn := t.syn, cio := t.cio
    spl := t.spl, dyn := t.dyn, str := t.str, emitted := t.emitted, freeCtr := t.freeCtr } ∧ OnlyFlags s t

theorem Near.refl (s : State) : Near s s := ⟨rfl, onlyFlags_refl s⟩

theorem Near.trans {s t u : State} (h : Near s t) (g : Near t u) : Near s u := by
  refine ⟨?_, onlyFlags_trans h.2 g.2⟩
  rw [g.1, h.1]

/-- A step that leaves the registers alone. -/
theorem Near.of_eq {s t : State} (e : t = { s with
    rf := t.rf, evt := t.evt, ln := t.ln, rb := t.rb, sw := t.sw, tb := t.tb, ref := t.ref, syn := t.syn, cio := t.cio
    spl := t.spl, dyn := t.dyn, str := t.str, emitted := t.emitted, freeCtr := t.freeCtr }) (h : t.rf = s.rf) : Near s t :=
  ⟨e, onlyFlags_of_rf h⟩

theorem Flagged.near {s t : State} (h : Flagged s t) : Near s t := ⟨by rw [h.1], h.2⟩

theorem Near.calm {s t : State} (h : Near s t) (hc : Machine.calm s = true) : Machine.calm t = true := onlyFlags_calm h.2 hc h.1

theorem Near.now {s t : State} (h : Near s t) : t.now = s.now := by rw [h.1]
theorem Near.pending {s t : State} (h : Near s t) : t.pending = s.pending := by rw [h.1]

/-- A command of a unit that is alone, with nothing left over. -/
theorem run_near {s t : State} {f : State → State} (e : f s = t) (hc : Machine.calm s = true) (h : Near s t) :
    run s f = .next t := run_is e (h.calm hc) h.now h.pending

/-- An accepted write of a unit that is alone, with nothing left over. -/
theorem write_near {s u t : State} (r : Reg) {i j : Nat} {v : Word} (hi : i < (desc r).n1) (hj : j < (desc r).n2)
    (ha : Accepted s r i j v) (e : blockWrite (noted s r i j) r i j v = t) (hc : Machine.calm u = true) (h : Near u t)
    (hn : u.now = s.now) (hp : u.pending = s.pending) : run s (fun s => regWrite s r i j v 15) = .next t :=
  run_entry r hi hj ha e (h.calm hc) (h.now.trans hn) (h.pending.trans hp)

theorem near_forEach {α : Type} {f : α → State → State} (h : ∀ x s, Near s (f x s)) (xs : List α) (s : State) :
    Near s (forEach xs s f) := forEach_rel Near.refl Near.trans h xs s

theorem near_ite {c : Prop} [Decidable c] {s a b : State} (ha : Near s a) (hb : Near s b) :
    Near s (if c then a else b) := by split <;> assumption

theorem near_setSw (s : State) (f : Switch → Switch) : Near s (s.setSw f) := Near.of_eq rfl rfl
theorem near_setTb (s : State) (f : TimeBases → TimeBases) : Near s (s.setTb f) := Near.of_eq rfl rfl
theorem near_setLn (s : State) (f : Lanes → Lanes) : Near s (s.setLn f) := Near.of_eq rfl rfl
theorem near_setRb (s : State) (f : Bridges → Bridges) : Near s (s.setRb f) := Near.of_eq rfl rfl
theorem near_setStr (s : State) (f : Streams → Streams) : Near s (s.setStr f) := Near.of_eq rfl rfl
theorem near_setRef (s : State) (f : Refs → Refs) : Near s (s.setRef f) := Near.of_eq rfl rfl
theorem near_setSyn (s : State) (f : Syns → Syns) : Near s (s.setSyn f) := Near.of_eq rfl rfl
theorem near_setCio (s : State) (f : Cio → Cio) : Near s (s.setCio f) := Near.of_eq rfl rfl
theorem near_setSpl (s : State) (f : Spools → Spools) : Near s (s.setSpl f) := Near.of_eq rfl rfl
theorem near_setDyn (s : State) (f : Dyn → Dyn) : Near s (s.setDyn f) := Near.of_eq rfl rfl
theorem near_setEvt (s : State) (f : Evt → Evt) : Near s (s.setEvt f) := Near.of_eq rfl rfl
theorem near_emit (s : State) (e : Emission) : Near s (emit s e) := Near.of_eq rfl rfl

theorem near_raise (s : State) {r : Reg} (bits : Nat) {i : Nat} (hr : (evtGroup r).isSome) (hi : i < (desc r).n1)
    (h1 : 0 < (desc r).n2) : Near s (raise s r bits i) := (raise_flagged s bits hr hi h1).near

theorem near_hitSource (s : State) (src : Nat) : Near s (hitSource s src) := (hitSource_flagged s src).near
theorem near_hitAttached (s : State) (att : Reg) (i b : Nat) : Near s (hitAttached s att i b) :=
  (hitAttached_flagged s att i b).near

end Sys2Proof.Machine
end

