-- ==== Sys2Proof/Laws/Lanes.lean ====
section
/-! SUPPORT. Clock groups: what their changes of state leave. -/

namespace Sys2Proof.Machine

theorem setGroup_groupOf (s : State) (g : Nat) (x : Group) : groupOf (setGroup s g x) g = x := Tbl.getD_put_self _ _ _ _

theorem setGroup_groupOf_ne (s : State) {g h : Nat} (x : Group) (hne : h ≠ g) : groupOf (setGroup s g x) h = groupOf s h :=
  Tbl.getD_put_ne _ _ _ hne

theorem Flagged.groupOf {s t : State} (h : Flagged s t) (g : Nat) : Machine.groupOf t g = Machine.groupOf s g := by
  unfold Machine.groupOf; rw [h.ln]

/-- A change of state is flagged; the group holds it, the others are as before. -/
theorem cgState_flagged {s : State} {g : Nat} {st : GroupState} (h : (groupOf s g).state ≠ st) :
    Flagged (setGroup s g { groupOf s g with state := st }) (cgState s g st) := by
  unfold cgState
  rw [if_neg h]
  exact (raise_flagged _ 1 (by decide) (by decide) (by decide)).trans (hitAttached_flagged _ _ _ _)

theorem cgState_event {s : State} {g : Nat} {st : GroupState} (h : (groupOf s g).state ≠ st) (hw : s.rf.regs.wf = true) :
    rd (cgState s g st) .LN_EVENT = word ((rd s .LN_EVENT).toNat ||| 1) := by
  unfold cgState
  rw [if_neg h]
  unfold rd
  rw [hitAttached_rf]
  exact rd_raise_self (s := setGroup s g _) hw .LN_EVENT 1 0

theorem cgState_groupOf {s : State} {g : Nat} {st : GroupState} (h : (groupOf s g).state ≠ st) :
    groupOf (cgState s g st) g = { groupOf s g with state := st } := by
  rw [(cgState_flagged h).groupOf, setGroup_groupOf]

theorem cgState_groupOf_ne {s : State} {g k : Nat} {st : GroupState} (h : (groupOf s g).state ≠ st) (hk : k ≠ g) :
    groupOf (cgState s g st) k = groupOf s k := by
  rw [(cgState_flagged h).groupOf, setGroup_groupOf_ne _ _ hk]

/-- A change of state touches lanes and flags only. -/
theorem cgState_frame (s : State) (g : Nat) (st : GroupState) :
    cgState s g st = { s with
      rf := (cgState s g st).rf, evt := (cgState s g st).evt, ln := (cgState s g st).ln } ∧ OnlyFlags s (cgState s g st) := by
  by_cases h : (groupOf s g).state = st
  · have e : cgState s g st = s := by rw [cgState, if_pos h]
    rw [e]; exact ⟨rfl, onlyFlags_refl s⟩
  · have f := cgState_flagged h
    refine ⟨?_, onlyFlags_from (by rfl) f.2⟩
    have := f.1
    rw [this]; rfl

/-- Releasing the seams of a group changes bridges only. -/
theorem releaseSeams_frame (s : State) (g : Nat) : releaseSeams s g = { s with rb := (releaseSeams s g).rb } :=
  forEach_rel (R := fun s t => t = { s with rb := t.rb }) (fun _ => rfl) (fun h g => by rw [g, h])
    (fun m s => by split <;> rfl) _ s

end Sys2Proof.Machine
end

