-- ==== Sys2Proof/Laws/Near.lean ====
section
/-! SUPPORT. Operations of the time bases, the media clocks and the synthesizers that change only their own block beside
event flags, and what is read back after them. -/

namespace Sys2Proof.Machine

/-! ## Time bases -/

theorem tbOf_setTbk (s : State) (k : Nat) (b : TimeBase) : tbOf (setTbk s k b) k = b := Tbl.getD_put_self _ _ _ _

theorem setTbk_setTbk (s : State) (k : Nat) (a b : TimeBase) : setTbk (setTbk s k a) k b = setTbk s k b := by
  show { s with tb := { s.tb with tbs := Tbl.put (Tbl.put s.tb.tbs k a) k b } } = _
  rw [Tbl.put_put]; rfl

theorem near_setTbk (s : State) (k : Nat) (b : TimeBase) : Near s (setTbk s k b) := near_setTb s _

/-! ## Sources -/

theorem slotOf_setSlot (s : State) (k : Nat) (x : RefSlot) : slotOf (setSlot s k x) k = x := Tbl.getD_put_self _ _ _ _

theorem setSlot_setSlot (s : State) (k : Nat) (x y : RefSlot) : setSlot (setSlot s k x) k y = setSlot s k y := by
  show { s with ref := { s.ref with slots := Tbl.put (Tbl.put s.ref.slots k x) k y } } = _
  rw [Tbl.put_put]; rfl

theorem near_setSlot (s : State) (k : Nat) (x : RefSlot) : Near s (setSlot s k x) := near_setRef s _

theorem near_refEvent (s : State) (b : Nat) : Near s (raise s .REF_EVENT b) :=
  near_raise s b (by decide) (by decide) (by decide)

/-! ## Media clocks -/

theorem mcOf_setMc (s : State) (k : Nat) (x : Mc) : mcOf (setMc s k x) k = x := Tbl.getD_put_self _ _ _ _

theorem setMc_setMc (s : State) (k : Nat) (x y : Mc) : setMc (setMc s k x) k y = setMc s k y := by
  show { s with ref := { s.ref with mcs := Tbl.put (Tbl.put s.ref.mcs k x) k y } } = _
  rw [Tbl.put_put]; rfl

theorem near_setMc (s : State) (m : Nat) (x : Mc) : Near s (setMc s m x) := near_setRef s _

/-- A change of state of a media clock whose entry was just written. -/
theorem mcState_setMc (s : State) (m : Nat) (x : Mc) (st : McState) (h : x.state ≠ st) :
    mcState (setMc s m x) m st =
      if st = .lost then raise (raise (setMc s m { x with state := st }) .REF_EVENT 1) .REF_EVENT 2
      else raise (setMc s m { x with state := st }) .REF_EVENT 1 := by
  unfold mcState
  dsimp only
  rw [mcOf_setMc, if_neg h, setMc_setMc]

theorem near_mcState (s : State) (m : Nat) (st : McState) : Near s (mcState s m st) := by
  unfold mcState; dsimp only
  split
  · exact Near.refl s
  · split
    · exact ((near_setMc s m _).trans (near_refEvent _ 1)).trans (near_refEvent _ 2)
    · exact (near_setMc s m _).trans (near_refEvent _ 1)

theorem near_startSwitch (s : State) (m e : Nat) : Near s (startSwitch s m e) :=
  (near_setMc s m _).trans (near_mcState _ _ _)

theorem near_mcRunOn (s : State) (m : Nat) : Near s (mcRunOn s m) := by
  unfold mcRunOn; dsimp only
  split <;> exact near_setMc s m _

theorem near_enterHoldover (s : State) (m : Nat) : Near s (enterHoldover s m) :=
  (near_mcRunOn s m).trans (((near_setMc _ m _).trans (near_setMc _ m _)).trans (near_mcState _ _ _))

theorem near_fallBack (s : State) (m : Nat) : Near s (fallBack s m) := by
  unfold fallBack
  split
  · exact near_enterHoldover s m
  · exact (near_setMc s m _).trans (near_mcState _ _ _)

theorem near_mcRow {s t : State} {m : Nat} (h : mcRow s m = some t) : Near s t := by
  unfold mcRow at h
  dsimp only at h
  repeat' (first | cases h | split at h)
  all_goals first
    | exact near_startSwitch _ _ _
    | exact near_fallBack _ _
    | exact near_setMc s m _
    | exact (near_setMc s m _).trans (near_mcState _ _ _)

theorem near_mcEval (s : State) (m : Nat) : Near s (mcEval s m) := by
  unfold mcEval
  split
  · exact Near.refl s
  · cases h : mcRow s m with
    | none => exact Near.refl s
    | some t => exact near_mcRow h

theorem near_mcEvalAll (s : State) : Near s (mcEvalAll s) := near_forEach (fun m s => near_mcEval s m) _ s

theorem near_mcRelocked (s : State) (m : Nat) : Near s (mcRelocked s m) := by
  unfold mcRelocked; dsimp only
  split
  · refine (near_setMc s m { mcOf s m with coast := false }).trans ?_
    split
    · exact Near.refl _
    · split
      · split
        · exact near_startSwitch _ _ _
        · exact near_mcEval _ _
      · exact near_mcEval _ _
  · exact Near.refl s

/-! ## Synthesizers -/

theorem near_setSy (s : State) (k : Nat) (x : Sy) : Near s (setSy s k x) := near_setSyn s _

theorem near_synEvent (s : State) (b : Nat) : Near s (raise s .SYN_EVENT b) :=
  near_raise s b (by decide) (by decide) (by decide)

/-! ## Spools -/

theorem spOf_setSp (s : State) (n : Nat) (x : Spool) : spOf (setSp s n x) n = x := Tbl.getD_put_self _ _ _ _

theorem setSp_setSp (s : State) (n : Nat) (x y : Spool) : setSp (setSp s n x) n y = setSp s n y := by
  show { s with spl := { s.spl with spools := Tbl.put (Tbl.put s.spl.spools n x) n y } } = _
  rw [Tbl.put_put]; rfl

theorem near_setSp (s : State) (n : Nat) (x : Spool) : Near s (setSp s n x) := near_setSpl s _

theorem near_splEvent (s : State) (b : Nat) : Near s (raise s .SPL_EVENT b) :=
  near_raise s b (by decide) (by decide) (by decide)

theorem near_storeWatch (s : State) : Near s (storeWatch s) := by
  unfold storeWatch; dsimp only
  split
  · exact (near_setSpl s _).trans (near_splEvent _ 1)
  · split
    · exact near_setSpl s _
    · exact Near.refl s

theorem near_putSpool (s : State) (n : Nat) (x : Spool) : Near s (putSpool s n x) := by
  unfold putSpool; dsimp only
  exact ((near_setSp s n _).trans (near_ite (near_hitSource _ _) (Near.refl _))).trans (near_storeWatch _)

theorem storeWatch_spools (s : State) : (storeWatch s).spl.spools = s.spl.spools := by
  unfold storeWatch; dsimp only
  split
  · obtain ⟨rf, evt, e, -⟩ := raise_eq (s.setSpl fun y => { y with armed := false }) .SPL_EVENT 1 0
    rw [e]; rfl
  · split <;> rfl

/-- What a spool put back holds. -/
theorem spOf_putSpool (s : State) (n : Nat) (x : Spool) :
    spOf (putSpool s n x) n = { x with
      levelHit := (x.levelHit || decide (0 < fv s .SP_W1_LEVEL n ∧ spCells (spOf s n) < fv s .SP_W1_LEVEL n ∧
        fv s .SP_W1_LEVEL n ≤ spCells x)) } := by
  unfold putSpool; dsimp only
  unfold spOf
  rw [storeWatch_spools]
  split
  · rw [(hitSource_flagged _ _).spl]; exact Tbl.getD_put_self _ _ _ _
  · exact Tbl.getD_put_self _ _ _ _

theorem near_answerStalled (s : State) (n : Nat) : Near s (answerStalled s n) := by
  unfold answerStalled; dsimp only
  split
  · exact Near.refl s
  · exact (near_setSpl s _).trans (near_forEach (fun e s => near_emit s _) _ _)

/-! ## Event sources, groups and targets -/

theorem near_setSrc (s : State) (k : Nat) (x : EvSrc) : Near s (setSrc s k x) := near_setEvt s _
theorem near_setSrcState (s : State) (k : Nat) (x : EvState) : Near s (setSrcState s k x) := near_setSrc s k _
theorem near_setGrp (s : State) (g : Nat) (x : EvGrp) : Near s (setGrp s g x) := near_setEvt s _
theorem near_setTgt (s : State) (t : Nat) (x : Tgt) : Near s (setTgt s t x) := near_setEvt s _

theorem near_evtEvent (s : State) (b : Nat) : Near s (raise s .EVT_EVENT b) :=
  near_raise s b (by decide) (by decide) (by decide)

theorem near_wakeUpdate (s : State) : Near s (wakeUpdate s) := by
  unfold wakeUpdate; dsimp only
  split
  · exact Near.refl s
  · split
    · exact ((near_setEvt s _).trans (near_emit _ _)).trans (near_evtEvent _ _)
    · exact (near_setEvt s _).trans (near_emit _ _)

theorem near_releaseSrc (s : State) (k : Nat) : Near s (releaseSrc s k) := by
  unfold releaseSrc; dsimp only
  exact ((near_setGrp s _ _).trans (near_ite (near_setEvt _ _) (Near.refl _))).trans (near_setSrcState _ _ _)

theorem near_releaseHeld (s : State) (g : Nat) : Near s (releaseHeld s g) :=
  near_forEach (fun k s => near_releaseSrc s k) _ s

theorem near_releaseGroup (s : State) (g : Nat) : Near s (releaseGroup s g) :=
  (near_releaseHeld s g).trans (near_setGrp _ _ _)

theorem near_openHoldoff (s : State) (g : Nat) : Near s (openHoldoff s g) := near_setGrp s _ _

theorem near_endHoldoff (s : State) (g : Nat) : Near s (endHoldoff s g) := by
  unfold endHoldoff
  exact near_ite (near_setGrp s _ _) ((near_releaseHeld s g).trans (near_openHoldoff _ _))

theorem near_countIn (s : State) (g : Nat) : Near s (countIn s g) := near_setGrp s _ _

theorem near_releaseDue (s : State) : Near s (releaseDue s) :=
  near_forEach (fun g s => near_ite (near_releaseGroup s g) ((near_releaseHeld s g).trans (near_openHoldoff _ _))) _ s

theorem near_moderate (s : State) (k : Nat) : Near s (moderate s k) := by
  unfold moderate; dsimp only
  split
  · exact near_releaseSrc s k
  · split
    · have h : Near s (if intervalOver s (k / 64) then releaseGroup s (k / 64) else s) :=
        near_ite (near_releaseGroup s _) (Near.refl s)
      exact (h.trans (near_setSrcState _ k .held)).trans (near_countIn _ _)
    · exact (near_setSrcState s k .held).trans (near_ite (near_setGrp _ _ _) (Near.refl _))

theorem near_countAgain (s : State) (k : Nat) : Near s (countAgain s k) := by
  unfold countAgain; dsimp only
  split
  · split
    · exact ((near_releaseGroup s _).trans (near_ite (near_setSrcState _ _ _) (Near.refl _))).trans (near_countIn _ _)
    · exact near_countIn s _
  · exact Near.refl s

theorem near_assertSrc (s : State) (k : Nat) : Near s (assertSrc s k) := by
  unfold assertSrc
  refine Near.trans ?_ (near_wakeUpdate _)
  split
  · exact near_ite (near_moderate s k) (near_setSrcState s k .latched)
  · exact near_countAgain s k
  · exact near_setSrc s k _
  · exact Near.refl s

theorem near_senseSrc (s : State) (k : Nat) : Near s (senseSrc s k) := by
  unfold senseSrc
  split
  · exact near_ite ((near_setEvt s _).trans (near_assertSrc _ k)) (Near.refl s)
  · split
    · exact (near_setEvt s _).trans (near_ite (near_assertSrc _ k) (Near.refl _))
    · exact near_ite (near_assertSrc s k) (Near.refl s)

theorem near_endService (s : State) (k : Nat) : Near s (endService s k) := by
  unfold endService; dsimp only
  exact near_ite ((near_setSrc s k _).trans (near_ite (near_moderate _ k) (Near.refl _))) (near_setSrc s k _)

theorem near_fallAsleep (s : State) (f : Nat → Bool) : Near s (fallAsleep s f) :=
  near_forEach (fun _ s => near_ite (near_forEach (fun k s => near_releaseSrc s k) _ s) (Near.refl s)) _ s

end Sys2Proof.Machine
end

