-- ==== Sys2Proof/Laws/Sessions.lean ====
section
/-! SUPPORT. What the end of a command comes to when the one thing left over is a reply, and what closing sessions keeps. -/

namespace Sys2Proof.Machine

theorem ipJoin_ne_zero {first : Nat} (rest : Nat) (h : 0 < first) : ipJoin first rest ≠ 0 := by
  unfold ipJoin
  exact Nat.ne_of_gt (Nat.lt_of_lt_of_le (Nat.mul_pos h (Nat.pow_pos (Nat.succ_pos 1))) (Nat.le_add_right _ _))

theorem linkLocal_ne_zero : linkLocal ≠ 0 := ipJoin_ne_zero _ (Nat.succ_pos _)

/-- As `calm`, whatever replies wait and image bytes arrive. -/
def Still (s : State) : Prop :=
  s.fab.decided = [] ∧ fb s .SES_MBOX_EN = false ∧ s.saf.due = [] ∧ s.saf.bars = [] ∧ s.shed.exhausted = false ∧
    s.saf.quiet ≠ some .inOrder ∧ s.glb.mode ≠ .removing ∧ isPair s = false ∧
    (∀ e ∈ s.mix.sets, e.2.state = .open → e.2.owner ≠ none) ∧ ∀ x, s.pl.xfer = some x → x.verdict = none

theorem calm_iff (s : State) : calm s = true ↔ Still s ∧ s.ses.out = [] ∧ s.pl.xfer = none := by
  unfold calm Still
  simp only [Bool.and_eq_true, List.isEmpty_iff, Bool.not_eq_true', Option.isNone_iff_eq_none, bne_iff_ne, List.all_eq_true,
    Bool.or_eq_true]
  constructor
  · rintro ⟨⟨⟨⟨⟨⟨⟨⟨⟨⟨h1, h2⟩, h3⟩, h4⟩, h5⟩, h6⟩, h7⟩, h8⟩, h9⟩, h10⟩, h11⟩
    exact ⟨⟨h1, h4, h5, h6, h7, h8, h9, h10, fun e he ho => (h11 e he).resolve_left (fun h => h ho), fun x hx => by
      rw [h3] at hx; cases hx⟩, h2, h3⟩
  · rintro ⟨⟨h1, h4, h5, h6, h7, h8, h9, h10, h11, -⟩, h2, h3⟩
    exact ⟨⟨⟨⟨⟨⟨⟨⟨⟨⟨h1, h2⟩, h3⟩, h4⟩, h5⟩, h6⟩, h7⟩, h8⟩, h9⟩, h10⟩, fun e he => by
      by_cases ho : e.2.state = .open
      · exact .inr (h11 e he ho)
      · exact .inl ho⟩

/-- Nothing that `Still` speaks of has changed. -/
theorem Still.of_eq {s t : State} (h : Still s) (h1 : t.fab.decided = s.fab.decided) (h2 : rd t .SES_MBOX = rd s .SES_MBOX)
    (h3 : t.saf = s.saf) (h4 : t.shed = s.shed) (h5 : t.glb = s.glb) (h6 : t.mix.sets = s.mix.sets)
    (h7 : t.pl.xfer = s.pl.xfer) : Still t := by
  obtain ⟨a, b, c, d, e, f, g, i, j, k⟩ := h
  refine ⟨h1.trans a, ?_, h3 ▸ c, h3 ▸ d, h4 ▸ e, h3 ▸ f, h5 ▸ g, ?_, h6 ▸ j, h7 ▸ k⟩
  · unfold fb fv at b ⊢
    rw [show rd t Fd.SES_MBOX_EN.reg = rd s Fd.SES_MBOX_EN.reg from h2]; exact b
  · unfold isPair at i ⊢; rw [h5]; exact i

theorem freeOrphans_still {s : State} (h : ∀ e ∈ s.mix.sets, e.2.state = .open → e.2.owner ≠ none) : freeOrphans s = s := by
  unfold freeOrphans forEach
  suffices ∀ (l : List (Nat × BSet)), (∀ e ∈ l, e.2.state = .open → e.2.owner ≠ none) →
      l.foldl (fun s e => if e.2.state = .open ∧ e.2.owner = none then bsFree s e.1 else s) s = s from this _ h
  intro l hl
  induction l with
  | nil => rfl
  | cons e l ih =>
    rw [List.foldl_cons, if_neg (fun q => hl e List.mem_cons_self q.1 q.2)]
    exact ih fun d hd => hl d (List.mem_cons_of_mem _ hd)

theorem sessionDecisions_still {s : State} (h : Still s) : sessionDecisions s = s := by
  unfold sessionDecisions
  have e : s.setFab (fun f => { f with decided := [] }) = s := by
    show { s with fab := { s.fab with decided := [] } } = s
    rw [← h.1]
  dsimp only
  rw [h.1, e, show freeOrphans (forEach [] s fun d s => sesDecision s d) = s from freeOrphans_still h.2.2.2.2.2.2.2.2.1]
  split
  · rename_i x hx
    rw [h.2.2.2.2.2.2.2.2.2 x hx]
    exact if_neg (by simp)
  · rfl

theorem takeReports_nil {s : State} (h : s.saf.due = []) : takeReports s = s := by
  unfold takeReports; rw [h]

/-- The end of a command finds nothing after the replies have left. -/
theorem rest_still (old : State) {s : State} (h : Still s) :
    mirrorChanges old (ejectDone (quietGate (barsEnd (exhaustedQuiet (takeReports s))))) = s := by
  obtain ⟨-, -, h3, h4, h5, h6, h7, h8, -, -⟩ := h
  rw [takeReports_nil h3]
  have e1 : exhaustedQuiet s = s := if_neg (by rw [h5]; simp)
  have hb : ∀ c, s.setSaf (fun y => { y with bars := Tbl.del y.bars c }) = s := by
    intro c
    show { s with saf := { s.saf with bars := Tbl.del s.saf.bars c } } = s
    rw [h4]
    show { s with saf := { s.saf with bars := [] } } = s
    rw [← h4]
  have e2 : barsEnd s = s := by
    unfold barsEnd; dsimp only
    rw [hb, show (if s.ref.tcxoFault = true then s else s) = s by split <;> rfl, hb]
    split <;> rfl
  have e3 : quietGate s = s := if_neg (fun q => h6 q.1)
  have e4 : ejectDone s = s := if_neg (fun q => h7 q.1)
  have e5 : mirrorChanges old s = s := by
    unfold mirrorChanges; dsimp only
    exact if_pos (by simp [h8])
  rw [e1, e2, e3, e4, e5]

/-- A command that leaves no reply. -/
theorem finish_still {old s : State} (h : Still s) (ho : s.ses.out = []) : finish old s = s := by
  unfold finish
  split
  · rfl
  · unfold finishAll
    dsimp only
    have hm : mailboxTake s = s := if_neg (by rw [h.2.1]; decide)
    rw [settleDecided_nil h.1, sessionDecisions_still h, hm, sessionDecisions_still h,
      show flushReplies s = s from if_pos (by rw [ho]; rfl)]
    exact rest_still old h

theorem sendWhere_one {s : State} {r : Reply} {p : Reply → Bool} (ho : s.ses.out = [r]) (hp : p r = true) :
    sendWhere s p = sendOne (s.setSes fun y => { y with out := [] }) r := by
  unfold sendWhere
  have e : s.setSes (fun y => { y with out := y.out.filter fun r => !p r }) = s.setSes fun y => { y with out := [] } := by
    show { s with ses := { s.ses with out := s.ses.out.filter _ } } = _
    rw [ho]
    simp [hp, State.setSes]
  dsimp only
  rw [e, ho]
  simp [hp, forEach]

/-- A command that leaves one reply, of a unit without a standby. -/
theorem finish_reply {old s : State} {r : Reply} (h : Still s) (ho : s.ses.out = [r]) (hs : hasStandby s = false)
    (hv : Still (sendOne (s.setSes fun y => { y with out := [] }) r)) :
    finish old s = sendOne (s.setSes fun y => { y with out := [] }) r := by
  unfold finish
  rw [if_neg (fun c => by have := ((calm_iff s).1 c).2.1; rw [ho] at this; cases this)]
  unfold finishAll
  dsimp only
  have hm : mailboxTake s = s := if_neg (by rw [h.2.1]; decide)
  have hf : flushReplies s = sendOne (s.setSes fun y => { y with out := [] }) r := by
    unfold flushReplies
    rw [if_neg (by rw [ho]; simp)]
    exact sendWhere_one ho (by rw [hs]; rfl)
  rw [settleDecided_nil h.1, sessionDecisions_still h, hm, sessionDecisions_still h, hf]
  exact rest_still old hv

/-- A command without a reply whose effect is `t`. -/
theorem run_still {s t : State} {f : State → State} (e : f s = t) (h : Still t) (ho : t.ses.out = []) (hn : t.now = s.now)
    (hp : t.pending = s.pending) : run s f = .next t := by
  subst e
  unfold run
  rw [finish_still h ho, ← hn, ← hp]

/-- A command whose effect leaves one reply. -/
theorem run_reply {s u t : State} {f : State → State} {r : Reply} (e : f s = u) (h : Still u) (ho : u.ses.out = [r])
    (hs : hasStandby u = false) (hv : sendOne (u.setSes fun y => { y with out := [] }) r = t) (ht : Still t)
    (hn : t.now = s.now) (hp : t.pending = s.pending) : run s f = .next t := by
  subst e
  subst hv
  unfold run
  rw [finish_reply h ho hs ht, ← hn, ← hp]

/-! ## Sets of the basting engine and the closing of sessions -/

theorem Tbl.mem_put {α : Type} {t : Tbl α} {k : Nat} {v : α} {e : Nat × α} (h : e ∈ Tbl.put t k v) : e = (k, v) ∨ e ∈ t := by
  induction t with
  | nil => exact .inl (by simpa [Tbl.put] using h)
  | cons a t ih =>
    obtain ⟨j, w⟩ := a
    simp only [Tbl.put] at h
    split at h
    · rcases List.mem_cons.1 h with h | h
      · exact .inl h
      · exact .inr (List.mem_cons_of_mem _ h)
    · split at h
      · rcases List.mem_cons.1 h with h | h
        · exact .inl h
        · exact .inr h
      · rcases List.mem_cons.1 h with h | h
        · exact .inr (h ▸ List.mem_cons_self)
        · exact (ih h).imp id (List.mem_cons_of_mem _)

theorem Tbl.mem_del {α : Type} {t : Tbl α} {k : Nat} {e : Nat × α} (h : e ∈ Tbl.del t k) : e ∈ t := by
  induction t with
  | nil => exact h
  | cons a t ih =>
    obtain ⟨j, w⟩ := a
    simp only [Tbl.del] at h
    split at h
    · exact List.mem_cons_of_mem _ h
    · split at h
      · exact h
      · rcases List.mem_cons.1 h with h | h
        · exact h ▸ List.mem_cons_self
        · exact List.mem_cons_of_mem _ (ih h)

theorem Tbl.mem_set {α : Type} [DecidableEq α] {d : α} {t : Tbl α} {k : Nat} {v : α} {e : Nat × α}
    (h : e ∈ Tbl.set d t k v) : e = (k, v) ∨ e ∈ t := by
  unfold Tbl.set at h
  split at h
  · exact .inr (Tbl.mem_del h)
  · exact Tbl.mem_put h

theorem still_putSet {s : State} (h : Still s) (k : Nat) {x : BSet} (hx : x.state = .open → x.owner ≠ none) :
    Still (putSet s k x) := by
  obtain ⟨a, b, c, d, e, f, g, i, j, l⟩ := h
  refine ⟨a, b, c, d, e, f, g, i, fun m hm => ?_, l⟩
  rcases Tbl.mem_set hm with hm | hm
  · subst hm; exact hx
  · exact j m hm

theorem still_ownerGone {s : State} (h : Still s) (who : Requester) : Still (bsOwnerGone s who) := by
  refine forEach_rel (R := fun s t => Still s → Still t) (fun _ h => h) (fun f g h => g (f h)) (fun k s h => ?_) _ s h
  dsimp only
  split
  · exact h
  · split
    · exact still_putSet h k (fun q => by cases q)
    · rename_i hq
      exact still_putSet h k (fun q => absurd q hq)

theorem still_abort {s : State} (h : Still s) : Still (abortXfer s) := by
  obtain ⟨a, b, c, d, e, f, g, i, j, -⟩ := h
  exact ⟨a, b, c, d, e, f, g, i, j, fun x hx => by cases hx⟩

theorem still_orphan {s : State} (h : Still s) (k : Nat) : Still (orphanRequests s k) :=
  h.of_eq (by show List.map _ s.fab.decided = s.fab.decided; rw [h.1]; rfl) rfl rfl rfl rfl rfl rfl

theorem still_raise {s : State} (h : Still s) {r : Reg} (hr : Reg.SES_MBOX ≠ r) (hi : 0 < (desc r).n1) (hj : 0 < (desc r).n2) (b : Nat) :
    Still (raise s r b) := by
  obtain ⟨rf, evt, e, -⟩ := raise_eq s r b 0
  have hm := rd_raise_ne s (r := r) (q := .SES_MBOX) b (i := 0) (k := 0) (l := 0) (addr_ne hr hi hj (by decide) (by decide))
  rw [e] at hm ⊢
  exact h.of_eq rfl hm rfl rfl rfl rfl rfl

theorem still_setSes {s : State} (h : Still s) (f : Sessions → Sessions) : Still (s.setSes f) := h.of_eq rfl rfl rfl rfl rfl rfl rfl

theorem still_emit {s : State} (h : Still s) (e : Emission) : Still (emit s e) := h.of_eq rfl rfl rfl rfl rfl rfl rfl

theorem still_closeSession {s : State} (h : Still s) (k : Nat) : Still (closeSession s k) := by
  unfold closeSession
  split
  · refine still_raise ?_ (by decide) (by decide) (by decide) _
    refine still_setSes (still_orphan (still_ownerGone ?_ _) _) _
    split
    · exact still_abort h
    · exact h
  · exact h

theorem still_closeWhere {s : State} (h : Still s) (p : Ses → Bool) : Still (closeWhere s p) :=
  forEach_rel (R := fun s t => Still s → Still t) (fun _ h => h) (fun f g h => g (f h)) (fun k _ h => still_closeSession h k) _ s h

/-- What closing sessions leaves alone: the instant, the queue, that no reply waits and no image arrives. -/
def Closed (s t : State) : Prop :=
  t.now = s.now ∧ t.pending = s.pending ∧ (s.ses.out = [] → t.ses.out = []) ∧ (s.pl.xfer = none → t.pl.xfer = none)

theorem Closed.refl (s : State) : Closed s s := ⟨rfl, rfl, id, id⟩

theorem Closed.trans {s t u : State} (f : Closed s t) (g : Closed t u) : Closed s u :=
  ⟨g.1.trans f.1, g.2.1.trans f.2.1, fun h => g.2.2.1 (f.2.2.1 h), fun h => g.2.2.2 (f.2.2.2 h)⟩

theorem Closed.of_eq {s t : State} (h1 : t.now = s.now) (h2 : t.pending = s.pending) (h3 : t.ses = s.ses) (h4 : t.pl = s.pl) :
    Closed s t := ⟨h1, h2, fun h => by rw [h3]; exact h, fun h => by rw [h4]; exact h⟩

theorem closed_raise (s : State) (r : Reg) (b : Nat) : Closed s (raise s r b) := by
  obtain ⟨rf, evt, e, -⟩ := raise_eq s r b 0
  rw [e]
  exact Closed.of_eq rfl rfl rfl rfl

theorem closed_ownerGone (s : State) (w : Requester) : Closed s (bsOwnerGone s w) := by
  refine forEach_rel (R := Closed) Closed.refl (fun f g => f.trans g) (fun k s => ?_) _ s
  dsimp only
  split
  · exact Closed.refl s
  · split <;> exact Closed.of_eq rfl rfl rfl rfl

theorem closed_abort (s : State) : Closed s (abortXfer s) := ⟨rfl, rfl, id, fun _ => rfl⟩

theorem closed_out (s : State) (f : List Reply → List Reply) (g : Tbl Ses → Tbl Ses) (hf : f [] = []) :
    Closed s (s.setSes fun y => { y with ses := g y.ses, out := f y.out }) :=
  ⟨rfl, rfl, fun h => by show f s.ses.out = []; rw [h, hf], id⟩

theorem closed_orphan (s : State) (k : Nat) : Closed s (orphanRequests s k) := Closed.of_eq rfl rfl rfl rfl

theorem closed_gone (s : State) (k : Nat) : Closed s (s.setSes fun y => { y with
    ses := Tbl.del y.ses k
    out := y.out.filter fun r => r.ses != k || r.after == .cfgReset || r.after == .fullReset }) :=
  closed_out s (fun o => o.filter fun r => r.ses != k || r.after == .cfgReset || r.after == .fullReset) (fun t => Tbl.del t k) rfl

theorem close_frame (s : State) (k : Nat) : Closed s (closeSession s k) := by
  unfold closeSession
  split
  · refine Closed.trans ?_ (closed_raise _ _ _)
    refine Closed.trans ?_ (closed_gone _ k)
    refine Closed.trans ?_ (closed_orphan _ k)
    refine Closed.trans ?_ (closed_ownerGone _ _)
    split
    · exact closed_abort s
    · exact Closed.refl s
  · exact Closed.refl s

theorem closeWhere_frame (s : State) (p : Ses → Bool) : Closed s (closeWhere s p) :=
  forEach_rel (R := Closed) Closed.refl (fun f g => f.trans g) (fun k s => close_frame s k) _ s

/-- A command that only closes sessions, beside what leaves everything ready. -/
theorem run_close {s u : State} {f : State → State} {p : Ses → Bool} (e : f s = closeWhere u p) (h : calm u = true)
    (hn : u.now = s.now) (hp : u.pending = s.pending) : run s f = .next (closeWhere u p) := by
  have c := (calm_iff u).1 h
  have w := closeWhere_frame u p
  exact run_still e (still_closeWhere c.1 p) (w.2.2.1 c.2.1) (w.1.trans hn) (w.2.1.trans hp)

end Sys2Proof.Machine
end

