-- ==== Sys2Proof/Laws/Settled.lean ====
section
/-! SUPPORT. What the end of a command comes to for a unit of a pair, and where bars stand: nothing, when the state after
the command is settled and nothing that is mirrored has changed. -/

namespace Sys2Proof.Machine

theorem Tbl.del_absent {α : Type} {t : Tbl α} {k : Nat} (h : Tbl.get? t k = none) : Tbl.del t k = t := by
  induction t with
  | nil => rfl
  | cons e t ih =>
    obtain ⟨j, v⟩ := e
    simp only [Tbl.get?, Tbl.del] at h ⊢
    by_cases hj : j = k
    · rw [if_pos hj] at h; cases h
    · rw [if_neg hj] at h
      rw [if_neg hj, ih h]
      split <;> rfl

theorem Tbl.get?_mem {α : Type} {t : Tbl α} {lo : Nat} (h : Tbl.risingFrom lo t = true) {e : Nat × α} (he : e ∈ t) :
    Tbl.get? t e.1 = some e.2 := by
  induction t generalizing lo with
  | nil => cases he
  | cons d t ih =>
    obtain ⟨j, v⟩ := d
    simp only [Tbl.risingFrom, Bool.and_eq_true, decide_eq_true_eq] at h
    simp only [Tbl.get?]
    rcases List.mem_cons.1 he with rfl | he
    · exact if_pos rfl
    · have hi := ih h.2 he
      by_cases hj : j = e.1
      · have := Tbl.get?_below h.2 (k := e.1) (by omega)
        rw [hi] at this; cases this
      · rw [if_neg hj]; exact hi

/-- Nothing waits to be mirrored, and what the active unit would send to its peer is as it was. -/
def SameMirrored (s t : State) : Prop :=
  t.pr.outbox = [] ∧ (mirrors t = false ∨
    t.mix.commits = s.mix.commits ∧ t.mix.enables = s.mix.enables ∧ t.mix.sets = s.mix.sets ∧ t.cio.sched = s.cio.sched ∧
      t.fab.admSeq = s.fab.admSeq ∧ t.ses.ses = s.ses.ses ∧ t.rb.seams = s.rb.seams ∧ t.pl.xfer = s.pl.xfer ∧
      t.dyn.hems = s.dyn.hems ∧ (∀ k, (tbOf t k).committed = (tbOf s k).committed) ∧
      (∀ k, (coOf s k).state = .held → (coOf t k).state = .held) ∧ s.cio.sched.wf = true ∧ s.ses.ses.wf = true)

theorem filter_self {α : Type} [BEq α] [LawfulBEq α] (l : List α) : l.filter (fun c => !l.contains c) = [] := by
  rw [List.filter_eq_nil_iff]
  intro a ha
  simp [ha]

theorem flatMap_nil {α β : Type} {l : List α} {f : α → List β} (h : ∀ a ∈ l, f a = []) : l.flatMap f = [] := by
  rw [List.flatMap_eq_nil_iff]; exact h

theorem mirroredSet_same {s t : State} (hs : t.mix.sets = s.mix.sets) (hx : t.ses.ses = s.ses.ses) (k : Nat) :
    mirroredSet t k = mirroredSet s k := by
  unfold mirroredSet setOf
  rw [hs, hx]

theorem mirrorChanges_same {s t : State} (h : SameMirrored s t) : mirrorChanges s t = t := by
  obtain ⟨ho, h⟩ := h
  unfold mirrorChanges
  dsimp only
  refine if_pos ?_
  rcases h with h | ⟨h1, h2, hs, h3, ha, h4, hr, hx, hh, h5, hc, h6, h7⟩
  · simp [ho, h]
  · have e : mirrorOf s t = [] := by
      unfold mirrorOf
      simp only [List.append_eq_nil_iff, List.map_eq_nil_iff]
      refine ⟨⟨⟨⟨⟨⟨⟨⟨⟨⟨⟨?_, ?_⟩, ?_⟩, ?_⟩, ?_⟩, ?_⟩, ?_⟩, ?_⟩, ?_⟩, ?_⟩, ?_⟩, ?_⟩
      · rw [h1, filter_self]
      · rw [h2, filter_self]
      · exact flatMap_nil fun k _ => if_pos (.inl (mirroredSet_same hs h4 k))
      · refine flatMap_nil fun e he => ?_
        rw [h3] at he
        exact if_pos (.inl (Tbl.get?_mem h6 he))
      · exact if_pos ha
      · refine flatMap_nil fun k _ => ?_
        split
        · rename_i a e
          exact if_pos (by rw [← h5, e])
        · rfl
      · rw [hr, filter_self]; rfl
      · rw [hh, filter_self]; rfl
      · exact flatMap_nil fun k _ => if_neg fun q => q.2 (hc k q.1)
      · refine flatMap_nil fun e he => if_pos (.inr ?_)
        rw [h4] at he
        exact Tbl.get?_mem h7 he
      · split
        · rename_i x e
          exact if_neg fun q => by rw [hx, e] at q; cases q.1
        · rfl
      · refine flatMap_nil fun e he => if_neg ?_
        rw [h4, Tbl.get?_mem h7 he]
        simp
    simp [ho, e]

/-- Nothing waits for delivery: no decision, reply, image or mailbox item, and no set has lost its owner. -/
def Ready (s : State) : Prop :=
  s.fab.decided = [] ∧ s.ses.out = [] ∧ s.pl.xfer = none ∧ fb s .SES_MBOX_EN = false ∧
    ∀ e ∈ s.mix.sets, e.2.state ≠ .open ∨ e.2.owner ≠ none

/-- The end of a command with nothing to deliver: reports are taken, stops and removals go on, changes are mirrored. -/
theorem finishAll_ready {old s : State} (h : Ready s) :
    finishAll old s = mirrorChanges old (ejectDone (quietGate (barsEnd (exhaustedQuiet (takeReports s))))) := by
  obtain ⟨h1, h2, h3, h4, h7⟩ := h
  unfold finishAll
  dsimp only
  have e1 : mailboxTake s = s := if_neg (by rw [h4]; decide)
  have e2 : sessionDecisions s = s := by
    unfold sessionDecisions
    have e : s.setFab (fun f => { f with decided := [] }) = s := by
      show { s with fab := { s.fab with decided := [] } } = s
      rw [← h1]
    dsimp only
    rw [h1, e, show freeOrphans (forEach [] s fun d s => sesDecision s d) = s from freeOrphans_still fun e he ho => (h7 e he).resolve_left fun q => q ho]
    rw [h3]
  have e3 : flushReplies s = s := if_pos (by rw [h2]; rfl)
  rw [settleDecided_nil h1, e2, e1, e2, e3]

theorem ready_of_settled {s : State} (h : settled s = true) : Ready s := by
  unfold settled at h
  simp only [Bool.and_eq_true, List.isEmpty_iff, Bool.not_eq_true', Option.isNone_iff_eq_none, List.all_eq_true,
    Bool.or_eq_true, bne_iff_ne] at h
  obtain ⟨⟨⟨⟨⟨⟨⟨⟨⟨⟨⟨h1, h2⟩, h3⟩, h4⟩, h5⟩, h6⟩, -⟩, h7⟩, h8⟩, h9⟩, h10⟩, h11⟩ := h
  exact ⟨h1, h2, h3, h4, h7⟩

/-- After the reports nothing is left to do in a settled state. -/
theorem rest_settled {old s : State} (h : settled s = true) (hm : SameMirrored old s) :
    mirrorChanges old (ejectDone (quietGate (barsEnd (exhaustedQuiet s)))) = s := by
  unfold settled at h
  simp only [Bool.and_eq_true, List.isEmpty_iff, Bool.not_eq_true', Option.isNone_iff_eq_none, List.all_eq_true,
    Bool.or_eq_true, bne_iff_ne] at h
  obtain ⟨⟨⟨⟨⟨⟨⟨⟨⟨⟨⟨h1, h2⟩, h3⟩, h4⟩, h5⟩, h6⟩, -⟩, h7⟩, h8⟩, h9⟩, h10⟩, h11⟩ := h
  have e4 : exhaustedQuiet s = s := if_neg (by rw [h6]; simp)
  have hd : ∀ c, Tbl.get? s.saf.bars c = none → s.setSaf (fun y => { y with bars := Tbl.del y.bars c }) = s := by
    intro c hc
    show { s with saf := { s.saf with bars := Tbl.del s.saf.bars c } } = s
    rw [Tbl.del_absent hc]
  have e5 : barsEnd s = s := by
    unfold barsEnd; dsimp only
    have a : (if s.ref.tcxoFault = true then s else s.setSaf fun y => { y with bars := Tbl.del y.bars 0x07 }) = s := by
      rcases h8 with h8 | h8
      · exact if_pos h8
      · rw [hd _ h8]; exact ite_self _
    rw [a]
    rcases h9 with h9 | h9
    · exact if_pos h9
    · rw [hd _ h9]; exact ite_self _
  have e6 : quietGate s = s := if_neg fun q => by
    rw [q.1, q.2.1, q.2.2] at h10
    cases h10
  have e7 : ejectDone s = s := if_neg fun q => by
    obtain ⟨q1, q2, q3, q4⟩ := q
    rw [q1, q4] at h11
    simp only [Bool.not_eq_true'] at q2 q3
    rw [q2, q3] at h11
    cases h11
  rw [e4, e5, e6, e7]
  exact mirrorChanges_same hm

theorem finish_settled {old s : State} (h : settled s = true) (hm : SameMirrored old s) : finish old s = s := by
  have h5 : s.saf.due = [] := by
    unfold settled at h
    simp only [Bool.and_eq_true, List.isEmpty_iff] at h
    exact h.1.1.1.1.1.1.1.2
  unfold finish
  split
  · rfl
  · rw [finishAll_ready (ready_of_settled h), takeReports_nil h5]
    exact rest_settled h hm

/-- A command whose effect `u` reports something, after which the thimble leaves the settled state `t`. -/
theorem run_reports {s t u : State} {f : State → State} (e : f s = u) (hr : Ready u) (hd : u.saf.due ≠ [])
    (et : takeReports u = t) (h : settled t = true) (hm : SameMirrored s t) (hn : t.now = s.now)
    (hp : t.pending = s.pending) : run s f = .next t := by
  subst e
  have hc : ¬ calm (f s) = true := fun c => by
    unfold calm at c
    simp only [Bool.and_eq_true, List.isEmpty_iff] at c
    exact hd c.1.1.1.1.1.1.2
  unfold run finish
  rw [if_neg hc, finishAll_ready hr, et, rest_settled h hm, ← hn, ← hp]

/-- A command whose effect `t` is settled and mirrors nothing new. -/
theorem run_settled {s t : State} {f : State → State} (e : f s = t) (h : settled t = true) (hm : SameMirrored s t)
    (hn : t.now = s.now) (hp : t.pending = s.pending) : run s f = .next t := by
  subst e
  unfold run
  rw [finish_settled h hm, ← hn, ← hp]

/-- One report is taken: logged, then its reaction. -/
theorem takeReports_one {u : State} {r : Report1} (h : u.saf.due = [r]) :
    takeReports u = (let v := noteFault (u.setSaf fun y => { y with due := [] }) r;
      let w := if u.glb.mode ≠ .quiet then reactAll v [r] else v;
      let x := if u.glb.mode ≠ .quiet ∧ r.code = 0x15 then w.setSaf fun y => { y with lockstepAt := some w.now } else w;
      if r.code = 0x16 then fullReset x 3 else x) := by
  unfold takeReports
  rw [h]
  simp only [List.foldl, insReport, forEach, List.any_cons, List.any_nil, Bool.or_false, beq_iff_eq, bne_iff_ne]

/-- An entry of the fault log. -/
theorem logFault_eq (s : State) (r : Report1) : ∃ rf evt, logFault s r = { s with rf := rf, evt := evt, saf := { s.saf with
    log := Tbl.put s.saf.log s.saf.next {
      code := r.code, region := faultRegion r.code r.region, reaction := (faultRow r.code).1, bar := (faultRow r.code).2.2 != 0, inj := r.inj
      boot := s.glb.boots % 65536, detail := r.detail, stitch := s.mix.stitch % 2 ^ 32, tack := tack s 0 }
    next := (s.saf.next + 1) % 64
    lost := if (Tbl.getD s.saf.log s.saf.next {}).code ≠ 0 then satInc 0xFFFF s.saf.lost else s.saf.lost } } := by
  unfold logFault
  dsimp only
  obtain ⟨rf, evt, e, -⟩ := raise_eq (s.setSaf fun y => { y with
    log := Tbl.put y.log y.next {
      code := r.code, region := faultRegion r.code r.region, reaction := (faultRow r.code).1, bar := (faultRow r.code).2.2 != 0, inj := r.inj
      boot := s.glb.boots % 65536, detail := r.detail, stitch := s.mix.stitch % 2 ^ 32, tack := tack s 0 }
    next := (y.next + 1) % 64
    lost := if (Tbl.getD s.saf.log s.saf.next {}).code ≠ 0 then satInc 0xFFFF y.lost else y.lost }) .SAF_EVENT 1 0
  exact ⟨rf, evt, e⟩

/-- Beside event flags only the role of the unit, its gate, its control outputs (but for those that are HELD), its
streams, its time bases (but for what they have committed) and what it has sent differ. -/
def Beside (s t : State) : Prop :=
  t = { s with
    rf := t.rf, evt := t.evt, emitted := t.emitted, cio := { s.cio with cos := t.cio.cos }, pr := t.pr, glb := t.glb
    tb := t.tb, str := t.str } ∧ OnlyFlags s t ∧ (∀ k, (tbOf t k).committed = (tbOf s k).committed) ∧
    ∀ k, (coOf s k).state = .held → (coOf t k).state = .held

theorem Beside.refl (s : State) : Beside s s := ⟨rfl, onlyFlags_refl s, fun _ => rfl, fun _ h => h⟩

theorem Beside.trans {s t u : State} (h : Beside s t) (g : Beside t u) : Beside s u := by
  refine ⟨?_, onlyFlags_trans h.2.1 g.2.1, fun k => (g.2.2.1 k).trans (h.2.2.1 k), fun k q => g.2.2.2 k (h.2.2.2 k q)⟩
  rw [g.1, h.1]

theorem beside_setPr (s : State) (f : Pair → Pair) : Beside s (s.setPr f) := ⟨rfl, onlyFlags_of_rf rfl, fun _ => rfl, fun _ h => h⟩
theorem beside_setGlb (s : State) (f : Glb → Glb) : Beside s (s.setGlb f) := ⟨rfl, onlyFlags_of_rf rfl, fun _ => rfl, fun _ h => h⟩
theorem beside_emit (s : State) (e : Emission) : Beside s (emit s e) := ⟨rfl, onlyFlags_of_rf rfl, fun _ => rfl, fun _ h => h⟩
theorem beside_setCo (s : State) (k : Nat) (x : Co) (h : (coOf s k).state ≠ .held) : Beside s (setCo s k x) := by
  refine ⟨rfl, onlyFlags_of_rf rfl, fun _ => rfl, fun j q => ?_⟩
  by_cases e : j = k
  · subst e; exact absurd q h
  · exact (congrArg Co.state (Tbl.getD_put_ne _ _ _ e)).trans q
theorem beside_raise (s : State) {r : Reg} (bits : Nat) (hr : (evtGroup r).isSome) (hi : 0 < (desc r).n1) (hj : 0 < (desc r).n2) :
    Beside s (raise s r bits) := by
  have h := raise_flagged s bits (i := 0) hr hi hj
  refine ⟨?_, h.2, fun k => ?_, fun k q => ?_⟩ <;> rw [h.1]
  · rfl
  · exact q

theorem beside_raiseIf (c : Bool) (s : State) {r : Reg} (bits : Nat) (hr : (evtGroup r).isSome) (hi : 0 < (desc r).n1) (hj : 0 < (desc r).n2) :
    Beside s (raiseIf c s r bits) := by
  unfold raiseIf
  split
  · exact beside_raise s bits hr hi hj
  · exact Beside.refl s

theorem beside_lining (s : State) (m : LinMsg) : Beside s (lining s m) := by
  unfold lining
  split
  · exact beside_emit s _
  · exact Beside.refl s

theorem beside_forEach {α : Type} {f : α → State → State} (h : ∀ x s, Beside s (f x s)) (xs : List α) (s : State) :
    Beside s (forEach xs s f) := forEach_rel (R := Beside) Beside.refl Beside.trans h xs s

theorem beside_gateAll (s : State) : Beside s (coGateAll s) :=
  beside_forEach (fun k s => by
    split
    · unfold coSettle; dsimp only
      split
      · exact Beside.refl s
      · split
        · exact Beside.refl s
        · rename_i hh _; exact beside_setCo s _ _ hh
    · exact Beside.refl s) _ s

/-- Control outputs follow the gate; the role of the unit and its gate are not theirs to change. -/
theorem gateAll_own (s : State) : (coGateAll s).pr = s.pr ∧ (coGateAll s).glb = s.glb ∧ (coGateAll s).rf = s.rf := by
  refine forEach_rel (R := fun s t => t.pr = s.pr ∧ t.glb = s.glb ∧ t.rf = s.rf) (fun _ => ⟨rfl, rfl, rfl⟩)
    (fun f g => ⟨g.1.trans f.1, g.2.1.trans f.2.1, g.2.2.trans f.2.2⟩) (fun k s => ?_) _ s
  split
  · unfold coSettle; dsimp only
    split
    · exact ⟨rfl, rfl, rfl⟩
    · split <;> exact ⟨rfl, rfl, rfl⟩
  · exact ⟨rfl, rfl, rfl⟩

theorem beside_laneGate (s : State) : Beside s (laneGate s) := beside_forEach (fun e s => beside_emit s _) _ s

theorem laneGate_own (s : State) : (laneGate s).pr = s.pr ∧ (laneGate s).glb = s.glb ∧ (laneGate s).rf = s.rf :=
  forEach_rel (R := fun s t => t.pr = s.pr ∧ t.glb = s.glb ∧ t.rf = s.rf) (fun _ => ⟨rfl, rfl, rfl⟩)
    (fun f g => ⟨g.1.trans f.1, g.2.1.trans f.2.1, g.2.2.trans f.2.2⟩) (fun e s => by exact ⟨rfl, rfl, rfl⟩) _ s

theorem beside_gate (s : State) (on : Bool) : Beside s (setGate s on) := by
  unfold setGate
  split
  · exact Beside.refl s
  · exact (((beside_setGlb s _).trans (beside_emit _ _)).trans (beside_laneGate _)).trans (beside_gateAll _)

theorem gate_own (s : State) (on : Bool) :
    (setGate s on).pr = s.pr ∧ (setGate s on).glb = { s.glb with gate := on } ∧ (setGate s on).rf = s.rf := by
  unfold setGate
  split
  · rename_i h
    subst h
    exact ⟨rfl, rfl, rfl⟩
  · have a := gateAll_own (laneGate (emit (s.setGlb fun g => { g with gate := on }) (.gate on)))
    have b := laneGate_own (emit (s.setGlb fun g => { g with gate := on }) (.gate on))
    exact ⟨a.1.trans b.1, a.2.1.trans b.2.1, a.2.2.trans b.2.2⟩

/-- A time base that is mirrored, or no longer, keeps what it has committed. -/
theorem beside_setTbk (s : State) (k : Nat) (b : TimeBase) (h : b.committed = (tbOf s k).committed) : Beside s (setTbk s k b) := by
  refine ⟨rfl, onlyFlags_of_rf rfl, fun j => ?_, fun _ h => h⟩
  by_cases hj : j = k
  · subst hj; rw [tbOf_setTbk]; exact h
  · rw [show tbOf (setTbk s k b) j = tbOf s j from Tbl.getD_put_ne _ _ _ hj]

theorem beside_tbState (s : State) (k : Nat) (st : TbState) : Beside s (tbState s k st) := by
  unfold tbState
  split
  · exact Beside.refl s
  · refine (beside_setTbk s k _ ?_).trans (beside_raise (r := .TB_EVENT) _ _ (by decide) (by decide) (by decide))
    rfl

theorem beside_tbMirror (s : State) (k : Nat) (on : Bool) : Beside s (tbMirror s k on) := by
  unfold tbMirror
  dsimp only
  split
  · split
    · exact Beside.refl s
    · refine (beside_setTbk s k _ ?_).trans (beside_tbState _ _ _)
      rfl
  · split
    · refine (beside_setTbk s k _ ?_).trans (beside_tbState _ _ _)
      rfl
    · exact Beside.refl s

theorem beside_txRole (s : State) (was : Bool) : Beside s (txRole s was) := by
  unfold txRole
  split
  · exact Beside.refl s
  · exact ⟨rfl, onlyFlags_of_rf rfl, fun _ => rfl, fun _ h => h⟩

theorem beside_powers (s : State) : Beside s (rolePowers s) := by
  unfold rolePowers
  exact (beside_setGlb s _).trans (beside_txRole _ _)

theorem txRole_own (s : State) (was : Bool) : (txRole s was).pr = s.pr ∧ (txRole s was).glb = s.glb := by
  unfold txRole
  split <;> exact ⟨rfl, rfl⟩

theorem powers_own (s : State) : (rolePowers s).pr = s.pr ∧ (rolePowers s).glb.mode = s.glb.mode ∧
    (rolePowers s).glb.cfgFault = s.glb.cfgFault ∧ (rolePowers s).glb.ledEject = s.glb.ledEject ∧ (rolePowers s).glb.gate = s.glb.gate := by
  unfold rolePowers
  dsimp only
  have h := txRole_own (s.setGlb fun g =>
    if s.pr.state = .solo then { g with passive := false, active := true, sendA := true, sendB := true, sendOne := true }
    else if s.pr.leaving then { g with passive := true }
    else { g with
      passive := s.pr.state != .active, active := s.pr.state == .active
      sendA := (s.pr.state == .active || s.pr.state == .standby) && !unitB s
      sendB := (s.pr.state == .active || s.pr.state == .standby) && unitB s, sendOne := s.pr.state == .active }) s.glb.sendOne
  rw [h.1, h.2]
  unfold State.setGlb
  dsimp only
  (repeat' split) <;> exact ⟨rfl, rfl, rfl, rfl, rfl⟩

/-- Changes beside leave a settled state settled, unless the gate rises while a stop in order ends. -/
theorem beside_settled {s t : State} (h : Beside s t) (hs : settled s = true) (hm : t.glb.mode = s.glb.mode)
    (hf : t.glb.cfgFault = s.glb.cfgFault) (hl : t.glb.ledEject = s.glb.ledEject)
    (ho : t.pr.outbox = [])
    (hg : t.glb.gate = s.glb.gate ∨ t.glb.gate = false ∨ s.saf.quiet ≠ some .inOrder) : settled t = true := by
  have e : fb t .SES_MBOX_EN = fb s .SES_MBOX_EN := onlyFlags_fb h.2.1 .SES_MBOX_EN rfl (by decide) (by decide)
  obtain ⟨e1, -⟩ := h
  have l : lanesDone t = lanesDone s := by rw [e1]; rfl
  have a1 : t.fab = s.fab := by rw [e1]
  have a2 : t.ses = s.ses := by rw [e1]
  have a3 : t.pl = s.pl := by rw [e1]
  have a4 : t.saf = s.saf := by rw [e1]
  have a5 : t.shed = s.shed := by rw [e1]
  have a6 : t.mix = s.mix := by rw [e1]
  have a7 : t.ref = s.ref := by rw [e1]
  unfold settled at hs ⊢
  have h0 : s.pr.outbox = [] := by
    simp only [Bool.and_eq_true, List.isEmpty_iff] at hs
    exact hs.1.1.1.1.1.2
  rw [h0] at hs
  rw [a1, a2, a3, e, a4, a5, a6, a7, hf, l, hm, hl, ho]
  rcases hg with hg | hg | hg
  · rw [hg]; exact hs
  · rw [hg]
    simp only [Bool.and_eq_true] at hs ⊢
    refine ⟨⟨hs.1.1, ?_⟩, hs.2⟩
    simp
  · simp only [Bool.and_eq_true] at hs ⊢
    refine ⟨⟨hs.1.1, ?_⟩, hs.2⟩
    simp [hg]

theorem beside_same {s t : State} (h : Beside s t) (ho : t.pr.outbox = []) (h1 : s.cio.sched.wf = true)
    (h2 : s.ses.ses.wf = true) : SameMirrored s t := by
  obtain ⟨e, -, hk, hc⟩ := h
  exact ⟨ho, .inr ⟨by rw [e], by rw [e], by rw [e], by rw [e], by rw [e], by rw [e], by rw [e], by rw [e], by rw [e], hk, hc, h1, h2⟩⟩

/-- A command of a settled module that changes its role, its gate or what it sends. -/
theorem run_beside {s t : State} {f : State → State} (e : f s = t) (h : Beside s t) (hs : settled s = true)
    (h1 : s.cio.sched.wf = true) (h2 : s.ses.ses.wf = true) (hm : t.glb.mode = s.glb.mode)
    (hf : t.glb.cfgFault = s.glb.cfgFault) (hl : t.glb.ledEject = s.glb.ledEject) (ho : t.pr.outbox = [])
    (hg : t.glb.gate = s.glb.gate ∨ t.glb.gate = false ∨ s.saf.quiet ≠ some .inOrder) : run s f = .next t :=
  run_settled e (beside_settled h hs hm hf hl ho hg) (beside_same h ho h1 h2) (by rw [h.1]) (by rw [h.1])

end Sys2Proof.Machine
end

