-- ==== Sys2Proof/Laws/StitchInputs.lean ====
section
/-! SUPPORT. The operations of ports, lanes, time bases, references, streams and spools leave the number of the stitch as it is. -/

namespace Sys2Proof.Machine

@[simp] theorem raise_stitch (s : State) (r : Reg) (bits i : Nat) : (raise s r bits i).mix.stitch = s.mix.stitch := by
  obtain ⟨_, _, e, _⟩ := raise_eq s r bits i; rw [e]
theorem State.setMix_stitch (s : State) (f) : (s.setMix f).mix.stitch = (f s.mix).stitch := rfl
theorem State.setFab_stitch (s : State) (f) : (s.setFab f).mix.stitch = s.mix.stitch := rfl
theorem State.setDyn_stitch (s : State) (f) : (s.setDyn f).mix.stitch = s.mix.stitch := rfl
theorem State.setRb_stitch (s : State) (f) : (s.setRb f).mix.stitch = s.mix.stitch := rfl
theorem State.setLn_stitch (s : State) (f) : (s.setLn f).mix.stitch = s.mix.stitch := rfl
theorem State.setSw_stitch (s : State) (f) : (s.setSw f).mix.stitch = s.mix.stitch := rfl
theorem State.setTb_stitch (s : State) (f) : (s.setTb f).mix.stitch = s.mix.stitch := rfl
theorem State.setEvt_stitch (s : State) (f) : (s.setEvt f).mix.stitch = s.mix.stitch := rfl
theorem State.setStr_stitch (s : State) (f) : (s.setStr f).mix.stitch = s.mix.stitch := rfl
theorem State.setRef_stitch (s : State) (f) : (s.setRef f).mix.stitch = s.mix.stitch := rfl
theorem State.setSyn_stitch (s : State) (f) : (s.setSyn f).mix.stitch = s.mix.stitch := rfl
theorem State.setCio_stitch (s : State) (f) : (s.setCio f).mix.stitch = s.mix.stitch := rfl
theorem State.setSpl_stitch (s : State) (f) : (s.setSpl f).mix.stitch = s.mix.stitch := rfl
theorem State.setSaf_stitch (s : State) (f) : (s.setSaf f).mix.stitch = s.mix.stitch := rfl
theorem State.setGlb_stitch (s : State) (f) : (s.setGlb f).mix.stitch = s.mix.stitch := rfl
theorem State.setPl_stitch (s : State) (f) : (s.setPl f).mix.stitch = s.mix.stitch := rfl
theorem State.setSes_stitch (s : State) (f) : (s.setSes f).mix.stitch = s.mix.stitch := rfl
theorem State.setPr_stitch (s : State) (f) : (s.setPr f).mix.stitch = s.mix.stitch := rfl
theorem State.setWit_stitch (s : State) (f) : (s.setWit f).mix.stitch = s.mix.stitch := rfl

@[simp] theorem landReg_stitch (s : State) (x1) (x2) (x3) : (landReg s x1 x2 x3).mix.stitch = s.mix.stitch := by
  unfold landReg; split <;> rfl

theorem forEach_stitch {α : Type} {f : α → State → State} (h : ∀ x s, (f x s).mix.stitch = s.mix.stitch) (xs : List α) (s : State) :
    (forEach xs s f).mix.stitch = s.mix.stitch := by
  induction xs generalizing s with
  | nil => rfl
  | cons x xs ih => show (forEach xs (f x s) f).mix.stitch = _; rw [ih, h]

theorem foldl_stitch {α : Type} {f : State → α → State} (h : ∀ s x, (f s x).mix.stitch = s.mix.stitch) (xs : List α) (s : State) :
    (xs.foldl f s).mix.stitch = s.mix.stitch := by
  induction xs generalizing s with
  | nil => rfl
  | cons x xs ih => show (xs.foldl f (f s x)).mix.stitch = _; rw [ih, h]

theorem ite_stitch {c : Prop} [Decidable c] (a b : State) : (if c then a else b).mix.stitch = if c then a.mix.stitch else b.mix.stitch := by
  split <;> rfl

@[simp] theorem pushEdges_stitch (s : State) (r n u) : (pushEdges s r n u).mix.stitch = s.mix.stitch := by unfold pushEdges; split <;> rfl

@[simp] theorem noteImage_stitch (s : State) (x1) (x2) : (noteImage s x1 x2).mix.stitch = s.mix.stitch := rfl

@[simp] theorem setFd_stitch (s : State) (x1) (x2) (x3) (x4) : (setFd s x1 x2 x3 x4).mix.stitch = s.mix.stitch := rfl

@[simp] theorem hitSource_stitch (s : State) (x1) : (hitSource s x1).mix.stitch = s.mix.stitch := by
  unfold hitSource; (repeat' split) <;> simp

@[simp] theorem hitAttached_stitch (s : State) (x1) (x2) (x3) : (hitAttached s x1 x2 x3).mix.stitch = s.mix.stitch := by
  simp [hitAttached, ite_stitch]

@[simp] theorem raiseIf_stitch (x0) (s : State) (x2) (x3) (x4) : (raiseIf x0 s x2 x3 x4).mix.stitch = s.mix.stitch := by
  unfold raiseIf; (repeat' split) <;> simp

@[simp] theorem wrLater_stitch (s : State) (x1) (x2) (x3) (x4) : (wrLater s x1 x2 x3 x4).mix.stitch = s.mix.stitch := rfl

@[simp] theorem landWaits_stitch (s : State) : (landWaits s).mix.stitch = s.mix.stitch := rfl

@[simp] theorem draw_stitch (s : State) : (draw s).2.mix.stitch = s.mix.stitch := rfl

@[simp] theorem emit_stitch (s : State) (x1) : (emit s x1).mix.stitch = s.mix.stitch := rfl

@[simp] theorem reportFault_stitch (s : State) (x1) (x2) (x3) (x4) : (reportFault s x1 x2 x3 x4).mix.stitch = s.mix.stitch := rfl

@[simp] theorem setPort_stitch (s : State) (x1) (x2) : (setPort s x1 x2).mix.stitch = s.mix.stitch := rfl

@[simp] theorem modCnt_stitch (s : State) (x1) (x2) : (modCnt s x1 x2).mix.stitch = s.mix.stitch := rfl

@[simp] theorem setQueue_stitch (s : State) (x1) (x2) (x3) : (setQueue s x1 x2 x3).mix.stitch = s.mix.stitch := rfl

@[simp] theorem flushPort_stitch (s : State) (x1) : (flushPort s x1).mix.stitch = s.mix.stitch := rfl

@[simp] theorem portState_stitch (s : State) (x1) (x2) : (portState s x1 x2).mix.stitch = s.mix.stitch := by
  unfold portState; (repeat' split) <;> simp

@[simp] theorem portEnable_stitch (s : State) (x1) (x2) : (portEnable s x1 x2).mix.stitch = s.mix.stitch := by
  unfold portEnable; (repeat' split) <;> simp

@[simp] theorem linkUp_stitch (s : State) (x1) (x2) (x3) : (linkUp s x1 x2 x3).mix.stitch = s.mix.stitch := by
  unfold linkUp; (repeat' split) <;> simp

@[simp] theorem negotiationFault_stitch (s : State) (x1) (x2) : (negotiationFault s x1 x2).mix.stitch = s.mix.stitch := by
  unfold negotiationFault; (repeat' split) <;> simp

@[simp] theorem linkDown_stitch (s : State) (x1) : (linkDown s x1).mix.stitch = s.mix.stitch := by
  unfold linkDown; (repeat' split) <;> simp

@[simp] theorem putMac_stitch (s : State) (x1) (x2) : (putMac s x1 x2).mix.stitch = s.mix.stitch := rfl

@[simp] theorem dropMac_stitch (s : State) (x1) : (dropMac s x1).mix.stitch = s.mix.stitch := rfl

@[simp] theorem macLearn_stitch (s : State) (x1) (x2) (x3) : (macLearn s x1 x2 x3).mix.stitch = s.mix.stitch := by
  unfold macLearn; (repeat' split) <;> simp

@[simp] theorem macAdd_stitch (s : State) (x1) (x2) (x3) : (macAdd s x1 x2 x3).mix.stitch = s.mix.stitch := by
  unfold macAdd; (repeat' split) <;> simp

@[simp] theorem macDel_stitch (s : State) (x1) (x2) : (macDel s x1 x2).mix.stitch = s.mix.stitch := by
  unfold macDel; (repeat' split) <;> simp

@[simp] theorem macOwn_stitch (s : State) (x1) (x2) : (macOwn s x1 x2).mix.stitch = s.mix.stitch := by
  unfold macOwn; (repeat' split) <;> simp

@[simp] theorem macDisown_stitch (s : State) (x1) (x2) : (macDisown s x1 x2).mix.stitch = s.mix.stitch := by
  unfold macDisown; (repeat' split) <;> simp

@[simp] theorem macFlush_stitch (s : State) : (macFlush s).mix.stitch = s.mix.stitch := rfl

@[simp] theorem macAge_stitch (s : State) : (macAge s).mix.stitch = s.mix.stitch := rfl

@[simp] theorem enqueueFrame_stitch (s : State) (x1) (x2) : (enqueueFrame s x1 x2).mix.stitch = s.mix.stitch := by
  simp [enqueueFrame, ite_stitch]

@[simp] theorem ingress_stitch (s : State) (x1) (x2) : (ingress s x1 x2).mix.stitch = s.mix.stitch := by
  unfold ingress
  try dsimp only
  repeat' (first
    | (simp [forEach_stitch, ite_stitch]; done)
    | split
    | refine (forEach_stitch (fun x s => ?_) _ _).trans ?_
    | refine (foldl_stitch (fun x s => ?_) _ _).trans ?_)

@[simp] theorem gateTake_stitch (s : State) (x1) (x2) : (gateTake s x1 x2).mix.stitch = s.mix.stitch := by
  unfold gateTake
  try dsimp only
  repeat' (first
    | (simp [ite_stitch]; done)
    | split
    | refine (forEach_stitch (fun x s => ?_) _ _).trans ?_
    | refine (foldl_stitch (fun x s => ?_) _ _).trans ?_)

@[simp] theorem gateTakeover_stitch (s : State) (x1) : (gateTakeover s x1).mix.stitch = s.mix.stitch := by
  unfold gateTakeover; (repeat' split) <;> simp

@[simp] theorem gateEntry_stitch (s : State) (x1) : (gateEntry s x1).mix.stitch = s.mix.stitch := by
  simp [gateEntry, ite_stitch]

@[simp] theorem gateStep_stitch (s : State) (x1) : (gateStep s x1).mix.stitch = s.mix.stitch := by
  unfold gateStep
  try dsimp only
  repeat' (first
    | (simp [ite_stitch]; done)
    | split
    | refine (forEach_stitch (fun x s => ?_) _ _).trans ?_
    | refine (foldl_stitch (fun x s => ?_) _ _).trans ?_)

@[simp] theorem creditTick_stitch (s : State) : (creditTick s).mix.stitch = s.mix.stitch := by
  simp [creditTick, forEach_stitch, ite_stitch]

@[simp] theorem tcCorrect_stitch (s : State) (x1) (x2) : (tcCorrect s x1 x2).1.mix.stitch = s.mix.stitch := by
  unfold tcCorrect; (repeat' split) <;> simp

@[simp] theorem dropUnfit_stitch (s : State) (x1) : (dropUnfit s x1).mix.stitch = s.mix.stitch := by
  unfold dropUnfit; refine forEach_stitch (fun x s => ?_) _ _; (repeat' split) <;> simp

@[simp] theorem countTx_stitch (s : State) (x1) (x2) : (countTx s x1 x2).mix.stitch = s.mix.stitch := rfl

@[simp] theorem startFrame_stitch (s : State) (x1) (x2) : (startFrame s x1 x2).1.mix.stitch = s.mix.stitch := by
  unfold startFrame; (repeat' split) <;> simp

@[simp] theorem engineTake_stitch (s : State) (x1) : (engineTake s x1).mix.stitch = s.mix.stitch := by
  induction x1 generalizing s with
  | zero => first | rfl | (simp [engineTake]; done) | (unfold engineTake; (repeat' split) <;> simp [ih])
  | succ n ih => simp only [engineTake]; (repeat' split) <;> simp [ih]

@[simp] theorem egress_stitch (s : State) (x1) : (egress s x1).1.mix.stitch = s.mix.stitch := by
  unfold egress
  try dsimp only
  repeat' (first
    | (simp; done)
    | split
    | refine (forEach_stitch (fun x s => ?_) _ _).trans ?_
    | refine (foldl_stitch (fun x s => ?_) _ _).trans ?_)

@[simp] theorem addReport_stitch (s : State) (x1) : (addReport s x1).mix.stitch = s.mix.stitch := rfl

@[simp] theorem reportTwice_stitch (s : State) (x1) (x2) (x3) (x4) (x5) : (reportTwice s x1 x2 x3 x4 x5).mix.stitch = s.mix.stitch := rfl

@[simp] theorem sendReports_stitch (s : State) : (sendReports s).mix.stitch = s.mix.stitch := by
  unfold sendReports
  try dsimp only
  repeat' (first
    | (simp [ite_stitch]; done)
    | split
    | refine (forEach_stitch (fun x s => ?_) _ _).trans ?_
    | refine (foldl_stitch (fun x s => ?_) _ _).trans ?_)

@[simp] theorem setGroup_stitch (s : State) (x1) (x2) : (setGroup s x1 x2).mix.stitch = s.mix.stitch := rfl

@[simp] theorem cgState_stitch (s : State) (x1) (x2) : (cgState s x1 x2).mix.stitch = s.mix.stitch := by
  unfold cgState; (repeat' split) <;> simp

@[simp] theorem setSeam_stitch (s : State) (x1) (x2) : (setSeam s x1 x2).mix.stitch = s.mix.stitch := rfl

@[simp] theorem seamState_stitch (s : State) (x1) (x2) : (seamState s x1 x2).mix.stitch = s.mix.stitch := by
  unfold seamState; (repeat' split) <;> simp

@[simp] theorem holdSeams_stitch (s : State) (x1) : (holdSeams s x1).mix.stitch = s.mix.stitch := by
  simp [holdSeams, forEach_stitch]

@[simp] theorem releaseSeams_stitch (s : State) (x1) : (releaseSeams s x1).mix.stitch = s.mix.stitch := by
  simp [releaseSeams, forEach_stitch, ite_stitch]

@[simp] theorem dropAcc_stitch (s : State) (x1) : (dropAcc s x1).mix.stitch = s.mix.stitch := by
  unfold dropAcc
  try dsimp only
  repeat' (first
    | (simp [ite_stitch]; done)
    | split
    | refine (forEach_stitch (fun x s => ?_) _ _).trans ?_
    | refine (foldl_stitch (fun x s => ?_) _ _).trans ?_)

@[simp] theorem lastGood_stitch (s : State) (x1) : (lastGood s x1).mix.stitch = s.mix.stitch := rfl

@[simp] theorem seamTrig_stitch (s : State) (x1) (x2) : (seamTrig s x1 x2).mix.stitch = s.mix.stitch := by
  unfold seamTrig
  try dsimp only
  repeat' (first
    | (simp [ite_stitch]; done)
    | split
    | refine (forEach_stitch (fun x s => ?_) _ _).trans ?_
    | refine (foldl_stitch (fun x s => ?_) _ _).trans ?_)

@[simp] theorem cgStop_stitch (s : State) (x1) : (cgStop s x1).mix.stitch = s.mix.stitch := by
  unfold cgStop
  try dsimp only
  repeat' (first
    | (simp [ite_stitch]; done)
    | split
    | refine (forEach_stitch (fun x s => ?_) _ _).trans ?_
    | refine (foldl_stitch (fun x s => ?_) _ _).trans ?_)

@[simp] theorem cgRun_stitch (s : State) (x1) (x2) : (cgRun s x1 x2).mix.stitch = s.mix.stitch := by
  simp [cgRun]

@[simp] theorem cgAnchor_stitch (s : State) (x1) : (cgAnchor s x1).mix.stitch = s.mix.stitch := by
  simp [cgAnchor, ite_stitch]

@[simp] theorem cgSettled_stitch (s : State) (x1) : (cgSettled s x1).mix.stitch = s.mix.stitch := by
  unfold cgSettled
  try dsimp only
  repeat' (first
    | (simp [ite_stitch]; done)
    | split
    | refine (forEach_stitch (fun x s => ?_) _ _).trans ?_
    | refine (foldl_stitch (fun x s => ?_) _ _).trans ?_)

@[simp] theorem cgReturns_stitch (s : State) : (cgReturns s).mix.stitch = s.mix.stitch := by
  unfold cgReturns
  try dsimp only
  repeat' (first
    | (simp [ite_stitch]; done)
    | split
    | refine (forEach_stitch (fun x s => ?_) _ _).trans ?_
    | refine (foldl_stitch (fun x s => ?_) _ _).trans ?_)

@[simp] theorem cgAnchored_stitch (s : State) : (cgAnchored s).mix.stitch = s.mix.stitch := by
  unfold cgAnchored
  try dsimp only
  repeat' (first
    | (simp [ite_stitch]; done)
    | split
    | refine (forEach_stitch (fun x s => ?_) _ _).trans ?_
    | refine (foldl_stitch (fun x s => ?_) _ _).trans ?_)

@[simp] theorem cgStopping_stitch (s : State) (x1) : (cgStopping s x1).mix.stitch = s.mix.stitch := by
  unfold cgStopping
  try dsimp only
  repeat' (first
    | (simp; done)
    | split
    | refine (forEach_stitch (fun x s => ?_) _ _).trans ?_
    | refine (foldl_stitch (fun x s => ?_) _ _).trans ?_)

@[simp] theorem cgStopDone_stitch (s : State) (x1) : (cgStopDone s x1).mix.stitch = s.mix.stitch := by
  simp [cgStopDone, ite_stitch]

@[simp] theorem cgStart_stitch (s : State) (x1) : (cgStart s x1).mix.stitch = s.mix.stitch := by
  unfold cgStart; (repeat' split) <;> simp

@[simp] theorem addSlots_stitch (s : State) (x1) (x2) : (addSlots s x1 x2).mix.stitch = s.mix.stitch := by
  unfold addSlots
  refine forEach_stitch (fun l s => ?_) _ s
  split
  · refine forEach_stitch (fun k s => ?_) _ s; rfl
  · rfl

@[simp] theorem takeSlots_stitch (s : State) (x1) (x2) : (takeSlots s x1 x2).mix.stitch = s.mix.stitch := by
  unfold takeSlots
  try dsimp only
  repeat' (first
    | (simp [ite_stitch]; done)
    | split
    | refine (forEach_stitch (fun x s => ?_) _ _).trans ?_
    | refine (foldl_stitch (fun x s => ?_) _ _).trans ?_)

@[simp] theorem takeFrame_stitch (s : State) (x1) (x2) : (takeFrame s x1 x2).mix.stitch = s.mix.stitch := by
  simp [takeFrame]

@[simp] theorem repeatFrame_stitch (s : State) (x1) : (repeatFrame s x1).mix.stitch = s.mix.stitch := by
  simp [repeatFrame]

@[simp] theorem cgGlitch_stitch (s : State) (x1) : (cgGlitch s x1).mix.stitch = s.mix.stitch := by
  simp [cgGlitch, ite_stitch]

@[simp] theorem cgRateFault_stitch (s : State) (x1) (x2) : (cgRateFault s x1 x2).mix.stitch = s.mix.stitch := by
  simp [cgRateFault]

@[simp] theorem cgGoodFrame_stitch (s : State) (x1) (x2) : (cgGoodFrame s x1 x2).mix.stitch = s.mix.stitch := by
  simp [cgGoodFrame, ite_stitch]

@[simp] theorem cgMeasureRate_stitch (s : State) (x1) (x2) : (cgMeasureRate s x1 x2).mix.stitch = s.mix.stitch := by
  unfold cgMeasureRate; (repeat' split) <;> simp [ite_stitch]

@[simp] theorem cgStable_stitch (s : State) (x1) (x2) (x3) : (cgStable s x1 x2 x3).mix.stitch = s.mix.stitch := by
  unfold cgStable; (repeat' split) <;> simp [ite_stitch]

@[simp] theorem cgCountStop_stitch (s : State) (x1) : (cgCountStop s x1).mix.stitch = s.mix.stitch := by
  unfold cgCountStop
  try dsimp only
  repeat' (first
    | (simp [ite_stitch]; done)
    | split
    | refine (forEach_stitch (fun x s => ?_) _ _).trans ?_
    | refine (foldl_stitch (fun x s => ?_) _ _).trans ?_)

@[simp] theorem cgCountOnly_stitch (s : State) (x1) (x2) (x3) : (cgCountOnly s x1 x2 x3).mix.stitch = s.mix.stitch := by
  unfold cgCountOnly
  try dsimp only
  repeat' (first
    | (simp [ite_stitch]; done)
    | split
    | refine (forEach_stitch (fun x s => ?_) _ _).trans ?_
    | refine (foldl_stitch (fun x s => ?_) _ _).trans ?_)

@[simp] theorem cgCountFrame_stitch (s : State) (x1) : (cgCountFrame s x1).mix.stitch = s.mix.stitch := by
  unfold cgCountFrame
  try dsimp only
  repeat' (first
    | (simp [ite_stitch]; done)
    | split
    | refine (forEach_stitch (fun x s => ?_) _ _).trans ?_
    | refine (foldl_stitch (fun x s => ?_) _ _).trans ?_)

@[simp] theorem judge_stitch (s : State) (x1) (x2) : (judge s x1 x2).mix.stitch = s.mix.stitch := by
  unfold judge
  try dsimp only
  repeat' (first
    | (simp [ite_stitch]; done)
    | split
    | refine (forEach_stitch (fun x s => ?_) _ _).trans ?_
    | refine (foldl_stitch (fun x s => ?_) _ _).trans ?_)

@[simp] theorem sendFrame_stitch (s : State) (x1) (x2) : (sendFrame s x1 x2).mix.stitch = s.mix.stitch := by
  simp [sendFrame]

@[simp] theorem laneGate_stitch (s : State) : (laneGate s).mix.stitch = s.mix.stitch := by
  unfold laneGate
  try dsimp only
  repeat' (first
    | (simp [ite_stitch]; done)
    | split
    | refine (forEach_stitch (fun x s => ?_) _ _).trans ?_
    | refine (foldl_stitch (fun x s => ?_) _ _).trans ?_)

@[simp] theorem driveFrame_stitch (s : State) (x1) : (driveFrame s x1).mix.stitch = s.mix.stitch := by
  simp [driveFrame, ite_stitch]

@[simp] theorem frameStart_stitch (s : State) (x1) (x2) : (frameStart s x1 x2).mix.stitch = s.mix.stitch := by
  unfold frameStart
  try dsimp only
  repeat' (first
    | (simp [ite_stitch]; done)
    | split
    | refine (forEach_stitch (fun x s => ?_) _ _).trans ?_
    | refine (foldl_stitch (fun x s => ?_) _ _).trans ?_)

@[simp] theorem laneFrameStart_stitch (s : State) (x1) (x2) : (laneFrameStart s x1 x2).mix.stitch = s.mix.stitch := by
  unfold laneFrameStart
  try dsimp only
  repeat' (first
    | (simp [ite_stitch]; done)
    | split
    | refine (forEach_stitch (fun x s => ?_) _ _).trans ?_
    | refine (foldl_stitch (fun x s => ?_) _ _).trans ?_)

@[simp] theorem cgStopEvent_stitch (s : State) (x1) : (cgStopEvent s x1).mix.stitch = s.mix.stitch := by
  simp [cgStopEvent, ite_stitch]

@[simp] theorem cgClrCounts_stitch (s : State) (x1) : (cgClrCounts s x1).mix.stitch = s.mix.stitch := rfl

@[simp] theorem cgSlip_stitch (s : State) (x1) : (cgSlip s x1).mix.stitch = s.mix.stitch := by
  simp [cgSlip]

@[simp] theorem cgPhases_stitch (s : State) (x1) : (cgPhases s x1).mix.stitch = s.mix.stitch := by
  simp [cgPhases, forEach_stitch, ite_stitch]

@[simp] theorem takeTails_stitch (s : State) (x1) : (takeTails s x1).mix.stitch = s.mix.stitch := by
  unfold takeTails
  try dsimp only
  repeat' (first
    | (simp [ite_stitch]; done)
    | split
    | refine (forEach_stitch (fun x s => ?_) _ _).trans ?_
    | refine (foldl_stitch (fun x s => ?_) _ _).trans ?_)

@[simp] theorem laneInputs_stitch (s : State) : (laneInputs s).mix.stitch = s.mix.stitch := rfl

@[simp] theorem laneOutputs_stitch (s : State) : (laneOutputs s).mix.stitch = s.mix.stitch := rfl

@[simp] theorem laneSteps_stitch (s : State) : (laneSteps s).mix.stitch = s.mix.stitch := rfl

@[simp] theorem lateFrames_stitch (s : State) : (lateFrames s).mix.stitch = s.mix.stitch := by
  simp [lateFrames, forEach_stitch, ite_stitch]

@[simp] theorem laneBoundary_stitch (s : State) (x1) (x2) : (laneBoundary s x1 x2).mix.stitch = s.mix.stitch := by
  unfold laneBoundary
  try dsimp only
  repeat' (first
    | (simp [ite_stitch]; done)
    | split
    | refine (forEach_stitch (fun x s => ?_) _ _).trans ?_
    | refine (foldl_stitch (fun x s => ?_) _ _).trans ?_)

@[simp] theorem setTbk_stitch (s : State) (x1) (x2) : (setTbk s x1 x2).mix.stitch = s.mix.stitch := rfl

@[simp] theorem ptpSend_stitch (s : State) (x1) (x2) (x3) (x4) : (ptpSend s x1 x2 x3 x4).mix.stitch = s.mix.stitch := by
  unfold ptpSend
  try dsimp only
  repeat' (first
    | (simp [ite_stitch]; done)
    | split
    | refine (forEach_stitch (fun x s => ?_) _ _).trans ?_
    | refine (foldl_stitch (fun x s => ?_) _ _).trans ?_)

@[simp] theorem tbState_stitch (s : State) (x1) (x2) : (tbState s x1 x2).mix.stitch = s.mix.stitch := by
  unfold tbState; (repeat' split) <;> simp

@[simp] theorem tbMaster_stitch (s : State) (x1) (x2) : (tbMaster s x1 x2).mix.stitch = s.mix.stitch := by
  simp [tbMaster, ite_stitch]

@[simp] theorem stopSlew_stitch (s : State) (x1) : (stopSlew s x1).mix.stitch = s.mix.stitch := rfl

@[simp] theorem slew_stitch (s : State) (x1) (x2) : (slew s x1 x2).mix.stitch = s.mix.stitch := rfl

@[simp] theorem applyStep_stitch (s : State) (x1) : (applyStep s x1).mix.stitch = s.mix.stitch := by
  unfold applyStep
  try dsimp only
  repeat' (first
    | (simp [ite_stitch]; done)
    | split
    | refine (forEach_stitch (fun x s => ?_) _ _).trans ?_
    | refine (foldl_stitch (fun x s => ?_) _ _).trans ?_)

@[simp] theorem commitStep_stitch (s : State) (x1) : (commitStep s x1).mix.stitch = s.mix.stitch := by
  simp [commitStep, ite_stitch]

@[simp] theorem jumpHold_stitch (s : State) (x1) (x2) : (jumpHold s x1 x2).mix.stitch = s.mix.stitch := by
  simp [jumpHold]

@[simp] theorem refuseOffset_stitch (s : State) (x1) (x2) : (refuseOffset s x1 x2).mix.stitch = s.mix.stitch := by
  simp [refuseOffset, ite_stitch]

@[simp] theorem measure_stitch (s : State) (x1) (x2) : (measure s x1 x2).mix.stitch = s.mix.stitch := by
  unfold measure
  try dsimp only
  repeat' (first
    | (simp [ite_stitch]; done)
    | split
    | refine (forEach_stitch (fun x s => ?_) _ _).trans ?_
    | refine (foldl_stitch (fun x s => ?_) _ _).trans ?_)

@[simp] theorem ownMaster_stitch (s : State) (x1) : (ownMaster s x1).mix.stitch = s.mix.stitch := by
  unfold ownMaster
  try dsimp only
  repeat' (first
    | (simp [ite_stitch]; done)
    | split
    | refine (forEach_stitch (fun x s => ?_) _ _).trans ?_
    | refine (foldl_stitch (fun x s => ?_) _ _).trans ?_)

@[simp] theorem becomeMaster_stitch (s : State) (x1) : (becomeMaster s x1).mix.stitch = s.mix.stitch := by
  unfold becomeMaster
  try dsimp only
  repeat' (first
    | (simp [ite_stitch]; done)
    | split
    | refine (forEach_stitch (fun x s => ?_) _ _).trans ?_
    | refine (foldl_stitch (fun x s => ?_) _ _).trans ?_)

@[simp] theorem announce_stitch (s : State) (x1) (x2) : (announce s x1 x2).mix.stitch = s.mix.stitch := by
  unfold announce
  try dsimp only
  repeat' (first
    | (simp [ite_stitch]; done)
    | split
    | refine (forEach_stitch (fun x s => ?_) _ _).trans ?_
    | refine (foldl_stitch (fun x s => ?_) _ _).trans ?_)

@[simp] theorem syncMeasured_stitch (s : State) (x1) (x2) (x3) : (syncMeasured s x1 x2 x3).mix.stitch = s.mix.stitch := by
  simp [syncMeasured]

@[simp] theorem setMpd_stitch (s : State) (x1) (x2) : (setMpd s x1 x2).mix.stitch = s.mix.stitch := rfl

@[simp] theorem relay_stitch (s : State) (x1) (x2) (x3) (x4) : (relay s x1 x2 x3 x4).mix.stitch = s.mix.stitch := by
  unfold relay
  try dsimp only
  repeat' (first
    | (simp [ite_stitch]; done)
    | split
    | refine (forEach_stitch (fun x s => ?_) _ _).trans ?_
    | refine (foldl_stitch (fun x s => ?_) _ _).trans ?_)

@[simp] theorem answered_stitch (s : State) (x1) (x2) (x3) (x4 : Int → State) (h : ∀ x, (x4 x).mix.stitch = s.mix.stitch) : (answered s x1 x2 x3 x4).mix.stitch = s.mix.stitch := by
  unfold answered; (repeat' split) <;> simp [h]

@[simp] theorem ptpReceive_stitch (s : State) (x1) (x2) (x3) : (ptpReceive s x1 x2 x3).mix.stitch = s.mix.stitch := by
  unfold ptpReceive
  try dsimp only
  repeat' (first
    | (simp [ite_stitch]; done)
    | split
    | refine answered_stitch _ _ _ _ _ (fun t => ?_))

@[simp] theorem announceTimeout_stitch (s : State) (x1) : (announceTimeout s x1).mix.stitch = s.mix.stitch := by
  unfold announceTimeout
  try dsimp only
  repeat' (first
    | (simp [ite_stitch]; done)
    | split
    | refine (forEach_stitch (fun x s => ?_) _ _).trans ?_
    | refine (foldl_stitch (fun x s => ?_) _ _).trans ?_)

@[simp] theorem annSend_stitch (s : State) (x1) : (annSend s x1).mix.stitch = s.mix.stitch := by
  unfold annSend
  try dsimp only
  repeat' (first
    | (simp [ite_stitch]; done)
    | split
    | refine (forEach_stitch (fun x s => ?_) _ _).trans ?_
    | refine (foldl_stitch (fun x s => ?_) _ _).trans ?_)

@[simp] theorem syncSend_stitch (s : State) (x1) : (syncSend s x1).mix.stitch = s.mix.stitch := by
  unfold syncSend
  try dsimp only
  repeat' (first
    | (simp [ite_stitch]; done)
    | split
    | refine (forEach_stitch (fun x s => ?_) _ _).trans ?_
    | refine (foldl_stitch (fun x s => ?_) _ _).trans ?_)

@[simp] theorem delaySend_stitch (s : State) (x1) : (delaySend s x1).mix.stitch = s.mix.stitch := by
  unfold delaySend
  try dsimp only
  repeat' (first
    | (simp [ite_stitch]; done)
    | split
    | refine (forEach_stitch (fun x s => ?_) _ _).trans ?_
    | refine (foldl_stitch (fun x s => ?_) _ _).trans ?_)

@[simp] theorem masterSend_stitch (s : State) (x1) : (masterSend s x1).mix.stitch = s.mix.stitch := by
  simp [masterSend, ite_stitch]

@[simp] theorem persistExpire_stitch (s : State) (x1) : (persistExpire s x1).mix.stitch = s.mix.stitch := by
  unfold persistExpire
  try dsimp only
  repeat' (first
    | (simp [ite_stitch]; done)
    | split
    | refine (forEach_stitch (fun x s => ?_) _ _).trans ?_
    | refine (foldl_stitch (fun x s => ?_) _ _).trans ?_)

@[simp] theorem tbEnable_stitch (s : State) (x1) (x2) : (tbEnable s x1 x2).mix.stitch = s.mix.stitch := by
  simp [tbEnable, ite_stitch]

@[simp] theorem snapTb_stitch (s : State) (x1) : (snapTb s x1).mix.stitch = s.mix.stitch := rfl

@[simp] theorem tbClrCounts_stitch (s : State) (x1) : (tbClrCounts s x1).mix.stitch = s.mix.stitch := rfl

@[simp] theorem tickAll_stitch (s : State) : (tickAll s).mix.stitch = s.mix.stitch := rfl

@[simp] theorem stepPhase_stitch (s : State) (x1) : (stepPhase s x1).mix.stitch = s.mix.stitch := by
  unfold stepPhase
  try dsimp only
  repeat' (first
    | (simp [ite_stitch]; done)
    | split
    | refine (forEach_stitch (fun x s => ?_) _ _).trans ?_
    | refine (foldl_stitch (fun x s => ?_) _ _).trans ?_)

@[simp] theorem tbMirror_stitch (s : State) (x1) (x2) : (tbMirror s x1 x2).mix.stitch = s.mix.stitch := by
  simp [tbMirror, ite_stitch]

@[simp] theorem pdelaySend_stitch (s : State) (x1) : (pdelaySend s x1).mix.stitch = s.mix.stitch := by
  unfold pdelaySend; (repeat' split) <;> simp

@[simp] theorem pdelayReceive_stitch (s : State) (x1) (x2) (x3) : (pdelayReceive s x1 x2 x3).mix.stitch = s.mix.stitch := by
  unfold pdelayReceive
  try dsimp only
  repeat' (first
    | (simp [ite_stitch]; done)
    | split
    | refine (forEach_stitch (fun x s => ?_) _ _).trans ?_
    | refine (foldl_stitch (fun x s => ?_) _ _).trans ?_)

@[simp] theorem setSlot_stitch (s : State) (x1) (x2) : (setSlot s x1 x2).mix.stitch = s.mix.stitch := rfl

@[simp] theorem setMc_stitch (s : State) (x1) (x2) : (setMc s x1 x2).mix.stitch = s.mix.stitch := rfl

@[simp] theorem wrWindow_stitch (s : State) (x1) (x2) (x3) (x4) : (wrWindow s x1 x2 x3 x4).mix.stitch = s.mix.stitch := rfl

@[simp] theorem landWindow_stitch (s : State) : (landWindow s).mix.stitch = s.mix.stitch := rfl

@[simp] theorem slotState_stitch (s : State) (x1) (x2) : (slotState s x1 x2).mix.stitch = s.mix.stitch := by
  simp [slotState, ite_stitch]

@[simp] theorem slotUp_stitch (s : State) (x1) : (slotUp s x1).mix.stitch = s.mix.stitch := by
  unfold slotUp; (repeat' split) <;> simp

@[simp] theorem slotDown_stitch (s : State) (x1) : (slotDown s x1).mix.stitch = s.mix.stitch := by
  unfold slotDown; (repeat' split) <;> simp

@[simp] theorem slotJump_stitch (s : State) (x1) : (slotJump s x1).mix.stitch = s.mix.stitch := by
  unfold slotJump; (repeat' split) <;> simp

@[simp] theorem judgeSource_stitch (s : State) (x1) : (judgeSource s x1).mix.stitch = s.mix.stitch := by
  simp [judgeSource, ite_stitch]

@[simp] theorem windowEnd_stitch (s : State) (x1) (x2) : (windowEnd s x1 x2).mix.stitch = s.mix.stitch := by
  unfold windowEnd
  try dsimp only
  repeat' (first
    | (simp [ite_stitch]; done)
    | split
    | refine (forEach_stitch (fun x s => ?_) _ _).trans ?_
    | refine (foldl_stitch (fun x s => ?_) _ _).trans ?_)

@[simp] theorem tcxoWatch_stitch (s : State) : (tcxoWatch s).mix.stitch = s.mix.stitch := rfl

@[simp] theorem tcxoClear_stitch (s : State) : (tcxoClear s).mix.stitch = s.mix.stitch := by
  unfold tcxoClear; (repeat' split) <;> simp [ite_stitch]

@[simp] theorem mcState_stitch (s : State) (x1) (x2) : (mcState s x1 x2).mix.stitch = s.mix.stitch := by
  simp [mcState, ite_stitch]

@[simp] theorem startSwitch_stitch (s : State) (x1) (x2) : (startSwitch s x1 x2).mix.stitch = s.mix.stitch := by
  simp [startSwitch]

@[simp] theorem mcRunOn_stitch (s : State) (x1) : (mcRunOn s x1).mix.stitch = s.mix.stitch := by
  unfold mcRunOn
  try dsimp only
  repeat' (first
    | (simp [ite_stitch]; done)
    | split
    | refine (forEach_stitch (fun x s => ?_) _ _).trans ?_
    | refine (foldl_stitch (fun x s => ?_) _ _).trans ?_)

@[simp] theorem swRun_stitch (s : State) (x1) : (swRun s x1).mix.stitch = s.mix.stitch := by
  unfold swRun
  try dsimp only
  repeat' (first
    | (simp [ite_stitch]; done)
    | split
    | refine (forEach_stitch (fun x s => ?_) _ _).trans ?_
    | refine (foldl_stitch (fun x s => ?_) _ _).trans ?_)

@[simp] theorem enterHoldover_stitch (s : State) (x1) : (enterHoldover s x1).mix.stitch = s.mix.stitch := by
  simp [enterHoldover]

@[simp] theorem enterLost_stitch (s : State) (x1) : (enterLost s x1).mix.stitch = s.mix.stitch := by
  simp [enterLost]

@[simp] theorem fallBack_stitch (s : State) (x1) : (fallBack s x1).mix.stitch = s.mix.stitch := by
  unfold fallBack; (repeat' split) <;> simp

theorem mcRow_stitch {s t : State} {m : Nat} (h : mcRow s m = some t) : t.mix.stitch = s.mix.stitch := by
  unfold mcRow at h; dsimp only at h
  repeat' split at h
  all_goals first | cases h; done | (injection h with h; subst h; simp)

@[simp] theorem mcEval_stitch (s : State) (x1) : (mcEval s x1).mix.stitch = s.mix.stitch := by
  unfold mcEval; split
  · rfl
  · cases h : mcRow s x1 with
    | none => rfl
    | some t => exact mcRow_stitch h

@[simp] theorem mcEvalAll_stitch (s : State) : (mcEvalAll s).mix.stitch = s.mix.stitch := by
  simp [mcEvalAll, forEach_stitch]

@[simp] theorem realignOn_stitch (s : State) (x1) : (realignOn s x1).mix.stitch = s.mix.stitch := by
  unfold realignOn
  try dsimp only
  repeat' (first
    | (simp [ite_stitch]; done)
    | split
    | refine (forEach_stitch (fun x s => ?_) _ _).trans ?_
    | refine (foldl_stitch (fun x s => ?_) _ _).trans ?_)

@[simp] theorem mcLock_stitch (s : State) (x1) : (mcLock s x1).mix.stitch = s.mix.stitch := by
  unfold mcLock
  try dsimp only
  repeat' (first
    | (simp [forEach_stitch, ite_stitch]; done)
    | split
    | refine (forEach_stitch (fun x s => ?_) _ _).trans ?_
    | refine (foldl_stitch (fun x s => ?_) _ _).trans ?_)

@[simp] theorem swOff_stitch (s : State) (x1) : (swOff s x1).mix.stitch = s.mix.stitch := by
  unfold swOff
  repeat' (first
    | (simp; done)
    | (rename_i h; exact mcRow_stitch h)
    | split)

@[simp] theorem refEdge_stitch (s : State) (x1) (x2) : (refEdge s x1 x2).mix.stitch = s.mix.stitch := by
  simp [refEdge, ite_stitch]

@[simp] theorem refSignalLoss_stitch (s : State) (x1) : (refSignalLoss s x1).mix.stitch = s.mix.stitch := by
  simp [refSignalLoss]

@[simp] theorem qualWindowEnd_stitch (s : State) (x1) (x2) : (qualWindowEnd s x1 x2).mix.stitch = s.mix.stitch := by
  simp [qualWindowEnd]

@[simp] theorem qtimeExpire_stitch (s : State) (x1) : (qtimeExpire s x1).mix.stitch = s.mix.stitch := by
  unfold qtimeExpire; (repeat' split) <;> simp

@[simp] theorem wtrExpire_stitch (s : State) (x1) : (wtrExpire s x1).mix.stitch = s.mix.stitch := by
  unfold wtrExpire; (repeat' split) <;> simp

@[simp] theorem holdoverLimit_stitch (s : State) (x1) : (holdoverLimit s x1).mix.stitch = s.mix.stitch := by
  simp [holdoverLimit, ite_stitch]

@[simp] theorem relearn_stitch (s : State) (x1) : (relearn s x1).mix.stitch = s.mix.stitch := rfl

@[simp] theorem swStep_stitch (s : State) (x1) : (swStep s x1).mix.stitch = s.mix.stitch := by
  unfold swStep
  try dsimp only
  repeat' (first
    | (simp [ite_stitch]; done)
    | split
    | refine (forEach_stitch (fun x s => ?_) _ _).trans ?_
    | refine (foldl_stitch (fun x s => ?_) _ _).trans ?_)

@[simp] theorem phaseStepDone_stitch (s : State) (x1) : (phaseStepDone s x1).mix.stitch = s.mix.stitch := by
  unfold phaseStepDone; (repeat' split) <;> simp

@[simp] theorem mcRelocked_stitch (s : State) (x1) : (mcRelocked s x1).mix.stitch = s.mix.stitch := by
  unfold mcRelocked
  try dsimp only
  repeat' (first
    | (simp [ite_stitch]; done)
    | split
    | refine (forEach_stitch (fun x s => ?_) _ _).trans ?_
    | refine (foldl_stitch (fun x s => ?_) _ _).trans ?_)

@[simp] theorem learn_stitch (s : State) (x1) : (learn s x1).mix.stitch = s.mix.stitch := by
  simp [learn, ite_stitch]

@[simp] theorem holdTick_stitch (s : State) (x1) : (holdTick s x1).mix.stitch = s.mix.stitch := by
  simp [holdTick, ite_stitch]

@[simp] theorem mcPhase_stitch (s : State) (x1) (x2) : (mcPhase s x1 x2).mix.stitch = s.mix.stitch := by
  simp [mcPhase, forEach_stitch, ite_stitch]

@[simp] theorem mcLoop_stitch (s : State) (x1) (x2) : (mcLoop s x1 x2).mix.stitch = s.mix.stitch := by
  unfold mcLoop
  try dsimp only
  repeat' (first
    | (simp [ite_stitch]; done)
    | split
    | refine (forEach_stitch (fun x s => ?_) _ _).trans ?_
    | refine (foldl_stitch (fun x s => ?_) _ _).trans ?_)

@[simp] theorem gridWatch_stitch (s : State) : (gridWatch s).mix.stitch = s.mix.stitch := by
  simp [gridWatch, ite_stitch]

@[simp] theorem mcBlock_stitch (s : State) : (mcBlock s).mix.stitch = s.mix.stitch := by
  unfold mcBlock
  try dsimp only
  repeat' (first
    | (simp [ite_stitch]; done)
    | split
    | refine (forEach_stitch (fun x s => ?_) _ _).trans ?_
    | refine (foldl_stitch (fun x s => ?_) _ _).trans ?_)

@[simp] theorem mcsPass_stitch (s : State) : (mcsPass s).mix.stitch = s.mix.stitch := by
  unfold mcsPass
  try dsimp only
  repeat' (first
    | (simp [ite_stitch]; done)
    | split
    | refine (forEach_stitch (fun x s => ?_) _ _).trans ?_
    | refine (foldl_stitch (fun x s => ?_) _ _).trans ?_)

@[simp] theorem refBoundary_stitch (s : State) (x1) (x2) : (refBoundary s x1 x2).mix.stitch = s.mix.stitch := by
  unfold refBoundary
  try dsimp only
  repeat' (first
    | (simp [forEach_stitch, ite_stitch]; done)
    | split
    | refine (forEach_stitch (fun x s => ?_) _ _).trans ?_)

@[simp] theorem refAudioStart_stitch (s : State) (x1) : (refAudioStart s x1).mix.stitch = s.mix.stitch := by
  unfold refAudioStart
  try dsimp only
  repeat' (first
    | (simp; done)
    | split
    | refine (forEach_stitch (fun x s => ?_) _ _).trans ?_)

@[simp] theorem setRx_stitch (s : State) (x1) (x2) : (setRx s x1 x2).mix.stitch = s.mix.stitch := rfl

@[simp] theorem setTx_stitch (s : State) (x1) (x2) : (setTx s x1 x2).mix.stitch = s.mix.stitch := rfl

@[simp] theorem acrAnchor_stitch (s : State) (x1) (x2) : (acrAnchor s x1 x2).mix.stitch = s.mix.stitch := by
  simp [acrAnchor, ite_stitch]

@[simp] theorem acrFollow_stitch (s : State) (x1) (x2) (x3) : (acrFollow s x1 x2 x3).mix.stitch = s.mix.stitch := by
  unfold acrFollow
  try dsimp only
  repeat' (first
    | (simp [ite_stitch]; done)
    | split
    | refine (forEach_stitch (fun x s => ?_) _ _).trans ?_
    | refine (foldl_stitch (fun x s => ?_) _ _).trans ?_)

@[simp] theorem legAccept_stitch (s : State) (x1) (x2) (x3) (x4) : (legAccept s x1 x2 x3 x4).mix.stitch = s.mix.stitch := by
  simp [legAccept, ite_stitch]

@[simp] theorem countLate_stitch (s : State) (x1) : (countLate s x1).mix.stitch = s.mix.stitch := by
  unfold countLate
  try dsimp only
  repeat' (first
    | (simp [ite_stitch]; done)
    | split
    | refine (forEach_stitch (fun x s => ?_) _ _).trans ?_
    | refine (foldl_stitch (fun x s => ?_) _ _).trans ?_)

@[simp] theorem acceptPacket_stitch (s : State) (x1) (x2) (x3) : (acceptPacket s x1 x2 x3).mix.stitch = s.mix.stitch := by
  simp [acceptPacket, ite_stitch]

@[simp] theorem packetReceive_stitch (s : State) (x1) : (packetReceive s x1).mix.stitch = s.mix.stitch := by
  unfold packetReceive; (repeat' split) <;> simp

@[simp] theorem refill_stitch (s : State) (x1) (x2) (x3) : (refill s x1 x2 x3).mix.stitch = s.mix.stitch := by
  simp [refill, ite_stitch]

@[simp] theorem rxState_stitch (s : State) (x1) (x2) : (rxState s x1 x2).mix.stitch = s.mix.stitch := by
  unfold rxState; (repeat' split) <;> simp

@[simp] theorem rxTimeout_stitch (s : State) (x1) : (rxTimeout s x1).mix.stitch = s.mix.stitch := by
  unfold rxTimeout
  try dsimp only
  repeat' (first
    | (simp [ite_stitch]; done)
    | split
    | refine (forEach_stitch (fun x s => ?_) _ _).trans ?_
    | refine (foldl_stitch (fun x s => ?_) _ _).trans ?_)

@[simp] theorem legTimeout_stitch (s : State) (x1) (x2) : (legTimeout s x1 x2).mix.stitch = s.mix.stitch := by
  unfold legTimeout
  try dsimp only
  repeat' (first
    | (simp [ite_stitch]; done)
    | split
    | refine (forEach_stitch (fun x s => ?_) _ _).trans ?_
    | refine (foldl_stitch (fun x s => ?_) _ _).trans ?_)

@[simp] theorem underrun_stitch (s : State) (x1) : (underrun s x1).mix.stitch = s.mix.stitch := by
  unfold underrun
  try dsimp only
  repeat' (first
    | (simp; done)
    | split
    | refine (forEach_stitch (fun x s => ?_) _ _).trans ?_
    | refine (foldl_stitch (fun x s => ?_) _ _).trans ?_)

@[simp] theorem handOver_stitch (s : State) (x1) (x2) (x3) (x4) : (handOver s x1 x2 x3 x4).mix.stitch = s.mix.stitch := by
  unfold handOver
  try dsimp only
  repeat' (first
    | (simp [ite_stitch]; done)
    | split
    | refine (forEach_stitch (fun x s => ?_) _ _).trans ?_
    | refine (foldl_stitch (fun x s => ?_) _ _).trans ?_)

@[simp] theorem rxDecided_stitch (s : State) (x1) (x2) : (rxDecided s x1 x2).mix.stitch = s.mix.stitch := by
  unfold rxDecided
  try dsimp only
  repeat' (first
    | (simp [ite_stitch]; done)
    | split
    | refine (forEach_stitch (fun x s => ?_) _ _).trans ?_
    | refine (foldl_stitch (fun x s => ?_) _ _).trans ?_)

@[simp] theorem handOverTo_stitch (s : State) (x1) (x2) (x3) (x4) : (handOverTo s x1 x2 x3 x4).mix.stitch = s.mix.stitch := by
  induction x4 generalizing s with
  | zero => rfl
  | succ n ih => simp only [handOverTo]; (repeat' split) <;> simp [ih]

@[simp] theorem acrDue_stitch (s : State) (x1) : (acrDue s x1).2.mix.stitch = s.mix.stitch := by
  unfold acrDue
  try dsimp only
  repeat' (first
    | (simp [ite_stitch]; done)
    | split
    | refine (forEach_stitch (fun x s => ?_) _ _).trans ?_
    | refine (foldl_stitch (fun x s => ?_) _ _).trans ?_)

@[simp] theorem rxForeignBlocks_stitch (s : State) (x1) (x2) (x3) (x4) (x5) : (rxForeignBlocks s x1 x2 x3 x4 x5).mix.stitch = s.mix.stitch := by
  unfold rxForeignBlocks
  try dsimp only
  repeat' (first
    | (simp [ite_stitch]; done)
    | split
    | refine (forEach_stitch (fun x s => ?_) _ _).trans ?_
    | refine (foldl_stitch (fun x s => ?_) _ _).trans ?_)

@[simp] theorem rxBlock_stitch (s : State) (x1) : (rxBlock s x1).mix.stitch = s.mix.stitch := by
  unfold rxBlock
  try dsimp only
  repeat' (first
    | (simp [ite_stitch]; done)
    | split
    | refine (forEach_stitch (fun x s => ?_) _ _).trans ?_
    | refine (foldl_stitch (fun x s => ?_) _ _).trans ?_)

@[simp] theorem rxSilent_stitch (s : State) (x1) : (rxSilent s x1).mix.stitch = s.mix.stitch := by
  simp [rxSilent, ite_stitch]

@[simp] theorem rxBoundary_stitch (s : State) : (rxBoundary s).mix.stitch = s.mix.stitch := by
  simp [rxBoundary, forEach_stitch, ite_stitch]

@[simp] theorem legOwn_stitch (s : State) (x1) (x2) (x3) (x4) (x5) : (legOwn s x1 x2 x3 x4 x5).mix.stitch = s.mix.stitch := by
  unfold legOwn
  try dsimp only
  repeat' (first
    | (simp [ite_stitch]; done)
    | split
    | refine (forEach_stitch (fun x s => ?_) _ _).trans ?_
    | refine (foldl_stitch (fun x s => ?_) _ _).trans ?_)

@[simp] theorem rxGroups_stitch (s : State) (x1) (x2) : (rxGroups s x1 x2).mix.stitch = s.mix.stitch := by
  unfold rxGroups
  try dsimp only
  repeat' (first
    | (simp [ite_stitch]; done)
    | split
    | refine (forEach_stitch (fun x s => ?_) _ _).trans ?_
    | refine (foldl_stitch (fun x s => ?_) _ _).trans ?_)

@[simp] theorem rxOn_stitch (s : State) (x1) (x2) (x3) : (rxOn s x1 x2 x3).mix.stitch = s.mix.stitch := by
  simp [rxOn, ite_stitch]

@[simp] theorem rxOff_stitch (s : State) (x1) : (rxOff s x1).mix.stitch = s.mix.stitch := by
  simp [rxOff, ite_stitch]

@[simp] theorem txBlock_stitch (s : State) (x1) : (txBlock s x1).mix.stitch = s.mix.stitch := by
  simp [txBlock]

@[simp] theorem asTail_stitch (s : State) (x1) (x2) : (asTail s x1 x2).mix.stitch = s.mix.stitch := by
  unfold asTail
  try dsimp only
  repeat' (first
    | (simp [ite_stitch]; done)
    | split
    | refine (forEach_stitch (fun x s => ?_) _ _).trans ?_
    | refine (foldl_stitch (fun x s => ?_) _ _).trans ?_)

@[simp] theorem putTail_stitch (s : State) (x1) (x2) (x3) (x4) : (putTail s x1 x2 x3 x4).mix.stitch = s.mix.stitch := by
  unfold putTail
  try dsimp only
  repeat' (first
    | (simp [ite_stitch]; done)
    | split
    | refine (forEach_stitch (fun x s => ?_) _ _).trans ?_
    | refine (foldl_stitch (fun x s => ?_) _ _).trans ?_)

@[simp] theorem txBoundary_stitch (s : State) : (txBoundary s).mix.stitch = s.mix.stitch := by
  simp [txBoundary, forEach_stitch, ite_stitch]

@[simp] theorem txRole_stitch (s : State) (x1) : (txRole s x1).mix.stitch = s.mix.stitch := by
  unfold txRole
  try dsimp only
  repeat' (first
    | (simp [ite_stitch]; done)
    | split
    | refine (forEach_stitch (fun x s => ?_) _ _).trans ?_
    | refine (foldl_stitch (fun x s => ?_) _ _).trans ?_)

@[simp] theorem txQueue_stitch (s : State) (x1) (x2) : (txQueue s x1 x2).mix.stitch = s.mix.stitch := by
  unfold txQueue
  try dsimp only
  repeat' (first
    | (simp [ite_stitch]; done)
    | split
    | refine (forEach_stitch (fun x s => ?_) _ _).trans ?_
    | refine (foldl_stitch (fun x s => ?_) _ _).trans ?_)

@[simp] theorem txSend_stitch (s : State) (x1) (x2) (x3) (x4) : (txSend s x1 x2 x3 x4).mix.stitch = s.mix.stitch := by
  unfold txSend
  try dsimp only
  repeat' (first
    | (simp [ite_stitch]; done)
    | split
    | refine (forEach_stitch (fun x s => ?_) _ _).trans ?_
    | refine (foldl_stitch (fun x s => ?_) _ _).trans ?_)

@[simp] theorem txPacketStart_stitch (s : State) (x1) : (txPacketStart s x1).mix.stitch = s.mix.stitch := by
  unfold txPacketStart
  try dsimp only
  repeat' (first
    | (simp [forEach_stitch, ite_stitch]; done)
    | split
    | refine (forEach_stitch (fun x s => ?_) _ _).trans ?_
    | refine (foldl_stitch (fun x s => ?_) _ _).trans ?_)

@[simp] theorem txLeft_stitch (s : State) (x1) (x2) : (txLeft s x1 x2).mix.stitch = s.mix.stitch := by
  unfold txLeft; (repeat' split) <;> simp [ite_stitch]

@[simp] theorem frameEgress_stitch (s : State) (x1) : (frameEgress s x1).mix.stitch = s.mix.stitch := by
  have h := egress_stitch s x1
  unfold frameEgress
  split <;> rename_i t _ e <;> rw [e] at h
  · simpa using h
  · exact h

@[simp] theorem txOn_stitch (s : State) (x1) (x2) (x3) : (txOn s x1 x2 x3).mix.stitch = s.mix.stitch := by
  simp [txOn, ite_stitch]

@[simp] theorem txOff_stitch (s : State) (x1) : (txOff s x1).mix.stitch = s.mix.stitch := by
  simp [txOff, ite_stitch]

@[simp] theorem clrRx_stitch (s : State) (x1) : (clrRx s x1).mix.stitch = s.mix.stitch := rfl

@[simp] theorem clrTx_stitch (s : State) (x1) : (clrTx s x1).mix.stitch = s.mix.stitch := rfl

@[simp] theorem clrHank_stitch (s : State) (x1) : (clrHank s x1).mix.stitch = s.mix.stitch := rfl

@[simp] theorem setSp_stitch (s : State) (x1) (x2) : (setSp s x1 x2).mix.stitch = s.mix.stitch := rfl

@[simp] theorem storeWatch_stitch (s : State) : (storeWatch s).mix.stitch = s.mix.stitch := by
  simp [storeWatch, ite_stitch]

@[simp] theorem putSpool_stitch (s : State) (x1) (x2) : (putSpool s x1 x2).mix.stitch = s.mix.stitch := by
  simp [putSpool, ite_stitch]

@[simp] theorem windowReadEvent_stitch (s : State) (x1) (x2) : (windowReadEvent s x1 x2).mix.stitch = s.mix.stitch := by
  simp [windowReadEvent, ite_stitch]

@[simp] theorem answerStalled_stitch (s : State) (x1) : (answerStalled s x1).mix.stitch = s.mix.stitch := by
  unfold answerStalled; dsimp only; (try split); (try rfl)
  all_goals exact (forEach_stitch (fun x s => by simp) _ _).trans (by simp)

@[simp] theorem expireStalled_stitch (s : State) : (expireStalled s).mix.stitch = s.mix.stitch := by
  unfold expireStalled; dsimp only; (try split); (try rfl)
  all_goals exact (forEach_stitch (fun x s => by simp) _ _).trans (by simp)

@[simp] theorem pOpen_stitch (s : State) (x1) (x2) : (pOpen s x1 x2).2.mix.stitch = s.mix.stitch := by
  unfold pOpen
  try dsimp only
  repeat' (first
    | (simp; done)
    | split
    | refine (forEach_stitch (fun x s => ?_) _ _).trans ?_
    | refine (foldl_stitch (fun x s => ?_) _ _).trans ?_)

@[simp] theorem pData_stitch (s : State) (x1) (x2) (x3) : (pData s x1 x2 x3).2.mix.stitch = s.mix.stitch := by
  unfold pData
  try dsimp only
  repeat' (first
    | (simp; done)
    | split
    | refine (forEach_stitch (fun x s => ?_) _ _).trans ?_
    | refine (foldl_stitch (fun x s => ?_) _ _).trans ?_)

@[simp] theorem pEnd_stitch (s : State) (x1) (x2) : (pEnd s x1 x2).2.mix.stitch = s.mix.stitch := by
  unfold pEnd
  try dsimp only
  repeat' (first
    | (simp; done)
    | split
    | refine (forEach_stitch (fun x s => ?_) _ _).trans ?_
    | refine (foldl_stitch (fun x s => ?_) _ _).trans ?_)

@[simp] theorem pAbort_stitch (s : State) (x1) : (pAbort s x1).2.mix.stitch = s.mix.stitch := by
  unfold pAbort
  try dsimp only
  repeat' (first
    | (simp; done)
    | split
    | refine (forEach_stitch (fun x s => ?_) _ _).trans ?_
    | refine (foldl_stitch (fun x s => ?_) _ _).trans ?_)

@[simp] theorem cAdvance_stitch (s : State) (x1) (x2) : (cAdvance s x1 x2).2.mix.stitch = s.mix.stitch := by
  unfold cAdvance
  try dsimp only
  repeat' (first
    | (simp; done)
    | split
    | refine (forEach_stitch (fun x s => ?_) _ _).trans ?_
    | refine (foldl_stitch (fun x s => ?_) _ _).trans ?_)

@[simp] theorem cDrop_stitch (s : State) (x1) : (cDrop s x1).2.mix.stitch = s.mix.stitch := by
  unfold cDrop
  try dsimp only
  repeat' (first
    | (simp; done)
    | split
    | refine (forEach_stitch (fun x s => ?_) _ _).trans ?_
    | refine (foldl_stitch (fun x s => ?_) _ _).trans ?_)

@[simp] theorem cMark_stitch (s : State) (x1) : (cMark s x1).2.mix.stitch = s.mix.stitch := by
  unfold cMark
  try dsimp only
  repeat' (first
    | (simp; done)
    | split
    | refine (forEach_stitch (fun x s => ?_) _ _).trans ?_
    | refine (foldl_stitch (fun x s => ?_) _ _).trans ?_)

@[simp] theorem cRewind_stitch (s : State) (x1) : (cRewind s x1).2.mix.stitch = s.mix.stitch := by
  unfold cRewind
  try dsimp only
  repeat' (first
    | (simp; done)
    | split
    | refine (forEach_stitch (fun x s => ?_) _ _).trans ?_
    | refine (foldl_stitch (fun x s => ?_) _ _).trans ?_)

@[simp] theorem cCmd_stitch (s : State) (x1) (x2) : (cCmd s x1 x2).2.mix.stitch = s.mix.stitch := by
  unfold cCmd
  try dsimp only
  repeat' (first
    | (simp; done)
    | split
    | refine (forEach_stitch (fun x s => ?_) _ _).trans ?_
    | refine (foldl_stitch (fun x s => ?_) _ _).trans ?_)

@[simp] theorem pEndWrite_stitch (s : State) (x1) (x2) : (pEndWrite s x1 x2).2.mix.stitch = s.mix.stitch := by
  unfold pEndWrite; (repeat' split) <;> simp

@[simp] theorem windowWrite_stitch (s : State) (x1) (x2) (x3) (x4) : (windowWrite s x1 x2 x3 x4).2.mix.stitch = s.mix.stitch := by
  unfold windowWrite; (repeat' split) <;> simp

@[simp] theorem internalCommit_stitch (s : State) (x1) (x2) : (internalCommit s x1 x2).1.mix.stitch = s.mix.stitch := by
  unfold internalCommit
  try dsimp only
  repeat' (first
    | (simp; done)
    | split
    | refine (forEach_stitch (fun x s => ?_) _ _).trans ?_
    | refine (foldl_stitch (fun x s => ?_) _ _).trans ?_)

@[simp] theorem internalOpen_stitch (s : State) (x1) (x2) (x3) (x4) : (internalOpen s x1 x2 x3 x4).1.mix.stitch = s.mix.stitch := by
  unfold internalOpen
  try dsimp only
  repeat' (first
    | (simp [ite_stitch]; done)
    | split
    | refine (forEach_stitch (fun x s => ?_) _ _).trans ?_
    | refine (foldl_stitch (fun x s => ?_) _ _).trans ?_)

@[simp] theorem internalAbort_stitch (s : State) (x1) : (internalAbort s x1).mix.stitch = s.mix.stitch := by
  unfold internalAbort
  try dsimp only
  repeat' (first
    | (simp [ite_stitch]; done)
    | split
    | refine (forEach_stitch (fun x s => ?_) _ _).trans ?_
    | refine (foldl_stitch (fun x s => ?_) _ _).trans ?_)

@[simp] theorem internalWrite_stitch (s : State) (x1) (x2) : (internalWrite s x1 x2).1.mix.stitch = s.mix.stitch := by
  unfold internalWrite
  try dsimp only
  repeat' (first
    | (simp [ite_stitch]; done)
    | split
    | refine (forEach_stitch (fun x s => ?_) _ _).trans ?_
    | refine (foldl_stitch (fun x s => ?_) _ _).trans ?_)

@[simp] theorem internalEnd_stitch (s : State) (x1) (x2) (x3) : (internalEnd s x1 x2 x3).mix.stitch = s.mix.stitch := by
  unfold internalEnd
  try dsimp only
  repeat' (first
    | (simp [ite_stitch]; done)
    | split
    | refine (forEach_stitch (fun x s => ?_) _ _).trans ?_
    | refine (foldl_stitch (fun x s => ?_) _ _).trans ?_)

@[simp] theorem internalFinish_stitch (s : State) (x1) : (internalFinish s x1).mix.stitch = s.mix.stitch := by
  simp [internalFinish]

@[simp] theorem flushSpool_stitch (s : State) (x1) : (flushSpool s x1).mix.stitch = s.mix.stitch := by
  simp [flushSpool]

@[simp] theorem resetSpool_stitch (s : State) (x1) : (resetSpool s x1).mix.stitch = s.mix.stitch := by
  simp [resetSpool]

@[simp] theorem spoolResetDone_stitch (s : State) (x1) : (spoolResetDone s x1).mix.stitch = s.mix.stitch := by
  simp [spoolResetDone, ite_stitch]

@[simp] theorem disableSpool_stitch (s : State) (x1) : (disableSpool s x1).mix.stitch = s.mix.stitch := by
  unfold disableSpool; dsimp only; rw [setFd_stitch, setFd_stitch, putSpool_stitch, flushSpool_stitch]

@[simp] theorem splClrCounts_stitch (s : State) (x1) : (splClrCounts s x1).mix.stitch = s.mix.stitch := rfl

@[simp] theorem spW0Write_stitch (s : State) (x1) (x2) : (spW0Write s x1 x2).mix.stitch = s.mix.stitch := by
  simp [spW0Write, ite_stitch]

@[simp] theorem takeHostBlock_stitch (s : State) (x1) (x2) : (takeHostBlock s x1 x2).1.mix.stitch = s.mix.stitch := by
  induction x2 generalizing s with
  | zero => rfl
  | succ n ih => unfold takeHostBlock; dsimp only; (repeat' split) <;> simp [ih]

@[simp] theorem hostSilence_stitch (s : State) : (hostSilence s).mix.stitch = s.mix.stitch := by
  unfold hostSilence
  try dsimp only
  repeat' (first
    | (simp; done)
    | split
    | refine (forEach_stitch (fun x s => ?_) _ _).trans ?_
    | refine (foldl_stitch (fun x s => ?_) _ _).trans ?_)

@[simp] theorem hostInput_stitch (s : State) : (hostInput s).mix.stitch = s.mix.stitch := by
  unfold hostInput
  try dsimp only
  repeat' (first
    | (simp [ite_stitch]; done)
    | split
    | refine (forEach_stitch (fun x s => ?_) _ _).trans ?_
    | refine (foldl_stitch (fun x s => ?_) _ _).trans ?_)

@[simp] theorem hostOutDefine_stitch (s : State) (x1) : (hostOutDefine s x1).mix.stitch = s.mix.stitch := by
  unfold hostOutDefine
  try dsimp only
  repeat' (first
    | (simp [ite_stitch]; done)
    | split
    | refine (forEach_stitch (fun x s => ?_) _ _).trans ?_
    | refine (foldl_stitch (fun x s => ?_) _ _).trans ?_)

@[simp] theorem hostOutOpen_stitch (s : State) (x1) : (hostOutOpen s x1).mix.stitch = s.mix.stitch := by
  unfold hostOutOpen
  try dsimp only
  repeat' (first
    | (simp [ite_stitch]; done)
    | split
    | refine (forEach_stitch (fun x s => ?_) _ _).trans ?_
    | refine (foldl_stitch (fun x s => ?_) _ _).trans ?_)

@[simp] theorem hostOutWrite_stitch (s : State) (x1) (x2) : (hostOutWrite s x1 x2).mix.stitch = s.mix.stitch := by
  unfold hostOutWrite
  try dsimp only
  repeat' (first
    | (simp [ite_stitch]; done)
    | split
    | refine (forEach_stitch (fun x s => ?_) _ _).trans ?_
    | refine (foldl_stitch (fun x s => ?_) _ _).trans ?_)

@[simp] theorem hostOutput_stitch (s : State) : (hostOutput s).mix.stitch = s.mix.stitch := by
  unfold hostOutput
  try dsimp only
  repeat' (first
    | (simp [ite_stitch]; done)
    | split
    | refine (forEach_stitch (fun x s => ?_) _ _).trans ?_
    | refine (foldl_stitch (fun x s => ?_) _ _).trans ?_)

end Sys2Proof.Machine
end

