-- ==== Sys2Proof/Laws/StitchMix.lean ====
section
/-! SUPPORT. The operations of the mix, the fabric, control I/O and the stitch leave the number of the stitch as it is. -/

namespace Sys2Proof.Machine

@[simp] theorem setChain_stitch (s : State) (x1) (x2) : (setChain s x1 x2).mix.stitch = s.mix.stitch := rfl

@[simp] theorem setHem_stitch (s : State) (x1) (x2) : (setHem s x1 x2).mix.stitch = s.mix.stitch := rfl

@[simp] theorem setMeter_stitch (s : State) (x1) (x2) : (setMeter s x1 x2).mix.stitch = s.mix.stitch := rfl

@[simp] theorem setVox_stitch (s : State) (x1) (x2) : (setVox s x1 x2).mix.stitch = s.mix.stitch := rfl

@[simp] theorem naBoundary_stitch (s : State) (x1) : (naBoundary s x1).mix.stitch = s.mix.stitch := by
  simp [naBoundary, ite_stitch]

@[simp] theorem naRelease_stitch (s : State) (x1) : (naRelease s x1).mix.stitch = s.mix.stitch := by
  simp [naRelease, ite_stitch]

@[simp] theorem hemBlock_stitch (s : State) (x1) (x2) (x3) (x4) : (hemBlock s x1 x2 x3 x4).2.mix.stitch = s.mix.stitch := by
  unfold hemBlock
  try dsimp only
  repeat' (first
    | (simp; done)
    | split
    | refine (forEach_stitch (fun x s => ?_) _ _).trans ?_
    | refine (foldl_stitch (fun x s => ?_) _ _).trans ?_)

@[simp] theorem hemClear_stitch (s : State) (x1) : (hemClear s x1).mix.stitch = s.mix.stitch := by
  unfold hemClear
  try dsimp only
  repeat' (first
    | (simp [ite_stitch]; done)
    | split
    | refine (forEach_stitch (fun x s => ?_) _ _).trans ?_
    | refine (foldl_stitch (fun x s => ?_) _ _).trans ?_)

@[simp] theorem meterTick_stitch (s : State) (x1) : (meterTick s x1).mix.stitch = s.mix.stitch := rfl

@[simp] theorem meterHold_stitch (s : State) (x1) : (meterHold s x1).mix.stitch = s.mix.stitch := by
  unfold meterHold
  try dsimp only
  repeat' (first
    | (simp [ite_stitch]; done)
    | split
    | refine (forEach_stitch (fun x s => ?_) _ _).trans ?_
    | refine (foldl_stitch (fun x s => ?_) _ _).trans ?_)

@[simp] theorem meterOff_stitch (s : State) (x1) : (meterOff s x1).mix.stitch = s.mix.stitch := rfl

@[simp] theorem meterOn_stitch (s : State) (x1) (x2) (x3) : (meterOn s x1 x2 x3).mix.stitch = s.mix.stitch := by
  simp [meterOn, ite_stitch]

@[simp] theorem voxTick_stitch (s : State) (x1) : (voxTick s x1).mix.stitch = s.mix.stitch := by
  simp [voxTick, ite_stitch]

@[simp] theorem voxAgain_stitch (s : State) (x1) : (voxAgain s x1).mix.stitch = s.mix.stitch := by
  unfold voxAgain
  try dsimp only
  repeat' (first
    | (simp [ite_stitch]; done)
    | split
    | refine (forEach_stitch (fun x s => ?_) _ _).trans ?_
    | refine (foldl_stitch (fun x s => ?_) _ _).trans ?_)

@[simp] theorem voxOn_stitch (s : State) (x1) : (voxOn s x1).mix.stitch = s.mix.stitch := by
  simp [voxOn, ite_stitch]

@[simp] theorem voxOff_stitch (s : State) (x1) : (voxOff s x1).mix.stitch = s.mix.stitch := by
  simp [voxOff, ite_stitch]

@[simp] theorem voxDisable_stitch (s : State) (x1) : (voxDisable s x1).mix.stitch = s.mix.stitch := rfl

@[simp] theorem voxEnable_stitch (s : State) (x1) (x2) (x3) : (voxEnable s x1 x2 x3).mix.stitch = s.mix.stitch := by
  simp [voxEnable, ite_stitch]

@[simp] theorem metersGone_stitch (s : State) : (metersGone s).mix.stitch = s.mix.stitch := rfl

@[simp] theorem metersBoundary_stitch (s : State) : (metersBoundary s).mix.stitch = s.mix.stitch := by
  simp [metersBoundary, forEach_stitch, ite_stitch]

@[simp] theorem setConv_stitch (s : State) (x1) (x2) : (setConv s x1 x2).mix.stitch = s.mix.stitch := rfl

@[simp] theorem seamReanchor_stitch (s : State) (x1) : (seamReanchor s x1).mix.stitch = s.mix.stitch := rfl

@[simp] theorem seamJump_stitch (s : State) (x1) (x2) (x3) : (seamJump s x1 x2 x3).mix.stitch = s.mix.stitch := by
  unfold seamJump
  try dsimp only
  repeat' (first
    | (simp [ite_stitch]; done)
    | split
    | refine (forEach_stitch (fun x s => ?_) _ _).trans ?_
    | refine (foldl_stitch (fun x s => ?_) _ _).trans ?_)

@[simp] theorem seamInputStop_stitch (s : State) (x1) : (seamInputStop s x1).mix.stitch = s.mix.stitch := by
  unfold seamInputStop
  try dsimp only
  repeat' (first
    | (simp [ite_stitch]; done)
    | split
    | refine (forEach_stitch (fun x s => ?_) _ _).trans ?_
    | refine (foldl_stitch (fun x s => ?_) _ _).trans ?_)

@[simp] theorem seamRun_stitch (s : State) (x1) : (seamRun s x1).mix.stitch = s.mix.stitch := by
  simp [seamRun]

@[simp] theorem seamRange_stitch (s : State) (x1) : (seamRange s x1).mix.stitch = s.mix.stitch := by
  simp [seamRange]

@[simp] theorem seamHold_stitch (s : State) (x1) : (seamHold s x1).mix.stitch = s.mix.stitch := by
  simp [seamHold]

@[simp] theorem seamAct_stitch (s : State) (x1) : (seamAct s x1).mix.stitch = s.mix.stitch := by
  unfold seamAct
  try dsimp only
  repeat' (first
    | (simp [ite_stitch]; done)
    | split
    | refine (forEach_stitch (fun x s => ?_) _ _).trans ?_
    | refine (foldl_stitch (fun x s => ?_) _ _).trans ?_)

@[simp] theorem seamTimers_stitch (s : State) (x1) : (seamTimers s x1).mix.stitch = s.mix.stitch := by
  unfold seamTimers
  try dsimp only
  repeat' (first
    | (simp [ite_stitch]; done)
    | split
    | refine (forEach_stitch (fun x s => ?_) _ _).trans ?_
    | refine (foldl_stitch (fun x s => ?_) _ _).trans ?_)

@[simp] theorem seamTrainEnd_stitch (s : State) (x1) : (seamTrainEnd s x1).mix.stitch = s.mix.stitch := by
  unfold seamTrainEnd
  try dsimp only
  repeat' (first
    | (simp [ite_stitch]; done)
    | split
    | refine (forEach_stitch (fun x s => ?_) _ _).trans ?_
    | refine (foldl_stitch (fun x s => ?_) _ _).trans ?_)

@[simp] theorem seamMeasured_stitch (s : State) (x1) (x2) : (seamMeasured s x1 x2).mix.stitch = s.mix.stitch := by
  unfold seamMeasured
  try dsimp only
  repeat' (first
    | (simp [ite_stitch]; done)
    | split
    | refine (forEach_stitch (fun x s => ?_) _ _).trans ?_
    | refine (foldl_stitch (fun x s => ?_) _ _).trans ?_)

@[simp] theorem seamRecover_stitch (s : State) (x1) : (seamRecover s x1).mix.stitch = s.mix.stitch := by
  unfold seamRecover
  try dsimp only
  repeat' (first
    | (simp [ite_stitch]; done)
    | split
    | refine (forEach_stitch (fun x s => ?_) _ _).trans ?_
    | refine (foldl_stitch (fun x s => ?_) _ _).trans ?_)

@[simp] theorem seamOn_stitch (s : State) (x1) (x2) (x3) : (seamOn s x1 x2 x3).mix.stitch = s.mix.stitch := by
  simp [seamOn, ite_stitch]

@[simp] theorem seamOff_stitch (s : State) (x1) : (seamOff s x1).mix.stitch = s.mix.stitch := by
  simp [seamOff, ite_stitch]

@[simp] theorem scOn_stitch (s : State) (x1) (x2) (x3) : (scOn s x1 x2 x3).mix.stitch = s.mix.stitch := by
  simp [scOn, ite_stitch]

@[simp] theorem scOff_stitch (s : State) (x1) : (scOff s x1).mix.stitch = s.mix.stitch := rfl

@[simp] theorem freeBlock_stitch (x0) (x1) (s : State) (x3) : (freeBlock x0 x1 s x3).2.mix.stitch = s.mix.stitch := by
  induction x1 generalizing s x3 with
  | zero => rfl
  | succ n ih => simp only [freeBlock, draw]; rw [ih]

@[simp] theorem seamBlock_stitch (s : State) (x1) : (seamBlock s x1).mix.stitch = s.mix.stitch := by
  unfold seamBlock
  try dsimp only
  repeat' (first
    | (simp; done)
    | split
    | refine (forEach_stitch (fun x s => ?_) _ _).trans ?_
    | refine (foldl_stitch (fun x s => ?_) _ _).trans ?_)

@[simp] theorem seamEstimate_stitch (s : State) (x1) : (seamEstimate s x1).mix.stitch = s.mix.stitch := by
  unfold seamEstimate
  try dsimp only
  repeat' (first
    | (simp [ite_stitch]; done)
    | split
    | refine (forEach_stitch (fun x s => ?_) _ _).trans ?_
    | refine (foldl_stitch (fun x s => ?_) _ _).trans ?_)

@[simp] theorem seamStep_stitch (s : State) (x1) : (seamStep s x1).mix.stitch = s.mix.stitch := by
  unfold seamStep
  try dsimp only
  repeat' (first
    | (simp [ite_stitch]; done)
    | split
    | refine (forEach_stitch (fun x s => ?_) _ _).trans ?_
    | refine (foldl_stitch (fun x s => ?_) _ _).trans ?_)

@[simp] theorem convStep_stitch (s : State) (x1) : (convStep s x1).mix.stitch = s.mix.stitch := by
  unfold convStep
  try dsimp only
  repeat' (first
    | (simp [ite_stitch]; done)
    | split
    | refine (forEach_stitch (fun x s => ?_) _ _).trans ?_
    | refine (foldl_stitch (fun x s => ?_) _ _).trans ?_)

@[simp] theorem bridgeBoundary_stitch (s : State) (x1) : (bridgeBoundary s x1).mix.stitch = s.mix.stitch := by
  simp [bridgeBoundary, forEach_stitch, ite_stitch]

@[simp] theorem replayTake_stitch (s : State) (x1) : (replayTake s x1).mix.stitch = s.mix.stitch := by
  unfold replayTake
  try dsimp only
  repeat' (first
    | (simp [ite_stitch]; done)
    | split
    | refine (forEach_stitch (fun x s => ?_) _ _).trans ?_
    | refine (foldl_stitch (fun x s => ?_) _ _).trans ?_)

@[simp] theorem replayBoundary_stitch (s : State) : (replayBoundary s).mix.stitch = s.mix.stitch := by
  simp [replayBoundary, forEach_stitch]

@[simp] theorem setPin_stitch (s : State) (x1) (x2) : (setPin s x1 x2).mix.stitch = s.mix.stitch := rfl

@[simp] theorem setCo_stitch (s : State) (x1) (x2) : (setCo s x1 x2).mix.stitch = s.mix.stitch := rfl

@[simp] theorem setSe_stitch (s : State) (x1) (x2) : (setSe s x1 x2).mix.stitch = s.mix.stitch := rfl

@[simp] theorem takeLevel_stitch (s : State) (x1) : (takeLevel s x1).mix.stitch = s.mix.stitch := by
  simp [takeLevel, ite_stitch]

@[simp] theorem gpioEdge_stitch (s : State) (x1) (x2) : (gpioEdge s x1 x2).mix.stitch = s.mix.stitch := by
  simp [gpioEdge, ite_stitch]

@[simp] theorem gpioDebounced_stitch (s : State) (x1) : (gpioDebounced s x1).mix.stitch = s.mix.stitch := by
  unfold gpioDebounced; (repeat' split) <;> simp

@[simp] theorem clrEdges_stitch (s : State) (x1) : (clrEdges s x1).mix.stitch = s.mix.stitch := rfl

@[simp] theorem ruleOff_stitch (s : State) (x1) : (ruleOff s x1).mix.stitch = s.mix.stitch := by
  unfold ruleOff
  try dsimp only
  repeat' (first
    | (simp [ite_stitch]; done)
    | split
    | refine (forEach_stitch (fun x s => ?_) _ _).trans ?_
    | refine (foldl_stitch (fun x s => ?_) _ _).trans ?_)

@[simp] theorem evalBoth_stitch (s : State) (x1) : (evalBoth s x1).mix.stitch = s.mix.stitch := rfl

@[simp] theorem coDisagree_stitch (s : State) (x1) (x2) : (coDisagree s x1 x2).mix.stitch = s.mix.stitch := rfl

@[simp] theorem coSettle_stitch (s : State) (x1) (x2) : (coSettle s x1 x2).mix.stitch = s.mix.stitch := by
  simp [coSettle, ite_stitch]

@[simp] theorem coBoundary_stitch (s : State) (x1) : (coBoundary s x1).mix.stitch = s.mix.stitch := by
  simp [coBoundary, ite_stitch]

@[simp] theorem coReadback_stitch (s : State) (x1) (x2) (x3) : (coReadback s x1 x2 x3).mix.stitch = s.mix.stitch := by
  simp [coReadback, ite_stitch]

@[simp] theorem coClr_stitch (s : State) (x1) : (coClr s x1).mix.stitch = s.mix.stitch := rfl

@[simp] theorem coCfgWrite_stitch (s : State) (x1) (x2) : (coCfgWrite s x1 x2).mix.stitch = s.mix.stitch := by
  simp [coCfgWrite, ite_stitch]

@[simp] theorem coGateAll_stitch (s : State) : (coGateAll s).mix.stitch = s.mix.stitch := by
  simp [coGateAll, forEach_stitch, ite_stitch]

@[simp] theorem seRun_stitch (s : State) (x1) (x2) (x3) : (seRun s x1 x2 x3).mix.stitch = s.mix.stitch := by
  unfold seRun
  try dsimp only
  repeat' (first
    | (simp [ite_stitch]; done)
    | split
    | refine (forEach_stitch (fun x s => ?_) _ _).trans ?_
    | refine (foldl_stitch (fun x s => ?_) _ _).trans ?_)

@[simp] theorem seMirrored_stitch (s : State) (x1) (x2) : (seMirrored s x1 x2).mix.stitch = s.mix.stitch := by
  unfold seMirrored
  try dsimp only
  repeat' (first
    | (simp [ite_stitch]; done)
    | split
    | refine (forEach_stitch (fun x s => ?_) _ _).trans ?_
    | refine (foldl_stitch (fun x s => ?_) _ _).trans ?_)

@[simp] theorem seArm_stitch (s : State) (x1) : (seArm s x1).mix.stitch = s.mix.stitch := by
  simp [seArm, ite_stitch]

@[simp] theorem seAdmitted_stitch (s : State) (x1) (x2) : (seAdmitted s x1 x2).mix.stitch = s.mix.stitch := by
  simp [seAdmitted, ite_stitch]

@[simp] theorem seRefused_stitch (s : State) (x1) (x2) : (seRefused s x1 x2).mix.stitch = s.mix.stitch := by
  unfold seRefused
  try dsimp only
  repeat' (first
    | (simp [ite_stitch]; done)
    | split
    | refine (forEach_stitch (fun x s => ?_) _ _).trans ?_
    | refine (foldl_stitch (fun x s => ?_) _ _).trans ?_)

@[simp] theorem scheduleFire_stitch (s : State) : (scheduleFire s).mix.stitch = s.mix.stitch := by
  simp [scheduleFire, forEach_stitch, ite_stitch]

@[simp] theorem stepPasses_stitch (s : State) (x1) : (stepPasses s x1).mix.stitch = s.mix.stitch := by
  simp [stepPasses, forEach_stitch, ite_stitch]

@[simp] theorem pulseEnd_stitch (s : State) (x1) : (pulseEnd s x1).mix.stitch = s.mix.stitch := by
  unfold pulseEnd; (repeat' split) <;> simp

@[simp] theorem seDisarm_stitch (s : State) (x1) : (seDisarm s x1).mix.stitch = s.mix.stitch := by
  unfold seDisarm
  try dsimp only
  repeat' (first
    | (simp [ite_stitch]; done)
    | split
    | refine (forEach_stitch (fun x s => ?_) _ _).trans ?_
    | refine (foldl_stitch (fun x s => ?_) _ _).trans ?_)

@[simp] theorem keyGates_stitch (s : State) : (keyGates s).mix.stitch = s.mix.stitch := rfl

@[simp] theorem duckAll_stitch (s : State) : (duckAll s).mix.stitch = s.mix.stitch := rfl

@[simp] theorem runChains_stitch (s : State) : (runChains s).mix.stitch = s.mix.stitch := rfl

@[simp] theorem runDst_stitch (x0) (x1) (x2) (s : State) : (runDst x0 x1 x2 s).mix.stitch = s.mix.stitch := by
  unfold runDst; split
  · rfl
  · dsimp only; rw [State.setMix_stitch]; show (hemBlock _ _ _ _ _).2.mix.stitch = _; rw [hemBlock_stitch]

@[simp] theorem keepHems_stitch (s : State) : (keepHems s).mix.stitch = s.mix.stitch := rfl

@[simp] theorem engine_stitch (s : State) (x1) : (engine s x1).mix.stitch = s.mix.stitch := by
  simp [engine, forEach_stitch, ite_stitch]

@[simp] theorem setNeedle_stitch (s : State) (x1) (x2) : (setNeedle s x1 x2).mix.stitch = s.mix.stitch := rfl

@[simp] theorem vRaise_stitch (s : State) (x1) : (vRaise s x1).mix.stitch = s.mix.stitch := rfl

@[simp] theorem vcoreSettled_stitch (s : State) : (vcoreSettled s).mix.stitch = s.mix.stitch := by
  simp [vcoreSettled, ite_stitch]

@[simp] theorem holdExpire_stitch (s : State) : (holdExpire s).mix.stitch = s.mix.stitch := by
  unfold holdExpire; (repeat' split) <;> simp

@[simp] theorem stepDown_stitch (s : State) : (stepDown s).mix.stitch = s.mix.stitch := by
  simp [stepDown, ite_stitch]

@[simp] theorem logShed_stitch (s : State) (x1) : (logShed s x1).mix.stitch = s.mix.stitch := rfl

@[simp] theorem logCand_stitch (s : State) (x1) (x2) : (logCand s x1 x2).mix.stitch = s.mix.stitch := by
  unfold logCand
  try dsimp only
  repeat' (first
    | with_reducible rfl
    | (simp; done)
    | split
    | refine (forEach_stitch (fun x s => ?_) _ _).trans ?_
    | refine (foldl_stitch (fun x s => ?_) _ _).trans ?_)

@[simp] theorem dropHeld_stitch (s : State) (x1) : (dropHeld s x1).mix.stitch = s.mix.stitch := by
  unfold dropHeld; rfl

@[simp] theorem shed_stitch (s : State) (x1) (x2) : (shed s x1 x2).1.mix.stitch = s.mix.stitch := by
  unfold shed
  extract_lets t ls going cs d0
  split
  split
  · rfl
  · extract_lets objs a b
    rw [raise_stitch]
    exact (forEach_stitch (fun c s => dropHeld_stitch s c) _ _).trans (forEach_stitch (fun c s => logCand_stitch s _ c) _ _)

@[simp] theorem faultNet_stitch (s : State) : (faultNet s).mix.stitch = s.mix.stitch := by
  unfold faultNet; (repeat' split) <;> simp

@[simp] theorem vcoreEval_stitch (s : State) : (vcoreEval s).mix.stitch = s.mix.stitch := by
  unfold vcoreEval; (repeat' split) <;> simp [ite_stitch]

@[simp] theorem faultWaiting_stitch (s : State) : (faultWaiting s).mix.stitch = s.mix.stitch := by
  unfold faultWaiting
  dsimp only
  split
  · exact faultNet_stitch s
  · exact faultNet_stitch s

@[simp] theorem vToCap_stitch (s : State) : (vToCap s).mix.stitch = s.mix.stitch := by
  simp [vToCap, ite_stitch]

@[simp] theorem exhaust_stitch (s : State) : (exhaust s).mix.stitch = s.mix.stitch := by
  unfold exhaust; (repeat' split) <;> simp

@[simp] theorem shedTo_stitch (s : State) (x1) (x2) : (shedTo s x1 x2).mix.stitch = s.mix.stitch := by
  simp [shedTo, ite_stitch]

@[simp] theorem paceFault_stitch (s : State) (x1) : (paceFault s x1).mix.stitch = s.mix.stitch := by
  unfold paceFault; simp [ite_stitch]

@[simp] theorem fenceDst_stitch (s : State) (x1) : (fenceDst s x1).mix.stitch = s.mix.stitch := by
  unfold fenceDst; (repeat' split) <;> simp

@[simp] theorem fenceMiss_stitch (s : State) (x1) (x2) : (fenceMiss s x1 x2).mix.stitch = s.mix.stitch := by
  unfold fenceMiss
  extract_lets a b
  have hb : b.mix.stitch = s.mix.stitch := (forEach_stitch (fun d s => fenceDst_stitch s d) _ _).trans (raise_stitch a _ _ _)
  rw [vToCap_stitch, faultWaiting_stitch, shedTo_stitch, hb]

@[simp] theorem needleOut_stitch (s : State) (x1) : (needleOut s x1).mix.stitch = s.mix.stitch := by
  unfold needleOut
  extract_lets x a cap res
  have h := shed_stitch a 3 fun d => fits a d res cap false
  rw [raise_stitch, setNeedle_stitch] at h
  generalize shed a 3 (fun d => fits a d res cap false) = p at h
  obtain ⟨b, d⟩ := p
  dsimp only at h ⊢
  split
  · exact (vcoreEval_stitch _).trans ((exhaust_stitch _).trans h)
  · exact (vcoreEval_stitch _).trans h

@[simp] theorem judgePace_stitch (s : State) (x1) : (judgePace s x1).mix.stitch = s.mix.stitch := by
  unfold judgePace
  generalize List.range 32 = xs
  dsimp only
  rw [ite_stitch, reportFault_stitch, paceFault_stitch, ite_self, State.setFab_stitch, forEach_stitch, forEach_stitch]
  · intro k s; rfl
  · intro k s
    (repeat' split) <;> simp

@[simp] theorem fence_stitch (s : State) (x1) : (fence s x1).mix.stitch = s.mix.stitch := by
  simp [fence, ite_stitch]

@[simp] theorem addRequest_stitch (s : State) (x1) (x2) (x3) (x4) : (addRequest s x1 x2 x3 x4).mix.stitch = s.mix.stitch := rfl

@[simp] theorem regRequest_stitch (s : State) (x1) : (regRequest s x1).mix.stitch = s.mix.stitch := rfl

@[simp] theorem asEnabled_stitch (s : State) : (asEnabled s).mix.stitch = s.mix.stitch := by
  unfold asEnabled; refine forEach_stitch (fun x s => ?_) _ _; (repeat' split) <;> simp

@[simp] theorem recordDecision_stitch (s : State) (x1) : (recordDecision s x1).mix.stitch = s.mix.stitch := rfl

@[simp] theorem commitOk_stitch (s : State) (x1) (x2) : (commitOk s x1 x2).mix.stitch = s.mix.stitch := by
  unfold commitOk; (repeat' split) <;> simp

@[simp] theorem commitRefused_stitch (s : State) (x1) (x2) (x3) : (commitRefused s x1 x2 x3).mix.stitch = s.mix.stitch := by
  unfold commitRefused; (repeat' split) <;> simp

@[simp] theorem enableOk_stitch (s : State) (x1) (x2) (x3) : (enableOk s x1 x2 x3).mix.stitch = s.mix.stitch := by
  simp [enableOk, ite_stitch]

@[simp] theorem admitReq_stitch (s : State) (x1) : (admitReq s x1).mix.stitch = s.mix.stitch := by
  unfold admitReq; (repeat' split) <;> simp

@[simp] theorem afterDecision_stitch (s : State) : (afterDecision s).mix.stitch = s.mix.stitch := by
  unfold afterDecision; (repeat' split) <;> simp

@[simp] theorem admissionDecide_stitch (s : State) : (admissionDecide s).mix.stitch = s.mix.stitch := by
  unfold admissionDecide
  try dsimp only
  repeat' (first
    | (simp [ite_stitch]; done)
    | split
    | refine (forEach_stitch (fun x s => ?_) _ _).trans ?_
    | refine (foldl_stitch (fun x s => ?_) _ _).trans ?_)

@[simp] theorem vcoreConfirmed_stitch (s : State) : (vcoreConfirmed s).mix.stitch = s.mix.stitch := by
  unfold vcoreConfirmed
  try dsimp only
  repeat' (first
    | (simp [ite_stitch]; done)
    | split
    | refine (forEach_stitch (fun x s => ?_) _ _).trans ?_
    | refine (foldl_stitch (fun x s => ?_) _ _).trans ?_)

@[simp] theorem settleDecided_stitch (s : State) : (settleDecided s).mix.stitch = s.mix.stitch := by
  unfold settleDecided; refine forEach_stitch (fun x s => ?_) _ _; (repeat' split) <;> simp

@[simp] theorem putSet_stitch (s : State) (x1) (x2) : (putSet s x1 x2).mix.stitch = s.mix.stitch := rfl

@[simp] theorem bsOpen_stitch (s : State) (x1) (x2) : (bsOpen s x1 x2).mix.stitch = s.mix.stitch := rfl

@[simp] theorem bsAdd_stitch (s : State) (x1) (x2) : (bsAdd s x1 x2).mix.stitch = s.mix.stitch := rfl

@[simp] theorem bsDeciding_stitch (s : State) (x1) : (bsDeciding s x1).mix.stitch = s.mix.stitch := rfl

@[simp] theorem bsFree_stitch (s : State) (x1) : (bsFree s x1).mix.stitch = s.mix.stitch := rfl

@[simp] theorem seDel_stitch (s : State) (x1) : (seDel s x1).mix.stitch = s.mix.stitch := by
  unfold seDel
  try dsimp only
  repeat' (first
    | (simp [ite_stitch]; done)
    | split
    | refine (forEach_stitch (fun x s => ?_) _ _).trans ?_
    | refine (foldl_stitch (fun x s => ?_) _ _).trans ?_)

@[simp] theorem bsOwnerGone_stitch (s : State) (x1) : (bsOwnerGone s x1).mix.stitch = s.mix.stitch := by
  unfold bsOwnerGone; refine forEach_stitch (fun k s => ?_) _ _; dsimp only; (repeat' split) <;> simp

@[simp] theorem putSes_stitch (s : State) (x1) (x2) : (putSes s x1 x2).mix.stitch = s.mix.stitch := rfl

@[simp] theorem modSes_stitch (s : State) (x1) (x2) : (modSes s x1 x2).mix.stitch = s.mix.stitch := rfl

@[simp] theorem sendTo_stitch (s : State) (x1) (x2) : (sendTo s x1 x2).mix.stitch = s.mix.stitch := by
  unfold sendTo; (repeat' split) <;> simp

@[simp] theorem abortXfer_stitch (s : State) : (abortXfer s).mix.stitch = s.mix.stitch := rfl

@[simp] theorem orphanRequests_stitch (s : State) (x1) : (orphanRequests s x1).mix.stitch = s.mix.stitch := rfl

@[simp] theorem closeSession_stitch (s : State) (x1) : (closeSession s x1).mix.stitch = s.mix.stitch := by
  unfold closeSession; (repeat' split) <;> simp

@[simp] theorem closeWhere_stitch (s : State) (x1) : (closeWhere s x1).mix.stitch = s.mix.stitch := by
  simp [closeWhere, forEach_stitch]

@[simp] theorem closeAll_stitch (s : State) : (closeAll s).mix.stitch = s.mix.stitch := by
  simp [closeAll]

@[simp] theorem sendReply_stitch (s : State) (x1) : (sendReply s x1).mix.stitch = s.mix.stitch := by
  unfold sendReply; (repeat' split) <;> simp

@[simp] theorem endCommand_stitch (s : State) (x1) (x2) (x3) (x4) (x5) : (endCommand s x1 x2 x3 x4 x5).mix.stitch = s.mix.stitch := rfl

@[simp] theorem notifyOne_stitch (s : State) (x1) (x2) : (notifyOne s x1 x2).mix.stitch = s.mix.stitch := by
  unfold notifyOne; (repeat' split) <;> simp

@[simp] theorem notifyAll_stitch (s : State) : (notifyAll s).mix.stitch = s.mix.stitch := by
  unfold notifyAll
  try dsimp only
  repeat' (first
    | (simp [forEach_stitch, ite_stitch]; done)
    | split
    | refine (forEach_stitch (fun x s => ?_) _ _).trans ?_
    | refine (foldl_stitch (fun x s => ?_) _ _).trans ?_)

@[simp] theorem setGate_stitch (s : State) (x1) : (setGate s x1).mix.stitch = s.mix.stitch := by
  unfold setGate; (repeat' split) <;> simp

@[simp] theorem rolePowers_stitch (s : State) : (rolePowers s).mix.stitch = s.mix.stitch := by
  unfold rolePowers
  try dsimp only
  repeat' (first
    | (simp [ite_stitch]; done)
    | split
    | refine (forEach_stitch (fun x s => ?_) _ _).trans ?_
    | refine (foldl_stitch (fun x s => ?_) _ _).trans ?_)

@[simp] theorem dropTransfer_stitch (s : State) : (dropTransfer s).mix.stitch = s.mix.stitch := by
  unfold dropTransfer; (repeat' split) <;> simp

@[simp] theorem takeActive_stitch (s : State) : (takeActive s).mix.stitch = s.mix.stitch := by
  simp [takeActive, forEach_stitch, ite_stitch]

@[simp] theorem leaveActive_stitch (s : State) : (leaveActive s).mix.stitch = s.mix.stitch := by
  unfold leaveActive; exact (closeWhere_stitch _ _).trans (forEach_stitch (fun k s => by simp) _ _)

@[simp] theorem roleChange_stitch (s : State) : (roleChange s).mix.stitch = s.mix.stitch := by
  unfold roleChange
  try dsimp only
  repeat' (first
    | (simp [ite_stitch]; done)
    | split
    | refine (forEach_stitch (fun x s => ?_) _ _).trans ?_
    | refine (foldl_stitch (fun x s => ?_) _ _).trans ?_)

@[simp] theorem lining_stitch (s : State) (x1) : (lining s x1).mix.stitch = s.mix.stitch := by
  unfold lining; (repeat' split) <;> simp

@[simp] theorem prState_stitch (s : State) (x1) : (prState s x1).mix.stitch = s.mix.stitch := by
  simp [prState, ite_stitch]

@[simp] theorem roleEnds_stitch (s : State) : (roleEnds s).mix.stitch = s.mix.stitch := by
  unfold roleEnds
  try dsimp only
  repeat' (first
    | (simp [ite_stitch]; done)
    | split
    | refine (forEach_stitch (fun x s => ?_) _ _).trans ?_
    | refine (foldl_stitch (fun x s => ?_) _ _).trans ?_)

@[simp] theorem noteResort_stitch (s : State) : (noteResort s).mix.stitch = s.mix.stitch := by
  unfold noteResort
  try dsimp only
  repeat' (first
    | (simp [ite_stitch]; done)
    | split
    | refine (forEach_stitch (fun x s => ?_) _ _).trans ?_
    | refine (foldl_stitch (fun x s => ?_) _ _).trans ?_)

@[simp] theorem unsync_stitch (s : State) (x1) : (unsync s x1).mix.stitch = s.mix.stitch := by
  unfold unsync
  try dsimp only
  repeat' (first
    | (simp [ite_stitch]; done)
    | split
    | refine (forEach_stitch (fun x s => ?_) _ _).trans ?_
    | refine (foldl_stitch (fun x s => ?_) _ _).trans ?_)

@[simp] theorem mirror_stitch (s : State) (x1) : (mirror s x1).mix.stitch = s.mix.stitch := by
  unfold mirror
  try dsimp only
  repeat' (first
    | (simp [ite_stitch]; done)
    | split
    | refine (forEach_stitch (fun x s => ?_) _ _).trans ?_
    | refine (foldl_stitch (fun x s => ?_) _ _).trans ?_)

@[simp] theorem beginJoin_stitch (s : State) : (beginJoin s).mix.stitch = s.mix.stitch := by
  unfold beginJoin
  try dsimp only
  repeat' (first
    | (simp [ite_stitch]; done)
    | split
    | refine (forEach_stitch (fun x s => ?_) _ _).trans ?_
    | refine (foldl_stitch (fun x s => ?_) _ _).trans ?_)

@[simp] theorem yieldRole_stitch (s : State) : (yieldRole s).mix.stitch = s.mix.stitch := by
  unfold yieldRole
  try dsimp only
  repeat' (first
    | (simp [ite_stitch]; done)
    | split
    | refine (forEach_stitch (fun x s => ?_) _ _).trans ?_
    | refine (foldl_stitch (fun x s => ?_) _ _).trans ?_)

@[simp] theorem shedRamp_stitch (s : State) (x1) : (shedRamp s x1).mix.stitch = s.mix.stitch := by
  unfold shedRamp; (repeat' split) <;> simp

@[simp] theorem shedOff_stitch (s : State) (x1) : (shedOff s x1).mix.stitch = s.mix.stitch := by
  unfold shedOff; (repeat' split) <;> simp

@[simp] theorem shedBoundary_stitch (s : State) : (shedBoundary s).mix.stitch = s.mix.stitch := by
  simp [shedBoundary, forEach_stitch, ite_stitch]

theorem applyChange_stitch (c i r m) : (applyChange c i r m).stitch = m.stitch := by
  unfold applyChange
  split <;> first
    | rfl
    | (unfold chXpSet; dsimp only; split; · rfl
       split <;> rfl)
    | (unfold chXpDel; split <;> rfl)
    | (unfold chDstDel; dsimp only; split <;> rfl)
    | (unfold chSrcDel; dsimp only; split <;> rfl)
theorem applyFrom_stitch (c rs) : ∀ i m, (applyFrom c i rs m).stitch = m.stitch := by
  induction rs with
  | nil => intros; rfl
  | cons r rs ih => intro i m; rw [applyFrom, ih, applyChange_stitch]
theorem applyRecs_stitch (c rs m) : (applyRecs c rs m).stitch = m.stitch := applyFrom_stitch _ _ _ _
theorem setSet_stitch' (s : State) (k x) : (putSet s k x).mix.stitch = s.mix.stitch := rfl
@[simp] theorem applyCommit_stitch (s : State) (x1) : (applyCommit s x1).mix.stitch = s.mix.stitch := by
  unfold applyCommit; dsimp only
  rw [raise_stitch]
  exact (setSet_stitch' _ _ _).trans ((bsFree_stitch _ _).trans ((State.setMix_stitch _ _).trans (applyRecs_stitch _ _ _)))

@[simp] theorem commitBoundary_stitch (s : State) : (commitBoundary s).mix.stitch = s.mix.stitch := by
  unfold commitBoundary
  try dsimp only
  repeat' (first
    | with_reducible rfl
    | (simp; done)
    | split
    | refine (forEach_stitch (fun x s => ?_) _ _).trans ?_
    | refine (foldl_stitch (fun x s => ?_) _ _).trans ?_)

@[simp] theorem applyEnable_stitch (s : State) (x1) : (applyEnable s x1).mix.stitch = s.mix.stitch := by
  unfold applyEnable; (repeat' split) <;> simp

@[simp] theorem enableBoundary_stitch (s : State) : (enableBoundary s).mix.stitch = s.mix.stitch := by
  simp [enableBoundary, forEach_stitch]

@[simp] theorem disableLater_stitch (s : State) (x1) (x2) : (disableLater s x1 x2).mix.stitch = s.mix.stitch := rfl

@[simp] theorem mapHook_stitch (s : State) (x1) : (mapHook s x1).mix.stitch = s.mix.stitch := by
  unfold mapHook; (repeat' split) <;> simp

@[simp] theorem waitBoundary_stitch (s : State) : (waitBoundary s).mix.stitch = s.mix.stitch := by
  simp [waitBoundary, forEach_stitch]

@[simp] theorem lockBoundary_stitch (s : State) : (lockBoundary s).mix.stitch = s.mix.stitch := by
  simp [lockBoundary, ite_stitch]

@[simp] theorem timeBoundary_stitch (s : State) : (timeBoundary s).mix.stitch = s.mix.stitch := by
  simp [timeBoundary, forEach_stitch, ite_stitch]

@[simp] theorem ruleBoundary_stitch (s : State) (x1) : (ruleBoundary s x1).mix.stitch = s.mix.stitch := by
  simp [ruleBoundary, forEach_stitch]

@[simp] theorem changeBoundary_stitch (s : State) : (changeBoundary s).mix.stitch = s.mix.stitch := by
  simp [changeBoundary]

@[simp] theorem audioBoundary_stitch (s : State) (x1) : (audioBoundary s x1).mix.stitch = s.mix.stitch := by
  simp [audioBoundary]

@[simp] theorem judgeBoundary_stitch (s : State) : (judgeBoundary s).mix.stitch = s.mix.stitch := by
  simp [judgeBoundary, forEach_stitch]

@[simp] theorem stitchWork_stitch (s : State) (x1) : (stitchWork s x1).mix.stitch = s.mix.stitch := by
  unfold stitchWork
  try dsimp only
  repeat' (first
    | (simp [ite_stitch]; done)
    | split
    | refine (forEach_stitch (fun x s => ?_) _ _).trans ?_
    | refine (foldl_stitch (fun x s => ?_) _ _).trans ?_)

@[simp] theorem rampEnd_stitch (s : State) : (rampEnd s).mix.stitch = s.mix.stitch := by
  rw [rampEnd, vcoreEval_stitch, metersGone_stitch]; rfl

end Sys2Proof.Machine
end

