-- ==== Sys2Proof/Laws/StitchControl.lean ====
section
/-! SUPPORT. The operations of synthesizers, events, the thimble and register writes leave the number of the stitch as it is. -/

namespace Sys2Proof.Machine

@[simp] theorem setSy_stitch (s : State) (x1) (x2) : (setSy s x1 x2).mix.stitch = s.mix.stitch := rfl

@[simp] theorem setPls_stitch (s : State) (x1) (x2) : (setPls s x1 x2).mix.stitch = s.mix.stitch := rfl

@[simp] theorem synLoss_stitch (s : State) (x1) (x2) (x3) : (synLoss s x1 x2 x3).mix.stitch = s.mix.stitch := by
  simp [synLoss, ite_stitch]

@[simp] theorem synTry_stitch (s : State) (x1) : (synTry s x1).mix.stitch = s.mix.stitch := by
  simp [synTry, ite_stitch]

@[simp] theorem synRelock_stitch (s : State) (x1) (x2) : (synRelock s x1 x2).mix.stitch = s.mix.stitch := by
  unfold synRelock
  try dsimp only
  repeat' (first
    | (simp [ite_stitch]; done)
    | split
    | refine (forEach_stitch (fun x s => ?_) _ _).trans ?_
    | refine (foldl_stitch (fun x s => ?_) _ _).trans ?_)

@[simp] theorem synNoSpare_stitch (s : State) (x1) : (synNoSpare s x1).mix.stitch = s.mix.stitch := by
  unfold synNoSpare
  try dsimp only
  repeat' (first
    | (simp [ite_stitch]; done)
    | split
    | refine (forEach_stitch (fun x s => ?_) _ _).trans ?_
    | refine (foldl_stitch (fun x s => ?_) _ _).trans ?_)

@[simp] theorem handoverStart_stitch (s : State) : (handoverStart s).mix.stitch = s.mix.stitch := by
  unfold handoverStart
  try dsimp only
  repeat' (first
    | (simp [ite_stitch]; done)
    | split
    | refine (forEach_stitch (fun x s => ?_) _ _).trans ?_
    | refine (foldl_stitch (fun x s => ?_) _ _).trans ?_)

@[simp] theorem handoverSwitch_stitch (s : State) : (handoverSwitch s).mix.stitch = s.mix.stitch := by
  simp [handoverSwitch, ite_stitch]

@[simp] theorem handoverFail_stitch (s : State) : (handoverFail s).mix.stitch = s.mix.stitch := by
  simp [handoverFail, ite_stitch]

@[simp] theorem synFailed_stitch (s : State) (x1) : (synFailed s x1).mix.stitch = s.mix.stitch := by
  unfold synFailed
  try dsimp only
  repeat' (first
    | (simp [ite_stitch]; done)
    | split
    | refine (forEach_stitch (fun x s => ?_) _ _).trans ?_
    | refine (foldl_stitch (fun x s => ?_) _ _).trans ?_)

@[simp] theorem synTestDone_stitch (s : State) (x1) (x2) (x3) : (synTestDone s x1 x2 x3).mix.stitch = s.mix.stitch := by
  simp [synTestDone, ite_stitch]

@[simp] theorem synStart_stitch (s : State) : (synStart s).mix.stitch = s.mix.stitch := by
  unfold synStart
  try dsimp only
  repeat' (first
    | (simp [ite_stitch]; done)
    | split
    | refine (forEach_stitch (fun x s => ?_) _ _).trans ?_
    | refine (foldl_stitch (fun x s => ?_) _ _).trans ?_)

@[simp] theorem synRetest_stitch (s : State) (x1) : (synRetest s x1).mix.stitch = s.mix.stitch := by
  simp [synRetest, ite_stitch]

@[simp] theorem synStartTest_stitch (s : State) (x1) : (synStartTest s x1).mix.stitch = s.mix.stitch := rfl

@[simp] theorem mckSet_stitch (s : State) (x1) (x2) : (mckSet s x1 x2).mix.stitch = s.mix.stitch := rfl

@[simp] theorem mckFollow_stitch (s : State) : (mckFollow s).mix.stitch = s.mix.stitch := by
  unfold mckFollow
  try dsimp only
  repeat' (first
    | (simp [ite_stitch]; done)
    | split
    | refine (forEach_stitch (fun x s => ?_) _ _).trans ?_
    | refine (foldl_stitch (fun x s => ?_) _ _).trans ?_)

@[simp] theorem plsEnable_stitch (s : State) (x1) : (plsEnable s x1).mix.stitch = s.mix.stitch := rfl

@[simp] theorem plsDisable_stitch (s : State) (x1) : (plsDisable s x1).mix.stitch = s.mix.stitch := rfl

@[simp] theorem plsSource_stitch (s : State) (x1) (x2) : (plsSource s x1 x2).mix.stitch = s.mix.stitch := by
  unfold plsSource
  try dsimp only
  repeat' (first
    | (simp [ite_stitch]; done)
    | split
    | refine (forEach_stitch (fun x s => ?_) _ _).trans ?_
    | refine (foldl_stitch (fun x s => ?_) _ _).trans ?_)

@[simp] theorem plsOutput_stitch (s : State) (x1) : (plsOutput s x1).mix.stitch = s.mix.stitch := by
  simp [plsOutput, ite_stitch]

@[simp] theorem setSrc_stitch (s : State) (x1) (x2) : (setSrc s x1 x2).mix.stitch = s.mix.stitch := rfl

@[simp] theorem setSrcState_stitch (s : State) (x1) (x2) : (setSrcState s x1 x2).mix.stitch = s.mix.stitch := rfl

@[simp] theorem setGrp_stitch (s : State) (x1) (x2) : (setGrp s x1 x2).mix.stitch = s.mix.stitch := rfl

@[simp] theorem setTgt_stitch (s : State) (x1) (x2) : (setTgt s x1 x2).mix.stitch = s.mix.stitch := rfl

@[simp] theorem wakeUpdate_stitch (s : State) : (wakeUpdate s).mix.stitch = s.mix.stitch := by
  simp [wakeUpdate, ite_stitch]

@[simp] theorem releaseSrc_stitch (s : State) (x1) : (releaseSrc s x1).mix.stitch = s.mix.stitch := by
  simp [releaseSrc, ite_stitch]

@[simp] theorem releaseHeld_stitch (s : State) (x1) : (releaseHeld s x1).mix.stitch = s.mix.stitch := by
  simp [releaseHeld, forEach_stitch]

@[simp] theorem releaseGroup_stitch (s : State) (x1) : (releaseGroup s x1).mix.stitch = s.mix.stitch := by
  simp [releaseGroup]

@[simp] theorem openHoldoff_stitch (s : State) (x1) : (openHoldoff s x1).mix.stitch = s.mix.stitch := rfl

@[simp] theorem endHoldoff_stitch (s : State) (x1) : (endHoldoff s x1).mix.stitch = s.mix.stitch := by
  unfold endHoldoff; (repeat' split) <;> simp

@[simp] theorem releaseDue_stitch (s : State) : (releaseDue s).mix.stitch = s.mix.stitch := by
  unfold releaseDue
  try dsimp only
  repeat' (first
    | (simp [ite_stitch]; done)
    | split
    | refine (forEach_stitch (fun x s => ?_) _ _).trans ?_
    | refine (foldl_stitch (fun x s => ?_) _ _).trans ?_)

@[simp] theorem countIn_stitch (s : State) (x1) : (countIn s x1).mix.stitch = s.mix.stitch := by
  unfold countIn
  try dsimp only
  repeat' (first
    | (simp [ite_stitch]; done)
    | split
    | refine (forEach_stitch (fun x s => ?_) _ _).trans ?_
    | refine (foldl_stitch (fun x s => ?_) _ _).trans ?_)

@[simp] theorem moderate_stitch (s : State) (x1) : (moderate s x1).mix.stitch = s.mix.stitch := by
  unfold moderate
  try dsimp only
  repeat' (first
    | (simp [ite_stitch]; done)
    | split
    | refine (forEach_stitch (fun x s => ?_) _ _).trans ?_
    | refine (foldl_stitch (fun x s => ?_) _ _).trans ?_)

@[simp] theorem countAgain_stitch (s : State) (x1) : (countAgain s x1).mix.stitch = s.mix.stitch := by
  simp [countAgain, ite_stitch]

@[simp] theorem assertSrc_stitch (s : State) (x1) : (assertSrc s x1).mix.stitch = s.mix.stitch := by
  unfold assertSrc; (repeat' split) <;> simp

@[simp] theorem senseSrc_stitch (s : State) (x1) : (senseSrc s x1).mix.stitch = s.mix.stitch := by
  unfold senseSrc; (repeat' split) <;> simp [ite_stitch]

@[simp] theorem levelFell_stitch (s : State) (x1) : (levelFell s x1).mix.stitch = s.mix.stitch := by
  unfold levelFell; (repeat' split) <;> simp

@[simp] theorem clearFlags_stitch (s : State) (x1) (x2) (x3) : (clearFlags s x1 x2 x3).mix.stitch = s.mix.stitch := by
  unfold clearFlags; dsimp only; split
  · refine (forEach_stitch (fun x s => by simp) _ _).trans (by simp)
  · simp

@[simp] theorem deliver_stitch (s : State) (x1) : (deliver s x1).mix.stitch = s.mix.stitch := by
  unfold deliver
  try dsimp only
  repeat' (first
    | (simp [ite_stitch]; done)
    | split
    | refine (forEach_stitch (fun x s => ?_) _ _).trans ?_
    | refine (foldl_stitch (fun x s => ?_) _ _).trans ?_)

@[simp] theorem endService_stitch (s : State) (x1) : (endService s x1).mix.stitch = s.mix.stitch := by
  simp [endService, ite_stitch]

@[simp] theorem eoi_stitch (s : State) (x1) (x2) : (eoi s x1 x2).mix.stitch = s.mix.stitch := by
  unfold eoi
  try dsimp only
  repeat' (first
    | (simp [forEach_stitch, ite_stitch]; done)
    | split
    | refine (forEach_stitch (fun x s => ?_) _ _).trans ?_
    | refine (foldl_stitch (fun x s => ?_) _ _).trans ?_)

@[simp] theorem fallAsleep_stitch (s : State) (x1) : (fallAsleep s x1).mix.stitch = s.mix.stitch := by
  simp [fallAsleep, forEach_stitch, ite_stitch]

@[simp] theorem tgtCtrl_stitch (s : State) (x1) (x2) : (tgtCtrl s x1 x2).mix.stitch = s.mix.stitch := by
  simp [tgtCtrl]

@[simp] theorem pciePower_stitch (s : State) (x1) (x2) : (pciePower s x1 x2).mix.stitch = s.mix.stitch := by
  simp [pciePower]

@[simp] theorem evCfgWrite_stitch (s : State) (x1) (x2) : (evCfgWrite s x1 x2).mix.stitch = s.mix.stitch := by
  simp [evCfgWrite, ite_stitch]

@[simp] theorem clrPend_stitch (s : State) (x1) : (clrPend s x1).mix.stitch = s.mix.stitch := by
  simp [clrPend]

@[simp] theorem logFault_stitch (s : State) (x1) : (logFault s x1).mix.stitch = s.mix.stitch := rfl

@[simp] theorem barOn_stitch (s : State) (x1) : (barOn s x1).mix.stitch = s.mix.stitch := by
  unfold barOn; (repeat' split) <;> simp

@[simp] theorem barsEnd_stitch (s : State) : (barsEnd s).mix.stitch = s.mix.stitch := by
  simp [barsEnd, ite_stitch]

@[simp] theorem muteNow_stitch (s : State) : (muteNow s).mix.stitch = s.mix.stitch := by
  unfold muteNow
  try dsimp only
  repeat' (first
    | (simp [ite_stitch]; done)
    | split
    | refine (forEach_stitch (fun x s => ?_) _ _).trans ?_
    | refine (foldl_stitch (fun x s => ?_) _ _).trans ?_)

@[simp] theorem engineMute_stitch (s : State) : (engineMute s).mix.stitch = s.mix.stitch := by
  simp [engineMute, ite_stitch]

@[simp] theorem stopLanes_stitch (s : State) : (stopLanes s).mix.stitch = s.mix.stitch := by
  simp [stopLanes, forEach_stitch]

@[simp] theorem portsOff_stitch (s : State) : (portsOff s).mix.stitch = s.mix.stitch := by
  unfold portsOff; exact forEach_stitch (fun k s => by simp) _ _

@[simp] theorem clocksOff_stitch (s : State) : (clocksOff s).mix.stitch = s.mix.stitch := by
  unfold clocksOff; exact (forEach_stitch (fun k s => plsDisable_stitch s k) _ _)

@[simp] theorem cutHeartbeat_stitch (s : State) : (cutHeartbeat s).mix.stitch = s.mix.stitch := by
  unfold cutHeartbeat; (repeat' split) <;> simp

@[simp] theorem quietGate_stitch (s : State) : (quietGate s).mix.stitch = s.mix.stitch := by
  unfold quietGate; (repeat' split) <;> simp

@[simp] theorem quietLaneRelease_stitch (s : State) : (quietLaneRelease s).mix.stitch = s.mix.stitch := by
  simp [quietLaneRelease, forEach_stitch, ite_stitch]

@[simp] theorem removalSteps_stitch (s : State) : (removalSteps s).mix.stitch = s.mix.stitch := by
  simp [removalSteps]

@[simp] theorem ejectStart_stitch (s : State) : (ejectStart s).mix.stitch = s.mix.stitch := by
  simp [ejectStart, ite_stitch]

@[simp] theorem ejectDone_stitch (s : State) : (ejectDone s).mix.stitch = s.mix.stitch := by
  unfold ejectDone; (repeat' split) <;> simp

@[simp] theorem yieldDone_stitch (s : State) : (yieldDone s).mix.stitch = s.mix.stitch := by
  unfold yieldDone
  try dsimp only
  repeat' (first
    | (simp; done)
    | split
    | refine (forEach_stitch (fun x s => ?_) _ _).trans ?_
    | refine (foldl_stitch (fun x s => ?_) _ _).trans ?_)

@[simp] theorem bridgesOff_stitch (s : State) : (bridgesOff s).mix.stitch = s.mix.stitch :=
  (forEach_stitch (fun k s => by simp) _ _).trans (forEach_stitch (fun k s => by simp) _ _)

@[simp] theorem safeAct_stitch (s : State) (x1) : (safeAct s x1).mix.stitch = s.mix.stitch := by
  unfold safeAct
  split
  · exact vToCap_stitch s
  · exact forEach_stitch (fun k s => by dsimp only; split <;> simp) _ _
  · exact forEach_stitch (fun k s => by simp) _ _
  · exact forEach_stitch (fun k s => by split <;> simp) _ _
  · exact stopLanes_stitch s
  · exact portsOff_stitch s
  · exact (forEach_stitch (fun k s => by split <;> simp) _ _).trans (forEach_stitch (fun k s => by split <;> simp) _ _)
  · exact (vcoreEval_stitch _).trans (bridgesOff_stitch s)
  · exact coGateAll_stitch s
  · exact forEach_stitch (fun k s => by simp) _ _
  · exact wakeUpdate_stitch s
  · exact closeAll_stitch s
  · exact yieldRole_stitch s
  · exact abortXfer_stitch s
  · rfl

@[simp] theorem parityFault_stitch (s : State) (x1) : (parityFault s x1).mix.stitch = s.mix.stitch := by
  simp [parityFault, ite_stitch]

@[simp] theorem noteFault_stitch (s : State) (x1) : (noteFault s x1).mix.stitch = s.mix.stitch := by
  unfold noteFault; (repeat' split) <;> simp

@[simp] theorem takeTj_stitch (s : State) (x1) : (takeTj s x1).mix.stitch = s.mix.stitch := by
  simp [takeTj, ite_stitch]

@[simp] theorem tempBarEnd_stitch (s : State) : (tempBarEnd s).mix.stitch = s.mix.stitch := by
  unfold tempBarEnd; (repeat' split) <;> simp

@[simp] theorem eccHour_stitch (s : State) (x1) : (eccHour s x1).mix.stitch = s.mix.stitch := by
  simp [eccHour, ite_stitch]

@[simp] theorem digestCompare_stitch (s : State) (x1) : (digestCompare s x1).mix.stitch = s.mix.stitch := by
  unfold digestCompare; (repeat' split) <;> simp

@[simp] theorem injectHem_stitch (s : State) (x1) : (injectHem s x1).mix.stitch = s.mix.stitch := by
  unfold injectHem
  try dsimp only
  repeat' (first
    | (simp [ite_stitch]; done)
    | split
    | refine (forEach_stitch (fun x s => ?_) _ _).trans ?_
    | refine (foldl_stitch (fun x s => ?_) _ _).trans ?_)

@[simp] theorem markInjected_stitch (x0) (s : State) : (markInjected x0 s).mix.stitch = s.mix.stitch := rfl

@[simp] theorem inject_stitch (s : State) (x1) : (inject s x1).mix.stitch = s.mix.stitch := by
  unfold inject; (repeat' split) <;> simp [ite_stitch]

@[simp] theorem scrubPass_stitch (s : State) (x1) : (scrubPass s x1).mix.stitch = s.mix.stitch := by
  unfold scrubPass
  try dsimp only
  repeat' (first
    | (simp [ite_stitch]; done)
    | split
    | refine (forEach_stitch (fun x s => ?_) _ _).trans ?_
    | refine (foldl_stitch (fun x s => ?_) _ _).trans ?_)

@[simp] theorem detectMiss_stitch (s : State) : (detectMiss s).mix.stitch = s.mix.stitch := by
  unfold detectMiss draw
  exact (reportFault_stitch _ _ _ _ _).trans (fenceMiss_stitch _ _ _)

@[simp] theorem dramError_stitch (s : State) (x1) : (dramError s x1).mix.stitch = s.mix.stitch := by
  unfold dramError
  try dsimp only
  repeat' (first
    | (simp [ite_stitch]; done)
    | split
    | refine (forEach_stitch (fun x s => ?_) _ _).trans ?_
    | refine (foldl_stitch (fun x s => ?_) _ _).trans ?_)

@[simp] theorem damaged_stitch (s : State) (x1) (x2) : (damaged s x1 x2).mix.stitch = s.mix.stitch := by
  unfold damaged
  split
  · rfl
  · split <;> simp

@[simp] theorem detected_stitch (s : State) (x1) (x2) (x3) : (detected s x1 x2 x3).mix.stitch = s.mix.stitch := by
  unfold detected
  repeat' split
  all_goals first
    | with_reducible rfl
    | (simp only [reportFault_stitch, needleOut_stitch, paceFault_stitch, detectMiss_stitch, exhaust_stitch, injectHem_stitch, coDisagree_stitch, raise_stitch,
        State.setRef_stitch, resetSpool_stitch, synFailed_stitch]; done)

@[simp] theorem detect_stitch (s : State) (x1) (x2) (x3) : (detect s x1 x2 x3).mix.stitch = s.mix.stitch := by
  unfold detect
  split <;> simp

@[simp] theorem put_stitch (s : State) (x1) (x2) (x3) (x4) : (put s x1 x2 x3 x4).mix.stitch = s.mix.stitch := rfl

@[simp] theorem putLater_stitch (s : State) (x1) (x2) (x3) (x4) : (putLater s x1 x2 x3 x4).mix.stitch = s.mix.stitch := rfl

@[simp] theorem putWindow_stitch (s : State) (x1) (x2) (x3) (x4) : (putWindow s x1 x2 x3 x4).mix.stitch = s.mix.stitch := rfl

@[simp] theorem onBit_stitch {f : State → State} (h : ∀ s, (f s).mix.stitch = s.mix.stitch) (v : Word) (b : Nat) (s : State) :
    (onBit v b s f).mix.stitch = s.mix.stitch := by
  unfold onBit; split
  · exact h s
  · rfl

@[simp] theorem lockBits_stitch (s : State) (x1) : (lockBits s x1).mix.stitch = s.mix.stitch := by
  unfold lockBits; (repeat' split) <;> simp

@[simp] theorem clrWerr_stitch (s : State) : (clrWerr s).mix.stitch = s.mix.stitch := rfl

@[simp] theorem glbCmd_stitch (s : State) (x1) : (glbCmd s x1).mix.stitch = s.mix.stitch := by
  unfold glbCmd
  exact (lockBits_stitch _ _).trans (onBit_stitch (fun s => clrWerr_stitch s) _ _ _)

@[simp] theorem clrSlack_stitch (s : State) : (clrSlack s).mix.stitch = s.mix.stitch := rfl

@[simp] theorem fabClrCounts_stitch (s : State) : (fabClrCounts s).mix.stitch = s.mix.stitch := rfl

@[simp] theorem fabWrite_stitch (s : State) (x1) (x2) (x3) (x4) : (fabWrite s x1 x2 x3 x4).mix.stitch = s.mix.stitch := by
  unfold fabWrite
  try dsimp only
  repeat' (first
    | with_reducible rfl
    | (simp; done)
    | split
    | refine (onBit_stitch (fun s => ?_) _ _ _).trans ?_
    | refine orRefuse_stitch ?_ _ _
    | refine (forEach_stitch (fun x s => ?_) _ _).trans ?_
    | refine (foldl_stitch (fun x s => ?_) _ _).trans ?_)

@[simp] theorem bsBit_stitch (x1) (s : State) (x2) : (bsBit x1 s x2).mix.stitch = s.mix.stitch := by
  unfold bsBit
  try dsimp only
  repeat' (first
    | (simp [ite_stitch]; done)
    | split
    | refine (forEach_stitch (fun x s => ?_) _ _).trans ?_
    | refine (foldl_stitch (fun x s => ?_) _ _).trans ?_)

@[simp] theorem bsCmd_stitch (s : State) (x1) (x2) : (bsCmd s x1 x2).mix.stitch = s.mix.stitch := by
  unfold bsCmd
  exact foldl_stitch (fun s b => bsBit_stitch _ s b) _ _

@[simp] theorem mixWrite_stitch (s : State) (x1) (x2) (x3) (x4) : (mixWrite s x1 x2 x3 x4).mix.stitch = s.mix.stitch := by
  unfold mixWrite; (repeat' split) <;> simp

@[simp] theorem tbCtrlWrite_stitch (s : State) (x1) (x2) : (tbCtrlWrite s x1 x2).mix.stitch = s.mix.stitch := by
  simp [tbCtrlWrite, ite_stitch]

@[simp] theorem tbWrite_stitch (s : State) (x1) (x2) (x3) (x4) : (tbWrite s x1 x2 x3 x4).mix.stitch = s.mix.stitch := by
  unfold tbWrite
  try dsimp only
  repeat' (first
    | with_reducible rfl
    | (simp; done)
    | split
    | refine (onBit_stitch (fun s => ?_) _ _ _).trans ?_
    | refine orRefuse_stitch ?_ _ _
    | refine (forEach_stitch (fun x s => ?_) _ _).trans ?_
    | refine (foldl_stitch (fun x s => ?_) _ _).trans ?_)

@[simp] theorem mcCtrlWrite_stitch (s : State) (x1) (x2) : (mcCtrlWrite s x1 x2).mix.stitch = s.mix.stitch := by
  simp [mcCtrlWrite, ite_stitch]

@[simp] theorem swFreqWrite_stitch (s : State) (x1) (x2) : (swFreqWrite s x1 x2).mix.stitch = s.mix.stitch := by
  unfold swFreqWrite
  try dsimp only
  repeat' (first
    | (simp [ite_stitch]; done)
    | split
    | refine (forEach_stitch (fun x s => ?_) _ _).trans ?_
    | refine (foldl_stitch (fun x s => ?_) _ _).trans ?_)

@[simp] theorem stageHi_stitch (s : State) (x1) (x2) (x3) : (stageHi s x1 x2 x3).mix.stitch = s.mix.stitch := rfl

@[simp] theorem mcClrCounts_stitch (s : State) (x1) : (mcClrCounts s x1).mix.stitch = s.mix.stitch := rfl

@[simp] theorem refWrite_stitch (s : State) (x1) (x2) (x3) (x4) : (refWrite s x1 x2 x3 x4).mix.stitch = s.mix.stitch := by
  unfold refWrite
  try dsimp only
  repeat' (first
    | with_reducible rfl
    | (simp; done)
    | split
    | refine (onBit_stitch (fun s => ?_) _ _ _).trans ?_
    | refine orRefuse_stitch ?_ _ _
    | refine (forEach_stitch (fun x s => ?_) _ _).trans ?_
    | refine (foldl_stitch (fun x s => ?_) _ _).trans ?_)

@[simp] theorem synClrCounts_stitch (s : State) (x1) : (synClrCounts s x1).mix.stitch = s.mix.stitch := rfl

@[simp] theorem plsOffset_stitch (s : State) (x1) (x2) (x3) : (plsOffset s x1 x2 x3).mix.stitch = s.mix.stitch := rfl

@[simp] theorem synWrite_stitch (s : State) (x1) (x2) (x3) (x4) : (synWrite s x1 x2 x3 x4).mix.stitch = s.mix.stitch := by
  unfold synWrite
  try dsimp only
  repeat' (first
    | with_reducible rfl
    | (simp; done)
    | split
    | refine (onBit_stitch (fun s => ?_) _ _ _).trans ?_
    | refine orRefuse_stitch ?_ _ _
    | refine (forEach_stitch (fun x s => ?_) _ _).trans ?_
    | refine (foldl_stitch (fun x s => ?_) _ _).trans ?_)

@[simp] theorem cgEnWrite_stitch (s : State) (x1) (x2) : (cgEnWrite s x1 x2).mix.stitch = s.mix.stitch := by
  simp [cgEnWrite, ite_stitch]

@[simp] theorem hostClrCounts_stitch (s : State) : (hostClrCounts s).mix.stitch = s.mix.stitch := rfl

@[simp] theorem laneWrite_stitch (s : State) (x1) (x2) (x3) (x4) : (laneWrite s x1 x2 x3 x4).mix.stitch = s.mix.stitch := by
  unfold laneWrite
  try dsimp only
  repeat' (first
    | with_reducible rfl
    | (simp; done)
    | split
    | refine (onBit_stitch (fun s => ?_) _ _ _).trans ?_
    | refine orRefuse_stitch ?_ _ _
    | refine (forEach_stitch (fun x s => ?_) _ _).trans ?_
    | refine (foldl_stitch (fun x s => ?_) _ _).trans ?_)

@[simp] theorem portEnWrite_stitch (s : State) (x1) (x2) : (portEnWrite s x1 x2).mix.stitch = s.mix.stitch := by
  simp [portEnWrite, ite_stitch]

@[simp] theorem swCmd_stitch (s : State) (x1) : (swCmd s x1).mix.stitch = s.mix.stitch := by
  unfold swCmd
  try dsimp only
  repeat' (first
    | with_reducible rfl
    | (simp; done)
    | split
    | refine (onBit_stitch (fun s => ?_) _ _ _).trans ?_
    | refine orRefuse_stitch ?_ _ _
    | refine (forEach_stitch (fun x s => ?_) _ _).trans ?_
    | refine (foldl_stitch (fun x s => ?_) _ _).trans ?_)

@[simp] theorem portClrCounts_stitch (s : State) (x1) : (portClrCounts s x1).mix.stitch = s.mix.stitch := rfl

@[simp] theorem gateApply_stitch (s : State) (x1) : (gateApply s x1).mix.stitch = s.mix.stitch := rfl

@[simp] theorem gateCancel_stitch (s : State) (x1) : (gateCancel s x1).mix.stitch = s.mix.stitch := rfl

@[simp] theorem portWrite_stitch (s : State) (x1) (x2) (x3) (x4) : (portWrite s x1 x2 x3 x4).mix.stitch = s.mix.stitch := by
  unfold portWrite
  try dsimp only
  repeat' (first
    | with_reducible rfl
    | (simp; done)
    | split
    | refine (onBit_stitch (fun s => ?_) _ _ _).trans ?_
    | refine orRefuse_stitch ?_ _ _
    | refine (forEach_stitch (fun x s => ?_) _ _).trans ?_
    | refine (foldl_stitch (fun x s => ?_) _ _).trans ?_)

@[simp] theorem strCmd_stitch (s : State) (x1) : (strCmd s x1).mix.stitch = s.mix.stitch := by
  unfold strCmd; (repeat' split) <;> simp

@[simp] theorem rxOffsetWrite_stitch (s : State) (x1) (x2) : (rxOffsetWrite s x1 x2).mix.stitch = s.mix.stitch := by
  unfold rxOffsetWrite; (repeat' split) <;> simp

@[simp] theorem hankWrite_stitch (s : State) (x1) (x2) : (hankWrite s x1 x2).mix.stitch = s.mix.stitch := by
  unfold hankWrite; (repeat' split) <;> simp

@[simp] theorem dmacWrite_stitch (s : State) (x1) (x2) (x3) (x4) : (dmacWrite s x1 x2 x3 x4).mix.stitch = s.mix.stitch := rfl

@[simp] theorem strWrite_stitch (s : State) (x1) (x2) (x3) (x4) : (strWrite s x1 x2 x3 x4).mix.stitch = s.mix.stitch := by
  unfold strWrite; (repeat' split) <;> simp

@[simp] theorem hemClrLater_stitch (s : State) (x1) : (hemClrLater s x1).mix.stitch = s.mix.stitch := rfl

@[simp] theorem clrHold_stitch (s : State) (x1) : (clrHold s x1).mix.stitch = s.mix.stitch := rfl

@[simp] theorem clrClip_stitch (s : State) (x1) : (clrClip s x1).mix.stitch = s.mix.stitch := rfl

@[simp] theorem dynCmd_stitch (s : State) (x1) : (dynCmd s x1).mix.stitch = s.mix.stitch := by
  unfold dynCmd; (repeat' split) <;> simp

@[simp] theorem dynWrite_stitch (s : State) (x1) (x2) (x3) (x4) : (dynWrite s x1 x2 x3 x4).mix.stitch = s.mix.stitch := by
  unfold dynWrite; (repeat' split) <;> simp

@[simp] theorem clrSlips_stitch (s : State) (x1) : (clrSlips s x1).mix.stitch = s.mix.stitch := rfl

@[simp] theorem rbCmd_stitch (s : State) (x1) : (rbCmd s x1).mix.stitch = s.mix.stitch := by
  unfold rbCmd; (repeat' split) <;> simp

@[simp] theorem rbWrite_stitch (s : State) (x1) (x2) (x3) (x4) : (rbWrite s x1 x2 x3 x4).mix.stitch = s.mix.stitch := by
  unfold rbWrite; (repeat' split) <;> simp

@[simp] theorem seWrite_stitch (s : State) (x1) : (seWrite s x1).mix.stitch = s.mix.stitch := by
  unfold seWrite; (repeat' split) <;> simp

@[simp] theorem cioCmd_stitch (s : State) (x1) : (cioCmd s x1).mix.stitch = s.mix.stitch := by
  unfold cioCmd; (repeat' split) <;> simp

@[simp] theorem cioWrite_stitch (s : State) (x1) (x2) (x3) (x4) : (cioWrite s x1 x2 x3 x4).mix.stitch = s.mix.stitch := by
  unfold cioWrite; (repeat' split) <;> simp

@[simp] theorem splWrite_stitch (s : State) (x1) (x2) (x3) (x4) : (splWrite s x1 x2 x3 x4).mix.stitch = s.mix.stitch := by
  unfold splWrite
  try dsimp only
  repeat' (first
    | with_reducible rfl
    | (simp; done)
    | split
    | refine (onBit_stitch (fun s => ?_) _ _ _).trans ?_
    | refine orRefuse_stitch ?_ _ _
    | refine (forEach_stitch (fun x s => ?_) _ _).trans ?_
    | refine (foldl_stitch (fun x s => ?_) _ _).trans ?_)

@[simp] theorem force_stitch (s : State) (x1) : (force s x1).mix.stitch = s.mix.stitch := by
  unfold force
  try dsimp only
  repeat' (first
    | (simp [ite_stitch]; done)
    | split
    | refine (forEach_stitch (fun x s => ?_) _ _).trans ?_
    | refine (foldl_stitch (fun x s => ?_) _ _).trans ?_)

@[simp] theorem tgtEoiWrite_stitch (s : State) (x1) (x2) : (tgtEoiWrite s x1 x2).mix.stitch = s.mix.stitch := by
  unfold tgtEoiWrite
  try dsimp only
  repeat' (first
    | with_reducible rfl
    | (simp; done)
    | split
    | refine (onBit_stitch (fun s => ?_) _ _ _).trans ?_
    | refine orRefuse_stitch ?_ _ _
    | refine (forEach_stitch (fun x s => ?_) _ _).trans ?_
    | refine (foldl_stitch (fun x s => ?_) _ _).trans ?_)

@[simp] theorem evtWrite_stitch (s : State) (x1) (x2) (x3) (x4) : (evtWrite s x1 x2 x3 x4).mix.stitch = s.mix.stitch := by
  unfold evtWrite
  try dsimp only
  repeat' (first
    | with_reducible rfl
    | (simp; done)
    | split
    | refine (onBit_stitch (fun s => ?_) _ _ _).trans ?_
    | refine orRefuse_stitch ?_ _ _
    | refine (forEach_stitch (fun x s => ?_) _ _).trans ?_
    | refine (foldl_stitch (fun x s => ?_) _ _).trans ?_)

@[simp] theorem sesClrCounts_stitch (s : State) : (sesClrCounts s).mix.stitch = s.mix.stitch := rfl

@[simp] theorem ip6Write_stitch (s : State) (x1) (x2) : (ip6Write s x1 x2).mix.stitch = s.mix.stitch := by
  unfold ip6Write
  try dsimp only
  repeat' (first
    | (simp [ite_stitch]; done)
    | split
    | refine (forEach_stitch (fun x s => ?_) _ _).trans ?_
    | refine (foldl_stitch (fun x s => ?_) _ _).trans ?_)

@[simp] theorem sesWrite_stitch (s : State) (x1) (x2) (x3) (x4) : (sesWrite s x1 x2 x3 x4).mix.stitch = s.mix.stitch := by
  unfold sesWrite
  try dsimp only
  repeat' (first
    | with_reducible rfl
    | (simp; done)
    | split
    | refine (onBit_stitch (fun s => ?_) _ _ _).trans ?_
    | refine orRefuse_stitch ?_ _ _
    | refine (forEach_stitch (fun x s => ?_) _ _).trans ?_
    | refine (foldl_stitch (fun x s => ?_) _ _).trans ?_)

@[simp] theorem post_stitch (s : State) (x1) (x2) : (post s x1 x2).mix.stitch = s.mix.stitch := rfl

@[simp] theorem prClrCounts_stitch (s : State) : (prClrCounts s).mix.stitch = s.mix.stitch := rfl

@[simp] theorem remirror_stitch (s : State) : (remirror s).mix.stitch = s.mix.stitch := by
  simp [remirror]

@[simp] theorem relinquish_stitch (s : State) : (relinquish s).mix.stitch = s.mix.stitch := by
  simp [relinquish]

@[simp] theorem prWrite_stitch (s : State) (x1) (x2) : (prWrite s x1 x2).mix.stitch = s.mix.stitch := by
  unfold prWrite
  try dsimp only
  repeat' (first
    | with_reducible rfl
    | (simp; done)
    | split
    | refine (onBit_stitch (fun s => ?_) _ _ _).trans ?_
    | refine orRefuse_stitch ?_ _ _
    | refine (forEach_stitch (fun x s => ?_) _ _).trans ?_
    | refine (foldl_stitch (fun x s => ?_) _ _).trans ?_)

@[simp] theorem clrLog_stitch (s : State) : (clrLog s).mix.stitch = s.mix.stitch := rfl

@[simp] theorem safClrCounts_stitch (s : State) : (safClrCounts s).mix.stitch = s.mix.stitch := rfl

@[simp] theorem safWrite_stitch (s : State) (x1) (x2) : (safWrite s x1 x2).mix.stitch = s.mix.stitch := by
  unfold safWrite
  try dsimp only
  repeat' (first
    | with_reducible rfl
    | (simp; done)
    | split
    | refine (onBit_stitch (fun s => ?_) _ _ _).trans ?_
    | refine orRefuse_stitch ?_ _ _
    | refine (forEach_stitch (fun x s => ?_) _ _).trans ?_
    | refine (foldl_stitch (fun x s => ?_) _ _).trans ?_)

@[simp] theorem rescanStart_stitch (s : State) : (rescanStart s).mix.stitch = s.mix.stitch := rfl

@[simp] theorem plWrite_stitch (s : State) (x1) (x2) : (plWrite s x1 x2).mix.stitch = s.mix.stitch := by
  unfold plWrite
  try dsimp only
  repeat' (first
    | with_reducible rfl
    | (simp; done)
    | split
    | refine (onBit_stitch (fun s => ?_) _ _ _).trans ?_
    | refine orRefuse_stitch ?_ _ _
    | refine (forEach_stitch (fun x s => ?_) _ _).trans ?_
    | refine (foldl_stitch (fun x s => ?_) _ _).trans ?_)

@[simp] theorem forwardWrite_stitch (s : State) (x1) (x2) (x3) : (forwardWrite s x1 x2 x3).mix.stitch = s.mix.stitch := by
  unfold forwardWrite
  try dsimp only
  repeat' (first
    | (simp [ite_stitch]; done)
    | split
    | refine (forEach_stitch (fun x s => ?_) _ _).trans ?_
    | refine (foldl_stitch (fun x s => ?_) _ _).trans ?_)

@[simp] theorem writeWindow_stitch (s : State) (x1) (x2) (x3) : (writeWindow s x1 x2 x3).2.mix.stitch = s.mix.stitch := by
  unfold writeWindow
  try dsimp only
  repeat' (first
    | (simp; done)
    | split
    | refine (forEach_stitch (fun x s => ?_) _ _).trans ?_
    | refine (foldl_stitch (fun x s => ?_) _ _).trans ?_)

@[simp] theorem capture_stitch (s : State) (x1) (x2) (x3) : (capture s x1 x2 x3).mix.stitch = s.mix.stitch := by
  unfold capture; split
  · rw [State.setGlb_stitch]
  · rw [raise_stitch, State.setGlb_stitch]

@[simp] theorem applyPosted_stitch (s : State) (x1) : (applyPosted s x1).mix.stitch = s.mix.stitch := by
  unfold applyPosted; (repeat' split) <;> simp

@[simp] theorem postedApply_stitch (s : State) : (postedApply s).mix.stitch = s.mix.stitch := by
  unfold postedApply; (repeat' split) <;> simp

end Sys2Proof.Machine
end

