-- ==== Sys2Proof/Laws/StitchUnits.lean ====
section
/-! SUPPORT. The operations of start-up, resets, the pair and the sessions leave the number of the stitch as it is. -/

namespace Sys2Proof.Machine

@[simp] theorem noteHeader_stitch (s : State) (x1) : (noteHeader s x1).mix.stitch = s.mix.stitch := by
  simp [noteHeader, ite_stitch]

@[simp] theorem tryImages_stitch (s : State) (bs : List Bool) : (tryImages s bs).1.mix.stitch = s.mix.stitch := by
  induction bs generalizing s with
  | nil => rfl
  | cons b bs ih =>
    simp only [tryImages]; split
    · simp
    · rw [ih]; simp

@[simp] theorem selectImage_stitch (s : State) : (selectImage s).1.mix.stitch = s.mix.stitch := by
  unfold selectImage
  try dsimp only
  repeat' (first
    | with_reducible rfl
    | (simp; done)
    | split
    | refine (onBit_stitch (fun s => ?_) _ _ _).trans ?_
    | refine orRefuse_stitch ?_ _ _
    | refine (forEach_stitch (fun x s => ?_) _ _).trans ?_
    | refine (foldl_stitch (fun x s => ?_) _ _).trans ?_)

@[simp] theorem setActive_stitch (s : State) (x1) (x2) : (setActive s x1 x2).mix.stitch = s.mix.stitch := rfl

@[simp] theorem rejectRec_stitch (s : State) (x1) (x2) : (rejectRec s x1 x2).mix.stitch = s.mix.stitch := rfl

@[simp] theorem applyFixed_stitch (s : State) (x1) : (applyFixed s x1).mix.stitch = s.mix.stitch := rfl

@[simp] theorem logShort_stitch (s : State) (s1 : State) (x2) : (logShort s s1 x2).mix.stitch = s.mix.stitch := by
  unfold logShort
  try dsimp only
  repeat' (first
    | (simp [ite_stitch]; done)
    | split
    | refine (forEach_stitch (fun x s => ?_) _ _).trans ?_
    | refine (foldl_stitch (fun x s => ?_) _ _).trans ?_)

@[simp] theorem noteRejects_stitch (s : State) (x1) : (noteRejects s x1).mix.stitch = s.mix.stitch := by
  unfold noteRejects
  try dsimp only
  repeat' (first
    | with_reducible rfl
    | (simp; done)
    | split
    | refine (onBit_stitch (fun s => ?_) _ _ _).trans ?_
    | refine orRefuse_stitch ?_ _ _
    | refine (forEach_stitch (fun x s => ?_) _ _).trans ?_
    | refine (foldl_stitch (fun x s => ?_) _ _).trans ?_)

@[simp] theorem startLanes_stitch (s : State) : (startLanes s).mix.stitch = s.mix.stitch := by
  simp [startLanes, forEach_stitch, ite_stitch]

@[simp] theorem enableAll_stitch (s : State) : (enableAll s).mix.stitch = s.mix.stitch := by
  simp [enableAll, forEach_stitch]

@[simp] theorem bareTry_stitch (s : State) (x1) : (bareTry s x1).mix.stitch = s.mix.stitch := by
  unfold bareTry; dsimp only; rw [portEnable_stitch, State.setPl_stitch, setFd_stitch, setFd_stitch, setFd_stitch, portEnable_stitch]

@[simp] theorem enterBare_stitch (s : State) : (enterBare s).mix.stitch = s.mix.stitch := by
  simp [enterBare]

@[simp] theorem bareTimer_stitch (s : State) : (bareTimer s).mix.stitch = s.mix.stitch := by
  unfold bareTimer; (repeat' split) <;> simp

@[simp] theorem calibrate_stitch (s : State) (x1) : (calibrate s x1).mix.stitch = s.mix.stitch := by
  simp [calibrate, forEach_stitch, ite_stitch]

@[simp] theorem applyLocks_stitch (s : State) (x1) : (applyLocks s x1).mix.stitch = s.mix.stitch := by
  unfold applyLocks; (repeat' split) <;> simp

@[simp] theorem senseStart_stitch (s : State) (x1) : (senseStart s x1).mix.stitch = s.mix.stitch := rfl

@[simp] theorem readStart_stitch (s : State) (x1) : (readStart s x1).mix.stitch = s.mix.stitch := by
  unfold readStart
  try dsimp only
  repeat' (first
    | (simp [ite_stitch]; done)
    | split
    | refine (forEach_stitch (fun x s => ?_) _ _).trans ?_
    | refine (foldl_stitch (fun x s => ?_) _ _).trans ?_)

@[simp] theorem liningStart_stitch (s : State) (x1) : (liningStart s x1).mix.stitch = s.mix.stitch := by
  unfold liningStart
  try dsimp only
  repeat' (first
    | (simp [ite_stitch]; done)
    | split
    | refine (forEach_stitch (fun x s => ?_) _ _).trans ?_
    | refine (foldl_stitch (fun x s => ?_) _ _).trans ?_)

@[simp] theorem startRole_stitch (s : State) : (startRole s).mix.stitch = s.mix.stitch := by
  unfold startRole
  try dsimp only
  repeat' (first
    | (simp [ite_stitch]; done)
    | split
    | refine (forEach_stitch (fun x s => ?_) _ _).trans ?_
    | refine (foldl_stitch (fun x s => ?_) _ _).trans ?_)

@[simp] theorem setNor_stitch (s : State) (x1) (x2) : (setNor s x1 x2).mix.stitch = s.mix.stitch := rfl

@[simp] theorem imgBegin_stitch (s : State) (x1) (x2) : (imgBegin s x1 x2).mix.stitch = s.mix.stitch := rfl

@[simp] theorem imgData_stitch (s : State) (x1) (x2) : (imgData s x1 x2).mix.stitch = s.mix.stitch := by
  simp [imgData, ite_stitch]

@[simp] theorem imgEnd_stitch (s : State) (x1) (x2) : (imgEnd s x1 x2).mix.stitch = s.mix.stitch := by
  unfold imgEnd; (repeat' split) <;> simp

@[simp] theorem norTry_stitch (s : State) : (norTry s).2.mix.stitch = s.mix.stitch := by
  unfold norTry
  try dsimp only
  repeat' (first
    | (simp [ite_stitch]; done)
    | split
    | refine (forEach_stitch (fun x s => ?_) _ _).trans ?_
    | refine (foldl_stitch (fun x s => ?_) _ _).trans ?_)

@[simp] theorem norError_stitch (s : State) : (norError s).mix.stitch = s.mix.stitch := by
  unfold norError
  try dsimp only
  repeat' (first
    | (simp [ite_stitch]; done)
    | split
    | refine (forEach_stitch (fun x s => ?_) _ _).trans ?_
    | refine (foldl_stitch (fun x s => ?_) _ _).trans ?_)

@[simp] theorem eraseImage_stitch (s : State) (x1) (x2) : (eraseImage s x1 x2).2.mix.stitch = s.mix.stitch := by
  unfold eraseImage
  try dsimp only
  repeat' (first
    | (simp [ite_stitch]; done)
    | split
    | refine (forEach_stitch (fun x s => ?_) _ _).trans ?_
    | refine (foldl_stitch (fun x s => ?_) _ _).trans ?_)

@[simp] theorem programImage_stitch (s : State) (x1) (x2) : (programImage s x1 x2).2.mix.stitch = s.mix.stitch := by
  unfold programImage
  try dsimp only
  repeat' (first
    | (simp [ite_stitch]; done)
    | split
    | refine (forEach_stitch (fun x s => ?_) _ _).trans ?_
    | refine (foldl_stitch (fun x s => ?_) _ _).trans ?_)

@[simp] theorem sealImage_stitch (s : State) (x1) (x2) : (sealImage s x1 x2).2.mix.stitch = s.mix.stitch := by
  unfold sealImage
  try dsimp only
  repeat' (first
    | (simp [ite_stitch]; done)
    | split
    | refine (forEach_stitch (fun x s => ?_) _ _).trans ?_
    | refine (foldl_stitch (fun x s => ?_) _ _).trans ?_)

@[simp] theorem rescanDone_stitch (s : State) : (rescanDone s).mix.stitch = s.mix.stitch := by
  unfold rescanDone; (repeat' split) <;> simp

@[simp] theorem cfgFailed_stitch (s : State) (s1 : State) : (cfgFailed s s1).mix.stitch = s.mix.stitch := rfl

@[simp] theorem cfgSelect_stitch (s : State) (x1) : (cfgSelect s x1).mix.stitch = s.mix.stitch := by
  unfold cfgSelect
  try dsimp only
  repeat' (first
    | (simp [ite_stitch]; done)
    | split
    | refine (forEach_stitch (fun x s => ?_) _ _).trans ?_
    | refine (foldl_stitch (fun x s => ?_) _ _).trans ?_)

@[simp] theorem cfgDecided_stitch (s : State) (x1) : (cfgDecided s x1).mix.stitch = s.mix.stitch := by
  unfold cfgDecided
  try dsimp only
  repeat' (first
    | (simp [ite_stitch]; done)
    | split
    | refine (forEach_stitch (fun x s => ?_) _ _).trans ?_
    | refine (foldl_stitch (fun x s => ?_) _ _).trans ?_)

@[simp] theorem cfgJudge_stitch (s : State) : (cfgJudge s).mix.stitch = s.mix.stitch := by
  unfold cfgJudge
  try dsimp only
  repeat' (first
    | (simp [ite_stitch]; done)
    | split
    | refine (forEach_stitch (fun x s => ?_) _ _).trans ?_
    | refine (foldl_stitch (fun x s => ?_) _ _).trans ?_)

@[simp] theorem cfgDecide_stitch (s : State) (x1) : (cfgDecide s x1).mix.stitch = s.mix.stitch := by
  unfold cfgDecide
  split
  · rfl
  · split
    · split
      · exact cfgJudge_stitch s
      · rfl
    · exact (cfgJudge_stitch _).trans (cfgSelect_stitch _ _)

@[simp] theorem cfgName_stitch (s : State) : (cfgName s).mix.stitch = s.mix.stitch := by
  unfold cfgName; (repeat' split) <;> simp

@[simp] theorem cfgPeer_stitch (s : State) (x1) : (cfgPeer s x1).mix.stitch = s.mix.stitch := by
  unfold cfgPeer
  try dsimp only
  repeat' (first
    | (simp [ite_stitch]; done)
    | split
    | refine (forEach_stitch (fun x s => ?_) _ _).trans ?_
    | refine (foldl_stitch (fun x s => ?_) _ _).trans ?_)

@[simp] theorem cfgStops_stitch (s : State) (s1 : State) (x2) : (cfgStops s s1 x2).mix.stitch = s.mix.stitch := by
  unfold cfgStops; dsimp only
  refine (forEach_stitch (fun k s => ?_) _ _).trans ?_
  · (repeat' split) <;> simp
  repeat (refine (forEach_stitch (fun k s => ?_) _ _).trans ?_; · split <;> simp)
  rfl

@[simp] theorem cfgStarts_stitch (s : State) (s1 : State) (x2) : (cfgStarts s s1 x2).mix.stitch = s.mix.stitch := by
  simp [cfgStarts, forEach_stitch, ite_stitch]

@[simp] theorem cfgEvents_stitch (s : State) (x1) : (cfgEvents s x1).mix.stitch = s.mix.stitch := by
  unfold cfgEvents; refine forEach_stitch (fun x s => ?_) _ _; (repeat' split) <;> simp [ite_stitch]

@[simp] theorem cfgHooks_stitch (s : State) (x1) (x2) : (cfgHooks s x1 x2).mix.stitch = s.mix.stitch := by
  unfold cfgHooks
  try dsimp only
  repeat' (first
    | (simp [ite_stitch]; done)
    | split
    | refine (forEach_stitch (fun x s => ?_) _ _).trans ?_
    | refine (foldl_stitch (fun x s => ?_) _ _).trans ?_)

@[simp] theorem cfgRegs_stitch (s : State) (x1) : (cfgRegs s x1).mix.stitch = s.mix.stitch := rfl

@[simp] theorem cfgDisables_stitch (s : State) (x1) : (cfgDisables s x1).mix.stitch = s.mix.stitch := by
  unfold cfgDisables; refine forEach_stitch (fun x s => ?_) _ _; (repeat' split) <;> simp [ite_stitch]

@[simp] theorem enablesNow_stitch (s : State) : (enablesNow s).mix.stitch = s.mix.stitch := rfl

@[simp] theorem cfgDiscard_stitch (s : State) : (cfgDiscard s).mix.stitch = s.mix.stitch := by
  unfold cfgDiscard; dsimp only; rw [raiseIf_stitch, State.setMix_stitch, State.setFab_stitch, State.setCio_stitch]
  exact forEach_stitch (fun k s => by split <;> simp) _ _

@[simp] theorem freeHeld_stitch (s : State) : (freeHeld s).mix.stitch = s.mix.stitch := by
  unfold freeHeld; exact forEach_stitch (fun k s => by split <;> simp) _ _

@[simp] theorem cfgClear_stitch (s : State) : (cfgClear s).mix.stitch = s.mix.stitch := by
  simp [cfgClear]

@[simp] theorem cfgSwitch_stitch (s : State) (s1 : State) : (cfgSwitch s s1).mix.stitch = s.mix.stitch := by
  unfold cfgSwitch
  try dsimp only
  repeat' (first
    | (simp [ite_stitch]; done)
    | split
    | refine (forEach_stitch (fun x s => ?_) _ _).trans ?_
    | refine (foldl_stitch (fun x s => ?_) _ _).trans ?_)

@[simp] theorem clearMatches_stitch (s : State) : (clearMatches s).mix.stitch = s.mix.stitch := rfl

@[simp] theorem crcEqual_stitch (s : State) : (crcEqual s).mix.stitch = s.mix.stitch := by
  unfold crcEqual; (repeat' split) <;> simp

@[simp] theorem diverge_stitch (s : State) : (diverge s).mix.stitch = s.mix.stitch := rfl

@[simp] theorem crcDiffers_stitch (s : State) : (crcDiffers s).mix.stitch = s.mix.stitch := by
  unfold crcDiffers; (repeat' split) <;> simp

@[simp] theorem crcCompare_stitch (s : State) (x1) (x2) : (crcCompare s x1 x2).mix.stitch = s.mix.stitch := by
  unfold crcCompare; (repeat' split) <;> simp

@[simp] theorem peerCrc_stitch (s : State) (x1) (x2) : (peerCrc s x1 x2).mix.stitch = s.mix.stitch := by
  unfold peerCrc; (repeat' split) <;> simp

@[simp] theorem runOwed_stitch (s : State) : (runOwed s).mix.stitch = s.mix.stitch := by
  unfold runOwed
  try dsimp only
  repeat' (first
    | (simp [ite_stitch]; done)
    | split
    | refine (forEach_stitch (fun x s => ?_) _ _).trans ?_
    | refine (foldl_stitch (fun x s => ?_) _ _).trans ?_)

@[simp] theorem heartbeatSend_stitch (s : State) (x1) : (heartbeatSend s x1).mix.stitch = s.mix.stitch := by
  unfold heartbeatSend
  try dsimp only
  repeat' (first
    | (simp [ite_stitch]; done)
    | split
    | refine (forEach_stitch (fun x s => ?_) _ _).trans ?_
    | refine (foldl_stitch (fun x s => ?_) _ _).trans ?_)

@[simp] theorem rxHit_stitch (x1) (s : State) (x2) : (rxHit x1 s x2).mix.stitch = s.mix.stitch := by
  unfold rxHit; split <;> simp

@[simp] theorem liveHit_stitch (x1) (s : State) (x2) : (liveHit x1 s x2).mix.stitch = s.mix.stitch := by
  unfold liveHit; dsimp only; split <;> simp

@[simp] theorem stateHits_stitch (x1) (s : State) : (stateHits x1 s).mix.stitch = s.mix.stitch := by
  unfold stateHits
  refine (forEach_stitch (fun g s => ?_) _ _).trans (forEach_stitch (fun r s => by simp) _ _)
  split <;> simp

@[simp] theorem takeGroup_stitch (s : State) (x1) (x2) : (takeGroup s x1 x2).mix.stitch = s.mix.stitch := by
  unfold takeGroup
  try dsimp only
  repeat' (first
    | (simp [ite_stitch]; done)
    | split
    | refine (forEach_stitch (fun x s => ?_) _ _).trans ?_
    | refine (foldl_stitch (fun x s => ?_) _ _).trans ?_)

@[simp] theorem dropAudio_stitch (s : State) : (dropAudio s).mix.stitch = s.mix.stitch := by
  unfold dropAudio
  try dsimp only
  repeat' (first
    | (simp [ite_stitch]; done)
    | split
    | refine (forEach_stitch (fun x s => ?_) _ _).trans ?_
    | refine (foldl_stitch (fun x s => ?_) _ _).trans ?_)

@[simp] theorem witnessFrame_stitch (s : State) (x1) : (witnessFrame s x1).mix.stitch = s.mix.stitch := by
  unfold witnessFrame
  try dsimp only
  repeat' (first
    | (simp [ite_stitch]; done)
    | split
    | refine (forEach_stitch (fun x s => ?_) _ _).trans ?_
    | refine (foldl_stitch (fun x s => ?_) _ _).trans ?_)

@[simp] theorem frameMissed_stitch (s : State) : (frameMissed s).mix.stitch = s.mix.stitch := by
  simp [frameMissed, ite_stitch]

@[simp] theorem frameFrozen_stitch (s : State) (x1) : (frameFrozen s x1).mix.stitch = s.mix.stitch := by
  simp [frameFrozen, ite_stitch]

@[simp] theorem gateFollow_stitch (s : State) (x1) : (gateFollow s x1).mix.stitch = s.mix.stitch := by
  simp [gateFollow, ite_stitch]

@[simp] theorem gateUpdate_stitch (s : State) : (gateUpdate s).mix.stitch = s.mix.stitch := by
  unfold gateUpdate
  try dsimp only
  repeat' (first
    | (simp [ite_stitch]; done)
    | split
    | refine (forEach_stitch (fun x s => ?_) _ _).trans ?_
    | refine (foldl_stitch (fun x s => ?_) _ _).trans ?_)

@[simp] theorem oePin_stitch (s : State) (x1) : (oePin s x1).mix.stitch = s.mix.stitch := by
  simp [oePin, ite_stitch]

@[simp] theorem roleRise_stitch (s : State) : (roleRise s).mix.stitch = s.mix.stitch := by
  unfold roleRise
  try dsimp only
  repeat' (first
    | (simp; done)
    | split
    | refine (forEach_stitch (fun x s => ?_) _ _).trans ?_
    | refine (foldl_stitch (fun x s => ?_) _ _).trans ?_)

@[simp] theorem roleFall_stitch (s : State) : (roleFall s).mix.stitch = s.mix.stitch := by
  unfold roleFall
  try dsimp only
  repeat' (first
    | (simp [ite_stitch]; done)
    | split
    | refine (forEach_stitch (fun x s => ?_) _ _).trans ?_
    | refine (foldl_stitch (fun x s => ?_) _ _).trans ?_)

@[simp] theorem prCfgBoundary_stitch (s : State) : (prCfgBoundary s).mix.stitch = s.mix.stitch := by
  unfold prCfgBoundary
  exact (noteResort_stitch _).trans ((forEach_stitch (fun w s => by simp) _ _).trans rfl)

@[simp] theorem liningCount_stitch (s : State) : (liningCount s).mix.stitch = s.mix.stitch := rfl

@[simp] theorem pairBoundary_stitch (s : State) : (pairBoundary s).mix.stitch = s.mix.stitch := by
  simp [pairBoundary, ite_stitch]

@[simp] theorem yieldTimeout_stitch (s : State) : (yieldTimeout s).mix.stitch = s.mix.stitch := by
  unfold yieldTimeout; (repeat' split) <;> simp

@[simp] theorem prWtrExpire_stitch (s : State) : (prWtrExpire s).mix.stitch = s.mix.stitch := by
  unfold prWtrExpire; (repeat' split) <;> simp

@[simp] theorem claimTimeout_stitch (s : State) : (claimTimeout s).mix.stitch = s.mix.stitch := by
  unfold claimTimeout; (repeat' split) <;> simp

@[simp] theorem liningDown_stitch (s : State) (x1) : (liningDown s x1).mix.stitch = s.mix.stitch := by
  unfold liningDown
  try dsimp only
  repeat' (first
    | (simp [ite_stitch]; done)
    | split
    | refine (forEach_stitch (fun x s => ?_) _ _).trans ?_
    | refine (foldl_stitch (fun x s => ?_) _ _).trans ?_)

@[simp] theorem liningUp_stitch (s : State) : (liningUp s).mix.stitch = s.mix.stitch := by
  unfold liningUp; (repeat' split) <;> simp

@[simp] theorem joinStart_stitch (s : State) : (joinStart s).mix.stitch = s.mix.stitch := by
  simp [joinStart, ite_stitch]

@[simp] theorem joinTimeout_stitch (s : State) : (joinTimeout s).mix.stitch = s.mix.stitch := by
  unfold joinTimeout; (repeat' split) <;> simp

@[simp] theorem asOf_stitch {f : State → State} (h : ∀ s, (f s).mix.stitch = s.mix.stitch) (s : State) (t : Nat) :
    (asOf s t f).mix.stitch = s.mix.stitch := h _

@[simp] theorem takeControl_stitch (s : State) (x1) (x2) (x3) : (takeControl s x1 x2 x3).mix.stitch = s.mix.stitch := by
  unfold takeControl; generalize List.range 32 = xs; dsimp only; rw [forEach_stitch, State.setCio_stitch]; intro k s; split <;> simp

@[simp] theorem mirrorImage_stitch (s : State) (x1) (x2) (x3) (x4) : (mirrorImage s x1 x2 x3 x4).mix.stitch = s.mix.stitch := by
  unfold mirrorImage
  try dsimp only
  repeat' (first
    | (simp [ite_stitch]; done)
    | split
    | refine (forEach_stitch (fun x s => ?_) _ _).trans ?_
    | refine (foldl_stitch (fun x s => ?_) _ _).trans ?_)

@[simp] theorem imageVerdict_stitch (s : State) (x1) : (imageVerdict s x1).mix.stitch = s.mix.stitch := by
  unfold imageVerdict; (repeat' split) <;> simp [ite_stitch]

@[simp] theorem liningHeard_stitch (s : State) (x1) : (liningHeard s x1).mix.stitch = s.mix.stitch := by
  unfold liningHeard
  try dsimp only
  repeat' (first
    | (simp [ite_stitch]; done)
    | split
    | refine (forEach_stitch (fun x s => ?_) _ _).trans ?_
    | refine (foldl_stitch (fun x s => ?_) _ _).trans ?_)

@[simp] theorem mirrorChanges_stitch (x1) (s : State) : (mirrorChanges x1 s).mix.stitch = s.mix.stitch := by
  unfold mirrorChanges
  generalize s.pr.outbox ++ _ = ms
  dsimp only
  split
  · rfl
  · exact lining_stitch _ _

@[simp] theorem mirrorStitch_stitch (s : State) : (mirrorStitch s).mix.stitch = s.mix.stitch := by
  simp [mirrorStitch, forEach_stitch, ite_stitch]

@[simp] theorem askMissing_stitch (s : State) : (askMissing s).mix.stitch = s.mix.stitch := by
  simp [askMissing, forEach_stitch, ite_stitch]

@[simp] theorem malformed_stitch (s : State) : (malformed s).mix.stitch = s.mix.stitch := rfl

@[simp] theorem hello_stitch (s : State) (x1) (x2) : (hello s x1 x2).mix.stitch = s.mix.stitch := by
  simp [hello, ite_stitch]

@[simp] theorem welcome_stitch (s : State) (x1) (x2) (x3) (x4) : (welcome s x1 x2 x3 x4).mix.stitch = s.mix.stitch := by
  simp [welcome]

@[simp] theorem openSession_stitch (s : State) (x1) (x2) : (openSession s x1 x2).mix.stitch = s.mix.stitch := by
  simp [openSession]

@[simp] theorem proof_stitch (s : State) (x1) (x2) (x3) : (proof s x1 x2 x3).mix.stitch = s.mix.stitch := by
  unfold proof; (repeat' split) <;> simp [ite_stitch]

@[simp] theorem challengeLapse_stitch (s : State) : (challengeLapse s).mix.stitch = s.mix.stitch := rfl

@[simp] theorem authExpire_stitch (s : State) : (authExpire s).mix.stitch = s.mix.stitch := rfl

@[simp] theorem idleTimeout_stitch (s : State) : (idleTimeout s).mix.stitch = s.mix.stitch := by
  simp [idleTimeout]

@[simp] theorem orRefuse_stitch {s : State} {go : State × Option Ended} (h : go.1.mix.stitch = s.mix.stitch) (op : Nat)
    (fails : List (Code × Bool)) : (orRefuse s op fails go).1.mix.stitch = s.mix.stitch := by
  unfold orRefuse; dsimp only; split
  · exact h
  · rfl

@[simp] theorem done_stitch (s : State) (x1) (x2) : (done s x1 x2).1.mix.stitch = s.mix.stitch := rfl

@[simp] theorem sesRequest_stitch (s : State) (x1) (x2) (x3) : (sesRequest s x1 x2 x3).1.mix.stitch = s.mix.stitch := rfl

@[simp] theorem opNop_stitch (s : State) (x1) (x2) : (opNop s x1 x2).1.mix.stitch = s.mix.stitch := rfl

@[simp] theorem opRegRead_stitch (s : State) (x1) (x2) : (opRegRead s x1 x2).1.mix.stitch = s.mix.stitch := by
  unfold opRegRead
  try dsimp only
  repeat' (first
    | with_reducible rfl
    | (simp; done)
    | split
    | refine (onBit_stitch (fun s => ?_) _ _ _).trans ?_
    | refine orRefuse_stitch ?_ _ _
    | refine (forEach_stitch (fun x s => ?_) _ _).trans ?_
    | refine (foldl_stitch (fun x s => ?_) _ _).trans ?_)

@[simp] theorem opBsOpen_stitch (s : State) (x1) (x2) : (opBsOpen s x1 x2).1.mix.stitch = s.mix.stitch := by
  unfold opBsOpen
  try dsimp only
  repeat' (first
    | with_reducible rfl
    | (simp; done)
    | split
    | refine (onBit_stitch (fun s => ?_) _ _ _).trans ?_
    | refine orRefuse_stitch ?_ _ _
    | refine (forEach_stitch (fun x s => ?_) _ _).trans ?_
    | refine (foldl_stitch (fun x s => ?_) _ _).trans ?_)

@[simp] theorem opBsAdd_stitch (s : State) (x1) (x2) : (opBsAdd s x1 x2).1.mix.stitch = s.mix.stitch := by
  unfold opBsAdd
  try dsimp only
  repeat' (first
    | (simp; done)
    | split
    | refine (forEach_stitch (fun x s => ?_) _ _).trans ?_
    | refine (foldl_stitch (fun x s => ?_) _ _).trans ?_)

@[simp] theorem opBsCommit_stitch (s : State) (x1) (x2) : (opBsCommit s x1 x2).1.mix.stitch = s.mix.stitch := by
  unfold opBsCommit
  try dsimp only
  repeat' (first
    | with_reducible rfl
    | (simp; done)
    | split
    | refine (onBit_stitch (fun s => ?_) _ _ _).trans ?_
    | refine orRefuse_stitch ?_ _ _
    | refine (forEach_stitch (fun x s => ?_) _ _).trans ?_
    | refine (foldl_stitch (fun x s => ?_) _ _).trans ?_)

@[simp] theorem opBsAbort_stitch (s : State) (x1) (x2) : (opBsAbort s x1 x2).1.mix.stitch = s.mix.stitch := by
  unfold opBsAbort
  try dsimp only
  repeat' (first
    | with_reducible rfl
    | (simp; done)
    | split
    | refine (onBit_stitch (fun s => ?_) _ _ _).trans ?_
    | refine orRefuse_stitch ?_ _ _
    | refine (forEach_stitch (fun x s => ?_) _ _).trans ?_
    | refine (foldl_stitch (fun x s => ?_) _ _).trans ?_)

@[simp] theorem opChange_stitch (s : State) (x1) (x2) : (opChange s x1 x2).1.mix.stitch = s.mix.stitch := by
  unfold opChange
  try dsimp only
  repeat' (first
    | (simp; done)
    | split
    | refine (forEach_stitch (fun x s => ?_) _ _).trans ?_
    | refine (foldl_stitch (fun x s => ?_) _ _).trans ?_)

@[simp] theorem seWriteWords_stitch (s : State) (x1) (x2) : (seWriteWords s x1 x2).mix.stitch = s.mix.stitch := by
  unfold seWriteWords
  try dsimp only
  repeat' (first
    | (simp [ite_stitch]; done)
    | split
    | refine (forEach_stitch (fun x s => ?_) _ _).trans ?_
    | refine (foldl_stitch (fun x s => ?_) _ _).trans ?_)

@[simp] theorem opSchedWrite_stitch (s : State) (x1) (x2) : (opSchedWrite s x1 x2).1.mix.stitch = s.mix.stitch := by
  unfold opSchedWrite
  try dsimp only
  repeat' (first
    | with_reducible rfl
    | (simp; done)
    | split
    | refine (onBit_stitch (fun s => ?_) _ _ _).trans ?_
    | refine orRefuse_stitch ?_ _ _
    | refine (forEach_stitch (fun x s => ?_) _ _).trans ?_
    | refine (foldl_stitch (fun x s => ?_) _ _).trans ?_)

@[simp] theorem opSchedDel_stitch (s : State) (x1) (x2) : (opSchedDel s x1 x2).1.mix.stitch = s.mix.stitch := by
  unfold opSchedDel
  try dsimp only
  repeat' (first
    | with_reducible rfl
    | (simp; done)
    | split
    | refine (onBit_stitch (fun s => ?_) _ _ _).trans ?_
    | refine orRefuse_stitch ?_ _ _
    | refine (forEach_stitch (fun x s => ?_) _ _).trans ?_
    | refine (foldl_stitch (fun x s => ?_) _ _).trans ?_)

@[simp] theorem opEnable_stitch (s : State) (x1) (x2) : (opEnable s x1 x2).1.mix.stitch = s.mix.stitch := by
  unfold opEnable
  try dsimp only
  repeat' (first
    | with_reducible rfl
    | (simp; done)
    | split
    | refine (onBit_stitch (fun s => ?_) _ _ _).trans ?_
    | refine orRefuse_stitch ?_ _ _
    | refine (forEach_stitch (fun x s => ?_) _ _).trans ?_
    | refine (foldl_stitch (fun x s => ?_) _ _).trans ?_)

@[simp] theorem opRelease_stitch (s : State) (x1) (x2) : (opRelease s x1 x2).1.mix.stitch = s.mix.stitch := by
  unfold opRelease
  try dsimp only
  repeat' (first
    | with_reducible rfl
    | (simp; done)
    | split
    | refine (onBit_stitch (fun s => ?_) _ _ _).trans ?_
    | refine orRefuse_stitch ?_ _ _
    | refine (forEach_stitch (fun x s => ?_) _ _).trans ?_
    | refine (foldl_stitch (fun x s => ?_) _ _).trans ?_)

@[simp] theorem opMeterRead_stitch (s : State) (x1) (x2) : (opMeterRead s x1 x2).1.mix.stitch = s.mix.stitch := by
  unfold opMeterRead
  try dsimp only
  repeat' (first
    | with_reducible rfl
    | (simp; done)
    | split
    | refine (onBit_stitch (fun s => ?_) _ _ _).trans ?_
    | refine orRefuse_stitch ?_ _ _
    | refine (forEach_stitch (fun x s => ?_) _ _).trans ?_
    | refine (foldl_stitch (fun x s => ?_) _ _).trans ?_)

@[simp] theorem opSubscribe_stitch (s : State) (x1) (x2) : (opSubscribe s x1 x2).1.mix.stitch = s.mix.stitch := by
  unfold opSubscribe
  try dsimp only
  repeat' (first
    | with_reducible rfl
    | (simp; done)
    | split
    | refine (onBit_stitch (fun s => ?_) _ _ _).trans ?_
    | refine orRefuse_stitch ?_ _ _
    | refine (forEach_stitch (fun x s => ?_) _ _).trans ?_
    | refine (foldl_stitch (fun x s => ?_) _ _).trans ?_)

@[simp] theorem opAcceptStep_stitch (s : State) (x1) (x2) : (opAcceptStep s x1 x2).1.mix.stitch = s.mix.stitch := by
  unfold opAcceptStep
  try dsimp only
  repeat' (first
    | with_reducible rfl
    | (simp; done)
    | split
    | refine (onBit_stitch (fun s => ?_) _ _ _).trans ?_
    | refine orRefuse_stitch ?_ _ _
    | refine (forEach_stitch (fun x s => ?_) _ _).trans ?_
    | refine (foldl_stitch (fun x s => ?_) _ _).trans ?_)

@[simp] theorem fwdImage_stitch (s : State) (x1) (x2) (x3) (x4) : (fwdImage s x1 x2 x3 x4).mix.stitch = s.mix.stitch := by
  unfold fwdImage
  try dsimp only
  repeat' (first
    | (simp [ite_stitch]; done)
    | split
    | refine (forEach_stitch (fun x s => ?_) _ _).trans ?_
    | refine (foldl_stitch (fun x s => ?_) _ _).trans ?_)

theorem imageDone_stitch (x1) (r : Code × State) {f : State → State} (h : ∀ s, (f s).mix.stitch = s.mix.stitch) :
    (imageDone x1 r f).1.mix.stitch = r.2.mix.stitch := by
  unfold imageDone; split
  · exact h _
  · rfl

@[simp] theorem opImgBegin_stitch (s : State) (x1) (x2) : (opImgBegin s x1 x2).1.mix.stitch = s.mix.stitch := by
  unfold opImgBegin
  exact orRefuse_stitch ((imageDone_stitch _ _ fun t => by simp).trans (by simp)) _ _

@[simp] theorem opImgData_stitch (s : State) (x1) (x2) : (opImgData s x1 x2).1.mix.stitch = s.mix.stitch := by
  unfold opImgData; dsimp only
  split
  · split
    · rfl
    · exact orRefuse_stitch ((imageDone_stitch _ _ fun t => by simp).trans (by simp)) _ _
  · rfl

@[simp] theorem opImgEnd_stitch (s : State) (x1) (x2) : (opImgEnd s x1 x2).1.mix.stitch = s.mix.stitch := by
  unfold opImgEnd
  try dsimp only
  repeat' (first
    | (simp [ite_stitch]; done)
    | split
    | refine (forEach_stitch (fun x s => ?_) _ _).trans ?_
    | refine (foldl_stitch (fun x s => ?_) _ _).trans ?_)

@[simp] theorem opImgAbort_stitch (s : State) (x1) (x2) : (opImgAbort s x1 x2).1.mix.stitch = s.mix.stitch := by
  unfold opImgAbort
  try dsimp only
  repeat' (first
    | (simp [ite_stitch]; done)
    | split
    | refine (forEach_stitch (fun x s => ?_) _ _).trans ?_
    | refine (foldl_stitch (fun x s => ?_) _ _).trans ?_)

@[simp] theorem opFullReset_stitch (s : State) (x1) (x2) : (opFullReset s x1 x2).1.mix.stitch = s.mix.stitch := by
  unfold opFullReset
  try dsimp only
  repeat' (first
    | with_reducible rfl
    | (simp; done)
    | split
    | refine (onBit_stitch (fun s => ?_) _ _ _).trans ?_
    | refine orRefuse_stitch ?_ _ _
    | refine (forEach_stitch (fun x s => ?_) _ _).trans ?_
    | refine (foldl_stitch (fun x s => ?_) _ _).trans ?_)

@[simp] theorem opClose_stitch (s : State) (x1) (x2) : (opClose s x1 x2).1.mix.stitch = s.mix.stitch := rfl

@[simp] theorem stale_stitch (s : State) (x1) (x2) : (stale s x1 x2).mix.stitch = s.mix.stitch := by
  simp [stale]

@[simp] theorem sesDecision_stitch (s : State) (x1) : (sesDecision s x1).mix.stitch = s.mix.stitch := by
  unfold sesDecision; (repeat' split) <;> simp

@[simp] theorem freeOrphans_stitch (s : State) : (freeOrphans s).mix.stitch = s.mix.stitch := by
  simp [freeOrphans, forEach_stitch, ite_stitch]

@[simp] theorem sessionDecisions_stitch (s : State) : (sessionDecisions s).mix.stitch = s.mix.stitch := by
  unfold sessionDecisions
  try dsimp only
  repeat' (first
    | (simp [forEach_stitch, ite_stitch]; done)
    | split
    | refine (forEach_stitch (fun x s => ?_) _ _).trans ?_
    | refine (foldl_stitch (fun x s => ?_) _ _).trans ?_)

@[simp] theorem arpRequest_stitch (s : State) (x1) : (arpRequest s x1).mix.stitch = s.mix.stitch := by
  simp [arpRequest, ite_stitch]

@[simp] theorem fenceStep_stitch (s : State) (x1) : (fenceStep s x1).mix.stitch = s.mix.stitch := by
  unfold fenceStep; (repeat' split) <;> simp

@[simp] theorem groupStopped_stitch (s : State) (x1) : (groupStopped s x1).mix.stitch = s.mix.stitch := by
  simp [groupStopped, ite_stitch]

@[simp] theorem answerQuery_stitch (s : State) (x1) : (answerQuery s x1).mix.stitch = s.mix.stitch := by
  unfold answerQuery
  try dsimp only
  repeat' (first
    | (simp [ite_stitch]; done)
    | split
    | refine (forEach_stitch (fun x s => ?_) _ _).trans ?_
    | refine (foldl_stitch (fun x s => ?_) _ _).trans ?_)

@[simp] theorem cancelReports_stitch (s : State) (x1) (x2) : (cancelReports s x1 x2).mix.stitch = s.mix.stitch := by
  unfold cancelReports
  try dsimp only
  repeat' (first
    | (simp [ite_stitch]; done)
    | split
    | refine (forEach_stitch (fun x s => ?_) _ _).trans ?_
    | refine (foldl_stitch (fun x s => ?_) _ _).trans ?_)

@[simp] theorem memQuery_stitch (s : State) (x1) : (memQuery s x1).mix.stitch = s.mix.stitch := by
  unfold memQuery; (repeat' split) <;> simp

@[simp] theorem producerCommit_stitch (s : State) (x1) (x2) : (producerCommit s x1 x2).mix.stitch = s.mix.stitch := by
  unfold producerCommit; (repeat' split) <;> simp

@[simp] theorem spoolReady_stitch (s : State) (x1) : (spoolReady s x1).mix.stitch = s.mix.stitch := by
  unfold spoolReady; (repeat' split) <;> simp

@[simp] theorem moderationEnd_stitch (s : State) (x1) : (moderationEnd s x1).mix.stitch = s.mix.stitch := by
  unfold moderationEnd
  try dsimp only
  repeat' (first
    | (simp [ite_stitch]; done)
    | split
    | refine (forEach_stitch (fun x s => ?_) _ _).trans ?_
    | refine (foldl_stitch (fun x s => ?_) _ _).trans ?_)

@[simp] theorem holdoffOver_stitch (s : State) (x1) : (holdoffOver s x1).mix.stitch = s.mix.stitch := by
  unfold holdoffOver
  try dsimp only
  repeat' (first
    | (simp [ite_stitch]; done)
    | split
    | refine (forEach_stitch (fun x s => ?_) _ _).trans ?_
    | refine (foldl_stitch (fun x s => ?_) _ _).trans ?_)

@[simp] theorem pcieChange_stitch (s : State) (x1) (x2) (x3) : (pcieChange s x1 x2 x3).mix.stitch = s.mix.stitch := by
  unfold pcieChange
  try dsimp only
  repeat' (first
    | (simp [ite_stitch]; done)
    | split
    | refine (forEach_stitch (fun x s => ?_) _ _).trans ?_
    | refine (foldl_stitch (fun x s => ?_) _ _).trans ?_)

@[simp] theorem perstLow_stitch (s : State) : (perstLow s).mix.stitch = s.mix.stitch := by
  simp [perstLow]

@[simp] theorem perstHigh_stitch (s : State) : (perstHigh s).mix.stitch = s.mix.stitch := by
  unfold perstHigh; (repeat' split) <;> simp

@[simp] theorem tick_stitch (s : State) : (tick s).mix.stitch = s.mix.stitch := by
  unfold tick
  try dsimp only
  repeat' (first
    | (simp [ite_stitch]; done)
    | split
    | refine (forEach_stitch (fun x s => ?_) _ _).trans ?_
    | refine (foldl_stitch (fun x s => ?_) _ _).trans ?_)

end Sys2Proof.Machine
end

