-- ==== Sys2Proof/Laws/WitInputs.lean ====
section
/-! SUPPORT. The operations of ports, lanes, time bases, references, streams and spools leave the witness as it is. -/

namespace Sys2Proof.Machine

@[simp] theorem landReg_wit (s : State) (x1) (x2) (x3) : (landReg s x1 x2 x3).wit = s.wit := by
  unfold landReg; split <;> rfl

theorem forEach_wit {α : Type} {f : α → State → State} (h : ∀ x s, (f x s).wit = s.wit) (xs : List α) (s : State) :
    (forEach xs s f).wit = s.wit := by
  induction xs generalizing s with
  | nil => rfl
  | cons x xs ih => show (forEach xs (f x s) f).wit = _; rw [ih, h]

theorem foldl_wit {α : Type} {f : State → α → State} (h : ∀ s x, (f s x).wit = s.wit) (xs : List α) (s : State) :
    (xs.foldl f s).wit = s.wit := by
  induction xs generalizing s with
  | nil => rfl
  | cons x xs ih => show (xs.foldl f (f s x)).wit = _; rw [ih, h]

theorem ite_wit {c : Prop} [Decidable c] (a b : State) : (if c then a else b).wit = if c then a.wit else b.wit := by
  split <;> rfl

@[simp] theorem pushEdges_wit (s : State) (r n u) : (pushEdges s r n u).wit = s.wit := by unfold pushEdges; split <;> rfl

@[simp] theorem noteImage_wit (s : State) (x1) (x2) : (noteImage s x1 x2).wit = s.wit := rfl

@[simp] theorem setFd_wit (s : State) (x1) (x2) (x3) (x4) : (setFd s x1 x2 x3 x4).wit = s.wit := rfl

@[simp] theorem hitSource_wit (s : State) (x1) : (hitSource s x1).wit = s.wit := by
  unfold hitSource; (repeat' split) <;> simp

@[simp] theorem hitAttached_wit (s : State) (x1) (x2) (x3) : (hitAttached s x1 x2 x3).wit = s.wit := by
  simp [hitAttached, ite_wit]

@[simp] theorem raiseIf_wit (x0) (s : State) (x2) (x3) (x4) : (raiseIf x0 s x2 x3 x4).wit = s.wit := by
  unfold raiseIf; (repeat' split) <;> simp

@[simp] theorem wrLater_wit (s : State) (x1) (x2) (x3) (x4) : (wrLater s x1 x2 x3 x4).wit = s.wit := rfl

@[simp] theorem landWaits_wit (s : State) : (landWaits s).wit = s.wit := rfl

@[simp] theorem draw_wit (s : State) : (draw s).2.wit = s.wit := rfl

@[simp] theorem emit_wit (s : State) (x1) : (emit s x1).wit = s.wit := rfl

@[simp] theorem reportFault_wit (s : State) (x1) (x2) (x3) (x4) : (reportFault s x1 x2 x3 x4).wit = s.wit := rfl

@[simp] theorem setPort_wit (s : State) (x1) (x2) : (setPort s x1 x2).wit = s.wit := rfl

@[simp] theorem modCnt_wit (s : State) (x1) (x2) : (modCnt s x1 x2).wit = s.wit := rfl

@[simp] theorem setQueue_wit (s : State) (x1) (x2) (x3) : (setQueue s x1 x2 x3).wit = s.wit := rfl

@[simp] theorem flushPort_wit (s : State) (x1) : (flushPort s x1).wit = s.wit := rfl

@[simp] theorem portState_wit (s : State) (x1) (x2) : (portState s x1 x2).wit = s.wit := by
  unfold portState; (repeat' split) <;> simp

@[simp] theorem portEnable_wit (s : State) (x1) (x2) : (portEnable s x1 x2).wit = s.wit := by
  unfold portEnable; (repeat' split) <;> simp

@[simp] theorem linkUp_wit (s : State) (x1) (x2) (x3) : (linkUp s x1 x2 x3).wit = s.wit := by
  unfold linkUp; (repeat' split) <;> simp

@[simp] theorem negotiationFault_wit (s : State) (x1) (x2) : (negotiationFault s x1 x2).wit = s.wit := by
  unfold negotiationFault; (repeat' split) <;> simp

@[simp] theorem linkDown_wit (s : State) (x1) : (linkDown s x1).wit = s.wit := by
  unfold linkDown; (repeat' split) <;> simp

@[simp] theorem putMac_wit (s : State) (x1) (x2) : (putMac s x1 x2).wit = s.wit := rfl

@[simp] theorem dropMac_wit (s : State) (x1) : (dropMac s x1).wit = s.wit := rfl

@[simp] theorem macLearn_wit (s : State) (x1) (x2) (x3) : (macLearn s x1 x2 x3).wit = s.wit := by
  unfold macLearn; (repeat' split) <;> simp

@[simp] theorem macAdd_wit (s : State) (x1) (x2) (x3) : (macAdd s x1 x2 x3).wit = s.wit := by
  unfold macAdd; (repeat' split) <;> simp

@[simp] theorem macDel_wit (s : State) (x1) (x2) : (macDel s x1 x2).wit = s.wit := by
  unfold macDel; (repeat' split) <;> simp

@[simp] theorem macOwn_wit (s : State) (x1) (x2) : (macOwn s x1 x2).wit = s.wit := by
  unfold macOwn; (repeat' split) <;> simp

@[simp] theorem macDisown_wit (s : State) (x1) (x2) : (macDisown s x1 x2).wit = s.wit := by
  unfold macDisown; (repeat' split) <;> simp

@[simp] theorem macFlush_wit (s : State) : (macFlush s).wit = s.wit := rfl

@[simp] theorem macAge_wit (s : State) : (macAge s).wit = s.wit := rfl

@[simp] theorem enqueueFrame_wit (s : State) (x1) (x2) : (enqueueFrame s x1 x2).wit = s.wit := by
  simp [enqueueFrame, ite_wit]

@[simp] theorem ingress_wit (s : State) (x1) (x2) : (ingress s x1 x2).wit = s.wit := by
  unfold ingress
  try dsimp only
  repeat' (first
    | (simp [forEach_wit, ite_wit]; done)
    | split
    | refine (forEach_wit (fun x s => ?_) _ _).trans ?_
    | refine (foldl_wit (fun x s => ?_) _ _).trans ?_)

@[simp] theorem gateTake_wit (s : State) (x1) (x2) : (gateTake s x1 x2).wit = s.wit := by
  unfold gateTake
  try dsimp only
  repeat' (first
    | (simp [ite_wit]; done)
    | split
    | refine (forEach_wit (fun x s => ?_) _ _).trans ?_
    | refine (foldl_wit (fun x s => ?_) _ _).trans ?_)

@[simp] theorem gateTakeover_wit (s : State) (x1) : (gateTakeover s x1).wit = s.wit := by
  unfold gateTakeover; (repeat' split) <;> simp

@[simp] theorem gateEntry_wit (s : State) (x1) : (gateEntry s x1).wit = s.wit := by
  simp [gateEntry, ite_wit]

@[simp] theorem gateStep_wit (s : State) (x1) : (gateStep s x1).wit = s.wit := by
  unfold gateStep
  try dsimp only
  repeat' (first
    | (simp [ite_wit]; done)
    | split
    | refine (forEach_wit (fun x s => ?_) _ _).trans ?_
    | refine (foldl_wit (fun x s => ?_) _ _).trans ?_)

@[simp] theorem creditTick_wit (s : State) : (creditTick s).wit = s.wit := by
  simp [creditTick, forEach_wit, ite_wit]

@[simp] theorem tcCorrect_wit (s : State) (x1) (x2) : (tcCorrect s x1 x2).1.wit = s.wit := by
  unfold tcCorrect; (repeat' split) <;> simp

@[simp] theorem dropUnfit_wit (s : State) (x1) : (dropUnfit s x1).wit = s.wit := by
  unfold dropUnfit; refine forEach_wit (fun x s => ?_) _ _; (repeat' split) <;> simp

@[simp] theorem countTx_wit (s : State) (x1) (x2) : (countTx s x1 x2).wit = s.wit := rfl

@[simp] theorem startFrame_wit (s : State) (x1) (x2) : (startFrame s x1 x2).1.wit = s.wit := by
  unfold startFrame; (repeat' split) <;> simp

@[simp] theorem engineTake_wit (s : State) (x1) : (engineTake s x1).wit = s.wit := by
  induction x1 generalizing s with
  | zero => first | rfl | (simp [engineTake]; done) | (unfold engineTake; (repeat' split) <;> simp [ih])
  | succ n ih => simp only [engineTake]; (repeat' split) <;> simp [ih]

@[simp] theorem egress_wit (s : State) (x1) : (egress s x1).1.wit = s.wit := by
  unfold egress
  try dsimp only
  repeat' (first
    | (simp; done)
    | split
    | refine (forEach_wit (fun x s => ?_) _ _).trans ?_
    | refine (foldl_wit (fun x s => ?_) _ _).trans ?_)

@[simp] theorem addReport_wit (s : State) (x1) : (addReport s x1).wit = s.wit := rfl

@[simp] theorem reportTwice_wit (s : State) (x1) (x2) (x3) (x4) (x5) : (reportTwice s x1 x2 x3 x4 x5).wit = s.wit := rfl

@[simp] theorem sendReports_wit (s : State) : (sendReports s).wit = s.wit := by
  unfold sendReports
  try dsimp only
  repeat' (first
    | (simp [ite_wit]; done)
    | split
    | refine (forEach_wit (fun x s => ?_) _ _).trans ?_
    | refine (foldl_wit (fun x s => ?_) _ _).trans ?_)

@[simp] theorem setGroup_wit (s : State) (x1) (x2) : (setGroup s x1 x2).wit = s.wit := rfl

@[simp] theorem cgState_wit (s : State) (x1) (x2) : (cgState s x1 x2).wit = s.wit := by
  unfold cgState; (repeat' split) <;> simp

@[simp] theorem setSeam_wit (s : State) (x1) (x2) : (setSeam s x1 x2).wit = s.wit := rfl

@[simp] theorem seamState_wit (s : State) (x1) (x2) : (seamState s x1 x2).wit = s.wit := by
  unfold seamState; (repeat' split) <;> simp

@[simp] theorem holdSeams_wit (s : State) (x1) : (holdSeams s x1).wit = s.wit := by
  simp [holdSeams, forEach_wit]

@[simp] theorem releaseSeams_wit (s : State) (x1) : (releaseSeams s x1).wit = s.wit := by
  simp [releaseSeams, forEach_wit, ite_wit]

@[simp] theorem dropAcc_wit (s : State) (x1) : (dropAcc s x1).wit = s.wit := by
  unfold dropAcc
  try dsimp only
  repeat' (first
    | (simp [ite_wit]; done)
    | split
    | refine (forEach_wit (fun x s => ?_) _ _).trans ?_
    | refine (foldl_wit (fun x s => ?_) _ _).trans ?_)

@[simp] theorem lastGood_wit (s : State) (x1) : (lastGood s x1).wit = s.wit := rfl

@[simp] theorem seamTrig_wit (s : State) (x1) (x2) : (seamTrig s x1 x2).wit = s.wit := by
  unfold seamTrig
  try dsimp only
  repeat' (first
    | (simp [ite_wit]; done)
    | split
    | refine (forEach_wit (fun x s => ?_) _ _).trans ?_
    | refine (foldl_wit (fun x s => ?_) _ _).trans ?_)

@[simp] theorem cgStop_wit (s : State) (x1) : (cgStop s x1).wit = s.wit := by
  unfold cgStop
  try dsimp only
  repeat' (first
    | (simp [ite_wit]; done)
    | split
    | refine (forEach_wit (fun x s => ?_) _ _).trans ?_
    | refine (foldl_wit (fun x s => ?_) _ _).trans ?_)

@[simp] theorem cgRun_wit (s : State) (x1) (x2) : (cgRun s x1 x2).wit = s.wit := by
  simp [cgRun]

@[simp] theorem cgAnchor_wit (s : State) (x1) : (cgAnchor s x1).wit = s.wit := by
  simp [cgAnchor, ite_wit]

@[simp] theorem cgSettled_wit (s : State) (x1) : (cgSettled s x1).wit = s.wit := by
  unfold cgSettled
  try dsimp only
  repeat' (first
    | (simp [ite_wit]; done)
    | split
    | refine (forEach_wit (fun x s => ?_) _ _).trans ?_
    | refine (foldl_wit (fun x s => ?_) _ _).trans ?_)

@[simp] theorem cgReturns_wit (s : State) : (cgReturns s).wit = s.wit := by
  unfold cgReturns
  try dsimp only
  repeat' (first
    | (simp [ite_wit]; done)
    | split
    | refine (forEach_wit (fun x s => ?_) _ _).trans ?_
    | refine (foldl_wit (fun x s => ?_) _ _).trans ?_)

@[simp] theorem cgAnchored_wit (s : State) : (cgAnchored s).wit = s.wit := by
  unfold cgAnchored
  try dsimp only
  repeat' (first
    | (simp [ite_wit]; done)
    | split
    | refine (forEach_wit (fun x s => ?_) _ _).trans ?_
    | refine (foldl_wit (fun x s => ?_) _ _).trans ?_)

@[simp] theorem cgStopping_wit (s : State) (x1) : (cgStopping s x1).wit = s.wit := by
  unfold cgStopping
  try dsimp only
  repeat' (first
    | (simp; done)
    | split
    | refine (forEach_wit (fun x s => ?_) _ _).trans ?_
    | refine (foldl_wit (fun x s => ?_) _ _).trans ?_)

@[simp] theorem cgStopDone_wit (s : State) (x1) : (cgStopDone s x1).wit = s.wit := by
  simp [cgStopDone, ite_wit]

@[simp] theorem cgStart_wit (s : State) (x1) : (cgStart s x1).wit = s.wit := by
  unfold cgStart; (repeat' split) <;> simp

@[simp] theorem addSlots_wit (s : State) (x1) (x2) : (addSlots s x1 x2).wit = s.wit := by
  unfold addSlots
  refine forEach_wit (fun l s => ?_) _ s
  split
  · refine forEach_wit (fun k s => ?_) _ s; rfl
  · rfl

@[simp] theorem takeSlots_wit (s : State) (x1) (x2) : (takeSlots s x1 x2).wit = s.wit := by
  unfold takeSlots
  try dsimp only
  repeat' (first
    | (simp [ite_wit]; done)
    | split
    | refine (forEach_wit (fun x s => ?_) _ _).trans ?_
    | refine (foldl_wit (fun x s => ?_) _ _).trans ?_)

@[simp] theorem takeFrame_wit (s : State) (x1) (x2) : (takeFrame s x1 x2).wit = s.wit := by
  simp [takeFrame]

@[simp] theorem repeatFrame_wit (s : State) (x1) : (repeatFrame s x1).wit = s.wit := by
  simp [repeatFrame]

@[simp] theorem cgGlitch_wit (s : State) (x1) : (cgGlitch s x1).wit = s.wit := by
  simp [cgGlitch, ite_wit]

@[simp] theorem cgRateFault_wit (s : State) (x1) (x2) : (cgRateFault s x1 x2).wit = s.wit := by
  simp [cgRateFault]

@[simp] theorem cgGoodFrame_wit (s : State) (x1) (x2) : (cgGoodFrame s x1 x2).wit = s.wit := by
  simp [cgGoodFrame, ite_wit]

@[simp] theorem cgMeasureRate_wit (s : State) (x1) (x2) : (cgMeasureRate s x1 x2).wit = s.wit := by
  unfold cgMeasureRate; (repeat' split) <;> simp [ite_wit]

@[simp] theorem cgStable_wit (s : State) (x1) (x2) (x3) : (cgStable s x1 x2 x3).wit = s.wit := by
  unfold cgStable; (repeat' split) <;> simp [ite_wit]

@[simp] theorem cgCountStop_wit (s : State) (x1) : (cgCountStop s x1).wit = s.wit := by
  unfold cgCountStop
  try dsimp only
  repeat' (first
    | (simp [ite_wit]; done)
    | split
    | refine (forEach_wit (fun x s => ?_) _ _).trans ?_
    | refine (foldl_wit (fun x s => ?_) _ _).trans ?_)

@[simp] theorem cgCountOnly_wit (s : State) (x1) (x2) (x3) : (cgCountOnly s x1 x2 x3).wit = s.wit := by
  unfold cgCountOnly
  try dsimp only
  repeat' (first
    | (simp [ite_wit]; done)
    | split
    | refine (forEach_wit (fun x s => ?_) _ _).trans ?_
    | refine (foldl_wit (fun x s => ?_) _ _).trans ?_)

@[simp] theorem cgCountFrame_wit (s : State) (x1) : (cgCountFrame s x1).wit = s.wit := by
  unfold cgCountFrame
  try dsimp only
  repeat' (first
    | (simp [ite_wit]; done)
    | split
    | refine (forEach_wit (fun x s => ?_) _ _).trans ?_
    | refine (foldl_wit (fun x s => ?_) _ _).trans ?_)

@[simp] theorem judge_wit (s : State) (x1) (x2) : (judge s x1 x2).wit = s.wit := by
  unfold judge
  try dsimp only
  repeat' (first
    | (simp [ite_wit]; done)
    | split
    | refine (forEach_wit (fun x s => ?_) _ _).trans ?_
    | refine (foldl_wit (fun x s => ?_) _ _).trans ?_)

@[simp] theorem sendFrame_wit (s : State) (x1) (x2) : (sendFrame s x1 x2).wit = s.wit := by
  simp [sendFrame]

@[simp] theorem laneGate_wit (s : State) : (laneGate s).wit = s.wit := by
  unfold laneGate
  try dsimp only
  repeat' (first
    | (simp [ite_wit]; done)
    | split
    | refine (forEach_wit (fun x s => ?_) _ _).trans ?_
    | refine (foldl_wit (fun x s => ?_) _ _).trans ?_)

@[simp] theorem driveFrame_wit (s : State) (x1) : (driveFrame s x1).wit = s.wit := by
  simp [driveFrame, ite_wit]

@[simp] theorem frameStart_wit (s : State) (x1) (x2) : (frameStart s x1 x2).wit = s.wit := by
  unfold frameStart
  try dsimp only
  repeat' (first
    | (simp [ite_wit]; done)
    | split
    | refine (forEach_wit (fun x s => ?_) _ _).trans ?_
    | refine (foldl_wit (fun x s => ?_) _ _).trans ?_)

@[simp] theorem laneFrameStart_wit (s : State) (x1) (x2) : (laneFrameStart s x1 x2).wit = s.wit := by
  unfold laneFrameStart
  try dsimp only
  repeat' (first
    | (simp [ite_wit]; done)
    | split
    | refine (forEach_wit (fun x s => ?_) _ _).trans ?_
    | refine (foldl_wit (fun x s => ?_) _ _).trans ?_)

@[simp] theorem cgStopEvent_wit (s : State) (x1) : (cgStopEvent s x1).wit = s.wit := by
  simp [cgStopEvent, ite_wit]

@[simp] theorem cgClrCounts_wit (s : State) (x1) : (cgClrCounts s x1).wit = s.wit := rfl

@[simp] theorem cgSlip_wit (s : State) (x1) : (cgSlip s x1).wit = s.wit := by
  simp [cgSlip]

@[simp] theorem cgPhases_wit (s : State) (x1) : (cgPhases s x1).wit = s.wit := by
  simp [cgPhases, forEach_wit, ite_wit]

@[simp] theorem takeTails_wit (s : State) (x1) : (takeTails s x1).wit = s.wit := by
  unfold takeTails
  try dsimp only
  repeat' (first
    | (simp [ite_wit]; done)
    | split
    | refine (forEach_wit (fun x s => ?_) _ _).trans ?_
    | refine (foldl_wit (fun x s => ?_) _ _).trans ?_)

@[simp] theorem laneInputs_wit (s : State) : (laneInputs s).wit = s.wit := rfl

@[simp] theorem laneOutputs_wit (s : State) : (laneOutputs s).wit = s.wit := rfl

@[simp] theorem laneSteps_wit (s : State) : (laneSteps s).wit = s.wit := rfl

@[simp] theorem lateFrames_wit (s : State) : (lateFrames s).wit = s.wit := by
  simp [lateFrames, forEach_wit, ite_wit]

@[simp] theorem laneBoundary_wit (s : State) (x1) (x2) : (laneBoundary s x1 x2).wit = s.wit := by
  unfold laneBoundary
  try dsimp only
  repeat' (first
    | (simp [ite_wit]; done)
    | split
    | refine (forEach_wit (fun x s => ?_) _ _).trans ?_
    | refine (foldl_wit (fun x s => ?_) _ _).trans ?_)

@[simp] theorem setTbk_wit (s : State) (x1) (x2) : (setTbk s x1 x2).wit = s.wit := rfl

@[simp] theorem ptpSend_wit (s : State) (x1) (x2) (x3) (x4) : (ptpSend s x1 x2 x3 x4).wit = s.wit := by
  unfold ptpSend
  try dsimp only
  repeat' (first
    | (simp [ite_wit]; done)
    | split
    | refine (forEach_wit (fun x s => ?_) _ _).trans ?_
    | refine (foldl_wit (fun x s => ?_) _ _).trans ?_)

@[simp] theorem tbState_wit (s : State) (x1) (x2) : (tbState s x1 x2).wit = s.wit := by
  unfold tbState; (repeat' split) <;> simp

@[simp] theorem tbMaster_wit (s : State) (x1) (x2) : (tbMaster s x1 x2).wit = s.wit := by
  simp [tbMaster, ite_wit]

@[simp] theorem stopSlew_wit (s : State) (x1) : (stopSlew s x1).wit = s.wit := rfl

@[simp] theorem slew_wit (s : State) (x1) (x2) : (slew s x1 x2).wit = s.wit := rfl

@[simp] theorem applyStep_wit (s : State) (x1) : (applyStep s x1).wit = s.wit := by
  unfold applyStep
  try dsimp only
  repeat' (first
    | (simp [ite_wit]; done)
    | split
    | refine (forEach_wit (fun x s => ?_) _ _).trans ?_
    | refine (foldl_wit (fun x s => ?_) _ _).trans ?_)

@[simp] theorem commitStep_wit (s : State) (x1) : (commitStep s x1).wit = s.wit := by
  simp [commitStep, ite_wit]

@[simp] theorem jumpHold_wit (s : State) (x1) (x2) : (jumpHold s x1 x2).wit = s.wit := by
  simp [jumpHold]

@[simp] theorem refuseOffset_wit (s : State) (x1) (x2) : (refuseOffset s x1 x2).wit = s.wit := by
  simp [refuseOffset, ite_wit]

@[simp] theorem measure_wit (s : State) (x1) (x2) : (measure s x1 x2).wit = s.wit := by
  unfold measure
  try dsimp only
  repeat' (first
    | (simp [ite_wit]; done)
    | split
    | refine (forEach_wit (fun x s => ?_) _ _).trans ?_
    | refine (foldl_wit (fun x s => ?_) _ _).trans ?_)

@[simp] theorem ownMaster_wit (s : State) (x1) : (ownMaster s x1).wit = s.wit := by
  unfold ownMaster
  try dsimp only
  repeat' (first
    | (simp [ite_wit]; done)
    | split
    | refine (forEach_wit (fun x s => ?_) _ _).trans ?_
    | refine (foldl_wit (fun x s => ?_) _ _).trans ?_)

@[simp] theorem becomeMaster_wit (s : State) (x1) : (becomeMaster s x1).wit = s.wit := by
  unfold becomeMaster
  try dsimp only
  repeat' (first
    | (simp [ite_wit]; done)
    | split
    | refine (forEach_wit (fun x s => ?_) _ _).trans ?_
    | refine (foldl_wit (fun x s => ?_) _ _).trans ?_)

@[simp] theorem announce_wit (s : State) (x1) (x2) : (announce s x1 x2).wit = s.wit := by
  unfold announce
  try dsimp only
  repeat' (first
    | (simp [ite_wit]; done)
    | split
    | refine (forEach_wit (fun x s => ?_) _ _).trans ?_
    | refine (foldl_wit (fun x s => ?_) _ _).trans ?_)

@[simp] theorem syncMeasured_wit (s : State) (x1) (x2) (x3) : (syncMeasured s x1 x2 x3).wit = s.wit := by
  simp [syncMeasured]

@[simp] theorem setMpd_wit (s : State) (x1) (x2) : (setMpd s x1 x2).wit = s.wit := rfl

@[simp] theorem relay_wit (s : State) (x1) (x2) (x3) (x4) : (relay s x1 x2 x3 x4).wit = s.wit := by
  unfold relay
  try dsimp only
  repeat' (first
    | (simp [ite_wit]; done)
    | split
    | refine (forEach_wit (fun x s => ?_) _ _).trans ?_
    | refine (foldl_wit (fun x s => ?_) _ _).trans ?_)

@[simp] theorem answered_wit (s : State) (x1) (x2) (x3) (x4 : Int → State) (h : ∀ x, (x4 x).wit = s.wit) : (answered s x1 x2 x3 x4).wit = s.wit := by
  unfold answered; (repeat' split) <;> simp [h]

@[simp] theorem ptpReceive_wit (s : State) (x1) (x2) (x3) : (ptpReceive s x1 x2 x3).wit = s.wit := by
  unfold ptpReceive
  try dsimp only
  repeat' (first
    | (simp [ite_wit]; done)
    | split
    | refine answered_wit _ _ _ _ _ (fun t => ?_))

@[simp] theorem announceTimeout_wit (s : State) (x1) : (announceTimeout s x1).wit = s.wit := by
  unfold announceTimeout
  try dsimp only
  repeat' (first
    | (simp [ite_wit]; done)
    | split
    | refine (forEach_wit (fun x s => ?_) _ _).trans ?_
    | refine (foldl_wit (fun x s => ?_) _ _).trans ?_)

@[simp] theorem annSend_wit (s : State) (x1) : (annSend s x1).wit = s.wit := by
  unfold annSend
  try dsimp only
  repeat' (first
    | (simp [ite_wit]; done)
    | split
    | refine (forEach_wit (fun x s => ?_) _ _).trans ?_
    | refine (foldl_wit (fun x s => ?_) _ _).trans ?_)

@[simp] theorem syncSend_wit (s : State) (x1) : (syncSend s x1).wit = s.wit := by
  unfold syncSend
  try dsimp only
  repeat' (first
    | (simp [ite_wit]; done)
    | split
    | refine (forEach_wit (fun x s => ?_) _ _).trans ?_
    | refine (foldl_wit (fun x s => ?_) _ _).trans ?_)

@[simp] theorem delaySend_wit (s : State) (x1) : (delaySend s x1).wit = s.wit := by
  unfold delaySend
  try dsimp only
  repeat' (first
    | (simp [ite_wit]; done)
    | split
    | refine (forEach_wit (fun x s => ?_) _ _).trans ?_
    | refine (foldl_wit (fun x s => ?_) _ _).trans ?_)

@[simp] theorem masterSend_wit (s : State) (x1) : (masterSend s x1).wit = s.wit := by
  simp [masterSend, ite_wit]

@[simp] theorem persistExpire_wit (s : State) (x1) : (persistExpire s x1).wit = s.wit := by
  unfold persistExpire
  try dsimp only
  repeat' (first
    | (simp [ite_wit]; done)
    | split
    | refine (forEach_wit (fun x s => ?_) _ _).trans ?_
    | refine (foldl_wit (fun x s => ?_) _ _).trans ?_)

@[simp] theorem tbEnable_wit (s : State) (x1) (x2) : (tbEnable s x1 x2).wit = s.wit := by
  simp [tbEnable, ite_wit]

@[simp] theorem snapTb_wit (s : State) (x1) : (snapTb s x1).wit = s.wit := rfl

@[simp] theorem tbClrCounts_wit (s : State) (x1) : (tbClrCounts s x1).wit = s.wit := rfl

@[simp] theorem tickAll_wit (s : State) : (tickAll s).wit = s.wit := rfl

@[simp] theorem stepPhase_wit (s : State) (x1) : (stepPhase s x1).wit = s.wit := by
  unfold stepPhase
  try dsimp only
  repeat' (first
    | (simp [ite_wit]; done)
    | split
    | refine (forEach_wit (fun x s => ?_) _ _).trans ?_
    | refine (foldl_wit (fun x s => ?_) _ _).trans ?_)

@[simp] theorem tbMirror_wit (s : State) (x1) (x2) : (tbMirror s x1 x2).wit = s.wit := by
  simp [tbMirror, ite_wit]

@[simp] theorem pdelaySend_wit (s : State) (x1) : (pdelaySend s x1).wit = s.wit := by
  unfold pdelaySend; (repeat' split) <;> simp

@[simp] theorem pdelayReceive_wit (s : State) (x1) (x2) (x3) : (pdelayReceive s x1 x2 x3).wit = s.wit := by
  unfold pdelayReceive
  try dsimp only
  repeat' (first
    | (simp [ite_wit]; done)
    | split
    | refine (forEach_wit (fun x s => ?_) _ _).trans ?_
    | refine (foldl_wit (fun x s => ?_) _ _).trans ?_)

@[simp] theorem setSlot_wit (s : State) (x1) (x2) : (setSlot s x1 x2).wit = s.wit := rfl

@[simp] theorem setMc_wit (s : State) (x1) (x2) : (setMc s x1 x2).wit = s.wit := rfl

@[simp] theorem wrWindow_wit (s : State) (x1) (x2) (x3) (x4) : (wrWindow s x1 x2 x3 x4).wit = s.wit := rfl

@[simp] theorem landWindow_wit (s : State) : (landWindow s).wit = s.wit := rfl

@[simp] theorem slotState_wit (s : State) (x1) (x2) : (slotState s x1 x2).wit = s.wit := by
  simp [slotState, ite_wit]

@[simp] theorem slotUp_wit (s : State) (x1) : (slotUp s x1).wit = s.wit := by
  unfold slotUp; (repeat' split) <;> simp

@[simp] theorem slotDown_wit (s : State) (x1) : (slotDown s x1).wit = s.wit := by
  unfold slotDown; (repeat' split) <;> simp

@[simp] theorem slotJump_wit (s : State) (x1) : (slotJump s x1).wit = s.wit := by
  unfold slotJump; (repeat' split) <;> simp

@[simp] theorem judgeSource_wit (s : State) (x1) : (judgeSource s x1).wit = s.wit := by
  simp [judgeSource, ite_wit]

@[simp] theorem windowEnd_wit (s : State) (x1) (x2) : (windowEnd s x1 x2).wit = s.wit := by
  unfold windowEnd
  try dsimp only
  repeat' (first
    | (simp [ite_wit]; done)
    | split
    | refine (forEach_wit (fun x s => ?_) _ _).trans ?_
    | refine (foldl_wit (fun x s => ?_) _ _).trans ?_)

@[simp] theorem tcxoWatch_wit (s : State) : (tcxoWatch s).wit = s.wit := rfl

@[simp] theorem tcxoClear_wit (s : State) : (tcxoClear s).wit = s.wit := by
  unfold tcxoClear; (repeat' split) <;> simp [ite_wit]

@[simp] theorem mcState_wit (s : State) (x1) (x2) : (mcState s x1 x2).wit = s.wit := by
  simp [mcState, ite_wit]

@[simp] theorem startSwitch_wit (s : State) (x1) (x2) : (startSwitch s x1 x2).wit = s.wit := by
  simp [startSwitch]

@[simp] theorem mcRunOn_wit (s : State) (x1) : (mcRunOn s x1).wit = s.wit := by
  unfold mcRunOn
  try dsimp only
  repeat' (first
    | (simp [ite_wit]; done)
    | split
    | refine (forEach_wit (fun x s => ?_) _ _).trans ?_
    | refine (foldl_wit (fun x s => ?_) _ _).trans ?_)

@[simp] theorem swRun_wit (s : State) (x1) : (swRun s x1).wit = s.wit := by
  unfold swRun
  try dsimp only
  repeat' (first
    | (simp [ite_wit]; done)
    | split
    | refine (forEach_wit (fun x s => ?_) _ _).trans ?_
    | refine (foldl_wit (fun x s => ?_) _ _).trans ?_)

@[simp] theorem enterHoldover_wit (s : State) (x1) : (enterHoldover s x1).wit = s.wit := by
  simp [enterHoldover]

@[simp] theorem enterLost_wit (s : State) (x1) : (enterLost s x1).wit = s.wit := by
  simp [enterLost]

@[simp] theorem fallBack_wit (s : State) (x1) : (fallBack s x1).wit = s.wit := by
  unfold fallBack; (repeat' split) <;> simp

theorem mcRow_wit {s t : State} {m : Nat} (h : mcRow s m = some t) : t.wit = s.wit := by
  unfold mcRow at h; dsimp only at h
  repeat' split at h
  all_goals first | cases h; done | (injection h with h; subst h; simp)

@[simp] theorem mcEval_wit (s : State) (x1) : (mcEval s x1).wit = s.wit := by
  unfold mcEval; split
  · rfl
  · cases h : mcRow s x1 with
    | none => rfl
    | some t => exact mcRow_wit h

@[simp] theorem mcEvalAll_wit (s : State) : (mcEvalAll s).wit = s.wit := by
  simp [mcEvalAll, forEach_wit]

@[simp] theorem realignOn_wit (s : State) (x1) : (realignOn s x1).wit = s.wit := by
  unfold realignOn
  try dsimp only
  repeat' (first
    | (simp [ite_wit]; done)
    | split
    | refine (forEach_wit (fun x s => ?_) _ _).trans ?_
    | refine (foldl_wit (fun x s => ?_) _ _).trans ?_)

@[simp] theorem mcLock_wit (s : State) (x1) : (mcLock s x1).wit = s.wit := by
  unfold mcLock
  try dsimp only
  repeat' (first
    | (simp [forEach_wit, ite_wit]; done)
    | split
    | refine (forEach_wit (fun x s => ?_) _ _).trans ?_
    | refine (foldl_wit (fun x s => ?_) _ _).trans ?_)

@[simp] theorem swOff_wit (s : State) (x1) : (swOff s x1).wit = s.wit := by
  unfold swOff
  repeat' (first
    | (simp; done)
    | (rename_i h; exact mcRow_wit h)
    | split)

@[simp] theorem refEdge_wit (s : State) (x1) (x2) : (refEdge s x1 x2).wit = s.wit := by
  simp [refEdge, ite_wit]

@[simp] theorem refSignalLoss_wit (s : State) (x1) : (refSignalLoss s x1).wit = s.wit := by
  simp [refSignalLoss]

@[simp] theorem qualWindowEnd_wit (s : State) (x1) (x2) : (qualWindowEnd s x1 x2).wit = s.wit := by
  simp [qualWindowEnd]

@[simp] theorem qtimeExpire_wit (s : State) (x1) : (qtimeExpire s x1).wit = s.wit := by
  unfold qtimeExpire; (repeat' split) <;> simp

@[simp] theorem wtrExpire_wit (s : State) (x1) : (wtrExpire s x1).wit = s.wit := by
  unfold wtrExpire; (repeat' split) <;> simp

@[simp] theorem holdoverLimit_wit (s : State) (x1) : (holdoverLimit s x1).wit = s.wit := by
  simp [holdoverLimit, ite_wit]

@[simp] theorem relearn_wit (s : State) (x1) : (relearn s x1).wit = s.wit := rfl

@[simp] theorem swStep_wit (s : State) (x1) : (swStep s x1).wit = s.wit := by
  unfold swStep
  try dsimp only
  repeat' (first
    | (simp [ite_wit]; done)
    | split
    | refine (forEach_wit (fun x s => ?_) _ _).trans ?_
    | refine (foldl_wit (fun x s => ?_) _ _).trans ?_)

@[simp] theorem phaseStepDone_wit (s : State) (x1) : (phaseStepDone s x1).wit = s.wit := by
  unfold phaseStepDone; (repeat' split) <;> simp

@[simp] theorem mcRelocked_wit (s : State) (x1) : (mcRelocked s x1).wit = s.wit := by
  unfold mcRelocked
  try dsimp only
  repeat' (first
    | (simp [ite_wit]; done)
    | split
    | refine (forEach_wit (fun x s => ?_) _ _).trans ?_
    | refine (foldl_wit (fun x s => ?_) _ _).trans ?_)

@[simp] theorem learn_wit (s : State) (x1) : (learn s x1).wit = s.wit := by
  simp [learn, ite_wit]

@[simp] theorem holdTick_wit (s : State) (x1) : (holdTick s x1).wit = s.wit := by
  simp [holdTick, ite_wit]

@[simp] theorem mcPhase_wit (s : State) (x1) (x2) : (mcPhase s x1 x2).wit = s.wit := by
  simp [mcPhase, forEach_wit, ite_wit]

@[simp] theorem mcLoop_wit (s : State) (x1) (x2) : (mcLoop s x1 x2).wit = s.wit := by
  unfold mcLoop
  try dsimp only
  repeat' (first
    | (simp [ite_wit]; done)
    | split
    | refine (forEach_wit (fun x s => ?_) _ _).trans ?_
    | refine (foldl_wit (fun x s => ?_) _ _).trans ?_)

@[simp] theorem gridWatch_wit (s : State) : (gridWatch s).wit = s.wit := by
  simp [gridWatch, ite_wit]

@[simp] theorem mcBlock_wit (s : State) : (mcBlock s).wit = s.wit := by
  unfold mcBlock
  try dsimp only
  repeat' (first
    | (simp [ite_wit]; done)
    | split
    | refine (forEach_wit (fun x s => ?_) _ _).trans ?_
    | refine (foldl_wit (fun x s => ?_) _ _).trans ?_)

@[simp] theorem mcsPass_wit (s : State) : (mcsPass s).wit = s.wit := by
  unfold mcsPass
  try dsimp only
  repeat' (first
    | (simp [ite_wit]; done)
    | split
    | refine (forEach_wit (fun x s => ?_) _ _).trans ?_
    | refine (foldl_wit (fun x s => ?_) _ _).trans ?_)

@[simp] theorem refBoundary_wit (s : State) (x1) (x2) : (refBoundary s x1 x2).wit = s.wit := by
  unfold refBoundary
  try dsimp only
  repeat' (first
    | (simp [forEach_wit, ite_wit]; done)
    | split
    | refine (forEach_wit (fun x s => ?_) _ _).trans ?_)

@[simp] theorem refAudioStart_wit (s : State) (x1) : (refAudioStart s x1).wit = s.wit := by
  unfold refAudioStart
  try dsimp only
  repeat' (first
    | (simp; done)
    | split
    | refine (forEach_wit (fun x s => ?_) _ _).trans ?_)

@[simp] theorem setRx_wit (s : State) (x1) (x2) : (setRx s x1 x2).wit = s.wit := rfl

@[simp] theorem setTx_wit (s : State) (x1) (x2) : (setTx s x1 x2).wit = s.wit := rfl

@[simp] theorem acrAnchor_wit (s : State) (x1) (x2) : (acrAnchor s x1 x2).wit = s.wit := by
  simp [acrAnchor, ite_wit]

@[simp] theorem acrFollow_wit (s : State) (x1) (x2) (x3) : (acrFollow s x1 x2 x3).wit = s.wit := by
  unfold acrFollow
  try dsimp only
  repeat' (first
    | (simp [ite_wit]; done)
    | split
    | refine (forEach_wit (fun x s => ?_) _ _).trans ?_
    | refine (foldl_wit (fun x s => ?_) _ _).trans ?_)

@[simp] theorem legAccept_wit (s : State) (x1) (x2) (x3) (x4) : (legAccept s x1 x2 x3 x4).wit = s.wit := by
  simp [legAccept, ite_wit]

@[simp] theorem countLate_wit (s : State) (x1) : (countLate s x1).wit = s.wit := by
  unfold countLate
  try dsimp only
  repeat' (first
    | (simp [ite_wit]; done)
    | split
    | refine (forEach_wit (fun x s => ?_) _ _).trans ?_
    | refine (foldl_wit (fun x s => ?_) _ _).trans ?_)

@[simp] theorem acceptPacket_wit (s : State) (x1) (x2) (x3) : (acceptPacket s x1 x2 x3).wit = s.wit := by
  simp [acceptPacket, ite_wit]

@[simp] theorem packetReceive_wit (s : State) (x1) : (packetReceive s x1).wit = s.wit := by
  unfold packetReceive; (repeat' split) <;> simp

@[simp] theorem refill_wit (s : State) (x1) (x2) (x3) : (refill s x1 x2 x3).wit = s.wit := by
  simp [refill, ite_wit]

@[simp] theorem rxState_wit (s : State) (x1) (x2) : (rxState s x1 x2).wit = s.wit := by
  unfold rxState; (repeat' split) <;> simp

@[simp] theorem rxTimeout_wit (s : State) (x1) : (rxTimeout s x1).wit = s.wit := by
  unfold rxTimeout
  try dsimp only
  repeat' (first
    | (simp [ite_wit]; done)
    | split
    | refine (forEach_wit (fun x s => ?_) _ _).trans ?_
    | refine (foldl_wit (fun x s => ?_) _ _).trans ?_)

@[simp] theorem legTimeout_wit (s : State) (x1) (x2) : (legTimeout s x1 x2).wit = s.wit := by
  unfold legTimeout
  try dsimp only
  repeat' (first
    | (simp [ite_wit]; done)
    | split
    | refine (forEach_wit (fun x s => ?_) _ _).trans ?_
    | refine (foldl_wit (fun x s => ?_) _ _).trans ?_)

@[simp] theorem underrun_wit (s : State) (x1) : (underrun s x1).wit = s.wit := by
  unfold underrun
  try dsimp only
  repeat' (first
    | (simp; done)
    | split
    | refine (forEach_wit (fun x s => ?_) _ _).trans ?_
    | refine (foldl_wit (fun x s => ?_) _ _).trans ?_)

@[simp] theorem handOver_wit (s : State) (x1) (x2) (x3) (x4) : (handOver s x1 x2 x3 x4).wit = s.wit := by
  unfold handOver
  try dsimp only
  repeat' (first
    | (simp [ite_wit]; done)
    | split
    | refine (forEach_wit (fun x s => ?_) _ _).trans ?_
    | refine (foldl_wit (fun x s => ?_) _ _).trans ?_)

@[simp] theorem rxDecided_wit (s : State) (x1) (x2) : (rxDecided s x1 x2).wit = s.wit := by
  unfold rxDecided
  try dsimp only
  repeat' (first
    | (simp [ite_wit]; done)
    | split
    | refine (forEach_wit (fun x s => ?_) _ _).trans ?_
    | refine (foldl_wit (fun x s => ?_) _ _).trans ?_)

@[simp] theorem handOverTo_wit (s : State) (x1) (x2) (x3) (x4) : (handOverTo s x1 x2 x3 x4).wit = s.wit := by
  induction x4 generalizing s with
  | zero => rfl
  | succ n ih => simp only [handOverTo]; (repeat' split) <;> simp [ih]

@[simp] theorem acrDue_wit (s : State) (x1) : (acrDue s x1).2.wit = s.wit := by
  unfold acrDue
  try dsimp only
  repeat' (first
    | (simp [ite_wit]; done)
    | split
    | refine (forEach_wit (fun x s => ?_) _ _).trans ?_
    | refine (foldl_wit (fun x s => ?_) _ _).trans ?_)

@[simp] theorem rxForeignBlocks_wit (s : State) (x1) (x2) (x3) (x4) (x5) : (rxForeignBlocks s x1 x2 x3 x4 x5).wit = s.wit := by
  unfold rxForeignBlocks
  try dsimp only
  repeat' (first
    | (simp [ite_wit]; done)
    | split
    | refine (forEach_wit (fun x s => ?_) _ _).trans ?_
    | refine (foldl_wit (fun x s => ?_) _ _).trans ?_)

@[simp] theorem rxBlock_wit (s : State) (x1) : (rxBlock s x1).wit = s.wit := by
  unfold rxBlock
  try dsimp only
  repeat' (first
    | (simp [ite_wit]; done)
    | split
    | refine (forEach_wit (fun x s => ?_) _ _).trans ?_
    | refine (foldl_wit (fun x s => ?_) _ _).trans ?_)

@[simp] theorem rxSilent_wit (s : State) (x1) : (rxSilent s x1).wit = s.wit := by
  simp [rxSilent, ite_wit]

@[simp] theorem rxBoundary_wit (s : State) : (rxBoundary s).wit = s.wit := by
  simp [rxBoundary, forEach_wit, ite_wit]

@[simp] theorem legOwn_wit (s : State) (x1) (x2) (x3) (x4) (x5) : (legOwn s x1 x2 x3 x4 x5).wit = s.wit := by
  unfold legOwn
  try dsimp only
  repeat' (first
    | (simp [ite_wit]; done)
    | split
    | refine (forEach_wit (fun x s => ?_) _ _).trans ?_
    | refine (foldl_wit (fun x s => ?_) _ _).trans ?_)

@[simp] theorem rxGroups_wit (s : State) (x1) (x2) : (rxGroups s x1 x2).wit = s.wit := by
  unfold rxGroups
  try dsimp only
  repeat' (first
    | (simp [ite_wit]; done)
    | split
    | refine (forEach_wit (fun x s => ?_) _ _).trans ?_
    | refine (foldl_wit (fun x s => ?_) _ _).trans ?_)

@[simp] theorem rxOn_wit (s : State) (x1) (x2) (x3) : (rxOn s x1 x2 x3).wit = s.wit := by
  simp [rxOn, ite_wit]

@[simp] theorem rxOff_wit (s : State) (x1) : (rxOff s x1).wit = s.wit := by
  simp [rxOff, ite_wit]

@[simp] theorem txBlock_wit (s : State) (x1) : (txBlock s x1).wit = s.wit := by
  simp [txBlock]

@[simp] theorem asTail_wit (s : State) (x1) (x2) : (asTail s x1 x2).wit = s.wit := by
  unfold asTail
  try dsimp only
  repeat' (first
    | (simp [ite_wit]; done)
    | split
    | refine (forEach_wit (fun x s => ?_) _ _).trans ?_
    | refine (foldl_wit (fun x s => ?_) _ _).trans ?_)

@[simp] theorem putTail_wit (s : State) (x1) (x2) (x3) (x4) : (putTail s x1 x2 x3 x4).wit = s.wit := by
  unfold putTail
  try dsimp only
  repeat' (first
    | (simp [ite_wit]; done)
    | split
    | refine (forEach_wit (fun x s => ?_) _ _).trans ?_
    | refine (foldl_wit (fun x s => ?_) _ _).trans ?_)

@[simp] theorem txBoundary_wit (s : State) : (txBoundary s).wit = s.wit := by
  simp [txBoundary, forEach_wit, ite_wit]

@[simp] theorem txRole_wit (s : State) (x1) : (txRole s x1).wit = s.wit := by
  unfold txRole
  try dsimp only
  repeat' (first
    | (simp [ite_wit]; done)
    | split
    | refine (forEach_wit (fun x s => ?_) _ _).trans ?_
    | refine (foldl_wit (fun x s => ?_) _ _).trans ?_)

@[simp] theorem txQueue_wit (s : State) (x1) (x2) : (txQueue s x1 x2).wit = s.wit := by
  unfold txQueue
  try dsimp only
  repeat' (first
    | (simp [ite_wit]; done)
    | split
    | refine (forEach_wit (fun x s => ?_) _ _).trans ?_
    | refine (foldl_wit (fun x s => ?_) _ _).trans ?_)

@[simp] theorem txSend_wit (s : State) (x1) (x2) (x3) (x4) : (txSend s x1 x2 x3 x4).wit = s.wit := by
  unfold txSend
  try dsimp only
  repeat' (first
    | (simp [ite_wit]; done)
    | split
    | refine (forEach_wit (fun x s => ?_) _ _).trans ?_
    | refine (foldl_wit (fun x s => ?_) _ _).trans ?_)

@[simp] theorem txPacketStart_wit (s : State) (x1) : (txPacketStart s x1).wit = s.wit := by
  unfold txPacketStart
  try dsimp only
  repeat' (first
    | (simp [forEach_wit, ite_wit]; done)
    | split
    | refine (forEach_wit (fun x s => ?_) _ _).trans ?_
    | refine (foldl_wit (fun x s => ?_) _ _).trans ?_)

@[simp] theorem txLeft_wit (s : State) (x1) (x2) : (txLeft s x1 x2).wit = s.wit := by
  unfold txLeft; (repeat' split) <;> simp [ite_wit]

@[simp] theorem frameEgress_wit (s : State) (x1) : (frameEgress s x1).wit = s.wit := by
  have h := egress_wit s x1
  unfold frameEgress
  split <;> rename_i t _ e <;> rw [e] at h
  · simpa using h
  · exact h

@[simp] theorem txOn_wit (s : State) (x1) (x2) (x3) : (txOn s x1 x2 x3).wit = s.wit := by
  simp [txOn, ite_wit]

@[simp] theorem txOff_wit (s : State) (x1) : (txOff s x1).wit = s.wit := by
  simp [txOff, ite_wit]

@[simp] theorem clrRx_wit (s : State) (x1) : (clrRx s x1).wit = s.wit := rfl

@[simp] theorem clrTx_wit (s : State) (x1) : (clrTx s x1).wit = s.wit := rfl

@[simp] theorem clrHank_wit (s : State) (x1) : (clrHank s x1).wit = s.wit := rfl

@[simp] theorem setSp_wit (s : State) (x1) (x2) : (setSp s x1 x2).wit = s.wit := rfl

@[simp] theorem storeWatch_wit (s : State) : (storeWatch s).wit = s.wit := by
  simp [storeWatch, ite_wit]

@[simp] theorem putSpool_wit (s : State) (x1) (x2) : (putSpool s x1 x2).wit = s.wit := by
  simp [putSpool, ite_wit]

@[simp] theorem windowReadEvent_wit (s : State) (x1) (x2) : (windowReadEvent s x1 x2).wit = s.wit := by
  simp [windowReadEvent, ite_wit]

@[simp] theorem answerStalled_wit (s : State) (x1) : (answerStalled s x1).wit = s.wit := by
  unfold answerStalled; dsimp only; (try split); (try rfl)
  all_goals exact (forEach_wit (fun x s => by simp) _ _).trans (by simp)

@[simp] theorem expireStalled_wit (s : State) : (expireStalled s).wit = s.wit := by
  unfold expireStalled; dsimp only; (try split); (try rfl)
  all_goals exact (forEach_wit (fun x s => by simp) _ _).trans (by simp)

@[simp] theorem pOpen_wit (s : State) (x1) (x2) : (pOpen s x1 x2).2.wit = s.wit := by
  unfold pOpen
  try dsimp only
  repeat' (first
    | (simp; done)
    | split
    | refine (forEach_wit (fun x s => ?_) _ _).trans ?_
    | refine (foldl_wit (fun x s => ?_) _ _).trans ?_)

@[simp] theorem pData_wit (s : State) (x1) (x2) (x3) : (pData s x1 x2 x3).2.wit = s.wit := by
  unfold pData
  try dsimp only
  repeat' (first
    | (simp; done)
    | split
    | refine (forEach_wit (fun x s => ?_) _ _).trans ?_
    | refine (foldl_wit (fun x s => ?_) _ _).trans ?_)

@[simp] theorem pEnd_wit (s : State) (x1) (x2) : (pEnd s x1 x2).2.wit = s.wit := by
  unfold pEnd
  try dsimp only
  repeat' (first
    | (simp; done)
    | split
    | refine (forEach_wit (fun x s => ?_) _ _).trans ?_
    | refine (foldl_wit (fun x s => ?_) _ _).trans ?_)

@[simp] theorem pAbort_wit (s : State) (x1) : (pAbort s x1).2.wit = s.wit := by
  unfold pAbort
  try dsimp only
  repeat' (first
    | (simp; done)
    | split
    | refine (forEach_wit (fun x s => ?_) _ _).trans ?_
    | refine (foldl_wit (fun x s => ?_) _ _).trans ?_)

@[simp] theorem cAdvance_wit (s : State) (x1) (x2) : (cAdvance s x1 x2).2.wit = s.wit := by
  unfold cAdvance
  try dsimp only
  repeat' (first
    | (simp; done)
    | split
    | refine (forEach_wit (fun x s => ?_) _ _).trans ?_
    | refine (foldl_wit (fun x s => ?_) _ _).trans ?_)

@[simp] theorem cDrop_wit (s : State) (x1) : (cDrop s x1).2.wit = s.wit := by
  unfold cDrop
  try dsimp only
  repeat' (first
    | (simp; done)
    | split
    | refine (forEach_wit (fun x s => ?_) _ _).trans ?_
    | refine (foldl_wit (fun x s => ?_) _ _).trans ?_)

@[simp] theorem cMark_wit (s : State) (x1) : (cMark s x1).2.wit = s.wit := by
  unfold cMark
  try dsimp only
  repeat' (first
    | (simp; done)
    | split
    | refine (forEach_wit (fun x s => ?_) _ _).trans ?_
    | refine (foldl_wit (fun x s => ?_) _ _).trans ?_)

@[simp] theorem cRewind_wit (s : State) (x1) : (cRewind s x1).2.wit = s.wit := by
  unfold cRewind
  try dsimp only
  repeat' (first
    | (simp; done)
    | split
    | refine (forEach_wit (fun x s => ?_) _ _).trans ?_
    | refine (foldl_wit (fun x s => ?_) _ _).trans ?_)

@[simp] theorem cCmd_wit (s : State) (x1) (x2) : (cCmd s x1 x2).2.wit = s.wit := by
  unfold cCmd
  try dsimp only
  repeat' (first
    | (simp; done)
    | split
    | refine (forEach_wit (fun x s => ?_) _ _).trans ?_
    | refine (foldl_wit (fun x s => ?_) _ _).trans ?_)

@[simp] theorem pEndWrite_wit (s : State) (x1) (x2) : (pEndWrite s x1 x2).2.wit = s.wit := by
  unfold pEndWrite; (repeat' split) <;> simp

@[simp] theorem windowWrite_wit (s : State) (x1) (x2) (x3) (x4) : (windowWrite s x1 x2 x3 x4).2.wit = s.wit := by
  unfold windowWrite; (repeat' split) <;> simp

@[simp] theorem internalCommit_wit (s : State) (x1) (x2) : (internalCommit s x1 x2).1.wit = s.wit := by
  unfold internalCommit
  try dsimp only
  repeat' (first
    | (simp; done)
    | split
    | refine (forEach_wit (fun x s => ?_) _ _).trans ?_
    | refine (foldl_wit (fun x s => ?_) _ _).trans ?_)

@[simp] theorem internalOpen_wit (s : State) (x1) (x2) (x3) (x4) : (internalOpen s x1 x2 x3 x4).1.wit = s.wit := by
  unfold internalOpen
  try dsimp only
  repeat' (first
    | (simp [ite_wit]; done)
    | split
    | refine (forEach_wit (fun x s => ?_) _ _).trans ?_
    | refine (foldl_wit (fun x s => ?_) _ _).trans ?_)

@[simp] theorem internalAbort_wit (s : State) (x1) : (internalAbort s x1).wit = s.wit := by
  unfold internalAbort
  try dsimp only
  repeat' (first
    | (simp [ite_wit]; done)
    | split
    | refine (forEach_wit (fun x s => ?_) _ _).trans ?_
    | refine (foldl_wit (fun x s => ?_) _ _).trans ?_)

@[simp] theorem internalWrite_wit (s : State) (x1) (x2) : (internalWrite s x1 x2).1.wit = s.wit := by
  unfold internalWrite
  try dsimp only
  repeat' (first
    | (simp [ite_wit]; done)
    | split
    | refine (forEach_wit (fun x s => ?_) _ _).trans ?_
    | refine (foldl_wit (fun x s => ?_) _ _).trans ?_)

@[simp] theorem internalEnd_wit (s : State) (x1) (x2) (x3) : (internalEnd s x1 x2 x3).wit = s.wit := by
  unfold internalEnd
  try dsimp only
  repeat' (first
    | (simp [ite_wit]; done)
    | split
    | refine (forEach_wit (fun x s => ?_) _ _).trans ?_
    | refine (foldl_wit (fun x s => ?_) _ _).trans ?_)

@[simp] theorem internalFinish_wit (s : State) (x1) : (internalFinish s x1).wit = s.wit := by
  simp [internalFinish]

@[simp] theorem flushSpool_wit (s : State) (x1) : (flushSpool s x1).wit = s.wit := by
  simp [flushSpool]

@[simp] theorem resetSpool_wit (s : State) (x1) : (resetSpool s x1).wit = s.wit := by
  simp [resetSpool]

@[simp] theorem spoolResetDone_wit (s : State) (x1) : (spoolResetDone s x1).wit = s.wit := by
  simp [spoolResetDone, ite_wit]

@[simp] theorem disableSpool_wit (s : State) (x1) : (disableSpool s x1).wit = s.wit := by
  unfold disableSpool; dsimp only; rw [setFd_wit, setFd_wit, putSpool_wit, flushSpool_wit]

@[simp] theorem splClrCounts_wit (s : State) (x1) : (splClrCounts s x1).wit = s.wit := rfl

@[simp] theorem spW0Write_wit (s : State) (x1) (x2) : (spW0Write s x1 x2).wit = s.wit := by
  simp [spW0Write, ite_wit]

@[simp] theorem takeHostBlock_wit (s : State) (x1) (x2) : (takeHostBlock s x1 x2).1.wit = s.wit := by
  induction x2 generalizing s with
  | zero => rfl
  | succ n ih => unfold takeHostBlock; dsimp only; (repeat' split) <;> simp [ih]

@[simp] theorem hostSilence_wit (s : State) : (hostSilence s).wit = s.wit := by
  unfold hostSilence
  try dsimp only
  repeat' (first
    | (simp; done)
    | split
    | refine (forEach_wit (fun x s => ?_) _ _).trans ?_
    | refine (foldl_wit (fun x s => ?_) _ _).trans ?_)

@[simp] theorem hostInput_wit (s : State) : (hostInput s).wit = s.wit := by
  unfold hostInput
  try dsimp only
  repeat' (first
    | (simp [ite_wit]; done)
    | split
    | refine (forEach_wit (fun x s => ?_) _ _).trans ?_
    | refine (foldl_wit (fun x s => ?_) _ _).trans ?_)

@[simp] theorem hostOutDefine_wit (s : State) (x1) : (hostOutDefine s x1).wit = s.wit := by
  unfold hostOutDefine
  try dsimp only
  repeat' (first
    | (simp [ite_wit]; done)
    | split
    | refine (forEach_wit (fun x s => ?_) _ _).trans ?_
    | refine (foldl_wit (fun x s => ?_) _ _).trans ?_)

@[simp] theorem hostOutOpen_wit (s : State) (x1) : (hostOutOpen s x1).wit = s.wit := by
  unfold hostOutOpen
  try dsimp only
  repeat' (first
    | (simp [ite_wit]; done)
    | split
    | refine (forEach_wit (fun x s => ?_) _ _).trans ?_
    | refine (foldl_wit (fun x s => ?_) _ _).trans ?_)

@[simp] theorem hostOutWrite_wit (s : State) (x1) (x2) : (hostOutWrite s x1 x2).wit = s.wit := by
  unfold hostOutWrite
  try dsimp only
  repeat' (first
    | (simp [ite_wit]; done)
    | split
    | refine (forEach_wit (fun x s => ?_) _ _).trans ?_
    | refine (foldl_wit (fun x s => ?_) _ _).trans ?_)

@[simp] theorem hostOutput_wit (s : State) : (hostOutput s).wit = s.wit := by
  unfold hostOutput
  try dsimp only
  repeat' (first
    | (simp [ite_wit]; done)
    | split
    | refine (forEach_wit (fun x s => ?_) _ _).trans ?_
    | refine (foldl_wit (fun x s => ?_) _ _).trans ?_)

end Sys2Proof.Machine
end

