-- ==== Sys2Proof/Laws/WitMix.lean ====
section
/-! SUPPORT. The operations of the mix, the fabric, control I/O and the stitch leave the witness as it is. -/

namespace Sys2Proof.Machine

@[simp] theorem setChain_wit (s : State) (x1) (x2) : (setChain s x1 x2).wit = s.wit := rfl

@[simp] theorem setHem_wit (s : State) (x1) (x2) : (setHem s x1 x2).wit = s.wit := rfl

@[simp] theorem setMeter_wit (s : State) (x1) (x2) : (setMeter s x1 x2).wit = s.wit := rfl

@[simp] theorem setVox_wit (s : State) (x1) (x2) : (setVox s x1 x2).wit = s.wit := rfl

@[simp] theorem naBoundary_wit (s : State) (x1) : (naBoundary s x1).wit = s.wit := by
  simp [naBoundary, ite_wit]

@[simp] theorem naRelease_wit (s : State) (x1) : (naRelease s x1).wit = s.wit := by
  simp [naRelease, ite_wit]

@[simp] theorem hemBlock_wit (s : State) (x1) (x2) (x3) (x4) : (hemBlock s x1 x2 x3 x4).2.wit = s.wit := by
  unfold hemBlock
  try dsimp only
  repeat' (first
    | (simp; done)
    | split
    | refine (forEach_wit (fun x s => ?_) _ _).trans ?_
    | refine (foldl_wit (fun x s => ?_) _ _).trans ?_)

@[simp] theorem hemClear_wit (s : State) (x1) : (hemClear s x1).wit = s.wit := by
  unfold hemClear
  try dsimp only
  repeat' (first
    | (simp [ite_wit]; done)
    | split
    | refine (forEach_wit (fun x s => ?_) _ _).trans ?_
    | refine (foldl_wit (fun x s => ?_) _ _).trans ?_)

@[simp] theorem meterTick_wit (s : State) (x1) : (meterTick s x1).wit = s.wit := rfl

@[simp] theorem meterHold_wit (s : State) (x1) : (meterHold s x1).wit = s.wit := by
  unfold meterHold
  try dsimp only
  repeat' (first
    | (simp [ite_wit]; done)
    | split
    | refine (forEach_wit (fun x s => ?_) _ _).trans ?_
    | refine (foldl_wit (fun x s => ?_) _ _).trans ?_)

@[simp] theorem meterOff_wit (s : State) (x1) : (meterOff s x1).wit = s.wit := rfl

@[simp] theorem meterOn_wit (s : State) (x1) (x2) (x3) : (meterOn s x1 x2 x3).wit = s.wit := by
  simp [meterOn, ite_wit]

@[simp] theorem voxTick_wit (s : State) (x1) : (voxTick s x1).wit = s.wit := by
  simp [voxTick, ite_wit]

@[simp] theorem voxAgain_wit (s : State) (x1) : (voxAgain s x1).wit = s.wit := by
  unfold voxAgain
  try dsimp only
  repeat' (first
    | (simp [ite_wit]; done)
    | split
    | refine (forEach_wit (fun x s => ?_) _ _).trans ?_
    | refine (foldl_wit (fun x s => ?_) _ _).trans ?_)

@[simp] theorem voxOn_wit (s : State) (x1) : (voxOn s x1).wit = s.wit := by
  simp [voxOn, ite_wit]

@[simp] theorem voxOff_wit (s : State) (x1) : (voxOff s x1).wit = s.wit := by
  simp [voxOff, ite_wit]

@[simp] theorem voxDisable_wit (s : State) (x1) : (voxDisable s x1).wit = s.wit := rfl

@[simp] theorem voxEnable_wit (s : State) (x1) (x2) (x3) : (voxEnable s x1 x2 x3).wit = s.wit := by
  simp [voxEnable, ite_wit]

@[simp] theorem metersGone_wit (s : State) : (metersGone s).wit = s.wit := rfl

@[simp] theorem metersBoundary_wit (s : State) : (metersBoundary s).wit = s.wit := by
  simp [metersBoundary, forEach_wit, ite_wit]

@[simp] theorem setConv_wit (s : State) (x1) (x2) : (setConv s x1 x2).wit = s.wit := rfl

@[simp] theorem seamReanchor_wit (s : State) (x1) : (seamReanchor s x1).wit = s.wit := rfl

@[simp] theorem seamJump_wit (s : State) (x1) (x2) (x3) : (seamJump s x1 x2 x3).wit = s.wit := by
  unfold seamJump
  try dsimp only
  repeat' (first
    | (simp [ite_wit]; done)
    | split
    | refine (forEach_wit (fun x s => ?_) _ _).trans ?_
    | refine (foldl_wit (fun x s => ?_) _ _).trans ?_)

@[simp] theorem seamInputStop_wit (s : State) (x1) : (seamInputStop s x1).wit = s.wit := by
  unfold seamInputStop
  try dsimp only
  repeat' (first
    | (simp [ite_wit]; done)
    | split
    | refine (forEach_wit (fun x s => ?_) _ _).trans ?_
    | refine (foldl_wit (fun x s => ?_) _ _).trans ?_)

@[simp] theorem seamRun_wit (s : State) (x1) : (seamRun s x1).wit = s.wit := by
  simp [seamRun]

@[simp] theorem seamRange_wit (s : State) (x1) : (seamRange s x1).wit = s.wit := by
  simp [seamRange]

@[simp] theorem seamHold_wit (s : State) (x1) : (seamHold s x1).wit = s.wit := by
  simp [seamHold]

@[simp] theorem seamAct_wit (s : State) (x1) : (seamAct s x1).wit = s.wit := by
  unfold seamAct
  try dsimp only
  repeat' (first
    | (simp [ite_wit]; done)
    | split
    | refine (forEach_wit (fun x s => ?_) _ _).trans ?_
    | refine (foldl_wit (fun x s => ?_) _ _).trans ?_)

@[simp] theorem seamTimers_wit (s : State) (x1) : (seamTimers s x1).wit = s.wit := by
  unfold seamTimers
  try dsimp only
  repeat' (first
    | (simp [ite_wit]; done)
    | split
    | refine (forEach_wit (fun x s => ?_) _ _).trans ?_
    | refine (foldl_wit (fun x s => ?_) _ _).trans ?_)

@[simp] theorem seamTrainEnd_wit (s : State) (x1) : (seamTrainEnd s x1).wit = s.wit := by
  unfold seamTrainEnd
  try dsimp only
  repeat' (first
    | (simp [ite_wit]; done)
    | split
    | refine (forEach_wit (fun x s => ?_) _ _).trans ?_
    | refine (foldl_wit (fun x s => ?_) _ _).trans ?_)

@[simp] theorem seamMeasured_wit (s : State) (x1) (x2) : (seamMeasured s x1 x2).wit = s.wit := by
  unfold seamMeasured
  try dsimp only
  repeat' (first
    | (simp [ite_wit]; done)
    | split
    | refine (forEach_wit (fun x s => ?_) _ _).trans ?_
    | refine (foldl_wit (fun x s => ?_) _ _).trans ?_)

@[simp] theorem seamRecover_wit (s : State) (x1) : (seamRecover s x1).wit = s.wit := by
  unfold seamRecover
  try dsimp only
  repeat' (first
    | (simp [ite_wit]; done)
    | split
    | refine (forEach_wit (fun x s => ?_) _ _).trans ?_
    | refine (foldl_wit (fun x s => ?_) _ _).trans ?_)

@[simp] theorem seamOn_wit (s : State) (x1) (x2) (x3) : (seamOn s x1 x2 x3).wit = s.wit := by
  simp [seamOn, ite_wit]

@[simp] theorem seamOff_wit (s : State) (x1) : (seamOff s x1).wit = s.wit := by
  simp [seamOff, ite_wit]

@[simp] theorem scOn_wit (s : State) (x1) (x2) (x3) : (scOn s x1 x2 x3).wit = s.wit := by
  simp [scOn, ite_wit]

@[simp] theorem scOff_wit (s : State) (x1) : (scOff s x1).wit = s.wit := rfl

@[simp] theorem freeBlock_wit (x0) (x1) (s : State) (x3) : (freeBlock x0 x1 s x3).2.wit = s.wit := by
  induction x1 generalizing s x3 with
  | zero => rfl
  | succ n ih => simp only [freeBlock, draw]; rw [ih]

@[simp] theorem seamBlock_wit (s : State) (x1) : (seamBlock s x1).wit = s.wit := by
  unfold seamBlock
  try dsimp only
  repeat' (first
    | (simp; done)
    | split
    | refine (forEach_wit (fun x s => ?_) _ _).trans ?_
    | refine (foldl_wit (fun x s => ?_) _ _).trans ?_)

@[simp] theorem seamEstimate_wit (s : State) (x1) : (seamEstimate s x1).wit = s.wit := by
  unfold seamEstimate
  try dsimp only
  repeat' (first
    | (simp [ite_wit]; done)
    | split
    | refine (forEach_wit (fun x s => ?_) _ _).trans ?_
    | refine (foldl_wit (fun x s => ?_) _ _).trans ?_)

@[simp] theorem seamStep_wit (s : State) (x1) : (seamStep s x1).wit = s.wit := by
  unfold seamStep
  try dsimp only
  repeat' (first
    | (simp [ite_wit]; done)
    | split
    | refine (forEach_wit (fun x s => ?_) _ _).trans ?_
    | refine (foldl_wit (fun x s => ?_) _ _).trans ?_)

@[simp] theorem convStep_wit (s : State) (x1) : (convStep s x1).wit = s.wit := by
  unfold convStep
  try dsimp only
  repeat' (first
    | (simp [ite_wit]; done)
    | split
    | refine (forEach_wit (fun x s => ?_) _ _).trans ?_
    | refine (foldl_wit (fun x s => ?_) _ _).trans ?_)

@[simp] theorem bridgeBoundary_wit (s : State) (x1) : (bridgeBoundary s x1).wit = s.wit := by
  simp [bridgeBoundary, forEach_wit, ite_wit]

@[simp] theorem replayTake_wit (s : State) (x1) : (replayTake s x1).wit = s.wit := by
  unfold replayTake
  try dsimp only
  repeat' (first
    | (simp [ite_wit]; done)
    | split
    | refine (forEach_wit (fun x s => ?_) _ _).trans ?_
    | refine (foldl_wit (fun x s => ?_) _ _).trans ?_)

@[simp] theorem replayBoundary_wit (s : State) : (replayBoundary s).wit = s.wit := by
  simp [replayBoundary, forEach_wit]

@[simp] theorem setPin_wit (s : State) (x1) (x2) : (setPin s x1 x2).wit = s.wit := rfl

@[simp] theorem setCo_wit (s : State) (x1) (x2) : (setCo s x1 x2).wit = s.wit := rfl

@[simp] theorem setSe_wit (s : State) (x1) (x2) : (setSe s x1 x2).wit = s.wit := rfl

@[simp] theorem takeLevel_wit (s : State) (x1) : (takeLevel s x1).wit = s.wit := by
  simp [takeLevel, ite_wit]

@[simp] theorem gpioEdge_wit (s : State) (x1) (x2) : (gpioEdge s x1 x2).wit = s.wit := by
  simp [gpioEdge, ite_wit]

@[simp] theorem gpioDebounced_wit (s : State) (x1) : (gpioDebounced s x1).wit = s.wit := by
  unfold gpioDebounced; (repeat' split) <;> simp

@[simp] theorem clrEdges_wit (s : State) (x1) : (clrEdges s x1).wit = s.wit := rfl

@[simp] theorem ruleOff_wit (s : State) (x1) : (ruleOff s x1).wit = s.wit := by
  unfold ruleOff
  try dsimp only
  repeat' (first
    | (simp [ite_wit]; done)
    | split
    | refine (forEach_wit (fun x s => ?_) _ _).trans ?_
    | refine (foldl_wit (fun x s => ?_) _ _).trans ?_)

@[simp] theorem evalBoth_wit (s : State) (x1) : (evalBoth s x1).wit = s.wit := rfl

@[simp] theorem coDisagree_wit (s : State) (x1) (x2) : (coDisagree s x1 x2).wit = s.wit := rfl

@[simp] theorem coSettle_wit (s : State) (x1) (x2) : (coSettle s x1 x2).wit = s.wit := by
  simp [coSettle, ite_wit]

@[simp] theorem coBoundary_wit (s : State) (x1) : (coBoundary s x1).wit = s.wit := by
  simp [coBoundary, ite_wit]

@[simp] theorem coReadback_wit (s : State) (x1) (x2) (x3) : (coReadback s x1 x2 x3).wit = s.wit := by
  simp [coReadback, ite_wit]

@[simp] theorem coClr_wit (s : State) (x1) : (coClr s x1).wit = s.wit := rfl

@[simp] theorem coCfgWrite_wit (s : State) (x1) (x2) : (coCfgWrite s x1 x2).wit = s.wit := by
  simp [coCfgWrite, ite_wit]

@[simp] theorem coGateAll_wit (s : State) : (coGateAll s).wit = s.wit := by
  simp [coGateAll, forEach_wit, ite_wit]

@[simp] theorem seRun_wit (s : State) (x1) (x2) (x3) : (seRun s x1 x2 x3).wit = s.wit := by
  unfold seRun
  try dsimp only
  repeat' (first
    | (simp [ite_wit]; done)
    | split
    | refine (forEach_wit (fun x s => ?_) _ _).trans ?_
    | refine (foldl_wit (fun x s => ?_) _ _).trans ?_)

@[simp] theorem seMirrored_wit (s : State) (x1) (x2) : (seMirrored s x1 x2).wit = s.wit := by
  unfold seMirrored
  try dsimp only
  repeat' (first
    | (simp [ite_wit]; done)
    | split
    | refine (forEach_wit (fun x s => ?_) _ _).trans ?_
    | refine (foldl_wit (fun x s => ?_) _ _).trans ?_)

@[simp] theorem seArm_wit (s : State) (x1) : (seArm s x1).wit = s.wit := by
  simp [seArm, ite_wit]

@[simp] theorem seAdmitted_wit (s : State) (x1) (x2) : (seAdmitted s x1 x2).wit = s.wit := by
  simp [seAdmitted, ite_wit]

@[simp] theorem seRefused_wit (s : State) (x1) (x2) : (seRefused s x1 x2).wit = s.wit := by
  unfold seRefused
  try dsimp only
  repeat' (first
    | (simp [ite_wit]; done)
    | split
    | refine (forEach_wit (fun x s => ?_) _ _).trans ?_
    | refine (foldl_wit (fun x s => ?_) _ _).trans ?_)

@[simp] theorem scheduleFire_wit (s : State) : (scheduleFire s).wit = s.wit := by
  simp [scheduleFire, forEach_wit, ite_wit]

@[simp] theorem stepPasses_wit (s : State) (x1) : (stepPasses s x1).wit = s.wit := by
  simp [stepPasses, forEach_wit, ite_wit]

@[simp] theorem pulseEnd_wit (s : State) (x1) : (pulseEnd s x1).wit = s.wit := by
  unfold pulseEnd; (repeat' split) <;> simp

@[simp] theorem seDisarm_wit (s : State) (x1) : (seDisarm s x1).wit = s.wit := by
  unfold seDisarm
  try dsimp only
  repeat' (first
    | (simp [ite_wit]; done)
    | split
    | refine (forEach_wit (fun x s => ?_) _ _).trans ?_
    | refine (foldl_wit (fun x s => ?_) _ _).trans ?_)

@[simp] theorem keyGates_wit (s : State) : (keyGates s).wit = s.wit := rfl

@[simp] theorem duckAll_wit (s : State) : (duckAll s).wit = s.wit := rfl

@[simp] theorem runChains_wit (s : State) : (runChains s).wit = s.wit := rfl

@[simp] theorem runDst_wit (x0) (x1) (x2) (s : State) : (runDst x0 x1 x2 s).wit = s.wit := by
  unfold runDst; split
  · rfl
  · dsimp only; rw [State.setMix_wit, hemBlock_wit]

@[simp] theorem keepHems_wit (s : State) : (keepHems s).wit = s.wit := rfl

@[simp] theorem engine_wit (s : State) (x1) : (engine s x1).wit = s.wit := by
  simp [engine, forEach_wit, ite_wit]

@[simp] theorem setNeedle_wit (s : State) (x1) (x2) : (setNeedle s x1 x2).wit = s.wit := rfl

@[simp] theorem vRaise_wit (s : State) (x1) : (vRaise s x1).wit = s.wit := rfl

@[simp] theorem vcoreSettled_wit (s : State) : (vcoreSettled s).wit = s.wit := by
  simp [vcoreSettled, ite_wit]

@[simp] theorem holdExpire_wit (s : State) : (holdExpire s).wit = s.wit := by
  unfold holdExpire; (repeat' split) <;> simp

@[simp] theorem stepDown_wit (s : State) : (stepDown s).wit = s.wit := by
  simp [stepDown, ite_wit]

@[simp] theorem logShed_wit (s : State) (x1) : (logShed s x1).wit = s.wit := rfl

@[simp] theorem logCand_wit (s : State) (x1) (x2) : (logCand s x1 x2).wit = s.wit := by
  unfold logCand
  try dsimp only
  repeat' (first
    | with_reducible rfl
    | (simp; done)
    | split
    | refine (forEach_wit (fun x s => ?_) _ _).trans ?_
    | refine (foldl_wit (fun x s => ?_) _ _).trans ?_)

@[simp] theorem dropHeld_wit (s : State) (x1) : (dropHeld s x1).wit = s.wit := by
  unfold dropHeld; rfl

@[simp] theorem shed_wit (s : State) (x1) (x2) : (shed s x1 x2).1.wit = s.wit := by
  unfold shed
  extract_lets t ls going cs d0
  split
  split
  · rfl
  · extract_lets objs a b
    rw [raise_wit]
    exact (forEach_wit (fun c s => dropHeld_wit s c) _ _).trans (forEach_wit (fun c s => logCand_wit s _ c) _ _)

@[simp] theorem faultNet_wit (s : State) : (faultNet s).wit = s.wit := by
  unfold faultNet; (repeat' split) <;> simp

@[simp] theorem vcoreEval_wit (s : State) : (vcoreEval s).wit = s.wit := by
  unfold vcoreEval; (repeat' split) <;> simp [ite_wit]

@[simp] theorem faultWaiting_wit (s : State) : (faultWaiting s).wit = s.wit := by
  unfold faultWaiting
  dsimp only
  split
  · exact faultNet_wit s
  · exact faultNet_wit s

@[simp] theorem vToCap_wit (s : State) : (vToCap s).wit = s.wit := by
  simp [vToCap, ite_wit]

@[simp] theorem exhaust_wit (s : State) : (exhaust s).wit = s.wit := by
  unfold exhaust; (repeat' split) <;> simp

@[simp] theorem shedTo_wit (s : State) (x1) (x2) : (shedTo s x1 x2).wit = s.wit := by
  simp [shedTo, ite_wit]

@[simp] theorem paceFault_wit (s : State) (x1) : (paceFault s x1).wit = s.wit := by
  unfold paceFault; exact (vToCap_wit _).trans ((faultWaiting_wit _).trans ((shedTo_wit _ _ _).trans (raise_wit _ _ _ _)))

@[simp] theorem fenceDst_wit (s : State) (x1) : (fenceDst s x1).wit = s.wit := by
  unfold fenceDst; (repeat' split) <;> simp

@[simp] theorem fenceMiss_wit (s : State) (x1) (x2) : (fenceMiss s x1 x2).wit = s.wit := by
  unfold fenceMiss
  extract_lets a b
  have hb : b.wit = s.wit := (forEach_wit (fun d s => fenceDst_wit s d) _ _).trans (raise_wit a _ _ _)
  rw [vToCap_wit, faultWaiting_wit, shedTo_wit, hb]

@[simp] theorem needleOut_wit (s : State) (x1) : (needleOut s x1).wit = s.wit := by
  unfold needleOut
  extract_lets x a cap res
  have h := shed_wit a 3 fun d => fits a d res cap false
  rw [raise_wit, setNeedle_wit] at h
  generalize shed a 3 (fun d => fits a d res cap false) = p at h
  obtain ⟨b, d⟩ := p
  dsimp only at h ⊢
  split
  · exact (vcoreEval_wit _).trans ((exhaust_wit _).trans h)
  · exact (vcoreEval_wit _).trans h

@[simp] theorem judgePace_wit (s : State) (x1) : (judgePace s x1).wit = s.wit := by
  unfold judgePace
  extract_lets t a b pace slow was ok c
  have hb : b.wit = s.wit := by
    refine (forEach_wit (fun k s => ?_) _ _).trans (forEach_wit (fun k s => setNeedle_wit s k _) _ _)
    dsimp only
    (repeat' split) <;> simp
  have hc : c.wit = s.wit := (State.setFab_wit _ _).trans hb
  split
  · rw [reportFault_wit, paceFault_wit]; exact hc
  · exact hc

@[simp] theorem fence_wit (s : State) (x1) : (fence s x1).wit = s.wit := by
  simp [fence, ite_wit]

@[simp] theorem addRequest_wit (s : State) (x1) (x2) (x3) (x4) : (addRequest s x1 x2 x3 x4).wit = s.wit := rfl

@[simp] theorem regRequest_wit (s : State) (x1) : (regRequest s x1).wit = s.wit := rfl

@[simp] theorem asEnabled_wit (s : State) : (asEnabled s).wit = s.wit := by
  unfold asEnabled; refine forEach_wit (fun x s => ?_) _ _; (repeat' split) <;> simp

@[simp] theorem recordDecision_wit (s : State) (x1) : (recordDecision s x1).wit = s.wit := rfl

@[simp] theorem commitOk_wit (s : State) (x1) (x2) : (commitOk s x1 x2).wit = s.wit := by
  unfold commitOk; (repeat' split) <;> simp

@[simp] theorem commitRefused_wit (s : State) (x1) (x2) (x3) : (commitRefused s x1 x2 x3).wit = s.wit := by
  unfold commitRefused; (repeat' split) <;> simp

@[simp] theorem enableOk_wit (s : State) (x1) (x2) (x3) : (enableOk s x1 x2 x3).wit = s.wit := by
  simp [enableOk, ite_wit]

@[simp] theorem admitReq_wit (s : State) (x1) : (admitReq s x1).wit = s.wit := by
  unfold admitReq; (repeat' split) <;> simp

@[simp] theorem afterDecision_wit (s : State) : (afterDecision s).wit = s.wit := by
  unfold afterDecision; (repeat' split) <;> simp

@[simp] theorem admissionDecide_wit (s : State) : (admissionDecide s).wit = s.wit := by
  unfold admissionDecide
  try dsimp only
  repeat' (first
    | (simp [ite_wit]; done)
    | split
    | refine (forEach_wit (fun x s => ?_) _ _).trans ?_
    | refine (foldl_wit (fun x s => ?_) _ _).trans ?_)

@[simp] theorem vcoreConfirmed_wit (s : State) : (vcoreConfirmed s).wit = s.wit := by
  unfold vcoreConfirmed
  try dsimp only
  repeat' (first
    | (simp [ite_wit]; done)
    | split
    | refine (forEach_wit (fun x s => ?_) _ _).trans ?_
    | refine (foldl_wit (fun x s => ?_) _ _).trans ?_)

@[simp] theorem settleDecided_wit (s : State) : (settleDecided s).wit = s.wit := by
  unfold settleDecided; refine forEach_wit (fun x s => ?_) _ _; (repeat' split) <;> simp

@[simp] theorem putSet_wit (s : State) (x1) (x2) : (putSet s x1 x2).wit = s.wit := rfl

@[simp] theorem bsOpen_wit (s : State) (x1) (x2) : (bsOpen s x1 x2).wit = s.wit := rfl

@[simp] theorem bsAdd_wit (s : State) (x1) (x2) : (bsAdd s x1 x2).wit = s.wit := rfl

@[simp] theorem bsDeciding_wit (s : State) (x1) : (bsDeciding s x1).wit = s.wit := rfl

@[simp] theorem bsFree_wit (s : State) (x1) : (bsFree s x1).wit = s.wit := rfl

@[simp] theorem seDel_wit (s : State) (x1) : (seDel s x1).wit = s.wit := by
  unfold seDel
  try dsimp only
  repeat' (first
    | (simp [ite_wit]; done)
    | split
    | refine (forEach_wit (fun x s => ?_) _ _).trans ?_
    | refine (foldl_wit (fun x s => ?_) _ _).trans ?_)

@[simp] theorem bsOwnerGone_wit (s : State) (x1) : (bsOwnerGone s x1).wit = s.wit := by
  unfold bsOwnerGone; refine forEach_wit (fun k s => ?_) _ _; dsimp only; (repeat' split) <;> simp

@[simp] theorem putSes_wit (s : State) (x1) (x2) : (putSes s x1 x2).wit = s.wit := rfl

@[simp] theorem modSes_wit (s : State) (x1) (x2) : (modSes s x1 x2).wit = s.wit := rfl

@[simp] theorem sendTo_wit (s : State) (x1) (x2) : (sendTo s x1 x2).wit = s.wit := by
  unfold sendTo; (repeat' split) <;> simp

@[simp] theorem abortXfer_wit (s : State) : (abortXfer s).wit = s.wit := rfl

@[simp] theorem orphanRequests_wit (s : State) (x1) : (orphanRequests s x1).wit = s.wit := rfl

@[simp] theorem closeSession_wit (s : State) (x1) : (closeSession s x1).wit = s.wit := by
  unfold closeSession; (repeat' split) <;> simp

@[simp] theorem closeWhere_wit (s : State) (x1) : (closeWhere s x1).wit = s.wit := by
  simp [closeWhere, forEach_wit]

@[simp] theorem closeAll_wit (s : State) : (closeAll s).wit = s.wit := by
  simp [closeAll]

@[simp] theorem sendReply_wit (s : State) (x1) : (sendReply s x1).wit = s.wit := by
  unfold sendReply; (repeat' split) <;> simp

@[simp] theorem endCommand_wit (s : State) (x1) (x2) (x3) (x4) (x5) : (endCommand s x1 x2 x3 x4 x5).wit = s.wit := rfl

@[simp] theorem notifyOne_wit (s : State) (x1) (x2) : (notifyOne s x1 x2).wit = s.wit := by
  unfold notifyOne; (repeat' split) <;> simp

@[simp] theorem notifyAll_wit (s : State) : (notifyAll s).wit = s.wit := by
  unfold notifyAll
  try dsimp only
  repeat' (first
    | (simp [forEach_wit, ite_wit]; done)
    | split
    | refine (forEach_wit (fun x s => ?_) _ _).trans ?_
    | refine (foldl_wit (fun x s => ?_) _ _).trans ?_)

@[simp] theorem setGate_wit (s : State) (x1) : (setGate s x1).wit = s.wit := by
  unfold setGate; (repeat' split) <;> simp

@[simp] theorem rolePowers_wit (s : State) : (rolePowers s).wit = s.wit := by
  unfold rolePowers
  try dsimp only
  repeat' (first
    | (simp [ite_wit]; done)
    | split
    | refine (forEach_wit (fun x s => ?_) _ _).trans ?_
    | refine (foldl_wit (fun x s => ?_) _ _).trans ?_)

@[simp] theorem dropTransfer_wit (s : State) : (dropTransfer s).wit = s.wit := by
  unfold dropTransfer; (repeat' split) <;> simp

@[simp] theorem takeActive_wit (s : State) : (takeActive s).wit = s.wit := by
  simp [takeActive, forEach_wit, ite_wit]

@[simp] theorem leaveActive_wit (s : State) : (leaveActive s).wit = s.wit := by
  unfold leaveActive; exact (closeWhere_wit _ _).trans (forEach_wit (fun k s => by simp) _ _)

@[simp] theorem roleChange_wit (s : State) : (roleChange s).wit = s.wit := by
  unfold roleChange
  try dsimp only
  repeat' (first
    | (simp [ite_wit]; done)
    | split
    | refine (forEach_wit (fun x s => ?_) _ _).trans ?_
    | refine (foldl_wit (fun x s => ?_) _ _).trans ?_)

@[simp] theorem lining_wit (s : State) (x1) : (lining s x1).wit = s.wit := by
  unfold lining; (repeat' split) <;> simp

@[simp] theorem prState_wit (s : State) (x1) : (prState s x1).wit = s.wit := by
  simp [prState, ite_wit]

@[simp] theorem roleEnds_wit (s : State) : (roleEnds s).wit = s.wit := by
  unfold roleEnds
  try dsimp only
  repeat' (first
    | (simp [ite_wit]; done)
    | split
    | refine (forEach_wit (fun x s => ?_) _ _).trans ?_
    | refine (foldl_wit (fun x s => ?_) _ _).trans ?_)

@[simp] theorem noteResort_wit (s : State) : (noteResort s).wit = s.wit := by
  unfold noteResort
  try dsimp only
  repeat' (first
    | (simp [ite_wit]; done)
    | split
    | refine (forEach_wit (fun x s => ?_) _ _).trans ?_
    | refine (foldl_wit (fun x s => ?_) _ _).trans ?_)

@[simp] theorem unsync_wit (s : State) (x1) : (unsync s x1).wit = s.wit := by
  unfold unsync
  try dsimp only
  repeat' (first
    | (simp [ite_wit]; done)
    | split
    | refine (forEach_wit (fun x s => ?_) _ _).trans ?_
    | refine (foldl_wit (fun x s => ?_) _ _).trans ?_)

@[simp] theorem mirror_wit (s : State) (x1) : (mirror s x1).wit = s.wit := by
  unfold mirror
  try dsimp only
  repeat' (first
    | (simp [ite_wit]; done)
    | split
    | refine (forEach_wit (fun x s => ?_) _ _).trans ?_
    | refine (foldl_wit (fun x s => ?_) _ _).trans ?_)

@[simp] theorem beginJoin_wit (s : State) : (beginJoin s).wit = s.wit := by
  unfold beginJoin
  try dsimp only
  repeat' (first
    | (simp [ite_wit]; done)
    | split
    | refine (forEach_wit (fun x s => ?_) _ _).trans ?_
    | refine (foldl_wit (fun x s => ?_) _ _).trans ?_)

@[simp] theorem yieldRole_wit (s : State) : (yieldRole s).wit = s.wit := by
  unfold yieldRole
  try dsimp only
  repeat' (first
    | (simp [ite_wit]; done)
    | split
    | refine (forEach_wit (fun x s => ?_) _ _).trans ?_
    | refine (foldl_wit (fun x s => ?_) _ _).trans ?_)

@[simp] theorem shedRamp_wit (s : State) (x1) : (shedRamp s x1).wit = s.wit := by
  unfold shedRamp; (repeat' split) <;> simp

@[simp] theorem shedOff_wit (s : State) (x1) : (shedOff s x1).wit = s.wit := by
  unfold shedOff; (repeat' split) <;> simp

@[simp] theorem shedBoundary_wit (s : State) : (shedBoundary s).wit = s.wit := by
  simp [shedBoundary, forEach_wit, ite_wit]

@[simp] theorem applyCommit_wit (s : State) (x1) : (applyCommit s x1).wit = s.wit := rfl

@[simp] theorem commitBoundary_wit (s : State) : (commitBoundary s).wit = s.wit := by
  unfold commitBoundary
  try dsimp only
  repeat' (first
    | with_reducible rfl
    | (simp; done)
    | split
    | refine (forEach_wit (fun x s => ?_) _ _).trans ?_
    | refine (foldl_wit (fun x s => ?_) _ _).trans ?_)

@[simp] theorem applyEnable_wit (s : State) (x1) : (applyEnable s x1).wit = s.wit := by
  unfold applyEnable; (repeat' split) <;> simp

@[simp] theorem enableBoundary_wit (s : State) : (enableBoundary s).wit = s.wit := by
  simp [enableBoundary, forEach_wit]

@[simp] theorem disableLater_wit (s : State) (x1) (x2) : (disableLater s x1 x2).wit = s.wit := rfl

@[simp] theorem mapHook_wit (s : State) (x1) : (mapHook s x1).wit = s.wit := by
  unfold mapHook; (repeat' split) <;> simp

@[simp] theorem waitBoundary_wit (s : State) : (waitBoundary s).wit = s.wit := by
  simp [waitBoundary, forEach_wit]

@[simp] theorem lockBoundary_wit (s : State) : (lockBoundary s).wit = s.wit := by
  simp [lockBoundary, ite_wit]

@[simp] theorem timeBoundary_wit (s : State) : (timeBoundary s).wit = s.wit := by
  simp [timeBoundary, forEach_wit, ite_wit]

@[simp] theorem ruleBoundary_wit (s : State) (x1) : (ruleBoundary s x1).wit = s.wit := by
  simp [ruleBoundary, forEach_wit]

@[simp] theorem changeBoundary_wit (s : State) : (changeBoundary s).wit = s.wit := by
  simp [changeBoundary]

@[simp] theorem audioBoundary_wit (s : State) (x1) : (audioBoundary s x1).wit = s.wit := by
  simp [audioBoundary]

@[simp] theorem judgeBoundary_wit (s : State) : (judgeBoundary s).wit = s.wit := by
  simp [judgeBoundary, forEach_wit]

@[simp] theorem stitchWork_wit (s : State) (x1) : (stitchWork s x1).wit = s.wit := by
  unfold stitchWork
  try dsimp only
  repeat' (first
    | (simp [ite_wit]; done)
    | split
    | refine (forEach_wit (fun x s => ?_) _ _).trans ?_
    | refine (foldl_wit (fun x s => ?_) _ _).trans ?_)

@[simp] theorem rampEnd_wit (s : State) : (rampEnd s).wit = s.wit := by
  simp [rampEnd]

end Sys2Proof.Machine
end

