-- ==== Sys2Proof/Laws/WitControl.lean ====
section
/-! SUPPORT. The operations of synthesizers, events, the thimble and register writes leave the witness as it is. -/

namespace Sys2Proof.Machine

@[simp] theorem setSy_wit (s : State) (x1) (x2) : (setSy s x1 x2).wit = s.wit := rfl

@[simp] theorem setPls_wit (s : State) (x1) (x2) : (setPls s x1 x2).wit = s.wit := rfl

@[simp] theorem synLoss_wit (s : State) (x1) (x2) (x3) : (synLoss s x1 x2 x3).wit = s.wit := by
  simp [synLoss, ite_wit]

@[simp] theorem synTry_wit (s : State) (x1) : (synTry s x1).wit = s.wit := by
  simp [synTry, ite_wit]

@[simp] theorem synRelock_wit (s : State) (x1) (x2) : (synRelock s x1 x2).wit = s.wit := by
  unfold synRelock
  try dsimp only
  repeat' (first
    | (simp [ite_wit]; done)
    | split
    | refine (forEach_wit (fun x s => ?_) _ _).trans ?_
    | refine (foldl_wit (fun x s => ?_) _ _).trans ?_)

@[simp] theorem synNoSpare_wit (s : State) (x1) : (synNoSpare s x1).wit = s.wit := by
  unfold synNoSpare
  try dsimp only
  repeat' (first
    | (simp [ite_wit]; done)
    | split
    | refine (forEach_wit (fun x s => ?_) _ _).trans ?_
    | refine (foldl_wit (fun x s => ?_) _ _).trans ?_)

@[simp] theorem handoverStart_wit (s : State) : (handoverStart s).wit = s.wit := by
  unfold handoverStart
  try dsimp only
  repeat' (first
    | (simp [ite_wit]; done)
    | split
    | refine (forEach_wit (fun x s => ?_) _ _).trans ?_
    | refine (foldl_wit (fun x s => ?_) _ _).trans ?_)

@[simp] theorem handoverSwitch_wit (s : State) : (handoverSwitch s).wit = s.wit := by
  simp [handoverSwitch, ite_wit]

@[simp] theorem handoverFail_wit (s : State) : (handoverFail s).wit = s.wit := by
  simp [handoverFail, ite_wit]

@[simp] theorem synFailed_wit (s : State) (x1) : (synFailed s x1).wit = s.wit := by
  unfold synFailed
  try dsimp only
  repeat' (first
    | (simp [ite_wit]; done)
    | split
    | refine (forEach_wit (fun x s => ?_) _ _).trans ?_
    | refine (foldl_wit (fun x s => ?_) _ _).trans ?_)

@[simp] theorem synTestDone_wit (s : State) (x1) (x2) (x3) : (synTestDone s x1 x2 x3).wit = s.wit := by
  simp [synTestDone, ite_wit]

@[simp] theorem synStart_wit (s : State) : (synStart s).wit = s.wit := by
  unfold synStart
  try dsimp only
  repeat' (first
    | (simp [ite_wit]; done)
    | split
    | refine (forEach_wit (fun x s => ?_) _ _).trans ?_
    | refine (foldl_wit (fun x s => ?_) _ _).trans ?_)

@[simp] theorem synRetest_wit (s : State) (x1) : (synRetest s x1).wit = s.wit := by
  simp [synRetest, ite_wit]

@[simp] theorem synStartTest_wit (s : State) (x1) : (synStartTest s x1).wit = s.wit := rfl

@[simp] theorem mckSet_wit (s : State) (x1) (x2) : (mckSet s x1 x2).wit = s.wit := rfl

@[simp] theorem mckFollow_wit (s : State) : (mckFollow s).wit = s.wit := by
  unfold mckFollow
  try dsimp only
  repeat' (first
    | (simp [ite_wit]; done)
    | split
    | refine (forEach_wit (fun x s => ?_) _ _).trans ?_
    | refine (foldl_wit (fun x s => ?_) _ _).trans ?_)

@[simp] theorem plsEnable_wit (s : State) (x1) : (plsEnable s x1).wit = s.wit := rfl

@[simp] theorem plsDisable_wit (s : State) (x1) : (plsDisable s x1).wit = s.wit := rfl

@[simp] theorem plsSource_wit (s : State) (x1) (x2) : (plsSource s x1 x2).wit = s.wit := by
  unfold plsSource
  try dsimp only
  repeat' (first
    | (simp [ite_wit]; done)
    | split
    | refine (forEach_wit (fun x s => ?_) _ _).trans ?_
    | refine (foldl_wit (fun x s => ?_) _ _).trans ?_)

@[simp] theorem plsOutput_wit (s : State) (x1) : (plsOutput s x1).wit = s.wit := by
  simp [plsOutput, ite_wit]

@[simp] theorem setSrc_wit (s : State) (x1) (x2) : (setSrc s x1 x2).wit = s.wit := rfl

@[simp] theorem setSrcState_wit (s : State) (x1) (x2) : (setSrcState s x1 x2).wit = s.wit := rfl

@[simp] theorem setGrp_wit (s : State) (x1) (x2) : (setGrp s x1 x2).wit = s.wit := rfl

@[simp] theorem setTgt_wit (s : State) (x1) (x2) : (setTgt s x1 x2).wit = s.wit := rfl

@[simp] theorem wakeUpdate_wit (s : State) : (wakeUpdate s).wit = s.wit := by
  simp [wakeUpdate, ite_wit]

@[simp] theorem releaseSrc_wit (s : State) (x1) : (releaseSrc s x1).wit = s.wit := by
  simp [releaseSrc, ite_wit]

@[simp] theorem releaseHeld_wit (s : State) (x1) : (releaseHeld s x1).wit = s.wit := by
  simp [releaseHeld, forEach_wit]

@[simp] theorem releaseGroup_wit (s : State) (x1) : (releaseGroup s x1).wit = s.wit := by
  simp [releaseGroup]

@[simp] theorem openHoldoff_wit (s : State) (x1) : (openHoldoff s x1).wit = s.wit := rfl

@[simp] theorem endHoldoff_wit (s : State) (x1) : (endHoldoff s x1).wit = s.wit := by
  unfold endHoldoff; (repeat' split) <;> simp

@[simp] theorem releaseDue_wit (s : State) : (releaseDue s).wit = s.wit := by
  unfold releaseDue
  try dsimp only
  repeat' (first
    | (simp [ite_wit]; done)
    | split
    | refine (forEach_wit (fun x s => ?_) _ _).trans ?_
    | refine (foldl_wit (fun x s => ?_) _ _).trans ?_)

@[simp] theorem countIn_wit (s : State) (x1) : (countIn s x1).wit = s.wit := by
  unfold countIn
  try dsimp only
  repeat' (first
    | (simp [ite_wit]; done)
    | split
    | refine (forEach_wit (fun x s => ?_) _ _).trans ?_
    | refine (foldl_wit (fun x s => ?_) _ _).trans ?_)

@[simp] theorem moderate_wit (s : State) (x1) : (moderate s x1).wit = s.wit := by
  unfold moderate
  try dsimp only
  repeat' (first
    | (simp [ite_wit]; done)
    | split
    | refine (forEach_wit (fun x s => ?_) _ _).trans ?_
    | refine (foldl_wit (fun x s => ?_) _ _).trans ?_)

@[simp] theorem countAgain_wit (s : State) (x1) : (countAgain s x1).wit = s.wit := by
  simp [countAgain, ite_wit]

@[simp] theorem assertSrc_wit (s : State) (x1) : (assertSrc s x1).wit = s.wit := by
  unfold assertSrc; (repeat' split) <;> simp

@[simp] theorem senseSrc_wit (s : State) (x1) : (senseSrc s x1).wit = s.wit := by
  unfold senseSrc; (repeat' split) <;> simp [ite_wit]

@[simp] theorem levelFell_wit (s : State) (x1) : (levelFell s x1).wit = s.wit := by
  unfold levelFell; (repeat' split) <;> simp

@[simp] theorem clearFlags_wit (s : State) (x1) (x2) (x3) : (clearFlags s x1 x2 x3).wit = s.wit := by
  unfold clearFlags; dsimp only; split
  · refine (forEach_wit (fun x s => by simp) _ _).trans (by simp)
  · simp

@[simp] theorem deliver_wit (s : State) (x1) : (deliver s x1).wit = s.wit := by
  unfold deliver
  try dsimp only
  repeat' (first
    | (simp [ite_wit]; done)
    | split
    | refine (forEach_wit (fun x s => ?_) _ _).trans ?_
    | refine (foldl_wit (fun x s => ?_) _ _).trans ?_)

@[simp] theorem endService_wit (s : State) (x1) : (endService s x1).wit = s.wit := by
  simp [endService, ite_wit]

@[simp] theorem eoi_wit (s : State) (x1) (x2) : (eoi s x1 x2).wit = s.wit := by
  unfold eoi
  try dsimp only
  repeat' (first
    | (simp [forEach_wit, ite_wit]; done)
    | split
    | refine (forEach_wit (fun x s => ?_) _ _).trans ?_
    | refine (foldl_wit (fun x s => ?_) _ _).trans ?_)

@[simp] theorem fallAsleep_wit (s : State) (x1) : (fallAsleep s x1).wit = s.wit := by
  simp [fallAsleep, forEach_wit, ite_wit]

@[simp] theorem tgtCtrl_wit (s : State) (x1) (x2) : (tgtCtrl s x1 x2).wit = s.wit := by
  simp [tgtCtrl]

@[simp] theorem pciePower_wit (s : State) (x1) (x2) : (pciePower s x1 x2).wit = s.wit := by
  simp [pciePower]

@[simp] theorem evCfgWrite_wit (s : State) (x1) (x2) : (evCfgWrite s x1 x2).wit = s.wit := by
  simp [evCfgWrite, ite_wit]

@[simp] theorem clrPend_wit (s : State) (x1) : (clrPend s x1).wit = s.wit := by
  simp [clrPend]

@[simp] theorem logFault_wit (s : State) (x1) : (logFault s x1).wit = s.wit := rfl

@[simp] theorem barOn_wit (s : State) (x1) : (barOn s x1).wit = s.wit := by
  unfold barOn; (repeat' split) <;> simp

@[simp] theorem barsEnd_wit (s : State) : (barsEnd s).wit = s.wit := by
  simp [barsEnd, ite_wit]

@[simp] theorem muteNow_wit (s : State) : (muteNow s).wit = s.wit := by
  unfold muteNow
  try dsimp only
  repeat' (first
    | (simp [ite_wit]; done)
    | split
    | refine (forEach_wit (fun x s => ?_) _ _).trans ?_
    | refine (foldl_wit (fun x s => ?_) _ _).trans ?_)

@[simp] theorem engineMute_wit (s : State) : (engineMute s).wit = s.wit := by
  simp [engineMute, ite_wit]

@[simp] theorem stopLanes_wit (s : State) : (stopLanes s).wit = s.wit := by
  simp [stopLanes, forEach_wit]

@[simp] theorem portsOff_wit (s : State) : (portsOff s).wit = s.wit := by
  unfold portsOff; exact forEach_wit (fun k s => by simp) _ _

@[simp] theorem clocksOff_wit (s : State) : (clocksOff s).wit = s.wit := by
  unfold clocksOff; exact (forEach_wit (fun k s => plsDisable_wit s k) _ _)

@[simp] theorem cutHeartbeat_wit (s : State) : (cutHeartbeat s).wit = s.wit := by
  unfold cutHeartbeat; (repeat' split) <;> simp

@[simp] theorem quietGate_wit (s : State) : (quietGate s).wit = s.wit := by
  unfold quietGate; (repeat' split) <;> simp

@[simp] theorem quietLaneRelease_wit (s : State) : (quietLaneRelease s).wit = s.wit := by
  simp [quietLaneRelease, forEach_wit, ite_wit]

@[simp] theorem removalSteps_wit (s : State) : (removalSteps s).wit = s.wit := by
  simp [removalSteps]

@[simp] theorem ejectStart_wit (s : State) : (ejectStart s).wit = s.wit := by
  simp [ejectStart, ite_wit]

@[simp] theorem ejectDone_wit (s : State) : (ejectDone s).wit = s.wit := by
  unfold ejectDone; (repeat' split) <;> simp

@[simp] theorem yieldDone_wit (s : State) : (yieldDone s).wit = s.wit := by
  unfold yieldDone
  try dsimp only
  repeat' (first
    | (simp; done)
    | split
    | refine (forEach_wit (fun x s => ?_) _ _).trans ?_
    | refine (foldl_wit (fun x s => ?_) _ _).trans ?_)

@[simp] theorem bridgesOff_wit (s : State) : (bridgesOff s).wit = s.wit :=
  (forEach_wit (fun k s => by simp) _ _).trans (forEach_wit (fun k s => by simp) _ _)

@[simp] theorem safeAct_wit (s : State) (x1) : (safeAct s x1).wit = s.wit := by
  unfold safeAct
  split
  · exact vToCap_wit s
  · exact forEach_wit (fun k s => by dsimp only; split <;> simp) _ _
  · exact forEach_wit (fun k s => by simp) _ _
  · exact forEach_wit (fun k s => by split <;> simp) _ _
  · exact stopLanes_wit s
  · exact portsOff_wit s
  · exact (forEach_wit (fun k s => by split <;> simp) _ _).trans (forEach_wit (fun k s => by split <;> simp) _ _)
  · exact (vcoreEval_wit _).trans (bridgesOff_wit s)
  · exact coGateAll_wit s
  · exact forEach_wit (fun k s => by simp) _ _
  · exact wakeUpdate_wit s
  · exact closeAll_wit s
  · exact yieldRole_wit s
  · exact abortXfer_wit s
  · rfl

@[simp] theorem parityFault_wit (s : State) (x1) : (parityFault s x1).wit = s.wit := by
  simp [parityFault, ite_wit]

@[simp] theorem noteFault_wit (s : State) (x1) : (noteFault s x1).wit = s.wit := by
  unfold noteFault; (repeat' split) <;> simp

@[simp] theorem takeTj_wit (s : State) (x1) : (takeTj s x1).wit = s.wit := by
  simp [takeTj, ite_wit]

@[simp] theorem tempBarEnd_wit (s : State) : (tempBarEnd s).wit = s.wit := by
  unfold tempBarEnd; (repeat' split) <;> simp

@[simp] theorem eccHour_wit (s : State) (x1) : (eccHour s x1).wit = s.wit := by
  simp [eccHour, ite_wit]

@[simp] theorem digestCompare_wit (s : State) (x1) : (digestCompare s x1).wit = s.wit := by
  unfold digestCompare; (repeat' split) <;> simp

@[simp] theorem injectHem_wit (s : State) (x1) : (injectHem s x1).wit = s.wit := by
  unfold injectHem
  try dsimp only
  repeat' (first
    | (simp [ite_wit]; done)
    | split
    | refine (forEach_wit (fun x s => ?_) _ _).trans ?_
    | refine (foldl_wit (fun x s => ?_) _ _).trans ?_)

@[simp] theorem markInjected_wit (x0) (s : State) : (markInjected x0 s).wit = s.wit := rfl

@[simp] theorem inject_wit (s : State) (x1) : (inject s x1).wit = s.wit := by
  unfold inject; (repeat' split) <;> simp [ite_wit]

@[simp] theorem scrubPass_wit (s : State) (x1) : (scrubPass s x1).wit = s.wit := by
  unfold scrubPass
  try dsimp only
  repeat' (first
    | (simp [ite_wit]; done)
    | split
    | refine (forEach_wit (fun x s => ?_) _ _).trans ?_
    | refine (foldl_wit (fun x s => ?_) _ _).trans ?_)

@[simp] theorem detectMiss_wit (s : State) : (detectMiss s).wit = s.wit := by
  unfold detectMiss draw
  exact (reportFault_wit _ _ _ _ _).trans (fenceMiss_wit _ _ _)

@[simp] theorem dramError_wit (s : State) (x1) : (dramError s x1).wit = s.wit := by
  unfold dramError
  try dsimp only
  repeat' (first
    | (simp [ite_wit]; done)
    | split
    | refine (forEach_wit (fun x s => ?_) _ _).trans ?_
    | refine (foldl_wit (fun x s => ?_) _ _).trans ?_)

@[simp] theorem damaged_wit (s : State) (x1) (x2) : (damaged s x1 x2).wit = s.wit := by
  unfold damaged
  split
  · rfl
  · split <;> simp

@[simp] theorem detected_wit (s : State) (x1) (x2) (x3) : (detected s x1 x2 x3).wit = s.wit := by
  unfold detected
  repeat' split
  all_goals first
    | with_reducible rfl
    | (simp only [reportFault_wit, needleOut_wit, paceFault_wit, detectMiss_wit, exhaust_wit, injectHem_wit, coDisagree_wit, raise_wit,
        State.setRef_wit, resetSpool_wit, synFailed_wit]; done)

@[simp] theorem detect_wit (s : State) (x1) (x2) (x3) : (detect s x1 x2 x3).wit = s.wit := by
  unfold detect
  split <;> simp

@[simp] theorem put_wit (s : State) (x1) (x2) (x3) (x4) : (put s x1 x2 x3 x4).wit = s.wit := rfl

@[simp] theorem putLater_wit (s : State) (x1) (x2) (x3) (x4) : (putLater s x1 x2 x3 x4).wit = s.wit := rfl

@[simp] theorem putWindow_wit (s : State) (x1) (x2) (x3) (x4) : (putWindow s x1 x2 x3 x4).wit = s.wit := rfl

@[simp] theorem onBit_wit {f : State → State} (h : ∀ s, (f s).wit = s.wit) (v : Word) (b : Nat) (s : State) :
    (onBit v b s f).wit = s.wit := by
  unfold onBit; split
  · exact h s
  · rfl

@[simp] theorem lockBits_wit (s : State) (x1) : (lockBits s x1).wit = s.wit := by
  unfold lockBits; (repeat' split) <;> simp

@[simp] theorem clrWerr_wit (s : State) : (clrWerr s).wit = s.wit := rfl

@[simp] theorem glbCmd_wit (s : State) (x1) : (glbCmd s x1).wit = s.wit := by
  unfold glbCmd
  exact (lockBits_wit _ _).trans (onBit_wit (fun s => clrWerr_wit s) _ _ _)

@[simp] theorem clrSlack_wit (s : State) : (clrSlack s).wit = s.wit := rfl

@[simp] theorem fabClrCounts_wit (s : State) : (fabClrCounts s).wit = s.wit := rfl

@[simp] theorem fabWrite_wit (s : State) (x1) (x2) (x3) (x4) : (fabWrite s x1 x2 x3 x4).wit = s.wit := by
  unfold fabWrite
  try dsimp only
  repeat' (first
    | with_reducible rfl
    | (simp; done)
    | split
    | refine (onBit_wit (fun s => ?_) _ _ _).trans ?_
    | refine orRefuse_wit ?_ _ _
    | refine (forEach_wit (fun x s => ?_) _ _).trans ?_
    | refine (foldl_wit (fun x s => ?_) _ _).trans ?_)

@[simp] theorem bsBit_wit (x1) (s : State) (x2) : (bsBit x1 s x2).wit = s.wit := by
  unfold bsBit
  try dsimp only
  repeat' (first
    | (simp [ite_wit]; done)
    | split
    | refine (forEach_wit (fun x s => ?_) _ _).trans ?_
    | refine (foldl_wit (fun x s => ?_) _ _).trans ?_)

@[simp] theorem bsCmd_wit (s : State) (x1) (x2) : (bsCmd s x1 x2).wit = s.wit := by
  unfold bsCmd
  exact foldl_wit (fun s b => bsBit_wit _ s b) _ _

@[simp] theorem mixWrite_wit (s : State) (x1) (x2) (x3) (x4) : (mixWrite s x1 x2 x3 x4).wit = s.wit := by
  unfold mixWrite; (repeat' split) <;> simp

@[simp] theorem tbCtrlWrite_wit (s : State) (x1) (x2) : (tbCtrlWrite s x1 x2).wit = s.wit := by
  simp [tbCtrlWrite, ite_wit]

@[simp] theorem tbWrite_wit (s : State) (x1) (x2) (x3) (x4) : (tbWrite s x1 x2 x3 x4).wit = s.wit := by
  unfold tbWrite
  try dsimp only
  repeat' (first
    | with_reducible rfl
    | (simp; done)
    | split
    | refine (onBit_wit (fun s => ?_) _ _ _).trans ?_
    | refine orRefuse_wit ?_ _ _
    | refine (forEach_wit (fun x s => ?_) _ _).trans ?_
    | refine (foldl_wit (fun x s => ?_) _ _).trans ?_)

@[simp] theorem mcCtrlWrite_wit (s : State) (x1) (x2) : (mcCtrlWrite s x1 x2).wit = s.wit := by
  simp [mcCtrlWrite, ite_wit]

@[simp] theorem swFreqWrite_wit (s : State) (x1) (x2) : (swFreqWrite s x1 x2).wit = s.wit := by
  unfold swFreqWrite
  try dsimp only
  repeat' (first
    | (simp [ite_wit]; done)
    | split
    | refine (forEach_wit (fun x s => ?_) _ _).trans ?_
    | refine (foldl_wit (fun x s => ?_) _ _).trans ?_)

@[simp] theorem stageHi_wit (s : State) (x1) (x2) (x3) : (stageHi s x1 x2 x3).wit = s.wit := rfl

@[simp] theorem mcClrCounts_wit (s : State) (x1) : (mcClrCounts s x1).wit = s.wit := rfl

@[simp] theorem refWrite_wit (s : State) (x1) (x2) (x3) (x4) : (refWrite s x1 x2 x3 x4).wit = s.wit := by
  unfold refWrite
  try dsimp only
  repeat' (first
    | with_reducible rfl
    | (simp; done)
    | split
    | refine (onBit_wit (fun s => ?_) _ _ _).trans ?_
    | refine orRefuse_wit ?_ _ _
    | refine (forEach_wit (fun x s => ?_) _ _).trans ?_
    | refine (foldl_wit (fun x s => ?_) _ _).trans ?_)

@[simp] theorem synClrCounts_wit (s : State) (x1) : (synClrCounts s x1).wit = s.wit := rfl

@[simp] theorem plsOffset_wit (s : State) (x1) (x2) (x3) : (plsOffset s x1 x2 x3).wit = s.wit := rfl

@[simp] theorem synWrite_wit (s : State) (x1) (x2) (x3) (x4) : (synWrite s x1 x2 x3 x4).wit = s.wit := by
  unfold synWrite
  try dsimp only
  repeat' (first
    | with_reducible rfl
    | (simp; done)
    | split
    | refine (onBit_wit (fun s => ?_) _ _ _).trans ?_
    | refine orRefuse_wit ?_ _ _
    | refine (forEach_wit (fun x s => ?_) _ _).trans ?_
    | refine (foldl_wit (fun x s => ?_) _ _).trans ?_)

@[simp] theorem cgEnWrite_wit (s : State) (x1) (x2) : (cgEnWrite s x1 x2).wit = s.wit := by
  simp [cgEnWrite, ite_wit]

@[simp] theorem hostClrCounts_wit (s : State) : (hostClrCounts s).wit = s.wit := rfl

@[simp] theorem laneWrite_wit (s : State) (x1) (x2) (x3) (x4) : (laneWrite s x1 x2 x3 x4).wit = s.wit := by
  unfold laneWrite
  try dsimp only
  repeat' (first
    | with_reducible rfl
    | (simp; done)
    | split
    | refine (onBit_wit (fun s => ?_) _ _ _).trans ?_
    | refine orRefuse_wit ?_ _ _
    | refine (forEach_wit (fun x s => ?_) _ _).trans ?_
    | refine (foldl_wit (fun x s => ?_) _ _).trans ?_)

@[simp] theorem portEnWrite_wit (s : State) (x1) (x2) : (portEnWrite s x1 x2).wit = s.wit := by
  simp [portEnWrite, ite_wit]

@[simp] theorem swCmd_wit (s : State) (x1) : (swCmd s x1).wit = s.wit := by
  unfold swCmd
  try dsimp only
  repeat' (first
    | with_reducible rfl
    | (simp; done)
    | split
    | refine (onBit_wit (fun s => ?_) _ _ _).trans ?_
    | refine orRefuse_wit ?_ _ _
    | refine (forEach_wit (fun x s => ?_) _ _).trans ?_
    | refine (foldl_wit (fun x s => ?_) _ _).trans ?_)

@[simp] theorem portClrCounts_wit (s : State) (x1) : (portClrCounts s x1).wit = s.wit := rfl

@[simp] theorem gateApply_wit (s : State) (x1) : (gateApply s x1).wit = s.wit := rfl

@[simp] theorem gateCancel_wit (s : State) (x1) : (gateCancel s x1).wit = s.wit := rfl

@[simp] theorem portWrite_wit (s : State) (x1) (x2) (x3) (x4) : (portWrite s x1 x2 x3 x4).wit = s.wit := by
  unfold portWrite
  try dsimp only
  repeat' (first
    | with_reducible rfl
    | (simp; done)
    | split
    | refine (onBit_wit (fun s => ?_) _ _ _).trans ?_
    | refine orRefuse_wit ?_ _ _
    | refine (forEach_wit (fun x s => ?_) _ _).trans ?_
    | refine (foldl_wit (fun x s => ?_) _ _).trans ?_)

@[simp] theorem strCmd_wit (s : State) (x1) : (strCmd s x1).wit = s.wit := by
  unfold strCmd; (repeat' split) <;> simp

@[simp] theorem rxOffsetWrite_wit (s : State) (x1) (x2) : (rxOffsetWrite s x1 x2).wit = s.wit := by
  unfold rxOffsetWrite; (repeat' split) <;> simp

@[simp] theorem hankWrite_wit (s : State) (x1) (x2) : (hankWrite s x1 x2).wit = s.wit := by
  unfold hankWrite; (repeat' split) <;> simp

@[simp] theorem dmacWrite_wit (s : State) (x1) (x2) (x3) (x4) : (dmacWrite s x1 x2 x3 x4).wit = s.wit := rfl

@[simp] theorem strWrite_wit (s : State) (x1) (x2) (x3) (x4) : (strWrite s x1 x2 x3 x4).wit = s.wit := by
  unfold strWrite; (repeat' split) <;> simp

@[simp] theorem hemClrLater_wit (s : State) (x1) : (hemClrLater s x1).wit = s.wit := rfl

@[simp] theorem clrHold_wit (s : State) (x1) : (clrHold s x1).wit = s.wit := rfl

@[simp] theorem clrClip_wit (s : State) (x1) : (clrClip s x1).wit = s.wit := rfl

@[simp] theorem dynCmd_wit (s : State) (x1) : (dynCmd s x1).wit = s.wit := by
  unfold dynCmd; (repeat' split) <;> simp

@[simp] theorem dynWrite_wit (s : State) (x1) (x2) (x3) (x4) : (dynWrite s x1 x2 x3 x4).wit = s.wit := by
  unfold dynWrite; (repeat' split) <;> simp

@[simp] theorem clrSlips_wit (s : State) (x1) : (clrSlips s x1).wit = s.wit := rfl

@[simp] theorem rbCmd_wit (s : State) (x1) : (rbCmd s x1).wit = s.wit := by
  unfold rbCmd; (repeat' split) <;> simp

@[simp] theorem rbWrite_wit (s : State) (x1) (x2) (x3) (x4) : (rbWrite s x1 x2 x3 x4).wit = s.wit := by
  unfold rbWrite; (repeat' split) <;> simp

@[simp] theorem seWrite_wit (s : State) (x1) : (seWrite s x1).wit = s.wit := by
  unfold seWrite; (repeat' split) <;> simp

@[simp] theorem cioCmd_wit (s : State) (x1) : (cioCmd s x1).wit = s.wit := by
  unfold cioCmd; (repeat' split) <;> simp

@[simp] theorem cioWrite_wit (s : State) (x1) (x2) (x3) (x4) : (cioWrite s x1 x2 x3 x4).wit = s.wit := by
  unfold cioWrite; (repeat' split) <;> simp

@[simp] theorem splWrite_wit (s : State) (x1) (x2) (x3) (x4) : (splWrite s x1 x2 x3 x4).wit = s.wit := by
  unfold splWrite
  try dsimp only
  repeat' (first
    | with_reducible rfl
    | (simp; done)
    | split
    | refine (onBit_wit (fun s => ?_) _ _ _).trans ?_
    | refine orRefuse_wit ?_ _ _
    | refine (forEach_wit (fun x s => ?_) _ _).trans ?_
    | refine (foldl_wit (fun x s => ?_) _ _).trans ?_)

@[simp] theorem force_wit (s : State) (x1) : (force s x1).wit = s.wit := by
  unfold force
  try dsimp only
  repeat' (first
    | (simp [ite_wit]; done)
    | split
    | refine (forEach_wit (fun x s => ?_) _ _).trans ?_
    | refine (foldl_wit (fun x s => ?_) _ _).trans ?_)

@[simp] theorem tgtEoiWrite_wit (s : State) (x1) (x2) : (tgtEoiWrite s x1 x2).wit = s.wit := by
  unfold tgtEoiWrite
  try dsimp only
  repeat' (first
    | with_reducible rfl
    | (simp; done)
    | split
    | refine (onBit_wit (fun s => ?_) _ _ _).trans ?_
    | refine orRefuse_wit ?_ _ _
    | refine (forEach_wit (fun x s => ?_) _ _).trans ?_
    | refine (foldl_wit (fun x s => ?_) _ _).trans ?_)

@[simp] theorem evtWrite_wit (s : State) (x1) (x2) (x3) (x4) : (evtWrite s x1 x2 x3 x4).wit = s.wit := by
  unfold evtWrite
  try dsimp only
  repeat' (first
    | with_reducible rfl
    | (simp; done)
    | split
    | refine (onBit_wit (fun s => ?_) _ _ _).trans ?_
    | refine orRefuse_wit ?_ _ _
    | refine (forEach_wit (fun x s => ?_) _ _).trans ?_
    | refine (foldl_wit (fun x s => ?_) _ _).trans ?_)

@[simp] theorem sesClrCounts_wit (s : State) : (sesClrCounts s).wit = s.wit := rfl

@[simp] theorem ip6Write_wit (s : State) (x1) (x2) : (ip6Write s x1 x2).wit = s.wit := by
  unfold ip6Write
  try dsimp only
  repeat' (first
    | (simp [ite_wit]; done)
    | split
    | refine (forEach_wit (fun x s => ?_) _ _).trans ?_
    | refine (foldl_wit (fun x s => ?_) _ _).trans ?_)

@[simp] theorem sesWrite_wit (s : State) (x1) (x2) (x3) (x4) : (sesWrite s x1 x2 x3 x4).wit = s.wit := by
  unfold sesWrite
  try dsimp only
  repeat' (first
    | with_reducible rfl
    | (simp; done)
    | split
    | refine (onBit_wit (fun s => ?_) _ _ _).trans ?_
    | refine orRefuse_wit ?_ _ _
    | refine (forEach_wit (fun x s => ?_) _ _).trans ?_
    | refine (foldl_wit (fun x s => ?_) _ _).trans ?_)

@[simp] theorem post_wit (s : State) (x1) (x2) : (post s x1 x2).wit = s.wit := rfl

@[simp] theorem prClrCounts_wit (s : State) : (prClrCounts s).wit = s.wit := rfl

@[simp] theorem remirror_wit (s : State) : (remirror s).wit = s.wit := by
  simp [remirror]

@[simp] theorem relinquish_wit (s : State) : (relinquish s).wit = s.wit := by
  simp [relinquish]

@[simp] theorem prWrite_wit (s : State) (x1) (x2) : (prWrite s x1 x2).wit = s.wit := by
  unfold prWrite
  try dsimp only
  repeat' (first
    | with_reducible rfl
    | (simp; done)
    | split
    | refine (onBit_wit (fun s => ?_) _ _ _).trans ?_
    | refine orRefuse_wit ?_ _ _
    | refine (forEach_wit (fun x s => ?_) _ _).trans ?_
    | refine (foldl_wit (fun x s => ?_) _ _).trans ?_)

@[simp] theorem clrLog_wit (s : State) : (clrLog s).wit = s.wit := rfl

@[simp] theorem safClrCounts_wit (s : State) : (safClrCounts s).wit = s.wit := rfl

@[simp] theorem safWrite_wit (s : State) (x1) (x2) : (safWrite s x1 x2).wit = s.wit := by
  unfold safWrite
  try dsimp only
  repeat' (first
    | with_reducible rfl
    | (simp; done)
    | split
    | refine (onBit_wit (fun s => ?_) _ _ _).trans ?_
    | refine orRefuse_wit ?_ _ _
    | refine (forEach_wit (fun x s => ?_) _ _).trans ?_
    | refine (foldl_wit (fun x s => ?_) _ _).trans ?_)

@[simp] theorem rescanStart_wit (s : State) : (rescanStart s).wit = s.wit := rfl

@[simp] theorem plWrite_wit (s : State) (x1) (x2) : (plWrite s x1 x2).wit = s.wit := by
  unfold plWrite
  try dsimp only
  repeat' (first
    | with_reducible rfl
    | (simp; done)
    | split
    | refine (onBit_wit (fun s => ?_) _ _ _).trans ?_
    | refine orRefuse_wit ?_ _ _
    | refine (forEach_wit (fun x s => ?_) _ _).trans ?_
    | refine (foldl_wit (fun x s => ?_) _ _).trans ?_)

@[simp] theorem forwardWrite_wit (s : State) (x1) (x2) (x3) : (forwardWrite s x1 x2 x3).wit = s.wit := by
  unfold forwardWrite
  try dsimp only
  repeat' (first
    | (simp [ite_wit]; done)
    | split
    | refine (forEach_wit (fun x s => ?_) _ _).trans ?_
    | refine (foldl_wit (fun x s => ?_) _ _).trans ?_)

@[simp] theorem writeWindow_wit (s : State) (x1) (x2) (x3) : (writeWindow s x1 x2 x3).2.wit = s.wit := by
  unfold writeWindow
  try dsimp only
  repeat' (first
    | (simp; done)
    | split
    | refine (forEach_wit (fun x s => ?_) _ _).trans ?_
    | refine (foldl_wit (fun x s => ?_) _ _).trans ?_)

@[simp] theorem capture_wit (s : State) (x1) (x2) (x3) : (capture s x1 x2 x3).wit = s.wit := by
  unfold capture; split
  · rw [State.setGlb_wit]
  · rw [raise_wit, State.setGlb_wit]

@[simp] theorem applyPosted_wit (s : State) (x1) : (applyPosted s x1).wit = s.wit := by
  unfold applyPosted; (repeat' split) <;> simp

@[simp] theorem postedApply_wit (s : State) : (postedApply s).wit = s.wit := by
  unfold postedApply; (repeat' split) <;> simp

end Sys2Proof.Machine
end

