-- ==== Sys2Proof/Laws/WitUnits.lean ====
section
/-! SUPPORT. The operations of start-up, resets, the pair and the sessions leave the witness as it is. -/

namespace Sys2Proof.Machine

@[simp] theorem noteHeader_wit (s : State) (x1) : (noteHeader s x1).wit = s.wit := by
  simp [noteHeader, ite_wit]

@[simp] theorem tryImages_wit (s : State) (bs : List Bool) : (tryImages s bs).1.wit = s.wit := by
  induction bs generalizing s with
  | nil => rfl
  | cons b bs ih =>
    simp only [tryImages]; split
    · simp
    · rw [ih]; simp

@[simp] theorem selectImage_wit (s : State) : (selectImage s).1.wit = s.wit := by
  unfold selectImage
  try dsimp only
  repeat' (first
    | with_reducible rfl
    | (simp; done)
    | split
    | refine (onBit_wit (fun s => ?_) _ _ _).trans ?_
    | refine orRefuse_wit ?_ _ _
    | refine (forEach_wit (fun x s => ?_) _ _).trans ?_
    | refine (foldl_wit (fun x s => ?_) _ _).trans ?_)

@[simp] theorem setActive_wit (s : State) (x1) (x2) : (setActive s x1 x2).wit = s.wit := rfl

@[simp] theorem rejectRec_wit (s : State) (x1) (x2) : (rejectRec s x1 x2).wit = s.wit := rfl

@[simp] theorem applyFixed_wit (s : State) (x1) : (applyFixed s x1).wit = s.wit := rfl

@[simp] theorem logShort_wit (s : State) (s1 : State) (x2) : (logShort s s1 x2).wit = s.wit := by
  unfold logShort
  try dsimp only
  repeat' (first
    | (simp [ite_wit]; done)
    | split
    | refine (forEach_wit (fun x s => ?_) _ _).trans ?_
    | refine (foldl_wit (fun x s => ?_) _ _).trans ?_)

@[simp] theorem applyTaken_wit (s : State) (x1) (x2) : (applyTaken s x1 x2).wit = s.wit := rfl

@[simp] theorem noteRejects_wit (s : State) (x1) : (noteRejects s x1).wit = s.wit := by
  unfold noteRejects
  try dsimp only
  repeat' (first
    | with_reducible rfl
    | (simp; done)
    | split
    | refine (onBit_wit (fun s => ?_) _ _ _).trans ?_
    | refine orRefuse_wit ?_ _ _
    | refine (forEach_wit (fun x s => ?_) _ _).trans ?_
    | refine (foldl_wit (fun x s => ?_) _ _).trans ?_)

@[simp] theorem loadStitch_wit (s : State) : (loadStitch s).wit = s.wit := by
  unfold loadStitch; exact forEach_wit (fun k s => by simp) _ _

@[simp] theorem startLanes_wit (s : State) : (startLanes s).wit = s.wit := by
  simp [startLanes, forEach_wit, ite_wit]

@[simp] theorem enableAll_wit (s : State) : (enableAll s).wit = s.wit := by
  simp [enableAll, forEach_wit]

@[simp] theorem audioStart_wit (s : State) : (audioStart s).wit = s.wit := by
  unfold audioStart; (repeat' split) <;> simp

@[simp] theorem bareTry_wit (s : State) (x1) : (bareTry s x1).wit = s.wit := by
  unfold bareTry; dsimp only; rw [portEnable_wit, State.setPl_wit, setFd_wit, setFd_wit, setFd_wit, portEnable_wit]

@[simp] theorem enterBare_wit (s : State) : (enterBare s).wit = s.wit := by
  simp [enterBare]

@[simp] theorem bareTimer_wit (s : State) : (bareTimer s).wit = s.wit := by
  unfold bareTimer; (repeat' split) <;> simp

@[simp] theorem calibrate_wit (s : State) (x1) : (calibrate s x1).wit = s.wit := by
  simp [calibrate, forEach_wit, ite_wit]

@[simp] theorem raiseForPattern_wit (s : State) : (raiseForPattern s).wit = s.wit := by
  unfold raiseForPattern
  try dsimp only
  repeat' (first
    | (simp [ite_wit]; done)
    | split
    | refine (forEach_wit (fun x s => ?_) _ _).trans ?_
    | refine (foldl_wit (fun x s => ?_) _ _).trans ?_)

@[simp] theorem admitStart_wit (s : State) (x1) : (admitStart s x1).wit = s.wit := by
  unfold admitStart
  try dsimp only
  repeat' (first
    | (simp [ite_wit]; done)
    | split
    | refine (forEach_wit (fun x s => ?_) _ _).trans ?_
    | refine (foldl_wit (fun x s => ?_) _ _).trans ?_)

@[simp] theorem applyLocks_wit (s : State) (x1) : (applyLocks s x1).wit = s.wit := by
  unfold applyLocks; (repeat' split) <;> simp

@[simp] theorem senseStart_wit (s : State) (x1) : (senseStart s x1).wit = s.wit := rfl

@[simp] theorem readStart_wit (s : State) (x1) : (readStart s x1).wit = s.wit := by
  unfold readStart
  try dsimp only
  repeat' (first
    | (simp [ite_wit]; done)
    | split
    | refine (forEach_wit (fun x s => ?_) _ _).trans ?_
    | refine (foldl_wit (fun x s => ?_) _ _).trans ?_)

@[simp] theorem liningStart_wit (s : State) (x1) : (liningStart s x1).wit = s.wit := by
  unfold liningStart
  try dsimp only
  repeat' (first
    | (simp [ite_wit]; done)
    | split
    | refine (forEach_wit (fun x s => ?_) _ _).trans ?_
    | refine (foldl_wit (fun x s => ?_) _ _).trans ?_)

@[simp] theorem startRole_wit (s : State) : (startRole s).wit = s.wit := by
  unfold startRole
  try dsimp only
  repeat' (first
    | (simp [ite_wit]; done)
    | split
    | refine (forEach_wit (fun x s => ?_) _ _).trans ?_
    | refine (foldl_wit (fun x s => ?_) _ _).trans ?_)

@[simp] theorem setNor_wit (s : State) (x1) (x2) : (setNor s x1 x2).wit = s.wit := rfl

@[simp] theorem imgBegin_wit (s : State) (x1) (x2) : (imgBegin s x1 x2).wit = s.wit := rfl

@[simp] theorem imgData_wit (s : State) (x1) (x2) : (imgData s x1 x2).wit = s.wit := by
  simp [imgData, ite_wit]

@[simp] theorem imgEnd_wit (s : State) (x1) (x2) : (imgEnd s x1 x2).wit = s.wit := by
  unfold imgEnd; (repeat' split) <;> simp

@[simp] theorem norTry_wit (s : State) : (norTry s).2.wit = s.wit := by
  unfold norTry
  try dsimp only
  repeat' (first
    | (simp [ite_wit]; done)
    | split
    | refine (forEach_wit (fun x s => ?_) _ _).trans ?_
    | refine (foldl_wit (fun x s => ?_) _ _).trans ?_)

@[simp] theorem norError_wit (s : State) : (norError s).wit = s.wit := by
  unfold norError
  try dsimp only
  repeat' (first
    | (simp [ite_wit]; done)
    | split
    | refine (forEach_wit (fun x s => ?_) _ _).trans ?_
    | refine (foldl_wit (fun x s => ?_) _ _).trans ?_)

@[simp] theorem eraseImage_wit (s : State) (x1) (x2) : (eraseImage s x1 x2).2.wit = s.wit := by
  unfold eraseImage
  try dsimp only
  repeat' (first
    | (simp [ite_wit]; done)
    | split
    | refine (forEach_wit (fun x s => ?_) _ _).trans ?_
    | refine (foldl_wit (fun x s => ?_) _ _).trans ?_)

@[simp] theorem programImage_wit (s : State) (x1) (x2) : (programImage s x1 x2).2.wit = s.wit := by
  unfold programImage
  try dsimp only
  repeat' (first
    | (simp [ite_wit]; done)
    | split
    | refine (forEach_wit (fun x s => ?_) _ _).trans ?_
    | refine (foldl_wit (fun x s => ?_) _ _).trans ?_)

@[simp] theorem sealImage_wit (s : State) (x1) (x2) : (sealImage s x1 x2).2.wit = s.wit := by
  unfold sealImage
  try dsimp only
  repeat' (first
    | (simp [ite_wit]; done)
    | split
    | refine (forEach_wit (fun x s => ?_) _ _).trans ?_
    | refine (foldl_wit (fun x s => ?_) _ _).trans ?_)

@[simp] theorem rescanDone_wit (s : State) : (rescanDone s).wit = s.wit := by
  unfold rescanDone; (repeat' split) <;> simp

@[simp] theorem cfgFailed_wit (s : State) (s1 : State) : (cfgFailed s s1).wit = s.wit := rfl

@[simp] theorem cfgSelect_wit (s : State) (x1) : (cfgSelect s x1).wit = s.wit := by
  unfold cfgSelect
  try dsimp only
  repeat' (first
    | (simp [ite_wit]; done)
    | split
    | refine (forEach_wit (fun x s => ?_) _ _).trans ?_
    | refine (foldl_wit (fun x s => ?_) _ _).trans ?_)

@[simp] theorem cfgDecided_wit (s : State) (x1) : (cfgDecided s x1).wit = s.wit := by
  unfold cfgDecided
  try dsimp only
  repeat' (first
    | (simp [ite_wit]; done)
    | split
    | refine (forEach_wit (fun x s => ?_) _ _).trans ?_
    | refine (foldl_wit (fun x s => ?_) _ _).trans ?_)

@[simp] theorem cfgJudge_wit (s : State) : (cfgJudge s).wit = s.wit := by
  unfold cfgJudge
  try dsimp only
  repeat' (first
    | (simp [ite_wit]; done)
    | split
    | refine (forEach_wit (fun x s => ?_) _ _).trans ?_
    | refine (foldl_wit (fun x s => ?_) _ _).trans ?_)

@[simp] theorem cfgDecide_wit (s : State) (x1) : (cfgDecide s x1).wit = s.wit := by
  unfold cfgDecide
  split
  · rfl
  · split
    · split
      · exact cfgJudge_wit s
      · rfl
    · exact (cfgJudge_wit _).trans (cfgSelect_wit _ _)

@[simp] theorem cfgName_wit (s : State) : (cfgName s).wit = s.wit := by
  unfold cfgName; (repeat' split) <;> simp

@[simp] theorem cfgPeer_wit (s : State) (x1) : (cfgPeer s x1).wit = s.wit := by
  unfold cfgPeer
  try dsimp only
  repeat' (first
    | (simp [ite_wit]; done)
    | split
    | refine (forEach_wit (fun x s => ?_) _ _).trans ?_
    | refine (foldl_wit (fun x s => ?_) _ _).trans ?_)

@[simp] theorem cfgStops_wit (s : State) (s1 : State) (x2) : (cfgStops s s1 x2).wit = s.wit := by
  unfold cfgStops; dsimp only
  refine (forEach_wit (fun k s => ?_) _ _).trans ?_
  · (repeat' split) <;> simp
  repeat (refine (forEach_wit (fun k s => ?_) _ _).trans ?_; · split <;> simp)
  rfl

@[simp] theorem cfgStarts_wit (s : State) (s1 : State) (x2) : (cfgStarts s s1 x2).wit = s.wit := by
  simp [cfgStarts, forEach_wit, ite_wit]

@[simp] theorem cfgEvents_wit (s : State) (x1) : (cfgEvents s x1).wit = s.wit := by
  unfold cfgEvents; refine forEach_wit (fun x s => ?_) _ _; (repeat' split) <;> simp [ite_wit]

@[simp] theorem cfgHooks_wit (s : State) (x1) (x2) : (cfgHooks s x1 x2).wit = s.wit := by
  unfold cfgHooks
  try dsimp only
  repeat' (first
    | (simp [ite_wit]; done)
    | split
    | refine (forEach_wit (fun x s => ?_) _ _).trans ?_
    | refine (foldl_wit (fun x s => ?_) _ _).trans ?_)

@[simp] theorem cfgRegs_wit (s : State) (x1) : (cfgRegs s x1).wit = s.wit := rfl

@[simp] theorem cfgDisables_wit (s : State) (x1) : (cfgDisables s x1).wit = s.wit := by
  unfold cfgDisables; refine forEach_wit (fun x s => ?_) _ _; (repeat' split) <;> simp [ite_wit]

@[simp] theorem enablesNow_wit (s : State) : (enablesNow s).wit = s.wit := rfl

@[simp] theorem cfgObjects_wit (s : State) (s1 : State) (x2) : (cfgObjects s s1 x2).wit = s.wit := by
  simp [cfgObjects, ite_wit]

@[simp] theorem cfgLate_wit (s : State) : (cfgLate s).wit = s.wit := by
  unfold cfgLate
  extract_lets recs ens all full
  split
  rename_i took out _
  exact (applyTaken_wit (logShort (s.setPl fun p => { p with deferred := [] }) full out) [] took).trans (logShort_wit _ _ _)

@[simp] theorem cfgDeferred_wit (s : State) : (cfgDeferred s).wit = s.wit := by
  unfold cfgDeferred
  try dsimp only
  repeat' (first
    | (simp [ite_wit]; done)
    | split
    | refine (forEach_wit (fun x s => ?_) _ _).trans ?_
    | refine (foldl_wit (fun x s => ?_) _ _).trans ?_)

@[simp] theorem cfgDiscard_wit (s : State) : (cfgDiscard s).wit = s.wit := by
  unfold cfgDiscard; dsimp only; rw [raiseIf_wit, State.setMix_wit, State.setFab_wit, State.setCio_wit]
  exact forEach_wit (fun k s => by split <;> simp) _ _

@[simp] theorem freeHeld_wit (s : State) : (freeHeld s).wit = s.wit := by
  unfold freeHeld; exact forEach_wit (fun k s => by split <;> simp) _ _

@[simp] theorem cfgClear_wit (s : State) : (cfgClear s).wit = s.wit := by
  simp [cfgClear]

@[simp] theorem cfgSwitch_wit (s : State) (s1 : State) : (cfgSwitch s s1).wit = s.wit := by
  unfold cfgSwitch
  try dsimp only
  repeat' (first
    | (simp [ite_wit]; done)
    | split
    | refine (forEach_wit (fun x s => ?_) _ _).trans ?_
    | refine (foldl_wit (fun x s => ?_) _ _).trans ?_)

@[simp] theorem clearMatches_wit (s : State) : (clearMatches s).wit = s.wit := rfl

@[simp] theorem crcEqual_wit (s : State) : (crcEqual s).wit = s.wit := by
  unfold crcEqual; (repeat' split) <;> simp

@[simp] theorem diverge_wit (s : State) : (diverge s).wit = s.wit := rfl

@[simp] theorem crcDiffers_wit (s : State) : (crcDiffers s).wit = s.wit := by
  unfold crcDiffers; (repeat' split) <;> simp

@[simp] theorem crcCompare_wit (s : State) (x1) (x2) : (crcCompare s x1 x2).wit = s.wit := by
  unfold crcCompare; (repeat' split) <;> simp

@[simp] theorem peerCrc_wit (s : State) (x1) (x2) : (peerCrc s x1 x2).wit = s.wit := by
  unfold peerCrc; (repeat' split) <;> simp

@[simp] theorem runOwed_wit (s : State) : (runOwed s).wit = s.wit := by
  unfold runOwed
  try dsimp only
  repeat' (first
    | (simp [ite_wit]; done)
    | split
    | refine (forEach_wit (fun x s => ?_) _ _).trans ?_
    | refine (foldl_wit (fun x s => ?_) _ _).trans ?_)

@[simp] theorem heartbeatSend_wit (s : State) (x1) : (heartbeatSend s x1).wit = s.wit := by
  unfold heartbeatSend
  try dsimp only
  repeat' (first
    | (simp [ite_wit]; done)
    | split
    | refine (forEach_wit (fun x s => ?_) _ _).trans ?_
    | refine (foldl_wit (fun x s => ?_) _ _).trans ?_)

@[simp] theorem rxHit_wit (x1) (s : State) (x2) : (rxHit x1 s x2).wit = s.wit := by
  unfold rxHit; split <;> simp

@[simp] theorem liveHit_wit (x1) (s : State) (x2) : (liveHit x1 s x2).wit = s.wit := by
  unfold liveHit; dsimp only; split <;> simp

@[simp] theorem stateHits_wit (x1) (s : State) : (stateHits x1 s).wit = s.wit := by
  unfold stateHits
  refine (forEach_wit (fun g s => ?_) _ _).trans (forEach_wit (fun r s => by simp) _ _)
  split <;> simp

@[simp] theorem takeGroup_wit (s : State) (x1) (x2) : (takeGroup s x1 x2).wit = s.wit := by
  unfold takeGroup
  try dsimp only
  repeat' (first
    | (simp [ite_wit]; done)
    | split
    | refine (forEach_wit (fun x s => ?_) _ _).trans ?_
    | refine (foldl_wit (fun x s => ?_) _ _).trans ?_)

@[simp] theorem dropAudio_wit (s : State) : (dropAudio s).wit = s.wit := by
  unfold dropAudio
  try dsimp only
  repeat' (first
    | (simp [ite_wit]; done)
    | split
    | refine (forEach_wit (fun x s => ?_) _ _).trans ?_
    | refine (foldl_wit (fun x s => ?_) _ _).trans ?_)

@[simp] theorem witnessFrame_wit (s : State) (x1) : (witnessFrame s x1).wit = s.wit := by
  unfold witnessFrame
  try dsimp only
  repeat' (first
    | (simp [ite_wit]; done)
    | split
    | refine (forEach_wit (fun x s => ?_) _ _).trans ?_
    | refine (foldl_wit (fun x s => ?_) _ _).trans ?_)

@[simp] theorem frameMissed_wit (s : State) : (frameMissed s).wit = s.wit := by
  simp [frameMissed, ite_wit]

@[simp] theorem frameFrozen_wit (s : State) (x1) : (frameFrozen s x1).wit = s.wit := by
  simp [frameFrozen, ite_wit]

@[simp] theorem gateFollow_wit (s : State) (x1) : (gateFollow s x1).wit = s.wit := by
  simp [gateFollow, ite_wit]

@[simp] theorem gateUpdate_wit (s : State) : (gateUpdate s).wit = s.wit := by
  unfold gateUpdate
  try dsimp only
  repeat' (first
    | (simp [ite_wit]; done)
    | split
    | refine (forEach_wit (fun x s => ?_) _ _).trans ?_
    | refine (foldl_wit (fun x s => ?_) _ _).trans ?_)

@[simp] theorem oePin_wit (s : State) (x1) : (oePin s x1).wit = s.wit := by
  simp [oePin, ite_wit]

@[simp] theorem roleRise_wit (s : State) : (roleRise s).wit = s.wit := by
  unfold roleRise
  try dsimp only
  repeat' (first
    | (simp; done)
    | split
    | refine (forEach_wit (fun x s => ?_) _ _).trans ?_
    | refine (foldl_wit (fun x s => ?_) _ _).trans ?_)

@[simp] theorem roleFall_wit (s : State) : (roleFall s).wit = s.wit := by
  unfold roleFall
  try dsimp only
  repeat' (first
    | (simp [ite_wit]; done)
    | split
    | refine (forEach_wit (fun x s => ?_) _ _).trans ?_
    | refine (foldl_wit (fun x s => ?_) _ _).trans ?_)

@[simp] theorem prCfgBoundary_wit (s : State) : (prCfgBoundary s).wit = s.wit := by
  unfold prCfgBoundary
  exact (noteResort_wit _).trans ((forEach_wit (fun w s => by simp) _ _).trans rfl)

@[simp] theorem liningCount_wit (s : State) : (liningCount s).wit = s.wit := rfl

@[simp] theorem pairBoundary_wit (s : State) : (pairBoundary s).wit = s.wit := by
  simp [pairBoundary, ite_wit]

@[simp] theorem yieldTimeout_wit (s : State) : (yieldTimeout s).wit = s.wit := by
  unfold yieldTimeout; (repeat' split) <;> simp

@[simp] theorem prWtrExpire_wit (s : State) : (prWtrExpire s).wit = s.wit := by
  unfold prWtrExpire; (repeat' split) <;> simp

@[simp] theorem claimTimeout_wit (s : State) : (claimTimeout s).wit = s.wit := by
  unfold claimTimeout; (repeat' split) <;> simp

@[simp] theorem liningDown_wit (s : State) (x1) : (liningDown s x1).wit = s.wit := by
  unfold liningDown
  try dsimp only
  repeat' (first
    | (simp [ite_wit]; done)
    | split
    | refine (forEach_wit (fun x s => ?_) _ _).trans ?_
    | refine (foldl_wit (fun x s => ?_) _ _).trans ?_)

@[simp] theorem liningUp_wit (s : State) : (liningUp s).wit = s.wit := by
  unfold liningUp; (repeat' split) <;> simp

@[simp] theorem joinStart_wit (s : State) : (joinStart s).wit = s.wit := by
  simp [joinStart, ite_wit]

@[simp] theorem joinTimeout_wit (s : State) : (joinTimeout s).wit = s.wit := by
  unfold joinTimeout; (repeat' split) <;> simp

@[simp] theorem takeState_wit (s : State) (x1) : (takeState s x1).wit = s.wit :=
  (forEach_wit (fun k s => by simp) _ _).trans rfl

@[simp] theorem takeImage_wit (s : State) (x1) : (takeImage s x1).wit = s.wit := by
  unfold takeImage; (repeat' split) <;> simp

@[simp] theorem asOf_wit {f : State → State} (h : ∀ s, (f s).wit = s.wit) (s : State) (t : Nat) :
    (asOf s t f).wit = s.wit := h _

@[simp] theorem takeControl_wit (s : State) (x1) (x2) (x3) : (takeControl s x1 x2 x3).wit = s.wit := by
  unfold takeControl; exact forEach_wit (fun k s => by split <;> simp) _ _

@[simp] theorem mirrorImage_wit (s : State) (x1) (x2) (x3) (x4) : (mirrorImage s x1 x2 x3 x4).wit = s.wit := by
  unfold mirrorImage
  try dsimp only
  repeat' (first
    | (simp [ite_wit]; done)
    | split
    | refine (forEach_wit (fun x s => ?_) _ _).trans ?_
    | refine (foldl_wit (fun x s => ?_) _ _).trans ?_)

@[simp] theorem imageVerdict_wit (s : State) (x1) : (imageVerdict s x1).wit = s.wit := by
  unfold imageVerdict; (repeat' split) <;> simp [ite_wit]

@[simp] theorem liningHeard_wit (s : State) (x1) : (liningHeard s x1).wit = s.wit := by
  unfold liningHeard
  try dsimp only
  repeat' (first
    | (simp [ite_wit]; done)
    | split
    | refine (forEach_wit (fun x s => ?_) _ _).trans ?_
    | refine (foldl_wit (fun x s => ?_) _ _).trans ?_)

@[simp] theorem mirrorChanges_wit (x1) (s : State) : (mirrorChanges x1 s).wit = s.wit := by
  unfold mirrorChanges
  generalize s.pr.outbox ++ _ = ms
  dsimp only
  split
  · rfl
  · exact lining_wit _ _

@[simp] theorem mirrorStitch_wit (s : State) : (mirrorStitch s).wit = s.wit := by
  simp [mirrorStitch, forEach_wit, ite_wit]

@[simp] theorem askMissing_wit (s : State) : (askMissing s).wit = s.wit := by
  simp [askMissing, forEach_wit, ite_wit]

@[simp] theorem malformed_wit (s : State) : (malformed s).wit = s.wit := rfl

@[simp] theorem hello_wit (s : State) (x1) (x2) : (hello s x1 x2).wit = s.wit := by
  simp [hello, ite_wit]

@[simp] theorem welcome_wit (s : State) (x1) (x2) (x3) (x4) : (welcome s x1 x2 x3 x4).wit = s.wit := by
  simp [welcome]

@[simp] theorem openSession_wit (s : State) (x1) (x2) : (openSession s x1 x2).wit = s.wit := by
  simp [openSession]

@[simp] theorem proof_wit (s : State) (x1) (x2) (x3) : (proof s x1 x2 x3).wit = s.wit := by
  unfold proof; (repeat' split) <;> simp [ite_wit]

@[simp] theorem challengeLapse_wit (s : State) : (challengeLapse s).wit = s.wit := rfl

@[simp] theorem authExpire_wit (s : State) : (authExpire s).wit = s.wit := rfl

@[simp] theorem idleTimeout_wit (s : State) : (idleTimeout s).wit = s.wit := by
  simp [idleTimeout]

@[simp] theorem orRefuse_wit {s : State} {go : State × Option Ended} (h : go.1.wit = s.wit) (op : Nat)
    (fails : List (Code × Bool)) : (orRefuse s op fails go).1.wit = s.wit := by
  unfold orRefuse; dsimp only; split
  · exact h
  · rfl

@[simp] theorem done_wit (s : State) (x1) (x2) : (done s x1 x2).1.wit = s.wit := rfl

@[simp] theorem sesRequest_wit (s : State) (x1) (x2) (x3) : (sesRequest s x1 x2 x3).1.wit = s.wit := rfl

@[simp] theorem opNop_wit (s : State) (x1) (x2) : (opNop s x1 x2).1.wit = s.wit := rfl

@[simp] theorem opRegRead_wit (s : State) (x1) (x2) : (opRegRead s x1 x2).1.wit = s.wit := by
  unfold opRegRead
  try dsimp only
  repeat' (first
    | with_reducible rfl
    | (simp; done)
    | split
    | refine (onBit_wit (fun s => ?_) _ _ _).trans ?_
    | refine orRefuse_wit ?_ _ _
    | refine (forEach_wit (fun x s => ?_) _ _).trans ?_
    | refine (foldl_wit (fun x s => ?_) _ _).trans ?_)

@[simp] theorem opBsOpen_wit (s : State) (x1) (x2) : (opBsOpen s x1 x2).1.wit = s.wit := by
  unfold opBsOpen
  try dsimp only
  repeat' (first
    | with_reducible rfl
    | (simp; done)
    | split
    | refine (onBit_wit (fun s => ?_) _ _ _).trans ?_
    | refine orRefuse_wit ?_ _ _
    | refine (forEach_wit (fun x s => ?_) _ _).trans ?_
    | refine (foldl_wit (fun x s => ?_) _ _).trans ?_)

@[simp] theorem opBsAdd_wit (s : State) (x1) (x2) : (opBsAdd s x1 x2).1.wit = s.wit := by
  unfold opBsAdd
  try dsimp only
  repeat' (first
    | (simp; done)
    | split
    | refine (forEach_wit (fun x s => ?_) _ _).trans ?_
    | refine (foldl_wit (fun x s => ?_) _ _).trans ?_)

@[simp] theorem opBsCommit_wit (s : State) (x1) (x2) : (opBsCommit s x1 x2).1.wit = s.wit := by
  unfold opBsCommit
  try dsimp only
  repeat' (first
    | with_reducible rfl
    | (simp; done)
    | split
    | refine (onBit_wit (fun s => ?_) _ _ _).trans ?_
    | refine orRefuse_wit ?_ _ _
    | refine (forEach_wit (fun x s => ?_) _ _).trans ?_
    | refine (foldl_wit (fun x s => ?_) _ _).trans ?_)

@[simp] theorem opBsAbort_wit (s : State) (x1) (x2) : (opBsAbort s x1 x2).1.wit = s.wit := by
  unfold opBsAbort
  try dsimp only
  repeat' (first
    | with_reducible rfl
    | (simp; done)
    | split
    | refine (onBit_wit (fun s => ?_) _ _ _).trans ?_
    | refine orRefuse_wit ?_ _ _
    | refine (forEach_wit (fun x s => ?_) _ _).trans ?_
    | refine (foldl_wit (fun x s => ?_) _ _).trans ?_)

@[simp] theorem opChange_wit (s : State) (x1) (x2) : (opChange s x1 x2).1.wit = s.wit := by
  unfold opChange
  try dsimp only
  repeat' (first
    | (simp; done)
    | split
    | refine (forEach_wit (fun x s => ?_) _ _).trans ?_
    | refine (foldl_wit (fun x s => ?_) _ _).trans ?_)

@[simp] theorem seWriteWords_wit (s : State) (x1) (x2) : (seWriteWords s x1 x2).wit = s.wit := by
  unfold seWriteWords
  try dsimp only
  repeat' (first
    | (simp [ite_wit]; done)
    | split
    | refine (forEach_wit (fun x s => ?_) _ _).trans ?_
    | refine (foldl_wit (fun x s => ?_) _ _).trans ?_)

@[simp] theorem opSchedWrite_wit (s : State) (x1) (x2) : (opSchedWrite s x1 x2).1.wit = s.wit := by
  unfold opSchedWrite
  try dsimp only
  repeat' (first
    | with_reducible rfl
    | (simp; done)
    | split
    | refine (onBit_wit (fun s => ?_) _ _ _).trans ?_
    | refine orRefuse_wit ?_ _ _
    | refine (forEach_wit (fun x s => ?_) _ _).trans ?_
    | refine (foldl_wit (fun x s => ?_) _ _).trans ?_)

@[simp] theorem opSchedDel_wit (s : State) (x1) (x2) : (opSchedDel s x1 x2).1.wit = s.wit := by
  unfold opSchedDel
  try dsimp only
  repeat' (first
    | with_reducible rfl
    | (simp; done)
    | split
    | refine (onBit_wit (fun s => ?_) _ _ _).trans ?_
    | refine orRefuse_wit ?_ _ _
    | refine (forEach_wit (fun x s => ?_) _ _).trans ?_
    | refine (foldl_wit (fun x s => ?_) _ _).trans ?_)

@[simp] theorem opEnable_wit (s : State) (x1) (x2) : (opEnable s x1 x2).1.wit = s.wit := by
  unfold opEnable
  try dsimp only
  repeat' (first
    | with_reducible rfl
    | (simp; done)
    | split
    | refine (onBit_wit (fun s => ?_) _ _ _).trans ?_
    | refine orRefuse_wit ?_ _ _
    | refine (forEach_wit (fun x s => ?_) _ _).trans ?_
    | refine (foldl_wit (fun x s => ?_) _ _).trans ?_)

@[simp] theorem opRelease_wit (s : State) (x1) (x2) : (opRelease s x1 x2).1.wit = s.wit := by
  unfold opRelease
  try dsimp only
  repeat' (first
    | with_reducible rfl
    | (simp; done)
    | split
    | refine (onBit_wit (fun s => ?_) _ _ _).trans ?_
    | refine orRefuse_wit ?_ _ _
    | refine (forEach_wit (fun x s => ?_) _ _).trans ?_
    | refine (foldl_wit (fun x s => ?_) _ _).trans ?_)

@[simp] theorem opMeterRead_wit (s : State) (x1) (x2) : (opMeterRead s x1 x2).1.wit = s.wit := by
  unfold opMeterRead
  try dsimp only
  repeat' (first
    | with_reducible rfl
    | (simp; done)
    | split
    | refine (onBit_wit (fun s => ?_) _ _ _).trans ?_
    | refine orRefuse_wit ?_ _ _
    | refine (forEach_wit (fun x s => ?_) _ _).trans ?_
    | refine (foldl_wit (fun x s => ?_) _ _).trans ?_)

@[simp] theorem opSubscribe_wit (s : State) (x1) (x2) : (opSubscribe s x1 x2).1.wit = s.wit := by
  unfold opSubscribe
  try dsimp only
  repeat' (first
    | with_reducible rfl
    | (simp; done)
    | split
    | refine (onBit_wit (fun s => ?_) _ _ _).trans ?_
    | refine orRefuse_wit ?_ _ _
    | refine (forEach_wit (fun x s => ?_) _ _).trans ?_
    | refine (foldl_wit (fun x s => ?_) _ _).trans ?_)

@[simp] theorem opAcceptStep_wit (s : State) (x1) (x2) : (opAcceptStep s x1 x2).1.wit = s.wit := by
  unfold opAcceptStep
  try dsimp only
  repeat' (first
    | with_reducible rfl
    | (simp; done)
    | split
    | refine (onBit_wit (fun s => ?_) _ _ _).trans ?_
    | refine orRefuse_wit ?_ _ _
    | refine (forEach_wit (fun x s => ?_) _ _).trans ?_
    | refine (foldl_wit (fun x s => ?_) _ _).trans ?_)

@[simp] theorem fwdImage_wit (s : State) (x1) (x2) (x3) (x4) : (fwdImage s x1 x2 x3 x4).wit = s.wit := by
  unfold fwdImage
  try dsimp only
  repeat' (first
    | (simp [ite_wit]; done)
    | split
    | refine (forEach_wit (fun x s => ?_) _ _).trans ?_
    | refine (foldl_wit (fun x s => ?_) _ _).trans ?_)

theorem imageDone_wit (x1) (r : Code × State) {f : State → State} (h : ∀ s, (f s).wit = s.wit) :
    (imageDone x1 r f).1.wit = r.2.wit := by
  unfold imageDone; split
  · exact h _
  · rfl

@[simp] theorem opImgBegin_wit (s : State) (x1) (x2) : (opImgBegin s x1 x2).1.wit = s.wit := by
  unfold opImgBegin
  exact orRefuse_wit ((imageDone_wit _ _ fun t => by simp).trans (by simp)) _ _

@[simp] theorem opImgData_wit (s : State) (x1) (x2) : (opImgData s x1 x2).1.wit = s.wit := by
  unfold opImgData; dsimp only
  split
  · split
    · rfl
    · exact orRefuse_wit ((imageDone_wit _ _ fun t => by simp).trans (by simp)) _ _
  · rfl

@[simp] theorem opImgEnd_wit (s : State) (x1) (x2) : (opImgEnd s x1 x2).1.wit = s.wit := by
  unfold opImgEnd
  try dsimp only
  repeat' (first
    | (simp [ite_wit]; done)
    | split
    | refine (forEach_wit (fun x s => ?_) _ _).trans ?_
    | refine (foldl_wit (fun x s => ?_) _ _).trans ?_)

@[simp] theorem opImgAbort_wit (s : State) (x1) (x2) : (opImgAbort s x1 x2).1.wit = s.wit := by
  unfold opImgAbort
  try dsimp only
  repeat' (first
    | (simp [ite_wit]; done)
    | split
    | refine (forEach_wit (fun x s => ?_) _ _).trans ?_
    | refine (foldl_wit (fun x s => ?_) _ _).trans ?_)

@[simp] theorem opFullReset_wit (s : State) (x1) (x2) : (opFullReset s x1 x2).1.wit = s.wit := by
  unfold opFullReset
  try dsimp only
  repeat' (first
    | with_reducible rfl
    | (simp; done)
    | split
    | refine (onBit_wit (fun s => ?_) _ _ _).trans ?_
    | refine orRefuse_wit ?_ _ _
    | refine (forEach_wit (fun x s => ?_) _ _).trans ?_
    | refine (foldl_wit (fun x s => ?_) _ _).trans ?_)

@[simp] theorem opClose_wit (s : State) (x1) (x2) : (opClose s x1 x2).1.wit = s.wit := rfl

@[simp] theorem stale_wit (s : State) (x1) (x2) : (stale s x1 x2).wit = s.wit := by
  simp [stale]

@[simp] theorem sesDecision_wit (s : State) (x1) : (sesDecision s x1).wit = s.wit := by
  unfold sesDecision; (repeat' split) <;> simp

@[simp] theorem freeOrphans_wit (s : State) : (freeOrphans s).wit = s.wit := by
  simp [freeOrphans, forEach_wit, ite_wit]

@[simp] theorem sessionDecisions_wit (s : State) : (sessionDecisions s).wit = s.wit := by
  unfold sessionDecisions
  try dsimp only
  repeat' (first
    | (simp [forEach_wit, ite_wit]; done)
    | split
    | refine (forEach_wit (fun x s => ?_) _ _).trans ?_
    | refine (foldl_wit (fun x s => ?_) _ _).trans ?_)

@[simp] theorem arpRequest_wit (s : State) (x1) : (arpRequest s x1).wit = s.wit := by
  simp [arpRequest, ite_wit]

@[simp] theorem fenceStep_wit (s : State) (x1) : (fenceStep s x1).wit = s.wit := by
  unfold fenceStep; (repeat' split) <;> simp

@[simp] theorem groupStopped_wit (s : State) (x1) : (groupStopped s x1).wit = s.wit := by
  simp [groupStopped, ite_wit]

@[simp] theorem answerQuery_wit (s : State) (x1) : (answerQuery s x1).wit = s.wit := by
  unfold answerQuery
  try dsimp only
  repeat' (first
    | (simp [ite_wit]; done)
    | split
    | refine (forEach_wit (fun x s => ?_) _ _).trans ?_
    | refine (foldl_wit (fun x s => ?_) _ _).trans ?_)

@[simp] theorem cancelReports_wit (s : State) (x1) (x2) : (cancelReports s x1 x2).wit = s.wit := by
  unfold cancelReports
  try dsimp only
  repeat' (first
    | (simp [ite_wit]; done)
    | split
    | refine (forEach_wit (fun x s => ?_) _ _).trans ?_
    | refine (foldl_wit (fun x s => ?_) _ _).trans ?_)

@[simp] theorem memQuery_wit (s : State) (x1) : (memQuery s x1).wit = s.wit := by
  unfold memQuery; (repeat' split) <;> simp

@[simp] theorem producerCommit_wit (s : State) (x1) (x2) : (producerCommit s x1 x2).wit = s.wit := by
  unfold producerCommit; (repeat' split) <;> simp

@[simp] theorem spoolReady_wit (s : State) (x1) : (spoolReady s x1).wit = s.wit := by
  unfold spoolReady; (repeat' split) <;> simp

@[simp] theorem moderationEnd_wit (s : State) (x1) : (moderationEnd s x1).wit = s.wit := by
  unfold moderationEnd
  try dsimp only
  repeat' (first
    | (simp [ite_wit]; done)
    | split
    | refine (forEach_wit (fun x s => ?_) _ _).trans ?_
    | refine (foldl_wit (fun x s => ?_) _ _).trans ?_)

@[simp] theorem holdoffOver_wit (s : State) (x1) : (holdoffOver s x1).wit = s.wit := by
  unfold holdoffOver
  try dsimp only
  repeat' (first
    | (simp [ite_wit]; done)
    | split
    | refine (forEach_wit (fun x s => ?_) _ _).trans ?_
    | refine (foldl_wit (fun x s => ?_) _ _).trans ?_)

@[simp] theorem pcieChange_wit (s : State) (x1) (x2) (x3) : (pcieChange s x1 x2 x3).wit = s.wit := by
  unfold pcieChange
  try dsimp only
  repeat' (first
    | (simp [ite_wit]; done)
    | split
    | refine (forEach_wit (fun x s => ?_) _ _).trans ?_
    | refine (foldl_wit (fun x s => ?_) _ _).trans ?_)

@[simp] theorem perstLow_wit (s : State) : (perstLow s).wit = s.wit := by
  simp [perstLow]

@[simp] theorem perstHigh_wit (s : State) : (perstHigh s).wit = s.wit := by
  unfold perstHigh; (repeat' split) <;> simp

@[simp] theorem tick_wit (s : State) : (tick s).wit = s.wit := by
  unfold tick
  try dsimp only
  repeat' (first
    | (simp [ite_wit]; done)
    | split
    | refine (forEach_wit (fun x s => ?_) _ _).trans ?_
    | refine (foldl_wit (fun x s => ?_) _ _).trans ?_)

end Sys2Proof.Machine
end

