-- ==== Sys2Proof/Laws/WitGrant.lean ====
section
/-! SUPPORT. Whatever a command does, the witness never grants both units (R419): what it drops in QUIET and in a reset,
what its decision sets, and that everything else leaves it as it is. -/

namespace Sys2Proof.Machine

theorem oneGrant_eq {w v : Witness} (e : w = v) (h : oneGrant v = true) : oneGrant w = true := by rw [e]; exact h

/-! ## Loops and conditions -/

theorem forEach_grant {α : Type} {f : α → State → State}
    (h : ∀ x s, oneGrant s.wit = true → oneGrant (f x s).wit = true) (xs : List α) {s : State}
    (hs : oneGrant s.wit = true) : oneGrant (forEach xs s f).wit = true := by
  induction xs generalizing s with
  | nil => exact hs
  | cons x xs ih => exact ih (h x s hs)

/-! ## Resets, QUIET, the thimble -/

theorem fullReset_grant (s : State) (cause : Nat) : oneGrant (fullReset s cause).wit = true := rfl

theorem dropLines_grant {s : State} (h : oneGrant s.wit = true) : oneGrant (dropLines s).wit = true := by
  unfold dropLines; split
  · rfl
  · exact h

theorem enterQuiet_grant {s : State} (how : QuietHow) (h : oneGrant s.wit = true) :
    oneGrant (enterQuiet s how).wit = true := by
  unfold enterQuiet
  split
  · exact h
  · extract_lets a b c d
    have hc : c.wit = s.wit := by
      show (if isPair b then setGate b false else b).wit = _
      split <;> simp [b, a]
    have hd : d.wit = (dropLines c).wit := by
      show (coGateAll _).wit = _
      rw [coGateAll_wit, wakeUpdate_wit, clocksOff_wit, closeAll_wit, portsOff_wit]
    have hg : oneGrant d.wit = true := oneGrant_eq hd (dropLines_grant (oneGrant_eq hc h))
    split
    · exact oneGrant_eq (stopLanes_wit d) hg
    · exact oneGrant_eq ((stopLanes_wit _).trans (emit_wit d _)) hg

theorem safeState_grant {s : State} (row : Nat) (h : oneGrant s.wit = true) : oneGrant (safeState s row).wit = true := by
  unfold safeState
  split
  · exact enterQuiet_grant _ (oneGrant_eq (by rw [raise_wit, State.setSaf_wit]) h)
  · split
    · exact h
    · extract_lets a b
      have hb : b.wit = s.wit := by show (safeAct _ _).wit = _; rw [safeAct_wit, raise_wit, State.setSaf_wit]
      split
      · exact oneGrant_eq (by rw [engineMute_wit, hb]) h
      · exact oneGrant_eq hb h

theorem reactAll_grant {s : State} (rs : List Report1) (h : oneGrant s.wit = true) :
    oneGrant (reactAll s rs).wit = true := by
  unfold reactAll; extract_lets is5; split
  · exact enterQuiet_grant _ h
  · refine forEach_grant (fun row s => safeState_grant row) _ ?_
    refine oneGrant_eq ?_ h
    rw [ite_wit, engineMute_wit, ite_self]

theorem takeReports_grant {s : State} (h : oneGrant s.wit = true) : oneGrant (takeReports s).wit = true := by
  unfold takeReports
  split
  · exact h
  · extract_lets rs live a b c
    have ha : a.wit = s.wit := (forEach_wit (fun r s => noteFault_wit s r) _ _).trans (State.setSaf_wit s _)
    have hb : oneGrant b.wit = true := by
      show oneGrant (if live then reactAll a rs else a).wit = true
      split
      · exact reactAll_grant rs (oneGrant_eq ha h)
      · exact oneGrant_eq ha h
    have hc : c.wit = b.wit := by
      show (if _ then b.setSaf _ else b).wit = _
      split
      · rw [State.setSaf_wit]
      · rfl
    split
    · exact fullReset_grant _ _
    · exact oneGrant_eq hc hb

theorem exhaustedQuiet_grant {s : State} (h : oneGrant s.wit = true) : oneGrant (exhaustedQuiet s).wit = true := by
  unfold exhaustedQuiet; split
  · exact enterQuiet_grant _ h
  · exact h

theorem lockstepReset_grant {s : State} (h : oneGrant s.wit = true) : oneGrant (lockstepReset s).wit = true := by
  unfold lockstepReset; split
  · split
    · exact fullReset_grant _ _
    · exact h
  · exact h

/-! ## Register writes -/

theorem startCfgReset_grant {s : State} (h : oneGrant s.wit = true) : oneGrant (startCfgReset s).wit = true := by
  unfold startCfgReset; split
  · exact fullReset_grant _ _
  · exact oneGrant_eq (State.setPl_wit s _) h

theorem glbWrite_grant {s : State} (r : Reg) (i j : Nat) (v : Word) (h : oneGrant s.wit = true) :
    oneGrant (glbWrite s r i j v).wit = true := by
  unfold glbWrite; split
  · exact oneGrant_eq (glbCmd_wit s v) h
  · unfold glbResetWrite; split
    · exact fullReset_grant _ _
    · split
      · exact oneGrant_eq (closeAll_wit _) (startCfgReset_grant h)
      · exact h
  · exact oneGrant_eq (put_wit s _ _ _ _) h

theorem blockWrite_grant {s : State} (r : Reg) (i j : Nat) (v : Word) (h : oneGrant s.wit = true) :
    oneGrant (blockWrite s r i j v).wit = true := by
  unfold blockWrite; split
  · exact oneGrant_eq (clearFlags_wit s r v i) h
  · split
    · exact glbWrite_grant r i j v h
    all_goals exact oneGrant_eq (by simp) h

theorem acceptWrite_grant {s : State} (o : Origin) (r : Reg) (i j off : Nat) (v : Word) (h : oneGrant s.wit = true) :
    oneGrant (acceptWrite o s r i j off v).wit = true := by
  unfold acceptWrite; split
  · exact oneGrant_eq (put_wit s _ _ _ _) h
  · exact oneGrant_eq (forwardWrite_wit _ _ _ _) (blockWrite_grant r i j v h)

theorem carryOut_grant {s : State} (o : Origin) (off : Nat) (v : Word) (c : Code) (h : oneGrant s.wit = true) :
    oneGrant (carryOut o s off v c).wit = true := by
  unfold carryOut; split
  · exact h
  · split
    · exact oneGrant_eq (reportFault_wit _ _ _ _ _) h
    · split
      · exact acceptWrite_grant o _ _ _ _ v h
      · exact h

theorem pcieWrite_grant {s : State} (bar off : Nat) (v : Word) (be : Nat) (poison : Bool) (h : oneGrant s.wit = true) :
    oneGrant (pcieWrite s bar off v be poison).wit = true := by
  unfold pcieWrite
  split
  · exact carryOut_grant .pcie off v _ (oneGrant_eq (capture_wit _ _ _ _) h)
  · split
    · exact oneGrant_eq (capture_wit _ _ _ _) h
    · exact oneGrant_eq ((capture_wit _ _ _ _).trans (writeWindow_wit _ _ _ _)) h

theorem regWrite_grant {s : State} (r : Reg) (i j : Nat) (v : Word) (be : Nat) (h : oneGrant s.wit = true) :
    oneGrant (regWrite s r i j v be).wit = true := pcieWrite_grant 0 _ v be false h

theorem cmdBit_grant {s : State} (r : Reg) (i b : Nat) (h : oneGrant s.wit = true) :
    oneGrant (cmdBit s r i b).wit = true := regWrite_grant r i 0 _ 15 h

/-! ## Start-up and configuration resets -/

theorem applyRegs_grant {s : State} (rs : List PatRec) (h : oneGrant s.wit = true) : oneGrant (applyRegs s rs).wit = true := by
  refine forEach_grant (fun r s hs => ?_) rs h
  split
  · split
    · exact hs
    · rename_i a off v _
      have hw : oneGrant (writeReg .loader s off v).2.wit = true := carryOut_grant .loader _ _ _ hs
      show oneGrant (if (writeReg .loader s off v).1 = .ok then (writeReg .loader s off v).2 else _).wit = true
      split
      · exact hw
      · exact oneGrant_eq (rejectRec_wit _ _ _) hw
  · exact hs

theorem startPattern_grant {s : State} (p : Pattern) (oe : Option Bool) (h : oneGrant s.wit = true) :
    oneGrant (startPattern s p oe).wit = true := by
  unfold startPattern
  extract_lets a b c
  have ha : oneGrant a.wit = true := applyRegs_grant p.recs (oneGrant_eq (applyFixed_wit s p) h)
  split
  · exact ha
  · split
    · exact oneGrant_eq (by rw [applyLocks_wit, beginJoin_wit]) ha
    · have hc : c.wit = a.wit := by
        show (State.setPl _ _).wit = _
        rw [State.setPl_wit, applyLocks_wit, admitStart_wit]
      split
      · exact oneGrant_eq ((prState_wit _ _).trans hc) ha
      · exact oneGrant_eq hc ha

theorem startUnit_grant {s : State} (env : StartEnv) (h : oneGrant s.wit = true) : oneGrant (startUnit s env).wit = true := by
  unfold startUnit
  extract_lets c r
  have hc : c.wit = s.wit := by
    show (if isPair s then s else setGate s env.oePin).wit = _
    rw [ite_wit, setGate_wit, ite_self]
  have hr : r.1.wit = s.wit := (selectImage_wit _).trans ((readStart_wit c env).trans hc)
  split
  · exact oneGrant_eq ((enterBare_wit _).trans hr) h
  · refine startPattern_grant _ _ (oneGrant_eq ?_ h)
    rw [liningStart_wit, calibrate_wit, setActive_wit]; exact hr

theorem startAs_grant {s : State} (env : StartEnv) (h : oneGrant s.wit = true) : oneGrant (startAs s env).wit = true := by
  unfold startAs
  split
  · exact oneGrant_eq (reportFault_wit s _ _ _ _) h
  · split
    · exact oneGrant_eq ((reportFault_wit _ _ _ _ _).trans (State.setPl_wit s _)) h
    · split
      · exact h
      · exact startUnit_grant env h

theorem startUp_grant {s : State} (env : StartEnv) (h : oneGrant s.wit = true) : oneGrant (startUp s env).wit = true := by
  unfold startUp
  split
  · exact h
  · refine startAs_grant env (oneGrant_eq ?_ h)
    unfold startRole
    rw [ite_wit, rolePowers_wit, prState_wit, ite_self]
    exact (synStart_wit _).trans (senseStart_wit s env)

theorem cfgApply_wit (s : State) (x : CfgNet) : (cfgApply s x).wit = s.wit := by
  unfold cfgApply
  generalize cfgShadow s x.check.pat = sh
  rw [lining_wit]
  simp only [refAudioStart_wit, loadStitch_wit, raise_wit, applyLocks_wit, cfgObjects_wit, raiseIf_wit, State.setPl_wit,
    setActive_wit, cfgStarts_wit]
  refine (forEach_wit (fun m s => setMc_wit s m _) _ _).trans ?_
  simp only [State.setCio_wit, State.setGlb_wit, State.setSes_wit, cfgSwitch_wit, cfgHooks_wit, cfgRegs_wit, cfgStops_wit,
    cfgEvents_wit, cfgClear_wit, cfgDiscard_wit]

theorem cfgBoundary_wit (s : State) : (cfgBoundary s).wit = s.wit := by
  unfold cfgBoundary
  repeat' split
  · exact cfgApply_wit s _
  · exact cfgDeferred_wit s
  · exact cfgDeferred_wit s
  · exact cfgDeferred_wit s

theorem boundary_wit {cfg : State → State} (hc : ∀ s, (cfg s).wit = s.wit) (s : State) (env : StitchEnv) :
    (boundary s env cfg).wit = s.wit := by
  unfold boundary
  split
  · rfl
  · extract_lets a b c d e f g
    split
    · rw [ruleBoundary_wit, lockBoundary_wit, waitBoundary_wit]
      show (gridWatch _).wit = _
      rw [gridWatch_wit, refBoundary_wit, timeBoundary_wit, hc]
      exact mcsPass_wit _
    · rw [vcoreEval_wit, stitchWork_wit]
      show (ruleBoundary _ _).wit = _
      rw [ruleBoundary_wit, judgeBoundary_wit, audioBoundary_wit]
      show (gridWatch _).wit = _
      rw [gridWatch_wit, refBoundary_wit, timeBoundary_wit, hc]
      exact mcsPass_wit _

theorem stitchStep_wit (s : State) (env : StitchEnv) : (stitchStep s env).wit = s.wit := by
  unfold stitchStep
  split
  · rfl
  · rw [askMissing_wit, mirrorStitch_wit, notifyAll_wit,
      boundary_wit (cfg := fun s => cfgBoundary (pairBoundary s)) (fun s => (cfgBoundary_wit _).trans (pairBoundary_wit s)),
      runOwed_wit]

/-! ## Lining and sessions -/

theorem takeMirror_grant {s : State} (m : Mirrored) (h : oneGrant s.wit = true) : oneGrant (takeMirror s m).wit = true := by
  unfold takeMirror
  split
  · split
    · exact blockWrite_grant (s := { s with now := _ }) _ _ _ _ h
    · exact h
  · exact oneGrant_eq (vcoreEval_wit _) h
  · exact oneGrant_eq (vcoreEval_wit _) h
  · exact h
  · exact oneGrant_eq (vcoreEval_wit _) h
  · exact oneGrant_eq (seMirrored_wit _ _ _) h
  · exact h
  · exact h
  · exact oneGrant_eq (setTbk_wit _ _ _) h
  · split <;> exact h
  · exact oneGrant_eq (mirrorImage_wit _ _ _ _ _) h
  · split
    · exact oneGrant_eq (setHem_wit _ _ _) h
    · exact h
  · split
    · exact oneGrant_eq (coClr_wit _ _) h
    · exact h
  · exact h
  · exact oneGrant_eq (takeControl_wit _ _ _ _) h
  · exact oneGrant_eq (takeGroup_wit _ _ _) h
  · exact oneGrant_eq ((rxDecided_wit _ _ _).trans (setRx_wit _ _ _)) h
  · dsimp only; split
    · exact oneGrant_eq ((seamTrig_wit _ _ _).trans (setSeam_wit _ _ _)) h
    · exact oneGrant_eq (setSeam_wit _ _ _) h
  · exact oneGrant_eq (setTbk_wit _ _ _) h
  · exact oneGrant_eq (setMc_wit _ _ _) h
  · exact oneGrant_eq (setSp_wit _ _ _) h

theorem takeMirrors_grant {s : State} (ms : List Mirrored) (h : oneGrant s.wit = true) :
    oneGrant (takeMirrors s ms).wit = true := by
  unfold takeMirrors
  split
  · exact h
  · extract_lets t
    have ht : oneGrant t.wit = true := forEach_grant (fun m s hs => by
      split
      · exact oneGrant_eq (lining_wit _ _) (takeMirror_grant _ hs)
      · exact takeMirror_grant _ hs) ms h
    split
    · exact oneGrant_eq (runOwed_wit t) ht
    · exact ht

theorem takeMessage_grant {s : State} (m : LinMsg) (h : oneGrant s.wit = true) : oneGrant (takeMessage s m).wit = true := by
  unfold takeMessage
  split
  · exact takeMirrors_grant _ h
  all_goals (refine oneGrant_eq ?_ h; (try dsimp only); (repeat' split) <;> first | rfl | (simp; done) | exact forEach_wit (fun x s => lining_wit s _) _ _)

theorem liningMessage_grant {s : State} (m : LinMsg) (h : oneGrant s.wit = true) :
    oneGrant (liningMessage s m).wit = true := by
  unfold liningMessage
  split
  · exact h
  · extract_lets t
    have ht : oneGrant t.wit = true := oneGrant_eq (liningHeard_wit s m) h
    split
    · exact takeMessage_grant m ht
    · exact ht

theorem orRefuse_grant {s : State} {go : State × Option Ended} (op : Nat) (fails : List (Code × Bool))
    (hg : oneGrant go.1.wit = true) (h : oneGrant s.wit = true) : oneGrant (orRefuse s op fails go).1.wit = true := by
  unfold orRefuse; extract_lets; split
  · exact hg
  · exact h

theorem amongFails_grant {s : State} {go : State × Option Ended} (q : Request) (fails : List (Code × Bool))
    (hg : oneGrant go.1.wit = true) (h : oneGrant s.wit = true) : oneGrant (amongFails s q fails go).1.wit = true := by
  unfold amongFails; extract_lets; split
  · exact hg
  · exact h

theorem opRegWrite_grant {s : State} (k : Nat) (q : Request) (h : oneGrant s.wit = true) :
    oneGrant (opRegWrite s k q).1.wit = true := by
  unfold opRegWrite
  extract_lets a v
  refine orRefuse_grant _ _ ?_ h
  split
  · refine orRefuse_grant _ _ ?_ h
    split
    · exact h
    · split
      · exact startCfgReset_grant h
      · exact h
  · exact carryOut_grant .firyn a v _ h

theorem opCfgReset_grant {s : State} (k : Nat) (q : Request) (h : oneGrant s.wit = true) :
    oneGrant (opCfgReset s k q).1.wit = true := by
  unfold opCfgReset
  refine orRefuse_grant _ _ ?_ h
  split
  · exact h
  · exact startCfgReset_grant h

theorem runOp_grant {s : State} (k : Nat) (q : Request) (h : oneGrant s.wit = true) :
    oneGrant (runOp s k q).1.wit = true := by
  unfold runOp
  refine amongFails_grant _ _ ?_ h
  split
  case h_3 => exact opRegWrite_grant k q h
  case h_20 => exact opCfgReset_grant k q h
  all_goals exact oneGrant_eq (by simp) h

theorem startCommand_grant {s : State} (k : Nat) (q : Request) (h : oneGrant s.wit = true) :
    oneGrant (startCommand s k q).wit = true := by
  unfold startCommand
  split
  · exact h
  · have hr := runOp_grant (s := modSes s k fun x => { x with busy := some q }) k q (oneGrant_eq (modSes_wit _ _ _) h)
    split <;> rename_i e <;> rw [e] at hr
    · exact hr
    · split
      · exact oneGrant_eq (endCommand_wit _ _ _ _ _ _) hr
      · exact oneGrant_eq (sendTo_wit _ _ _) hr

theorem acceptCommand_grant {s : State} (k : Nat) (x : Ses) (q : Request) (h : oneGrant s.wit = true) :
    oneGrant (acceptCommand s k x q).wit = true := by
  unfold acceptCommand
  dsimp only
  split
  · exact startCommand_grant k q (oneGrant_eq (putSes_wit _ _ _) h)
  · split
    · exact oneGrant_eq (putSes_wit _ _ _) h
    · exact oneGrant_eq (by simp) h

theorem windowJudge_grant {s : State} (k : Nat) (x : Ses) (q : Request) (h : oneGrant s.wit = true) :
    oneGrant (windowJudge s k x q).wit = true := by
  unfold windowJudge
  extract_lets d
  split
  · exact acceptCommand_grant _ _ _ h
  · split
    · exact oneGrant_eq ((stale_wit _ _ _).trans (putSes_wit _ _ _)) h
    · split
      · exact acceptCommand_grant _ _ _ h
      · exact oneGrant_eq (putSes_wit _ _ _) h
      · exact oneGrant_eq ((stale_wit _ _ _).trans (putSes_wit _ _ _)) h
      · split
        · exact oneGrant_eq (putSes_wit _ _ _) h
        · exact oneGrant_eq ((sendTo_wit _ _ _).trans (putSes_wit _ _ _)) h

theorem requestArriveAt_grant {s : State} (op : Nat) (q : FirynReq) (at_ : Nat × Nat) (h : oneGrant s.wit = true) :
    oneGrant (requestArriveAt s op q at_).wit = true := by
  unfold requestArriveAt
  split
  · exact h
  · split
    · split
      · exact h
      · exact oneGrant_eq (malformed_wit _) h
    · split
      · exact oneGrant_eq (malformed_wit _) h
      · exact windowJudge_grant _ _ _ h

theorem requestArrive_grant {s : State} (op : Nat) (q : FirynReq) (h : oneGrant s.wit = true) :
    oneGrant (requestArrive s op q).wit = true := requestArriveAt_grant op q _ h

theorem commandStart_grant {s : State} (h : oneGrant s.wit = true) : oneGrant (commandStart s).wit = true := by
  unfold commandStart
  split
  · exact h
  · exact startCommand_grant _ _ (oneGrant_eq (modSes_wit _ _ _) h)

theorem sendOne_grant {s : State} (r : Reply) (h : oneGrant s.wit = true) : oneGrant (sendOne s r).wit = true := by
  unfold sendOne
  extract_lets t
  split
  · exact oneGrant_eq (sendReply_wit _ _) h
  · exact oneGrant_eq ((closeSession_wit _ _).trans (sendReply_wit _ _)) h
  · exact oneGrant_eq ((closeAll_wit _).trans (sendReply_wit _ _)) h
  · exact fullReset_grant _ _

theorem sendWhere_grant {s : State} (p : Reply → Bool) (h : oneGrant s.wit = true) :
    oneGrant (sendWhere s p).wit = true := forEach_grant (fun r _ => sendOne_grant r) _ h

theorem flushReplies_grant {s : State} (h : oneGrant s.wit = true) : oneGrant (flushReplies s).wit = true := by
  unfold flushReplies; split
  · exact h
  · exact sendWhere_grant _ h

theorem replySend_grant {s : State} (h : oneGrant s.wit = true) : oneGrant (replySend s).wit = true := sendWhere_grant _ h

theorem firynBytesAt_grant {s : State} (c : Client) (bs : List Byte) (at_ : Nat × Nat) (h : oneGrant s.wit = true) :
    oneGrant (firynBytesAt s c bs at_).wit = true := by
  unfold firynBytesAt
  split
  · exact h
  · extract_lets body type id
    repeat' split
    · exact oneGrant_eq (malformed_wit _) h
    · exact oneGrant_eq (hello_wit _ _ _) h
    · exact oneGrant_eq (proof_wit _ _ _ _) h
    · exact requestArriveAt_grant _ _ _ h
    · exact oneGrant_eq (malformed_wit _) h

theorem firynBytes_grant {s : State} (c : Client) (bs : List Byte) (h : oneGrant s.wit = true) :
    oneGrant (firynBytes s c bs).wit = true := firynBytesAt_grant c bs _ h

theorem takeItems_grant (n : Nat) {s : State} (h : oneGrant s.wit = true) : oneGrant (takeItems n s).wit = true := by
  induction n generalizing s with
  | zero => exact h
  | succ n ih =>
    simp only [takeItems]
    split
    · exact h
    · split
      · exact ih (flushReplies_grant (firynBytesAt_grant _ _ _ (oneGrant_eq (internalFinish_wit _ _) h)))
      · exact h

theorem mailboxTake_grant {s : State} (h : oneGrant s.wit = true) : oneGrant (mailboxTake s).wit = true := by
  unfold mailboxTake; split
  · exact takeItems_grant _ h
  · exact h

/-! ## The end of a command -/

theorem finishAll_grant {old s : State} (h : oneGrant s.wit = true) : oneGrant (finishAll old s).wit = true := by
  unfold finishAll
  extract_lets a f b
  have ha : oneGrant a.wit = true :=
    mailboxTake_grant (oneGrant_eq ((sessionDecisions_wit _).trans (settleDecided_wit _)) h)
  have hb : oneGrant b.wit = true :=
    exhaustedQuiet_grant (takeReports_grant (flushReplies_grant (oneGrant_eq (sessionDecisions_wit _) ha)))
  exact oneGrant_eq ((mirrorChanges_wit _ _).trans ((ejectDone_wit _).trans ((quietGate_wit _).trans (barsEnd_wit _)))) hb

theorem finish_grant {old s : State} (h : oneGrant s.wit = true) : oneGrant (finish old s).wit = true := by
  unfold finish; split
  · exact h
  · exact finishAll_grant h

/-- A command whose effect keeps the lines apart keeps them apart to its end. -/
theorem run_grant {s : State} {f : State → State} (hf : oneGrant s.wit = true → oneGrant (f s).wit = true)
    (h : oneGrant s.wit = true) : ∀ t, run s f = .next t → oneGrant t.wit = true := by
  intro t e
  injection e with e
  subst e
  exact finish_grant (hf h)

theorem heartbeatReceive_grant {s : State} (line : Nat) (bs : List Byte) (start : Nat) (h : oneGrant s.wit = true) :
    oneGrant (heartbeatReceive s line bs start).wit = true := by
  unfold heartbeatReceive
  split
  · exact h
  · split
    · split
      · exact h
      · rw [State.setWit_wit]; split <;> exact h
    · exact h

/-- Whatever the witness decides, its lines are those of one state (Table 18-5). -/
theorem witLines_apart (st : WitState) : ((witLines st).1 && (witLines st).2) = false := by cases st <;> rfl

end Sys2Proof.Machine
end

