-- ==== Sys2Proof/Laws/WitCommands.lean ====
section
/-! SUPPORT. No command leaves the witness granting both units (R419): one lemma for each meaning. -/

namespace Sys2Proof.Machine

theorem witnessDecision_grant {s : State} (h : oneGrant s.wit = true) : oneGrant (witnessDecision s).wit = true := by
  unfold witnessDecision
  split
  · exact h
  · extract_lets w e va vb a b m j st lines n agoA agoB after main other next moved f s1 s2 s3
    have h1 : oneGrant s1.wit = true := by
      show (!((witLines st).1 && (witLines st).2)) = true
      rw [witLines_apart]; rfl
    have h2 : oneGrant s2.wit = true := oneGrant_eq (emit_wit _ _) h1
    split
    · exact h2
    · refine oneGrant_eq (emit_wit _ _) (oneGrant_eq ?_ h2)
      rw [ite_wit, emit_wit, ite_self]

theorem evEntryWrite_grant {s : State} (src : Nat) (v : Word) (be : Nat) (h : oneGrant s.wit = true) :
    oneGrant (evEntryWrite s src v be).wit = true := by
  unfold evEntryWrite; split <;> exact regWrite_grant _ _ _ _ _ h

theorem sesRegWrite_grant {s : State} (x : SesReg) (v : Word) (be : Nat) (h : oneGrant s.wit = true) :
    oneGrant (sesRegWrite s x v be).wit = true := by
  unfold sesRegWrite; split <;> exact regWrite_grant _ _ _ _ _ h

theorem execStitchBoundary_grant (env : StitchEnv) {s next : State} (hs : oneGrant s.wit = true)
    (he : execStitchBoundary env s = .next next) : oneGrant next.wit = true := run_grant (f := fun s => stitchStep s env)
    (oneGrant_eq (stitchStep_wit s _)) hs next he

theorem execRampEnd_grant {s next : State} (hs : oneGrant s.wit = true)
    (he : execRampEnd s = .next next) : oneGrant next.wit = true := run_grant (f := fun s => rampEnd s)
    (oneGrant_eq (by simp)) hs next he

theorem execNaRelease_grant (k : Fin 2048) {s next : State} (hs : oneGrant s.wit = true)
    (he : execNaRelease k s = .next next) : oneGrant next.wit = true := run_grant (f := fun s => naRelease s k.val)
    (oneGrant_eq (by simp)) hs next he

theorem execMeterHoldExpire_grant (m : Fin 4096) {s next : State} (hs : oneGrant s.wit = true)
    (he : execMeterHoldExpire m s = .next next) : oneGrant next.wit = true := run_grant (f := fun s => meterHold s m.val)
    (oneGrant_eq (by simp)) hs next he

theorem execVoxOn_grant (k : Fin 256) {s next : State} (hs : oneGrant s.wit = true)
    (he : execVoxOn k s = .next next) : oneGrant next.wit = true := run_grant (f := fun s => voxOn s k.val)
    (oneGrant_eq (by simp)) hs next he

theorem execVoxOff_grant (k : Fin 256) {s next : State} (hs : oneGrant s.wit = true)
    (he : execVoxOff k s = .next next) : oneGrant next.wit = true := run_grant (f := fun s => voxOff s k.val)
    (oneGrant_eq (by simp)) hs next he

theorem execAudioStart_grant {s next : State} (hs : oneGrant s.wit = true)
    (he : execAudioStart s = .next next) : oneGrant next.wit = true := run_grant (f := fun s => audioStart s)
    (oneGrant_eq (by simp)) hs next he

theorem execHeartbeatSend_grant (workDone : Bool) {s next : State} (hs : oneGrant s.wit = true)
    (he : execHeartbeatSend workDone s = .next next) : oneGrant next.wit = true := run_grant (f := fun s => heartbeatSend s workDone)
    (oneGrant_eq (by simp)) hs next he

theorem execFence_grant (m : FenceMeas) {s next : State} (hs : oneGrant s.wit = true)
    (he : execFence m s = .next next) : oneGrant next.wit = true := run_grant (f := fun s => fenceStep s m)
    (oneGrant_eq (by simp)) hs next he

theorem execAdmissionDecide_grant {s next : State} (hs : oneGrant s.wit = true)
    (he : execAdmissionDecide s = .next next) : oneGrant next.wit = true := run_grant (f := fun s => admissionDecide s)
    (oneGrant_eq (by simp)) hs next he

theorem execVcoreSettled_grant {s next : State} (hs : oneGrant s.wit = true)
    (he : execVcoreSettled s = .next next) : oneGrant next.wit = true := run_grant (f := fun s => vcoreSettled s)
    (oneGrant_eq (by simp)) hs next he

theorem execVcoreConfirmed_grant {s next : State} (hs : oneGrant s.wit = true)
    (he : execVcoreConfirmed s = .next next) : oneGrant next.wit = true := run_grant (f := fun s => vcoreConfirmed s)
    (oneGrant_eq (by simp)) hs next he

theorem execVcoreHoldExpire_grant {s next : State} (hs : oneGrant s.wit = true)
    (he : execVcoreHoldExpire s = .next next) : oneGrant next.wit = true := run_grant (f := fun s => holdExpire s)
    (oneGrant_eq (by simp)) hs next he

theorem execVcoreStepDown_grant {s next : State} (hs : oneGrant s.wit = true)
    (he : execVcoreStepDown s = .next next) : oneGrant next.wit = true := run_grant (f := fun s => stepDown s)
    (oneGrant_eq (by simp)) hs next he

theorem execFabVcapWrite_grant (v : Word) (be : Fin 16) {s next : State} (hs : oneGrant s.wit = true)
    (he : execFabVcapWrite v be s = .next next) : oneGrant next.wit = true := run_grant (f := fun s => regWrite s .FAB_VCAP 0 0 v be.val)
    (regWrite_grant _ _ _ _ _) hs next he

theorem execFabReserve0Write_grant (v : Word) (be : Fin 16) {s next : State} (hs : oneGrant s.wit = true)
    (he : execFabReserve0Write v be s = .next next) : oneGrant next.wit = true := run_grant (f := fun s => regWrite s .FAB_RESERVE0 0 0 v be.val)
    (regWrite_grant _ _ _ _ _) hs next he

theorem execClrSlack_grant {s next : State} (hs : oneGrant s.wit = true)
    (he : execClrSlack s = .next next) : oneGrant next.wit = true := run_grant (f := fun s => cmdBit s .FAB_CMD 0 1)
    (cmdBit_grant _ _ _) hs next he

theorem execFabClrCounts_grant {s next : State} (hs : oneGrant s.wit = true)
    (he : execFabClrCounts s = .next next) : oneGrant next.wit = true := run_grant (f := fun s => cmdBit s .FAB_CMD 0 0)
    (cmdBit_grant _ _ _) hs next he

theorem execBsCmdOpen_grant (k : Fin 8) {s next : State} (hs : oneGrant s.wit = true)
    (he : execBsCmdOpen k s = .next next) : oneGrant next.wit = true := run_grant (f := fun s => cmdBit s .BS_CMD k.val 0)
    (cmdBit_grant _ _ _) hs next he

theorem execBsCmdAdd_grant (k : Fin 8) {s next : State} (hs : oneGrant s.wit = true)
    (he : execBsCmdAdd k s = .next next) : oneGrant next.wit = true := run_grant (f := fun s => cmdBit s .BS_CMD k.val 1)
    (cmdBit_grant _ _ _) hs next he

theorem execBsCmdCommit_grant (k : Fin 8) {s next : State} (hs : oneGrant s.wit = true)
    (he : execBsCmdCommit k s = .next next) : oneGrant next.wit = true := run_grant (f := fun s => cmdBit s .BS_CMD k.val 2)
    (cmdBit_grant _ _ _) hs next he

theorem execBsCmdAbort_grant (k : Fin 8) {s next : State} (hs : oneGrant s.wit = true)
    (he : execBsCmdAbort k s = .next next) : oneGrant next.wit = true := run_grant (f := fun s => cmdBit s .BS_CMD k.val 3)
    (cmdBit_grant _ _ _) hs next he

theorem execHemClr_grant {s next : State} (hs : oneGrant s.wit = true)
    (he : execHemClr s = .next next) : oneGrant next.wit = true := run_grant (f := fun s => cmdBit s .DYN_CMD 0 0)
    (cmdBit_grant _ _ _) hs next he

theorem execClrHold_grant {s next : State} (hs : oneGrant s.wit = true)
    (he : execClrHold s = .next next) : oneGrant next.wit = true := run_grant (f := fun s => cmdBit s .DYN_CMD 0 1)
    (cmdBit_grant _ _ _) hs next he

theorem execClrClip_grant {s next : State} (hs : oneGrant s.wit = true)
    (he : execClrClip s = .next next) : oneGrant next.wit = true := run_grant (f := fun s => cmdBit s .DYN_CMD 0 2)
    (cmdBit_grant _ _ _) hs next he

theorem execMeterEn_grant {s next : State} (hs : oneGrant s.wit = true)
    (he : execMeterEn s = .next next) : oneGrant next.wit = true := run_grant (f := fun s => cmdBit s .DYN_CMD 0 3)
    (cmdBit_grant _ _ _) hs next he

theorem execMeterDis_grant {s next : State} (hs : oneGrant s.wit = true)
    (he : execMeterDis s = .next next) : oneGrant next.wit = true := run_grant (f := fun s => cmdBit s .DYN_CMD 0 4)
    (cmdBit_grant _ _ _) hs next he

theorem execVoxEn_grant {s next : State} (hs : oneGrant s.wit = true)
    (he : execVoxEn s = .next next) : oneGrant next.wit = true := run_grant (f := fun s => cmdBit s .DYN_CMD 0 5)
    (cmdBit_grant _ _ _) hs next he

theorem execVoxDis_grant {s next : State} (hs : oneGrant s.wit = true)
    (he : execVoxDis s = .next next) : oneGrant next.wit = true := run_grant (f := fun s => cmdBit s .DYN_CMD 0 6)
    (cmdBit_grant _ _ _) hs next he

theorem execSeamEn_grant {s next : State} (hs : oneGrant s.wit = true)
    (he : execSeamEn s = .next next) : oneGrant next.wit = true := run_grant (f := fun s => cmdBit s .RB_CMD 0 0)
    (cmdBit_grant _ _ _) hs next he

theorem execSeamDis_grant {s next : State} (hs : oneGrant s.wit = true)
    (he : execSeamDis s = .next next) : oneGrant next.wit = true := run_grant (f := fun s => cmdBit s .RB_CMD 0 1)
    (cmdBit_grant _ _ _) hs next he

theorem execScEn_grant {s next : State} (hs : oneGrant s.wit = true)
    (he : execScEn s = .next next) : oneGrant next.wit = true := run_grant (f := fun s => cmdBit s .RB_CMD 0 2)
    (cmdBit_grant _ _ _) hs next he

theorem execScDis_grant {s next : State} (hs : oneGrant s.wit = true)
    (he : execScDis s = .next next) : oneGrant next.wit = true := run_grant (f := fun s => cmdBit s .RB_CMD 0 3)
    (cmdBit_grant _ _ _) hs next he

theorem execClrSlips_grant {s next : State} (hs : oneGrant s.wit = true)
    (he : execClrSlips s = .next next) : oneGrant next.wit = true := run_grant (f := fun s => cmdBit s .RB_CMD 0 4)
    (cmdBit_grant _ _ _) hs next he

theorem execSeamTrainEnd_grant (m : Fin 512) {s next : State} (hs : oneGrant s.wit = true)
    (he : execSeamTrainEnd m s = .next next) : oneGrant next.wit = true := run_grant (f := fun s => seamTrainEnd s m.val)
    (oneGrant_eq (by simp)) hs next he

theorem execSeamReanchor_grant (x : SeamShift) {s next : State} (hs : oneGrant s.wit = true)
    (he : execSeamReanchor x s = .next next) : oneGrant next.wit = true := run_grant (f := fun s => seamJump s x.seam.val x.jump x.fill)
    (oneGrant_eq (by simp)) hs next he

theorem execSeamInputStop_grant (m : Fin 512) {s next : State} (hs : oneGrant s.wit = true)
    (he : execSeamInputStop m s = .next next) : oneGrant next.wit = true := run_grant (f := fun s => seamInputStop s m.val)
    (oneGrant_eq (by simp)) hs next he

theorem execSeamRatioMeasured_grant (m : Fin 512) (ratio : Nat) {s next : State} (hs : oneGrant s.wit = true)
    (he : execSeamRatioMeasured m ratio s = .next next) : oneGrant next.wit = true := run_grant (f := fun s => seamMeasured s m.val ratio)
    (oneGrant_eq (by simp)) hs next he

theorem execSeamRangeRecover_grant (m : Fin 512) {s next : State} (hs : oneGrant s.wit = true)
    (he : execSeamRangeRecover m s = .next next) : oneGrant next.wit = true := run_grant (f := fun s => seamRecover s m.val)
    (oneGrant_eq (by simp)) hs next he

theorem execLaneFrameStart_grant (g : Fin 8) (f : LaneFrame) {s next : State} (hs : oneGrant s.wit = true)
    (he : execLaneFrameStart g f s = .next next) : oneGrant next.wit = true := run_grant (f := fun s => laneFrameStart s g.val f)
    (oneGrant_eq (by simp)) hs next he

theorem execCgStop_grant (g : Fin 8) {s next : State} (hs : oneGrant s.wit = true)
    (he : execCgStop g s = .next next) : oneGrant next.wit = true := run_grant (f := fun s => cgStopEvent s g.val)
    (oneGrant_eq (by simp)) hs next he

theorem execCgAnchor_grant (g : Fin 8) {s next : State} (hs : oneGrant s.wit = true)
    (he : execCgAnchor g s = .next next) : oneGrant next.wit = true := run_grant (f := fun s => cgAnchor s g.val)
    (oneGrant_eq (by simp)) hs next he

theorem execCgRateSettled_grant (g : Fin 8) {s next : State} (hs : oneGrant s.wit = true)
    (he : execCgRateSettled g s = .next next) : oneGrant next.wit = true := run_grant (f := fun s => cgSettled s g.val)
    (oneGrant_eq (by simp)) hs next he

theorem execCgStopDone_grant (g : Fin 8) {s next : State} (hs : oneGrant s.wit = true)
    (he : execCgStopDone g s = .next next) : oneGrant next.wit = true := run_grant (f := fun s => groupStopped s g.val)
    (oneGrant_eq (by simp)) hs next he

theorem execCgEnWrite_grant (g : Fin 8) (v : Word) (be : Fin 16) {s next : State} (hs : oneGrant s.wit = true)
    (he : execCgEnWrite g v be s = .next next) : oneGrant next.wit = true := run_grant (f := fun s => regWrite s .CG_CTRL g.val 0 v be.val)
    (regWrite_grant _ _ _ _ _) hs next he

theorem execCgClrCounts_grant (g : Fin 8) {s next : State} (hs : oneGrant s.wit = true)
    (he : execCgClrCounts g s = .next next) : oneGrant next.wit = true := run_grant (f := fun s => cmdBit s .CG_CMD g.val 0)
    (cmdBit_grant _ _ _) hs next he

theorem execHostClrCounts_grant {s next : State} (hs : oneGrant s.wit = true)
    (he : execHostClrCounts s = .next next) : oneGrant next.wit = true := run_grant (f := fun s => cmdBit s .HOST_CMD 0 0)
    (cmdBit_grant _ _ _) hs next he

theorem execSlotMapWrite_grant (lane : Fin 64) (slot : Fin 32) (v : Word) (be : Fin 16) {s next : State} (hs : oneGrant s.wit = true)
    (he : execSlotMapWrite lane slot v be s = .next next) : oneGrant next.wit = true := run_grant (f := fun s => regWrite s .SLOT_MAP lane.val slot.val v be.val)
    (regWrite_grant _ _ _ _ _) hs next he

theorem execHostMapWrite_grant (c : Fin 64) (v : Word) (be : Fin 16) {s next : State} (hs : oneGrant s.wit = true)
    (he : execHostMapWrite c v be s = .next next) : oneGrant next.wit = true := run_grant (f := fun s => regWrite s .HOST_MAP c.val 0 v be.val)
    (regWrite_grant _ _ _ _ _) hs next he

theorem execTxChannelMapWrite_grant (t : Fin 256) (c : Fin 64) (v : Word) (be : Fin 16) {s next : State} (hs : oneGrant s.wit = true)
    (he : execTxChannelMapWrite t c v be s = .next next) : oneGrant next.wit = true := run_grant (f := fun s => regWrite s .TX_MAP t.val c.val v be.val)
    (regWrite_grant _ _ _ _ _) hs next he

theorem execPortEnWrite_grant (n : Fin 4) (v : Word) (be : Fin 16) {s next : State} (hs : oneGrant s.wit = true)
    (he : execPortEnWrite n v be s = .next next) : oneGrant next.wit = true := run_grant (f := fun s => regWrite s .PORT_CTRL n.val 0 v be.val)
    (regWrite_grant _ _ _ _ _) hs next he

theorem execLinkUp_grant (n : Fin 4) (kx fec : Bool) {s next : State} (hs : oneGrant s.wit = true)
    (he : execLinkUp n kx fec s = .next next) : oneGrant next.wit = true := run_grant (f := fun s => portsRun s fun s => linkUp s n.val kx fec)
    (oneGrant_eq (by unfold portsRun; split <;> simp)) hs next he

theorem execNegotiationFault_grant (n : Fin 4) (fault : Fin 4) {s next : State} (hs : oneGrant s.wit = true)
    (he : execNegotiationFault n fault s = .next next) : oneGrant next.wit = true := run_grant (f := fun s => negotiationFault s n.val fault.val)
    (oneGrant_eq (by simp)) hs next he

theorem execLinkDown_grant (n : Fin 4) {s next : State} (hs : oneGrant s.wit = true)
    (he : execLinkDown n s = .next next) : oneGrant next.wit = true := run_grant (f := fun s => linkDown s n.val)
    (oneGrant_eq (by simp)) hs next he

theorem execFrameIngress_grant (n : Fin 5) (f : Frame) {s next : State} (hs : oneGrant s.wit = true)
    (he : execFrameIngress n f s = .next next) : oneGrant next.wit = true := run_grant (f := fun s => ingress s n.val f)
    (oneGrant_eq (by simp)) hs next he

theorem execFrameEgress_grant (n : Fin 5) {s next : State} (hs : oneGrant s.wit = true)
    (he : execFrameEgress n s = .next next) : oneGrant next.wit = true := run_grant (f := fun s => frameEgress s n.val)
    (oneGrant_eq (by simp)) hs next he

theorem execMacAgeOut_grant {s next : State} (hs : oneGrant s.wit = true)
    (he : execMacAgeOut s = .next next) : oneGrant next.wit = true := run_grant (f := fun s => macAge s)
    (oneGrant_eq (by simp)) hs next he

theorem execGateEntryChange_grant (n : Fin 4) {s next : State} (hs : oneGrant s.wit = true)
    (he : execGateEntryChange n s = .next next) : oneGrant next.wit = true := run_grant (f := fun s => gateEntry s n.val)
    (oneGrant_eq (by simp)) hs next he

theorem execGateConfigTakeover_grant (n : Fin 4) {s next : State} (hs : oneGrant s.wit = true)
    (he : execGateConfigTakeover n s = .next next) : oneGrant next.wit = true := run_grant (f := fun s => gateTakeover s n.val)
    (oneGrant_eq (by simp)) hs next he

theorem execMacAdd_grant {s next : State} (hs : oneGrant s.wit = true)
    (he : execMacAdd s = .next next) : oneGrant next.wit = true := run_grant (f := fun s => cmdBit s .SW_CMD 0 1)
    (cmdBit_grant _ _ _) hs next he

theorem execMacDel_grant {s next : State} (hs : oneGrant s.wit = true)
    (he : execMacDel s = .next next) : oneGrant next.wit = true := run_grant (f := fun s => cmdBit s .SW_CMD 0 2)
    (cmdBit_grant _ _ _) hs next he

theorem execFlushLearned_grant {s next : State} (hs : oneGrant s.wit = true)
    (he : execFlushLearned s = .next next) : oneGrant next.wit = true := run_grant (f := fun s => cmdBit s .SW_CMD 0 0)
    (cmdBit_grant _ _ _) hs next he

theorem execPortClrCounts_grant (n : Fin 5) {s next : State} (hs : oneGrant s.wit = true)
    (he : execPortClrCounts n s = .next next) : oneGrant next.wit = true := run_grant (f := fun s => cmdBit s .PORT_CMD n.val 2)
    (cmdBit_grant _ _ _) hs next he

theorem execGateApply_grant (n : Fin 5) {s next : State} (hs : oneGrant s.wit = true)
    (he : execGateApply n s = .next next) : oneGrant next.wit = true := run_grant (f := fun s => cmdBit s .PORT_CMD n.val 0)
    (cmdBit_grant _ _ _) hs next he

theorem execGateCancel_grant (n : Fin 5) {s next : State} (hs : oneGrant s.wit = true)
    (he : execGateCancel n s = .next next) : oneGrant next.wit = true := run_grant (f := fun s => cmdBit s .PORT_CMD n.val 1)
    (cmdBit_grant _ _ _) hs next he

theorem execMembershipReportSend_grant {s next : State} (hs : oneGrant s.wit = true)
    (he : execMembershipReportSend s = .next next) : oneGrant next.wit = true := run_grant (f := fun s => sendReports s)
    (oneGrant_eq (by simp)) hs next he

theorem execPacketReceive_grant (p : Pkt) {s next : State} (hs : oneGrant s.wit = true)
    (he : execPacketReceive p s = .next next) : oneGrant next.wit = true := run_grant (f := fun s => packetReceive s p)
    (oneGrant_eq (by simp)) hs next he

theorem execRxTimeout_grant (k : Fin 256) {s next : State} (hs : oneGrant s.wit = true)
    (he : execRxTimeout k s = .next next) : oneGrant next.wit = true := run_grant (f := fun s => rxTimeout s k.val)
    (oneGrant_eq (by simp)) hs next he

theorem execLegLiveTimeout_grant (k : Fin 256) (legB : Bool) {s next : State} (hs : oneGrant s.wit = true)
    (he : execLegLiveTimeout k legB s = .next next) : oneGrant next.wit = true := run_grant (f := fun s => legTimeout s k.val legB)
    (oneGrant_eq (by simp)) hs next he

theorem execTxPacketStart_grant (t : Fin 256) {s next : State} (hs : oneGrant s.wit = true)
    (he : execTxPacketStart t s = .next next) : oneGrant next.wit = true := run_grant (f := fun s => txPacketStart s t.val)
    (oneGrant_eq (by simp)) hs next he

theorem execRxEn_grant {s next : State} (hs : oneGrant s.wit = true)
    (he : execRxEn s = .next next) : oneGrant next.wit = true := run_grant (f := fun s => cmdBit s .STR_CMD 0 0)
    (cmdBit_grant _ _ _) hs next he

theorem execRxDis_grant {s next : State} (hs : oneGrant s.wit = true)
    (he : execRxDis s = .next next) : oneGrant next.wit = true := run_grant (f := fun s => cmdBit s .STR_CMD 0 1)
    (cmdBit_grant _ _ _) hs next he

theorem execTxEn_grant {s next : State} (hs : oneGrant s.wit = true)
    (he : execTxEn s = .next next) : oneGrant next.wit = true := run_grant (f := fun s => cmdBit s .STR_CMD 0 2)
    (cmdBit_grant _ _ _) hs next he

theorem execTxDis_grant {s next : State} (hs : oneGrant s.wit = true)
    (he : execTxDis s = .next next) : oneGrant next.wit = true := run_grant (f := fun s => cmdBit s .STR_CMD 0 3)
    (cmdBit_grant _ _ _) hs next he

theorem execClrRx_grant {s next : State} (hs : oneGrant s.wit = true)
    (he : execClrRx s = .next next) : oneGrant next.wit = true := run_grant (f := fun s => cmdBit s .STR_CMD 0 4)
    (cmdBit_grant _ _ _) hs next he

theorem execClrTx_grant {s next : State} (hs : oneGrant s.wit = true)
    (he : execClrTx s = .next next) : oneGrant next.wit = true := run_grant (f := fun s => cmdBit s .STR_CMD 0 5)
    (cmdBit_grant _ _ _) hs next he

theorem execClrHank_grant {s next : State} (hs : oneGrant s.wit = true)
    (he : execClrHank s = .next next) : oneGrant next.wit = true := run_grant (f := fun s => cmdBit s .STR_CMD 0 6)
    (cmdBit_grant _ _ _) hs next he

theorem execRxOffsetWrite_grant (k : Fin 256) (v : Word) (be : Fin 16) {s next : State} (hs : oneGrant s.wit = true)
    (he : execRxOffsetWrite k v be s = .next next) : oneGrant next.wit = true := run_grant (f := fun s => regWrite s .RX_W1 k.val 0 v be.val)
    (regWrite_grant _ _ _ _ _) hs next he

theorem execHankOffsetWrite_grant (h : Fin 64) (v : Word) (be : Fin 16) {s next : State} (hs : oneGrant s.wit = true)
    (he : execHankOffsetWrite h v be s = .next next) : oneGrant next.wit = true := run_grant (f := fun s => regWrite s .HK_W0 h.val 0 v be.val)
    (regWrite_grant _ _ _ _ _) hs next he

theorem execPtpMessageReceive_grant (k port : Fin 4) (msg : PtpMsg) {s next : State} (hs : oneGrant s.wit = true)
    (he : execPtpMessageReceive k port msg s = .next next) : oneGrant next.wit = true := run_grant (f := fun s => tbRun s fun s => ptpReceive s k.val port.val msg)
    (oneGrant_eq (by unfold tbRun; split <;> simp)) hs next he

theorem execAnnounceTimeout_grant (k : Fin 4) {s next : State} (hs : oneGrant s.wit = true)
    (he : execAnnounceTimeout k s = .next next) : oneGrant next.wit = true := run_grant (f := fun s => tbRun s fun s => announceTimeout s k.val)
    (oneGrant_eq (by unfold tbRun; split <;> simp)) hs next he

theorem execPtpMasterSend_grant (k : Fin 4) {s next : State} (hs : oneGrant s.wit = true)
    (he : execPtpMasterSend k s = .next next) : oneGrant next.wit = true := run_grant (f := fun s => tbRun s fun s => masterSend s k.val)
    (oneGrant_eq (by unfold tbRun; split <;> simp)) hs next he

theorem execPdelaySend_grant (n : Fin 4) {s next : State} (hs : oneGrant s.wit = true)
    (he : execPdelaySend n s = .next next) : oneGrant next.wit = true := run_grant (f := fun s => tbRun s fun s => pdelaySend s n.val)
    (oneGrant_eq (by unfold tbRun; split <;> simp)) hs next he

theorem execPersistExpire_grant (k : Fin 4) {s next : State} (hs : oneGrant s.wit = true)
    (he : execPersistExpire k s = .next next) : oneGrant next.wit = true := run_grant (f := fun s => tbRun s fun s => persistExpire s k.val)
    (oneGrant_eq (by unfold tbRun; split <;> simp)) hs next he

theorem execTbCtrlWrite_grant (k : Fin 4) (v : Word) (be : Fin 16) {s next : State} (hs : oneGrant s.wit = true)
    (he : execTbCtrlWrite k v be s = .next next) : oneGrant next.wit = true := run_grant (f := fun s => regWrite s .TB_CTRL k.val 0 v be.val)
    (regWrite_grant _ _ _ _ _) hs next he

theorem execSnap_grant {s next : State} (hs : oneGrant s.wit = true)
    (he : execSnap s = .next next) : oneGrant next.wit = true := run_grant (f := fun s => cmdBit s .TB_CMD 0 0)
    (cmdBit_grant _ _ _) hs next he

theorem execTbClrCounts_grant {s next : State} (hs : oneGrant s.wit = true)
    (he : execTbClrCounts s = .next next) : oneGrant next.wit = true := run_grant (f := fun s => cmdBit s .TB_CMD 0 1)
    (cmdBit_grant _ _ _) hs next he

theorem execRefEdge_grant (k : Fin 21) (dev : Int) {s next : State} (hs : oneGrant s.wit = true)
    (he : execRefEdge k dev s = .next next) : oneGrant next.wit = true := run_grant (f := fun s => refEdge s k.val dev)
    (oneGrant_eq (by simp)) hs next he

theorem execRefSignalLoss_grant (k : Fin 21) {s next : State} (hs : oneGrant s.wit = true)
    (he : execRefSignalLoss k s = .next next) : oneGrant next.wit = true := run_grant (f := fun s => refSignalLoss s k.val)
    (oneGrant_eq (by simp)) hs next he

theorem execQualWindowEnd_grant (k : Fin 21) (fofs : Int) {s next : State} (hs : oneGrant s.wit = true)
    (he : execQualWindowEnd k fofs s = .next next) : oneGrant next.wit = true := run_grant (f := fun s => qualWindowEnd s k.val fofs)
    (oneGrant_eq (by simp)) hs next he

theorem execQtimeExpire_grant (k : Fin 21) {s next : State} (hs : oneGrant s.wit = true)
    (he : execQtimeExpire k s = .next next) : oneGrant next.wit = true := run_grant (f := fun s => qtimeExpire s k.val)
    (oneGrant_eq (by simp)) hs next he

theorem execTcxoFaultClear_grant {s next : State} (hs : oneGrant s.wit = true)
    (he : execTcxoFaultClear s = .next next) : oneGrant next.wit = true := run_grant (f := fun s => tcxoClear s)
    (oneGrant_eq (by simp)) hs next he

theorem execWtrExpire_grant (m : Fin 4) {s next : State} (hs : oneGrant s.wit = true)
    (he : execWtrExpire m s = .next next) : oneGrant next.wit = true := run_grant (f := fun s => wtrExpire s m.val)
    (oneGrant_eq (by simp)) hs next he

theorem execMcLockAchieved_grant (m : Fin 4) {s next : State} (hs : oneGrant s.wit = true)
    (he : execMcLockAchieved m s = .next next) : oneGrant next.wit = true := run_grant (f := fun s => mcRun s fun s => mcLock s m.val)
    (oneGrant_eq (by unfold mcRun; split <;> simp)) hs next he

theorem execHoldoverLimit_grant (m : Fin 4) {s next : State} (hs : oneGrant s.wit = true)
    (he : execHoldoverLimit m s = .next next) : oneGrant next.wit = true := run_grant (f := fun s => holdoverLimit s m.val)
    (oneGrant_eq (by simp)) hs next he

theorem execMcSwWrite_grant (m : Fin 4) (v : Word) (be : Fin 16) {s next : State} (hs : oneGrant s.wit = true)
    (he : execMcSwWrite m v be s = .next next) : oneGrant next.wit = true := run_grant (f := fun s => regWrite s .MC_CTRL m.val 0 v be.val)
    (regWrite_grant _ _ _ _ _) hs next he

theorem execSwFreqWrite_grant (m : Fin 4) (v : Word) (be : Fin 16) {s next : State} (hs : oneGrant s.wit = true)
    (he : execSwFreqWrite m v be s = .next next) : oneGrant next.wit = true := run_grant (f := fun s => regWrite s .MC_SW_FREQ_LO m.val 0 v be.val)
    (regWrite_grant _ _ _ _ _) hs next he

theorem execSwStep_grant {s next : State} (hs : oneGrant s.wit = true)
    (he : execSwStep s = .next next) : oneGrant next.wit = true := run_grant (f := fun s => cmdBit s .REF_CMD 0 2)
    (cmdBit_grant _ _ _) hs next he

theorem execPhaseStepDone_grant (m : Fin 4) {s next : State} (hs : oneGrant s.wit = true)
    (he : execPhaseStepDone m s = .next next) : oneGrant next.wit = true := run_grant (f := fun s => phaseStepDone s m.val)
    (oneGrant_eq (by simp)) hs next he

theorem execRelearn_grant {s next : State} (hs : oneGrant s.wit = true)
    (he : execRelearn s = .next next) : oneGrant next.wit = true := run_grant (f := fun s => cmdBit s .REF_CMD 0 1)
    (cmdBit_grant _ _ _) hs next he

theorem execRefClrCounts_grant {s next : State} (hs : oneGrant s.wit = true)
    (he : execRefClrCounts s = .next next) : oneGrant next.wit = true := run_grant (f := fun s => cmdBit s .REF_CMD 0 0)
    (cmdBit_grant _ _ _) hs next he

theorem execSynLossOfLock_grant (k : Fin 5) (atEdge : Bool) (errs : List Int) {s next : State} (hs : oneGrant s.wit = true)
    (he : execSynLossOfLock k atEdge errs s = .next next) : oneGrant next.wit = true := run_grant (f := fun s => synLoss s k.val atEdge errs)
    (oneGrant_eq (by simp)) hs next he

theorem execSynRelockAttempt_grant (k : Fin 5) {s next : State} (hs : oneGrant s.wit = true)
    (he : execSynRelockAttempt k s = .next next) : oneGrant next.wit = true := run_grant (f := fun s => synRun s fun s => synTry s k.val)
    (oneGrant_eq (by unfold synRun; split <;> simp)) hs next he

theorem execNoSpare_grant (m : Fin 4) {s next : State} (hs : oneGrant s.wit = true)
    (he : execNoSpare m s = .next next) : oneGrant next.wit = true := run_grant (f := fun s => synNoSpare s m.val)
    (oneGrant_eq (by simp)) hs next he

theorem execHandoverStart_grant {s next : State} (hs : oneGrant s.wit = true)
    (he : execHandoverStart s = .next next) : oneGrant next.wit = true := run_grant (f := fun s => synRun s handoverStart)
    (oneGrant_eq (by unfold synRun; split <;> simp)) hs next he

theorem execHandoverSwitchover_grant {s next : State} (hs : oneGrant s.wit = true)
    (he : execHandoverSwitchover s = .next next) : oneGrant next.wit = true := run_grant (f := fun s => synRun s handoverSwitch)
    (oneGrant_eq (by unfold synRun; split <;> simp)) hs next he

theorem execHandoverFail_grant {s next : State} (hs : oneGrant s.wit = true)
    (he : execHandoverFail s = .next next) : oneGrant next.wit = true := run_grant (f := fun s => synRun s handoverFail)
    (oneGrant_eq (by unfold synRun; split <;> simp)) hs next he

theorem execSynTestDone_grant (k : Fin 5) (dev : Option Int) (band : Fin 16) {s next : State} (hs : oneGrant s.wit = true)
    (he : execSynTestDone k dev band s = .next next) : oneGrant next.wit = true := run_grant (f := fun s => synRun s fun s => synTestDone s k.val dev band.val)
    (oneGrant_eq (by unfold synRun; split <;> simp)) hs next he

theorem execSynRetestTimer_grant (k : Fin 5) {s next : State} (hs : oneGrant s.wit = true)
    (he : execSynRetestTimer k s = .next next) : oneGrant next.wit = true := run_grant (f := fun s => synRun s fun s => synRetest s k.val)
    (oneGrant_eq (by unfold synRun; split <;> simp)) hs next he

theorem execRetry_grant {s next : State} (hs : oneGrant s.wit = true)
    (he : execRetry s = .next next) : oneGrant next.wit = true := run_grant (f := fun s => cmdBit s .SYN_CMD 0 2)
    (cmdBit_grant _ _ _) hs next he

theorem execSynTest_grant {s next : State} (hs : oneGrant s.wit = true)
    (he : execSynTest s = .next next) : oneGrant next.wit = true := run_grant (f := fun s => cmdBit s .SYN_CMD 0 1)
    (cmdBit_grant _ _ _) hs next he

theorem execSynClrCounts_grant {s next : State} (hs : oneGrant s.wit = true)
    (he : execSynClrCounts s = .next next) : oneGrant next.wit = true := run_grant (f := fun s => cmdBit s .SYN_CMD 0 0)
    (cmdBit_grant _ _ _) hs next he

theorem execMckCfgWrite_grant (j : Fin 4) (v : Word) (be : Fin 16) {s next : State} (hs : oneGrant s.wit = true)
    (he : execMckCfgWrite j v be s = .next next) : oneGrant next.wit = true := run_grant (f := fun s => regWrite s .MCK_CFG j.val 0 v be.val)
    (regWrite_grant _ _ _ _ _) hs next he

theorem execPlsCfgWrite_grant (p : Fin 4) (v : Word) (be : Fin 16) {s next : State} (hs : oneGrant s.wit = true)
    (he : execPlsCfgWrite p v be s = .next next) : oneGrant next.wit = true := run_grant (f := fun s => regWrite s .PLS_CFG p.val 0 v be.val)
    (regWrite_grant _ _ _ _ _) hs next he

theorem execPlsOfsWrite_grant (p : Fin 4) (v : Word) (be : Fin 16) {s next : State} (hs : oneGrant s.wit = true)
    (he : execPlsOfsWrite p v be s = .next next) : oneGrant next.wit = true := run_grant (f := fun s => regWrite s .PLS_OFS p.val 0 v be.val)
    (regWrite_grant _ _ _ _ _) hs next he

theorem execPlsSourcePulse_grant (p : Fin 4) (err : Int) {s next : State} (hs : oneGrant s.wit = true)
    (he : execPlsSourcePulse p err s = .next next) : oneGrant next.wit = true := run_grant (f := fun s => plsSource s p.val err)
    (oneGrant_eq (by simp)) hs next he

theorem execPlsOutputPulse_grant (p : Fin 4) {s next : State} (hs : oneGrant s.wit = true)
    (he : execPlsOutputPulse p s = .next next) : oneGrant next.wit = true := run_grant (f := fun s => plsOutput s p.val)
    (oneGrant_eq (by simp)) hs next he

theorem execGpioEdge_grant (g : Fin 32) (level : Bool) {s next : State} (hs : oneGrant s.wit = true)
    (he : execGpioEdge g level s = .next next) : oneGrant next.wit = true := run_grant (f := fun s => gpioEdge s g.val level)
    (oneGrant_eq (by simp)) hs next he

theorem execGpioDebounced_grant (g : Fin 32) {s next : State} (hs : oneGrant s.wit = true)
    (he : execGpioDebounced g s = .next next) : oneGrant next.wit = true := run_grant (f := fun s => gpioDebounced s g.val)
    (oneGrant_eq (by simp)) hs next he

theorem execCoReadback_grant (k : Fin 8) (a b : Bool) {s next : State} (hs : oneGrant s.wit = true)
    (he : execCoReadback k a b s = .next next) : oneGrant next.wit = true := run_grant (f := fun s => coReadback s k.val a b)
    (oneGrant_eq (by simp)) hs next he

theorem execCoClr_grant {s next : State} (hs : oneGrant s.wit = true)
    (he : execCoClr s = .next next) : oneGrant next.wit = true := run_grant (f := fun s => cmdBit s .CIO_CMD 0 1)
    (cmdBit_grant _ _ _) hs next he

theorem execClrEdges_grant {s next : State} (hs : oneGrant s.wit = true)
    (he : execClrEdges s = .next next) : oneGrant next.wit = true := run_grant (f := fun s => cmdBit s .CIO_CMD 0 0)
    (cmdBit_grant _ _ _) hs next he

theorem execSeWrite_grant {s next : State} (hs : oneGrant s.wit = true)
    (he : execSeWrite s = .next next) : oneGrant next.wit = true := run_grant (f := fun s => cmdBit s .CIO_CMD 0 2)
    (cmdBit_grant _ _ _) hs next he

theorem execSeDel_grant {s next : State} (hs : oneGrant s.wit = true)
    (he : execSeDel s = .next next) : oneGrant next.wit = true := run_grant (f := fun s => cmdBit s .CIO_CMD 0 3)
    (cmdBit_grant _ _ _) hs next he

theorem execScheduleFire_grant {s next : State} (hs : oneGrant s.wit = true)
    (he : execScheduleFire s = .next next) : oneGrant next.wit = true := run_grant (f := fun s => scheduleFire s)
    (oneGrant_eq (by simp)) hs next he

theorem execSchedulePulseEnd_grant (g : Fin 32) {s next : State} (hs : oneGrant s.wit = true)
    (he : execSchedulePulseEnd g s = .next next) : oneGrant next.wit = true := run_grant (f := fun s => pulseEnd s g.val)
    (oneGrant_eq (by simp)) hs next he

theorem execGpOutWrite_grant (v : Word) (be : Fin 16) {s next : State} (hs : oneGrant s.wit = true)
    (he : execGpOutWrite v be s = .next next) : oneGrant next.wit = true := run_grant (f := fun s => regWrite s .GP_OUT 0 0 v be.val)
    (regWrite_grant _ _ _ _ _) hs next he

theorem execCoCfgWrite_grant (k : Fin 8) (v : Word) (be : Fin 16) {s next : State} (hs : oneGrant s.wit = true)
    (he : execCoCfgWrite k v be s = .next next) : oneGrant next.wit = true := run_grant (f := fun s => regWrite s .CO_CFG k.val 0 v be.val)
    (regWrite_grant _ _ _ _ _) hs next he

theorem execPOpen_grant (n : Fin 4096) (v : Word) (be : Fin 16) {s next : State} (hs : oneGrant s.wit = true)
    (he : execPOpen n v be s = .next next) : oneGrant next.wit = true := run_grant (f := fun s => windowOp s n.val 0x10 v be.val false)
    (pcieWrite_grant _ _ _ _ _) hs next he

theorem execPData_grant (n : Fin 4096) (i : Fin 256) (v : Word) (be : Fin 16) (poison : Bool) {s next : State} (hs : oneGrant s.wit = true)
    (he : execPData n i v be poison s = .next next) : oneGrant next.wit = true := run_grant (f := fun s => windowOp s n.val (0x400 + 4 * i.val) v be.val poison)
    (pcieWrite_grant _ _ _ _ _) hs next he

theorem execPEnd_grant (n : Fin 4096) (v : Word) (be : Fin 16) {s next : State} (hs : oneGrant s.wit = true)
    (he : execPEnd n v be s = .next next) : oneGrant next.wit = true := run_grant (f := fun s => windowOp s n.val 0x14 v be.val false)
    (pcieWrite_grant _ _ _ _ _) hs next he

theorem execPEndAbort_grant (n : Fin 4096) {s next : State} (hs : oneGrant s.wit = true)
    (he : execPEndAbort n s = .next next) : oneGrant next.wit = true := run_grant (f := fun s => windowOp s n.val 0x14 (word (2 ^ 31)) 15 false)
    (pcieWrite_grant _ _ _ _ _) hs next he

theorem execAdvance_grant (n : Fin 4096) (k : Fin 32768) {s next : State} (hs : oneGrant s.wit = true)
    (he : execAdvance n k s = .next next) : oneGrant next.wit = true := run_grant (f := fun s => windowOp s n.val 8 (word k.val) 15 false)
    (pcieWrite_grant _ _ _ _ _) hs next he

theorem execDrop_grant (n : Fin 4096) {s next : State} (hs : oneGrant s.wit = true)
    (he : execDrop n s = .next next) : oneGrant next.wit = true := run_grant (f := fun s => windowOp s n.val 8 (word (2 ^ 31)) 15 false)
    (pcieWrite_grant _ _ _ _ _) hs next he

theorem execMark_grant (n : Fin 4096) {s next : State} (hs : oneGrant s.wit = true)
    (he : execMark n s = .next next) : oneGrant next.wit = true := run_grant (f := fun s => windowOp s n.val 8 (word (2 ^ 30)) 15 false)
    (pcieWrite_grant _ _ _ _ _) hs next he

theorem execRewind_grant (n : Fin 4096) {s next : State} (hs : oneGrant s.wit = true)
    (he : execRewind n s = .next next) : oneGrant next.wit = true := run_grant (f := fun s => windowOp s n.val 8 (word (2 ^ 29)) 15 false)
    (pcieWrite_grant _ _ _ _ _) hs next he

theorem execConsumerReadStall_grant (n : Fin 4096) (off : Fin 4096) {s next : State} (hs : oneGrant s.wit = true)
    (he : execConsumerReadStall n off s = .next next) : oneGrant next.wit = true := run_grant (f := fun s => windowReadEvent s n.val off.val)
    (oneGrant_eq (by simp)) hs next he

theorem execInternalItemCommit_grant (n : Fin 4096) (item : NewItem) {s next : State} (hs : oneGrant s.wit = true)
    (he : execInternalItemCommit n item s = .next next) : oneGrant next.wit = true := run_grant (f := fun s => producerCommit s n.val item)
    (oneGrant_eq (by simp)) hs next he

theorem execFlush_grant {s next : State} (hs : oneGrant s.wit = true)
    (he : execFlush s = .next next) : oneGrant next.wit = true := run_grant (f := fun s => cmdBit s .SPL_CMD 0 0)
    (cmdBit_grant _ _ _) hs next he

theorem execSplClrCounts_grant {s next : State} (hs : oneGrant s.wit = true)
    (he : execSplClrCounts s = .next next) : oneGrant next.wit = true := run_grant (f := fun s => cmdBit s .SPL_CMD 0 1)
    (cmdBit_grant _ _ _) hs next he

theorem execSpoolEnWrite_grant (n : Fin 4096) (v : Word) (be : Fin 16) {s next : State} (hs : oneGrant s.wit = true)
    (he : execSpoolEnWrite n v be s = .next next) : oneGrant next.wit = true := run_grant (f := fun s => regWrite s .SP_W0 n.val 0 v be.val)
    (regWrite_grant _ _ _ _ _) hs next he

theorem execSpoolResetDone_grant (n : Fin 4096) {s next : State} (hs : oneGrant s.wit = true)
    (he : execSpoolResetDone n s = .next next) : oneGrant next.wit = true := run_grant (f := fun s => spoolReady s n.val)
    (oneGrant_eq (by simp)) hs next he

theorem execEventAssert_grant (src : Fin 2048) {s next : State} (hs : oneGrant s.wit = true)
    (he : execEventAssert src s = .next next) : oneGrant next.wit = true := run_grant (f := fun s => senseSrc s src.val)
    (oneGrant_eq (by simp)) hs next he

theorem execModerationIntervalEnd_grant (g : Fin 32) {s next : State} (hs : oneGrant s.wit = true)
    (he : execModerationIntervalEnd g s = .next next) : oneGrant next.wit = true := run_grant (f := fun s => moderationEnd s g.val)
    (oneGrant_eq (by simp)) hs next he

theorem execHoldoffEnd_grant (g : Fin 32) {s next : State} (hs : oneGrant s.wit = true)
    (he : execHoldoffEnd g s = .next next) : oneGrant next.wit = true := run_grant (f := fun s => holdoffOver s g.val)
    (oneGrant_eq (by simp)) hs next he

theorem execMsixDeliver_grant (t : Fin 8) {s next : State} (hs : oneGrant s.wit = true)
    (he : execMsixDeliver t s = .next next) : oneGrant next.wit = true := run_grant (f := fun s => deliver s t.val)
    (oneGrant_eq (by simp)) hs next he

theorem execTgtEoi_grant (t : Fin 8) (v : Word) (be : Fin 16) {s next : State} (hs : oneGrant s.wit = true)
    (he : execTgtEoi t v be s = .next next) : oneGrant next.wit = true := run_grant (f := fun s => regWrite s .TGT_EOI t.val 0 v be.val)
    (regWrite_grant _ _ _ _ _) hs next he

theorem execForce_grant {s next : State} (hs : oneGrant s.wit = true)
    (he : execForce s = .next next) : oneGrant next.wit = true := run_grant (f := fun s => cmdBit s .EVT_CMD 0 1)
    (cmdBit_grant _ _ _) hs next he

theorem execClrPend_grant {s next : State} (hs : oneGrant s.wit = true)
    (he : execClrPend s = .next next) : oneGrant next.wit = true := run_grant (f := fun s => cmdBit s .EVT_CMD 0 0)
    (cmdBit_grant _ _ _) hs next he

theorem execEvCfgWrite_grant (src : Fin 2048) (v : Word) (be : Fin 16) {s next : State} (hs : oneGrant s.wit = true)
    (he : execEvCfgWrite src v be s = .next next) : oneGrant next.wit = true := run_grant (f := fun s => evEntryWrite s src.val v be.val)
    (evEntryWrite_grant _ _ _) hs next he

theorem execTgtCtrlWrite_grant (t : Fin 8) (v : Word) (be : Fin 16) {s next : State} (hs : oneGrant s.wit = true)
    (he : execTgtCtrlWrite t v be s = .next next) : oneGrant next.wit = true := run_grant (f := fun s => regWrite s .TGT_CTRL t.val 0 v be.val)
    (regWrite_grant _ _ _ _ _) hs next he

theorem execPciePowerStateChange_grant (d : DState) (l : LinkState) (msix : Option MsixCtl) {s next : State} (hs : oneGrant s.wit = true)
    (he : execPciePowerStateChange d l msix s = .next next) : oneGrant next.wit = true := run_grant (f := fun s => pcieChange s d l msix)
    (oneGrant_eq (by simp)) hs next he

theorem execHello_grant (c : Client) (body : List Byte) {s next : State} (hs : oneGrant s.wit = true)
    (he : execHello c body s = .next next) : oneGrant next.wit = true := run_grant (f := fun s => hello s c body)
    (oneGrant_eq (by simp)) hs next he

theorem execProof_grant (c : Client) (id : Nat) (body : List Byte) {s next : State} (hs : oneGrant s.wit = true)
    (he : execProof c id body s = .next next) : oneGrant next.wit = true := run_grant (f := fun s => proof s c id body)
    (oneGrant_eq (by simp)) hs next he

theorem execChallengeLapse_grant {s next : State} (hs : oneGrant s.wit = true)
    (he : execChallengeLapse s = .next next) : oneGrant next.wit = true := run_grant (f := fun s => challengeLapse s)
    (oneGrant_eq (by simp)) hs next he

theorem execAuthBlockExpire_grant {s next : State} (hs : oneGrant s.wit = true)
    (he : execAuthBlockExpire s = .next next) : oneGrant next.wit = true := run_grant (f := fun s => authExpire s)
    (oneGrant_eq (by simp)) hs next he

theorem execSessionIdleTimeout_grant {s next : State} (hs : oneGrant s.wit = true)
    (he : execSessionIdleTimeout s = .next next) : oneGrant next.wit = true := run_grant (f := fun s => idleTimeout s)
    (oneGrant_eq (by simp)) hs next he

theorem execCommandStart_grant {s next : State} (hs : oneGrant s.wit = true)
    (he : execCommandStart s = .next next) : oneGrant next.wit = true := run_grant (f := fun s => commandStart s)
    (commandStart_grant) hs next he

theorem execReplySend_grant {s next : State} (hs : oneGrant s.wit = true)
    (he : execReplySend s = .next next) : oneGrant next.wit = true := run_grant (f := fun s => replySend s)
    (replySend_grant) hs next he

theorem execNop_grant (q : FirynReq) {s next : State} (hs : oneGrant s.wit = true)
    (he : execNop q s = .next next) : oneGrant next.wit = true := run_grant (f := fun s => requestArrive s 0x00 q)
    (requestArrive_grant _ _) hs next he

theorem execRegRead_grant (q : FirynReq) {s next : State} (hs : oneGrant s.wit = true)
    (he : execRegRead q s = .next next) : oneGrant next.wit = true := run_grant (f := fun s => requestArrive s 0x01 q)
    (requestArrive_grant _ _) hs next he

theorem execRegWrite_grant (q : FirynReq) {s next : State} (hs : oneGrant s.wit = true)
    (he : execRegWrite q s = .next next) : oneGrant next.wit = true := run_grant (f := fun s => requestArrive s 0x02 q)
    (requestArrive_grant _ _) hs next he

theorem execBsOpen_grant (q : FirynReq) {s next : State} (hs : oneGrant s.wit = true)
    (he : execBsOpen q s = .next next) : oneGrant next.wit = true := run_grant (f := fun s => requestArrive s 0x10 q)
    (requestArrive_grant _ _) hs next he

theorem execBsAdd_grant (q : FirynReq) {s next : State} (hs : oneGrant s.wit = true)
    (he : execBsAdd q s = .next next) : oneGrant next.wit = true := run_grant (f := fun s => requestArrive s 0x11 q)
    (requestArrive_grant _ _) hs next he

theorem execBsCommit_grant (q : FirynReq) {s next : State} (hs : oneGrant s.wit = true)
    (he : execBsCommit q s = .next next) : oneGrant next.wit = true := run_grant (f := fun s => requestArrive s 0x12 q)
    (requestArrive_grant _ _) hs next he

theorem execBsAbort_grant (q : FirynReq) {s next : State} (hs : oneGrant s.wit = true)
    (he : execBsAbort q s = .next next) : oneGrant next.wit = true := run_grant (f := fun s => requestArrive s 0x13 q)
    (requestArrive_grant _ _) hs next he

theorem execChange_grant (q : FirynReq) {s next : State} (hs : oneGrant s.wit = true)
    (he : execChange q s = .next next) : oneGrant next.wit = true := run_grant (f := fun s => requestArrive s 0x14 q)
    (requestArrive_grant _ _) hs next he

theorem execSchedWrite_grant (q : FirynReq) {s next : State} (hs : oneGrant s.wit = true)
    (he : execSchedWrite q s = .next next) : oneGrant next.wit = true := run_grant (f := fun s => requestArrive s 0x15 q)
    (requestArrive_grant _ _) hs next he

theorem execSchedDel_grant (q : FirynReq) {s next : State} (hs : oneGrant s.wit = true)
    (he : execSchedDel q s = .next next) : oneGrant next.wit = true := run_grant (f := fun s => requestArrive s 0x16 q)
    (requestArrive_grant _ _) hs next he

theorem execEnable_grant (q : FirynReq) {s next : State} (hs : oneGrant s.wit = true)
    (he : execEnable q s = .next next) : oneGrant next.wit = true := run_grant (f := fun s => requestArrive s 0x17 q)
    (requestArrive_grant _ _) hs next he

theorem execRelease_grant (q : FirynReq) {s next : State} (hs : oneGrant s.wit = true)
    (he : execRelease q s = .next next) : oneGrant next.wit = true := run_grant (f := fun s => requestArrive s 0x18 q)
    (requestArrive_grant _ _) hs next he

theorem execMeterRead_grant (q : FirynReq) {s next : State} (hs : oneGrant s.wit = true)
    (he : execMeterRead q s = .next next) : oneGrant next.wit = true := run_grant (f := fun s => requestArrive s 0x20 q)
    (requestArrive_grant _ _) hs next he

theorem execSubscribe_grant (q : FirynReq) {s next : State} (hs : oneGrant s.wit = true)
    (he : execSubscribe q s = .next next) : oneGrant next.wit = true := run_grant (f := fun s => requestArrive s 0x21 q)
    (requestArrive_grant _ _) hs next he

theorem execAcceptStep_grant (q : FirynReq) {s next : State} (hs : oneGrant s.wit = true)
    (he : execAcceptStep q s = .next next) : oneGrant next.wit = true := run_grant (f := fun s => requestArrive s 0x30 q)
    (requestArrive_grant _ _) hs next he

theorem execImgBegin_grant (q : FirynReq) {s next : State} (hs : oneGrant s.wit = true)
    (he : execImgBegin q s = .next next) : oneGrant next.wit = true := run_grant (f := fun s => requestArrive s 0x40 q)
    (requestArrive_grant _ _) hs next he

theorem execImgData_grant (q : FirynReq) {s next : State} (hs : oneGrant s.wit = true)
    (he : execImgData q s = .next next) : oneGrant next.wit = true := run_grant (f := fun s => requestArrive s 0x41 q)
    (requestArrive_grant _ _) hs next he

theorem execImgEnd_grant (q : FirynReq) {s next : State} (hs : oneGrant s.wit = true)
    (he : execImgEnd q s = .next next) : oneGrant next.wit = true := run_grant (f := fun s => requestArrive s 0x42 q)
    (requestArrive_grant _ _) hs next he

theorem execImgAbort_grant (q : FirynReq) {s next : State} (hs : oneGrant s.wit = true)
    (he : execImgAbort q s = .next next) : oneGrant next.wit = true := run_grant (f := fun s => requestArrive s 0x43 q)
    (requestArrive_grant _ _) hs next he

theorem execCfgReset_grant (q : FirynReq) {s next : State} (hs : oneGrant s.wit = true)
    (he : execCfgReset q s = .next next) : oneGrant next.wit = true := run_grant (f := fun s => requestArrive s 0x50 q)
    (requestArrive_grant _ _) hs next he

theorem execFullReset_grant (q : FirynReq) {s next : State} (hs : oneGrant s.wit = true)
    (he : execFullReset q s = .next next) : oneGrant next.wit = true := run_grant (f := fun s => requestArrive s 0x51 q)
    (requestArrive_grant _ _) hs next he

theorem execClose_grant (q : FirynReq) {s next : State} (hs : oneGrant s.wit = true)
    (he : execClose q s = .next next) : oneGrant next.wit = true := run_grant (f := fun s => requestArrive s 0x60 q)
    (requestArrive_grant _ _) hs next he

theorem execKill_grant {s next : State} (hs : oneGrant s.wit = true)
    (he : execKill s = .next next) : oneGrant next.wit = true := run_grant (f := fun s => cmdBit s .SES_CMD 0 0)
    (cmdBit_grant _ _ _) hs next he

theorem execSesClrCounts_grant {s next : State} (hs : oneGrant s.wit = true)
    (he : execSesClrCounts s = .next next) : oneGrant next.wit = true := run_grant (f := fun s => cmdBit s .SES_CMD 0 1)
    (cmdBit_grant _ _ _) hs next he

theorem execSesConfigWrite_grant (x : SesReg) (v : Word) (be : Fin 16) {s next : State} (hs : oneGrant s.wit = true)
    (he : execSesConfigWrite x v be s = .next next) : oneGrant next.wit = true := run_grant (f := fun s => sesRegWrite s x v be.val)
    (sesRegWrite_grant _ _ _) hs next he

theorem execRegisterWrite_grant (bar2 : Bool) (off : Nat) (v : Word) (be : Fin 16) (poison : Bool) {s next : State} (hs : oneGrant s.wit = true)
    (he : execRegisterWrite bar2 off v be poison s = .next next) : oneGrant next.wit = true := run_grant (f := fun s => pcieWrite s (if bar2 then 2 else 0) off v be.val poison)
    (pcieWrite_grant _ _ _ _ _) hs next he

theorem execPostedWriteApply_grant {s next : State} (hs : oneGrant s.wit = true)
    (he : execPostedWriteApply s = .next next) : oneGrant next.wit = true := run_grant (f := fun s => postedApply s)
    (oneGrant_eq (by simp)) hs next he

theorem execScrubPass_grant (bad : List Nat) {s next : State} (hs : oneGrant s.wit = true)
    (he : execScrubPass bad s = .next next) : oneGrant next.wit = true := run_grant (f := fun s => scrubPass s bad)
    (oneGrant_eq (by simp)) hs next he

theorem execLockHem_grant {s next : State} (hs : oneGrant s.wit = true)
    (he : execLockHem s = .next next) : oneGrant next.wit = true := run_grant (f := fun s => cmdBit s .GLB_CMD 0 4)
    (cmdBit_grant _ _ _) hs next he

theorem execLockCo_grant {s next : State} (hs : oneGrant s.wit = true)
    (he : execLockCo s = .next next) : oneGrant next.wit = true := run_grant (f := fun s => cmdBit s .GLB_CMD 0 5)
    (cmdBit_grant _ _ _) hs next he

theorem execLockVcap_grant {s next : State} (hs : oneGrant s.wit = true)
    (he : execLockVcap s = .next next) : oneGrant next.wit = true := run_grant (f := fun s => cmdBit s .GLB_CMD 0 6)
    (cmdBit_grant _ _ _) hs next he

theorem execLockRoles_grant {s next : State} (hs : oneGrant s.wit = true)
    (he : execLockRoles s = .next next) : oneGrant next.wit = true := run_grant (f := fun s => cmdBit s .GLB_CMD 0 7)
    (cmdBit_grant _ _ _) hs next he

theorem execLockKeys_grant {s next : State} (hs : oneGrant s.wit = true)
    (he : execLockKeys s = .next next) : oneGrant next.wit = true := run_grant (f := fun s => cmdBit s .GLB_CMD 0 8)
    (cmdBit_grant _ _ _) hs next he

theorem execClrWerr_grant {s next : State} (hs : oneGrant s.wit = true)
    (he : execClrWerr s = .next next) : oneGrant next.wit = true := run_grant (f := fun s => cmdBit s .GLB_CMD 0 0)
    (cmdBit_grant _ _ _) hs next he

theorem execGlbResetFull_grant {s next : State} (hs : oneGrant s.wit = true)
    (he : execGlbResetFull s = .next next) : oneGrant next.wit = true := run_grant (f := fun s => regWrite s .GLB_RESET 0 0 (word 0x53560002) 15)
    (regWrite_grant _ _ _ _ _) hs next he

theorem execGlbResetCfg_grant {s next : State} (hs : oneGrant s.wit = true)
    (he : execGlbResetCfg s = .next next) : oneGrant next.wit = true := run_grant (f := fun s => regWrite s .GLB_RESET 0 0 (word 0x53560001) 15)
    (regWrite_grant _ _ _ _ _) hs next he

theorem execCfgResetDecide_grant (loadMs : Nat) {s next : State} (hs : oneGrant s.wit = true)
    (he : execCfgResetDecide loadMs s = .next next) : oneGrant next.wit = true := run_grant (f := fun s => cfgDecide s loadMs)
    (oneGrant_eq (by simp)) hs next he

theorem execPowerOn_grant {s next : State} (hs : oneGrant s.wit = true)
    (he : execPowerOn s = .next next) : oneGrant next.wit = true := run_grant (f := fun s => fullReset s 0)
    (fun _ => fullReset_grant _ _) hs next he

theorem execRstAssert_grant {s next : State} (hs : oneGrant s.wit = true)
    (he : execRstAssert s = .next next) : oneGrant next.wit = true := run_grant (f := fun s => fullReset s 1)
    (fun _ => fullReset_grant _ _) hs next he

theorem execResetRelease_grant (env : StartEnv) {s next : State} (hs : oneGrant s.wit = true)
    (he : execResetRelease env s = .next next) : oneGrant next.wit = true := run_grant (f := fun s => startUp s env)
    (startUp_grant _) hs next he

theorem execWatchdogExpire_grant {s next : State} (hs : oneGrant s.wit = true)
    (he : execWatchdogExpire s = .next next) : oneGrant next.wit = true := run_grant (f := fun s => reportFault s 0x16 0 2)
    (oneGrant_eq (by simp)) hs next he

theorem execPerstAssert_grant {s next : State} (hs : oneGrant s.wit = true)
    (he : execPerstAssert s = .next next) : oneGrant next.wit = true := run_grant (f := fun s => perstLow s)
    (oneGrant_eq (by simp)) hs next he

theorem execBareModeTimer_grant {s next : State} (hs : oneGrant s.wit = true)
    (he : execBareModeTimer s = .next next) : oneGrant next.wit = true := run_grant (f := fun s => bareTimer s)
    (oneGrant_eq (by simp)) hs next he

theorem execEjectDebounced_grant {s next : State} (hs : oneGrant s.wit = true)
    (he : execEjectDebounced s = .next next) : oneGrant next.wit = true := run_grant (f := fun s => ejectStart s)
    (oneGrant_eq (by simp)) hs next he

theorem execEject_grant {s next : State} (hs : oneGrant s.wit = true)
    (he : execEject s = .next next) : oneGrant next.wit = true := run_grant (f := fun s => cmdBit s .PL_CMD 0 1)
    (cmdBit_grant _ _ _) hs next he

theorem execRescan_grant {s next : State} (hs : oneGrant s.wit = true)
    (he : execRescan s = .next next) : oneGrant next.wit = true := run_grant (f := fun s => cmdBit s .PL_CMD 0 0)
    (cmdBit_grant _ _ _) hs next he

theorem execHeartbeatReceive_grant (unitB : Bool) (bytes : List Byte) (start : Nat) {s next : State} (hs : oneGrant s.wit = true)
    (he : execHeartbeatReceive unitB bytes start s = .next next) : oneGrant next.wit = true := run_grant (f := fun s => heartbeatReceive s (b2n unitB) bytes start)
    (heartbeatReceive_grant _ _ _) hs next he

theorem execWitnessDecision_grant {s next : State} (hs : oneGrant s.wit = true)
    (he : execWitnessDecision s = .next next) : oneGrant next.wit = true := run_grant (f := fun s => witnessDecision s)
    (witnessDecision_grant) hs next he

theorem execWitnessFrameReceive_grant (bytes : List Byte) {s next : State} (hs : oneGrant s.wit = true)
    (he : execWitnessFrameReceive bytes s = .next next) : oneGrant next.wit = true := run_grant (f := fun s => witnessFrame s bytes)
    (oneGrant_eq (by simp)) hs next he

theorem execOutputGateUpdate_grant {s next : State} (hs : oneGrant s.wit = true)
    (he : execOutputGateUpdate s = .next next) : oneGrant next.wit = true := run_grant (f := fun s => gateUpdate s)
    (oneGrant_eq (by simp)) hs next he

theorem execLiningMessageReceive_grant (msg : LinMsg) {s next : State} (hs : oneGrant s.wit = true)
    (he : execLiningMessageReceive msg s = .next next) : oneGrant next.wit = true := run_grant (f := fun s => liningMessage s msg)
    (liningMessage_grant _) hs next he

theorem execLiningDown_grant (lockLost : Bool) {s next : State} (hs : oneGrant s.wit = true)
    (he : execLiningDown lockLost s = .next next) : oneGrant next.wit = true := run_grant (f := fun s => liningDown s lockLost)
    (oneGrant_eq (by simp)) hs next he

theorem execLiningUp_grant {s next : State} (hs : oneGrant s.wit = true)
    (he : execLiningUp s = .next next) : oneGrant next.wit = true := run_grant (f := fun s => liningUp s)
    (oneGrant_eq (by simp)) hs next he

theorem execJoinStart_grant {s next : State} (hs : oneGrant s.wit = true)
    (he : execJoinStart s = .next next) : oneGrant next.wit = true := run_grant (f := fun s => joinStart s)
    (oneGrant_eq (by simp)) hs next he

theorem execJoinTimeout_grant {s next : State} (hs : oneGrant s.wit = true)
    (he : execJoinTimeout s = .next next) : oneGrant next.wit = true := run_grant (f := fun s => joinTimeout s)
    (oneGrant_eq (by simp)) hs next he

theorem execReversionWtrExpire_grant {s next : State} (hs : oneGrant s.wit = true)
    (he : execReversionWtrExpire s = .next next) : oneGrant next.wit = true := run_grant (f := fun s => prWtrExpire s)
    (oneGrant_eq (by simp)) hs next he

theorem execClaimTimeout_grant {s next : State} (hs : oneGrant s.wit = true)
    (he : execClaimTimeout s = .next next) : oneGrant next.wit = true := run_grant (f := fun s => claimTimeout s)
    (oneGrant_eq (by simp)) hs next he

theorem execYieldTimeout_grant {s next : State} (hs : oneGrant s.wit = true)
    (he : execYieldTimeout s = .next next) : oneGrant next.wit = true := run_grant (f := fun s => yieldTimeout s)
    (oneGrant_eq (by simp)) hs next he

theorem execRemirror_grant {s next : State} (hs : oneGrant s.wit = true)
    (he : execRemirror s = .next next) : oneGrant next.wit = true := run_grant (f := fun s => cmdBit s .PR_CMD 0 1)
    (cmdBit_grant _ _ _) hs next he

theorem execRelinquish_grant {s next : State} (hs : oneGrant s.wit = true)
    (he : execRelinquish s = .next next) : oneGrant next.wit = true := run_grant (f := fun s => cmdBit s .PR_CMD 0 0)
    (cmdBit_grant _ _ _) hs next he

theorem execPrClrCounts_grant {s next : State} (hs : oneGrant s.wit = true)
    (he : execPrClrCounts s = .next next) : oneGrant next.wit = true := run_grant (f := fun s => cmdBit s .PR_CMD 0 2)
    (cmdBit_grant _ _ _) hs next he

theorem execPrCfgWrite_grant (v : Word) (be : Fin 16) {s next : State} (hs : oneGrant s.wit = true)
    (he : execPrCfgWrite v be s = .next next) : oneGrant next.wit = true := run_grant (f := fun s => regWrite s .PR_CFG 0 0 v be.val)
    (regWrite_grant _ _ _ _ _) hs next he

theorem execFaultDetect_grant (code : Fin 26) (detail : Nat) (region : Fin 3) {s next : State} (hs : oneGrant s.wit = true)
    (he : execFaultDetect code detail region s = .next next) : oneGrant next.wit = true := run_grant (f := fun s => detect s code.val detail region.val)
    (oneGrant_eq (by simp)) hs next he

theorem execQuietLaneRelease_grant {s next : State} (hs : oneGrant s.wit = true)
    (he : execQuietLaneRelease s = .next next) : oneGrant next.wit = true := run_grant (f := fun s => quietLaneRelease s)
    (oneGrant_eq (by simp)) hs next he

theorem execLockstepResetTimer_grant {s next : State} (hs : oneGrant s.wit = true)
    (he : execLockstepResetTimer s = .next next) : oneGrant next.wit = true := run_grant (f := fun s => lockstepReset s)
    (lockstepReset_grant) hs next he

theorem execTempBarEnd_grant {s next : State} (hs : oneGrant s.wit = true)
    (he : execTempBarEnd s = .next next) : oneGrant next.wit = true := run_grant (f := fun s => tempBarEnd s)
    (oneGrant_eq (by simp)) hs next he

theorem execEccHourEnd_grant (ce : Nat) {s next : State} (hs : oneGrant s.wit = true)
    (he : execEccHourEnd ce s = .next next) : oneGrant next.wit = true := run_grant (f := fun s => eccHour s ce)
    (oneGrant_eq (by simp)) hs next he

theorem execDigestCompare_grant (ok : Bool) {s next : State} (hs : oneGrant s.wit = true)
    (he : execDigestCompare ok s = .next next) : oneGrant next.wit = true := run_grant (f := fun s => digestCompare s ok)
    (oneGrant_eq (by simp)) hs next he

theorem execClrLog_grant {s next : State} (hs : oneGrant s.wit = true)
    (he : execClrLog s = .next next) : oneGrant next.wit = true := run_grant (f := fun s => cmdBit s .SAF_CMD 0 0)
    (cmdBit_grant _ _ _) hs next he

theorem execSafClrCounts_grant {s next : State} (hs : oneGrant s.wit = true)
    (he : execSafClrCounts s = .next next) : oneGrant next.wit = true := run_grant (f := fun s => cmdBit s .SAF_CMD 0 1)
    (cmdBit_grant _ _ _) hs next he

theorem execSafInject_grant (v : Word) (be : Fin 16) {s next : State} (hs : oneGrant s.wit = true)
    (he : execSafInject v be s = .next next) : oneGrant next.wit = true := run_grant (f := fun s => regWrite s .SAF_INJECT 0 0 v be.val)
    (regWrite_grant _ _ _ _ _) hs next he

theorem execOeAllowPinChange_grant (level : Bool) {s next : State} (hs : oneGrant s.wit = true)
    (he : execOeAllowPinChange level s = .next next) : oneGrant next.wit = true := run_grant (f := fun s => oePin s level)
    (oneGrant_eq (by simp)) hs next he

theorem execPciePerstRelease_grant {s next : State} (hs : oneGrant s.wit = true)
    (he : execPciePerstRelease s = .next next) : oneGrant next.wit = true := run_grant (f := fun s => perstHigh s)
    (oneGrant_eq (by simp)) hs next he

theorem execTjRisesThroughTempWarn_grant (tj : Int) {s next : State} (hs : oneGrant s.wit = true)
    (he : execTjRisesThroughTempWarn tj s = .next next) : oneGrant next.wit = true := run_grant (f := fun s => takeTj s tj)
    (oneGrant_eq (by simp)) hs next he

theorem execRescanComplete_grant {s next : State} (hs : oneGrant s.wit = true)
    (he : execRescanComplete s = .next next) : oneGrant next.wit = true := run_grant (f := fun s => rescanDone s)
    (oneGrant_eq (by simp)) hs next he

theorem execArpRequestReceive_grant (q : ArpReq) {s next : State} (hs : oneGrant s.wit = true)
    (he : execArpRequestReceive q s = .next next) : oneGrant next.wit = true := run_grant (f := fun s => arpRequest s q)
    (oneGrant_eq (by simp)) hs next he

theorem execMembershipQueryReceive_grant (q : MemQuery) {s next : State} (hs : oneGrant s.wit = true)
    (he : execMembershipQueryReceive q s = .next next) : oneGrant next.wit = true := run_grant (f := fun s => memQuery s q)
    (oneGrant_eq (by simp)) hs next he

theorem execPdelayReqReceive_grant (n : Fin 4) (msg : PdelayMsg) {s next : State} (hs : oneGrant s.wit = true)
    (he : execPdelayReqReceive n msg s = .next next) : oneGrant next.wit = true := run_grant (f := fun s => tbRun s fun s => pdelayReceive s n.val msg.seq msg.resp)
    (oneGrant_eq (by unfold tbRun; split <;> simp)) hs next he

theorem execMalformedMessage_grant (c : Client) (bytes : List Byte) {s next : State} (hs : oneGrant s.wit = true)
    (he : execMalformedMessage c bytes s = .next next) : oneGrant next.wit = true := run_grant (f := fun s => firynBytes s c bytes)
    (firynBytes_grant _ _) hs next he

theorem execInPlaceRelock_grant (x : SynLock) {s next : State} (hs : oneGrant s.wit = true)
    (he : execInPlaceRelock x s = .next next) : oneGrant next.wit = true := run_grant (f := fun s => synRun s fun s => synRelock s x.k.val x.errs)
    (oneGrant_eq (by unfold synRun; split <;> simp)) hs next he

end Sys2Proof.Machine
end

