-- ==== Sys2Proof/Tests/Slice0.lean ====
section
/-! SUPPORT. The model's own tests: the well-formedness checks refuse what they should, single steps do what the spec's
words say, and the hypotheses of the statements are met. -/

namespace Sys2Proof.Tests

-- Each `decide +kernel` waits for the kernel to have checked everything before it; waiting one by one, and not all at
-- once, keeps the number of threads small.
set_option Elab.async false

open Sys2Proof.Machine

/-- A module alone, running, with audio started. -/
def up : State :=
  { State.reset with
    glb := { State.reset.glb with inReset := false, mode := .running }
    mix := { State.reset.mix with audioOn := true } }

/-- The same with registers written. -/
def upWith (ws : List (Reg × Nat × Nat × Word)) : State := ws.foldl (fun s w => wr s w.1 w.2.2.2 w.2.1 w.2.2.1) up

/-- The state a command answers; `up` should it answer none. -/
def after (c : Instr) (s : State) : State :=
  match exec c s with
  | .next t => t
  | _ => up

/-! ### Well-formed operands: every check refuses what it should -/

theorem test_wf_stitch : (Instr.stitchBoundary { phases := [(8, 0)] }).wf = false := by decide
theorem test_wf_stitch_rule : (Instr.stitchBoundary { wrong := [256] }).wf = false := by decide
theorem test_wf_fence : (Instr.fence { incomplete := [2048] }).wf = false := by decide
theorem test_wf_lane_frame : (Instr.laneFrameStart 0 { bck := 64, period := 20833, data := [{ lane := 64 }] }).wf = false := by decide
theorem test_wf_lane_frame_bcks : (Instr.laneFrameStart 0 { bck := 64, period := 20833, bcks := [(8, 64)] }).wf = false := by decide
theorem test_wf_frame_short : (Instr.frameIngress 0 { dst := 1, src := 2, len := 63 }).wf = false := by decide
theorem test_wf_frame : (Instr.frameIngress 0 { dst := 1, src := 2 }).wf = true := by decide
theorem test_wf_client : (Instr.hello { port := 4 } []).wf = false := by decide
theorem test_wf_proof : (Instr.proof {} (2 ^ 32) []).wf = false := by decide
theorem test_wf_request : (Instr.nop { client := {}, id := 2 ^ 32, seq := 0 }).wf = false := by decide
theorem test_wf_address : (Instr.registerWrite false 0x1000D 0 15 false).wf = false := by decide
theorem test_wf_scrub : (Instr.scrubPass [0x400000]).wf = false := by decide
theorem test_wf_straps : (Instr.resetRelease { straps := 4 }).wf = false := by decide
theorem test_wf_fault : (Instr.faultDetect 0 0 0).wf = false := by decide
theorem test_wf_arp : (Instr.arpRequestReceive { port := 4, vid := 0, mac := 0, ip := 0, target := 0 }).wf = false := by decide
theorem test_wf_query : (Instr.membershipQueryReceive { port := 0, version := 4 }).wf = false := by decide

/-! ### Table 16-7: a driver's first writes. Of step 2 the first DW is taken on the state after step 1. -/

def firstWrite : State := after (.registerWrite false 0x1000C 0x14 3 false) up

/-- Step 1: two bytes of FAB_VHOLD answer ACCESS and are captured twice. -/
theorem test_driver_step1 :
    (firstWrite.glb.wstatus, firstWrite.glb.werror, firstWrite.glb.werrCnt) = (0x08004003, some 0x08004003, 1) := by decide +kernel

/-- Step 2, first DW: OK; REG_WERROR still names step 1. -/
theorem test_driver_step2a :
    let t := after (.registerWrite false 0x1000C 0x14 15 false) firstWrite
    (rd t .FAB_VHOLD, t.glb.wstatus, t.glb.werror, t.glb.werrCnt) = (0x14, 0x00004003, some 0x08004003, 1) := by decide +kernel

/-- Step 2, second DW: bit 22 of FAB_RESERVE0 is reserved. -/
theorem test_driver_step2b :
    let t := after (.registerWrite false 0x10010 0x400000 15 false) firstWrite
    (t.glb.wstatus, t.glb.werror, t.glb.werrCnt) = (0x01004004, some 0x08004003, 2) := by decide +kernel

/-- Step 3: the VCAP lock. -/
theorem test_driver_step3 :
    let t := after (.registerWrite false 0x24 0x40 15 false) firstWrite
    (t.glb.wstatus, t.glb.werrCnt, t.glb.locks) = (0x00000009, 1, 4) := by decide +kernel

/-- Step 4: FAB_VCAP is locked. -/
theorem test_driver_step4 :
    let t := after (.registerWrite false 0x10008 0x3C 15 false) { firstWrite with glb := { firstWrite.glb with locks := 4 } }
    (t.glb.wstatus, t.glb.werrCnt) = (0x02004002, 2) := by decide +kernel

/-! ### Worked numbers of the chapters -/

/-- Table 03-4: samples of a talk gain that ramps from 8192 to 16384 in two stitches. -/
theorem test_ramp_samples :
    let r := Ramp.to { start := 8192, target := 8192 } 16384 2
    (r.val 0, r.val 4, r.val 5, r.step.val 5) = (8874, 11605, 12288, 16384) := by decide

/-- The chamber of Table 02-6: G(0.91 V) and G(0.92 V) of catalog parts, 10 mV a step from 0.90 V. -/
theorem test_curve : (gCurve 1, gCurve 2, gCurve 10) = (825000, 850000, 1050000) := by decide

/-- R263: 128 × 48 kHz is the 480th part of a DCO at 2,949,120,000 Hz, and 128 × 44.1 kHz that × 147/160. -/
theorem test_mck_ratios :
    let t := mckSet (setFd up .MCK_CFG_MULT 0 1) 1 true
    ((mckOut t 1).map fun o => (o.num, o.den)) = some (480, 1) ∧
      ((mckOut (setFd t .MCK_CFG_FAM 1 1) 1).map fun o => o.num * 147 == o.den * 480 * 160) = some true := by decide +kernel

/-- FENCE_MISS is bit 1 of FAB_EVENT, the source EV65 (Table 14-1). -/
theorem test_event_number : (raise up .FAB_EVENT 2).evt.edges = [(65, true)] := by decide +kernel

/-- The REQUEST of the example before Table 15-3: its session, SEQ 41, BS_COMMIT of set 2. -/
def lostReply : List Byte :=
  [0x46, 0x59, 0x01, 0x10, 0xE4, 0xC0, 0x31, 0x7A, 0x29, 0x00, 0x00, 0x00, 0x04, 0x00, 0x12, 0x00, 0x02, 0x00, 0x00, 0x00]

/-- The sender of that REQUEST, to the address and UDP port of the module (R332). -/
def consoleClient : Client := { vid := 1, dport := 47810, dip := 0x0A000001 }

/-- Session 3 waits with HIGH 40; set 2 is its own and holds a record. -/
def console : State :=
  let t := wr (setFd up .SES_CFG_PORTS 1) .SES_IP4 (word 0x0A000001)
  { t with
    mix := { t.mix with sets := [(2, { state := .open, owner := some (.session 3), recs := [⟨0x01000000, 0x50000, 0, 0⟩] })] }
    ses := { t.ses with ses := [(3, { id := 0x7A31C0E4, role := 1, client := consoleClient, idle := 60, lastReq := 0, high := 40 })] } }

/-- HIGH becomes 41, position 41 is executing, the commit waits for its decision. -/
theorem test_lost_reply :
    let t := firynBytes console consoleClient lostReply
    ((sesOf t 3).map fun x => (x.high, x.window.getD 0 .unused, x.busy.map (·.op))) = some (41, .executing, some 0x12) ∧
      t.fab.queue.length = 1 := by decide +kernel

/-! ### FabricCountersClear -/

theorem hyp_FabricCountersClear :
    calm up = true ∧ Accepted up .FAB_CMD 0 0 2 ∧ Accepted up .FAB_CMD 0 0 1 := by decide

/-! ### VcoreTransitions -/

theorem hyp_VcoreTransitions :
    (let s := { up with fab := { up.fab with vstate := .raising, vnow := 30, vfrom := 30, vtarget := 31 }, now := 10000 }
     calm s = true ∧ s.fab.vAt + 10000 * ((s.fab.vtarget : Int) - s.fab.vfrom).natAbs ≤ s.now) ∧
    (let s := { up with fab := { up.fab with vstate := .confirming, confirm := 8 } }
     calm s = true ∧ 8 ≤ s.fab.confirm ∧ s.fab.waiting = none) ∧
    (let s := { up with fab := { up.fab with vstate := .hold, holdFrom := some 0 }, now := 10000000000 }
     calm s = true ∧ 0 + 1000000000 * fv s .FAB_VHOLD_HOLD_S ≤ s.now) ∧
    (let s := { up with fab := { up.fab with vstate := .lowering, vnow := 30 }, now := 10000 }
     calm s = true ∧ selected s + 1 < s.fab.vnow ∧ s.fab.vAt + 10000 ≤ s.now) ∧
    (let s := { up with fab := { up.fab with vstate := .lowering, vnow := 0, vfrom := 1 } }
     calm s = true ∧ s.fab.vnow ≤ selected s ∧ s.fab.vnow < s.fab.vfrom) := by decide

/-! ### EnableRequestDecided -/

/-- A module that enabled the meter of source 0, which exists, over the register path. -/
def meterAsked : State :=
  { up with
    mix := { up.mix with sources := [(0, {})] }
    fab := { up.fab with
      admPending := true, queue := [{ who := .regPath, kind := .enable .meter 0 1, stitch := 0, tack := 0 }] } }

theorem hyp_EnableRequestDecided_ok :
    let s := meterAsked
    let v := judge? s { who := .regPath, kind := .enable .meter 0 1, stitch := 0, tack := 0 }
    calm s = true ∧ s.fab.vstate = .steady ∧ s.fab.waiting = none ∧
      headReq s = some { who := .regPath, kind := .enable .meter 0 1, stitch := 0, tack := 0 } ∧ held s 1 = false ∧
      v.code = .ok ∧ v.added ≠ [] ∧ ((allLoads s).any fun l => l.kind == 7 && l.index == 0) = false ∧
      11 * (if v.only0 then v.d.all else v.d.low + max v.d.d0 (res0 s)) ≤ 10 * gEff s (vCap s) ∧
      stepFor s v.d ≤ s.fab.vnow := by decide

/-- The same with every needle out of service: nothing fits. -/
theorem hyp_EnableRequestDecided_full :
    let s := { meterAsked with fab := { meterAsked.fab with
      needles := (List.range 32).map fun k => (k, { inService := false }) } }
    let v := judge? s { who := .regPath, kind := .enable .meter 0 1, stitch := 0, tack := 0 }
    calm s = true ∧ headReq s = some { who := .regPath, kind := .enable .meter 0 1, stitch := 0, tack := 0 } ∧
      held s 1 = false ∧ v.code = .ok ∧ v.added ≠ [] ∧
      10 * gEff s (vCap s) < 11 * (if v.only0 then v.d.all else v.d.low + max v.d.d0 (res0 s)) := by decide

/-! ### CapAndReserveWrites -/

/-- The fabric at the lowest step, nothing admitted. -/
def atRest : State := { up with fab := { up.fab with vnow := 0 } }

theorem hyp_CapAndReserveWrites_equal :
    let s := atRest
    let t := wr (noted s .FAB_VCAP 0 0) .FAB_VCAP (kept .FAB_VCAP 40)
    let u := wr (noted s .FAB_RESERVE0 0 0) .FAB_RESERVE0 (kept .FAB_RESERVE0 1000)
    calm s = true ∧ s.rf.regs.wf = true ∧ s.fab.vstate = .steady ∧ held s 1 = false ∧ s.glb.mode ≠ .starting ∧
      Accepted s .FAB_VCAP 0 0 40 ∧ selected t = s.fab.vnow ∧ Accepted s .FAB_RESERVE0 0 0 1000 ∧
      selected u = s.fab.vnow := by decide

theorem hyp_CapAndReserveWrites_higher :
    let s := { up with fab := { up.fab with vnow := 0, needles := (List.range 32).map fun k => (k, { inService := false }) } }
    let t := wr (noted s .FAB_VCAP 0 0) .FAB_VCAP (kept .FAB_VCAP 90)
    let u := wr (noted atRest .FAB_RESERVE0 0 0) .FAB_RESERVE0 (kept .FAB_RESERVE0 2454545)
    calm s = true ∧ Accepted atRest .FAB_RESERVE0 0 0 2454545 ∧ atRest.fab.vnow < selected u ∧
      Accepted s .FAB_VCAP 0 0 90 ∧ selected t ≤ 90 := by decide

theorem hyp_CapAndReserveWrites_lower :
    let t := wr (noted up .FAB_VCAP 0 0) .FAB_VCAP (kept .FAB_VCAP 90)
    let u := wr (noted up .FAB_RESERVE0 0 0) .FAB_RESERVE0 (kept .FAB_RESERVE0 0)
    Accepted up .FAB_VCAP 0 0 90 ∧ selected t < up.fab.vnow ∧ Accepted up .FAB_RESERVE0 0 0 0 ∧
      selected u < up.fab.vnow := by decide

/-! ### StreamAndLaneCountersClear -/

theorem hyp_StreamAndLaneCountersClear :
    calm up = true ∧ Accepted up .STR_CMD 0 0 16 ∧ Accepted up .STR_CMD 0 0 32 ∧ Accepted up .STR_CMD 0 0 64 ∧
      Accepted up .CG_CMD 7 0 1 ∧ Accepted up .HOST_CMD 0 0 1 ∧ Accepted up .RB_CMD 0 0 16 ∧
      Accepted up .PORT_CMD 4 0 4 := by decide

/-! ### UnitCountersClear -/

theorem hyp_UnitCountersClear :
    calm up = true ∧ Accepted up .TB_CMD 0 0 2 ∧ Accepted up .REF_CMD 0 0 1 ∧ Accepted up .SYN_CMD 0 0 1 ∧
      Accepted up .SPL_CMD 0 0 2 ∧ Accepted up .SES_CMD 0 0 2 ∧ Accepted up .SAF_CMD 0 0 2 ∧
      Accepted up .SAF_CMD 0 0 1 ∧ Accepted up .GLB_CMD 0 0 1 := by decide

/-! ### RegisterPathRequests -/

/-- Set 3 of the register path is open and holds one record. -/
def setOpened : State :=
  { up with mix := { up.mix with sets := [(3, { state := .open, owner := some .regPath, recs := [⟨0, 0, 0, 0⟩] })] } }

theorem hyp_RegisterPathRequests :
    calm up = true ∧ Accepted up .DYN_CMD 0 0 8 ∧ Accepted up .DYN_CMD 0 0 32 ∧ Accepted up .RB_CMD 0 0 1 ∧
      Accepted up .RB_CMD 0 0 4 ∧ Accepted up .STR_CMD 0 0 1 ∧ Accepted up .STR_CMD 0 0 4 ∧
      calm setOpened = true ∧ Accepted setOpened .BS_CMD 3 0 4 := by decide

/-! ### DisablesWait -/

/-- One object of each kind is enabled under number 0. -/
def oneOfEach : State :=
  { up with
    dyn := { up.dyn with meters := [(0, { enabled := true })], vox := [(0, { enabled := true })] }
    rb := { up.rb with seams := [(0, { enabled := true })], convs := [(0, { enabled := true })] }
    str := { up.str with rx := [(0, { enabled := true })], tx := [(0, { enabled := true })] } }

theorem hyp_DisablesWait :
    calm oneOfEach = true ∧ Accepted oneOfEach .DYN_CMD 0 0 16 ∧ Accepted oneOfEach .DYN_CMD 0 0 64 ∧
      Accepted oneOfEach .RB_CMD 0 0 2 ∧ Accepted oneOfEach .RB_CMD 0 0 8 ∧ Accepted oneOfEach .STR_CMD 0 0 2 ∧
      Accepted oneOfEach .STR_CMD 0 0 8 := by decide

/-! ### BastingSetCommands -/

theorem hyp_BastingSetCommands :
    calm up = true ∧ Accepted up .BS_CMD 7 0 1 ∧ calm setOpened = true ∧ Accepted setOpened .BS_CMD 3 0 8 ∧
      (let t := wr setOpened .BS_REC 0x07000000 3 0
       calm t = true ∧ Accepted t .BS_CMD 3 0 2) := by decide

/-! ### DeferredMapWrites -/

/-- Stream 0 is enabled and a member of hank 0. -/
def memberOn : State :=
  { upWith [(.RX_W1, 0, 0, 0x00600080)] with str := { up.str with rx := [(0, { enabled := true })] } }

theorem hyp_DeferredMapWrites :
    calm up = true ∧ up.rf.regs.wf = true ∧ Accepted up .SLOT_MAP 63 31 0 ∧ Accepted up .HOST_MAP 63 0 0 ∧
      Accepted up .TX_MAP 255 63 0 ∧ Accepted up .RX_W1 255 0 0x00600000 ∧ objOn up .rx 255 = false ∧
      Accepted up .HK_W0 63 0 96 ∧ hankMembers up 63 = 0 := by decide

theorem hyp_DeferredMapWrites_on :
    calm memberOn = true ∧ memberOn.rf.regs.wf = true ∧ objOn memberOn .rx 0 = true ∧ hankMembers memberOn 0 ≠ 0 ∧
      Accepted memberOn .RX_W1 0 0 0x00660080 ∧ Accepted memberOn .HK_W0 0 0 0x80000066 := by decide

/-! ### HoldsAndEdgesClear -/

/-- Everything that can be cleared stands on object 0: a muted hem, a held control output. -/
def toClear : State :=
  { up with
    dyn := { up.dyn with hems := [(0, { muted := true })] }
    cio := { up.cio with cos := [(0, { state := .held })] } }

theorem hyp_HoldsAndEdgesClear :
    calm toClear = true ∧ Accepted toClear .DYN_CMD 0 0 1 ∧ Accepted toClear .DYN_CMD 0 0 2 ∧
      Accepted toClear .DYN_CMD 0 0 4 ∧ Accepted toClear .CIO_CMD 0 0 1 ∧ Accepted toClear .CIO_CMD 0 0 2 := by decide

/-! ### LocksSet -/

theorem hyp_LocksSet :
    calm up = true ∧ Accepted up .GLB_CMD 0 0 0x10 ∧ Accepted up .GLB_CMD 0 0 0x20 ∧ Accepted up .GLB_CMD 0 0 0x40 ∧
      Accepted up .GLB_CMD 0 0 0x80 ∧ Accepted up .GLB_CMD 0 0 0x100 := by decide

/-! ### ClockCommands -/

theorem hyp_ClockCommands :
    calm up = true ∧ Accepted up .TB_CMD 0 0 1 ∧ Accepted up .REF_CMD 0 0 2 ∧
      (let s := upWith [(.MC_CTRL, 0, 0, 0x40000000)]
       calm s = true ∧ Accepted s .REF_CMD 0 0 4) ∧
      (let s := { up with syn := { up.syn with sy := [(0, { state := .failed })] } }
       calm s = true ∧ Accepted s .SYN_CMD 0 0 4) ∧
      (let s := { up with syn := { up.syn with sy := [(0, { state := .free })] } }
       calm s = true ∧ Accepted s .SYN_CMD 0 0 2) := by decide

/-! ### SwitchCommands -/

theorem hyp_SwitchCommands_flush : calm up = true ∧ Accepted up .SW_CMD 0 0 1 := by decide

theorem hyp_SwitchCommands_add : Accepted up .SW_CMD 0 0 2 := by decide +kernel

theorem hyp_SwitchCommands_del :
    let s := { up with sw := { up.sw with mac := [(4 * macSet 0 0, { vid := 0, mac := 0, fixed := some 1 })] } }
    calm s = true ∧ Accepted s .SW_CMD 0 0 4 := by decide +kernel

theorem hyp_SwitchCommands_apply :
    let s := upWith [(.GATE_CTRL, 3, 0, 0x00000001), (.GATE_ADM_W1, 3, 0, 1000)]
    calm s = true ∧ Accepted s .PORT_CMD 3 0 1 := by decide +kernel

theorem hyp_SwitchCommands_cancel :
    let s := { up with sw := { up.sw with ports := [(3, { pend := some {} })] } }
    calm s = true ∧ Accepted s .PORT_CMD 3 0 2 := by decide

/-! ### ClockGroupTransitions -/

theorem hyp_ClockGroupTransitions :
    let s (x : Group) : State := { up with now := 200000000, ln := { up.ln with groups := [(7, x)] } }
    (calm (s { state := .running, lastAt := some 0 }) = true ∧ (s {}).rf.regs.wf = true ∧
      stopDue (s { state := .running, lastAt := some 0 }) 7 = true) ∧
    (calm (s { state := .starting, stable := 256 }) = true ∧ fv (s {}) .CG_TIMING_STABLE 7 ≤ 256) ∧
    (calm (s { state := .rateFault, okFrom := some 0 }) = true ∧ 0 + 100000000 ≤ (s {}).now) ∧
    (calm (s { state := .stopping, stopLeft := 0 }) = true ∧ ({} : Group).playOut = .zero ∧ fb (s {}) .CG_CTRL_EN 7 = false) := by decide

/-! ### SeamEventsAct -/

theorem hyp_SeamEventsAct :
    let s (x : Seam) : State := { up with now := 2000000000, rb := { up.rb with seams := [(511, x)] } }
    calm (s {}) = true ∧ 0 + 1000000 * fv (s {}) .RB_SEAM_CFG_TRAIN ≤ (s {}).now ∧
      ([{ enabled := true, state := .training, trainFrom := some 0 }, { enabled := true, state := .running },
        { enabled := true, state := .hold, trainFrom := some 0 },
        { enabled := true, state := .range, inRangeFrom := some 0 }] : List Seam).all (fun x =>
          (seamOf (s x) 511).enabled && (seamOf (s x) 511).trig.isNone) = true ∧
      mcMirrors (s {}) = false ∧ 10 * fv (s {}) .RB_SEAM_CFG_JUMP = 500 ∧ seamWithin (s {}) 511 (2 ^ 40) 20 = true ∧
      seamWithin (s {}) 511 0 20 = false := by decide +kernel

/-- An input that was never there has stopped; the clock of a time base never stops. -/
theorem hyp_SeamEventsAct_stops :
    let s := setFd (setFd up .SM_W0_DIR 1 511) .SM_W0_CLKKIND 1 511
    calm s = true ∧ seamStopped s 511 = false ∧ seamStopped up 511 = true := by decide +kernel

theorem hyp_SeamEventsAct_alone : mcMirrors up = false ∧ calm up = true := by decide

/-! ### StartingGroupCountsFrames -/

theorem hyp_StartingGroupCountsFrames :
    let s : State := { up with ln := { up.ln with groups := [(0, { state := .starting, lastAt := some 0 })] } }
    calm s = true ∧ acceptedRate s 0 (1000000000000 / rateHz (fv s .CG_FMT_RATE 0)) = some (fv s .CG_FMT_RATE 0) ∧
      acceptedRate s 0 1 = none ∧ fb s .CG_FMT_FSY_SRC 0 = false ∧ fb (setFd s .CG_FMT_FSY_SRC 1) .CG_FMT_FSY_SRC 0 = true ∧
      (∃ f : LaneFrame, f.shared = false ∧ fb s .CG_FMT_FSY_POL 0 = f.falling) ∧
      ∃ f : LaneFrame, f.shared = false ∧ fb s .CG_FMT_FSY_POL 0 ≠ f.falling :=
  ⟨by decide, by decide, by decide, by decide, by decide, ⟨{ bck := 64, period := 1 }, by decide, by decide⟩,
    ⟨{ bck := 64, period := 1, falling := false }, by decide, by decide⟩⟩

/-! ### GroupEnableWrites -/

theorem hyp_GroupEnableWrites :
    calm up = true ∧ Accepted up .CG_CTRL 7 0 1 ∧ Accepted up .CG_CTRL 7 0 0 ∧ fb up .CG_CTRL_EN 7 = false ∧
      held up 5 = false ∧ up.glb.mode = .running ∧ (groupOf up 7).state = .off ∧
      (let s := { upWith [(.CG_CTRL, 7, 0, 1)] with ln := { up.ln with groups := [(7, { state := .running })] } }
       calm s = true ∧ Accepted s .CG_CTRL 7 0 0 ∧ fb s .CG_CTRL_EN 7 = true) := by decide

/-- EN 1 while the group runs, the lane block is held or start-up goes on; EN 0 at a group that stops. -/
theorem hyp_GroupEnableWrites_stores :
    let s (x : GroupState) : State := { up with ln := { up.ln with groups := [(7, { state := x })] } }
    let safe : State := { up with saf := { up.saf with safe := 32 } }
    let early : State := up.setGlb fun g => { g with mode := .starting }
    calm (s .running) = true ∧ Accepted (s .running) .CG_CTRL 7 0 1 ∧ bit 1 0 = true ∧ (groupOf (s .running) 7).state ≠ .off ∧
      calm (s .stopping) = true ∧ Accepted (s .stopping) .CG_CTRL 7 0 0 ∧ bit 0 0 = false ∧
      (groupOf (s .stopping) 7).state = .stopping ∧ calm safe = true ∧ held safe 5 = true ∧ Accepted safe .CG_CTRL 7 0 1 ∧
      calm early = true ∧ Accepted early .CG_CTRL 7 0 1 ∧ early.glb.mode = .starting := by decide

/-! ### PortLinkStates -/

theorem hyp_PortLinkStates :
    let s (st : PortState) : State := { up with sw := { up.sw with ports := [(3, { state := st })] } }
    calm up = true ∧ Accepted up .PORT_CTRL 3 0 0x80000002 ∧ fb up .PORT_CTRL_EN 3 = false ∧ held up 6 = false ∧
      up.glb.inReset = false ∧ (portOf up 3).state = .disabled ∧
      calm (s .negotiating) = true ∧ (portOf (s .negotiating) 3).state = .negotiating ∧
      calm (s .up) = true ∧ (portOf (s .up) 3).state = .up ∧
      (let t := wr (s .up) .PORT_CTRL 0x80000002 3
       calm t = true ∧ Accepted t .PORT_CTRL 3 0 2 ∧ fb t .PORT_CTRL_EN 3 = true) := by decide

/-! ### FrameIngressForwards -/

theorem hyp_FrameIngressForwards :
    let s := { upWith [(.VLAN, 0, 0, 0x80050F0F)] with sw := { up.sw with ports := [(0, { state := .up })] } }
    let f : Frame := { dst := 0x1B1900000002, src := 0x1B1900000004, vid := 5 }
    calm s = true ∧ (portOf s 0).state = .up ∧ vlanOf s (classify s 0 f).vid = some 0x80050F0F ∧
      vlanOf s (classify s 0 { f with vid := 6 }).vid = none ∧ acceptsTag s 0 f = true ∧ f.len ≤ fv s .SW_CFG_MAXFRAME ∧
      reservedDst f.dst = false ∧ p2pDrops s 0 f = false ∧ isPdelay f = false ∧
      isPdelay { f with dst := 0x0180C200000E } = true ∧ reservedDst 0x0180C200000E = false := by decide

/-! ### FrameEgressSends -/

theorem hyp_FrameEgressSends :
    let f : Frame := { dst := 0x1B1900000002, src := 0x1B1900000004 }
    let qf : QFrame := { frame := f, fromPort := 1, inAt := 0 }
    let s := { up with sw := { up.sw with ports := [(0, { state := .up, speed := 2 })], queues := [(5, [qf]), (37, [qf])] } }
    calm s = true ∧ queueAt s 0 5 = [qf] ∧ queueAt s 4 5 = [qf] ∧ (portOf s 0).state = .up ∧
      (List.range 8).all (fun k => (queueAt s 0 k).isEmpty == (k != 5) && (queueAt s 4 k).isEmpty == (k != 5)) = true ∧
      fitsNever s 0 5 (egressForm s 0 f).len = false ∧ creditOk s 0 5 = true ∧ (windowNow s 0 5).isSome = true ∧
      fitsNow s 0 5 (egressForm s 0 f).len = true := by decide

/-- 10 ns before the close of queue 5's window, while the higher queue 7 is shut. -/
theorem hyp_FrameEgressSends_late :
    let f : Frame := { dst := 0x1B1900000002, src := 0x1B1900000004 }
    let g : GateCfg := { en := true, list := [(0x20, 100000), (0, 25000)] }
    let s := { up with
      now := 99990, tb := { up.tb with tbs := [(0, { t := 99990 * tbUnit })] }
      sw := { up.sw with
        ports := [(0, { state := .up, speed := 2, oper := g })]
        queues := [(5, [{ frame := f, fromPort := 1, inAt := 0 }]), (7, [{ frame := f, fromPort := 1, inAt := 0 }])] } }
    calm s = true ∧ windowNow s 0 5 = some (some 10) ∧ windowNow s 0 7 = none ∧
      fitsNever s 0 5 (egressForm s 0 f).len = false ∧ fitsNow s 0 5 (egressForm s 0 f).len = false := by decide +kernel

/-! ### AgeingAndGates -/

theorem hyp_AgeingAndGates :
    let s := { up with
      now := 200000, tb := { up.tb with tbs := [(0, { t := 200000 * tbUnit })] }
      sw := { up.sw with ports := [(3, { oper := { en := true }, pend := some { en := true } })] } }
    calm s = true ∧ (portOf s 3).oper.en = true ∧ (portOf s 3).pend = some { en := true } ∧ takeoverDue s 3 = true := by decide

/-! ### StreamTimeouts -/

theorem hyp_StreamTimeouts :
    let l : Leg := { lastAcc := some 0, live := true }
    let s := { up with now := 500000000, str := { up.str with rx := [(255, { state := .running, legA := l, legB := l })] } }
    calm s = true ∧ (rxOf s 255).state = .running ∧ (rxOf s 255).lastAcc + 500000000 ≤ s.now ∧
      (rxOf s 255).legA.lastAcc = some 0 ∧ (rxOf s 255).legA.live = true ∧ (rxOf s 255).legB.lastAcc = some 0 ∧
      (rxOf s 255).legB.live = true := by decide

/-! ### PacketJudged -/

/-- Stream 0 is enabled with its reset words (L24, one channel, VID 1, port 5004, type 97) for IPv4 239.0.0.1; its leg
has delivered sequence number 7. -/
def listening : State :=
  let t := upWith [(.RX_DST_A, 0, 0, 0xEF000001)]
  { t with str := { t.str with rx := [(0, { enabled := true, state := .waiting, legA := { got := [(7, 0)] } })] } }

/-- An RTP packet for it with so many bytes. -/
def rtpPacket (seq ts n : Nat) : Pkt :=
  { port := 0, vid := 1, kind := .rtp false 0xEF000001 0 5004 none 97 seq ts, payload := List.replicate n 0 }

theorem hyp_PacketJudged_match :
    calm listening = true ∧ matchStream up (rtpPacket 1 0 3) = none ∧
      matchStream listening (rtpPacket 1 0 3) = some (0, false) ∧ pktBad listening 0 (rtpPacket 1 0 3) = false ∧
      pktBad listening 0 (rtpPacket 1 0 4) = true := by decide

/-- The last position before the window and the first in it; the last in it and the first beyond it. -/
theorem hyp_PacketJudged_window :
    let x := rxOf listening 0
    let u (q ts : Nat) := acrAnchor (setRx listening 0 (setLeg x false ((legOf x false).count 16 q))) 0 (rtpPacket q ts 3)
    let first := readPos (u 1 0) 0 + (perStitch (rxRate listening 0) : Nat)
    let beyond := readPos (u 1 0) 0 * 48000 + (((rxOf (u 1 0) 0).off + 1536) * rateHz (rxRate listening 0) : Nat)
    (pktPos (u 1 (2 ^ 32 - 85)) 0 (rtpPacket 1 (2 ^ 32 - 85) 3) < first ∧
      first ≤ pktPos (u 1 (2 ^ 32 - 84)) 0 (rtpPacket 1 (2 ^ 32 - 84) 3)) ∧
    ((pktPos (u 1 1541) 0 (rtpPacket 1 1541 3) + 1 - 1) * 48000 < beyond ∧
      beyond ≤ (pktPos (u 1 1542) 0 (rtpPacket 1 1542 3) + 1 - 1) * 48000) := by decide +kernel

theorem hyp_PacketJudged_new :
    let x := rxOf listening 0
    let at_ (q : Nat) := acrAnchor (setRx listening 0 (setLeg x false ((legOf x false).count 16 q))) 0 (rtpPacket q 0 3)
    let u := at_ 1
    let v := at_ 7
    let pos := (pktPos u 0 (rtpPacket 1 0 3)).toNat
    (legOf (rxOf v 0) false).got.contains (pktSeq (rtpPacket 7 0 3), (pktPos v 0 (rtpPacket 7 0 3)).toNat) = true ∧
      readPos v 0 + (perStitch (rxRate listening 0) : Nat) ≤ pktPos v 0 (rtpPacket 7 0 3) ∧
      (legOf (rxOf u 0) false).got.contains (pktSeq (rtpPacket 1 0 3), pos) = false ∧
      (rxOf u 0).merged.contains (pktSeq (rtpPacket 1 0 3), pos) = false ∧
      allHeld (rxOf u 0) (pktPos u 0 (rtpPacket 1 0 3)).toNat 1 = false := by decide

/-! ### TransmitPacketQueued -/

/-- Transmit stream 255 runs with 48 positions of one channel that have left. -/
def sending : State :=
  { up with str := { up.str with tx := [(255, {
      enabled := true, state := .running, next := some 0, buf := (List.range 48).map fun p => (p, [(1 : Int)]) })] } }

theorem hyp_TransmitPacketQueued :
    calm sending = true ∧ (txOf sending 255).state ≠ .off ∧ (txOf sending 255).next = some 0 ∧
      0 < txLen sending 255 ∧ txLen sending 255 ≤ 48 ∧ (txOf sending 255).until_ = none ∧
      0 * txLen sending 255 < 1 ∧ 1 ≤ (0 + 1) * txLen sending 255 := by decide

/-- The samples of the next packet are all there; no earlier run ends. -/
theorem hyp_TransmitPacketQueued_ready :
    let len := txLen sending 255
    ((List.range len).filterMap fun j => Tbl.get? (txOf sending 255).buf (0 * len + j)).length = len ∧ sending.str.tails = [] := by
  decide

/-- The last run of the stream still ends: it is disabled, or enabled again with no packet begun. -/
theorem hyp_TransmitPacketQueued_tail :
    let e : TxTail := { run := { txOf sending 255 with until_ := some 40 } }
    let s : State := { sending with str := { sending.str with tx := [], tails := [(255, e)] } }
    let d := asTail s 255 e
    calm s = true ∧ (txOf s 255).next = none ∧ s.str.tails = [(255, e)] ∧ 255 % 256 = 255 ∧ (txOf d 255).state ≠ .off ∧
      (txOf d 255).next = some 0 ∧ 0 < txLen d 255 ∧ (txOf d 255).until_ = some 40 ∧ 0 * txLen d 255 < 40 ∧
      ((List.range (txLen d 255)).filterMap fun j => Tbl.get? (txOf d 255).buf (0 * txLen d 255 + j)).length = txLen d 255 := by
  decide

/-! ### MembershipAndAddresses -/

/-- A query of the group of stream 0, an ARP request for the own address, and a report that is due. -/
theorem hyp_MembershipAndAddresses :
    let s := wr listening .SES_IP4 0x0A000001
    let q : MemQuery := { port := 3, v6 := false, version := 2, maxNs := 100, group := 0xEF000001, sources := [] }
    calm s = true ∧ q.port < 4 ∧ (q.v6 = true ∨ q.version ≠ 1) ∧
      (legPorts s 0 false).contains q.port = true ∧ (legGroup s 0 false).isSome = true ∧ fb s .RX_W2_IPV6 0 = q.v6 ∧
      queryAsks q 0xEF000001 none = true ∧ sesServed s = true ∧ sesPort s 0 = true ∧ s.glb.mode ≠ .bare ∧
      localIp s false = 0x0A000001 := by decide

/-! ### WatchersSettle -/

/-- Chain 2047 waits for its release, meter 4095 for the end of its hold, detectors 0 and 255 are about to switch. -/
theorem hyp_WatchersSettle :
    let s := wr (wr { up with
      now := 500000000
      dyn := { up.dyn with
        chains := [(2047, { naCause := 1, naRun := 4096 })], meters := [(4095, { enabled := true, holdFrom := some 0 })]
        vox := [(0, { enabled := true, above := 1 }), (255, { enabled := true, on := true, below := 8 * 4095 })] } }
      .MTR_W0 0x100 4095) .VOX_W0 0 0
    calm s = true ∧ (chainOf s 2047).naCause = 1 ∧ (meterOf s 4095).holdFrom = some 0 := by decide

/-! ### SyncOffsetsJudged -/

/-- Time base 3 is enabled on port 0, which is UP; it has this state. -/
def ptpUp (b : TimeBase) : State :=
  let s := setFd up .TB_CTRL_EN 1 3
  { s with sw := { s.sw with ports := [(0, { state := .up })] }, tb := { s.tb with tbs := [(3, b)] } }

theorem hyp_SyncOffsetsJudged :
    [TbState.tracking, .acquiring, .jumpHeld].all (fun st =>
      let s := ptpUp { state := st }
      calm s && !held s 2 && tbListens s 3 0 && fv s .TB_CTRL_ROLE 3 != 2 && (tbOf s 3).committed == none) = true := by decide

/-- The offsets just below and at the threshold of 1,000 ns. -/
theorem hyp_SyncOffsetsJudged_threshold :
    let o (m : Int) : Int := rxStamp (ptpUp { state := .tracking }) 3 0 - m
    16 * fv (ptpUp { state := .tracking }) .TB_JTHR_JTHR 3 ≤ (o (rxStamp (ptpUp { state := .tracking }) 3 0 - 16000)).natAbs ∧
      ¬ 16 * fv (ptpUp { state := .tracking }) .TB_JTHR_JTHR 3 ≤ (o (rxStamp (ptpUp { state := .tracking }) 3 0 - 15999)).natAbs ∧
      fb (ptpUp { state := .acquiring }) .TB_CTRL_INIT_AUTO 3 = true ∧ (ptpUp { state := .acquiring }).mix.audioOn = true := by decide

theorem hyp_SyncOffsetsJudged_master :
    let s := ptpUp { state := .tracking, gm := some { id := 7, sender := 9, port := 0 } }
    calm s = true ∧ held s 2 = false ∧ tbListens s 3 0 = true ∧ fv s .TB_CTRL_ROLE 3 ≠ 2 ∧ fromMaster s 3 0 9 = true ∧
      fromMaster s 3 0 8 = false := by decide

/-! ### TimeBaseTimers -/

theorem hyp_TimeBaseTimers_timeouts :
    let s := { ptpUp { state := .jumpHeld, annAt := some 0, heldSince := some 0 } with now := 100000000000 }
    calm s = true ∧ held s 2 = false ∧ annOver s 3 = true ∧ fb s .TB_CTRL_EN 3 = true ∧ (tbOf s 3).committed = none ∧
      (tbOf s 3).state = .jumpHeld ∧ s.mix.audioOn = true := by decide

theorem hyp_TimeBaseTimers_sends :
    let s := wr (ptpUp { state := .master }) .TC_CTRL 2
    calm s = true ∧ held s 2 = false ∧ (tbOf s 3).state = .master ∧ (tbOf s 3).nextAnn ≤ s.now ∧
      (tbOf s 3).nextSync ≤ s.now ∧ tcMode s 0 = 2 ∧ (portOf s 0).state = .up ∧
      Tbl.getD s.tb.nextPdelay 0 0 ≤ s.now ∧ delayPorts s 3 = [] ∧ delayPorts (ptpUp { state := .tracking }) 3 = [0] ∧
      Tbl.get? { s.tb with pdelayAsked := [(0, (5, 80))] }.pdelayAsked 0 = some (5, 80) ∧ Tbl.get? s.tb.pdelayAsked 0 = none := by
  decide

/-! ### SourcesQualify -/

/-- Slot 9 in a state, on a clock group that carries media clock 1; slot 0 has a signal. -/
def slotIn (x : RefSlot) : State :=
  let t := setFd up .CG_FMT_MCB 5 1
  { t with
    now := 1000000000, ref := { t.ref with slots := [(9, x)] }, ln := { t.ln with groups := [(1, { state := .running })] } }

theorem hyp_SourcesQualify :
    calm (slotIn {}) = true ∧ ff (slotIn {}) .QL_W1_JUMP 9 ≠ 0 ∧ slotUsable (slotIn {}) 9 = true ∧
      (slotOf (slotIn { q := .qualified, hardRun := 2 }) 9).q = .qualified ∧
      (slotOf up 9).q = .noSignal ∧ slotUsable up 9 = false := by decide

theorem hyp_SourcesQualify_time :
    let s := { slotIn { q := .qualifying } with now := 1000000000 * ff up .QL_W1_QTIME 9 }
    calm s = true ∧ qtimeOver s 9 = true := by decide

/-- HARD and SOFT have values between which an offset lies. -/
theorem hyp_SourcesQualify_window :
    let u := landWindow (slotIn { q := .qualified, hardRun := 2 })
    ff u .QL_W0_SOFT 9 * 800 < ff u .QL_W0_HARD 9 * 800 ∧ voteAgainstTcxo (setSlot u 9 { q := .qualified }) 9 = false := by decide +kernel

/-! ### LoopEvents -/

/-- Media clock 3 in a state, with its first table entry naming input 2. -/
def clockIn (x : Mc) : State :=
  let t := setFd (setFd (setFd up .MC_CTRL_REVERT 1 3) .MC_TBL_KIND 1 3 0) .MC_TBL_INDEX 2 3 0
  { t with now := 1000000000000000, ref := { t.ref with mcs := [(3, x)], slots := [(2, { q := .qualified })] } }

theorem hyp_LoopEvents :
    calm (clockIn {}) = true ∧ (wtrOf (clockIn { state := .locked, sel := some 7 }) 3).isSome = true ∧
      held (clockIn {}) 3 = false ∧
      fb (clockIn {}) .MC_CTRL_SW 3 = false ∧
      0 + 1000000000 * ff (clockIn { state := .acquiring, inWinFrom := some 0 }) .MC_LOCK_LOCK_TIME 3 ≤ (clockIn {}).now ∧
      (clockIn {}).now < (clockIn {}).now + 1000000000 * ff (clockIn {}) .MC_LOCK_LOCK_TIME 3 := by
  decide +kernel

theorem hyp_LoopEvents_limit :
    let s := clockIn { state := .holdover, stepEnd := some 5 }
    (mcOf s 3).state = .holdover ∧ (mcOf s 3).hoFrom + ff s .MC_HO_HO_MAX 3 * 60000000000 ≤ s.now ∧
      (mcOf s 3).stepEnd = some 5 := by decide +kernel

theorem hyp_LoopEvents_alone :
    let s := clockIn { state := .holdover, stepEnd := some 5, stepN := -3 }
    mcMirrors s = false ∧ calm s = true ∧ (mcOf s 3).stepEnd = some 5 ∧ (mcOf s 3).stepN = -3 := by decide +kernel

/-! ### SynthesizersHandOver -/

/-- Synthesizers in these states, 100 s after reset. -/
def synths (t : Tbl Sy) : State := { up with now := 100000000000, syn := { up.syn with sy := t } }

theorem hyp_SynthesizersHandOver_spare :
    let s := synths [(3, { state := .coast, mc := 3, lostAt := 99980000000 }), (4, { state := .failed })]
    calm s = true ∧ held s 4 = false ∧ (syOf s (serves s 3)).state = .coast ∧ (syOf s (serves s 3)).mc = 3 ∧
      (syOf s (serves s 3)).lostAt + 20000000 ≤ s.now ∧ spareFree s = false ∧ handingOver s 3 = false := by decide

theorem hyp_SynthesizersHandOver_start :
    let s := synths [(3, { state := .coast, mc := 3, lostAt := 99980000000 })]
    calm s = true ∧ handoverFor s = some 3 ∧ spareFree s = true := by decide

theorem hyp_SynthesizersHandOver_switch :
    let s := synths [(3, { state := .coast, mc := 3, tryAt := some 0, noSpare := true }), (4, { state := .handover, mc := 3 })]
    calm s = true ∧ (syOf s (spareOf s)).state = .handover ∧
      (syOf s (serves s (syOf s (spareOf s)).mc)).state = .coast ∧ (syOf s 3).tryAt = some 0 ∧ (syOf s 3).atEdge = false := by decide

theorem hyp_SynthesizersHandOver_test :
    let s := synths [(4, { state := .test, fails := 1 })]
    calm s = true ∧ (syOf s 4).state = .test ∧ (syOf s 4).fails < 2 := by decide

/-- Errors with which lock is lost, and with which it is found again; a frequency within 1 ppm and one beyond it. -/
theorem hyp_SynthesizersHandOver_errors :
    let s := synths [(3, { state := .live, mc := 3 })]
    let far : Int := 16 * (fv s .SYN_LOL_LOL_WIN : Nat) + 1
    calm s = true ∧ (syOf s 3).state = .live ∧ (∀ e ∈ ([far, far, far, far] : List Int).reverse.take 4, 16 * fv s .SYN_LOL_LOL_WIN < e.natAbs) ∧
      ¬ (∀ e ∈ ([far, 0, far, far] : List Int).reverse.take 4, 16 * fv s .SYN_LOL_LOL_WIN < e.natAbs) ∧
      fv s .SYN_LOCK_LOCK_N ≤ (List.replicate 4096 (0 : Int)).length ∧
      (∀ e ∈ (List.replicate 16 (0 : Int)), e.natAbs ≤ 16 * fv s .SYN_LOCK_LOCK_WIN) ∧
      ¬ fv s .SYN_LOCK_LOCK_N ≤ ([] : List Int).length ∧ (1000 : Int).natAbs ≤ 1000 ∧ ¬ (-1001 : Int).natAbs ≤ 1000 := by
  decide +kernel

/-! ### ClockRegistersAct -/

/-- Media clock 3 is under software control, its pulse output 3 runs and is to be realigned. -/
def clocked : State :=
  let t := setFd (setFd (setFd up .MC_CTRL_SW 1 3) .PLS_CFG_EN 1 3) .PLS_CFG_MC 3 3
  { t with
    now := 5000000000, ref := { t.ref with mcs := [(3, {})] }
    syn := { t.syn with pls := [(3, { measured := true, aligned := true, due := true, err := 7, lastEnd := some 4999990000 })] } }

theorem hyp_ClockRegistersAct_writes :
    calm clocked = true ∧ held clocked 2 = false ∧ (tbOf clocked 3).state ≠ .mirrored ∧
      Accepted clocked .MC_SW_FREQ_LO 3 0 1 ∧ Accepted clocked .MC_CTRL 3 0 (kept .MC_CTRL 0x80000000) ∧
      Accepted clocked .PLS_OFS 3 0 5 ∧ Accepted clocked .MCK_CFG 3 0 0 := by decide +kernel

theorem hyp_ClockRegistersAct_more :
    Accepted clocked .TB_CTRL 3 0 (word ((rd clocked .TB_CTRL 3).toNat + 2 ^ 31)) ∧
      Accepted clocked .PLS_CFG 3 0 (word ((rd clocked .PLS_CFG 3).toNat - 2 ^ 31)) ∧
      fb clocked .PLS_CFG_EN 3 = true ∧ (plsOf clocked 3).due = true ∧
      (mcOf clocked (fv clocked .PLS_CFG_MC 3)).switching = false ∧
      Accepted clocked .MCK_CFG 3 0 (word ((rd clocked .MCK_CFG 3).toNat + 2 ^ 31)) := by decide +kernel

/-- SW cleared: on a standby, with the block held, when lock is due, with a row of Table 10-4 that fits, with a reversion
that waits, and with none of these. -/
theorem hyp_ClockRegistersAct_off :
    let off (s : State) : State := wrWindow (noted s .MC_CTRL 3 0) .MC_CTRL (kept .MC_CTRL 0x80000000) 3
    let clk (x : Mc) : State := { clocked with ref := { clocked.ref with mcs := [(3, x)] } }
    fb clocked .MC_CTRL_SW 3 = true ∧ bit (kept .MC_CTRL 0x80000000) 30 = false ∧ mcMirrors clocked = false ∧
      held clocked 3 = false ∧ mcMirrors { clocked with pr := { clocked.pr with state := .standby } } = true ∧
      held { clocked with saf := { clocked.saf with safe := 8 } } 3 = true ∧
      lockDue (off (clk { state := .acquiring, inWinFrom := some 0 })) 3 = true ∧
      lockDue (off clocked) 3 = false ∧ mcRow (off clocked) 3 = none ∧ wtrOf (off clocked) 3 = none ∧
      (mcRow (off (clk { state := .acquiring })) 3).isSome = true ∧
      holdoverOver (off (clk { state := .holdover, est := 1 })) 3 = false ∧
      holdoverOver (off (clk { state := .holdover, est := 10 ^ 17 })) 3 = true := by decide +kernel

theorem hyp_ClockRegistersAct_reverts :
    let s := clockIn { state := .locked, sel := some 0 }
    let t := wr (setFd (setFd (setFd s .MC_CTRL_SW 1 3) .MC_TBL_KIND 1 3 1) .MC_TBL_INDEX 2 3 1) .MC_CTRL (rd (clockIn {}) .MC_CTRL 3) 3
    let u := { setMc t 3 { state := .locked, sel := some 1 } with ref := { (setMc t 3 { state := .locked, sel := some 1 }).ref with
      slots := [(2, { q := .qualified })] } }
    mcRow u 3 = none ∧ (wtrOf u 3).isSome = true := by decide +kernel

/-- Output 3 follows a pin, and a time base whose whole second has just begun; its next pulse is due, and it is not. -/
theorem hyp_ClockRegistersAct_pulses :
    let due := mcTime clocked (fv clocked .PLS_CFG_MC 3)
    let pin := setFd clocked .PLS_CFG_SRCKIND 0 3
    let late : State := { clocked with syn := { clocked.syn with pls := [(3, { measured := true, nextAt := due + 1 })] } }
    calm clocked = true ∧ fv clocked .PLS_CFG_SRCKIND 3 ≠ 0 ∧ fb clocked .PLS_CFG_EN 3 = true ∧ calm pin = true ∧
      fv pin .PLS_CFG_SRCKIND 3 = 0 ∧ (plsOf clocked 3).aligned = true ∧ (plsOf late 3).aligned = false ∧
      (plsOf clocked 3).nextAt - (plsOf clocked 3).err ≤ due ∧ due < (plsOf late 3).nextAt ∧ fb up .PLS_CFG_EN 3 = false := by
  decide +kernel

/-! ### DebouncedEdgesTimed -/

theorem hyp_DebouncedEdgesTimed :
    let s := { setFd (setFd up .GP_CFG_EDGE 3 31) .GP_CFG_DEB 50 31 with
      now := 50000000, cio := { up.cio with pins := [(31, { raw := true })] } }
    calm s = true ∧ (pinOf s 31).rawAt + 1000000 * fv s .GP_CFG_DEB 31 ≤ s.now ∧ (pinOf s 31).deb ≠ (pinOf s 31).raw ∧
      fv up .GP_CFG_DEB 0 = 0 ∧ (pinOf up 0).raw ≠ true := by decide

/-! ### OutputsAndSchedule -/

/-- Control output 7 is enabled and ON, the gate is open; entry 0 (EVENT, far ahead) is staged. -/
def controls : State :=
  let t := setFd (setFd (setFd up .CO_CFG_EN 1 7) .SE_W0_ACTION 4) .SE_W3_SEC_LO 9
  { t with
    glb := { t.glb with gate := true }, now := 2000000
    cio := { t.cio with cos := [(7, { state := .on })], pulses := [(31, 5)] } }

theorem hyp_OutputsAndSchedule :
    calm controls = true ∧ Accepted controls .GP_OUT 0 0 0xFFFFFFFF ∧ Accepted controls .CO_CFG 7 0 0 ∧
      fb controls .CO_CFG_EN 7 = true ∧ pinsOff controls = false ∧ (coOf controls 7).state = .on ∧
      Accepted controls .CIO_CMD 0 0 4 ∧ seAction controls 0 = 4 ∧ seNear controls 0 = false ∧
      held controls 11 = false ∧ Tbl.get? controls.cio.pulses 31 = some 5 ∧ Tbl.get? controls.cio.pulses 30 = none ∧
      held { controls with saf := { controls.saf with safe := 2 ^ 11 } } 11 = true ∧
      (coOf controls 7).setAt + 10000 ≤ controls.now ∧ (false ≠ ((coOf controls 7).state == .on)) ∧
      fb controls .CO_CFG_EN 0 = false := by decide +kernel

/-- Entry 0 (EVENT) is past and may run late; entry 5 (COMMIT) names set 3, which the register path opened and filled. -/
theorem hyp_OutputsAndSchedule_write :
    let near := setFd (setFd controls .SE_W3_SEC_LO 0) .SE_W0_LATE_OK 1
    let t := setFd (setFd (setFd (setFd controls .SE_W0_ACTION 1 5) .SE_W3_SEC_LO 9 5) .SE_W1_SET 3 5) .CIO_CMD_ARG_INDEX 5
    let commit := { t with mix := setOpened.mix }
    Accepted near .CIO_CMD 0 0 4 ∧ seAction near 0 ≠ 1 ∧ seNear near 0 = true ∧
      Accepted commit .CIO_CMD 0 0 4 ∧ fv commit .CIO_CMD_ARG_INDEX = 5 ∧ seAction commit 5 = 1 ∧
      Accepted (setSe commit 5 { state := .armed }) .CIO_CMD 0 0 8 ∧ seAction (setSe commit 5 { state := .armed }) 5 = 1 := by
  decide +kernel

theorem hyp_OutputsAndSchedule_del :
    Accepted (setSe controls 0 { state := .armed }) .CIO_CMD 0 0 8 ∧ seAction (setSe controls 0 { state := .armed }) 0 ≠ 1 := by
  decide +kernel

/-! ### ItemsProduced -/

/-- Spool 7 is the host's at both ends, with one committed item and one open; spool 9 is the mailbox's. -/
def spooled : State :=
  let t := setFd (setFd (setFd (setFd (setFd (setFd up .SP_W0_EN 1 7) .SP_W0_HOST_P 1 7) .SP_W0_HOST_C 1 7) .SP_W0_REPLAY 1 7) .SP_W0_EN 1 9) .HOST_OUT_SPOOL 9
  setSp (setFd t .HOST_OUT_EN 1) 7 { items := [{ tag := 3, tb := 0, src := 7, tack := 5, seq := 1, len := 4, words := [9], poison := [] }], seq := 1, mark := some 1, openItem := some { tag := 1, tack := 2, words := [8] } }

theorem hyp_ItemsProduced :
    let e := setSp spooled 7 {}
    calm spooled = true ∧ windowsOpen spooled = true ∧ hostProd spooled 7 = true ∧ (spOf spooled 7).openItem.isSome = true ∧
      (makeRoom spooled 7 (spOf spooled 7) 0).isSome = true ∧ (makeRoom e 7 (spOf e 7) 1).isSome = true ∧
      internalProd spooled 9 = true ∧ internalProd spooled 7 = false ∧ (makeRoom spooled 9 (spOf spooled 9) 5).isSome = true ∧
      (makeRoom (setFd spooled .SP_W1_QUOTA 1 9) 9 (spOf spooled 9) 5).isNone = true ∧
      (makeRoom (setFd (setFd spooled .SP_W0_REPLAY 0 7) .SP_W1_QUOTA 1 7) 7 (spOf spooled 7) 9).isNone = true ∧
      ({ tag := 1, tack := 2, words := [8], cut := true } : OpenItem).cut = true := by decide

/-! ### ItemsConsumed -/

theorem hyp_ItemsConsumed :
    calm spooled = true ∧ windowsOpen spooled = true ∧ hostCons spooled 7 = true ∧ (spOf spooled 7).head.isSome = true ∧
      ((spOf spooled 7).head.map fun i => i.total - (spOf spooled 7).pos) = some 5 ∧
      ((spOf spooled 7).items.findIdx? fun i => i.seq == 1) = some 0 ∧ (spOf spooled 7).mark = some 1 ∧
      stalls spooled 7 0 = false ∧ stalls spooled 8 0x800 = true ∧ fv spooled .SPL_STALL_STALL ≠ 0 ∧
      fv (setFd spooled .SPL_STALL_STALL 0) .SPL_STALL_STALL = 0 := by decide +kernel

/-! ### SpoolControl -/

theorem hyp_SpoolControl :
    let t := setFd spooled .SPL_CMD_ARG_INDEX 7
    calm t = true ∧ Accepted t .SPL_CMD 0 0 1 ∧ Accepted t .SP_W0 7 0 (word ((rd t .SP_W0 7).toNat - 2 ^ 31)) ∧
      bit (kept .SP_W0 (word ((rd t .SP_W0 7).toNat - 2 ^ 31))) 31 = false ∧ fb t .SP_W0_EN 7 = true ∧
      Accepted t .SP_W0 8 0 0x80000000 ∧ fb t .SP_W0_EN 8 = false ∧ held t 12 = false ∧
      (spOf (setSp t 5 { resetting := true }) 5).resetting = true := by decide +kernel

/-! ### EventsModerated -/

/-- Source 5 of the global block has an edge waiting, source 70 is enabled and holds in group 1; object source 1800 has a
hit; groups 2 and 28 stand open. -/
def sensing : State :=
  let t := wr (wr up .EV_CFG (word 0x81000000) 5) .EV_OCFG (word 0x81000000) 8
  { t with
    now := 400000
    evt := { t.evt with
      edges := [(5, true)], hits := [1800], srcs := [(70, { state := .held })]
      grps := [(1, { from_ := some 0, time := 100, cnt := 4, count := 1 }), (2, { from_ := some 350000, time := 100, cnt := 4, count := 1 }),
        (28, { from_ := some 0, time := 9 })] } }

theorem hyp_EventsModerated :
    calm sensing = true ∧ 1800 ∈ sensing.evt.hits ∧ takeEdge sensing.evt.edges 5 = (some true, []) ∧
      takeEdge sensing.evt.edges 6 = (none, [(5, true)]) ∧ evSense sensing 5 = 1 ∧ asleep sensing (evTarget sensing 5) = false ∧
      (evGrp sensing 0).from_ = none ∧ sensing.evt.srcs.wf = true ∧ heldIn sensing 1 = [70] ∧
      intervalOver sensing 1 = true ∧ intervalOver sensing 2 = false ∧ intervalOver sensing 28 = true ∧
      (evGrp sensing 29).from_ = none ∧
      asleep { sensing with evt := { sensing.evt with reachedL0 := true } } 0 = true := by decide

/-- Interval 1 has run out with source 70 HELD in it, interval 2 has not with source 140; both edge and release may be
due. -/
theorem hyp_EventsModerated_again :
    let s := { sensing with evt := { sensing.evt with srcs := [(70, { state := .held }), (140, { state := .held })] } }
    let due := { sensing with evt := { sensing.evt with grps := [(1, { from_ := some 0, time := 100, cnt := 1, count := 1, due := true })] } }
    calm s = true ∧ 70 / 64 < 28 ∧ (evSrc s 70).state = .held ∧ (evGrp s 1).from_ = some 0 ∧ 0 + 1000 * (evGrp s 1).time ≤ s.now ∧
      (evSrc s 140).state = .held ∧ (evGrp s 2).from_ = some 350000 ∧ s.now < 350000 + 1000 * (evGrp s 2).time ∧
      asleep s (evTarget s 70) = false ∧ asleep s (evTarget s 140) = false ∧ asleep s (evTarget s 1800) = false ∧ 28 ≤ 1800 / 64 ∧
      (releaseDue sensing).evt.grps = sensing.evt.grps ∧ calm due = true ∧ ((due.evt.grps.map fun e => e.2.due) = [true]) ∧
      (evGrp (releaseDue sensing) 28).from_ = some 0 ∧ 0 + 1000 * (evGrp (releaseDue sensing) 28).time ≤ sensing.now := by
  decide +kernel

/-! ### StackFaults -/

/-- Target 3 serves source 64 with vector 9 and then source 65 with vector 10; its fault message may be sent. -/
def serving : State :=
  { up with evt := { up.evt with
      reachedL0 := true, link := .l0, msixEn := true
      srcs := [(64, { state := .inService }), (65, { state := .inService, again := true })]
      tgts := [(3, { stack := [⟨10, 2, 65⟩, ⟨9, 5, 64⟩], faultDue := true })] } }

theorem hyp_StackFaults :
    let t := setFd serving .MSIX_CTRL_MASK 0 63
    calm t = true ∧ Accepted t .TGT_EOI 3 0 0x80000009 ∧ (evTgt t 3).stack = [⟨10, 2, 65⟩, ⟨9, 5, 64⟩] ∧ (evTgt t 3).faultDue = true ∧
      tgtFree t 3 = true ∧ vecFree t (fv t .TGT_CTRL_FAULT_VEC 3) = true ∧ tgtFree (setFd t .TGT_CTRL_GDIS 1 3) 3 = false := by
  decide

/-! ### DeliveryAndEoi -/

theorem hyp_DeliveryAndEoi :
    let t := wr (wr (setFd serving .MSIX_CTRL_MASK 0 0) .EV_CFG (word 0x80010000) 2) .EV_CFG (word 0x80010000) 5
    let u := { t with evt := { t.evt with
      srcs := [(2, { state := .queued }), (5, { state := .queued })]
      tgts := [(0, { stack := [⟨10, 2, 65⟩] })] } }
    calm u = true ∧ (evTgt u 0).faultDue = false ∧ u.evt.srcs.wf = true ∧ evTarget u 2 = 0 ∧ evPrio u 5 = 1 ∧ tgtFree u 0 = true ∧
      vecFree u (evVec u 2) = true ∧ pickSrc u 0 = some 2 ∧ Accepted u .TGT_EOI 0 0 0x8000000A ∧
      Accepted u .TGT_EOI 1 0 0x80000000 ∧ (evTgt u 1).stack = [] ∧ Accepted u .TGT_EOI 7 0 3 := by decide

/-! ### EventControls -/

theorem hyp_EventControls :
    let t := { setFd serving .EVT_CMD_ARG_INDEX 66 with evt := { serving.evt with
      srcs := [(3, { state := .queued }), (66, { state := .latched }), (1800, { state := .held })] } }
    calm t = true ∧ t.rf.regs.wf = true ∧ Accepted t .EVT_CMD 0 0 2 ∧ Accepted t .EVT_CMD 0 0 1 ∧
      Accepted t .EV_CFG 66 0 0x81000000 ∧ Accepted t .EV_OCFG 8 0 0x81000000 ∧ Accepted t .TGT_CTRL 7 0 1 ∧
      anyWaking (setFd (wr t .EV_CFG (word 0x81000000) 3) .TGT_CTRL_SLEEP 1 0) = true := by decide

/-! ### SessionCommandsAnswered -/

/-- Session 0 of a tailor on port 0 is open; set 0 of the session holds one record, hem 4 is muted, output 2 is held, time
base 1 holds a jump, VOX 3 is enabled, and an image of 64 bytes has arrived in full. -/
def client : Client := { port := 0, mac := 1, ip := 9, udp := 5, vid := 1, dport := 47810, dip := 0x0A000001 }
def spoken : State :=
  let t := wr (setFd up .SES_CFG_PORTS 1) .SES_IP4 (word 0x0A000001)
  let t := wr (wr t .SE_W0 (word 4) 3) .SE_W3 (word 9) 3
  { t with
    dyn := { t.dyn with hems := [(4, { muted := true })], vox := [(3, { enabled := true })] }
    cio := { t.cio with cos := [(2, { state := .held })] }
    tb := { t.tb with tbs := [(1, { tbOf t 1 with state := .jumpHeld, jumpGen := 3 })] }
    mix := { t.mix with sets := [(0, { state := .open, owner := some (.session 0), recs := [⟨0x01000000, 0x50000, 0, 0⟩] })] }
    ses := { t.ses with ses := [(0, { id := 7, role := 2, client := client, idle := 60, lastReq := 0 })] }
    pl := { t.pl with xfer := some { owner := 0, len := 64, got := 64 } } }

/-- Session 0 executes a request. -/
def executing (op : Nat) (body : List Byte) : State :=
  putSes spoken 0 { id := 7, role := 2, client := client, idle := 60, lastReq := 0, high := 1, busy := some ⟨1, op, body, 0, 0⟩ }

/-- A request of session 0 passes what every command is asked. -/
def asked (op : Nat) (body : List Byte) : Bool :=
  firstCode (opFails (executing op body) 0 ⟨1, op, body, 0, 0⟩) == .ok && decide (body.length ≤ 1400)

theorem hyp_SessionCommandsAnswered :
    still spoken = true ∧ sesServed spoken = true ∧ reaches spoken client = true ∧ hasStandby spoken = false ∧
      (spoken.ses.ses.find? (fun e => e.2.id == 7)).isSome = true ∧ sameClient client client = true ∧
      (1 + 2 ^ 32 - 0) % 2 ^ 32 = 1 ∧ asked 0x00 [] = true ∧ asked 0x60 [] = true ∧ asked 0x43 [] = true ∧ asked 0x42 [] = true ∧
      asked 0x01 [0, 0, 0, 0, 1, 0, 0, 0] = true ∧ asked 0x02 (leBytes 4 (addr .SPL_STALL) ++ leBytes 4 5) = true ∧
      asked 0x50 [0x80, 0x64, 0x56, 0x53] = true ∧ asked 0x51 [0x80, 0x64, 0x56, 0x53] = true ∧ asked 0x00 [1] = false ∧
      opLength 0x00 [1] = false ∧ opLength 0x02 [] = false ∧ opLength 0x02 (leBytes 8 2) = true ∧
      addrBad (leAt (leBytes 8 2) 0 4) 1 = true ∧ opLength 0x01 (leBytes 4 0x3FFFFC ++ leBytes 4 2) = true ∧
      addrBad 0x3FFFFC 2 = true ∧ addrBad 0x3FFFFC 1 = false := by
  decide +kernel

/-- No other session has a ready command. -/
theorem hyp_SessionCommandsAnswered_alone : readyCommands spoken = [] := by decide +kernel

/-- A CFG_RESET in BARE, of a client that uses the link-local address. -/
theorem hyp_SessionCommandsAnswered_bare :
    let c : Client := { client with v6 := true, dip := linkLocal }
    let x : Ses := { id := 7, role := 2, client := c, idle := 60, lastReq := 0 }
    let s : State := { spoken with glb := { spoken.glb with mode := .bare }, ses := { spoken.ses with ses := [(0, x)] } }
    let q : Request := ⟨1, 0x50, [0x80, 0x64, 0x56, 0x53], 0, 0⟩
    (still s = true ∧ sesServed s = true ∧ hasStandby s = false ∧ s.glb.mode = .bare ∧ s.pl.cfgRun = false ∧
      firstCode (opFails (putSes s 0 { x with high := 1, busy := some q }) 0 q) = .ok) ∧ reaches s c = true := by
  refine ⟨by decide +kernel, ?_⟩
  simp [reaches, sesPort, sesVid, sesUdp, localIp, linkLocal_ne_zero, client]

theorem hyp_SessionCommandsAnswered_write :
    let t := executing 0x02 []
    writeCode .firyn t (addr .SPL_STALL) 5 = .ok ∧ still (carryOut .firyn t (addr .SPL_STALL) 5 .ok) = true ∧
      sesOf (carryOut .firyn t (addr .SPL_STALL) 5 .ok) 0 = sesOf t 0 := by decide +kernel

theorem hyp_SessionCommandsAnswered_sets :
    let r : Rec := ⟨0x01000000, 0x50000, 0, 0⟩
    asked 0x10 [1, 0, 0, 0] = true ∧ firstCode (bsOpenFails spoken 1) = .ok ∧
      asked 0x11 ([0, 1, 0, 0] ++ [0, 0, 0, 1, 0, 0, 5, 0, 0, 0, 0, 0, 0, 0, 0, 0]) = true ∧ r.ok = true ∧
      firstCode (bsAddFails spoken 0 (.session 0) [r]) = .ok ∧ asked 0x12 [0, 0, 0, 0] = true ∧
      firstCode (bsCommitFails spoken 0 (.session 0)) = .ok ∧ asked 0x13 [0, 0, 0, 0] = true ∧
      firstCode (bsOwned spoken 0 (.session 0)) = .ok ∧ asked 0x14 [0, 0, 0, 1, 0, 0, 5, 0, 0, 0, 0, 0, 0, 0, 0, 0] = true ∧
      ((List.range 8).find? fun b => (setOf spoken b).state == .free) = some 1 := by decide +kernel

theorem hyp_SessionCommandsAnswered_entries :
    let body := leBytes 4 3 ++ leBytes 4 4 ++ leBytes 8 0 ++ leBytes 4 9 ++ leBytes 4 0
    let q : Request := ⟨1, 0x15, body, 0, 0⟩
    let t := seWriteWords (executing 0x15 body) 3 (seWords q)
    asked 0x15 body = true ∧ (seWords q).any (fun w => outOfRange w.1 w.2) = false ∧
      firstCode (seWordFails (executing 0x15 body) 3 ++ seWriteFails t 3) = .ok ∧ seAction t 3 = 4 ∧ seNear t 3 = false ∧
      asked 0x16 [3, 0, 0, 0] = true ∧ firstCode (seDelFails (setSe t 3 { state := .armed }) 3) = .ok := by decide +kernel

theorem hyp_SessionCommandsAnswered_commit :
    let body := leBytes 4 3 ++ leBytes 4 1 ++ leBytes 8 0 ++ leBytes 4 9 ++ leBytes 4 0
    let q : Request := ⟨1, 0x15, body, 0, 0⟩
    let t := seWriteWords (executing 0x15 body) 3 (seWords q)
    firstCode (seWordFails (executing 0x15 body) 3 ++ seWriteFails t 3 ++ bsOwned spoken (seSet t 3) (.session 0)) = .ok ∧
      seAction t 3 = 1 := by decide +kernel

theorem hyp_SessionCommandsAnswered_objects :
    asked 0x17 [3, 1, 0, 0, 3, 0, 0, 0] = true ∧ firstCode (disFails (executing 0x17 []) .vox 3) = .ok ∧
      asked 0x17 [3, 0, 0, 0, 4, 0, 0, 0] = true ∧ objKindOf 3 = some .vox ∧ asked 0x18 [0, 0, 4, 0] = true ∧
      (hemOf spoken 4).muted = true ∧ (coOf spoken 2).state = .held ∧ asked 0x20 [0, 0, 128, 0] = true ∧
      asked 0x21 [0, 0, 0, 8, 1, 0, 0, 0] = true ∧ asked 0x30 [1, 3, 0, 0] = true ∧ (tbOf spoken 1).state = .jumpHeld ∧
      (tbOf spoken 1).committed = none ∧ (tbOf spoken 1).jumpGen = 3 ∧ spoken.mix.audioOn = true ∧
      asked 0x40 [64, 0, 0, 0] = true ∧ ownsXfer spoken 0 = true ∧ imageOf spoken (inactive spoken == 1) ≠ .unreadable ∧ spoken.pl.rescan = false ∧ spoken.pl.cfgRun = false ∧
      asked 0x41 [0, 0, 0, 0, 1, 2, 3, 4] = true ∧ held spoken 17 = false ∧ spoken.glb.mode ≠ .bare := by decide +kernel

/-! ### SessionsOpenAndClose -/

/-- A challenge of a tailor waits in the module of `spoken`, which receives no image and stores a key for tailors. -/
def quietSpoken : State := { wr spoken .SES_KEYS (word 64) with pl := up.pl, ses := { spoken.ses with keys := [(2, [])] } }
def challenged (role : Nat) : State :=
  { quietSpoken with ses := { quietSpoken.ses with chals := [{ id := 8, client := client, role := role, idle := 0, cnonce := [], dnonce := [], at_ := 0 }] } }

theorem hyp_SessionsOpenAndClose :
    calm quietSpoken = true ∧ sesServed quietSpoken = true ∧ reaches quietSpoken client = true ∧ client.mbox = false ∧ held quietSpoken 14 = false ∧
      quietSpoken.ses.blocked = [] ∧ quietSpoken.ses.ses.length ≤ 16 ∧ quietSpoken.ses.chals.length ≤ 4 ∧ Accepted quietSpoken .SES_CMD 0 0 1 ∧
      sesOf spoken 0 = some { id := 7, role := 2, client := client, idle := 60, lastReq := 0 } ∧ spoken.ses.ses.wf = true ∧
      spoken.rf.regs.wf = true ∧ spoken.mix.sets.wf = true ∧ ownsXfer spoken 0 = true ∧ (setOf spoken 0).owner = some (.session 0) := by
  decide +kernel

/-- No challenge 9 waits; 7 is an open session's number; a HELLO has 32 bytes and a PROOF 16. -/
theorem hyp_SessionsOpenAndClose_lengths :
    let s := challenged 2
    s.ses.chals.find? (fun ch => ch.id == 9) = none ∧ idUsed s 9 = false ∧ s.ses.chals.find? (fun ch => ch.id == 7) = none ∧
      idUsed s 7 = true ∧ (s.ses.chals.find? (fun ch => ch.id == 8)).isSome = true ∧ ([] : List Byte).length ≠ 32 ∧
      ([] : List Byte).length ≠ 16 := by decide +kernel

theorem hyp_SessionsOpenAndClose_net (j : Fin 4) :
    Accepted quietSpoken .SES_NET 0 0 (rd quietSpoken .SES_NET) ∧ Accepted quietSpoken .SES_CFG 0 0 (rd quietSpoken .SES_CFG) ∧
      Accepted quietSpoken .SES_IP4 0 0 (word 5) ∧ Accepted quietSpoken .SES_IP6 j 0 (word 5) ∧ Accepted quietSpoken .SES_MBOX 0 0 0 ∧ bit (kept .SES_MBOX 0) 31 = false := by
  revert j; decide +kernel

theorem hyp_SessionsOpenAndClose_messages :
    let head : Nat → List Byte := fun k => [0x46, 0x59, 1] ++ leBytes 1 k ++ leBytes 4 8 ++ leBytes 4 0 ++ leBytes 2 0 ++ [0, 0]
    (head 1).take 3 = [0x46, 0x59, 1] ∧ 16 ≤ (head 1).length ∧ leAt (head 1) 12 2 = ((head 1).drop 16).length ∧ leAt (head 1) 3 1 = 1 ∧
      leAt (head 3) 3 1 = 3 ∧ leAt (head 2) 3 1 = 2 ∧ leAt (head 2) 12 2 = ((head 2).drop 16).length ∧ ([0x46] : List Byte).take 3 ≠ [0x46, 0x59, 1] := by
  decide +kernel

theorem hyp_SessionsOpenAndClose_right :
    let s := challenged 2
    let u := s.setSes fun y => { y with chals := y.chals.filter fun x => x.id != 8 }
    let ch : Chal := { id := 8, client := client, role := 2, idle := 0, cnonce := [], dnonce := [], at_ := 0 }
    let mac := firynMac ((roleKey u 2).getD []) 0x31#8 [] [] 8 2 0
    calm s = true ∧ s.ses.chals.find? (fun ch => ch.id == 8) = some ch ∧ ch.id = 8 ∧ firstCode (proofFails u ch mac) = .ok := by
  intro s u ch mac
  refine ⟨by decide +kernel, by decide +kernel, rfl, ?_⟩
  have h : (firynMac ((roleKey u 2).getD []) 0x31#8 [] [] 8 2 0 != mac) = false := bne_self_eq_false _
  have k : ∀ b : Bool, b = false → firstCode [(.badValue, decide (2 < 2) || ((0 : Nat) != 0 && (decide (0 < 10) || decide (3600 < 0)))),
      (.notFound, (roleKey u 2).isNone), (.noCapacity, (Tbl.freeFrom u.ses.ses 16 0).isNone), (.integrity, b)] = .ok := by
    intro b hb
    subst hb
    decide +kernel
  exact k _ h

theorem hyp_SessionsOpenAndClose_wrong :
    let u := challenged 2
    let ch : Chal := { id := 8, client := client, role := 2, idle := 0, cnonce := [], dnonce := [], at_ := 0 }
    (∀ mac, (firynMac ((roleKey u 2).getD []) 0x31#8 [] [] 8 2 0 != mac) = true → firstCode (proofFails u ch mac) = .integrity) ∧
      ∀ mac, firstCode (proofFails u { ch with role := 3 } mac) = .badValue := by
  intro u ch
  refine ⟨fun mac h => ?_, fun mac => ?_⟩
  rotate_left
  · have k : ∀ b : Bool, firstCode [(.badValue, decide (2 < 3) || ((0 : Nat) != 0 && (decide (0 < 10) || decide (3600 < 0)))),
        (.notFound, (roleKey u 3).isNone), (.noCapacity, (Tbl.freeFrom u.ses.ses 16 0).isNone), (.integrity, b)] = .badValue := by
      intro b
      cases b <;> decide +kernel
    exact k _
  have k : ∀ b : Bool, b = true → firstCode [(.badValue, decide (2 < 2) || ((0 : Nat) != 0 && (decide (0 < 10) || decide (3600 < 0)))),
      (.notFound, (roleKey u 2).isNone), (.noCapacity, (Tbl.freeFrom u.ses.ses 16 0).isNone), (.integrity, b)] = .integrity := by
    intro b hb
    subst hb
    decide +kernel
  exact k _ h

/-! ### RegisterWrites -/

/-- A register of each block named in the statement. -/
def someRegs : List Reg := [.FAB_VHOLD, .TB_DS, .MC_OFS, .SYN_LOCK, .CG_ACC, .SW_CFG, .RX_W4, .MIX_RAMP_DEF, .DYN_CMD_ARG, .SM_W0,
  .CR_W6, .SPL_CMD_ARG, .ATT_CG, .MSIX_CTRL, .SES_CMD_ARG]

def posting : State := { up with rf := { up.rf with posted := [(0, addr .SAF_CFG, 5)] } }
def passiveUp : State := up.setGlb fun g => { g with passive := true }

theorem hyp_RegisterWrites :
    calm up = true ∧ up.rf.regs.wf = true ∧ writeCode .pcie up 2 0 ≠ .ok ∧ up.rf.parityBad.contains 2 = false ∧
      windowField (0 % 4096) = false ∧ calm passiveUp = true ∧ windowField (0xFFF014 % 4096) = true ∧ passiveUp.glb.passive = true ∧
      (someRegs.all fun r => decide (Accepted up r ((desc r).n1 - 1) ((desc r).n2 - 1) (word (desc r).reset))) = true ∧
      ([.MIX_RAMP_DEF, .MIX_KEY_RAMP, .HOST_IN, .HOST_OUT].all fun r => decide (Accepted up r 0 0 (word (desc r).reset))) = true ∧
      Accepted up .GLB_EVENT 0 0 7 ∧ (evtGroup .GLB_EVENT).isSome = true ∧ Accepted up .EVT_EVENT 0 0 0x100 ∧
      Accepted up .SAF_CFG 0 0 (rd up .SAF_CFG) ∧ calm posting = true ∧ findReg (addr .SAF_CFG) = some (.SAF_CFG, 0, 0) := by
  decide +kernel

/-- Writes of words in force at a boundary, a rule's EN, bytes of a register whose parity is wrong, and registers wrong
still. -/
theorem hyp_RegisterWrites_more :
    let bad := { up with rf := { up.rf with parityBad := [addr .FAB_VHOLD] } }
    Accepted up .SM_W0 511 0 (word (desc .SM_W0).reset) ∧ Accepted up .CR_W0 0 0 1 ∧ Accepted up .CR_W0 0 0 0x80000001 ∧
      bit 0x80000001 31 = true ∧ bit 1 31 = false ∧ up.rf.parityBad.contains (addr .FAB_VHOLD) = false ∧
      calm bad = true ∧ bad.rf.regs.wf = true ∧ bad.rf.parityBad.contains (addr .FAB_VHOLD) = true ∧ bad.rf.parityBad ≠ [] ∧
      (∀ off ∈ [addr .FAB_VHOLD], bad.rf.parityBad.contains off = true ∨ findReg off = none) := by decide +kernel

/-! ### WitnessDecides -/

/-- A witness in service, with heartbeats of both units 5.9 µs old; unit A is granted. -/
def witnessUp (st : WitState) (a b : Option Heartbeat) : State :=
  { up with
    now := 1000000
    glb := { up.glb with straps := 3 }
    wit := { state := st, hbA := a.map fun h => (h, 994000), hbB := b.map fun h => (h, 994000), expect := some 994000
             lineA := st == .actA, lineB := st == .actB } }
def hbFrom (unit role : Nat) (healthy claim : Bool) : Heartbeat :=
  { unit := unit, role := role, healthy := healthy, synced := true, claim := claim, yielding := false, stitch := 5, outcrc := 9 }

theorem hyp_WitnessDecides :
    let s := witnessUp .actA (some (hbFrom 0 1 false false)) (some (hbFrom 1 2 true false))
    calm s = true ∧ witnessOn s = true ∧ witnessOn up = false ∧ calm up = true ∧
      (validHb s.wit (expectedStart s s.wit) false).isSome = true ∧ (validHb s.wit (expectedStart s s.wit) true).isSome = true ∧
      (witnessUp .none none none).wit.state = .none ∧ witnessOn (witnessUp .none none none) = true ∧
      validHb (witnessUp .none none none).wit 994000 false = none ∧
      (witnessUp .actB (some (hbFrom 0 2 true true)) (some (hbFrom 1 1 true false))).wit.state = .actB ∧
      parseHeartbeat (hbFrom 0 1 true false).bytes = some (hbFrom 0 1 true false) ∧ parseHeartbeat [0x2D] = none := by
  decide +kernel

/-- Table 18-5: the failed unit's line falls, the standby's rises. -/
theorem test_witness_takeover :
    (match exec .witnessDecision (witnessUp .actA (some (hbFrom 0 1 false false)) (some (hbFrom 1 2 true false))) with
     | .next t => (t.wit.lineA, t.wit.lineB, t.wit.moves)
     | _ => (true, true, 0)) = (false, true, 1) := by decide +kernel

/-! ### GateFollowsWitness -/

/-- Unit A of a pair at work, in a state, with a frame for its gate. -/
def unitUp (st : PrState) (f : Option WitFrame) : State :=
  { up with
    now := 1000000
    glb := { up.glb with straps := 1 }
    pr := { up.pr with state := st, frame := f, line := true, lineAt := 0 } }
def frameFor (oeA oeB : Bool) : WitFrame := { oeA := oeA, oeB := oeB, seenA := true, seenB := true, isMatch := false, stitch := 0, id := 1 }
def withPr (s : State) (p : Pair) (gate : Bool) : State := { s with pr := p, glb := { s.glb with gate := gate } }

theorem hyp_GateFollowsWitness :
    let s := unitUp .standby (some (frameFor true false))
    settled s = true ∧ s.cio.sched.wf = true ∧ s.ses.ses.wf = true ∧ unitOn s = true ∧ unitOn up = false ∧ settled up = true ∧
      parseWitFrame [0] = none ∧ parseWitFrame (frameFor true false).bytes = some (frameFor true false) ∧ s.mix.audioOn = true ∧
      (frameFor true false).stitch = s.mix.stitch % 65536 ∧ ({ frameFor true false with stitch := 3 } : WitFrame).stitch ≠ s.mix.stitch % 65536 ∧
      s.pr.frame = some (frameFor true false) ∧ (unitUp .standby none).pr.frame = none ∧ settled (unitUp .standby none) = true ∧
      s.pr.frozen = false ∧ (frameFor true false).ownOe s ≠ s.glb.gate ∧ s.pr.line = true ∧ s.pr.lineAt + 3500 ≤ s.now ∧
      s.saf.quiet = none ∧ s.glb.mode ≠ .quiet := by decide +kernel

theorem hyp_GateFollowsWitness_others :
    let s := unitUp .active (some (frameFor false true))
    let cold := withPr s { s.pr with frozen := true } true
    let low := withPr s { s.pr with line := false } true
    let ended := withPr s { s.pr with state := .yielded, line := false, yieldRun := some 64 } true
    settled cold = true ∧ cold.pr.frozen = true ∧ (frameFor false true).ownOe cold ≠ cold.glb.gate ∧
      (frameFor true true).ownOe cold = cold.glb.gate ∧ settled low = true ∧ (frameFor false true).ownOe low ≠ low.glb.gate ∧
      low.pr.state ≠ .yielded ∧ settled ended = true ∧ ended.pr.state = .yielded ∧ ended.pl.eject = false ∧ ended.pr.yieldRun = some 64 ∧
      ended.glb.gate = true ∧ isPair s = true ∧ isPair up = false ∧ isWitness up = false ∧ up.glb.inReset = false := by decide +kernel

/-- A divergence of this stitch took the standby to JOINING, and its rise stands; with no yield to time out. -/
theorem hyp_GateFollowsWitness_stands :
    let s := unitUp .joining (some (frameFor true false))
    let j := withPr s { s.pr with riseStands := true } false
    settled j = true ∧ j.pr.frozen = false ∧ (frameFor true false).ownOe j ≠ j.glb.gate ∧ j.pr.line = true ∧ j.pr.riseStands = true ∧
      j.pr.state = .joining ∧ j.saf.quiet = none ∧ (frameFor true false).ownOe j = true ∧ j.pr.yieldRun = none := by decide +kernel

/-! ### UnitChangesState -/

theorem hyp_UnitChangesState :
    let s := unitUp .standby none
    let n := unitUp .unsynced none
    let u := withPr n { n.pr with cause := 2 } false
    let lin := withPr s { s.pr with linRun := 64 } false
    let linUp := withPr s { s.pr with linUp := true, linMiss := 3 } false
    let ready := withPr u { u.pr with linUp := true, lastFrame := some (frameFor true true) } false
    let joining := withPr s { s.pr with state := .joining, join := some { from_ := 0 } } false
    let wtr := withPr s { s.pr with wtrFrom := some 0 } false
    let claims := withPr s { s.pr with claim := true, claimRun := 64 } false
    settled s = true ∧ s.cio.sched.wf = true ∧ s.ses.ses.wf = true ∧ s.rf.regs.wf = true ∧ settled u = true ∧
      unitOn lin = true ∧ lin.pr.linUp = false ∧ lin.pr.linRun = 64 ∧ linUp.pr.linMiss = 3 ∧ linUp.pr.state = .standby ∧ s.pl.net = none ∧
      unitOn ready = true ∧ ready.pr.missRun = 0 ∧ (frameFor true true).peerOe ready = true ∧ ready.pr.peerDigest = ready.pl.digest ∧
      settled joining = true ∧ joining.pr.join = some { from_ := 0 } ∧ joining.now < 2000000000 ∧
      settled { joining with now := 2000000000 } = true ∧ s.pr.join = none ∧
      settled wtr = true ∧ wtr.pr.frozen = false ∧ preferred wtr = false ∧ settled claims = true ∧ claims.pr.claimRun = 64 ∧ claims.glb.gate = false := by decide +kernel

theorem hyp_UnitChangesState_waits :
    let w := setFd (wr (unitUp .standby none) .PR_CFG 1) .PR_CFG_PREF 1
    fv w .PR_CFG_WTR = 1 ∧ preferred w = true ∧ 0 + 1000000000 * fv w .PR_CFG_WTR ≤ 1000000000 ∧ settled { w with now := 1000000000 } = true := by decide +kernel

theorem hyp_UnitChangesState_commands :
    let s := unitUp .standby none
    let a := unitUp .active none
    Accepted s .PR_CMD 0 0 2 ∧ Accepted s .PR_CMD 0 0 4 ∧ Accepted s .PR_CFG 0 0 0 ∧ Accepted a .PR_CMD 0 0 1 ∧ s.pr.linUp = false ∧
      isPair a = true ∧ (withPr a { a.pr with state := .yielded, leaving := true } true).pr.leaving = true ∧
      (∀ e ∈ a.ses.ses, e.2.client.mbox = false) ∧ settled a = true ∧ s.pr.peerDigest = [] ∧
      settled (withPr s { s.pr with linUp := true, peerDigest := [1] } false) = true ∧
      Accepted (withPr s { s.pr with linUp := true, peerDigest := [1] } false) .PR_CMD 0 0 2 ∧ s.pl.digest ≠ [1] := by decide +kernel

theorem hyp_UnitChangesState_deaf :
    let s := unitUp .standby none
    let deaf := withPr s { s.pr with linUp := true, peerDeaf := true } false
    s.pr.peerDeaf = false ∧ settled deaf = true ∧ unitOn deaf = true ∧ deaf.pr.linUp = true ∧ deaf.pr.linMiss = 0 ∧
      deaf.pr.peerDeaf = true ∧ deaf.pr.state = .standby ∧ deaf.rf.regs.wf = true := by decide +kernel

/-! ### PeersCompareOutputs -/

theorem hyp_PeersCompareOutputs :
    let s := unitUp .standby none
    let a := withPr s { s.pr with state := .active, peerSync := true, linUp := true, crcs := [(5, 9)] } false
    let b := withPr s { s.pr with linUp := true, crcs := [(5, 9)], peerCrc := some (4, 1) } false
    settled s = true ∧ s.cio.sched.wf = true ∧ s.ses.ses.wf = true ∧ s.rf.regs.wf = true ∧ unitOn s = true ∧ s.glb.mode ≠ .quiet ∧
      settled up = true ∧ unitOn up = false ∧ s.pr.peerCrc = none ∧ (∀ e, b.pr.peerCrc = some e → e.1 ≠ b.mix.stitch) ∧
      settled a = true ∧ a.pr.linUp = true ∧ a.pr.crcs.find? (fun e => e.1 == 5) = some (5, 9) ∧
      a.pr.crcs.find? (fun e => e.1 == 6) = none ∧ a.pr.state ≠ .joining ∧ a.pr.peerSync = true ∧
      settled b = true ∧ b.pr.crcs.find? (fun e => e.1 == 5) = some (5, 9) ∧ b.pr.state = .standby := by
  refine ⟨by decide +kernel, by decide +kernel, by decide +kernel, by decide +kernel, by decide +kernel, by decide +kernel,
    by decide +kernel, by decide +kernel, by decide +kernel, fun e h => ?_, by decide +kernel, by decide +kernel, by decide +kernel,
    by decide +kernel, by decide +kernel, by decide +kernel, by decide +kernel, by decide +kernel, by decide +kernel⟩
  cases h
  decide

theorem hyp_PeersCompareOutputs_met :
    let s := unitUp .standby none
    let m (st : PrState) (x : Nat) := withPr s { s.pr with state := st, peerSync := true, peerCrc := some (s.mix.stitch, x) } false
    (∀ x, (m .standby x).pr.peerCrc = some ((m .standby x).mix.stitch, x)) ∧ settled (m .standby 0) = true ∧ settled (m .active 0) = true ∧
      (∀ x, (m .active x).pr.peerCrc = some ((m .active x).mix.stitch, x) ∧ (m .active x).pr.peerSync = true ∧ (m .active x).pr.state = .active) :=
  ⟨fun _ => rfl, by decide +kernel, by decide +kernel, fun _ => ⟨rfl, rfl, rfl⟩⟩

/-- A stitch that waits for its decisions, none that waits, and a standby whose decisions come late. -/
theorem hyp_PeersCompareOutputs_late :
    let s := unitUp .standby none
    let owes := withPr s { s.pr with owed := some [] } false
    let u := withPr s { s.pr with linUp := true } false
    s.pr.owed = none ∧ settled owes = true ∧ owes.pr.owed = some [] ∧ unitOn owes = true ∧ owes.glb.mode ≠ .quiet ∧
      settled u = true ∧ u.pr.state = .standby ∧ u.pr.linUp = true ∧ u.pr.peerDigest = [] := by decide +kernel

/-! ### ResetsReturnEverything -/

/-- A pattern image with one optional section that says nothing. -/
def imageBody : List Byte := let b := leBytes 2 0x8000 ++ leBytes 6 0; b ++ leBytes 4 (crc32c b)
def imageHead : List Byte :=
  let h := leBytes 4 0x53565054 ++ leBytes 2 1 ++ leBytes 2 0 ++ leBytes 4 12 ++ leBytes 4 1 ++ leBytes 4 1 ++ leBytes 4 0 ++ sha256 imageBody ++ leBytes 4 0
  h ++ leBytes 4 (crc32c h)
def withCfgRun : State := { up with pl := { up.pl with cfgRun := true, norA := .bytes (imageHead ++ imageBody) } }
def inReset : State := { State.reset with pr := { State.reset.pr with state := .start } }
def straps (n : Nat) : StartEnv :=
  { straps := n, norA := some (.bytes []), norB := some (.bytes []), sfdp := some {}, loadMs := 1, dramOk := true, paces := [], peerOe := none, oePin := true }

theorem hyp_ResetsReturnEverything :
    let bare := { up with glb := { up.glb with mode := .bare } }
    let late := { up with now := 20000000, saf := { up.saf with lockstepAt := some 0 } }
    Accepted up .GLB_RESET 0 0 (word 0x53560002) ∧ Accepted bare .GLB_RESET 0 0 (word 0x53560001) ∧ bare.glb.mode = .bare ∧
      Accepted up .GLB_RESET 0 0 (word 0x53560001) ∧ up.glb.mode ≠ .bare ∧ calm up = true ∧ settled up = true ∧
      late.saf.lockstepAt = some 0 ∧ 0 + 10000000 ≤ late.now ∧ settled late = true ∧ up.cio.sched.wf = true ∧ up.ses.ses.wf = true ∧
      up.saf.lockstepAt = none ∧ up.pl.cfgRun = false ∧ up.glb.inReset = false ∧ isPair up = false ∧ up.rf.regs.wf = true ∧
      settled inReset = true ∧ inReset.glb.inReset = true ∧ inReset.pr.state = .start ∧ inReset.saf.quiet = none ∧
      (straps 3).bootOk = true ∧ (straps 3).dramOk = true ∧ (straps 3).straps % 4 = 3 ∧ (straps 0).norA = some (.bytes []) := by decide +kernel

theorem hyp_ResetsReturnEverything_cfg :
    let none_ := { withCfgRun with pl := { withCfgRun.pl with norA := .bytes [] } }
    settled withCfgRun = true ∧ isPair withCfgRun = false ∧ withCfgRun.pl.cfgRun = true ∧ withCfgRun.pl.net = none ∧
      isWitness withCfgRun = false ∧ tryOrder none_ = [] ∧ settled none_ = true ∧ withCfgRun.fab.vstate = .steady ∧
      withCfgRun.rf.regs.wf = true := by decide +kernel

/-- A configuration whose higher step has been reached, and one for which VCORE still rises. -/
def withCfgRise : State := { withCfgRun with pl := { withCfgRun.pl with net := some { acceptedAt := none, image := 0, check := {}, rising := true } } }
theorem hyp_ResetsReturnEverything_rise :
    let going := { withCfgRise with fab := { withCfgRise.fab with vstate := .raising } }
    settled withCfgRise = true ∧ withCfgRise.fab.vstate = .steady ∧ settled going = true ∧ going.fab.vstate = .raising ∧
      withCfgRise.cio.sched.wf = true ∧ withCfgRise.ses.ses.wf = true := by decide +kernel

theorem hyp_ResetsReturnEverything_image : false ∈ tryOrder withCfgRun ∧ (checkOf withCfgRun false).fail = 0 := by decide +kernel

/-! ### RemovalAndScan -/

theorem hyp_RemovalAndScan :
    let bare := { up with now := 3000000000, glb := { up.glb with mode := .bare } }
    let low := { up with evt := { up.evt with perst := true } }
    let scan := { up with pl := { up.pl with rescan := true } }
    calm up = true ∧ up.rf.regs.wf = true ∧ up.evt.perst = false ∧ calm low = true ∧ low.evt.perst = true ∧
      calm bare = true ∧ bare.glb.mode = .bare ∧ (portOf bare 0).state ≠ .up ∧ bare.pl.bareAt + 2000000000 ≤ bare.now ∧
      up.glb.mode ≠ .quiet ∧ up.glb.mode ≠ .bare ∧ up.pr.state ≠ .yielded ∧ up.ses.ses = [] ∧ Accepted up .PL_CMD 0 0 2 ∧
      Accepted bare .PL_CMD 0 0 2 ∧ Accepted up .PL_CMD 0 0 1 ∧ calm scan = true ∧ scan.pl.rescan = true ∧ up.pl.rescan = false := by
  decide +kernel

theorem hyp_RemovalAndScan_leaving :
    let u := { up with glb := { up.glb with mode := .removing, ledEject := true } }
    settled u = true ∧ u = ({ up with glb := { up.glb with ledEject := true } } : State).setGlb (fun g => { g with mode := .removing }) ∧
      calm { up with glb := { up.glb with ledEject := true } } = true := by decide +kernel

theorem hyp_RemovalAndScan_bare :
    let s : State := { up with glb := { up.glb with mode := .bare } }
    let t := emit ((removalSteps ((raise s .PL_EVENT 0x10).setGlb fun g => { g with mode := .removing })).setGlb fun g => {
      g with ledEject := true }) .ledEject
    calm s = true ∧ s.glb.mode = .bare ∧ s.ses.ses.wf = true ∧ settled t = true ∧ t.cio.sched.wf = true ∧ t.ses.ses.wf = true := by
  decide +kernel

/-! ### ThimbleReacts -/

theorem hyp_ThimbleReacts :
    let warm := { up with now := 70000000000, saf := { up.saf with cool := some 0 } }
    let quiet := { up with now := 2000000, glb := { up.glb with mode := .quiet }, saf := { up.saf with quiet := some .atOnce } }
    settled up = true ∧ up.cio.sched.wf = true ∧ up.ses.ses.wf = true ∧ Accepted up .SAF_INJECT 0 0 0x5356000B ∧
      fld 0x5356000B 0 8 = 0x0B ∧ Accepted up .SAF_INJECT 0 0 0x53560012 ∧ fld 0x53560012 0 8 = 0x12 ∧
      Accepted up .SAF_INJECT 0 0 0x53560013 ∧ up.saf.warnArmed = true ∧ (16 * (fv up .SAF_CFG_TEMP_WARN : Nat) : Int) ≤ 1600 ∧
      ¬ (16 * (fv up .SAF_CFG_TEMP_WARN : Nat) : Int) ≤ 1599 ∧ fv up .SAF_CFG_CE_MAX = 100 ∧
      settled warm = true ∧ warm.saf.cool = some 0 ∧ 0 + 60000000000 ≤ warm.now ∧ up.saf.cool = none ∧
      calm up = true ∧ up.ses.ses = [] ∧ up.glb.mode ≠ .quiet ∧ calm quiet = true ∧ quiet.saf.quiet = some .atOnce ∧
      quiet.saf.lanesOff = false ∧ quiet.saf.quietAt + 1500000 ≤ quiet.now := by decide +kernel

/-! ### StitchesCommandsAndRepliesProceed -/

/-- The pattern is in place and audio may start. -/
def readyToStart : State :=
  { State.reset with
    glb := { State.reset.glb with inReset := false, mode := .starting }, pl := { State.reset.pl with started := true } }

theorem hyp_StitchesCommandsAndRepliesProceed_boundary :
    settled State.reset = true ∧ State.reset.glb.inReset = true ∧ up.glb.inReset = false ∧ up.pl.net = none ∧
      up.pl.deferred = [] ∧ calm (stitchStep up {}) = true ∧ calm (stitchStep readyToStart {}) = true := by decide +kernel

theorem hyp_StitchesCommandsAndRepliesProceed_start :
    let late := (gridTime readyToStart 0 % blockUnits readyToStart 0).toNat / 147000000000000
    let w := refAudioStart (loadStitch readyToStart) (some (gridLate readyToStart))
    let v : State := { w with
      glb := { w.glb with mode := .running }
      pl := { w.pl with started := false, phase := 6, startMs := msSince w w.pl.releaseAt }
      mix := { w.mix with audioOn := true, ran := false, boundaryAt := w.now - late } }
    calm (vcoreEval (startLanes (enableAll v))) = true ∧ calm up = true ∧ up.pl.started = false ∧
      readyToStart.fab.vstate = .steady ∧ readyToStart.mix.audioOn = false ∧
      calm { readyToStart with fab := { readyToStart.fab with vstate := .raising } } = true := by decide +kernel

/-- Every needle at the pace T, whatever T the module has. -/
theorem hyp_StitchesCommandsAndRepliesProceed_fence (t : Nat) :
    calm up = true ∧ up.saf.injFence = false ∧ up.shed.fenced ≠ some up.mix.stitch ∧ up.glb.mode ≠ .quiet ∧ needlesOk up = 32 ∧
      (∀ k, k < 32 → t * 7 / 256 ≤ (List.replicate 32 t).getD k 0) ∧
      t * needlesOk up / 32 ≤ (List.range 32).foldl (fun a k =>
        if (needleOf up k).inService = true then a + (List.replicate 32 t).getD k 0 else a) 0 := by
  have h : ∀ k, k < 32 → (List.replicate 32 t).getD k 0 = t := fun k hk => by
    rw [List.getD_eq_getElem?_getD, List.getElem?_replicate, if_pos hk]; rfl
  have hn : needlesOk up = 32 := by decide +kernel
  have hf : (List.range 32).foldl (fun a k => if (needleOf up k).inService = true then a + (List.replicate 32 t).getD k 0 else a) 0 =
      0 + 32 * t := by
    have : ∀ n a, n ≤ 32 → (List.range n).foldl (fun a k => if (needleOf up k).inService = true then a + (List.replicate 32 t).getD k 0 else a) a = a + n * t := by
      intro n
      induction n with
      | zero => intro a _; simp
      | succ n ih =>
        intro a hn
        rw [List.range_succ, List.foldl_append, ih a (by omega)]
        rw [List.foldl_cons, List.foldl_nil, if_pos (show (needleOf up n).inService = true from rfl), h n (by omega), Nat.succ_mul, Nat.add_assoc]
    exact this 32 0 (Nat.le_refl _)
  refine ⟨by decide +kernel, by decide, by decide, by decide, hn, fun k hk => by rw [h k hk]; omega, ?_⟩
  rw [hn, hf]; omega

/-- The TCXO was suspected; input 2, qualified, agrees with it for longer than its QTIME; the bar of fault 07 stands. -/
def suspected : State :=
  { up with
    now := 10 ^ 15, saf := { up.saf with bars := [(7, 0)] }
    ref := { up.ref with tcxoFault := true, agreeFrom := some 0, slots := [(2, { q := .qualified })] } }

theorem hyp_StitchesCommandsAndRepliesProceed_tcxo :
    settled suspected = true ∧ suspected.saf.bars.wf = true ∧ suspected.cio.sched.wf = true ∧ suspected.ses.ses.wf = true ∧
      tcxoAgrees suspected = true ∧
      0 + 1000000000 * (otherQualified suspected 20).foldl (fun a k => max a (ff suspected .QL_W1_QTIME k)) 0 ≤ suspected.now ∧
      settled up = true ∧ up.ref.tcxoFault = false := by decide +kernel

/-- Sessions 0 and 1 have each a NOP waiting; that of session 0 came first. -/
def waitingTwo : State :=
  let one (id st : Nat) : Ses := { id := id, role := 2, client := client, idle := 60, lastReq := 0, high := 4, waiting := [⟨4, 0, [], st, 0⟩] }
  { spoken with ses := { spoken.ses with ses := [(0, one 7 1), (1, one 8 2)] }, pl := { spoken.pl with xfer := none } }

theorem hyp_StitchesCommandsAndRepliesProceed_commands :
    still waitingTwo = true ∧ hasStandby waitingTwo = false ∧ waitingTwo.ses.ses.wf = true ∧
      (Tbl.get? waitingTwo.ses.ses 0).map (fun x => (x.busy, x.waiting)) = some (none, [⟨4, 0, [], 1, 0⟩]) ∧
      startsBefore (0, ⟨4, 0, [], 1, 0⟩) (1, ⟨4, 0, [], 2, 0⟩) = true ∧
      startsBefore (1, ⟨4, 0, [], 2, 0⟩) (0, ⟨4, 0, [], 1, 0⟩) = false ∧
      firstCode (opFails waitingTwo 0 ⟨4, 0, [], 1, 0⟩) = .ok ∧ client.mbox = false ∧ winIndex 4 4 = some 0 ∧
      still spoken = true ∧ (spoken.ses.ses.all fun e => e.2.waiting.isEmpty) = true := by decide +kernel

/-- A reply of session 0 that the standby has acknowledged. -/
theorem hyp_StitchesCommandsAndRepliesProceed_replies :
    let r : Reply := { ses := 0, seq := 4, op := 0, result := 0, body := [], after := .nothing, acked := true }
    let s := waitingTwo.setSes fun y => { y with out := [r] }
    settled (s.setSes fun y => { y with out := [] }) = true ∧ s.cio.sched.wf = true ∧ s.ses.ses.wf = true ∧ s.ses.out = [r] ∧
      (Tbl.get? s.ses.ses 0).map (fun x => x.client.mbox) = some false := by decide +kernel

/-! ### StepKeepsOneGrant -/

theorem hyp_StepKeepsOneGrant :
    oneGrant State.reset.wit = true ∧ ∃ t, step State.reset = .next t := ⟨by decide, _, rfl⟩

/-! ### StepRunsFrontCommand -/

theorem hyp_StepRunsFrontCommand : State.reset.pending = [] := rfl

/-! ### RegistersShareNoAddress -/

theorem hyp_RegistersShareNoAddress :
    255 < (desc .RX_W1).n1 ∧ 0 < (desc .RX_W1).n2 ∧ 63 < (desc .TX_MAP).n2 ∧ findReg 2 = none ∧ findReg 0x3FFFFC = none := by decide

end Sys2Proof.Tests
end

section
/-! Architecture: steps and commands, the instant at which accepted changes act (R8, R14, R22). -/

namespace Sys2Proof.Machine

/-! ## Steps and commands -/

/-- Settles O57: the two clauses are the two branches of `step`. -/
theorem stepRunsFrontCommand : Obligations.StepRunsFrontCommand := by
  refine ⟨fun c s => rfl, fun s h => ?_⟩
  unfold step
  rw [h]

/-- Every command of the table runs an effect; none is refused or faults. -/
theorem exec_is_run (c : Instr) (s : State) : ∃ f, exec c s = run s f := by
  cases c <;> (dsimp only [exec]; exact ⟨_, rfl⟩)

/-- Settles O58: every command is a run, and a run puts the instant and the queue back. -/
theorem everyCommandCompletes : Obligations.EveryCommandCompletes := by
  intro c s
  obtain ⟨f, e⟩ := exec_is_run c s
  exact ⟨_, e, rfl, rfl⟩

/-! ## What an accepted write leaves calm -/

/-- The note in REG_WSTATUS leaves nothing over. -/
theorem calm_noted {s : State} (h : calm s = true) (r : Reg) (i j : Nat) : calm (noted s r i j) = true := h

/-- A disable that waits leaves nothing over. -/
theorem calm_disableLater {s : State} (h : calm s = true) (o : ObjKind) (i : Nat) :
    calm (disableLater s o i) = true := h

/-- An accepted write whose effect is a disable of an object. -/
theorem run_disable {s : State} (r : Reg) {v : Word} (o : ObjKind) (i : Nat) (hi : 0 < (desc r).n1)
    (hj : 0 < (desc r).n2) (hc : calm s = true) (ha : Accepted s r 0 0 v)
    (e : blockWrite (noted s r 0 0) r 0 0 v = disableLater (noted s r 0 0) o i) :
    run s (fun s => regWrite s r 0 0 v 15) = .next (disableLater (noted s r 0 0) o i) :=
  run_entry r hi hj ha e (calm_disableLater (calm_noted hc r 0 0) o i) rfl rfl

/-- Settles O9: each disable bit reaches `disableLater` through its block's command register. -/
theorem disablesWait : Obligations.DisablesWait := by
  intro s hc off d r x
  refine ⟨fun ha => ?_, fun ha => ?_, fun ha => ?_, fun ha => ?_, fun ha => ?_, fun ha => ?_⟩
  · exact run_disable .DYN_CMD .meter _ (by decide) (by decide) hc ha rfl
  · exact run_disable .DYN_CMD .vox _ (by decide) (by decide) hc ha rfl
  · exact run_disable .RB_CMD .seam _ (by decide) (by decide) hc ha rfl
  · exact run_disable .RB_CMD .conv _ (by decide) (by decide) hc ha rfl
  · exact run_disable .STR_CMD .rx _ (by decide) (by decide) hc ha rfl
  · exact run_disable .STR_CMD .tx _ (by decide) (by decide) hc ha rfl

/-! ## Words that wait for their boundary (R14) -/

/-- The word in force stays the one before while a new one waits. -/
theorem rdF_wrLater_self (s : State) (r : Reg) (v : Word) (i j : Nat) :
    rdF (wrLater s r v i j) r i j = rdF s r i j := by
  have e : Tbl.get? (wrLater s r v i j).rf.force (addr r i j) = some (rdF s r i j) := Tbl.get?_put_self _ _ _
  rw [rdF, e]

/-- A word that waits is the one read back. -/
theorem rd_wrLater_self {s : State} (h : s.rf.regs.wf = true) (r : Reg) (v : Word) (i j : Nat) :
    rd (wrLater s r v i j) r i j = v := rd_wr_self h r v i j

/-- An accepted write of a register that acts at its boundary. -/
theorem run_putLater {s : State} {r : Reg} {i j : Nat} {v : Word} (hc : calm s = true) (hr : Reg.SES_MBOX ≠ r)
    (hi : i < (desc r).n1) (hj : j < (desc r).n2) (ha : Accepted s r i j v)
    (e : blockWrite (noted s r i j) r i j v = putLater (noted s r i j) r i j v) :
    run s (fun s => regWrite s r i j v 15) = .next (putLater (noted s r i j) r i j v) :=
  run_entry r hi hj ha e (calm_later (calm_noted hc r i j) _ hr hi hj) rfl rfl

/-- An accepted write of a register that acts at once. -/
theorem run_put {s : State} {r : Reg} {i j : Nat} {v : Word} (hc : calm s = true) (hr : Reg.SES_MBOX ≠ r)
    (hi : i < (desc r).n1) (hj : j < (desc r).n2) (ha : Accepted s r i j v)
    (e : blockWrite (noted s r i j) r i j v = put (noted s r i j) r i j v) :
    run s (fun s => regWrite s r i j v 15) = .next (put (noted s r i j) r i j v) :=
  run_entry r hi hj ha e (calm_entry (calm_noted hc r i j) _ hr hi hj) rfl rfl

/-- RX word 1 waits exactly while its stream is enabled (R183). -/
theorem blockWrite_RX_W1 (s : State) {k : Nat} (hk : k < 256) (v : Word) : blockWrite s .RX_W1 k 0 v =
    if objOn s .rx k = true then putLater s .RX_W1 k 0 v else put s .RX_W1 k 0 v := by
  rw [blockWrite_entry s .RX_W1 v rfl hk (by decide)]; rfl

/-- HK word 0 waits exactly while members of its hank are enabled (R184). -/
theorem blockWrite_HK_W0 (s : State) {h : Nat} (hh : h < 64) (v : Word) : blockWrite s .HK_W0 h 0 v =
    if hankMembers s h = 0 then put s .HK_W0 h 0 v else putLater s .HK_W0 h 0 v := by
  rw [blockWrite_entry s .HK_W0 v rfl hh (by decide)]; rfl

/-- Settles O11: maps always wait (`putLater`), the two offsets wait or act at once by what is enabled. -/
theorem deferredMapWrites : Obligations.DeferredMapWrites := by
  intro s v hc hw later
  refine ⟨fun lane slot ha => ?_, fun c ha => ?_, fun k c ha => ?_, fun k ha => ?_, fun h ha => ?_⟩
  · have e : blockWrite (noted s .SLOT_MAP lane slot) .SLOT_MAP lane slot v = putLater (noted s .SLOT_MAP lane slot) .SLOT_MAP lane slot v :=
      blockWrite_entry _ .SLOT_MAP v rfl lane.isLt slot.isLt
    exact ⟨run_putLater hc (by decide) lane.isLt slot.isLt ha e, rdF_wrLater_self (noted s .SLOT_MAP lane slot) _ _ _ _,
      rd_wrLater_self (s := noted s .SLOT_MAP lane slot) hw _ _ _ _⟩
  · have e : blockWrite (noted s .HOST_MAP c 0) .HOST_MAP c 0 v = putLater (noted s .HOST_MAP c 0) .HOST_MAP c 0 v :=
      blockWrite_entry _ .HOST_MAP v rfl c.isLt (by decide)
    exact ⟨run_putLater hc (by decide) c.isLt (by decide) ha e, rdF_wrLater_self (noted s .HOST_MAP c 0) _ _ _ _⟩
  · have e : blockWrite (noted s .TX_MAP k c) .TX_MAP k c v = putLater (noted s .TX_MAP k c) .TX_MAP k c v :=
      blockWrite_entry _ .TX_MAP v rfl k.isLt c.isLt
    exact ⟨run_putLater hc (by decide) k.isLt c.isLt ha e, rdF_wrLater_self (noted s .TX_MAP k c) _ _ _ _⟩
  · have e := blockWrite_RX_W1 (noted s .RX_W1 k 0) k.isLt v
    refine ⟨fun on => ⟨?_, rdF_wrLater_self (noted s .RX_W1 k 0) _ _ _ _⟩, fun off => ?_⟩
    · exact run_putLater hc (by decide) k.isLt (by decide) ha (e.trans (if_pos on))
    · exact run_put hc (by decide) k.isLt (by decide) ha (e.trans (if_neg (Bool.eq_false_iff.1 off)))
  · have e := blockWrite_HK_W0 (noted s .HK_W0 h 0) h.isLt v
    refine ⟨fun on => ⟨?_, rdF_wrLater_self (noted s .HK_W0 h 0) _ _ _ _⟩, fun off => ?_⟩
    · exact run_putLater hc (by decide) h.isLt (by decide) ha (e.trans (if_neg on))
    · exact run_put hc (by decide) h.isLt (by decide) ha (e.trans (if_pos off))

end Sys2Proof.Machine
end

section
/-! Register writes as they arrive (R355 to R366): what fails changes nothing but the capture, what is accepted is
stored, flags clear by ones, posted values wait. -/

namespace Sys2Proof.Machine

/-! ## Writes that fail (R22, R364, R365) -/

/-- A capture changes REG_WSTATUS, REG_WERROR and its count, and may raise WRITE_ERR. -/
theorem capture_cases (s : State) (c : Code) (bar off : Nat) : ∃ f : Glb → Glb,
    ((f s.glb).mode = s.glb.mode ∧ (f s.glb).straps = s.glb.straps) ∧
      (capture s c bar off = s.setGlb f ∨ capture s c bar off = raise (s.setGlb f) .GLB_EVENT 1) := by
  by_cases h : c = .ok
  · exact ⟨_, ⟨rfl, rfl⟩, .inl (if_pos h)⟩
  · exact ⟨_, ⟨rfl, rfl⟩, .inr (if_neg h)⟩

/-- A change of the global block that keeps mode and straps leaves nothing over. -/
theorem calm_setGlb {s : State} (h : calm s = true) {f : Glb → Glb}
    (hf : (f s.glb).mode = s.glb.mode ∧ (f s.glb).straps = s.glb.straps) : calm (s.setGlb f) = true := by
  unfold calm isPair at h ⊢
  rw [State.setGlb_glb, hf.1, hf.2]
  exact h

/-- The capture of a result leaves nothing over. -/
theorem calm_capture {s : State} (h : calm s = true) (c : Code) (bar off : Nat) : calm (capture s c bar off) = true := by
  obtain ⟨f, hf, e | e⟩ := capture_cases s c bar off <;> rw [e]
  · exact calm_setGlb h hf
  · exact calm_raise (calm_setGlb h hf) 1 (by decide)

theorem capture_now (s : State) (c : Code) (bar off : Nat) : (capture s c bar off).now = s.now := by
  obtain ⟨f, -, e | e⟩ := capture_cases s c bar off <;> rw [e]
  · rfl
  · exact raise_now _ _ _ _

theorem capture_pending (s : State) (c : Code) (bar off : Nat) : (capture s c bar off).pending = s.pending := by
  obtain ⟨f, -, e | e⟩ := capture_cases s c bar off <;> rw [e]
  · rfl
  · exact raise_pending _ _ _ _

/-- Raising flags leaves the record of wrong parities alone. -/
theorem raise_parityBad (s : State) (r : Reg) (bits i : Nat) : (raise s r bits i).rf.parityBad = s.rf.parityBad := by
  obtain ⟨rf, evt, e, hrf⟩ := raise_eq s r bits i
  rw [e]
  show rf.parityBad = _
  rw [hrf]; rfl

theorem capture_parityBad (s : State) (c : Code) (bar off : Nat) : (capture s c bar off).rf.parityBad = s.rf.parityBad := by
  obtain ⟨f, -, e | e⟩ := capture_cases s c bar off <;> rw [e]
  · rfl
  · exact raise_parityBad _ _ _ _

/-- A write with a failure code, of a register whose parity is right, is carried out as nothing. -/
theorem carryOut_failed {s : State} {off : Nat} {c : Code} (o : Origin) (v : Word) (hc : c ≠ .ok)
    (hp : s.rf.parityBad.contains off = false) : carryOut o s off v c = s := by
  unfold carryOut
  split
  · rfl
  · rw [if_neg (by rw [hp]; decide), if_neg hc]

/-- A command whose effect is the capture of a result. -/
theorem run_capture {s : State} {f : State → State} {c : Code} {bar off : Nat} (hc : calm s = true)
    (e : f s = capture s c bar off) : run s f = .next (capture s c bar off) :=
  run_is e (calm_capture hc c bar off) (capture_now s c bar off) (capture_pending s c bar off)

/-- A BAR0 write that a check refuses is captured, and nothing else. -/
theorem pcieWrite_failed {s : State} {off be : Nat} {v : Word} {poison : Bool} {c : Code}
    (h : pcieCode s off v be poison = c) (hc : c ≠ .ok) (hp : s.rf.parityBad.contains off = false) :
    pcieWrite s 0 off v be poison = capture s c 0 off := by
  unfold pcieWrite
  rw [if_pos rfl]
  dsimp only
  rw [h]
  exact carryOut_failed .pcie v hc (by rw [capture_parityBad]; exact hp)

/-- A whole BAR2 write that its window refuses is captured, and nothing else. -/
theorem pcieWrite_window {s : State} {off : Nat} {v : Word} {poison : Bool} {c : Code}
    (h : writeWindow s off v poison = (c, s)) : pcieWrite s 2 off v 15 poison = capture s c 2 off := by
  unfold pcieWrite
  rw [if_neg (by decide), if_neg (by decide), h]

/-- The result of a poisoned write: INTEGRITY, or the code of a check that R23 puts before it. -/
theorem pcieCode_poison (s : State) (off : Nat) (v : Word) : pcieCode s off v 15 true =
    match findReg off with
    | some (r, i, j) => firstCode ((.integrity, true) :: regFails .pcie s r i j off v)
    | none => .access := by
  unfold pcieCode
  rw [if_neg (by decide)]
  cases findReg off <;> rfl

/-- A poisoned write meets a reason to fail. -/
theorem pcieCode_poisoned (s : State) (off : Nat) (v : Word) : pcieCode s off v 15 true ≠ .ok := by
  unfold pcieCode
  rw [if_neg (by decide)]
  split
  · decide
  · exact fun h => by cases firstCode_ok h List.mem_cons_self

theorem capture_failed {s : State} {c : Code} (h : c ≠ .ok) (bar off : Nat) :
    capture s c bar off = raise (s.setGlb fun g => { g with
      wstatus := statusWord c bar off
      werror := some (g.werror.getD (statusWord c bar off))
      werrCnt := satInc 0xFFFFFFFF g.werrCnt }) .GLB_EVENT 1 := if_neg h

/-! ## Writes that are stored (R24, R361) -/

/-- Registers without an effect of their own: a write is stored and acts at once. -/
def plainRegs : List Reg :=
  [.FAB_VHOLD, .TB_CMD_ARG, .TC_CTRL, .PHY_LAT, .TB_VLAN, .TB_DS, .TB_DS2, .TB_INTV, .TB_SERVO, .TB_JTHR, .TB_UTC,
    .REF_CMD_ARG, .MC_OFS, .MC_SW_PS, .SYN_CMD_ARG, .SYN_LOCK, .SYN_LOL, .PLS_WIDTH, .PLS_TOL, .CG_FMT, .CG_TIMING, .CG_ACC,
    .LANE_DIR, .SW_CFG, .SW_MACW, .PORT_VLAN, .PORT_PCPMAP, .CBS_A, .CBS_B, .GATE_CTRL, .GATE_CYCLE,
    .GATE_BASE_HI, .GATE_BASE_LO, .GATE_BASE_NS, .VLAN, .GATE_ADM_W0, .GATE_ADM_W1, .STR_CMD_ARG, .RX_W0, .RX_W2, .RX_W3,
    .RX_W4, .RX_DST_A, .RX_SRC_A, .RX_DST_B, .RX_SRC_B, .TX_W0, .TX_W1, .TX_W2, .TX_W3, .TX_W4, .TX_W5, .TX_W6, .TX_W7,
    .TX_DST_A, .TX_DST_B, .TX_SRC_A, .TX_SRC_B, .TX_CS0, .TX_CS, .BS_REC, .DYN_CMD_ARG,
    .RB_CMD_ARG, .RB_SEAM_CFG, .SM_W1, .SC_W0, .SC_W1, .CIO_CMD_ARG, .CIO_SOFT, .GP_OUT, .GP_CFG, .CR_W1,
    .CR_W2, .CR_W3, .CR_W4, .CR_W5, .CR_W6, .SE_W0, .SE_W1, .SE_W2, .SE_W3, .SE_W4, .SPL_CMD_ARG, .SPL_STALL, .SP_W1,
    .EVT_CMD_ARG, .EV_GRP, .EV_HGRP, .ATT_RX, .ATT_TX, .ATT_CG, .MSIX_LO, .MSIX_HI, .MSIX_DATA, .MSIX_CTRL, .SES_KEYS,
    .SES_CMD_ARG]

/-- Registers whose write always waits for its boundary (R14). -/
def boundaryRegs : List Reg := [.MIX_RAMP_DEF, .MIX_KEY_RAMP, .HOST_IN, .HOST_OUT, .SM_W0]

theorem plain_apart : ∀ r ∈ plainRegs, evtGroup r = none ∧ Reg.SES_MBOX ≠ r := by decide

theorem boundary_apart : ∀ r ∈ boundaryRegs, evtGroup r = none ∧ Reg.SES_MBOX ≠ r ∧ 0 < (desc r).n2 := by decide

/-- The block of a plain register stores what is written. -/
theorem blockWrite_plain {r : Reg} (hr : r ∈ plainRegs) (s : State) {i j : Nat} (v : Word) (hi : i < (desc r).n1)
    (hj : j < (desc r).n2) : blockWrite s r i j v = put s r i j v := by
  rw [blockWrite_entry s r v (plain_apart r hr).1 hi hj]
  clear hi hj
  revert r
  simp only [plainRegs, List.forall_mem_cons, List.not_mem_nil, false_imp_iff, implies_true, and_true]
  and_intros <;> rfl

/-- The block of a register that acts at the boundary lets what is written wait. -/
theorem blockWrite_boundary {r : Reg} (hr : r ∈ boundaryRegs) (s : State) {i j : Nat} (v : Word) (hi : i < (desc r).n1)
    (hj : j < (desc r).n2) : blockWrite s r i j v = putLater s r i j v := by
  rw [blockWrite_entry s r v (boundary_apart r hr).1 hi hj]
  clear hi hj
  revert r
  simp only [boundaryRegs, List.forall_mem_cons, List.not_mem_nil, false_imp_iff, implies_true, and_true]
  and_intros <;> rfl

/-- Bit 31 of a complemented word. -/
theorem bit_not_31 (v : Word) : bit (~~~v) 31 = !bit v 31 := by
  simp only [bit_eq_testBit]
  rw [← BitVec.getLsbD, ← BitVec.getLsbD, BitVec.getLsbD_not]
  simp

/-- Rule word 0 is stored; EN 0 also marks the rule's latch and timer for clearing (R276). -/
theorem blockWrite_CR_W0 (s : State) {i : Nat} (v : Word) (hi : i < (desc .CR_W0).n1) :
    blockWrite s .CR_W0 i 0 v = if bit v 31 = true then put s .CR_W0 i 0 v else ruleOff (put s .CR_W0 i 0 v) i := by
  rw [blockWrite_entry s .CR_W0 v rfl hi (by decide)]
  show onBit (~~~v) 31 (put s .CR_W0 i 0 v) (fun s => ruleOff s i) = _
  rw [onBit, bit_not_31]
  cases bit v 31 <;> rfl

/-! ## Flags that fall (R24, R311, R326) -/

/-- Of the registers at most WAKE of EVT_EVENT has risen, and beside them only events and emissions differ. -/
def AtMostWakes (s t : State) : Prop :=
  t = { s with rf := t.rf, evt := t.evt, emitted := t.emitted } ∧ t.rf = { s.rf with regs := t.rf.regs } ∧
    (s.rf.regs.wf = true → t.rf.regs.wf = true ∧ ∀ r i j, i < (desc r).n1 → j < (desc r).n2 →
      rd t r i j = rd s r i j ∨ r = .EVT_EVENT ∧ rd t r i j = word ((rd s r i j).toNat ||| 0x100))

theorem AtMostWakes.refl (s : State) : AtMostWakes s s := ⟨rfl, rfl, fun h => ⟨h, fun _ _ _ _ _ => .inl rfl⟩⟩

/-- A flag that has risen rises no second time. -/
theorem word_or_or (n k : Nat) : word ((word (n ||| k)).toNat ||| k) = word (n ||| k) := by
  apply BitVec.eq_of_toNat_eq
  simp only [word, BitVec.toNat_ofNat]
  apply Nat.eq_of_testBit_eq
  intro b
  simp only [Nat.testBit_mod_two_pow, Nat.testBit_or]
  cases decide (b < 32) <;> simp

theorem AtMostWakes.trans {s t u : State} (h : AtMostWakes s t) (g : AtMostWakes t u) : AtMostWakes s u := by
  obtain ⟨h1, h2, h3⟩ := h
  obtain ⟨g1, g2, g3⟩ := g
  refine ⟨by rw [g1, h1], by rw [g2, h2], fun hw => ?_⟩
  obtain ⟨tw, th⟩ := h3 hw
  obtain ⟨uw, uh⟩ := g3 tw
  refine ⟨uw, fun r i j hi hj => ?_⟩
  rcases uh r i j hi hj with e | ⟨er, e⟩
  · rw [e]; exact th r i j hi hj
  · refine .inr ⟨er, ?_⟩
    rcases th r i j hi hj with d | ⟨-, d⟩
    · rw [e, d]
    · rw [e, d, word_or_or]

/-- A step beside the registers that emits or changes events. -/
theorem AtMostWakes.of_rf {s t : State} (e : t = { s with rf := t.rf, evt := t.evt, emitted := t.emitted })
    (h : t.rf = s.rf) : AtMostWakes s t :=
  ⟨e, by rw [h], fun hw => ⟨by rw [h]; exact hw, fun r i j _ _ => .inl (by unfold rd; rw [h])⟩⟩

/-- Raising WAKE. -/
theorem atMostWakes_raise (s : State) : AtMostWakes s (raise s .EVT_EVENT 0x100) := by
  obtain ⟨rf, evt, e, hrf⟩ := raise_eq s .EVT_EVENT 0x100 0
  refine ⟨by rw [e], by rw [e]; simp only [hrf]; rfl, fun hw => ⟨raise_wf hw _ _ _, fun r i j hi hj => ?_⟩⟩
  by_cases hr : r = .EVT_EVENT
  · subst hr
    obtain rfl : i = 0 := Nat.lt_one_iff.1 hi
    obtain rfl : j = 0 := Nat.lt_one_iff.1 hj
    exact .inr ⟨rfl, rd_raise_self hw .EVT_EVENT 0x100 0⟩
  · exact .inl (rd_raise_ne s 0x100 (addr_ne hr (by decide) (by decide) hi hj))

theorem atMostWakes_wakeUpdate (s : State) : AtMostWakes s (wakeUpdate s) := by
  unfold wakeUpdate
  dsimp only
  split
  · exact AtMostWakes.refl s
  · split
    · exact AtMostWakes.trans (AtMostWakes.of_rf rfl rfl) (atMostWakes_raise _)
    · exact AtMostWakes.of_rf rfl rfl

/-- The fall of an input puts a pending level source to IDLE, and the pin of WAKE# follows. -/
theorem atMostWakes_levelFell (s : State) (src : Nat) : AtMostWakes s (levelFell s src) := by
  have idle : AtMostWakes s (wakeUpdate (setSrcState s src .idle)) :=
    AtMostWakes.trans (AtMostWakes.of_rf rfl rfl) (atMostWakes_wakeUpdate _)
  unfold levelFell
  split
  · split
    · exact idle
    · exact idle
    · exact idle
    · exact AtMostWakes.refl s
  · exact AtMostWakes.refl s

/-- What an event register reads after ones are written: the flags written 1 are gone (R24). -/
def flagsLeft (s : State) (r : Reg) (i : Nat) (v : Word) : Word :=
  word ((rd s r i).toNat - ((rd s r i).toNat &&& v.toNat &&& (desc r).w1c))

/-- A write of an event register stores what is left of its flags; the falls of its sources follow. -/
theorem clearFlags_from {r : Reg} (hr : (evtGroup r).isSome) (s : State) (i : Nat) (v : Word) :
    ∃ evt, AtMostWakes { wr s r (flagsLeft s r i v) i with evt := evt } (clearFlags s r v i) := by
  obtain ⟨g, hg⟩ := Option.isSome_iff_exists.1 hr
  unfold clearFlags pushEdges
  dsimp only
  rw [hg]
  exact ⟨_, forEach_rel (R := AtMostWakes) AtMostWakes.refl AtMostWakes.trans (fun b s => atMostWakes_levelFell s _) _ _⟩

/-- The accepted write of an event register: its flags written 1 are gone, WAKE may have risen again, and no other
register differs. -/
theorem clearFlags_spec {s : State} (hw : s.rf.regs.wf = true) {r : Reg} {i : Nat} (hr : (evtGroup r).isSome)
    (hi : i < (desc r).n1) (hj : 0 < (desc r).n2) (v : Word) :
    let t := clearFlags s r v i
    OnlyFlags s t ∧ t = { s with rf := t.rf, evt := t.evt, emitted := t.emitted } ∧
      (rd t r i = flagsLeft s r i v ∨ r = .EVT_EVENT ∧ rd t r i = word ((flagsLeft s r i v).toNat ||| 0x100)) := by
  intro t
  obtain ⟨evt, h1, h2, h3⟩ := clearFlags_from hr s i v
  obtain ⟨-, h⟩ := h3 (wr_wf hw r _ i 0)
  refine ⟨⟨h2, fun q k l hk hl hq => ?_⟩, h1, ?_⟩
  · have hne : q ≠ r := by rintro rfl; rw [hq] at hr; cases hr
    rcases h q k l hk hl with e | ⟨rfl, -⟩
    · exact e.trans (rd_wr_ne s _ (addr_ne hne hi hj hk hl))
    · cases hq
  · have e := rd_wr_self hw r (flagsLeft s r i v) i 0
    have := h r i 0 hi hj
    rwa [show rd { wr s r (flagsLeft s r i v) i with evt := evt } r i = flagsLeft s r i v from e] at this

/-! ## The answers of REGISTER_WRITE, POSTED_WRITE_APPLY and SCRUB_PASS -/

theorem exec_registerWrite (bar2 : Bool) (off : Nat) (v : Word) (be : Fin 16) (poison : Bool) (s : State) :
    exec (.registerWrite bar2 off v be poison) s =
      run s fun s => pcieWrite s (if bar2 then 2 else 0) off v be.val poison := rfl

/-- A refused write of BAR0. -/
theorem registerWrite_failed {s : State} {off : Nat} {be : Fin 16} {v : Word} {poison : Bool} {c : Code} (hc : calm s = true)
    (h : pcieCode s off v be.val poison = c) (hne : c ≠ .ok) (hp : s.rf.parityBad.contains off = false) :
    exec (.registerWrite false off v be poison) s = .next (capture s c 0 off) :=
  (exec_registerWrite ..).trans (run_capture hc (pcieWrite_failed h hne hp))

/-- A refused write of BAR2. -/
theorem registerWrite_window {s : State} {off : Nat} {v : Word} {poison : Bool} {c : Code} (hc : calm s = true)
    (h : writeWindow s off v poison = (c, s)) : exec (.registerWrite true off v 15 poison) s = .next (capture s c 2 off) :=
  (exec_registerWrite ..).trans (run_capture hc (pcieWrite_window h))

/-- A write with byte enables missing is refused with ACCESS (R360). -/
theorem registerWrite_enables {s : State} {bar2 : Bool} {off : Nat} {be : Fin 16} {v : Word} {poison : Bool} (hc : calm s = true)
    (hbe : be.val ≠ 15) (hp : bar2 = true ∨ s.rf.parityBad.contains off = false) :
    exec (.registerWrite bar2 off v be poison) s = .next (capture s .access (if bar2 then 2 else 0) off) := by
  cases bar2 with
  | false => exact registerWrite_failed hc (if_pos hbe) (by decide) (hp.resolve_left (by decide))
  | true => exact (exec_registerWrite ..).trans (run_capture hc ((if_neg (by decide)).trans (if_pos hbe)))

/-- A window without a writable field. -/
theorem writeWindow_noField {s : State} {off : Nat} (v : Word) (poison : Bool) (h : windowField (off % 4096) = false) :
    writeWindow s off v poison = (.access, s) := if_pos (.inl (by rw [h]; rfl))

/-- A standby's window. -/
theorem writeWindow_passive {s : State} {off : Nat} (v : Word) (poison : Bool) (h : windowField (off % 4096) = true)
    (hoff : off < 2 ^ 24) (hp : s.glb.passive = true) : writeWindow s off v poison = (.passive, s) := by
  have hn : ¬ 4096 ≤ off / 4096 := by omega
  unfold writeWindow
  rw [if_neg (by rw [h]; simp [hn]), if_pos hp]

/-- A posted value is applied to its register, in a unit that is alone. -/
theorem applyPosted_alone {s : State} {p : Nat × Nat × Word} {r : Reg} {i j : Nat} (ha : isPair s = false)
    (hf : findReg p.2.1 = some (r, i, j)) (hpr : r = .PR_CFG → i = 0 ∧ j = 0) : applyPosted s p = wr s r p.2.2 i j := by
  unfold applyPosted
  rw [hf]
  split
  · rename_i e
    cases e
    obtain ⟨rfl, rfl⟩ := hpr rfl
    exact if_neg (by rw [ha]; simp)
  · rename_i e
    cases e
    rfl
  · rename_i e
    cases e

/-- A scrub pass that names only registers known to be wrong, or none, counts and raises CFG_PARITY again. -/
theorem scrubPass_known {s : State} {bad : List Nat}
    (h : ∀ off ∈ bad, s.rf.parityBad.contains off = true ∨ findReg off = none) :
    let u := s.setGlb fun g => { g with scrubCnt := (g.scrubCnt + 1) % 2 ^ 32 }
    scrubPass s bad = if s.rf.parityBad = [] then u else raise u .GLB_EVENT 2 := by
  intro u
  have hp : (if s.rf.parityBad = [] then u else raise u .GLB_EVENT 2).rf.parityBad = s.rf.parityBad := by
    split
    · rfl
    · exact raise_parityBad _ _ _ _
  refine forEach_id fun off hoff => if_pos ?_
  refine (h off hoff).imp (fun k => ?_) (fun k => by rw [k]; rfl)
  exact (congrArg (fun l => List.contains l off) hp).trans k

/-- Settles O46, clause by clause: refusals are captured, plain registers are put, boundary registers put later, event
registers cleared, posted values kept and applied. -/
theorem registerWrites : Obligations.RegisterWrites := by
  intro s v hc hw failed
  refine ⟨fun bar2 off be poison hbe hp => ?_, fun off hp => ?_, fun off hne hp => ?_, fun off poison => ⟨fun h => ?_, fun h hoff hps => ?_⟩,
    fun r hr i hi j hj ha => ?_, fun r hr i hi ha => ?_, fun i hi ha => ?_, fun r i hr hi hj ha => ?_, fun ha => ?_,
    fun a off w ps r i j hps hf hi hj hm hpr => ?_, fun hps => ?_, fun bad hb => ?_⟩
  · exact (registerWrite_enables hc hbe hp).trans (congrArg _ (capture_failed (by decide) _ _))
  · have hne := pcieCode_poisoned s off v
    have e : exec (.registerWrite false off v 15 true) s = .next (failed (pcieCode s off v 15 true) 0 off) :=
      (registerWrite_failed hc rfl hne hp).trans (congrArg _ (capture_failed hne _ _))
    rw [pcieCode_poison] at e
    exact e
  · have e := (pcieCode_whole s off v).symm
    exact (registerWrite_failed hc e.symm hne hp).trans (congrArg _ (capture_failed hne _ _))
  · exact (registerWrite_window hc (writeWindow_noField v poison h)).trans (congrArg _ (capture_failed (by decide) _ _))
  · exact (registerWrite_window hc (writeWindow_passive v poison h hoff hps)).trans (congrArg _ (capture_failed (by decide) _ _))
  · exact ⟨run_put hc (plain_apart r hr).2 hi hj ha (blockWrite_plain hr _ v hi hj), rd_wr_self (s := noted s r i j) hw _ _ _ _⟩
  · obtain ⟨-, hm, hj⟩ := boundary_apart r hr
    exact ⟨run_putLater hc hm hi hj ha (blockWrite_boundary hr _ v hi hj), rd_wrLater_self (s := noted s r i 0) hw _ _ _ _,
      rdF_wrLater_self (noted s r i 0) _ _ _ _⟩
  · have hp : calm (put (noted s .CR_W0 i 0) .CR_W0 i 0 v) = true := calm_entry (calm_noted hc _ _ _) _ (by decide) hi (by decide)
    refine run_entry .CR_W0 hi (by decide) ha (blockWrite_CR_W0 _ v hi) ?_ ?_ ?_
    · split
      · exact hp
      · exact (near_setCio _ _).calm hp
    · split <;> rfl
    · split <;> rfl
  · have hb : blockWrite (noted s r i 0) r i 0 v = clearFlags (noted s r i 0) r v i := if_pos hr
    obtain ⟨hf, he, hrd⟩ := clearFlags_spec (s := noted s r i 0) hw hr hi hj v
    refine ⟨_, run_entry r hi hj ha hb (onlyFlags_calm hf (calm_noted hc r i 0) (by rw [he])) (by rw [he]; rfl) (by rw [he]; rfl), hf, he, hrd⟩
  · exact ⟨run_entry .SAF_CFG (by decide) (by decide) ha rfl hc rfl rfl, rfl⟩
  · have e : postedApply s = wr { s with rf := { s.rf with posted := ps } } r w i j := by
      unfold postedApply
      rw [hps]
      exact applyPosted_alone (calm_alone hc) hf hpr
    exact run_is e (calm_entry (s := { s with rf := { s.rf with posted := ps } }) hc w hm.symm hi hj) rfl rfl
  · have e : postedApply s = s := by
      unfold postedApply
      rw [hps]
    exact run_is e hc rfl rfl
  · have hu : calm (s.setGlb fun g => { g with scrubCnt := (g.scrubCnt + 1) % 2 ^ 32 }) = true := hc
    refine run_is (f := fun s => scrubPass s bad) (scrubPass_known hb) ?_ ?_ ?_
    · split
      · exact hu
      · exact calm_raise hu 2 (by decide)
    · split <;> simp
    · split <;> simp

end Sys2Proof.Machine
end

section
/-! Stitches and what proceeds with them (R8, R9, R34 to R36, R74, R235, R343, R353, R389): the number of the stitch, the
end of ramps, audio start, the fence, the TCXO, waiting commands and acknowledged replies. -/

namespace Sys2Proof.Machine

/-! ## The number of the stitch (R8) -/

/-- No configuration that waits for its boundary comes or goes, and no record is put off (R397, R400). -/
def SameNet (s t : State) : Prop := t.pl.net = s.pl.net ∧ t.pl.deferred = s.pl.deferred

theorem SameNet.refl (s : State) : SameNet s s := ⟨rfl, rfl⟩

theorem SameNet.trans {s t u : State} (h : SameNet s t) (g : SameNet t u) : SameNet s u :=
  ⟨g.1.trans h.1, g.2.trans h.2⟩

theorem SameNet.of_pl {s t : State} (h : t.pl = s.pl) : SameNet s t := ⟨by rw [h], by rw [h]⟩

theorem Beside.sameNet {s t : State} (h : Beside s t) : SameNet s t := .of_pl (by rw [h.1])

theorem sameNet_raise (s : State) (r : Reg) (bits i : Nat) : SameNet s (raise s r bits i) := .of_pl (raise_pl s r bits i)

theorem sameNet_forEach {α : Type} {f : α → State → State} (h : ∀ x s, SameNet s (f x s)) (xs : List α) (s : State) :
    SameNet s (forEach xs s f) := forEach_rel SameNet.refl SameNet.trans h xs s

theorem sameNet_ite {c : Prop} [Decidable c] {s a b : State} (ha : SameNet s a) (hb : SameNet s b) :
    SameNet s (if c then a else b) := by split <;> assumption

theorem sameNet_ownerGone (s : State) (who : Requester) : SameNet s (bsOwnerGone s who) :=
  sameNet_forEach (f := fun k s =>
    if (setOf s k).owner ≠ some who then s
    else if (setOf s k).state = .open then bsFree s k
    else putSet s k { setOf s k with owner := none }) (fun k s => by
      split
      · exact .refl s
      · split <;> exact SameNet.of_pl rfl) _ s

theorem sameNet_orphanRequests (s : State) (k : Nat) : SameNet s (orphanRequests s k) := .of_pl rfl

theorem sameNet_abortXfer (s : State) : SameNet s (abortXfer s) := ⟨rfl, rfl⟩

theorem sameNet_setSes (s : State) (f : Sessions → Sessions) : SameNet s (s.setSes f) := .of_pl rfl

theorem sameNet_setPr (s : State) (f : Pair → Pair) : SameNet s (s.setPr f) := .of_pl rfl

theorem sameNet_closeSession (s : State) (k : Nat) : SameNet s (closeSession s k) := by
  unfold closeSession
  split
  · extract_lets a b
    have ha : SameNet s a := by
      show SameNet s (if _ then _ else _)
      exact sameNet_ite (sameNet_abortXfer s) (.refl s)
    have hb : SameNet s b := (ha.trans (sameNet_ownerGone a _)).trans (sameNet_orphanRequests _ k)
    exact (hb.trans (sameNet_setSes b _)).trans (sameNet_raise _ _ _ _)
  · exact .refl s

theorem sameNet_leaveActive (s : State) : SameNet s (leaveActive s) :=
  (sameNet_forEach (fun k s => (beside_tbMirror s k true).sameNet) _ s).trans
    (sameNet_forEach (fun k s => sameNet_closeSession s k) _ _)

theorem sameNet_dropTransfer (s : State) : SameNet s (dropTransfer s) := by
  unfold dropTransfer
  split
  · exact sameNet_ite ⟨rfl, rfl⟩ (.refl s)
  · exact .refl s

theorem sameNet_takeActive (s : State) : SameNet s (takeActive s) := by
  unfold takeActive
  refine SameNet.trans ((sameNet_forEach (fun k s => (beside_tbMirror s k false).sameNet) _ s).trans (sameNet_dropTransfer _))
    (sameNet_forEach (fun n s => ?_) _ _)
  exact SameNet.trans (t := if fv s .SES_IP4_ADDR ≠ 0 then emit s (.gratuitous n false) else s)
    (sameNet_ite (.of_pl rfl) (.refl s)) (sameNet_ite (.of_pl rfl) (.refl _))

theorem sameNet_roleChange (s : State) : SameNet s (roleChange s) :=
  SameNet.trans (.of_pl rfl) (sameNet_raise _ _ _ _)

theorem sameNet_prState (s : State) (st : PrState) : SameNet s (prState s st) := by
  unfold prState
  extract_lets old leaves sync a b c
  split
  · exact .refl s
  · have ha : SameNet s a := (sameNet_setPr s _).trans (beside_powers _).sameNet
    have hb : SameNet s b := ha.trans (sameNet_ite (sameNet_roleChange a) (.refl a))
    have hc : SameNet s c := hb.trans (sameNet_ite ((sameNet_raise b _ _ _).trans (beside_lining _ _).sameNet) (.refl b))
    exact hc.trans (sameNet_ite (sameNet_takeActive c) (sameNet_ite (sameNet_leaveActive c) (.refl c)))

theorem sameNet_noteResort (s : State) : SameNet s (noteResort s) := by
  unfold noteResort
  exact sameNet_ite (sameNet_setPr s _) (.refl s)

theorem sameNet_unsync (s : State) (cause : Nat) : SameNet s (unsync s cause) := by
  unfold unsync
  exact ((sameNet_setPr s _).trans (sameNet_prState _ _)).trans (sameNet_noteResort _)

theorem sameNet_yieldRole (s : State) : SameNet s (yieldRole s) := by
  unfold yieldRole
  extract_lets driving a
  have ha : SameNet s a := (sameNet_setPr s _).trans (sameNet_prState _ _)
  exact sameNet_ite (.refl s) (ha.trans (sameNet_ite ((sameNet_setPr a _).trans (beside_gate _ _).sameNet) (.refl a)))

theorem sameNet_roleRise (s : State) : SameNet s (roleRise s) := by
  unfold roleRise
  extract_lets old rev a b
  have ha : SameNet s a := (sameNet_setPr s _).trans (sameNet_prState _ _)
  have hb : SameNet s b := ha.trans (by
    show SameNet a (if _ then _ else _)
    exact sameNet_ite (.refl a) (sameNet_raise a _ _ _))
  exact hb.trans (sameNet_ite (sameNet_yieldRole b) (.refl b))

theorem sameNet_roleFall (s : State) : SameNet s (roleFall s) := by
  unfold roleFall
  extract_lets rev a
  have ha : SameNet s a := sameNet_ite (sameNet_raise s _ _ _) (.refl s)
  exact ha.trans (sameNet_ite (.refl a) (sameNet_ite (sameNet_prState a _) (sameNet_unsync a _)))

theorem sameNet_wr (s : State) (r : Reg) (v : Word) : SameNet s (wr s r v) := .of_pl rfl

theorem sameNet_prCfgBoundary (s : State) : SameNet s (prCfgBoundary s) := by
  unfold prCfgBoundary
  extract_lets due a
  have ha : SameNet s a := sameNet_setPr s _
  exact (ha.trans (sameNet_forEach (fun w s => sameNet_wr s _ _) due a)).trans (sameNet_noteResort _)

theorem sameNet_roleEnds (s : State) : SameNet s (roleEnds s) := by
  unfold roleEnds
  exact sameNet_ite ((((sameNet_setPr s _).trans (beside_powers _).sameNet).trans (sameNet_roleChange _)).trans
    (sameNet_leaveActive _)) (.refl s)

/-- What a unit of a pair does at a boundary leaves the loader's waiting configuration alone. -/
theorem sameNet_pairBoundary (s : State) : SameNet s (pairBoundary s) := by
  unfold pairBoundary
  split
  · exact .refl s
  · extract_lets rise fall a b c
    have ha : SameNet s a := sameNet_setPr s _
    have hb : SameNet s b := (ha.trans (sameNet_prCfgBoundary a)).trans (sameNet_setPr _ _)
    have hc : SameNet s c := hb.trans (sameNet_ite (sameNet_roleRise b) (sameNet_ite (sameNet_roleFall b) (.refl b)))
    exact (hc.trans (sameNet_setPr c _)).trans (sameNet_roleEnds _)

/-- Without a configuration that waits and without records put off, the boundary of a configuration reset does nothing. -/
theorem cfgBoundary_idle {s : State} (hn : s.pl.net = none) (hd : s.pl.deferred = []) : cfgBoundary s = s := by
  unfold cfgBoundary
  rw [hn]
  exact if_pos (.inl (by rw [hd]; rfl))

/-- Engine work leaves the global block, the loader and the run of the audio alone. -/
def EngineOnly (s t : State) : Prop := t.glb = s.glb ∧ t.pl = s.pl ∧ t.mix.audioOn = s.mix.audioOn

theorem EngineOnly.refl (s : State) : EngineOnly s s := ⟨rfl, rfl, rfl⟩

theorem EngineOnly.trans {s t u : State} (h : EngineOnly s t) (g : EngineOnly t u) : EngineOnly s u :=
  ⟨g.1.trans h.1, g.2.1.trans h.2.1, g.2.2.trans h.2.2⟩

theorem engineOnly_hemBlock (s : State) (d : Nat) (h a b : List Int) : EngineOnly s (hemBlock s d h a b).2 := by
  unfold hemBlock
  dsimp only
  split
  · exact ⟨rfl, rfl, rfl⟩
  · split
    · exact ⟨raise_glb _ _ _ _, raise_pl _ _ _ _, congrArg Mix.audioOn (raise_mix _ _ _ _)⟩
    · exact ⟨rfl, rfl, rfl⟩

theorem engineOnly_dests (s : State) (f : Mix → Tbl Dst) : EngineOnly s (s.setMix fun m => { m with dests := f m }) :=
  ⟨rfl, rfl, rfl⟩

theorem engineOnly_runDst (xs : Tbl (List Int)) (errs : List (Nat × List Int × List Int)) (d : Nat) (s : State) :
    EngineOnly s (runDst xs errs d s) := by
  unfold runDst
  split
  · exact .refl s
  · extract_lets h e
    exact (engineOnly_hemBlock s d h e.1 e.2).trans (engineOnly_dests _ _)

theorem engineOnly_engine (s : State) (errs : List (Nat × List Int × List Int)) : EngineOnly s (engine s errs) := by
  unfold engine
  extract_lets a xs b c d
  have ha : EngineOnly s a := ⟨rfl, rfl, rfl⟩
  have hb : EngineOnly s b := ha.trans (forEach_rel .refl .trans (engineOnly_runDst xs errs) _ a)
  have hc : EngineOnly s c := hb.trans (forEach_rel .refl .trans (fun v s => by split <;> exact ⟨rfl, rfl, rfl⟩) _ b)
  have hd : EngineOnly s d := hc.trans (by show EngineOnly c (if _ then _ else _); split <;> exact ⟨rfl, rfl, rfl⟩)
  exact hd.trans ⟨rfl, rfl, rfl⟩

theorem engineOnly_runOwed (s : State) : EngineOnly s (runOwed s) := by
  unfold runOwed
  split
  · exact EngineOnly.trans ⟨rfl, rfl, rfl⟩ (engineOnly_engine _ _)
  · exact .refl s

theorem near_mcsPass (s : State) : Near s (mcsPass s) :=
  (near_setMc s 0 _).trans (near_forEach (fun m s => near_mcRunOn s m) _ _)

/-- A boundary out of reset adds 1 to the stitch number while audio runs, and leaves it alone before (R8). -/
theorem boundary_stitch {s : State} (env : StitchEnv) {cfg : State → State} (hr : s.glb.inReset = false)
    (hc : ∀ t, t.pl = s.pl → (cfg t).mix.stitch = t.mix.stitch) :
    (boundary s env cfg).mix.stitch = if s.mix.audioOn = true then (s.mix.stitch + 1) % 2 ^ 64 else s.mix.stitch := by
  have n := near_mcsPass (s.setMix fun m => { m with boundaryAt := s.now })
  have hm : (mcsPass (s.setMix fun m => { m with boundaryAt := s.now })).mix = { s.mix with boundaryAt := s.now } := by rw [n.1]; rfl
  have hp : (mcsPass (s.setMix fun m => { m with boundaryAt := s.now })).pl = s.pl := by rw [n.1]; rfl
  unfold boundary
  rw [if_neg (by rw [hr]; decide)]
  generalize mcsPass (s.setMix fun m => { m with boundaryAt := s.now }) = u at hm hp
  dsimp only
  have ha : u.mix.audioOn = s.mix.audioOn := by rw [hm]
  have hs : u.mix.stitch = s.mix.stitch := by rw [hm]
  rw [ha]
  cases s.mix.audioOn with
  | false =>
    have e := hc { u with shed := { u.shed with fenced := none } } hp
    simp [e, hs]
  | true =>
    have e := hc (u.setMix fun m =>
      { (if m.ran = true then m.stepRamps else m) with
        shown := m.tables, stitch := ((if m.ran = true then m.stepRamps else m).stitch + 1) % 2 ^ 64 }) hp
    have hst : (if u.mix.ran = true then u.mix.stepRamps else u.mix).stitch = u.mix.stitch := by split <;> rfl
    simp [hst] at e
    simp [e, hs]

/-- STITCH_BOUNDARY out of reset, with no configuration waiting (R8). -/
theorem stitchStep_stitch {s : State} (env : StitchEnv) (hr : s.glb.inReset = false) (hn : s.pl.net = none)
    (hd : s.pl.deferred = []) :
    (stitchStep s env).mix.stitch = if s.mix.audioOn = true then (s.mix.stitch + 1) % 2 ^ 64 else s.mix.stitch := by
  obtain ⟨hg, hp, ha⟩ := engineOnly_runOwed s
  have hb := boundary_stitch (s := runOwed s) env (cfg := fun s => cfgBoundary (pairBoundary s)) (by rw [hg]; exact hr) (fun t ht => by
    obtain ⟨h1, h2⟩ := sameNet_pairBoundary t
    rw [cfgBoundary_idle (by rw [h1, ht, hp]; exact hn) (by rw [h2, ht, hp]; exact hd)]
    exact pairBoundary_stitch t)
  unfold stitchStep
  rw [if_neg (by rw [hr]; decide)]
  simp [hb, ha]

end Sys2Proof.Machine
end

section
/-! The end of ramps (R74), audio start (R389) and the fence's judgement of a stitch (R34 to R36). -/

namespace Sys2Proof.Machine

/-- What `calm` reads of the mix, the dynamics, the fabric and the loads that are shed. -/
theorem calm_work {s : State} (h : calm s = true) {m : Mix} {y : Dyn} {f : Fab} {d : Shed} (hm : m.sets = s.mix.sets)
    (hf : f.decided = s.fab.decided) (hd : d.exhausted = s.shed.exhausted) :
    calm { s with mix := m, dyn := y, fab := f, shed := d } = true := by
  obtain ⟨h1, h2, h3, h4, h5, h6, h7, h8, h9, h10, h11⟩ := calm_out h
  have h4' : fb { s with mix := m, dyn := y, fab := f, shed := d } .SES_MBOX_EN = false := h4
  have h10' : isPair { s with mix := m, dyn := y, fab := f, shed := d } = false := h10
  simp only [calm, h4', h10', hf, hm, hd, h1, h2, h3, h5, h6, h7, h11]
  simp [h8, h9]

/-! ## The end of ramps -/

/-- The judgement of VCORE moves the fabric's voltage alone (R51). -/
theorem vcoreEval_fab (s : State) : ∃ f, vcoreEval s = { s with fab := f } ∧ f.decided = s.fab.decided := by
  have raises (n : Nat) : ∃ f, vRaise s n = { s with fab := f } ∧ f.decided = s.fab.decided := ⟨_, rfl, rfl⟩
  have stays : ∃ f, s = { s with fab := f } ∧ f.decided = s.fab.decided := ⟨_, rfl, rfl⟩
  unfold vcoreEval
  dsimp only
  split
  · exact stays
  · split
    · split
      · exact raises _
      · split
        · exact ⟨_, rfl, rfl⟩
        · exact stays
    · split
      · exact raises _
      · exact stays
    · split
      · exact raises _
      · exact stays
    · exact stays

theorem exec_rampEnd {s : State} (h : calm s = true) :
    ∃ t, exec .rampEnd s = .next t ∧ t.mix = s.mix.endRamps ∧ t.dyn = (metersGone (s.setMix Mix.endRamps)).dyn ∧
      t = { s with mix := t.mix, dyn := t.dyn, fab := t.fab } := by
  obtain ⟨f, e, hf⟩ := vcoreEval_fab (metersGone (s.setMix Mix.endRamps))
  have ev : rampEnd s = { metersGone (s.setMix Mix.endRamps) with fab := f } := e
  exact ⟨_, run_is (f := rampEnd) ev (calm_work (d := s.shed) h rfl hf rfl) rfl rfl, rfl, rfl, rfl⟩

/-! ## Audio start -/

theorem Tbl.get?_mapV {α β : Type} (t : Tbl α) (f : Nat → α → β) (k : Nat) :
    Tbl.get? (Tbl.mapV t f) k = (Tbl.get? t k).map (f k) := by
  induction t with
  | nil => rfl
  | cons e t ih =>
    by_cases h : e.1 = k
    · simp [Tbl.mapV, Tbl.get?, h]
    · simpa [Tbl.mapV, Tbl.get?, h] using ih

/-- Nothing is left of the registers and the time bases' times that the blocks passed are counted from (R389). -/
theorem blocksPassed_of_eq {s t : State} (hr : t.rf = s.rf) (ht : ∀ k, (tbOf t k).t = (tbOf s k).t) (m : Nat) :
    blocksPassed t m = blocksPassed s m := by
  have hf (r : Reg) (i j : Nat) : rdF t r i j = rdF s r i j := by unfold rdF rd; rw [hr]
  have hw (r : Reg) (i j : Nat) : rd t r i j = rd s r i j := by unfold rd; rw [hr]
  have h1 : gridTime t m = gridTime s m := by
    unfold gridTime tns mediaTb ff
    rw [hf, hw, ht]
  have h2 : blockUnits t m = blockUnits s m := by
    unfold blockUnits ff
    rw [hf]
  unfold blocksPassed
  rw [h1, h2]

/-- The blocks passed are counted from the time bases as they are (R389). -/
theorem loadStitch_stitch (s : State) : (loadStitch s).mix.stitch = blocksPassed s 0 := by
  unfold loadStitch
  extract_lets a b
  have hb : b.rf = a.rf ∧ b.tb = a.tb :=
    forEach_rel (R := fun s t => t.rf = s.rf ∧ t.tb = s.tb) (f := fun m s => setMc s m { mcOf s m with blocks := blocksPassed s m })
      (fun _ => ⟨rfl, rfl⟩) (fun h g => ⟨g.1.trans h.1, g.2.trans h.2⟩) (fun _ _ => ⟨rfl, rfl⟩) _ a
  show blocksPassed b 0 = blocksPassed s 0
  refine (blocksPassed_of_eq (s := s) hb.1 (fun k => ?_) 0)
  have ha : tbOf b k = tbOf a k := by unfold tbOf; rw [hb.2]
  rw [ha]
  show (Tbl.getD (Tbl.mapV s.tb.tbs fun _ x => { x with acc := 0 }) k {}).t = (Tbl.getD s.tb.tbs k {}).t
  unfold Tbl.getD
  rw [Tbl.get?_mapV]
  cases Tbl.get? s.tb.tbs k <;> rfl

theorem audioStart_idle {s : State} (h : ¬ (s.pl.started = true ∧ s.glb.mode = .starting ∧ s.mix.audioOn = false) ∨
    s.fab.vstate = .raising ∨ s.fab.vstate = .confirming) : audioStart s = s := by
  refine if_neg fun ⟨h1, h2, h3, h4⟩ => ?_
  rcases h with h | h | h
  · exact h ⟨h1, h2, by simpa using h3⟩
  · simp [vBusy, h] at h4
  · simp [vBusy, h] at h4

/-- RUNNING, with the last boundary so long ago (R389). -/
def entersRunning (w : State) (late : Nat) : State := { w with
  glb := { w.glb with mode := .running }
  pl := { w.pl with started := false, phase := 6, startMs := msSince w w.pl.releaseAt }
  mix := { w.mix with audioOn := true, ran := false, boundaryAt := w.now - late } }

/-- The state of the start of audio (R389). -/
def audioStarted (s : State) : State :=
  vcoreEval (startLanes (enableAll (entersRunning (refAudioStart (loadStitch s) (some (gridLate s)))
    ((gridTime s 0 % blockUnits s 0).toNat / 147000000000000))))

theorem entersRunning_eq (w : State) (late : Nat) :
    (let s := w.setGlb fun g => { g with mode := .running }
      let s := s.setPl fun p => { p with started := false, phase := 6, startMs := msSince s p.releaseAt }
      s.setMix fun m => { m with audioOn := true, ran := false, boundaryAt := s.now - late }) = entersRunning w late := rfl

theorem audioStart_starts {s : State} (h1 : s.pl.started = true) (h2 : s.glb.mode = .starting) (h3 : s.mix.audioOn = false)
    (h4 : ¬ (s.fab.vstate = .raising ∨ s.fab.vstate = .confirming)) : audioStart s = audioStarted s := by
  have h5 : (!vBusy s) = true := by simpa [vBusy] using h4
  unfold audioStart audioStarted
  rw [if_pos ⟨h1, h2, by rw [h3]; rfl, h5⟩, ← entersRunning_eq]

theorem audioStarted_stitch (s : State) : (audioStarted s).mix.stitch = blocksPassed s 0 := by
  have e (w : State) (late : Nat) : (entersRunning w late).mix.stitch = w.mix.stitch := rfl
  unfold audioStarted
  rw [vcoreEval_stitch, startLanes_stitch, enableAll_stitch, e, refAudioStart_stitch, loadStitch_stitch]

/-! ## The fence -/

/-- The state with the given needles. -/
def withNeedles (s : State) (n : Tbl Needle) : State := s.setFab fun f => { f with needles := n }

/-- A loop over the needles that makes of each one what `g` says. -/
theorem forEach_needles {f : Nat → State → State} {g : Nat → Needle → Needle} {s : State} (n : Nat) (t0 : Tbl Needle)
    (hf : ∀ k, k < n → ∀ t : Tbl Needle, Tbl.getD t k {} = Tbl.getD t0 k {} → ∃ t', f k (withNeedles s t) = withNeedles s t' ∧
      ∀ j, Tbl.getD t' j {} = if j = k then g k (Tbl.getD t0 k {}) else Tbl.getD t j {}) :
    ∃ t, forEach (List.range n) (withNeedles s t0) f = withNeedles s t ∧
      ∀ j, Tbl.getD t j {} = if j < n then g j (Tbl.getD t0 j {}) else Tbl.getD t0 j {} := by
  induction n with
  | zero => exact ⟨t0, rfl, fun j => by simp⟩
  | succ n ih =>
    obtain ⟨t, e, ht⟩ := ih fun k hk => hf k (Nat.lt_succ_of_lt hk)
    obtain ⟨t', e', ht'⟩ := hf n (Nat.lt_succ_self n) t (by rw [ht]; simp)
    refine ⟨t', ?_, fun j => ?_⟩
    · unfold forEach at e ⊢
      rw [List.range_succ, List.foldl_append, e]
      exact e'
    · rw [ht', ht]
      by_cases hj : j = n
      · simp [hj]
      · simp only [if_neg hj, Nat.lt_succ_iff_lt_or_eq, or_iff_left hj]

/-- Every needle has the pace measured for it, and is as it was beside that. -/
theorem forEach_measured (s : State) (p : List Nat) :
    ∃ t, forEach (List.range 32) s (fun k s => setNeedle s k { needleOf s k with pace := p.getD k 0 }) = withNeedles s t ∧
      ∀ j, Tbl.getD t j {} = if j < 32 then { needleOf s j with pace := p.getD j 0 } else needleOf s j :=
  forEach_needles (s := s) (g := fun k x => { x with pace := p.getD k 0 }) 32 s.fab.needles fun k _ t hk => by
    refine ⟨Tbl.put t k { Tbl.getD s.fab.needles k {} with pace := p.getD k 0 }, ?_, fun j => ?_⟩
    · show setNeedle (withNeedles s t) k { Tbl.getD t k {} with pace := _ } = _
      rw [hk]; rfl
    · by_cases h : j = k
      · subst h; simp
      · rw [Tbl.getD_put_ne _ _ _ h, if_neg h]

/-- How one needle is judged against a full pace (R35). -/
def judgeNeedle (full k : Nat) (s : State) : State :=
  let x := needleOf s k
  if !x.inService then s
  else
    let slow := decide (x.pace < full * 7 / 256)
    if slow ∧ x.slow then reportFault (needleOut (setNeedle s k { x with slow := true }) k) 0x09 k (k / 16)
    else setNeedle s k { x with slow := slow }

/-- The judgement of the fabric, once the needles are judged (R36). -/
def judgeFabric (full : Nat) (s : State) : State :=
  let pace := (List.range 32).foldl (fun a k => if (needleOf s k).inService then a + (needleOf s k).pace else a) 0
  let slow := decide (pace < full * needlesOk s / 32)
  let was := s.fab.slowPrev
  let ok := decide (tCurve s.fab.vtarget * needlesOk s / 32 ≤ pace)
  let s := s.setFab fun f => { f with
    pace := pace, slowPrev := slow, confirm := if f.vstate = .confirming then (if ok then f.confirm + 1 else 0) else 0 }
  if slow ∧ was then reportFault (paceFault s pace) 0x0A 0 (slowRegion s) else s

theorem judgePace_eq (s : State) (p : List Nat) : judgePace s p = judgeFabric (tNow s) (forEach (List.range 32)
    (forEach (List.range 32) s fun k s => setNeedle s k { needleOf s k with pace := p.getD k 0 }) (judgeNeedle (tNow s))) := by
  unfold judgePace judgeFabric
  delta judgeNeedle
  with_reducible rfl

/-- No needle in service is slow: its pace is judged so, and is as measured (R35). -/
theorem forEach_judged (s : State) (t0 : Tbl Needle)
    (hp : ∀ k, k < 32 → (Tbl.getD t0 k {}).inService = true → tNow s * 7 / 256 ≤ (Tbl.getD t0 k {}).pace) :
    ∃ t, forEach (List.range 32) (withNeedles s t0) (judgeNeedle (tNow s)) = withNeedles s t ∧
      ∀ j, Tbl.getD t j {} = if j < 32 then
        (if (Tbl.getD t0 j {}).inService = true then { Tbl.getD t0 j {} with slow := false } else Tbl.getD t0 j {})
        else Tbl.getD t0 j {} :=
  forEach_needles (s := s) (g := fun _ x => if x.inService = true then { x with slow := false } else x) 32 t0
    fun k hk t ht => by
      have hx : needleOf (withNeedles s t) k = Tbl.getD t0 k {} := ht
      unfold judgeNeedle
      dsimp only
      rw [hx]
      by_cases hs : (Tbl.getD t0 k {}).inService = true
      · have hq : decide ((Tbl.getD t0 k {}).pace < tNow s * 7 / 256) = false :=
          decide_eq_false (Nat.not_lt.mpr (hp k hk hs))
        rw [hq, if_neg (by rw [hs]; decide), if_neg (by simp), if_pos hs]
        refine ⟨Tbl.put t k { Tbl.getD t0 k {} with slow := false }, rfl, fun j => ?_⟩
        by_cases h : j = k
        · subst h; simp
        · rw [Tbl.getD_put_ne _ _ _ h, if_neg h]
      · rw [if_pos (by simpa using hs), if_neg hs]
        refine ⟨t, rfl, fun j => ?_⟩
        by_cases h : j = k
        · subst h; simp [ht]
        · rw [if_neg h]

/-- The pace of the fabric: what the needles in service are paced at together (R36). -/
def totalPace (s : State) (p : List Nat) : Nat :=
  (List.range 32).foldl (fun a k => if (needleOf s k).inService = true then a + p.getD k 0 else a) 0

/-- A stitch in which neither a needle nor the fabric is slow (R35, R36). -/
theorem judgePace_well {s : State} {p : List Nat}
    (hp : ∀ k, k < 32 → (needleOf s k).inService = true → tNow s * 7 / 256 ≤ p.getD k 0)
    (ht : tNow s * needlesOk s / 32 ≤ totalPace s p) :
    ∃ f : Fab, judgePace s p = { s with fab := f } ∧ f.decided = s.fab.decided ∧ f.slack = s.fab.slack ∧
      f.pace = totalPace s p ∧ f.slowPrev = false ∧ ∀ k, k < 32 →
        (Tbl.getD f.needles k {}).pace = p.getD k 0 ∧ (Tbl.getD f.needles k {}).inService = (needleOf s k).inService := by
  obtain ⟨t1, e1, h1⟩ := forEach_measured s p
  obtain ⟨t2, e2, h2⟩ := forEach_judged s t1 fun k hk hs => by
    rw [h1, if_pos hk] at hs ⊢
    exact hp k hk hs
  have hn : ∀ k, k < 32 → (needleOf (withNeedles s t2) k).pace = p.getD k 0 ∧
      (needleOf (withNeedles s t2) k).inService = (needleOf s k).inService := fun k hk => by
    show (Tbl.getD t2 k {}).pace = _ ∧ (Tbl.getD t2 k {}).inService = _
    rw [h2, if_pos hk, h1, if_pos hk]
    split <;> exact ⟨rfl, rfl⟩
  have hpace : (List.range 32).foldl (fun a k => if (needleOf (withNeedles s t2) k).inService = true then
      a + (needleOf (withNeedles s t2) k).pace else a) 0 = totalPace s p :=
    List.foldl_rel (r := Eq) rfl fun k hk a b hab => by
      obtain ⟨hq, hs⟩ := hn k (List.mem_range.mp hk)
      rw [hq, hs, hab]
  have hok : needlesOk (withNeedles s t2) = needlesOk s := by
    unfold needlesOk
    rw [List.filter_congr fun k hk => (hn k (List.mem_range.mp hk)).2]
  have hslow : decide (totalPace s p < tNow s * needlesOk s / 32) = false := decide_eq_false (Nat.not_lt.mpr ht)
  rw [judgePace_eq, e1, e2]
  unfold judgeFabric
  dsimp only
  rw [hpace, hok, hslow, if_neg (by simp)]
  exact ⟨_, rfl, rfl, rfl, rfl, rfl, hn⟩

theorem fenceStep_plain (s : State) {m : FenceMeas} (hv : m.volts = none) (ht : m.tj = none) : fenceStep s m = fence s m := by
  unfold fenceStep
  rw [hv, ht]

theorem fence_idle {s : State} (m : FenceMeas)
    (h : (s.mix.audioOn = false ∧ s.pl.started = false) ∨ s.shed.fenced = some s.mix.stitch) : fence s m = s := by
  unfold fence
  split
  · rfl
  · rename_i hf
    obtain ⟨ha, hs⟩ := h.resolve_right hf
    rw [if_pos (by rw [ha]; rfl), if_neg (by rw [hs]; decide)]

/-- The state in which a complete stitch's paces are judged. -/
def stitchComplete (s : State) (slack : Nat) : State := { s with
  shed := { s.shed with fenced := some s.mix.stitch, missRun := 0 }
  fab := { s.fab with slack := min s.fab.slack slack } }

theorem fence_complete {s : State} {m : FenceMeas} (ha : s.mix.audioOn = true) (hf : s.shed.fenced ≠ some s.mix.stitch)
    (hq : s.glb.mode ≠ .quiet) (hm : m.complete = true) (hi : s.saf.injFence = false) :
    fence s m = judgePace (stitchComplete s m.slack) m.paces := by
  have hsaf : ({ s.saf with injFence := false } : Saf) = s.saf := by rw [← hi]
  unfold fence stitchComplete
  rw [if_neg hf, if_neg (by rw [ha]; decide), if_neg hq, hm, hi]
  simp [State.setSaf, State.setFab, hsaf]

theorem exec_fence {s : State} {m : FenceMeas} (h : calm s = true) (hv : m.volts = none) (htj : m.tj = none)
    (ha : s.mix.audioOn = true) (hf : s.shed.fenced ≠ some s.mix.stitch)
    (hq : s.glb.mode ≠ .quiet) (hm : m.complete = true) (hi : s.saf.injFence = false)
    (hp : ∀ k, k < 32 → (needleOf s k).inService = true → tNow s * 7 / 256 ≤ m.paces.getD k 0)
    (ht : tNow s * needlesOk s / 32 ≤ totalPace s m.paces) :
    ∃ t, exec (.fence m) s = .next t ∧ t = { s with fab := t.fab, shed := t.shed } ∧
      t.shed = { s.shed with fenced := some s.mix.stitch, missRun := 0 } ∧
      t.fab.slack = min s.fab.slack m.slack ∧ t.fab.pace = totalPace s m.paces ∧ t.fab.slowPrev = false ∧
      ∀ k, k < 32 → (needleOf t k).pace = m.paces.getD k 0 ∧ (needleOf t k).inService = (needleOf s k).inService := by
  obtain ⟨f, e, hd, hs, hpace, hslow, hn⟩ := judgePace_well (s := stitchComplete s m.slack) (p := m.paces) hp ht
  have ev : fenceStep s m = { stitchComplete s m.slack with fab := f } := by
    rw [fenceStep_plain s hv htj, fence_complete ha hf hq hm hi, e]
  exact ⟨_, run_is (f := fun s => fenceStep s m) ev (calm_work (m := s.mix) (y := s.dyn) h rfl hd rfl) rfl rfl, rfl, rfl, hs,
    hpace, hslow, hn⟩

end Sys2Proof.Machine
end

section
/-! How a session's command starts, ends and is answered (R341 to R344). -/

namespace Sys2Proof.Machine

/-! ## Sessions -/

@[simp] theorem sesOf_putSes (s : State) (k : Nat) (x : Ses) : sesOf (putSes s k x) k = some x := Tbl.get?_put_self _ _ _

@[simp] theorem putSes_putSes (s : State) (k : Nat) (x y : Ses) : putSes (putSes s k x) k y = putSes s k y := by
  show { s with ses := { s.ses with ses := Tbl.put (Tbl.put s.ses.ses k x) k y } } = _
  rw [Tbl.put_put]
  rfl

theorem modSes_eq {s : State} {k : Nat} {x : Ses} (f : Ses → Ses) (h : sesOf s k = some x) : modSes s k f = putSes s k (f x) := by
  have e : Tbl.upd s.ses.ses k f = Tbl.put s.ses.ses k (f x) := by
    unfold Tbl.upd
    rw [show Tbl.get? s.ses.ses k = some x from h]
  show { s with ses := { s.ses with ses := Tbl.upd s.ses.ses k f } } = _
  rw [e]
  rfl

/-! ## A command starts -/

/-- A command that ends at once (R342). -/
theorem startCommand_ends {s t : State} {k : Nat} {x y : Ses} {q : Request} {e : Ended} (hx : sesOf s k = some x)
    (hr : runOp (putSes s k { x with busy := some q }) k q = (t, some e)) (hy : sesOf t k = some y) :
    startCommand s k q = endCommand t k q e.code e.body e.after := by
  unfold startCommand
  rw [hx, modSes_eq _ hx]
  dsimp only
  rw [hr]
  simp [hy]

/-- Where nothing that is asked of every command refuses it, a command's body has its length, and its own result stands. -/
theorem amongFails_none {s : State} {k : Nat} {q : Request} (go : State × Option Ended)
    (h : firstCode (opFails s k q) = .ok) : amongFails s q (opFails s k q) go = go := by
  have hl : opLength q.op q.body = true := by
    unfold opFails at h
    cases hr : opRoles q.op with
    | none =>
      rw [hr] at h
      cases h
    | some rs =>
      rw [hr] at h
      cases hb : opLength q.op q.body with
      | true => rfl
      | false => cases firstCode_ok h (c := .badValue) (by simp [hb])
  unfold amongFails
  rw [if_pos]
  refine ⟨hl, ?_⟩
  cases go.2 with
  | none => simp [firstCode, h]
  | some e => cases hc : e.code <;> simp [firstCode, h, hc, Code.rank]

/-! ## A command ends -/

/-- The session `y` of a network client is answered: its reply is stored and sent (R341, R344). -/
def repliedTo (t : State) (k : Nat) (y : Ses) (q : Request) (c : Code) (body : List Byte) : State :=
  emit (putSes t k { markPos y q.seq (.stored c.num q.op body) with busy := none, cmds := satInc 0xFFFFFFFF y.cmds })
    (.firyn y.client (message 0x11 y.id q.seq q.op c.num body))

theorem sendReply_eq {s : State} {r : Reply} {y : Ses} (h : sesOf s r.ses = some y) (hm : y.client.mbox = false) :
    sendReply s r = emit s (.firyn y.client (message 0x11 y.id r.seq r.op r.result r.body)) := by
  unfold sendReply
  rw [h]
  dsimp only
  unfold sendTo
  rw [if_neg (by rw [hm]; decide)]

theorem setSes_out {s : State} (h : s.ses.out = []) : (s.setSes fun y => { y with out := [] }) = s := by
  show { s with ses := { s.ses with out := [] } } = s
  rw [← h]

theorem markPos_client (x : Ses) (seq : Nat) (p : WinPos) : (markPos x seq p).client = x.client := by
  unfold markPos
  split <;> rfl

theorem markPos_id (x : Ses) (seq : Nat) (p : WinPos) : (markPos x seq p).id = x.id := by
  unfold markPos
  split <;> rfl

theorem sendOne_plain (s : State) {r : Reply} (h : r.after = .nothing) : sendOne s r = sendReply s r := by
  unfold sendOne
  rw [h]

/-- A lone unit's command of a session ends, and nothing follows its reply. -/
theorem run_answered {s t : State} {f : State → State} {k : Nat} {q : Request} {c : Code} {body : List Byte} {y : Ses}
    (hf : f s = endCommand t k q c body) (ht : Still t) (ho : t.ses.out = []) (hs : hasStandby t = false)
    (hy : sesOf t k = some y) (hm : y.client.mbox = false) (hn : t.now = s.now) (hp : t.pending = s.pending) :
    run s f = .next (repliedTo t k y q c body) := by
  let r : Reply := { ses := k, seq := q.seq, op := q.op, result := c.num, body := body, after := .nothing }
  let z : Ses := { markPos y q.seq (.stored c.num q.op body) with busy := none, cmds := satInc 0xFFFFFFFF y.cmds }
  have hz : z.client = y.client ∧ z.id = y.id := ⟨markPos_client y _ _, markPos_id y _ _⟩
  have he : endCommand t k q c body = (putSes t k z).setSes fun w => { w with out := w.out ++ [r] } := by
    unfold endCommand
    rw [modSes_eq _ hy]
  have ho' : (putSes t k z).ses.out = [] := ho
  have hout : ((putSes t k z).setSes fun w => { w with out := w.out ++ [r] }).setSes (fun w => { w with out := [] }) =
      putSes t k z := setSes_out ho'
  refine run_reply (hf.trans he) (still_setSes (still_setSes ht _) _) (r := r) ?_ hs ?_ (still_emit (still_setSes ht _) _) hn hp
  · show (putSes t k z).ses.out ++ [r] = [r]
    rw [ho']
    rfl
  · rw [hout, sendOne_plain _ rfl, sendReply_eq (y := z) (sesOf_putSes t k z) (by rw [hz.1]; exact hm), hz.1, hz.2]
    rfl

end Sys2Proof.Machine
end

section
/-! The end of a TCXO's suspicion (R235), waiting commands (R343), acknowledged replies (R353), and the statement that a
boundary and what proceeds with it do as the rules say. -/

namespace Sys2Proof.Machine

/-! ## The TCXO agrees again -/

/-- In a settled state nothing waits to be mirrored. -/
theorem sameMirrored_of_settled {s t : State} (h : settled t = true)
    (hk : t.mix.commits = s.mix.commits ∧ t.mix.enables = s.mix.enables ∧ t.mix.sets = s.mix.sets ∧ t.cio = s.cio ∧
      t.fab = s.fab ∧ t.ses.ses = s.ses.ses ∧ t.rb = s.rb ∧ t.pl = s.pl ∧ t.dyn = s.dyn ∧ t.tb = s.tb)
    (hc : s.cio.sched.wf = true) (hw : s.ses.ses.wf = true) : SameMirrored s t := by
  obtain ⟨h1, h2, h3, h4, h5, h6, h7, h8, h9, h10⟩ := hk
  have ho : t.pr.outbox = [] := by
    unfold settled at h
    simp only [Bool.and_eq_true, List.isEmpty_iff] at h
    exact h.1.1.1.1.1.2
  refine ⟨ho, .inr ⟨h1, h2, h3, by rw [h4], by rw [h5], h6, by rw [h7], by rw [h8], by rw [h9], fun k => ?_, fun k hk => ?_, hc, hw⟩⟩
  · unfold tbOf
    rw [h10]
  · unfold coOf at hk ⊢
    rw [h4]
    exact hk

/-- How long the sources that judge the TCXO must agree (R235). -/
def tcxoQtime (s : State) : Nat := (otherQualified s 20).foldl (fun a k => max a (ff s .QL_W1_QTIME k)) 0

/-- The suspicion of the TCXO ends, with the bar of its fault. -/
def tcxoTrusted (s : State) : State := { s with
  ref := { s.ref with tcxoFault := false, agreeFrom := none }, saf := { s.saf with bars := Tbl.del s.saf.bars 0x07 } }

theorem tcxoClear_ends {s : State} {t : Nat} (hf : s.ref.tcxoFault = true) (ha : tcxoAgrees s = true)
    (ht : s.ref.agreeFrom = some t) (hq : t + 1000000000 * tcxoQtime s ≤ s.now) :
    tcxoClear s = s.setRef fun r => { r with tcxoFault := false, agreeFrom := none } := by
  unfold tcxoClear
  dsimp only
  rw [ht]
  exact if_pos ⟨hf, ha, hq⟩

theorem tcxoClear_stays {s : State} (h : ¬ (s.ref.tcxoFault = true ∧ tcxoAgrees s = true ∧
    ∃ t, s.ref.agreeFrom = some t ∧ t + 1000000000 * tcxoQtime s ≤ s.now)) : tcxoClear s = s := by
  unfold tcxoClear
  dsimp only
  split
  · rename_i t ht
    exact if_neg fun q => h ⟨q.1, q.2.1, t, ht, q.2.2⟩
  · rfl

theorem settled_trusted {s : State} (h : settled s = true) (hw : s.saf.bars.wf = true) : settled (tcxoTrusted s) = true := by
  have h7 : Tbl.get? (Tbl.del s.saf.bars 0x07) 0x07 = none := Tbl.get?_del_self 0x07 hw
  have h20 : Tbl.get? (Tbl.del s.saf.bars 0x07) 0x14 = Tbl.get? s.saf.bars 0x14 := Tbl.get?_del_ne _ (by decide)
  have hm : fb (tcxoTrusted s) .SES_MBOX_EN = fb s .SES_MBOX_EN := rfl
  have hl : lanesDone (tcxoTrusted s) = lanesDone s := rfl
  unfold settled at h ⊢
  rw [hm, hl]
  unfold tcxoTrusted
  dsimp only
  rw [h7, h20]
  simp only [Bool.and_eq_true] at h ⊢
  obtain ⟨⟨⟨⟨h1, -⟩, h2⟩, h3⟩, h4⟩ := h
  exact ⟨⟨⟨⟨h1, by decide⟩, h2⟩, h3⟩, h4⟩

/-- The bar of a fault whose condition has ended is taken at the end of the command (R446). -/
theorem finish_trusted {s : State} (h : settled s = true) (hc : s.cio.sched.wf = true) (hs : s.ses.ses.wf = true)
    (hw : s.saf.bars.wf = true) :
    finish s (s.setRef fun r => { r with tcxoFault := false, agreeFrom := none }) = tcxoTrusted s := by
  have ht := settled_trusted h hw
  have hm : SameMirrored s (tcxoTrusted s) :=
    sameMirrored_of_settled ht ⟨rfl, rfl, rfl, rfl, rfl, rfl, rfl, rfl, rfl, rfl⟩ hc hs
  have hr := rest_settled ht hm
  have hb : barsEnd (s.setRef fun r => { r with tcxoFault := false, agreeFrom := none }) = barsEnd (tcxoTrusted s) := by
    have hd : Tbl.del (Tbl.del s.saf.bars 0x07) 0x07 = Tbl.del s.saf.bars 0x07 := Tbl.del_absent (Tbl.get?_del_self 0x07 hw)
    unfold barsEnd tcxoTrusted
    simp [State.setRef, State.setSaf, hd]
  have hx : s.shed.exhausted = false ∧ s.saf.due = [] := by
    unfold settled at h
    simp only [Bool.and_eq_true, List.isEmpty_iff, Bool.not_eq_true'] at h
    exact ⟨h.1.1.1.1.1.1.2, h.1.1.1.1.1.1.1.2⟩
  generalize hu : (s.setRef fun r => { r with tcxoFault := false, agreeFrom := none }) = u at hb ⊢
  have hux : u.shed = s.shed ∧ u.saf = s.saf := by subst hu; exact ⟨rfl, rfl⟩
  have hur : Ready u := by subst hu; exact (ready_of_settled h : Ready s)
  have e1 : exhaustedQuiet u = u := if_neg (by rw [hux.1, hx.1]; simp)
  have e2 : exhaustedQuiet (tcxoTrusted s) = tcxoTrusted s := if_neg (by
    rw [show (tcxoTrusted s).shed = s.shed from rfl, hx.1]; simp)
  unfold finish
  split
  · rename_i c
    have hbars : s.saf.bars = [] := by rw [← hux.2]; exact (calm_out c).2.2.2.2.2.1
    subst hu
    unfold tcxoTrusted
    rw [hbars]
    show { s with ref := _ } = { s with ref := _, saf := { s.saf with bars := [] } }
    rw [← hbars]
  · rw [finishAll_ready hur, takeReports_nil (by rw [hux.2]; exact hx.2), e1, hb]
    rwa [e2] at hr

theorem exec_tcxoFaultClear_ends {s : State} (h : settled s = true) (hc : s.cio.sched.wf = true) (hs : s.ses.ses.wf = true)
    (hw : s.saf.bars.wf = true) {t : Nat} (hf : s.ref.tcxoFault = true) (ha : tcxoAgrees s = true)
    (ht : s.ref.agreeFrom = some t) (hq : t + 1000000000 * tcxoQtime s ≤ s.now) :
    exec .tcxoFaultClear s = .next (tcxoTrusted s) := by
  have e : exec .tcxoFaultClear s = run s tcxoClear := rfl
  rw [e]
  unfold run
  rw [tcxoClear_ends hf ha ht hq, finish_trusted h hc hs hw]
  rfl

/-! ## Waiting commands -/

theorem still_parts {s : State} (h : still s = true) : Still s ∧ s.ses.out = [] := by
  unfold still at h
  obtain ⟨hc, hx⟩ := Bool.and_eq_true_iff.1 h
  obtain ⟨⟨h1, h2, h3, h4, h5, h6, h7, h8, h9, -⟩, ho, -⟩ := (calm_iff _).1 hc
  refine ⟨⟨h1, h2, h3, h4, h5, h6, h7, h8, h9, fun x e => ?_⟩, ho⟩
  rw [e] at hx
  exact Option.isNone_iff_eq_none.1 hx

theorem Tbl.mem_of_get? {α : Type} {t : Tbl α} {k : Nat} {v : α} (h : Tbl.get? t k = some v) : (k, v) ∈ t := by
  induction t with
  | nil => cases h
  | cons e t ih =>
    obtain ⟨j, w⟩ := e
    simp only [Tbl.get?] at h
    split at h
    · rename_i hj
      cases h
      exact hj ▸ List.mem_cons_self
    · exact List.mem_cons_of_mem _ (ih h)

/-- A waiting command that may start is the first of a session that executes nothing (R342). -/
theorem mem_readyCommands {s : State} (ho : s.ses.out = []) {k : Nat} {q : Request} :
    (k, q) ∈ readyCommands s ↔ ∃ x, (k, x) ∈ s.ses.ses ∧ x.busy = none ∧ ∃ ps, x.waiting = q :: ps := by
  have hw (j : Nat) : replyWaits s j = false := by unfold replyWaits; rw [ho]; rfl
  unfold readyCommands
  rw [List.mem_filterMap]
  constructor
  · rintro ⟨⟨j, x⟩, hm, he⟩
    dsimp only at he
    split at he
    · rename_i p ps hb hp
      rw [hw] at he
      cases he
      exact ⟨x, hm, hb, ps, hp⟩
    · cases he
  · rintro ⟨x, hm, hb, ps, hp⟩
    refine ⟨(k, x), hm, ?_⟩
    dsimp only
    rw [hb, hp]
    simp [hw]

/-- The choice among waiting commands. -/
def earlier (b : Option (Nat × Request)) (r : Nat × Request) : Option (Nat × Request) :=
  match b with
  | none => some r
  | some x => if startsBefore r x then some r else b

/-- Of waiting commands the one that came before all others is chosen. -/
theorem foldl_earlier {a : Nat × Request} (l : List (Nat × Request)) (b : Option (Nat × Request))
    (hm : a ∈ l ∨ b = some a) (hl : ∀ e ∈ l, e = a ∨ (startsBefore a e = true ∧ startsBefore e a = false))
    (hb : ∀ e, b = some e → e = a ∨ startsBefore a e = true) : l.foldl earlier b = some a := by
  induction l generalizing b with
  | nil => simpa using hm
  | cons e l ih =>
    rw [List.foldl_cons]
    have hl' : ∀ e ∈ l, e = a ∨ (startsBefore a e = true ∧ startsBefore e a = false) := fun e he => hl e (List.mem_cons_of_mem _ he)
    rcases hl e List.mem_cons_self with rfl | ⟨h1, h2⟩
    · refine ih _ (.inr ?_) hl' fun d hd => ?_
      · cases b with
        | none => rfl
        | some x =>
          show (if startsBefore e x = true then some e else some x) = some e
          rcases hb x rfl with rfl | hx
          · exact ite_self _
          · exact if_pos hx
      · cases b with
        | none => cases hd; exact .inl rfl
        | some x =>
          rcases hb x rfl with rfl | hx
          · exact .inl (by simpa [earlier] using hd.symm)
          · exact .inl (by simpa [earlier, hx] using hd.symm)
    · refine ih _ ?_ hl' fun d hd => ?_
      · rcases hm with hm | rfl
        · rcases List.mem_cons.1 hm with rfl | hm
          · rw [h2] at h1; cases h1
          · exact .inl hm
        · exact .inr (by simp [earlier, h2])
      · cases b with
        | none => cases hd; exact .inr h1
        | some x =>
          have hd' : (if startsBefore e x = true then some e else some x) = some d := hd
          split at hd'
          · cases hd'; exact .inr h1
          · exact hb d hd'

theorem commandStart_eq (s : State) : commandStart s = match (readyCommands s).foldl earlier none with
    | none => s
    | some (k, q) => startCommand (modSes s k fun x => { x with waiting := x.waiting.drop 1 }) k q := by
  unfold commandStart
  delta earlier
  rfl

/-- Where no session that executes nothing has a command that waits, none starts (R342). -/
theorem commandStart_none {s : State} (ho : s.ses.out = []) (h : ∀ e ∈ s.ses.ses, e.2.busy ≠ none ∨ e.2.waiting = []) :
    commandStart s = s := by
  have hr : readyCommands s = [] := by
    refine List.eq_nil_iff_forall_not_mem.2 fun ⟨k, q⟩ hm => ?_
    obtain ⟨x, hx, hb, ps, hp⟩ := (mem_readyCommands ho).1 hm
    rcases h _ hx with h | h
    · exact h hb
    · rw [hp] at h; cases h
  rw [commandStart_eq, hr]
  rfl

/-- The command that came before every other one starts (R343). -/
theorem commandStart_first {s : State} (ho : s.ses.out = []) (hw : s.ses.ses.wf = true) {k : Nat} {x : Ses} {q : Request}
    {rest : List Request} (hx : Tbl.get? s.ses.ses k = some x) (hb : x.busy = none) (hq : x.waiting = q :: rest)
    (h : ∀ e ∈ s.ses.ses, e.1 ≠ k → e.2.busy = none → ∀ p ps, e.2.waiting = p :: ps →
      startsBefore (k, q) (e.1, p) = true ∧ startsBefore (e.1, p) (k, q) = false) :
    commandStart s = startCommand (putSes s k { x with waiting := rest }) k q := by
  have hf : (readyCommands s).foldl earlier none = some (k, q) := by
    refine foldl_earlier _ none (.inl ((mem_readyCommands ho).2 ⟨x, Tbl.mem_of_get? hx, hb, rest, hq⟩)) (fun ⟨j, p⟩ hm => ?_)
      fun _ he => by cases he
    obtain ⟨y, hy, hyb, ps, hp⟩ := (mem_readyCommands ho).1 hm
    by_cases hj : j = k
    · subst hj
      have hyx : y = x := Option.some.inj ((Tbl.get?_mem hw hy).symm.trans hx)
      subst hyx
      rw [hq] at hp
      cases hp
      exact .inl rfl
    · exact .inr (h _ hy hj hyb p ps hp)
  rw [commandStart_eq, hf]
  dsimp only
  rw [modSes_eq _ hx, hq]
  rfl

/-- NOP, when nothing refuses it. -/
theorem runOp_nop {s : State} {k : Nat} {q : Request} (hq : q.op = 0x00) (h : firstCode (opFails s k q) = .ok) :
    runOp s k q = (s, some { code := .ok }) := by
  unfold runOp
  rw [amongFails_none _ h, hq]
  rfl

/-- What refuses a command is the same for every state with that session and mode. -/
theorem opFails_putSes {s t : State} {k : Nat} {x y : Ses} (q : Request) (ht : sesOf t k = some y) (hs : sesOf s k = some x)
    (hr : y.role = x.role) (hm : t.glb.mode = s.glb.mode) : opFails t k q = opFails s k q := by
  unfold opFails
  rw [ht, hs, hm]
  dsimp only
  rw [hr]

theorem exec_commandStart_nop {s : State} (hst : still s = true) (hsb : hasStandby s = false) {k : Nat} {x : Ses} {q : Request}
    {rest : List Request} {i : Nat} (hx : Tbl.get? s.ses.ses k = some x) (hw : s.ses.ses.wf = true) (hb : x.busy = none)
    (hq : x.waiting = q :: rest)
    (h : ∀ e ∈ s.ses.ses, e.1 ≠ k → e.2.busy = none → ∀ p ps, e.2.waiting = p :: ps →
      startsBefore (k, q) (e.1, p) = true ∧ startsBefore (e.1, p) (k, q) = false)
    (ho : q.op = 0x00) (hf : firstCode (opFails s k q) = .ok) (hm : x.client.mbox = false)
    (hi : winIndex x.high q.seq = some i) :
    exec .commandStart s = .next (emit (putSes s k { x with
        waiting := rest, busy := none, window := x.window.set i (.stored Code.ok.num 0x00 [])
        cmds := satInc 0xFFFFFFFF x.cmds })
      (.firyn x.client (message 0x11 x.id q.seq 0x00 Code.ok.num []))) := by
  obtain ⟨hs, hout⟩ := still_parts hst
  let y : Ses := { x with waiting := rest, busy := some q }
  have hop : runOp (putSes (putSes s k { x with waiting := rest }) k y) k q = (putSes s k y, some { code := .ok }) := by
    rw [putSes_putSes]
    refine runOp_nop ho ?_
    rw [opFails_putSes q (sesOf_putSes s k y) hx rfl rfl]
    exact hf
  have hc : commandStart s = endCommand (putSes s k y) k q .ok [] :=
    (commandStart_first hout hw hx hb hq h).trans (startCommand_ends (sesOf_putSes _ _ _) hop (sesOf_putSes s k y))
  have hr := run_answered hc (still_setSes hs _) hout hsb (sesOf_putSes s k y) hm rfl rfl
  have he : repliedTo (putSes s k y) k y q .ok [] = emit (putSes s k { x with
        waiting := rest, busy := none, window := x.window.set i (.stored Code.ok.num 0x00 [])
        cmds := satInc 0xFFFFFFFF x.cmds }) (.firyn x.client (message 0x11 x.id q.seq 0x00 Code.ok.num [])) := by
    have hp : markPos y q.seq (.stored Code.ok.num q.op []) = { y with window := x.window.set i (.stored Code.ok.num 0x00 []) } := by
      unfold markPos
      rw [show winIndex y.high q.seq = some i from hi, ho]
    unfold repliedTo
    rw [hp, putSes_putSes, ho]
  rw [← he]
  exact hr

/-! ## Acknowledged replies -/

/-- The messages of replies to sessions that are open. -/
def replyMessages (s : State) (l : List Reply) : List Emission :=
  l.filterMap fun r => (Tbl.get? s.ses.ses r.ses).map fun x =>
    Emission.firyn x.client (message 0x11 x.id r.seq r.op r.result r.body)

theorem sendAll_eq (l : List Reply) (t : State)
    (h : ∀ r ∈ l, r.after = .nothing ∧ ∃ x, sesOf t r.ses = some x ∧ x.client.mbox = false) :
    forEach l t (fun r s => sendOne s r) = { t with emitted := t.emitted ++ replyMessages t l } := by
  induction l generalizing t with
  | nil => simp [replyMessages, forEach]
  | cons r l ih =>
    obtain ⟨ha, x, hx, hm⟩ := h r List.mem_cons_self
    have h1 : sendOne t r = emit t (.firyn x.client (message 0x11 x.id r.seq r.op r.result r.body)) := by
      rw [sendOne_plain t ha, sendReply_eq hx hm]
    have h2 := ih (emit t (.firyn x.client (message 0x11 x.id r.seq r.op r.result r.body)))
      fun r hr => h r (List.mem_cons_of_mem _ hr)
    have h3 : replyMessages t (r :: l) = .firyn x.client (message 0x11 x.id r.seq r.op r.result r.body) :: replyMessages t l := by
      unfold replyMessages
      rw [List.filterMap_cons, show Tbl.get? t.ses.ses r.ses = some x from hx]
      rfl
    show forEach l (sendOne t r) _ = _
    rw [h1, h2, h3]
    show { t with emitted := (t.emitted ++ [_]) ++ replyMessages t l } = _
    rw [List.append_assoc]
    rfl

/-- REPLY_SEND, when every reply that waits has been acknowledged (R353). -/
theorem replySend_all {s : State}
    (h : ∀ r ∈ s.ses.out, r.acked = true ∧ r.after = .nothing ∧ ∃ x, Tbl.get? s.ses.ses r.ses = some x ∧ x.client.mbox = false) :
    replySend s = { s with ses := { s.ses with out := [] }, emitted := s.emitted ++ replyMessages s s.ses.out } := by
  have hall : s.ses.out.filter (fun r => r.acked) = s.ses.out := List.filter_eq_self.2 fun r hr => (h r hr).1
  have hnone : s.ses.out.filter (fun r => !r.acked) = [] := List.filter_eq_nil_iff.2 fun r hr => by simp [(h r hr).1]
  have e : (s.setSes fun y => { y with out := y.out.filter fun r => !r.acked }) = s.setSes fun y => { y with out := [] } := by
    show { s with ses := { s.ses with out := s.ses.out.filter fun r => !r.acked } } = _
    rw [hnone]
    rfl
  unfold replySend sendWhere
  dsimp only
  rw [hall, e]
  exact sendAll_eq s.ses.out _ fun r hr => ⟨(h r hr).2.1, (h r hr).2.2⟩

end Sys2Proof.Machine
end

section
/-! A boundary, what proceeds with it, and the replies that leave (O54). -/

namespace Sys2Proof.Machine

theorem exec_stitchBoundary (s : State) (env : StitchEnv) : exec (.stitchBoundary env) s = run s fun s => stitchStep s env := rfl

theorem stitchStep_reset {s : State} (env : StitchEnv) (h : s.glb.inReset = true) : stitchStep s env = s := by
  unfold stitchStep
  exact if_pos h

/-- A command that changes nothing in a settled state. -/
theorem run_idle {s : State} {f : State → State} (e : f s = s) (h : settled s = true) (hc : s.cio.sched.wf = true)
    (hw : s.ses.ses.wf = true) : run s f = .next s :=
  run_settled e h (sameMirrored_of_settled h ⟨rfl, rfl, rfl, rfl, rfl, rfl, rfl, rfl, rfl, rfl⟩ hc hw) rfl rfl

theorem exec_stitchBoundary_counts {s : State} {env : StitchEnv} (hr : s.glb.inReset = false) (hn : s.pl.net = none)
    (hd : s.pl.deferred = []) (hc : calm (stitchStep s env) = true) :
    ∃ t, exec (.stitchBoundary env) s = .next t ∧
      t.mix.stitch = if s.mix.audioOn = true then (s.mix.stitch + 1) % 2 ^ 64 else s.mix.stitch := by
  refine ⟨_, (exec_stitchBoundary s env).trans (run_calm (f := fun s => stitchStep s env) hc), ?_⟩
  exact stitchStep_stitch env hr hn hd

theorem exec_audioStart (s : State) : exec .audioStart s = run s audioStart := rfl

theorem exec_audioStart_starts {s : State} (h1 : s.pl.started = true) (h2 : s.glb.mode = .starting) (h3 : s.mix.audioOn = false)
    (h4 : ¬ (s.fab.vstate = .raising ∨ s.fab.vstate = .confirming)) (hc : calm (audioStarted s) = true) :
    exec .audioStart s = .next { audioStarted s with now := s.now, pending := s.pending } := by
  have e := audioStart_starts h1 h2 h3 h4
  rw [exec_audioStart, run_calm (by rw [e]; exact hc), e]

theorem exec_fence_eq (s : State) (m : FenceMeas) : exec (.fence m) s = run s fun s => fenceStep s m := rfl

theorem exec_fence_idle {s : State} {m : FenceMeas} (h : calm s = true) (hv : m.volts = none) (ht : m.tj = none)
    (hi : (s.mix.audioOn = false ∧ s.pl.started = false) ∨ s.shed.fenced = some s.mix.stitch) :
    exec (.fence m) s = .next s := by
  rw [exec_fence_eq]
  exact run_is ((fenceStep_plain s hv ht).trans (fence_idle m hi)) h rfl rfl

theorem exec_replySend {s : State} (hs : settled (s.setSes fun y => { y with out := [] }) = true) (hc : s.cio.sched.wf = true)
    (hw : s.ses.ses.wf = true)
    (h : ∀ r ∈ s.ses.out, r.acked = true ∧ r.after = .nothing ∧ ∃ x, Tbl.get? s.ses.ses r.ses = some x ∧ x.client.mbox = false) :
    exec .replySend s = .next { s with
      ses := { s.ses with out := [] }, emitted := s.emitted ++ replyMessages s s.ses.out } := by
  have e : exec .replySend s = run s replySend := rfl
  rw [e]
  refine run_settled (replySend_all h) ?_ ?_ rfl rfl
  · exact hs
  · exact sameMirrored_of_settled hs ⟨rfl, rfl, rfl, rfl, rfl, rfl, rfl, rfl, rfl, rfl⟩ hc hw

/-- Settles O54, a clause for each command: the boundary's number through what each of its parts leaves alone, the others
through the state that each reaches. -/
theorem stitchesCommandsAndRepliesProceed : Obligations.StitchesCommandsAndRepliesProceed := by
  unfold Obligations.StitchesCommandsAndRepliesProceed
  refine ⟨fun s env => ⟨fun hr hs hc hw => ?_, fun hr hn hd hc => exec_stitchBoundary_counts hr hn hd hc⟩,
    fun s hs => exec_rampEnd hs, fun s => ⟨fun h hs => ?_, fun h1 h2 h3 h4 => ?_⟩,
    fun s m hs hv ht => ⟨exec_fence_idle hs hv ht, fun ha hf hq hm hi hp hg => exec_fence hs hv ht ha hf hq hm hi hp hg⟩,
    fun s hs hc hw hb => ⟨fun ⟨hf, ha, t, ht, hq⟩ => exec_tcxoFaultClear_ends hs hc hw hb hf ha ht hq, fun h => ?_⟩,
    fun s hs hn => ⟨fun h => ?_, fun k x q rest i hx hw hb hq hf ho ha hm hi =>
      exec_commandStart_nop hs hn hx hw hb hq hf ho ha hm hi⟩,
    fun s hs hc hw h => exec_replySend hs hc hw h⟩
  · rw [exec_stitchBoundary]
    exact run_idle (stitchStep_reset env hr) hs hc hw
  · rw [exec_audioStart]
    exact run_is (audioStart_idle h) hs rfl rfl
  · exact fun hc => ⟨exec_audioStart_starts h1 h2 h3 h4 hc, audioStarted_stitch s⟩
  · exact run_idle (f := tcxoClear) (tcxoClear_stays h) hs hc hw
  · obtain ⟨hst, ho⟩ := still_parts hs
    exact run_still (f := commandStart) (commandStart_none ho h) hst ho rfl rfl

end Sys2Proof.Machine
end

section
/-! SCHED_DEL of a scheduled commit whose set has lost its owner (Table 03-3): the set comes back to OPEN and is discarded. -/

namespace Sys2Proof.Machine

/-- A client on port 0. -/
def operatorClient : Client := { port := 0, mac := 1, ip := 9, udp := 5, vid := 1, dport := 47810, dip := 0x0A000001 }

/-- The session of an operator. -/
def operator : Ses := { id := 7, role := 1, client := operatorClient, idle := 60, lastReq := 0 }

/-- A module alone runs with session 0 of an operator open. Entry 3 is armed: it commits set 0 at 9 s. The session that
armed it has closed, so nobody owns the set (Table 03-3). -/
def orphanArmed : State :=
  let s := wr (setFd State.reset .SES_CFG_PORTS 1) .SES_IP4 (word 0x0A000001)
  let s := wr (wr s .SE_W0 (word 1) 3) .SE_W3 (word 9) 3
  { s with
    glb := { s.glb with inReset := false, mode := .running }
    mix := { s.mix with audioOn := true, sets := [(0, { state := .armed, recs := [⟨0x01000000, 0x50000, 0, 0⟩] })] }
    cio := { s.cio with sched := [(3, { state := .armed })] }
    ses := { s.ses with ses := [(0, operator)] } }

/-- The operator deletes entry 3. -/
def deleteEntry : FirynReq := { client := operatorClient, id := 7, seq := 1, body := leBytes 4 3 }

/-- The state of set 0 after a command. -/
def firstSet : Out → SetState
  | .next t => (setOf t 0).state
  | _ => .free

theorem orphanArmed_ready : still orphanArmed = true ∧ sesServed orphanArmed = true ∧ reaches orphanArmed operatorClient = true ∧
    hasStandby orphanArmed = false ∧ orphanArmed.ses.ses.find? (fun e => e.2.id == deleteEntry.id) = some (0, operator) ∧
    deleteEntry.body.length ≤ 1400 ∧ sameClient operator.client operatorClient = true ∧ readyCommands orphanArmed = [] := by
  decide +kernel

theorem deleteEntry_index : leAt deleteEntry.body 0 2 = 3 := by decide

/-- The entry may be deleted. -/
theorem orphanArmed_mayDelete (y : Ses) : firstCode (seDelFails (putSes orphanArmed 0 y) (leAt deleteEntry.body 0 2)) = .ok := by
  have h : firstCode (seDelFails orphanArmed 3) = .ok := by decide +kernel
  rw [deleteEntry_index]
  exact h

theorem operator_may (y : Ses) (q : Request) (hy : y.role = 1) (hq : q.op = 0x16) (hb : q.body = deleteEntry.body) :
    firstCode (opFails (putSes orphanArmed 0 y) 0 q) = .ok := by
  have hm : (putSes orphanArmed 0 y).glb.mode = orphanArmed.glb.mode := rfl
  unfold opFails
  rw [sesOf_putSes, hm]
  dsimp only
  rw [hy, hq, hb]
  decide +kernel

theorem seDel_mix (s : State) (e : Nat) : (seDel s e).mix = (seDisarm s e).mix := by
  unfold seDel
  split
  · obtain ⟨f, h, -⟩ := vcoreEval_fab (seDisarm s e)
    rw [h]
  · rfl

theorem seDisarm_mix_putSes (s : State) (k : Nat) (y : Ses) (e : Nat) :
    (seDisarm (putSes s k y) e).mix = (seDisarm s e).mix := by
  have ha : seAction (setSe (putSes s k y) e { seOf (putSes s k y) e with state := .free }) e =
      seAction (setSe s e { seOf s e with state := .free }) e := rfl
  unfold seDisarm
  dsimp only
  rw [ha]
  split <;> rfl

/-- The deletion alone leaves the set OPEN: what nobody owns is discarded at the end of the command. -/
theorem firstSet_seDel (y : Ses) (n : Nat) (f : Ses → Ses) (e : Emission) :
    firstSet (.next (emit (modSes (seDel (putSes orphanArmed 0 y) (leAt deleteEntry.body 0 2)) n f) e)) = .open := by
  rw [deleteEntry_index]
  have h : (seDel (putSes orphanArmed 0 y) 3).mix = (seDisarm orphanArmed 3).mix :=
    (seDel_mix _ 3).trans (seDisarm_mix_putSes _ _ _ _)
  show (Tbl.getD (seDel (putSes orphanArmed 0 y) 3).mix.sets 0 {}).state = .open
  rw [h]
  decide +kernel

theorem firstSet_deleteEntry : firstSet (exec (.schedDel deleteEntry) orphanArmed) = .free := by decide +kernel

/-- Refutes O44: an operator deletes an armed commit whose set has lost its owner with its session. The set comes back to
OPEN and, as nobody owns it, is discarded at the end of the command; the statement leaves it OPEN. -/
theorem not_sessionCommandsAnswered : ¬ Obligations.SessionCommandsAnswered := by
  unfold Obligations.SessionCommandsAnswered
  intro h
  obtain ⟨hs, hv, hr, hb, hf, hl, hc, ha⟩ := orphanArmed_ready
  have alone : ∀ q : Nat → Request, ∀ op, ∀ c ∈ readyCommands orphanArmed, startsBefore c (0, q op) = false := by
    rw [ha]
    intro q op c m
    cases m
  have clauses := h orphanArmed deleteEntry 0 operator hs hv hr rfl hb hf hl hc rfl rfl (by decide) (by decide) (alone _)
  obtain ⟨-, -, -, -, -, -, -, -, -, -, -, -, -, deletes, -⟩ := clauses
  have deleted := (deletes (operator_may _ _ rfl rfl rfl) (le_of_eq_of_le deleteEntry_index (by decide)) (orphanArmed_mayDelete _)).1
  cases (firstSet_deleteEntry.symm.trans (congrArg firstSet deleted)).trans (firstSet_seDel _ _ _ _)

end Sys2Proof.Machine
end

section
/-! The fabric and admission (R31 to R59): the selected step, VCORE control, requests and their decisions. -/

namespace Sys2Proof.Machine

/-! ## The selected step (R34, R40, R50) -/

/-- Settles O4: the search from step 0 finds the first step that carries the work, or ends at Vcap. -/
theorem selectedStepIsLowest : Obligations.SelectedStepIsLowest := by
  intro s d need
  have need_eq : need = 11 * d.against (res0 s) := rfl
  obtain ⟨-, most⟩ := stepFrom_bounds s (d.against (res0 s)) (vCap s) 0
  obtain ⟨below, carries⟩ := stepFrom_spec s (d.against (res0 s)) (vCap s) 0
  rw [Nat.zero_add] at most carries
  rw [need_eq]
  exact ⟨most, fun v hv => below v (Nat.zero_le v) hv, carries⟩

/-! ## Commands that change the fabric alone -/

/-- A change of the fabric that keeps the decisions leaves nothing over. -/
theorem calm_setFab {s : State} (h : calm s = true) {f : Fab → Fab} (hf : (f s.fab).decided = s.fab.decided) :
    calm (s.setFab f) = true := calm_work h rfl hf rfl

/-- A command that changes the fabric alone. -/
theorem run_setFab {s : State} {g : State → State} {f : Fab → Fab} (h : calm s = true)
    (hf : (f s.fab).decided = s.fab.decided) (e : g s = s.setFab f) : run s g = .next (s.setFab f) :=
  run_is e (calm_setFab h hf) rfl rfl

/-- A command that changes the fabric and raises flags of FAB_EVENT. -/
theorem run_setFab_raise {s : State} {g : State → State} {f : Fab → Fab} {bits : Nat} (h : calm s = true)
    (hf : (f s.fab).decided = s.fab.decided) (e : g s = raise (s.setFab f) .FAB_EVENT bits) :
    run s g = .next (raise (s.setFab f) .FAB_EVENT bits) :=
  run_is e (calm_raise (calm_setFab h hf) bits (by decide)) (raise_now _ _ _ _) (raise_pending _ _ _ _)

/-- An accepted register write that changes the fabric alone. -/
theorem write_setFab {s : State} (r : Reg) {v : Word} {f : Fab → Fab} (hi : 0 < (desc r).n1) (hj : 0 < (desc r).n2)
    (h : calm s = true) (hf : (f s.fab).decided = s.fab.decided) (ha : Accepted s r 0 0 v)
    (e : blockWrite (noted s r 0 0) r 0 0 v = (noted s r 0 0).setFab f) :
    run s (fun s => regWrite s r 0 0 v 15) = .next ((noted s r 0 0).setFab f) :=
  run_entry r hi hj ha e (calm_setFab (calm_noted h r 0 0) hf) rfl rfl

/-- Settles O1: the two bits of FAB_CMD reach `clrSlack` and `fabClrCounts`. -/
theorem fabricCountersClear : Obligations.FabricCountersClear := by
  intro s hc
  refine ⟨fun ha => ?_, fun ha => ?_⟩
  · exact write_setFab .FAB_CMD (by decide) (by decide) hc rfl ha rfl
  · exact write_setFab .FAB_CMD (by decide) (by decide) hc rfl ha rfl

/-! ## VCORE control (R51 to R53, Table 02-5) -/

theorem vcoreSettled_ends {s : State} (hv : s.fab.vstate = .raising)
    (ht : s.fab.vAt + 10000 * ((s.fab.vtarget : Int) - s.fab.vfrom).natAbs ≤ s.now) :
    vcoreSettled s = s.setFab fun f => { f with vstate := .confirming, vnow := f.vtarget, confirm := 0 } := by
  unfold vcoreSettled
  exact if_pos ⟨hv, ht⟩

theorem vcoreConfirmed_steady {s : State} (hv : s.fab.vstate = .confirming) (hk : 8 ≤ s.fab.confirm)
    (hw : s.fab.waiting = none) :
    vcoreConfirmed s =
      raise (s.setFab fun f => { f with vstate := .steady, waiting := none, confirm := 0 }) .FAB_EVENT 8 := by
  unfold vcoreConfirmed
  rw [if_pos ⟨hv, hk⟩, hw]

theorem holdExpire_lowers {s : State} {t : Nat} (hf : s.fab.holdFrom = some t) (hv : s.fab.vstate = .hold)
    (ht : t + 1000000000 * fv s .FAB_VHOLD_HOLD_S ≤ s.now) :
    holdExpire s = s.setFab fun f => { f with
      vstate := .lowering, holdFrom := none, vfrom := f.vnow, vtarget := min f.vnow (selected s), vAt := s.now } := by
  unfold holdExpire
  rw [hf]
  exact if_pos ⟨hv, ht⟩

/-- A step down that does not reach the selected step has it as its target. -/
theorem stepDown_lowers {s : State} (hv : s.fab.vstate = .lowering) (hs : selected s + 1 < s.fab.vnow)
    (ht : s.fab.vAt + 10000 ≤ s.now) :
    stepDown s = s.setFab fun f => { f with vnow := f.vnow - 1, vAt := s.now, vtarget := selected s } := by
  have target : min (s.fab.vnow - 1) (selected s) = selected s := by omega
  unfold stepDown
  dsimp only
  rw [if_neg (not_not_intro hv), if_neg (by omega), if_pos ht, if_neg (by omega), target]
  rfl

theorem stepDown_steady {s : State} (hv : s.fab.vstate = .lowering) (hs : s.fab.vnow ≤ selected s)
    (hf : s.fab.vnow < s.fab.vfrom) :
    stepDown s = raise (s.setFab fun f => { f with vstate := .steady, vtarget := f.vnow }) .FAB_EVENT 8 := by
  unfold stepDown
  dsimp only
  rw [if_neg (not_not_intro hv), if_pos hs, if_pos hf]

/-- Settles O2: each transition is the branch of its function, and changes the fabric and its flags alone. -/
theorem vcoreTransitions : Obligations.VcoreTransitions := by
  intro s hc
  refine ⟨fun hv ht => ?_, fun hv hk hw => ?_, fun t hf hv ht => ?_, fun hv hs ht => ?_, fun hv hs hf => ?_⟩
  · exact run_setFab hc rfl (vcoreSettled_ends hv ht)
  · exact run_setFab_raise hc rfl (vcoreConfirmed_steady hv hk hw)
  · exact run_setFab hc rfl (holdExpire_lowers hf hv ht)
  · exact run_setFab hc rfl (stepDown_lowers hv hs ht)
  · exact run_setFab_raise hc rfl (stepDown_steady hv hs hf)

/-! ## The cap and the class-0 reserve (R39, R49, R50) -/

/-- From STEADY the ramp begins at the present step. -/
theorem vRaise_steady {s : State} (hv : s.fab.vstate = .steady) (target : Nat) :
    vRaise s target = s.setFab fun f => { f with
      vstate := .raising, vfrom := f.vnow, vtarget := target, vAt := s.now, confirm := 0, holdFrom := none } := by
  have present : vPresent s = s.fab.vnow := by
    unfold vPresent
    dsimp only
    rw [hv]
    exact if_pos (by decide)
  unfold vRaise
  rw [present]
  rfl

/-- The judgement at STEADY (R50, R52). -/
theorem vcoreEval_steady {s : State} (hm : s.glb.mode ≠ .starting) (hh : held s 1 = false)
    (hv : s.fab.vstate = .steady) : vcoreEval s =
      if s.fab.vnow < selected s then s.setFab fun f => { f with
        vstate := .raising, vfrom := f.vnow, vtarget := selected s, vAt := s.now, confirm := 0, holdFrom := none }
      else if selected s < s.fab.vnow then s.setFab fun f => { f with vstate := .hold, holdFrom := some s.now }
      else s := by
  have ready : fabReady s = true := bne_iff_ne.2 hm
  unfold vcoreEval
  rw [if_neg (by rw [ready, hh]; decide), hv, ← vRaise_steady hv]

/-- A write of a register that stores its word and judges VCORE anew at STEADY. -/
theorem write_vcoreEval {s : State} (r : Reg) {v : Word} (hi : 0 < (desc r).n1) (hj : 0 < (desc r).n2)
    (hr : Reg.SES_MBOX ≠ r) (hc : calm s = true) (hv : s.fab.vstate = .steady) (hh : held s 1 = false)
    (hm : s.glb.mode ≠ .starting) (ha : Accepted s r 0 0 v)
    (e : blockWrite (noted s r 0 0) r 0 0 v = vcoreEval (wr (noted s r 0 0) r (kept r v))) :
    let t := wr (noted s r 0 0) r (kept r v)
    let x := run s fun s => regWrite s r 0 0 v 15
    (selected t = s.fab.vnow → x = .next t) ∧
    (s.fab.vnow < selected t → x = .next (t.setFab fun f => { f with
      vstate := .raising, vfrom := f.vnow, vtarget := selected t, vAt := s.now, confirm := 0, holdFrom := none })) ∧
    (selected t < s.fab.vnow → x = .next (t.setFab fun f => { f with vstate := .hold, holdFrom := some s.now })) := by
  intro t x
  have ht : calm t = true := calm_entry (calm_noted hc r 0 0) _ hr hi hj
  have judged := e.trans (vcoreEval_steady (s := t) hm hh hv)
  have hn : t.fab.vnow = s.fab.vnow := rfl
  rw [hn] at judged
  refine ⟨fun heq => ?_, fun hlt => ?_, fun hgt => ?_⟩
  · rw [if_neg (by omega), if_neg (by omega)] at judged
    exact run_entry r hi hj ha judged ht rfl rfl
  · rw [if_pos hlt] at judged
    exact run_entry r hi hj ha judged (calm_setFab ht rfl) rfl rfl
  · rw [if_neg (by omega), if_pos hgt] at judged
    exact run_entry r hi hj ha judged (calm_setFab ht rfl) rfl rfl

/-- Settles O5: both registers keep their field's bits, and their write is judged as any at STEADY. -/
theorem capAndReserveWrites : Obligations.CapAndReserveWrites := by
  intro s v hc hw hv hh hm
  refine ⟨fun ha => ⟨?_, ?_⟩, fun ha => ⟨?_, ?_⟩⟩
  · show fld (rd (wr (noted s .FAB_VCAP 0 0) .FAB_VCAP _) .FAB_VCAP) 0 7 = _
    rw [rd_wr_self (s := noted s .FAB_VCAP 0 0) hw]
    exact fld_kept v (by decide)
  · exact write_vcoreEval .FAB_VCAP (by decide) (by decide) (by decide) hc hv hh hm ha rfl
  · show fld (rd (wr (noted s .FAB_RESERVE0 0 0) .FAB_RESERVE0 _) .FAB_RESERVE0) 0 22 = _
    rw [rd_wr_self (s := noted s .FAB_RESERVE0 0 0) hw]
    exact fld_kept v (by decide)
  · exact write_vcoreEval .FAB_RESERVE0 (by decide) (by decide) (by decide) hc hv hh hm ha rfl

/-! ## Requests of the register path (R43, R44, R81) -/

/-- An accepted command bit that sends a request of the register path. -/
theorem write_regRequest {s : State} (r : Reg) {v : Word} (kind : AdmKind) (hi : 0 < (desc r).n1)
    (hj : 0 < (desc r).n2) (hc : calm s = true) (ha : Accepted s r 0 0 v)
    (e : blockWrite (noted s r 0 0) r 0 0 v = regRequest (noted s r 0 0) kind) :
    run s (fun s => regWrite s r 0 0 v 15) = .next (regRequest (noted s r 0 0) kind) :=
  write_setFab (f := fun f => { f with
    admPending := true
    queue := f.queue ++ [{ who := .regPath, kind := kind, stitch := s.mix.stitch, tack := tack s 0 }] })
    r hi hj hc rfl ha e

/-- Settles O8: each bit reaches `regRequest` through its block's command register; a COMMIT first turns its set
DECIDING. -/
theorem registerPathRequests : Obligations.RegisterPathRequests := by
  intro s hc asked d r x
  refine ⟨fun ha => ?_, fun ha => ?_, fun ha => ?_, fun ha => ?_, fun ha => ?_, fun ha => ?_, fun k ha => ?_⟩
  · exact write_regRequest .DYN_CMD _ (by decide) (by decide) hc ha rfl
  · exact write_regRequest .DYN_CMD _ (by decide) (by decide) hc ha rfl
  · exact write_regRequest .RB_CMD _ (by decide) (by decide) hc ha rfl
  · exact write_regRequest .RB_CMD _ (by decide) (by decide) hc ha rfl
  · exact write_regRequest .STR_CMD _ (by decide) (by decide) hc ha rfl
  · exact write_regRequest .STR_CMD _ (by decide) (by decide) hc ha rfl
  · have e : blockWrite (noted s .BS_CMD k 0) .BS_CMD k 0 4 =
        regRequest (bsDeciding (noted s .BS_CMD k 0) k) (.commit k none) :=
      blockWrite_entry _ .BS_CMD 4 rfl k.isLt (by decide)
    have deciding : calm (bsDeciding (noted s .BS_CMD k 0) k) = true := calm_putSet (calm_noted hc .BS_CMD k 0) k _ rfl
    exact run_entry .BS_CMD k.isLt (by decide) ha e (calm_setFab deciding rfl) rfl rfl

/-! ## Decisions (R40, R44, R47) -/

/-- The admission test, for work of class 0 alone and for any other (R40). -/
theorem fits_iff (s : State) (d : Demand) (g : Nat) (only0 : Bool) : fits s d (res0 s) g only0 = true ↔
    11 * (if only0 then d.all else d.low + max d.d0 (res0 s)) ≤ 10 * gEff s g := decide_eq_true_iff

theorem afterDecision_steady {s : State} (h : s.fab.vstate = .steady) : afterDecision s = s := by
  unfold afterDecision
  rw [h]

/-- The state without the request at its head. -/
def dequeued (s : State) (r : AdmReq) : State := s.setFab fun f => { f with queue := f.queue.erase r }

/-- The decision at rest on a request that its object's rules allow and that adds work (Table 02-5). -/
theorem admissionDecide_steady {s : State} {r : AdmReq} (hv : s.fab.vstate = .steady) (hw : s.fab.waiting = none)
    (hr : headReq s = some r) (hh : held s 1 = false) (hc : (judge? s r).code = .ok) (ha : (judge? s r).added ≠ []) :
    admissionDecide s =
      if fits s (judge? s r).d (res0 s) (vCap s) (judge? s r).only0 = true then
        if stepFor s (judge? s r).d ≤ s.fab.vnow then afterDecision (admitReq (dequeued s r) r)
        else vRaise ((dequeued s r).setFab fun f => { f with waiting := some r }) (stepFor s (judge? s r).d)
      else afterDecision (recordDecision (dequeued s r) { who := r.who, kind := r.kind, code := .noCapacity }) := by
  have rest : ¬ (s.fab.vstate = .raising ∨ s.fab.vstate = .confirming ∨ s.fab.waiting.isSome = true) := by
    rw [hv, hw]; decide
  have free : held (dequeued s r) 1 = false := hh
  have fits_same : fits (dequeued s r) (judge? s r).d (res0 (dequeued s r)) (vCap (dequeued s r)) (judge? s r).only0 =
      fits s (judge? s r).d (res0 s) (vCap s) (judge? s r).only0 := rfl
  have step_same : stepFor (dequeued s r) (judge? s r).d = stepFor s (judge? s r).d :=
    stepFrom_congr (s := dequeued s r) (t := s) (fun _ => rfl) _ _ _
  have adds : (judge? s r).added.isEmpty = false := List.isEmpty_eq_false_iff.2 ha
  unfold admissionDecide
  rw [if_neg rest, hr]
  dsimp only
  rw [← dequeued, if_neg (not_not_intro hc), adds, if_neg (by decide), free, if_neg (by decide), fits_same, step_same]
  cases fits s (judge? s r).d (res0 s) (vCap s) (judge? s r).only0 <;> rfl

/-- The decision on an enable of the register path reaches ADM_RESULT and nothing else (R44). -/
theorem settleDecided_enable {s : State} (hd : s.fab.decided = []) (o : ObjKind) (i c : Nat) (k : Code) :
    settleDecided (recordDecision s { who := .regPath, kind := .enable o i c, code := k }) =
      raise (s.setFab fun f => { f with admPending := false, admResult := k }) .FAB_EVENT 0x40 := by
  have alone : recordDecision s { who := .regPath, kind := .enable o i c, code := k } =
      s.setFab fun f => { f with decided := [{ who := .regPath, kind := .enable o i c, code := k }] } := by
    unfold recordDecision State.setFab
    dsimp only
    rw [hd]
    rfl
  have emptied : (s.setFab fun f => { f with decided := [], admPending := false, admResult := k }) =
      s.setFab fun f => { f with admPending := false, admResult := k } := by
    rw [← hd]
    rfl
  rw [alone, ← emptied]
  rfl

/-- A command that decides an enable of the register path. -/
theorem run_decides {s u : State} {g : State → State} {o : ObjKind} {i c : Nat} {k : Code} (hc : calm u = true)
    (hn : u.now = s.now) (hp : u.pending = s.pending)
    (e : g s = recordDecision u { who := .regPath, kind := .enable o i c, code := k }) :
    run s g = .next (raise (u.setFab fun f => { f with admPending := false, admResult := k }) .FAB_EVENT 0x40) := by
  have settled := (congrArg settleDecided e).trans (settleDecided_enable (calm_out hc).1 o i c k)
  have done : calm (settleDecided (g s)) = true := settled ▸ calm_raise (calm_setFab hc rfl) _ (by decide)
  have now : (settleDecided (g s)).now = s.now := by rw [settled, raise_now]; exact hn
  have pending : (settleDecided (g s)).pending = s.pending := by rw [settled, raise_pending]; exact hp
  rw [run_settles done, ← now, ← pending, ← settled]

/-- An object that carries no load yet takes the next admission sequence number (R47). -/
theorem enableOk_fresh {s : State} {o : ObjKind} {i : Nat} (c : Nat)
    (h : ((allLoads s).any fun l => l.kind == o.num && l.index == i) = false) :
    enableOk s o i c = { s with
      fab := { s.fab with admSeq := s.fab.admSeq + 1 }
      mix := { s.mix with enables := s.mix.enables ++
        [{ acceptedAt := s.now, obj := o, index := i, cls := c, on := true, seq := s.fab.admSeq + 1 }] } } := by
  have fresh : ((allLoads s).any fun l => l.kind == o.num && l.index == i && !l.out) = false := by
    rw [List.any_eq_false] at h ⊢
    exact fun l hl hx => h l hl (Bool.and_eq_true_iff.1 hx).1
  unfold enableOk
  rw [fresh]
  rfl

/-- Settles O3: at rest the test of R40 alone decides, and the decision of the register path is delivered at once. -/
theorem enableRequestDecided : Obligations.EnableRequestDecided := by
  intro s o i c st tk r v hc hv hw hr hh hcode hadd hfresh
  have decided := admissionDecide_steady hv hw hr hh hcode hadd
  have idle : calm (dequeued s r) = true := calm_setFab hc rfl
  refine ⟨fun full => ?_, fun room low => ?_⟩
  · have refused : admissionDecide s =
        recordDecision (dequeued s r) { who := .regPath, kind := .enable o i c, code := .noCapacity } := by
      rw [decided, if_neg fun h => Nat.not_lt.2 ((fits_iff _ _ _ _).1 h) full]
      exact afterDecision_steady (s := recordDecision (dequeued s r) _) hv
    exact run_decides idle rfl rfl refused
  · have enabled := enableOk_fresh (s := dequeued s r) c hfresh
    have steady : (enableOk (dequeued s r) o i c).fab.vstate = .steady := by rw [enabled]; exact hv
    have idle_enabled : calm (enableOk (dequeued s r) o i c) = true := by rw [enabled]; exact calm_work idle rfl rfl rfl
    have admitted : admissionDecide s =
        recordDecision (enableOk (dequeued s r) o i c) { who := .regPath, kind := .enable o i c, code := .ok } := by
      rw [decided, if_pos ((fits_iff _ _ _ _).2 room), if_pos low]
      exact afterDecision_steady (s := admitReq (dequeued s r) r) steady
    have done := run_decides idle_enabled (by rw [enabled]; rfl) (by rw [enabled]; rfl) admitted
    rw [enabled] at done
    exact done

end Sys2Proof.Machine
end

section
/-! SE_DEL of a scheduled commit whose set has lost its owner (R288, Table 03-3). -/

namespace Sys2Proof.Machine

/-- Entry 3 of `orphanArmed` is the one the commands of the schedule name. -/
def orphanNamed : State := setFd orphanArmed .CIO_CMD_ARG_INDEX 3

theorem orphanNamed_deletes : calm orphanNamed = true ∧ Accepted orphanNamed .CIO_CMD 0 0 8 ∧
    fv orphanNamed .CIO_CMD_ARG_INDEX = 3 ∧ seAction orphanNamed 3 = 1 ∧ seSet orphanNamed 3 = 0 := by decide +kernel

/-- SE_DEL leaves the set free: nobody owns it, so it is discarded at the end of the command. -/
theorem firstSet_seDel_orphanNamed : firstSet (exec .seDel orphanNamed) = .free := by decide +kernel

/-- Judging VCORE leaves the sets alone. -/
theorem firstSet_vcoreEval (s : State) : firstSet (.next (vcoreEval s)) = firstSet (.next s) := by
  obtain ⟨f, e, -⟩ := vcoreEval_fab s
  rw [e]
  rfl

/-- Refutes O36: SE_DEL of an armed commit whose session has closed brings its set back to OPEN without an owner, and the
end of the command discards it; the statement leaves it OPEN. -/
theorem not_outputsAndSchedule : ¬ Obligations.OutputsAndSchedule := by
  intro h
  obtain ⟨quiet, accepted, named, commits, set0⟩ := orphanNamed_deletes
  obtain ⟨-, -, -, -, deletes, -⟩ := h orphanNamed 0 quiet
  have left := (deletes accepted).2 (by rw [named]; exact commits)
  have opened := congrArg firstSet left
  rw [firstSet_seDel_orphanNamed, firstSet_vcoreEval, named, set0] at opened
  exact absurd opened (by decide +kernel)

end Sys2Proof.Machine
end

section
/-! Basting sets of the register path (R78, R79, R81, Table 03-3): OPEN, ADD and ABORT. -/

namespace Sys2Proof.Machine

/-- In a calm state a set that is OPEN has an owner (Table 03-3). -/
theorem calm_setOf {s : State} (h : calm s = true) (k : Nat) :
    ((setOf s k).state != .open || (setOf s k).owner != none) = true := by
  obtain ⟨-, -, -, -, -, -, -, -, -, -, owned⟩ := calm_out h
  unfold setOf Tbl.getD
  cases found : Tbl.get? s.mix.sets k with
  | none => rfl
  | some x => exact List.all_eq_true.1 owned (k, x) (Tbl.mem_of_get? found)

theorem bsCmd_open (s : State) (k : Nat) : bsCmd s k 1 = bsOpen s k .regPath := rfl

theorem bsCmd_add (s : State) (k : Nat) : bsCmd s k 2 = bsAdd s k [stagedRec s k] := rfl

theorem bsCmd_abort (s : State) (k : Nat) : bsCmd s k 8 = bsFree s k := rfl

/-- An accepted write of BS_CMD whose commands change their set alone. -/
theorem run_putSet {s : State} {k : Fin 8} {v : Word} {x : BSet} (hc : calm s = true) (ha : Accepted s .BS_CMD k 0 v)
    (hx : (x.state != .open || x.owner != none) = true)
    (e : bsCmd (noted s .BS_CMD k 0) k v = putSet (noted s .BS_CMD k 0) k x) :
    run s (fun s => regWrite s .BS_CMD k 0 v 15) = .next (putSet (noted s .BS_CMD k 0) k x) :=
  run_entry .BS_CMD k.isLt (by decide) ha ((blockWrite_entry _ .BS_CMD v rfl k.isLt (by decide)).trans e)
    (calm_putSet (calm_noted hc .BS_CMD k 0) k x hx) rfl rfl

/-- Settles O10: each bit reaches the operation on its set; OPEN gives the set an owner, ADD keeps the one it has, ABORT
leaves it FREE, so the end of the command discards nothing. -/
theorem bastingSetCommands : Obligations.BastingSetCommands := by
  intro s k hc
  refine ⟨fun ha => ?_, fun ha => ?_, fun ha => ?_⟩
  · exact run_putSet hc ha rfl (bsCmd_open _ k)
  · exact run_putSet hc ha (calm_setOf hc k) (bsCmd_add _ k)
  · exact run_putSet hc ha rfl (bsCmd_abort _ k)

end Sys2Proof.Machine
end

section
/-! Commands that clear what is held or counted (O12): the hem's mute (R103), a meter's hold and clip count (R106, R107),
the edges of a pin and a held control output (R283, Table 12-3). -/

namespace Sys2Proof.Machine

/-- A change of the dynamics leaves nothing over. -/
theorem calm_setDyn {s : State} (h : calm s = true) (f : Dyn → Dyn) : calm (s.setDyn f) = true := calm_work h rfl rfl rfl

/-- A change of the control inputs and outputs leaves nothing over. -/
theorem calm_setCio {s : State} (h : calm s = true) (f : Cio → Cio) : calm (s.setCio f) = true := h

/-- An accepted command of DYN_CMD that changes the dynamics alone. -/
theorem dynCmd_setDyn {s : State} {v : Word} {f : Dyn → Dyn} (hc : calm s = true) (ha : Accepted s .DYN_CMD 0 0 v)
    (e : dynCmd (noted s .DYN_CMD 0 0) v = (noted s .DYN_CMD 0 0).setDyn f) :
    run s (fun s => regWrite s .DYN_CMD 0 0 v 15) = .next ((noted s .DYN_CMD 0 0).setDyn f) :=
  run_entry .DYN_CMD (by decide) (by decide) ha ((blockWrite_entry _ .DYN_CMD v rfl (by decide) (by decide)).trans e)
    (calm_setDyn (calm_noted hc .DYN_CMD 0 0) f) rfl rfl

/-- An accepted command of CIO_CMD that changes the control inputs and outputs alone. -/
theorem cioCmd_setCio {s : State} {v : Word} {f : Cio → Cio} (hc : calm s = true) (ha : Accepted s .CIO_CMD 0 0 v)
    (e : cioCmd (noted s .CIO_CMD 0 0) v = (noted s .CIO_CMD 0 0).setCio f) :
    run s (fun s => regWrite s .CIO_CMD 0 0 v 15) = .next ((noted s .CIO_CMD 0 0).setCio f) :=
  run_entry .CIO_CMD (by decide) (by decide) ha ((blockWrite_entry _ .CIO_CMD v rfl (by decide) (by decide)).trans e)
    (calm_setCio (calm_noted hc .CIO_CMD 0 0) f) rfl rfl

/-- No reason of its block stands against an accepted write. -/
theorem accepted_blockFails {s : State} {r : Reg} {i j : Nat} {v : Word} (hi : i < (desc r).n1) (hj : j < (desc r).n2)
    (h : Accepted s r i j v) {c : Code} (hc : c ≠ .ok) : (c, true) ∉ blockFails s r i j v := by
  intro fails
  rw [Accepted, writeCode, findReg_addr r hi hj] at h
  exact hc (firstCode_ok h (List.mem_append_right _ fails))

/-- CO_CLR of an output that is not HELD fails with WRONG_STATE (Table 12-3). -/
theorem coClr_unheld_fails {s : State} (h : (coOf s (fv s .CIO_CMD_ARG_INDEX)).state ≠ .held) :
    (Code.wrongState, true) ∈ blockFails s .CIO_CMD 0 0 2 := by
  show (Code.wrongState, true) ∈ cioFails s .CIO_CMD 0 2
  have clears : bit (2 : Word) 1 = true := by decide
  simp only [cioFails, clears, bne_iff_ne.2 h]
  exact .tail _ (.head _)

/-- An accepted CO_CLR finds its output HELD. -/
theorem accepted_coClr_held {s : State} (h : Accepted s .CIO_CMD 0 0 2) :
    (coOf s (fv s .CIO_CMD_ARG_INDEX)).state = .held :=
  Decidable.byContradiction fun other =>
    accepted_blockFails (by decide) (by decide) h (by decide) (coClr_unheld_fails other)

/-- Settles O12: each bit reaches the operation on the object that the argument register names; CO_CLR is taken in HELD
alone. -/
theorem holdsAndEdgesClear : Obligations.HoldsAndEdgesClear := by
  intro s hc x c
  refine ⟨fun ha => ?_, fun ha => ?_, fun ha => ?_, fun ha => ?_, fun ha => ⟨accepted_coClr_held ha, ?_⟩⟩
  · exact dynCmd_setDyn hc ha rfl
  · exact dynCmd_setDyn hc ha rfl
  · exact dynCmd_setDyn hc ha rfl
  · exact cioCmd_setCio hc ha rfl
  · exact cioCmd_setCio hc ha rfl

end Sys2Proof.Machine
end

section
/-! Watchers that settle when their time is over (O28): the non-audio mute (R97), a meter's hold (R106), VOX detectors
(R109). -/

namespace Sys2Proof.Machine

/-- A command that acts where its condition holds, and changes nothing elsewhere. -/
theorem run_where {s t : State} {f : State → State} {p : Prop} [Decidable p] (e : f s = if p then t else s)
    (hs : calm s = true) (ht : calm t = true) (hn : t.now = s.now) (hq : t.pending = s.pending) :
    run s f = .next (if p then t else s) := by
  by_cases h : p
  · rw [if_pos h] at e ⊢
    exact run_is e ht hn hq
  · rw [if_neg h] at e ⊢
    exact run_is e hs rfl rfl

theorem calm_setChain {s : State} (h : calm s = true) (k : Nat) (x : Chain) : calm (setChain s k x) = true := calm_setDyn h _

theorem calm_setMeter {s : State} (h : calm s = true) (m : Nat) (x : Meter) : calm (setMeter s m x) = true := calm_setDyn h _

theorem calm_setVox {s : State} (h : calm s = true) (v : Nat) (x : Vox) : calm (setVox s v x) = true := calm_setDyn h _

theorem naRelease_eq (s : State) (k : Nat) : naRelease s k =
    if (chainOf s k).naCause ≠ 0 ∧ 4096 ≤ (chainOf s k).naRun ∧ (chainOf s k).naTrig = 0 ∧ (chainOf s k).csNon = false then
      raise (setChain s k { chainOf s k with naCause := 0, mute := (chainOf s k).mute.to 16384 16 }) .DYN_EVENT 1
    else s := by
  simp only [naRelease, Bool.not_eq_true']

theorem meterHold_eq {s : State} {m t : Nat} (h : (meterOf s m).holdFrom = some t) : meterHold s m =
    if (meterOf s m).enabled = true ∧ ff s .MTR_W0_HOLD m ≠ 0 ∧ t + 500000000 * ff s .MTR_W0_HOLD m ≤ s.now then
      setMeter s m { meterOf s m with hold := (meterOf s m).peak, holdFrom := some s.now }
    else s := by
  simp only [meterHold, h]

theorem voxOn_eq (s : State) (v : Nat) : voxOn s v =
    if (voxOf s v).enabled = true ∧ (voxOf s v).on = false ∧ max 1 (ff s .VOX_W0_ATTACK v) ≤ (voxOf s v).above then
      setVox s v { voxOf s v with on := true, below := 0 }
    else s := by
  simp only [voxOn, Bool.not_eq_true']

theorem voxOff_eq (s : State) (v : Nat) : voxOff s v =
    if (voxOf s v).enabled = true ∧ (voxOf s v).on = true ∧ max 1 (8 * ff s .VOX_W1_HANG v) ≤ (voxOf s v).below then
      setVox s v { voxOf s v with on := false, above := 0 }
    else s := rfl

/-- Settles O28: each watcher acts exactly where its condition holds, on the dynamics and on DYN_EVENT alone. -/
theorem watchersSettle : Obligations.WatchersSettle := by
  intro s hc
  refine ⟨fun k => ?_, fun m t ht => ?_, fun v => ⟨?_, ?_⟩⟩
  · exact run_where (naRelease_eq s k) hc (calm_raise (calm_setChain hc _ _) 1 (by decide)) (raise_now _ _ _ _)
      (raise_pending _ _ _ _)
  · exact run_where (f := fun s => meterHold s m) (meterHold_eq ht) hc (calm_setMeter hc _ _) rfl rfl
  · exact run_where (voxOn_eq s v) hc (calm_setVox hc _ _) rfl rfl
  · exact run_where (voxOff_eq s v) hc (calm_setVox hc _ _) rfl rfl

end Sys2Proof.Machine
end

section
/-! Seams (R117 to R122, Table 05-2): an event of a seam is kept as its trigger, and the boundary takes it. -/

namespace Sys2Proof.Machine

/-! ## One seam -/

@[simp] theorem seamOf_setSeam (s : State) (m : Nat) (x : Seam) : seamOf (setSeam s m x) m = x := Tbl.getD_put_self _ _ _ _

@[simp] theorem setSeam_setSeam (s : State) (m : Nat) (x y : Seam) : setSeam (setSeam s m x) m y = setSeam s m y := by
  show { s with rb := { s.rb with seams := Tbl.put (Tbl.put s.rb.seams m x) m y } } = _
  rw [Tbl.put_put]
  rfl

/-- The ratio is judged by the registers and the clock groups, whatever the seam's own state. -/
@[simp] theorem seamWithin_setSeam (s : State) (m : Nat) (x : Seam) (ratio p : Nat) :
    seamWithin (setSeam s m x) m ratio p = seamWithin s m ratio p := rfl

@[simp] theorem seamOf_raise (s : State) (r : Reg) (bits i m : Nat) : seamOf (raise s r bits i) m = seamOf s m := by
  unfold seamOf
  rw [raise_rb]

/-- A change of STATE changes nothing else of the seam, whether or not its flag rises (R122). -/
@[simp] theorem seamOf_seamState (s : State) (m : Nat) (st : SeamState) :
    seamOf (seamState s m st) m = { seamOf s m with state := st } := by
  unfold seamState
  split
  · rename_i same
    rw [← same]
  · rw [seamOf_raise, seamOf_setSeam]

theorem seamOf_seamRun (s : State) (m : Nat) : seamOf (seamRun s m) m =
    { seamOf s m with state := .running, play := .rampIn, trainFrom := none, inRangeFrom := none } := by simp [seamRun]

theorem seamOf_seamRange (s : State) (m : Nat) : seamOf (seamRange s m) m =
    { seamOf s m with state := .range, play := (seamOf s m).play.stop, trainFrom := none, inRangeFrom := none } := by
  simp [seamRange]

theorem seamOf_seamHold (s : State) (m : Nat) : seamOf (seamHold s m) m = { seamOf s m with
    state := .hold, held := (seamOf s m).ratio, play := (seamOf s m).play.stop, trainFrom := none, inRangeFrom := none } := by
  simp [seamHold]

theorem seamOf_seamReanchor (s : State) (m : Nat) : seamOf (seamReanchor s m) m =
    { seamOf s m with play := .refade, slips := satInc 0xFFFF (seamOf s m).slips } := by simp [seamReanchor]

/-! ## An event becomes the seam's trigger (R122) -/

theorem near_seamTrig (s : State) (m : Nat) (t : SeamTrig) : Near s (seamTrig s m t) := by
  unfold seamTrig
  dsimp only
  split
  · exact .refl s
  · split
    · exact .refl s
    · exact near_setRb s _
    · exact near_ite (near_setRb s _) (.refl s)

section
variable {s : State} {m : Nat}

/-- The first event of a stitch that acts in the seam's state is kept. -/
theorem seamTrig_first {t : SeamTrig} (on : (seamOf s m).enabled = true) (free : (seamOf s m).trig = none)
    (acts : (trigRank (seamOf s m).state t).isSome = true) :
    seamTrig s m t = setSeam s m { seamOf s m with trig := some t } := by
  obtain ⟨k, rank⟩ := Option.isSome_iff_exists.1 acts
  unfold seamTrig
  dsimp only
  rw [on, free, rank]
  rfl

theorem seamTrainEnd_due {t : Nat} (h : (seamOf s m).state = .training) (since : (seamOf s m).trainFrom = some t)
    (due : t + 1000000 * fv s .RB_SEAM_CFG_TRAIN ≤ s.now) : seamTrainEnd s m = seamTrig s m .trainEnd := by
  rw [Nat.mul_comm] at due
  unfold seamTrainEnd
  dsimp only
  rw [since]
  exact if_pos ⟨h, due⟩

theorem seamRecover_due {t : Nat} (h : (seamOf s m).state = .range) (since : (seamOf s m).inRangeFrom = some t)
    (due : t + 1000000 * fv s .RB_SEAM_CFG_TRAIN ≤ s.now) : seamRecover s m = seamTrig s m .recover := by
  rw [Nat.mul_comm] at due
  unfold seamRecover
  dsimp only
  rw [since]
  exact if_pos ⟨h, due⟩

theorem seamMeasured_due {t : Nat} (r : Nat) (alone : mcMirrors s = false) (h : (seamOf s m).state = .hold)
    (since : (seamOf s m).trainFrom = some t) (due : t + 20000000 ≤ s.now) :
    seamMeasured s m r = seamTrig s m (.ratio r) := by
  unfold seamMeasured
  dsimp only
  rw [since]
  exact if_pos ⟨by rw [alone]; rfl, h, due⟩

theorem seamJump_beyond {jump fill : Nat} (alone : mcMirrors s = false)
    (h : 10 * fv s .RB_SEAM_CFG_JUMP < jump ∨ 4 < fill) : seamJump s m jump fill = seamTrig s m .jump :=
  if_pos ⟨by rw [alone]; rfl, h⟩

theorem seamJump_within {jump fill : Nat} (near : jump ≤ 10 * fv s .RB_SEAM_CFG_JUMP) (full : fill ≤ 4) :
    seamJump s m jump fill = s := if_neg fun ⟨_, beyond⟩ => by omega

/-! ## The boundary takes the trigger (Table 05-2) -/

theorem Seam.untriggered {x : Seam} (h : x.trig = none) : { x with trig := none } = x := by rw [← h]

variable {x : Seam}

theorem seamAct_trainEnd (h : x.state = .training) (free : x.trig = none) :
    seamAct (setSeam s m { x with trig := some .trainEnd }) m =
      if seamWithin s m x.ratio 20 then seamRun (setSeam s m x) m else seamRange (setSeam s m x) m := by
  simp only [seamAct, seamOf_setSeam, setSeam_setSeam, Seam.untriggered free, seamWithin_setSeam]
  rw [h]

theorem seamAct_jump (h : x.state = .running) (free : x.trig = none) :
    seamAct (setSeam s m { x with trig := some .jump }) m =
      if seamWithin s m x.ratio 20 then seamReanchor (setSeam s m x) m else seamRange (setSeam s m x) m := by
  simp only [seamAct, seamOf_setSeam, setSeam_setSeam, Seam.untriggered free, seamWithin_setSeam]
  rw [h]

theorem seamAct_stop (h : x.state = .running) (free : x.trig = none) :
    seamAct (setSeam s m { x with trig := some .stop }) m = seamHold (setSeam s m x) m := by
  simp only [seamAct, seamOf_setSeam, setSeam_setSeam, Seam.untriggered free]
  rw [h]

theorem seamAct_ratio (r : Nat) (h : x.state = .hold) (free : x.trig = none) :
    seamAct (setSeam s m { x with trig := some (.ratio r) }) m =
      if nearHeld r x.held then seamRun (setSeam s m { x with ratio := r }) m
      else seamState (setSeam s m { x with ratio := r, trainFrom := some s.now }) m .training := by
  simp only [seamAct, seamOf_setSeam, setSeam_setSeam, Seam.untriggered free]
  rw [h]
  rfl

theorem seamAct_recover (h : x.state = .range) (free : x.trig = none) :
    seamAct (setSeam s m { x with trig := some .recover }) m = seamRun (setSeam s m x) m := by
  simp only [seamAct, seamOf_setSeam, setSeam_setSeam, Seam.untriggered free]
  rw [h]

end

/-! ## The rows of Table 05-2 -/

/-- A command that keeps its event as the seam's trigger. -/
theorem run_seamTrig {s : State} {f : State → State} {m : Nat} {t : SeamTrig} (hc : calm s = true)
    (on : (seamOf s m).enabled = true) (free : (seamOf s m).trig = none)
    (acts : (trigRank (seamOf s m).state t).isSome = true) (e : f s = seamTrig s m t) :
    run s f = .next (setSeam s m { seamOf s m with trig := some t }) :=
  run_near (e.trans (seamTrig_first on free acts)) hc (near_setRb s _)

/-- Settles O17: each event passes its own guard and is kept as the trigger; the boundary's row of Table 05-2 then gives
the seam. -/
theorem seamEventsAct : Obligations.SeamEventsAct := by
  intro s m r jump fill hc x kept acts on free
  refine ⟨fun t0 training since due => ⟨?_, ?_⟩,
    fun running => ⟨fun alone beyond => ?_, fun near full => ?_, fun fits => ?_, fun off => ?_⟩,
    fun running => ⟨fun stopped => ?_, fun flows => ?_, ?_⟩, fun t0 hold since due => ⟨fun alone => ?_, ?_⟩,
    fun t0 range since due => ⟨?_, ?_⟩⟩
  · exact run_seamTrig (f := fun s => seamTrainEnd s m) hc on free (by rw [training]; rfl) (seamTrainEnd_due training since due)
  · show seamOf (seamAct (kept .trainEnd) m) m = _
    rw [seamAct_trainEnd training free, apply_ite (seamOf · m), seamOf_seamRun, seamOf_seamRange, seamOf_setSeam]
  · exact run_seamTrig (f := fun s => seamJump s m jump fill) hc on free (by rw [running]; rfl) (seamJump_beyond alone beyond)
  · exact run_near (f := fun s => seamJump s m jump fill) (seamJump_within near full) hc (.refl s)
  · show seamOf (seamAct (kept .jump) m) m = _
    rw [seamAct_jump running free, if_pos fits, seamOf_seamReanchor, seamOf_setSeam]
  · show seamOf (seamAct (kept .jump) m) m = _
    rw [seamAct_jump running free, if_neg (Bool.eq_false_iff.1 off), seamOf_seamRange, seamOf_setSeam]
  · exact run_seamTrig (f := fun s => seamInputStop s m) hc on free (by rw [running]; rfl) (if_pos stopped)
  · exact run_near (f := fun s => seamInputStop s m) (if_neg (Bool.eq_false_iff.1 flows)) hc (.refl s)
  · show seamOf (seamAct (kept .stop) m) m = _
    rw [seamAct_stop running free, seamOf_seamHold, seamOf_setSeam]
  · exact run_seamTrig (f := fun s => seamMeasured s m r) hc on free (by rw [hold]; rfl) (seamMeasured_due r alone hold since due)
  · show seamOf (seamAct (kept (.ratio r)) m) m = _
    rw [seamAct_ratio r hold free, apply_ite (seamOf · m), seamOf_seamRun, seamOf_seamState, seamOf_setSeam, seamOf_setSeam]
    simp only [nearHeld, decide_eq_true_eq]
  · exact run_seamTrig (f := fun s => seamRecover s m) hc on free (by rw [range]; rfl) (seamRecover_due range since due)
  · show seamOf (seamAct (kept .recover) m) m = _
    rw [seamAct_recover range free, seamOf_seamRun, seamOf_setSeam]

end Sys2Proof.Machine
end

section
/-! Clear commands of streams, hanks, clock groups, host channels, seams and ports (O6): R126, R151, R167, R197. -/

namespace Sys2Proof.Machine

/-- An accepted write of a command register whose command changes near blocks alone. -/
theorem write_noted_near {s t : State} (r : Reg) {i j : Nat} {v : Word} (hi : i < (desc r).n1) (hj : j < (desc r).n2)
    (hc : calm s = true) (ha : Accepted s r i j v) (e : blockWrite (noted s r i j) r i j v = t)
    (h : Near (noted s r i j) t) : run s (fun s => regWrite s r i j v 15) = .next t :=
  write_near r hi hj ha e (calm_noted hc r i j) h rfl rfl

/-- An accepted command of STR_CMD that changes the streams alone. -/
theorem strCmd_setStr {s : State} {v : Word} {f : Streams → Streams} (hc : calm s = true) (ha : Accepted s .STR_CMD 0 0 v)
    (e : strCmd (noted s .STR_CMD 0 0) v = (noted s .STR_CMD 0 0).setStr f) :
    run s (fun s => regWrite s .STR_CMD 0 0 v 15) = .next ((noted s .STR_CMD 0 0).setStr f) :=
  write_noted_near .STR_CMD (by decide) (by decide) hc ha
    ((blockWrite_entry _ .STR_CMD v rfl (by decide) (by decide)).trans e) (near_setStr _ f)

/-- CLR_COUNTS of a clock group reaches `cgClrCounts`. -/
theorem blockWrite_CG_CMD_clear (s : State) {g : Nat} (hg : g < 8) :
    blockWrite s .CG_CMD g 0 1 = cgClrCounts s g := blockWrite_entry s .CG_CMD 1 rfl hg (by decide)

/-- CLR_COUNTS of a port reaches `portClrCounts`; the gate commands of the same register stay out. -/
theorem blockWrite_PORT_CMD_clear (s : State) {n : Nat} (hn : n < 5) :
    blockWrite s .PORT_CMD n 0 4 = portClrCounts s n := blockWrite_entry s .PORT_CMD 4 rfl hn (by decide)

/-- Settles O6: each bit of the command registers reaches the operation that clears the counters of the object named. -/
theorem streamAndLaneCountersClear : Obligations.StreamAndLaneCountersClear := by
  intro s hc
  refine ⟨fun ha => ?_, fun ha => ?_, fun ha => ?_, fun g ha => ?_, fun ha => ?_, fun ha => ?_, fun n ha => ?_⟩
  · exact strCmd_setStr hc ha rfl
  · exact strCmd_setStr hc ha rfl
  · exact strCmd_setStr hc ha rfl
  · exact write_noted_near .CG_CMD g.isLt (by decide) hc ha (blockWrite_CG_CMD_clear _ g.isLt) (near_setLn _ _)
  · exact write_noted_near .HOST_CMD (by decide) (by decide) hc ha rfl (near_setLn _ _)
  · exact write_noted_near .RB_CMD (by decide) (by decide) hc ha rfl (near_setRb _ _)
  · exact write_noted_near .PORT_CMD n.isLt (by decide) hc ha (blockWrite_PORT_CMD_clear _ n.isLt) (near_setSw _ _)

end Sys2Proof.Machine
end

section
/-! Receive streams and their legs whose packets stay out (R121, R182, R187, R312). -/

namespace Sys2Proof.Machine

/-- What a stream reports: its own change, a flag of STR_EVENT and perhaps a hit on its object source. -/
theorem near_rxReport (s : State) (k bits b : Nat) (x : Rx) :
    Near s (hitAttached (raise (setRx s k x) .STR_EVENT bits) .ATT_RX k b) :=
  ((near_setStr s _).trans (near_raise _ bits (by decide) (by decide) (by decide))).trans (near_hitAttached _ _ _ _)

theorem rxTimeout_due {s : State} {k : Nat} (running : (rxOf s k).state = .running)
    (due : (rxOf s k).lastAcc + 500000000 ≤ s.now) :
    rxTimeout s k = forEach (seamsOnRx s k)
      (hitAttached (raise (setRx s k { rxOf s k with state := .waiting }) .STR_EVENT 1) .ATT_RX k 2)
      fun m t => seamTrig t m .stop := by
  have moves : (rxOf s k).state ≠ .waiting := by rw [running]; decide
  unfold rxTimeout rxState
  dsimp only
  rw [if_pos ⟨running, due⟩, if_neg moves]

theorem legTimeout_due {s : State} {k t : Nat} {b : Bool} (heard : (legOf (rxOf s k) b).lastAcc = some t)
    (live : (legOf (rxOf s k) b).live = true) (due : t + 100000000 ≤ s.now) :
    legTimeout s k b = hitAttached (raise (setRx s k (setLeg (rxOf s k) b { legOf (rxOf s k) b with live := false }))
      .STR_EVENT 0x10) .ATT_RX k 3 := by
  unfold legTimeout
  dsimp only
  rw [heard]
  exact if_pos ⟨live, due⟩

/-- Settles O24: each timeout whose time is over acts, and leaves nothing over. -/
theorem streamTimeouts : Obligations.StreamTimeouts := by
  intro s k hc
  refine ⟨fun running due => ?_, fun t heard live due => ?_, fun t heard live due => ?_⟩
  · exact run_near (f := fun s => rxTimeout s k) (rxTimeout_due running due) hc
      ((near_rxReport s k 1 2 _).trans (near_forEach (fun m s => near_seamTrig s m .stop) _ _))
  · exact run_near (f := fun s => legTimeout s k false) (legTimeout_due (b := false) heard live due) hc (near_rxReport s k _ _ _)
  · exact run_near (f := fun s => legTimeout s k true) (legTimeout_due (b := true) heard live due) hc (near_rxReport s k _ _ _)

end Sys2Proof.Machine
end

section
/-! Clock groups (R136 to R147, Table 06-3): what one group's changes leave alone, and its changes of state (O16). -/

namespace Sys2Proof.Machine

/-! ## Steps of one clock group -/

/-- Beside event flags only lanes and bridges differ, and of the clock groups only `g`. -/
def GroupOnly (g : Nat) (s t : State) : Prop :=
  t = { s with rf := t.rf, evt := t.evt, ln := t.ln, rb := t.rb } ∧ OnlyFlags s t ∧
    ∀ h, h ≠ g → groupOf t h = groupOf s h

theorem GroupOnly.refl (g : Nat) (s : State) : GroupOnly g s s := ⟨rfl, onlyFlags_refl s, fun _ _ => rfl⟩

theorem GroupOnly.trans {g : Nat} {s t u : State} (h : GroupOnly g s t) (k : GroupOnly g t u) : GroupOnly g s u := by
  obtain ⟨frame, flags, others⟩ := h
  obtain ⟨frame', flags', others'⟩ := k
  exact ⟨by rw [frame', frame], onlyFlags_trans flags flags', fun j hj => (others' j hj).trans (others j hj)⟩

theorem GroupOnly.near {g : Nat} {s t : State} (h : GroupOnly g s t) : Near s t := by
  obtain ⟨frame, flags, -⟩ := h
  exact ⟨by rw [frame], flags⟩

theorem GroupOnly.flags {g : Nat} {s t : State} (h : GroupOnly g s t) : OnlyFlags s t := h.2.1

theorem GroupOnly.others {g k : Nat} {s t : State} (h : GroupOnly g s t) (hk : k ≠ g) :
    groupOf t k = groupOf s k := h.2.2 k hk

theorem Flagged.groupOnly {s t : State} (h : Flagged s t) (g : Nat) : GroupOnly g s t :=
  ⟨by rw [h.1], h.2, fun j _ => h.groupOf j⟩

theorem groupOnly_setGroup (s : State) (g : Nat) (x : Group) : GroupOnly g s (setGroup s g x) :=
  ⟨rfl, onlyFlags_of_rf rfl, fun _ hne => setGroup_groupOf_ne s x hne⟩

theorem groupOnly_of_rb (g : Nat) {s t : State} (e : t = { s with rb := t.rb }) : GroupOnly g s t := by
  rw [e]
  exact ⟨rfl, onlyFlags_of_rf rfl, fun _ _ => rfl⟩

theorem groupOf_of_rb {s t : State} (e : t = { s with rb := t.rb }) (g : Nat) : groupOf t g = groupOf s g := by
  rw [e]
  rfl

/-- The group `g` takes another state: GROUP_CHANGE rises, and the group's object source may be hit (R147, R312). -/
def groupMoves (s : State) (g : Nat) (x : Group) : State :=
  hitAttached (raise (setGroup s g x) .LN_EVENT 1) .ATT_CG g 0

theorem groupOnly_groupMoves (s : State) (g : Nat) (x : Group) : GroupOnly g s (groupMoves s g x) :=
  (groupOnly_setGroup s g x).trans
    (((raise_flagged _ 1 (by decide) (by decide) (by decide)).trans (hitAttached_flagged _ _ _ _)).groupOnly g)

theorem cgState_moves {s : State} {g : Nat} {st : GroupState} (h : (groupOf s g).state ≠ st) :
    cgState s g st = groupMoves s g { groupOf s g with state := st } := if_neg h

theorem groupOnly_cgState (s : State) (g : Nat) (st : GroupState) : GroupOnly g s (cgState s g st) := by
  by_cases h : (groupOf s g).state = st
  · rw [cgState, if_pos h]
    exact .refl g s
  · rw [cgState_moves h]
    exact groupOnly_groupMoves s g _

@[simp] theorem groupOf_setGroup (s : State) (g : Nat) (x : Group) : groupOf (setGroup s g x) g = x :=
  setGroup_groupOf s g x

@[simp] theorem setGroup_setGroup (s : State) (g : Nat) (x y : Group) :
    setGroup (setGroup s g x) g y = setGroup s g y := by
  show { s with ln := { s.ln with groups := Tbl.put (Tbl.put s.ln.groups g x) g y } } = _
  rw [Tbl.put_put]
  rfl

@[simp] theorem groupOf_raise (s : State) (r : Reg) (bits i g : Nat) : groupOf (raise s r bits i) g = groupOf s g := by
  unfold groupOf
  rw [raise_ln]

/-- A change of state changes nothing else of the group. -/
@[simp] theorem groupOf_cgState (s : State) (g : Nat) (st : GroupState) :
    groupOf (cgState s g st) g = { groupOf s g with state := st } := by
  by_cases h : (groupOf s g).state = st
  · rw [cgState, if_pos h, ← h]
  · exact cgState_groupOf h

/-! ## GROUP_CHANGE (R147) -/

/-- A flag of LN_EVENT that is up. -/
def laneFlag (s : State) (b : Nat) : Prop := bit (rd s .LN_EVENT) b = true

/-- What leaves the registers alone keeps the flags. -/
theorem laneFlag_of_rb {s t : State} {b : Nat} (e : t = { s with rb := t.rb }) (h : laneFlag s b) : laneFlag t b := by
  rw [e]
  exact h

theorem laneFlag_raise {s : State} (hw : s.rf.regs.wf = true) {bits b : Nat} (hb : b < 32) (on : bits.testBit b = true) :
    laneFlag (raise s .LN_EVENT bits) b := by
  unfold laneFlag
  rw [rd_raise_self hw]
  exact bit_or hb on

theorem laneFlag_cgState {s : State} {g : Nat} {st : GroupState} (hw : s.rf.regs.wf = true)
    (moves : (groupOf s g).state ≠ st) : laneFlag (cgState s g st) 0 := by
  unfold laneFlag
  rw [cgState_event moves hw]
  exact bit_or (by decide) (by decide)

/-- A flag that is up stays up in a change of state (R363). -/
theorem laneFlag_kept {s : State} {g b : Nat} {st : GroupState} (hw : s.rf.regs.wf = true) (hb : b < 32)
    (moves : (groupOf s g).state ≠ st) (h : laneFlag s b) : laneFlag (cgState s g st) b := by
  unfold laneFlag at h ⊢
  rw [cgState_event moves hw, Nat.or_comm]
  rw [bit_eq_testBit] at h
  exact bit_or (a := word 1) hb h

/-! ## Seams of a group -/

/-- An event that a seam keeps as its trigger changes bridges only. -/
theorem seamTrig_frame (s : State) (m : Nat) (t : SeamTrig) :
    seamTrig s m t = { s with rb := (seamTrig s m t).rb } := by
  unfold seamTrig
  dsimp only
  split
  · rfl
  · split
    · rfl
    · rfl
    · split <;> rfl

/-- The group's seams hear of its stop (R121): bridges alone change. -/
theorem stopSeams_frame (ms : List Nat) (s : State) : forEach ms s (fun m s => seamTrig s m .stop) =
    { s with rb := (forEach ms s fun m s => seamTrig s m .stop).rb } :=
  forEach_rel (R := fun s t => t = { s with rb := t.rb }) (fun _ => rfl) (fun h g => by rw [g, h])
    (fun m s => seamTrig_frame s m .stop) ms s

/-! ## Stops (R138) -/

/-- The group that a stop leaves, but for its state. -/
def Group.stopped (x : Group) : Group := { x with
  play := x.play.stop, playOut := .zero, okFrom := none, settled := false, fresh := false, glitchRun := 0, offRun := 0
  stable := 0, stops := satInc 0xFFFF x.stops }

/-- What a stop keeps and drops of the samples received: none while the inputs deliver zero. -/
def stopSamples (s : State) (g : Nat) : State := if (groupOf s g).play = .zero then s else lastGood s g

/-- A stop before its change of state: the fade starts, the counts move and STOP is raised. -/
def stopRaised (s : State) (g : Nat) : State :=
  raise (setGroup (stopSamples s g) g (groupOf s g).stopped) .LN_EVENT 2

theorem cgStop_eq (s : State) (g : Nat) : ∃ ms, cgStop s g =
    forEach ms (cgState (stopRaised s g) g .stopped) fun m s => seamTrig s m .stop := ⟨_, rfl⟩

theorem stopSamples_groupOnly (s : State) (g : Nat) :
    GroupOnly g s (stopSamples s g) ∧ (stopSamples s g).rf = s.rf := by
  unfold stopSamples
  split
  · exact ⟨.refl g s, rfl⟩
  · exact ⟨⟨rfl, onlyFlags_of_rf rfl, fun _ _ => rfl⟩, rfl⟩

theorem groupOnly_cgStop (s : State) (g : Nat) : GroupOnly g s (cgStop s g) := by
  obtain ⟨ms, e⟩ := cgStop_eq s g
  rw [e]
  have raised : GroupOnly g s (stopRaised s g) := ((stopSamples_groupOnly s g).1.trans (groupOnly_setGroup _ g _)).trans
    ((raise_flagged _ 2 (by decide) (by decide) (by decide)).groupOnly g)
  exact (raised.trans (groupOnly_cgState _ g _)).trans (groupOnly_of_rb g (stopSeams_frame ms _))

theorem groupOf_cgStop (s : State) (g : Nat) :
    groupOf (cgStop s g) g = { (groupOf s g).stopped with state := .stopped } := by
  obtain ⟨ms, e⟩ := cgStop_eq s g
  rw [e, groupOf_of_rb (stopSeams_frame ms _), groupOf_cgState, stopRaised, groupOf_raise, groupOf_setGroup]

/-- A stop of a group that has not stopped raises GROUP_CHANGE and STOP. -/
theorem laneFlag_cgStop {s : State} {g b : Nat} (hw : s.rf.regs.wf = true) (moves : (groupOf s g).state ≠ .stopped)
    (hb : b < 2) : laneFlag (cgStop s g) b := by
  obtain ⟨ms, e⟩ := cgStop_eq s g
  rw [e]
  have before : (setGroup (stopSamples s g) g (groupOf s g).stopped).rf.regs.wf = true := by
    show (stopSamples s g).rf.regs.wf = true
    rw [(stopSamples_groupOnly s g).2, hw]
  have raised : (stopRaised s g).rf.regs.wf = true := raise_wf before .LN_EVENT 2 0
  have moves' : (groupOf (stopRaised s g) g).state ≠ .stopped := by
    rw [stopRaised, groupOf_raise, groupOf_setGroup]
    exact moves
  refine laneFlag_of_rb (stopSeams_frame ms _) ?_
  obtain rfl | rfl : b = 0 ∨ b = 1 := by omega
  · exact laneFlag_cgState raised moves'
  · exact laneFlag_kept raised (by decide) moves' (laneFlag_raise before (by decide) (by decide))

theorem cgStopEvent_due {s : State} {g : Nat} (on : (groupOf s g).state = .running ∨ (groupOf s g).state = .rateFault)
    (due : stopDue s g = true) : cgStopEvent s g = cgStop s g := by
  unfold cgStopEvent
  dsimp only
  rw [if_neg (by rw [due]; decide), if_pos on]

/-! ## Entering RUNNING (R136, R141, R144) -/

/-- The group as it enters RUNNING at a rate, to be anchored at the boundary that follows. -/
def Group.runs (x : Group) (rate : Nat) : Group := { x with
  state := .running, curRate := rate, phase := 0, play := .refade, playOut := .rampIn, fresh := true, settled := false
  glitchRun := 0, offRun := 0, okFrom := none }

/-- A group enters RUNNING and lets its seams train again. -/
def enterRunning (s : State) (g rate : Nat) : State := releaseSeams (cgRun s g rate) g

theorem groupOnly_enterRunning (s : State) (g rate : Nat) : GroupOnly g s (enterRunning s g rate) :=
  ((groupOnly_setGroup s g _).trans (groupOnly_cgState _ g _)).trans (groupOnly_of_rb g (releaseSeams_frame _ g))

theorem groupOf_enterRunning (s : State) (g rate : Nat) :
    groupOf (enterRunning s g rate) g = (groupOf s g).runs rate := by
  rw [enterRunning, groupOf_of_rb (releaseSeams_frame _ g), cgRun, groupOf_cgState, groupOf_setGroup]
  rfl

theorem laneFlag_enterRunning {s : State} {g : Nat} (rate : Nat) (hw : s.rf.regs.wf = true)
    (moves : (groupOf s g).state ≠ .running) : laneFlag (enterRunning s g rate) 0 :=
  laneFlag_of_rb (releaseSeams_frame _ g)
    (laneFlag_cgState (s := setGroup s g _) hw (by rw [groupOf_setGroup]; exact moves))

theorem cgAnchor_stable {s : State} {g : Nat} (starting : (groupOf s g).state = .starting)
    (stable : fv s .CG_TIMING_STABLE g ≤ (groupOf s g).stable) :
    cgAnchor s g = enterRunning s g (groupOf s g).stableRate := if_pos ⟨starting, stable⟩

theorem cgSettled_due {s : State} {g t : Nat} (fault : (groupOf s g).state = .rateFault)
    (since : (groupOf s g).okFrom = some t) (due : t + 100000000 ≤ s.now) :
    cgSettled s g = setGroup s g { groupOf s g with settled := true } := by
  unfold cgSettled
  dsimp only
  rw [since]
  exact if_pos ⟨fault, due⟩

/-! ## The boundary after CG_RATE_SETTLED (R141) -/

/-- A group returns at the boundary. -/
abbrev Group.returns (x : Group) : Prop := x.settled = true ∧ x.state = .rateFault

/-- The return of one group at the boundary. -/
def cgReturn (g : Nat) (s : State) : State :=
  if (groupOf s g).returns then enterRunning s g (groupOf s g).okRate else s

theorem cgReturns_eq (s : State) : cgReturns s = forEach (s.ln.groups.map (·.1)) s cgReturn := rfl

theorem cgReturn_settled {s : State} {g : Nat} (h : (groupOf s g).returns) :
    cgReturn g s = enterRunning s g (groupOf s g).okRate := if_pos h

/-- The return of another group leaves this one. -/
theorem groupOf_cgReturn_ne {s : State} {g h : Nat} (hne : g ≠ h) : groupOf (cgReturn h s) g = groupOf s g := by
  unfold cgReturn
  split
  · exact (groupOnly_enterRunning s h _).others hne
  · rfl

/-- A group that has not settled stays as it is, whichever groups return. -/
theorem groupOf_returned {g : Nat} (gs : List Nat) {s : State} (h : (groupOf s g).settled = false) :
    groupOf (forEach gs s cgReturn) g = groupOf s g := by
  induction gs generalizing s with
  | nil => rfl
  | cons k ks ih =>
    have first : groupOf (cgReturn k s) g = groupOf s g := by
      by_cases hk : g = k
      · subst hk
        exact congrArg (groupOf · g) (if_neg fun settled => Bool.false_ne_true (h.symm.trans settled.1))
      · exact groupOf_cgReturn_ne hk
    exact (ih (by rw [first, h])).trans first

/-- A settled group among those that the boundary asks returns once. -/
theorem groupOf_returns {g : Nat} {gs : List Nat} {s : State} (hg : g ∈ gs) (h : (groupOf s g).returns) :
    groupOf (forEach gs s cgReturn) g = (groupOf s g).runs (groupOf s g).okRate := by
  induction gs generalizing s with
  | nil => cases hg
  | cons k ks ih =>
    show groupOf (forEach ks (cgReturn k s) cgReturn) g = _
    by_cases hk : g = k
    · subst hk
      have now : groupOf (cgReturn g s) g = (groupOf s g).runs (groupOf s g).okRate := by
        rw [cgReturn_settled h, groupOf_enterRunning]
      rw [groupOf_returned ks (by rw [now]; rfl), now]
    · have later : groupOf (cgReturn k s) g = groupOf s g := groupOf_cgReturn_ne hk
      rw [ih ((List.mem_cons.1 hg).resolve_left hk) (by rw [later]; exact h), later]

/-- A group that has been written is one that the boundary asks. -/
theorem mem_groups_setGroup (s : State) (g : Nat) (x : Group) : g ∈ (setGroup s g x).ln.groups.map (·.1) :=
  List.mem_map.2 ⟨(g, x), Tbl.mem_of_get? (Tbl.get?_put_self s.ln.groups g x), rfl⟩

theorem groupOf_cgReturns_setGroup (s : State) (g : Nat) {x : Group} (h : x.returns) :
    groupOf (cgReturns (setGroup s g x)) g = x.runs x.okRate := by
  have e := groupOf_setGroup s g x
  rw [cgReturns_eq, groupOf_returns (mem_groups_setGroup s g x) (by rw [e]; exact h), e]

/-! ## The end of an orderly stop (R145) -/

theorem cgStopDone_due {s : State} {g : Nat} (stopping : (groupOf s g).state = .stopping)
    (zero : (groupOf s g).playOut = .zero) (counted : (groupOf s g).stopLeft = 0) :
    cgStopDone s g = cgState (setGroup s g { groupOf s g with
      play := .zero, playOut := .zero, lastAt := none, wire := [] }) g .off := if_pos ⟨stopping, zero, .inl counted⟩

/-- A group whose EN is 0 stays OFF. -/
theorem groupStopped_disabled {s : State} {g : Nat} (hg : g < 8) (flags : OnlyFlags s (cgStopDone s g))
    (off : fb s .CG_CTRL_EN g = false) : groupStopped s g = cgStopDone s g := by
  have off' : fb (cgStopDone s g) .CG_CTRL_EN g = false :=
    (onlyFlags_fb flags .CG_CTRL_EN rfl hg (by decide)).trans off
  unfold groupStopped
  dsimp only
  rw [if_neg]
  rintro ⟨-, -, on, -⟩
  rw [off'] at on
  cases on

/-! ## The rows of Table 06-3 -/

/-- Settles O16: each transition is its function's branch for a group in that state, a step of that group alone. -/
theorem clockGroupTransitions : Obligations.ClockGroupTransitions := by
  intro s g hc hw x near runs
  have stands {t : State} : GroupOnly g s t → laneFlag t 0 → near t :=
    fun ⟨frame, flags, others⟩ up => ⟨frame, flags, others, up⟩
  refine ⟨fun on due => ?_, fun starting stable => ?_, fun t0 fault since due => ⟨?_, ?_⟩,
    fun stopping zero counted off => ?_⟩
  · have moves : (groupOf s g).state ≠ .stopped := by rcases on with h | h <;> (rw [h]; decide)
    have only := groupOnly_cgStop s g
    have up {b : Nat} (hb : b < 2) : laneFlag (cgStop s g) b := laneFlag_cgStop hw moves hb
    exact ⟨_, run_near (f := fun s => cgStopEvent s g) (cgStopEvent_due on due) hc only.near,
      stands only (up (by decide)), up (by decide), groupOf_cgStop s g⟩
  · have moves : (groupOf s g).state ≠ .running := by rw [starting]; decide
    have only := groupOnly_enterRunning s g x.stableRate
    exact ⟨_, run_near (f := fun s => cgAnchor s g) (cgAnchor_stable starting stable) hc only.near,
      stands only (laneFlag_enterRunning _ hw moves), groupOf_enterRunning s g _⟩
  · exact run_near (f := fun s => cgSettled s g) (cgSettled_due fault since due) hc (groupOnly_setGroup s g _).near
  · exact groupOf_cgReturns_setGroup s g ⟨rfl, fault⟩
  · have moves : (groupOf s g).state ≠ .off := by rw [stopping]; decide
    have done := cgStopDone_due stopping zero counted
    have only : GroupOnly g s (cgStopDone s g) := by
      rw [done]
      exact (groupOnly_setGroup s g _).trans (groupOnly_cgState _ g _)
    refine ⟨_, run_near (f := fun s => groupStopped s g) (groupStopped_disabled g.isLt only.flags off) hc only.near,
      stands only ?_, ?_⟩
    · rw [done]
      exact laneFlag_cgState (s := setGroup s g _) hw (by rw [groupOf_setGroup]; exact moves)
    · rw [done, groupOf_cgState, groupOf_setGroup]

end Sys2Proof.Machine
end

section
/-! Frame starts of a STARTING group (R128, R130, R136, R144; O18): the stable count, and zeros on the output lanes. -/

namespace Sys2Proof.Machine

/-! ## What a frame start decides -/

/-- An edge of FSY that starts no frame of the group (R128, R130). -/
theorem laneFrameStart_other {s : State} {g : Nat} {f : LaneFrame} (own : f.shared = false)
    (other : fb s .CG_FMT_FSY_SRC g = true ∨ fb s .CG_FMT_FSY_POL g ≠ f.falling) : laneFrameStart s g f = s := by
  unfold laneFrameStart
  rw [if_neg (by rw [own]; decide), if_pos other]

/-- The edge of its own pin that POL names starts a frame of the group. -/
theorem laneFrameStart_own {s : State} {g : Nat} {f : LaneFrame} (own : f.shared = false)
    (src : fb s .CG_FMT_FSY_SRC g = false) (pol : fb s .CG_FMT_FSY_POL g = f.falling) :
    laneFrameStart s g f = frameStart s g f := by
  unfold laneFrameStart
  rw [if_neg (by rw [own]; decide), if_neg]
  rintro (h | h)
  · rw [src] at h; cases h
  · exact h pol

/-- A group with its stable count and the rate of the frames counted (R144). -/
def Group.counts (x : Group) (n r : Nat) : Group := { x with stable := n, stableRate := r }

section
variable {s : State} {g : Nat} {f : LaneFrame}

/-- A frame at one accepted rate with the right BCK count is stable. -/
theorem cgStable_stable {r period : Nat} (rate : acceptedRate s g period = some r)
    (same : (groupOf s g).stable = 0 ∨ (groupOf s g).stableRate = r) :
    cgStable s g true period = setGroup s g ((groupOf s g).counts ((groupOf s g).stable + 1) r) := by
  unfold cgStable
  dsimp only
  rw [if_pos rfl, rate]
  exact if_pos same

/-- A frame that is not stable starts the count again. -/
theorem cgStable_restarts {right : Bool} {period : Nat} (wrong : right = false ∨ acceptedRate s g period = none) :
    cgStable s g right period = setGroup s g ((groupOf s g).counts 0 (groupOf s g).stableRate) := by
  have none : (if right then acceptedRate s g period else none) = none := by
    rcases wrong with h | h
    · rw [h]; rfl
    · rw [h, ite_self]
  unfold cgStable
  dsimp only
  rw [none]
  rfl

/-- A frame start is in time or late, judges the frame that ends, counts for an orderly stop and starts the next frame
(R143, R145). -/
theorem frameStart_eq (s : State) (g : Nat) (f : LaneFrame) : frameStart s g f =
    let u := cgCountFrame (judge (cgStopEvent s g) g f) g
    driveFrame (setGroup u g { groupOf u g with lastAt := some u.now }) g := rfl

/-- A STARTING group has nothing to stop. -/
theorem cgStopEvent_starting (starting : (groupOf s g).state = .starting) : cgStopEvent s g = s := by
  unfold cgStopEvent
  dsimp only
  rw [starting, if_neg (by decide : ¬ (GroupState.starting = .running ∨ GroupState.starting = .rateFault)),
    if_neg (by decide : GroupState.starting ≠ .stopping), ite_self]

theorem judge_starting {t0 : Nat} (starting : (groupOf s g).state = .starting) (heard : (groupOf s g).lastAt = some t0) :
    judge s g f = cgStable s g (rightBck s g f) f.period := by
  unfold judge
  dsimp only
  rw [starting, heard]
  rfl

theorem cgCountFrame_starting (starting : (groupOf s g).state = .starting) : cgCountFrame s g = s := by
  unfold cgCountFrame
  dsimp only
  rw [if_neg]
  rintro ⟨stopping, -⟩
  cases starting.symm.trans stopping

/-- Once a STARTING group's frame is judged, the instant is kept and the frame that starts is driven. -/
theorem frameStart_starting {t0 n r : Nat} (starting : (groupOf s g).state = .starting)
    (heard : (groupOf s g).lastAt = some t0)
    (judged : cgStable s g (rightBck s g f) f.period = setGroup s g ((groupOf s g).counts n r)) :
    frameStart s g f = driveFrame (setGroup s g { (groupOf s g).counts n r with lastAt := some s.now }) g := by
  have counted : (groupOf (setGroup s g ((groupOf s g).counts n r)) g).state = .starting := by
    rw [groupOf_setGroup]
    exact starting
  rw [frameStart_eq, cgStopEvent_starting starting, judge_starting starting heard, judged,
    cgCountFrame_starting counted]
  dsimp only
  rw [groupOf_setGroup, setGroup_setGroup]
  rfl

end

/-! ## What a STARTING group drives (R136, R144) -/

theorem laneData_starting {s : State} {g : Nat} (pos : Int) (l : Nat) (starting : (groupOf s g).state = .starting) :
    laneData s g pos l = laneOut s g l fun _ => 0 := by
  unfold laneData
  rw [starting, ite_self]

/-- A group as it stands and what has left the pins: nothing else differs from the state before. -/
def withSent (s : State) (g : Nat) (x : Group) (es : List Emission) : State := { setGroup s g x with emitted := es }

@[simp] theorem groupOf_withSent (s : State) (g : Nat) (x : Group) (es : List Emission) :
    groupOf (withSent s g x es) g = x := setGroup_groupOf s g x

@[simp] theorem withSent_setGroup (s : State) (g : Nat) (x y : Group) (es : List Emission) :
    withSent (setGroup s g x) g y es = withSent s g y es := by
  unfold withSent
  rw [setGroup_setGroup]

theorem near_withSent (s : State) (g : Nat) (x : Group) (es : List Emission) : Near s (withSent s g x es) :=
  .of_eq rfl rfl

/-- The lanes of a frame that carry zeros in every slot. -/
def ZeroFrame (s : State) (g : Nat) (wire : List (Nat × List Bool)) : Prop :=
  ∀ w ∈ wire, w.2 = laneOut s g w.1 fun _ => 0

/-- The frame that a STARTING group sends is zeros on each of its output lanes, and is kept as the one on its pins. -/
theorem sendFrame_starting {s : State} {g : Nat} (pos : Int) (starting : (groupOf s g).state = .starting) :
    ∃ wire es, sendFrame s g pos = withSent s g { groupOf s g with wire := wire } es ∧ ZeroFrame s g wire := by
  refine ⟨_, _, rfl, fun w hw => ?_⟩
  obtain ⟨l, -, rfl⟩ := List.mem_map.1 hw
  exact laneData_starting pos l starting

/-- A group whose place in the output block has moved on by a frame, unless it waits for its anchor. -/
def Group.movesOn (x : Group) (wire : List (Nat × List Bool)) : Group :=
  { x with pos := if x.fresh then x.pos else x.pos + 1, wire := wire }

/-- A STARTING group whose frame starts moves on, and sends zeros unless the block of this stitch is used up. -/
theorem driveFrame_starting {s : State} {g : Nat} (starting : (groupOf s g).state = .starting) :
    ∃ wire es, driveFrame s g = withSent s g ((groupOf s g).movesOn wire) es ∧
      (wire = (groupOf s g).wire ∨ ZeroFrame s g wire) := by
  have on : (groupOf s g).state ≠ .off := by rw [starting]; decide
  unfold driveFrame Group.movesOn
  dsimp only
  rw [if_neg on]
  split
  case isTrue fresh =>
    obtain ⟨wire, es, e, zeros⟩ := sendFrame_starting 0 starting
    exact ⟨wire, es, e, .inr zeros⟩
  case isFalse anchored =>
    split
    · exact ⟨_, s.emitted, rfl, .inl rfl⟩
    · obtain ⟨wire, es, e, zeros⟩ := sendFrame_starting
        (s := setGroup s g { groupOf s g with pos := (groupOf s g).pos + 1 }) (g := g) (groupOf s g).pos
        (by rw [groupOf_setGroup]; exact starting)
      rw [groupOf_setGroup, withSent_setGroup] at e
      exact ⟨wire, es, e, .inr zeros⟩

/-- Settles O18: the judgement of R144 gives the count and the rate, the frame that starts the rest. -/
theorem startingGroupCountsFrames : Obligations.StartingGroupCountsFrames := by
  intro s g f t0 hc x right near own
  refine ⟨fun other => run_near (f := fun s => laneFrameStart s g f) (laneFrameStart_other own other) hc (.refl s),
    fun src pol starting heard => ?_⟩
  have counts {n r : Nat} (judged : cgStable s g (rightBck s g f) f.period = setGroup s g (x.counts n r)) :
      ∃ t, exec (.laneFrameStart g f) s = .next t ∧ near t n r := by
    obtain ⟨wire, es, e, sent⟩ := driveFrame_starting (s := setGroup s g { x.counts n r with lastAt := some s.now })
      (g := g) (by rw [groupOf_setGroup]; exact starting)
    rw [← frameStart_starting starting heard judged, ← laneFrameStart_own own src pol, groupOf_setGroup,
      withSent_setGroup] at e
    rw [groupOf_setGroup] at sent
    refine ⟨_, run_near (f := fun s => laneFrameStart s g f) e hc (near_withSent s g _ es), ?_, ?_,
      fun h hne => setGroup_groupOf_ne s _ hne, rfl⟩
    · rw [groupOf_withSent]
      rfl
    · rw [groupOf_withSent]
      exact sent
  refine ⟨fun r bck rate same => counts ?_, fun wrong => counts ?_⟩
  · have bck' : rightBck s g f = true := beq_iff_eq.2 bck
    rw [bck']
    exact cgStable_stable rate same
  · exact cgStable_restarts (wrong.imp_left beq_eq_false_iff_ne.2)

end Sys2Proof.Machine
end

section
/-! Writes of CG_CTRL (R144, R145, R147, Table 06-3; O19): what is stored, what starts and what stops in order. -/

namespace Sys2Proof.Machine

theorem blockWrite_CG_CTRL (s : State) {g : Nat} (hg : g < 8) (v : Word) :
    blockWrite s .CG_CTRL g 0 v = cgEnWrite s g v := blockWrite_entry s .CG_CTRL v rfl hg (by decide)

/-- A change of state of a group that has been written. -/
theorem cgState_setGroup {s : State} {g : Nat} {x : Group} {st : GroupState} (moves : x.state ≠ st) :
    cgState (setGroup s g x) g st = groupMoves s g { x with state := st } := by
  rw [cgState_moves (by rw [groupOf_setGroup]; exact moves), groupOf_setGroup, groupMoves, setGroup_setGroup]
  rfl

section
variable {s : State} {g : Nat} {v : Word}

/-- EN 1 only stores where the group is on, the block is held or start-up goes on (R388, R454). -/
theorem cgEnWrite_on_stores (on : bit v 0 = true)
    (stays : (groupOf s g).state ≠ .off ∨ held s 5 = true ∨ s.glb.mode = .starting) :
    cgEnWrite s g v = put s .CG_CTRL g 0 v := by
  unfold cgEnWrite
  dsimp only
  rw [if_neg (by rw [on]; decide)]
  split
  · rfl
  · rename_i free
    exact if_neg (stays.resolve_right free)

theorem cgEnWrite_starts (on : bit v 0 = true) (free : held s 5 = false) (up : s.glb.mode ≠ .starting) :
    cgEnWrite s g v = cgStart (put s .CG_CTRL g 0 v) g := by
  unfold cgEnWrite
  dsimp only
  rw [if_neg (by rw [on]; decide), if_neg]
  rintro (h | h)
  · cases free.symm.trans h
  · exact up h

theorem cgEnWrite_stops (off : bit v 0 = false) : cgEnWrite s g v = cgStopping (put s .CG_CTRL g 0 v) g := by
  unfold cgEnWrite
  dsimp only
  rw [if_pos (by rw [off]; rfl)]

/-- A group as it starts (R144). -/
def Group.starts (x : Group) : Group :=
  { x with state := .starting, stable := 0, lastAt := none, play := .zero, playOut := .zero }

theorem cgStart_off (off : (groupOf s g).state = .off) : cgStart s g = groupMoves s g (groupOf s g).starts := by
  unfold cgStart
  rw [if_pos off, cgState_setGroup (by rw [off]; decide)]
  rfl

/-- A group as it stops in order at an instant (R145). -/
def Group.stopsAt (x : Group) (now : Nat) : Group := { x with
  state := .stopping, play := x.play.stop, playOut := if x.fresh then .zero else x.playOut.stop, fresh := false
  settled := false, glitchRun := 0, offRun := 0, stopLeft := 64, stopAt := now, okFrom := none }

/-- A group that is OFF or stops already is left as it is. -/
theorem cgStopping_stays (h : (groupOf s g).state = .off ∨ (groupOf s g).state = .stopping) : cgStopping s g = s := by
  unfold cgStopping
  dsimp only
  rcases h with h | h <;> rw [h]

theorem cgStopping_on (on : (groupOf s g).state ≠ .off) (runs : (groupOf s g).state ≠ .stopping) :
    cgStopping s g = groupMoves s g ((groupOf s g).stopsAt s.now) := by
  unfold cgStopping
  dsimp only
  split
  next isOff => exact absurd isOff on
  next stops => exact absurd stops runs
  next => exact cgState_setGroup runs

end

/-- An accepted write of CG_CTRL that stores the value and then takes a step of its group. -/
theorem run_cgEnWrite {s t : State} {g : Nat} {v : Word} (hg : g < 8) (hc : calm s = true)
    (ha : Accepted s .CG_CTRL g 0 v) (e : cgEnWrite (noted s .CG_CTRL g 0) g v = t)
    (only : GroupOnly g (put (noted s .CG_CTRL g 0) .CG_CTRL g 0 v) t) :
    run s (fun s => regWrite s .CG_CTRL g 0 v 15) = .next t :=
  write_near .CG_CTRL hg (by decide) ha ((blockWrite_CG_CTRL _ hg v).trans e)
    (calm_entry (calm_noted hc .CG_CTRL g 0) _ (by decide) hg (by decide)) only.near rfl rfl

/-- Settles O19: the value is stored, and EN then takes the group's row of Table 06-3 where it has one. -/
theorem groupEnableWrites : Obligations.GroupEnableWrites := by
  intro s g v hc ha x w moved
  have stores : GroupOnly g w w := .refl g w
  have moves (y : Group) : GroupOnly g w (moved y) := groupOnly_groupMoves w g y
  refine ⟨fun on stays => ?_, fun off stays => ?_, fun on free up off => ?_, fun off on runs => ?_⟩
  · exact run_cgEnWrite g.isLt hc ha (cgEnWrite_on_stores on stays) stores
  · exact run_cgEnWrite g.isLt hc ha ((cgEnWrite_stops off).trans (cgStopping_stays stays)) stores
  · have starts := cgEnWrite_starts (s := noted s .CG_CTRL g 0) (g := g) on free up
    exact run_cgEnWrite g.isLt hc ha (starts.trans (cgStart_off off)) (moves _)
  · exact run_cgEnWrite g.isLt hc ha ((cgEnWrite_stops off).trans (cgStopping_on on runs)) (moves _)

end Sys2Proof.Machine
end

section
/-! Ports and the switch (spec/07): what their operations leave alone and what is read back after them; the commands of
SW_CMD and PORT_CMD (O15), the states of a port (O20), ageing and gates (O23). -/

namespace Sys2Proof.Machine

/-! ## Operations of the switch -/

/-- Beside event flags only the switch differs. -/
def SwitchOnly (s t : State) : Prop := t = { s with rf := t.rf, evt := t.evt, sw := t.sw } ∧ OnlyFlags s t

theorem SwitchOnly.refl (s : State) : SwitchOnly s s := ⟨rfl, onlyFlags_refl s⟩

theorem SwitchOnly.trans {s t u : State} (h : SwitchOnly s t) (g : SwitchOnly t u) : SwitchOnly s u := by
  refine ⟨?_, onlyFlags_trans h.2 g.2⟩
  rw [g.1, h.1]

theorem SwitchOnly.near {s t : State} (h : SwitchOnly s t) : Near s t := ⟨by rw [h.1], h.2⟩

theorem SwitchOnly.now {s t : State} (h : SwitchOnly s t) : t.now = s.now := h.near.now

theorem SwitchOnly.str {s t : State} (h : SwitchOnly s t) : t.str = s.str := (congrArg State.str h.1 :)

theorem switchOnly_forEach {α : Type} {f : α → State → State} (h : ∀ x s, SwitchOnly s (f x s)) (xs : List α) (s : State) :
    SwitchOnly s (forEach xs s f) := forEach_rel SwitchOnly.refl SwitchOnly.trans h xs s

theorem switchOnly_setSw (s : State) (f : Switch → Switch) : SwitchOnly s (s.setSw f) := ⟨rfl, onlyFlags_of_rf rfl⟩

theorem switchOnly_setPort (s : State) (n : Nat) (p : Port) : SwitchOnly s (setPort s n p) := switchOnly_setSw s _

theorem switchOnly_modCnt (s : State) (n : Nat) (f : PortCnt → PortCnt) : SwitchOnly s (modCnt s n f) :=
  switchOnly_setPort s n _

theorem switchOnly_event (s : State) (bits : Nat) : SwitchOnly s (raise s .SW_EVENT bits) := by
  have h := raise_flagged s (r := .SW_EVENT) bits (i := 0) (by decide) (by decide) (by decide)
  exact ⟨by rw [h.1], h.2⟩

theorem switchOnly_flushPort (s : State) (n : Nat) : SwitchOnly s (flushPort s n) := by
  unfold flushPort
  exact (switchOnly_setSw s _).trans (switchOnly_modCnt _ n _)

theorem switchOnly_putMac (s : State) (i : Nat) (e : MacEnt) : SwitchOnly s (putMac s i e) := switchOnly_setSw s _

theorem switchOnly_macLearn (s : State) (vid mac port : Nat) : SwitchOnly s (macLearn s vid mac port) := by
  unfold macLearn
  split
  · split
    · split
      · exact switchOnly_putMac s _ _
      · exact .refl s
    · exact .refl s
  · split
    · exact switchOnly_putMac s _ _
    · exact switchOnly_event s 4

theorem switchOnly_enqueueFrame (s : State) (n : Nat) (qf : QFrame) : SwitchOnly s (enqueueFrame s n qf) := by
  unfold enqueueFrame
  dsimp only
  split
  · exact (switchOnly_modCnt s n _).trans (switchOnly_event _ 2)
  · exact switchOnly_setSw s _

@[simp] theorem portOf_setPort (s : State) (n : Nat) (p : Port) : portOf (setPort s n p) n = p := Tbl.getD_put_self _ _ _ _

theorem portOf_setPort_ne (s : State) {n m : Nat} (p : Port) (h : m ≠ n) : portOf (setPort s n p) m = portOf s m :=
  Tbl.getD_put_ne _ _ _ h

@[simp] theorem setPort_setPort (s : State) (n : Nat) (p q : Port) : setPort (setPort s n p) n q = setPort s n q := by
  show { s with sw := { s.sw with ports := Tbl.put (Tbl.put s.sw.ports n p) n q } } = _
  rw [Tbl.put_put]
  rfl

@[simp] theorem portOf_modCnt (s : State) (n : Nat) (f : PortCnt → PortCnt) :
    portOf (modCnt s n f) n = { portOf s n with cnt := f (portOf s n).cnt } := portOf_setPort s n _

/-! ## Commands of SW_CMD and PORT_CMD -/

theorem blockWrite_SW_CMD (s : State) (v : Word) : blockWrite s .SW_CMD 0 0 v = swCmd s v :=
  blockWrite_entry s .SW_CMD v rfl (by decide) (by decide)

/-- GATE_APPLY of a port reaches `gateApply` alone. -/
theorem blockWrite_PORT_CMD_apply (s : State) {n : Nat} (hn : n < 5) : blockWrite s .PORT_CMD n 0 1 = gateApply s n :=
  blockWrite_entry s .PORT_CMD 1 rfl hn (by decide)

/-- GATE_CANCEL of a port reaches `gateCancel` alone. -/
theorem blockWrite_PORT_CMD_cancel (s : State) {n : Nat} (hn : n < 5) : blockWrite s .PORT_CMD n 0 2 = gateCancel s n :=
  blockWrite_entry s .PORT_CMD 2 rfl hn (by decide)

/-- An accepted command of SW_CMD that changes the switch alone. -/
theorem swCmd_setSw {s : State} {v : Word} {f : Switch → Switch} (hc : calm s = true) (ha : Accepted s .SW_CMD 0 0 v)
    (e : swCmd (noted s .SW_CMD 0 0) v = (noted s .SW_CMD 0 0).setSw f) :
    run s (fun s => regWrite s .SW_CMD 0 0 v 15) = .next ((noted s .SW_CMD 0 0).setSw f) :=
  write_noted_near .SW_CMD (by decide) (by decide) hc ha ((blockWrite_SW_CMD _ v).trans e) (near_setSw _ f)

/-- MAC_ADD of an address whose set has no way left fails with NO_CAPACITY (R157). -/
theorem macAdd_noWay_fails {s : State} (h : macWay s (stagedVid s) (stagedMac s) = none) :
    (Code.noCapacity, true) ∈ blockFails s .SW_CMD 0 0 2 := by
  show (Code.noCapacity, true) ∈ portFails s .SW_CMD 0 2
  have adds : bit (2 : Word) 1 = true := by decide
  unfold stagedVid stagedMac at h
  simp only [portFails, adds, h]
  exact .head _

/-- An accepted MAC_ADD has a way. -/
theorem accepted_macAdd_way {s : State} (h : Accepted s .SW_CMD 0 0 2) :
    ∃ i, macWay s (stagedVid s) (stagedMac s) = some i :=
  Option.ne_none_iff_exists'.1 fun none =>
    accepted_blockFails (by decide) (by decide) h (by decide) (macAdd_noWay_fails none)

/-- MAC_DEL of an address that is not in the table fails with NOT_FOUND (R167). -/
theorem macDel_absent_fails {s : State} (h : macFind s (stagedVid s) (stagedMac s) = none) :
    (Code.notFound, true) ∈ blockFails s .SW_CMD 0 0 4 := by
  show (Code.notFound, true) ∈ portFails s .SW_CMD 0 4
  have absent : macHasFixed s (stagedVid s) (stagedMac s) = false := by
    unfold macHasFixed
    rw [h]
  unfold stagedVid stagedMac at absent
  have deletes : bit (4 : Word) 2 = true := by decide
  have addsNot : bit (4 : Word) 1 = false := by decide
  simp only [portFails, deletes, addsNot, absent]
  exact .tail _ (.head _)

/-- An accepted MAC_DEL finds its address. -/
theorem accepted_macDel_found {s : State} (h : Accepted s .SW_CMD 0 0 4) :
    ∃ i, macFind s (stagedVid s) (stagedMac s) = some i :=
  Option.ne_none_iff_exists'.1 fun none =>
    accepted_blockFails (by decide) (by decide) h (by decide) (macDel_absent_fails none)

/-- How many receive streams own the address where it stands in a way (R159). -/
def ownersAt (s : State) (i vid mac : Nat) : Nat :=
  match Tbl.get? s.sw.mac i with
  | some e => if e.vid = vid ∧ e.mac = mac then e.owners else 0
  | none => 0

theorem macAdd_way {s : State} {vid mac i : Nat} (ports : Nat) (h : macWay s vid mac = some i) :
    macAdd s vid mac ports = putMac s i { vid := vid, mac := mac, fixed := some ports, owners := ownersAt s i vid mac } := by
  unfold macAdd
  rw [h]
  rfl

theorem macDel_found {s : State} {vid mac i : Nat} (h : macFind s vid mac = some i) : macDel s vid mac =
    s.setSw fun w => { w with mac := Tbl.keep (Tbl.upd w.mac i fun e => { e with fixed := none }) fun j e =>
      !(j == i && e.fixed.isNone && e.owners == 0 && e.learned.isNone) } := by
  unfold macDel
  rw [h]
  rfl

/-- Settles O15: an accepted MAC_ADD has a way and an accepted MAC_DEL an entry, since their absence is a failure; each
bit reaches its own operation on the table or the gates. -/
theorem switchCommands : Obligations.SwitchCommands := by
  intro s hc n vid mac
  refine ⟨fun ha => ?_, fun ha => ?_, fun ha => ?_, fun p ha => ?_, fun p ha => ?_⟩
  · obtain ⟨i, way⟩ := accepted_macAdd_way ha
    exact ⟨i, way, swCmd_setSw hc ha (macAdd_way (s := n) _ way)⟩
  · obtain ⟨i, found⟩ := accepted_macDel_found ha
    exact ⟨i, found, swCmd_setSw hc ha (macDel_found (s := n) found)⟩
  · exact swCmd_setSw hc ha rfl
  · exact write_noted_near .PORT_CMD p.isLt (by decide) hc ha (blockWrite_PORT_CMD_apply _ p.isLt) (near_setSw _ _)
  · exact write_noted_near .PORT_CMD p.isLt (by decide) hc ha (blockWrite_PORT_CMD_cancel _ p.isLt) (near_setSw _ _)

/-! ## States of a port (Table 07-2) -/

/-- A port changes its state, and SW_EVENT LINK says so. -/
def portMoves (s : State) (n : Nat) (p : Port) : State := raise (setPort s n p) .SW_EVENT 1

theorem switchOnly_portMoves (s : State) (n : Nat) (p : Port) : SwitchOnly s (portMoves s n p) :=
  (switchOnly_setPort s n p).trans (switchOnly_event _ 1)

theorem portState_moves {s : State} {n : Nat} {st : PortState} (h : (portOf s n).state ≠ st) :
    portState s n st = portMoves s n { portOf s n with state := st } := if_neg h

theorem portOf_flushPort_state (s : State) (n : Nat) : (portOf (flushPort s n) n).state = (portOf s n).state := by
  unfold flushPort
  dsimp only
  rw [portOf_modCnt]
  rfl

/-- A port that leaves its state loses the frames queued for it (R153). -/
theorem portState_flushed {s : State} {n : Nat} {st : PortState} (h : (portOf s n).state ≠ st) :
    portState (flushPort s n) n st = portMoves (flushPort s n) n { portOf (flushPort s n) n with state := st } :=
  portState_moves (by rw [portOf_flushPort_state]; exact h)

theorem blockWrite_PORT_CTRL (s : State) {n : Nat} (hn : n < 4) (v : Word) :
    blockWrite s .PORT_CTRL n 0 v = portEnWrite s n v := blockWrite_entry s .PORT_CTRL v rfl hn (by decide)

section
variable {s : State} {n : Nat}

theorem portEnWrite_enables {v : Word} (off : fb s .PORT_CTRL_EN n = false) (on : bit v 31 = true)
    (free : held s 6 = false) (awake : s.glb.mode ≠ .quiet) (disabled : (portOf s n).state = .disabled) :
    portEnWrite s n v =
      portMoves (put s .PORT_CTRL n 0 v) n { portOf s n with state := .negotiating } := by
  have runs : ¬(held s 6 = true ∨ s.glb.mode = .quiet) := fun h => h.elim (by rw [free]; decide) awake
  unfold portEnWrite
  dsimp only
  rw [off, on, if_neg (by decide), if_neg (fun h => runs h.2), portEnable, if_pos rfl]
  exact (if_pos disabled).trans (portState_moves (s := put s .PORT_CTRL n 0 v) fun h => by
    rw [show (portOf s n).state = .negotiating from h] at disabled
    cases disabled)

theorem portEnWrite_disables {v : Word} (on : fb s .PORT_CTRL_EN n = true) (off : bit v 31 = false)
    (enabled : (portOf s n).state ≠ .disabled) :
    portEnWrite s n v = portMoves (flushPort (put s .PORT_CTRL n 0 v) n) n
      { portOf (flushPort (put s .PORT_CTRL n 0 v) n) n with state := .disabled } := by
  unfold portEnWrite
  dsimp only
  rw [on, off, if_neg (by decide), if_neg (fun h => by cases h.1), portEnable, if_neg (by decide)]
  exact (if_neg enabled).trans (portState_flushed (s := put s .PORT_CTRL n 0 v) enabled)

theorem linkUp_negotiating (kx fec : Bool) (h : (portOf s n).state = .negotiating) :
    linkUp s n kx fec = portMoves s n { portOf s n with
      state := .up, speed := speedOf s n kx, fault := 0
      fec := fec && fv s .PORT_CTRL_MODE n == 0 && fb s .PORT_CTRL_FEC_ADV n && speedOf s n kx == 2 } := by
  unfold linkUp
  dsimp only
  rw [if_pos h, portState_moves (by rw [portOf_setPort]; show (portOf s n).state ≠ _; rw [h]; decide), portOf_setPort,
    portMoves, setPort_setPort]
  rfl

theorem linkDown_up (h : (portOf s n).state = .up) : linkDown s n =
    portMoves (flushPort s n) n { portOf (flushPort s n) n with state := .negotiating } :=
  (if_pos h).trans (portState_flushed (by rw [h]; decide))

theorem portsRun_free {f : State → State} (free : held s 6 = false) (awake : s.glb.mode ≠ .quiet)
    (out : s.glb.inReset = false) : portsRun s f = f s := by
  refine if_neg ?_
  rintro (safe | quiet | reset)
  · cases free.symm.trans safe
  · exact awake quiet
  · cases out.symm.trans reset

end

/-- An accepted write of PORT_CTRL that stores the value and then moves its port. -/
theorem run_portEnWrite {s t : State} {n : Nat} {v : Word} (hn : n < 4) (hc : calm s = true)
    (ha : Accepted s .PORT_CTRL n 0 v) (e : portEnWrite (noted s .PORT_CTRL n 0) n v = t)
    (only : SwitchOnly (put (noted s .PORT_CTRL n 0) .PORT_CTRL n 0 v) t) :
    run s (fun s => regWrite s .PORT_CTRL n 0 v 15) = .next t :=
  write_near .PORT_CTRL hn (by decide) ha ((blockWrite_PORT_CTRL _ hn v).trans e)
    (calm_entry (calm_noted hc .PORT_CTRL n 0) _ (by decide) hn (by decide)) only.near rfl rfl

/-- Settles O20: each command takes its row of Table 07-2, with the flush where the port leaves UP or is disabled. -/
theorem portLinkStates : Obligations.PortLinkStates := by
  intro s n hc moved
  refine ⟨fun v ha => ⟨fun off on free awake disabled => ?_, fun on off enabled => ?_⟩,
    fun kx fec free awake out negotiating => ?_, fun f negotiating => ?_, fun up => ?_⟩
  · exact run_portEnWrite n.isLt hc ha (portEnWrite_enables (s := noted s .PORT_CTRL n 0) off on free awake disabled)
      (switchOnly_portMoves _ _ _)
  · exact run_portEnWrite n.isLt hc ha (portEnWrite_disables (s := noted s .PORT_CTRL n 0) on off enabled)
      ((switchOnly_flushPort _ _).trans (switchOnly_portMoves _ _ _))
  · exact run_near (f := fun s => portsRun s fun s => linkUp s n kx fec)
      ((portsRun_free free awake out).trans (linkUp_negotiating kx fec negotiating)) hc (switchOnly_portMoves s n _).near
  · exact run_near (f := fun s => negotiationFault s n f) (if_pos negotiating) hc (switchOnly_setPort s n _).near
  · exact run_near (f := fun s => linkDown s n) (linkDown_up up) hc
      ((switchOnly_flushPort s n).trans (switchOnly_portMoves _ n _)).near

/-! ## Ageing and gates -/

theorem gateTakeover_due {s : State} {n : Nat} {g : GateCfg} (pending : (portOf s n).pend = some g)
    (due : takeoverDue s n = true) : gateTakeover s n = gateTake s n g := by
  unfold gateTakeover
  rw [pending]
  exact if_pos due

/-- Settles O23: the three commands are `macAge`, `gateEntry` and `gateTake`, each a change of the switch alone. -/
theorem ageingAndGates : Obligations.AgeingAndGates := by
  intro s n hc place
  refine ⟨run_near (f := macAge) rfl hc (near_setSw s _), fun enabled => ?_, fun g pending due => ?_⟩
  · exact run_near (f := fun s => gateEntry s n) (if_pos enabled) hc (switchOnly_setPort s n _).near
  · exact run_near (f := fun s => gateTakeover s n) (gateTakeover_due pending due) hc (switchOnly_setPort s n _).near

end Sys2Proof.Machine
end

section
/-! Frames through the switch (spec/07): ingress (O21) and transmission selection (O22). -/

namespace Sys2Proof.Machine

/-! ## Ingress (R154, R155, R157, R158) -/

/-- A good frame is counted at the port where it enters. -/
def countRx (s : State) (n len : Nat) : State :=
  modCnt s n fun c => { c with rxFrames := sat64 c.rxFrames 1, rxOctets := sat64 c.rxOctets len }

/-- A frame that is not taken in is counted. -/
def dropRx (s : State) (n : Nat) : State := modCnt s n fun c => { c with rxDrop := inc32 c.rxDrop }

/-- What keeps a frame of a valid VLAN out (R154, R208). -/
def ingressBad (s : State) (n : Nat) (f0 : Frame) (vlan : Word) : Bool :=
  let f := classify s n f0
  !acceptsTag s n f0 || fld vlan (8 + n) 1 == 0 || decide (fv s .SW_CFG_MAXFRAME < f.len) || reservedDst f.dst ||
    p2pDrops s n f

section
variable {s : State} {n : Nat} {f0 : Frame}

theorem ingress_badFcs (up : n < 4 → (portOf s n).state = .up) (bad : f0.fcsOk = false) :
    ingress s n f0 = modCnt s n fun c => { c with rxFcs := inc32 c.rxFcs } := by
  unfold ingress
  rw [if_neg (fun h => h.2 (up h.1)), if_pos (by rw [bad]; rfl)]

theorem ingress_noVlan (up : n < 4 → (portOf s n).state = .up) (good : f0.fcsOk = true)
    (unknown : vlanOf s (classify s n f0).vid = none) : ingress s n f0 = dropRx (countRx s n f0.len) n := by
  unfold ingress
  dsimp only
  rw [if_neg (fun h => h.2 (up h.1)), if_neg (by rw [good]; decide)]
  split
  next => rfl
  next known => cases unknown.symm.trans known

/-- A good frame of a valid VLAN is dropped or learned and forwarded. -/
theorem ingress_vlan {w : Word} (up : n < 4 → (portOf s n).state = .up) (good : f0.fcsOk = true)
    (known : vlanOf s (classify s n f0).vid = some w) :
    ingress s n f0 =
      let f := classify s n f0
      let seen := countRx s n f0.len
      let learned := macLearn seen f.vid f.src n
      let qf : QFrame := { frame := f, fromPort := n, inAt := s.now }
      if ingressBad s n f0 w = true then dropRx seen n
      else if isPdelay f = true then (if n < 4 then enqueueFrame learned 4 qf else learned)
      else forEach (bitsOf (forwardMask learned n f w) 5 0) learned fun p t =>
        if p < 4 ∧ (portOf t p).state ≠ .up then t else enqueueFrame t p qf := by
  dsimp only
  rw [← (switchOnly_macLearn (countRx s n f0.len) (classify s n f0).vid (classify s n f0).src n).now.trans
    (switchOnly_modCnt s n _).now]
  unfold ingress
  dsimp only
  rw [if_neg (fun h => h.2 (up h.1)), if_neg (by rw [good]; decide)]
  split
  next unknown => cases unknown.symm.trans known
  next v found =>
    obtain rfl := Option.some.inj (known.symm.trans found)
    rfl

end

/-- A frame that enters changes the switch alone. -/
theorem switchOnly_ingress (s : State) (n : Nat) (f0 : Frame) : SwitchOnly s (ingress s n f0) := by
  have counts := switchOnly_modCnt s n fun c => { c with rxFrames := sat64 c.rxFrames 1, rxOctets := sat64 c.rxOctets f0.len }
  unfold ingress
  dsimp only
  generalize classify _ n f0 = f
  split
  · exact .refl s
  split
  · exact switchOnly_modCnt s n _
  split
  · exact counts.trans (switchOnly_modCnt _ n _)
  split
  · exact counts.trans (switchOnly_modCnt _ n _)
  refine counts.trans ((switchOnly_macLearn _ f.vid f.src n).trans ?_)
  split
  · split
    · exact switchOnly_enqueueFrame _ _ _
    · exact .refl _
  · refine switchOnly_forEach (fun p t => ?_) _ _
    split
    · exact .refl t
    · exact switchOnly_enqueueFrame t p _

/-- FRAME_INGRESS has the effect of `ingress`. -/
theorem run_ingress {s t : State} {n : Nat} {f0 : Frame} (hc : calm s = true) (e : ingress s n f0 = t) :
    run s (fun s => ingress s n f0) = .next t :=
  run_near e hc (e ▸ (switchOnly_ingress s n f0).near)

/-- Settles O21: a bad frame and one of no valid VLAN by their own lemma, the others by the branches of
`ingress_vlan`. -/
theorem frameIngressForwards : Obligations.FrameIngressForwards := by
  intro s n f0 hc up cnt seen f
  refine ⟨fun bad => run_ingress hc (ingress_badFcs up bad), fun good unknown => run_ingress hc (ingress_noVlan up good unknown),
    fun w good known => ?_⟩
  intro bad learned qf
  have e := ingress_vlan up good known
  have refused : ingressBad s n f0 w = bad := rfl
  refine ⟨fun isBad => ?_, fun fine peer port => ?_, fun fine peer engine => ?_, fun fine other => ?_⟩
  · exact run_ingress hc (e.trans (if_pos (refused.trans isBad)))
  · exact run_ingress hc (e.trans ((if_neg (by rw [refused, fine]; decide)).trans ((if_pos peer).trans (if_pos port))))
  · exact run_ingress hc (e.trans ((if_neg (by rw [refused, fine]; decide)).trans ((if_pos peer).trans (if_neg (by omega)))))
  · exact run_ingress hc (e.trans ((if_neg (by rw [refused, fine]; decide)).trans
      (if_neg (show ¬isPdelay f = true by rw [other]; decide))))

/-! ## Transmission selection (R161, R162, R164) -/

section
variable {s : State} {n : Nat}

/-- Where every head frame fits some window of the cycle, none is dropped (R164). -/
theorem dropUnfit_fits (fits : ∀ k g l, k < 8 → queueAt s n k = g :: l →
    fitsNever s n k (egressForm s n g.frame).len = false) : dropUnfit s n = s := by
  refine forEach_id fun k hk => ?_
  have below : k < 8 := by
    simp only [List.mem_cons, List.not_mem_nil, or_false] at hk
    omega
  split
  next g l head => exact if_neg (by rw [fits k g l below head]; decide)
  next => rfl

section
variable {q : Nat} {qf : QFrame} {rest : List QFrame}

/-- Of the queues below `m`, the highest that is not empty, open and in credit is served, or waits for its window. -/
theorem selectQueue_serves {m : Nat} (hq : q < m) (head : queueAt s n q = qf :: rest) (credit : creditOk s n q = true)
    (window : (windowNow s n q).isSome = true)
    (passed : ∀ k g l, q < k → k < m → queueAt s n k = g :: l → creditOk s n k = false ∨ windowNow s n k = none) :
    selectQueue s n m = if fitsNow s n q (egressForm s n qf.frame).len = true then some q else none := by
  induction m with
  | zero => cases hq
  | succ k ih =>
    unfold selectQueue
    rcases Nat.lt_succ_iff_lt_or_eq.1 hq with above | rfl
    · have below := ih above fun j g l hj hjk => passed j g l hj (Nat.lt_succ_of_lt hjk)
      split
      next => exact below
      next g l waits =>
        rw [if_neg, below]
        rcases passed k g l above (Nat.lt_succ_self k) waits with h | h <;> simp [h]
    · rw [head]
      dsimp only
      rw [if_pos (by rw [credit, window]; rfl)]

/-- The engine gets the first frame of the highest queue below `m` that is not empty. -/
theorem engineTake_serves {m : Nat} (hq : q < m) (head : queueAt s 4 q = qf :: rest)
    (empty : ∀ k, q < k → k < m → queueAt s 4 k = []) :
    engineTake s m = emit (countTx (setQueue s 4 q rest) 4 (egressForm s 4 qf.frame)) (.toEngine (egressForm s 4 qf.frame)) := by
  induction m with
  | zero => cases hq
  | succ k ih =>
    unfold engineTake
    rcases Nat.lt_succ_iff_lt_or_eq.1 hq with above | rfl
    · rw [empty k above (Nat.lt_succ_self k)]
      exact ih above fun j hj hjk => empty j hj (Nat.lt_succ_of_lt hjk)
    · rw [head]

/-- The transparent clock leaves a frame alone that is no PTP message. -/
theorem tcCorrect_plain (plain : qf.frame.ptp = none) : tcCorrect s n qf = (s, qf.frame) := by
  unfold tcCorrect
  rw [plain]

/-- The wire time of a frame does not depend on queues and counters. -/
theorem wireNs_countTx (f : Frame) (len : Nat) : wireNs (countTx (setQueue s n q rest) n f) n len = wireNs s n len := by
  unfold wireNs countTx
  rw [portOf_modCnt]
  rfl

/-- The form in which a frame leaves does not depend on the queues. -/
theorem egressForm_setQueue (l : List QFrame) (m : Nat) (f : Frame) :
    egressForm (setQueue s n q l) m f = egressForm s m f := rfl

theorem startFrame_plain (head : queueAt s n q = qf :: rest) (plain : qf.frame.ptp = none) :
    startFrame s n q =
      let f := egressForm s n qf.frame
      let u := countTx (setQueue s n q rest) n f
      (emit (setPort u n { portOf u n with busyUntil := s.now + wireNs s n f.len, sending := q }) (.frame n f),
        some qf.frame) := by
  unfold startFrame
  rw [head]
  dsimp only
  rw [tcCorrect_plain plain, egressForm_setQueue, wireNs_countTx]
  rfl

end

theorem txLeft_plain {f : Frame} (plain : f.tx = none) : txLeft s n f = s := by
  unfold txLeft
  rw [plain]

theorem frameEgress_none {t : State} (e : egress s n = (t, none)) : frameEgress s n = t := by
  unfold frameEgress
  rw [e]

theorem frameEgress_plain {t : State} {f : Frame} (e : egress s n = (t, some f)) (plain : f.tx = none) :
    frameEgress s n = t := by
  unfold frameEgress
  rw [e]
  exact txLeft_plain plain

section
variable (port : n ≠ 4) (up : (portOf s n).state = .up) (free : (portOf s n).busyUntil ≤ s.now)
  (keeps : dropUnfit s n = s)
include port up free keeps

/-- A free port starts the first frame of the queue that is selected. -/
theorem egress_starts {q : Nat} (serves : selectQueue s n 8 = some q) : egress s n = startFrame s n q := by
  unfold egress
  rw [if_neg port, if_neg (fun h => h.elim (fun h => h up) (by omega)), keeps]
  dsimp only
  rw [serves]

/-- Where no queue is selected nothing starts. -/
theorem egress_waits (waits : selectQueue s n 8 = none) : egress s n = (s, none) := by
  unfold egress
  rw [if_neg port, if_neg (fun h => h.elim (fun h => h up) (by omega)), keeps]
  dsimp only
  rw [waits]

end

end

/-- A frame that leaves is counted, and its queue is one shorter. -/
theorem near_sentFrom (s : State) (n m q : Nat) (rest : List QFrame) (f : Frame) :
    Near s (countTx (setQueue s n q rest) m f) := (near_setSw s _).trans (switchOnly_modCnt _ m _).near

/-- Settles O22: the queue is found by going down from the highest, and its first frame starts or waits. -/
theorem frameEgressSends : Obligations.FrameEgressSends := by
  intro s n q qf rest hc head plain noStream cnt
  refine ⟨fun port up free fits hq credit window passed => ?_, fun engine hq empty => ?_⟩
  · intro f u
    have keeps := dropUnfit_fits fits
    have serves := selectQueue_serves hq head credit window passed
    refine ⟨fun now => ?_, fun late => ?_⟩
    · have starts := egress_starts (by omega) up free keeps (serves.trans (if_pos now))
      exact run_near (f := fun s => frameEgress s n) (frameEgress_plain (starts.trans (startFrame_plain head plain)) noStream) hc
        ((near_sentFrom s n n q rest f).trans ((switchOnly_setPort _ n _).near.trans (near_emit _ _)))
    · have waits := egress_waits (by omega) up free keeps (serves.trans (if_neg (Bool.eq_false_iff.1 late)))
      exact run_near (f := fun s => frameEgress s n) (frameEgress_none waits) hc (.refl s)
  · intro f
    obtain rfl : n = 4 := Fin.ext engine
    exact run_near (f := fun s => frameEgress s 4)
      (frameEgress_none (Prod.ext (engineTake_serves hq head empty) rfl)) hc
      ((near_sentFrom s 4 4 q rest f).trans (near_emit _ _))

end Sys2Proof.Machine
end

section
/-! Packets of transmit streams (spec/08 R191 to R196, R434): TX_PACKET_START (O26). -/

namespace Sys2Proof.Machine

/-- A packet that enters at E changes the switch alone. -/
theorem switchOnly_txQueue (s : State) (n : Nat) (f : Frame) : SwitchOnly s (txQueue s n f) := by
  have counts := switchOnly_modCnt s 4 fun c => { c with rxFrames := sat64 c.rxFrames 1, rxOctets := sat64 c.rxOctets f.len }
  unfold txQueue
  dsimp only
  split
  · exact counts.trans (switchOnly_modCnt _ 4 _)
  refine counts.trans ((switchOnly_macLearn _ f.vid f.src 4).trans ?_)
  split
  · exact .refl _
  split
  · exact switchOnly_enqueueFrame _ _ _
  · exact switchOnly_modCnt _ n _

theorem switchOnly_txSend (s d : State) (k i : Nat) (fs : List (List Int)) : SwitchOnly s (txSend s d k i fs) :=
  switchOnly_forEach (fun (l : Bool × Nat) t => switchOnly_txQueue t l.2 (txFrame d k i l.1 l.2 (txBody d k i l.1 fs))) _ s

/-- Packet `i` is the next one of a stream, begins before its run ends, and has all its samples (R191, R193). -/
def PacketReady (d : State) (k i : Nat) (fs : List (List Int)) : Prop :=
  (txOf d k).state ≠ .off ∧ (txOf d k).next = some i ∧ 0 < txLen d k ∧
    fs = (List.range (txLen d k)).filterMap (fun j => Tbl.get? (txOf d k).buf (i * txLen d k + j)) ∧
    fs.length = txLen d k ∧ ∀ e, (txOf d k).until_ = some e → i * txLen d k < e

/-- A packet that begins before its run ends is not spent. -/
theorem spent_before_end {x : Tx} {len i : Nat} (next : x.next = some i) (before : ∀ e, x.until_ = some e → i * len < e) :
    x.spent len = false := by
  unfold Tx.spent
  rw [next]
  cases ends : x.until_ with
  | none => rfl
  | some e => exact decide_eq_false (Nat.not_le.2 (before e ends))

theorem txReady_of {d : State} {k i : Nat} {fs : List (List Int)} (h : PacketReady d k i fs) :
    txReady d k = some (i, fs) := by
  obtain ⟨on, next, len, rfl, whole, before⟩ := h
  unfold txReady
  dsimp only
  rw [next]
  dsimp only
  rw [if_neg]
  rintro (off | zero | short | spent)
  · exact on off
  · omega
  · exact short whole
  · rw [spent_before_end next before] at spent
    cases spent

theorem txPacketStart_running {s : State} {k i : Nat} {fs : List (List Int)} (h : PacketReady s k i fs)
    (none : ∀ e ∈ s.str.tails, e.1 % 256 ≠ k) :
    txPacketStart s k = txSend (setTx s k (txNext s k i)) s k i fs := by
  unfold txPacketStart
  dsimp only
  rw [List.find?_eq_none.2 fun e he => by rw [beq_iff_eq]; exact none e he, txReady_of h]

theorem txPacketStart_tail {s : State} {k n i : Nat} {e : TxTail} {fs : List (List Int)} (tail : s.str.tails = [(n, e)])
    (own : n % 256 = k) (h : PacketReady (asTail s k e) k i fs) : txPacketStart s k =
      putTail (txSend s (asTail s k e) k i fs) n (txLen (asTail s k e) k) e (txNext (asTail s k e) k i) := by
  unfold txPacketStart
  dsimp only
  rw [tail, List.find?_cons_of_pos (by rw [beq_iff_eq]; exact own)]
  dsimp only
  rw [txReady_of h]

/-- The one run that still ends goes on, or is gone and leaves its stream OFF unless that is enabled. -/
theorem putTail_single {s : State} {n : Nat} {e : TxTail} (tail : s.str.tails = [(n, e)]) (len : Nat) (run : Tx) :
    putTail s n len e run =
      let gone := s.setStr fun y => { y with tails := [] }
      if run.spent len = true then
        if (txOf s (n % 256)).enabled = true then gone
        else setTx gone (n % 256) { txOf s (n % 256) with state := .off }
      else s.setStr fun y => { y with tails := [(n, { e with run := run })] } := by
  have del : Tbl.del s.str.tails n = [] := by rw [tail]; exact if_pos rfl
  have put : Tbl.put s.str.tails n { e with run := run } = [(n, { e with run := run })] := by
    rw [tail]
    exact if_pos rfl
  have gone : (s.setStr fun y => { y with tails := Tbl.del y.tails n }) = s.setStr fun y => { y with tails := [] } := by
    show { s with str := { s.str with tails := Tbl.del s.str.tails n } } = _
    rw [del]
    rfl
  have kept : (s.setStr fun y => { y with tails := Tbl.put y.tails n { e with run := run } }) =
      s.setStr fun y => { y with tails := [(n, { e with run := run })] } := by
    show { s with str := { s.str with tails := Tbl.put s.str.tails n { e with run := run } } } = _
    rw [put]
    rfl
  unfold putTail
  dsimp only
  rw [gone, kept]
  simp only [State.setStr_str, List.any_nil, Bool.or_false]
  rfl

/-- After its packet `i` a run has no further packet when it ends by the end of that packet. -/
theorem txNext_spent (d : State) (k i : Nat) : (txNext d k i).spent (txLen d k) =
    (txOf d k).until_.any fun p => decide (p ≤ (i + 1) * txLen d k) := by
  unfold Tx.spent txNext
  dsimp only
  cases (txOf d k).until_ <;> rfl

theorem txOf_asTail (s : State) (k : Nat) (e : TxTail) : txOf (asTail s k e) k = e.run := Tbl.getD_put_self _ _ _ _

/-- What keeping a run of a disabled stream changes. -/
theorem near_putTail (s : State) (k len : Nat) (e : TxTail) (run : Tx) : Near s (putTail s k len e run) := by
  unfold putTail
  dsimp only
  split
  · split
    · exact near_setStr s _
    · exact (near_setStr s _).trans (near_setStr _ _)
  · exact near_setStr s _

/-- Settles O26: the packet that is ready is sent for the stream itself, or for the run that still ends. -/
theorem transmitPacketQueued : Obligations.TransmitPacketQueued := by
  intro s k i fs hc ready after sends
  refine ⟨fun h none => ?_, fun n e _ tail own => ?_⟩
  · exact run_near (f := fun s => txPacketStart s k) (txPacketStart_running h none) hc
      ((near_setStr s _).trans (switchOnly_txSend _ _ _ _ _).near)
  · intro d t gone h
    have sent : SwitchOnly s t := switchOnly_txSend s d k i fs
    have stream : txOf t k = txOf s k := by
      unfold txOf
      rw [sent.str]
    have kept := putTail_single (s := t) (by rw [sent.str]; exact tail) (txLen d k) (txNext d k i)
    rw [txNext_spent, txOf_asTail, own, stream] at kept
    exact run_near (f := fun s => txPacketStart s k) ((txPacketStart_tail tail own h).trans kept) hc
      (kept ▸ sent.near.trans (near_putTail t n _ e _))

end Sys2Proof.Machine
end

section
/-! Membership reports and queries, and requests for the own address (R159, R160, R332; O27). -/

namespace Sys2Proof.Machine

/-! ## Reports that are due -/

theorem filter_concat_pos {α : Type} {p : α → Bool} {xs : List α} {x : α} (h : p x = true) :
    (xs ++ [x]).filter p = xs.filter p ++ [x] := by
  rw [List.filter_append, List.filter_cons_of_pos h, List.filter_nil]

theorem filter_concat_neg {α : Type} {p : α → Bool} {xs : List α} {x : α} (h : p x = false) :
    (xs ++ [x]).filter p = xs.filter p := by
  rw [List.filter_append, List.filter_cons_of_neg (Bool.not_eq_true _ ▸ h), List.filter_nil, List.append_nil]

/-- The report was made for the mode its port is in (R160). -/
def inMode (s : State) (r : Report) : Bool := r.old == olderMode s r.port r.v6

/-- A report as it leaves. -/
def sentReport (s : State) (r : Report) : Emission :=
  .membership r.port r.v6 r.group r.src r.leave
    (decide (s.now < if r.v6 then (portOf s r.port).oldMld else (portOf s r.port).oldIgmp))

/-- One report that is due is sent, counted or dropped. -/
def sendReport (r : Report) (s : State) : State :=
  if r.old ≠ olderMode s r.port r.v6 then s
  else if (portOf s r.port).state ≠ .up then modCnt s r.port fun c => { c with flush := inc32 c.flush }
  else emit s (.membership r.port r.v6 r.group r.src r.leave r.old)

/-- A port after `k` more of its reports have been counted in TX_FLUSH. -/
def Port.flushes (p : Port) (k : Nat) : Port := { p with cnt := { p.cnt with flush := Nat.repeat inc32 k p.cnt.flush } }

/-- The port of the report is UP. -/
def reachable (s : State) (r : Report) : Bool := (portOf s r.port).state == .up

/-- The report is one of this port, and the port is not UP. -/
def strandedAt (s : State) (n : Nat) (r : Report) : Bool := r.port == n && (portOf s n).state != .up

/-- How many of these reports a port does not send because it is not UP. -/
def unsent (s : State) (rs : List Report) (n : Nat) : Nat := ((rs.filter (inMode s)).filter (strandedAt s n)).length

/-- What has been done with these reports: those of the present mode were sent where their port is UP, and counted at
their port where it is not. -/
structure ReportsDone (s : State) (rs : List Report) (t : State) : Prop where
  frame : t = { s with sw := { s.sw with ports := t.sw.ports }, emitted := t.emitted }
  sent : t.emitted = s.emitted ++ ((rs.filter (inMode s)).filter (reachable s)).map (sentReport s)
  counted : ∀ n, portOf t n = (portOf s n).flushes (unsent s rs n)

section
variable {s t : State} {rs : List Report}

theorem ReportsDone.none (s : State) : ReportsDone s [] s := ⟨rfl, (List.append_nil _).symm, fun _ => rfl⟩

theorem ReportsDone.now (h : ReportsDone s rs t) : t.now = s.now := (congrArg State.now h.frame :)

theorem ReportsDone.state (h : ReportsDone s rs t) (n : Nat) : (portOf t n).state = (portOf s n).state := by
  rw [h.counted]
  rfl

theorem ReportsDone.mode (h : ReportsDone s rs t) (n : Nat) (v6 : Bool) : olderMode t n v6 = olderMode s n v6 := by
  unfold olderMode
  rw [h.now, h.counted]
  rfl

/-- A report of another mode than the present one is dropped. -/
theorem ReportsDone.drop {r : Report} (h : ReportsDone s rs t) (other : inMode s r = false) :
    ReportsDone s (rs ++ [r]) t := by
  have same : (rs ++ [r]).filter (inMode s) = rs.filter (inMode s) := filter_concat_neg other
  refine ⟨h.frame, by rw [same]; exact h.sent, fun n => ?_⟩
  unfold unsent
  rw [same]
  exact h.counted n

/-- A report that its port does not send is one more there. -/
theorem unsent_concat_own {r : Report} (here : inMode s r = true) (down : (portOf s r.port).state ≠ .up) :
    unsent s (rs ++ [r]) r.port = unsent s rs r.port + 1 := by
  have counts : strandedAt s r.port r = true := by
    unfold strandedAt
    rw [beq_self_eq_true, bne_iff_ne.2 down, Bool.and_self]
  unfold unsent
  rw [filter_concat_pos here, filter_concat_pos counts, List.length_append, List.length_singleton]

/-- A report of another port, or of one that is UP, leaves the number as it is. -/
theorem unsent_concat_other {r : Report} {n : Nat} (here : inMode s r = true)
    (other : r.port ≠ n ∨ (portOf s n).state = .up) : unsent s (rs ++ [r]) n = unsent s rs n := by
  have idle : strandedAt s n r = false := by
    unfold strandedAt
    rcases other with ne | up
    · rw [beq_eq_false_iff_ne.2 ne, Bool.false_and]
    · rw [up]
      exact Bool.and_false _
  unfold unsent
  rw [filter_concat_pos here, filter_concat_neg idle]

/-- A report of the present mode is sent on a port that is UP. -/
theorem ReportsDone.send {r : Report} (h : ReportsDone s rs t) (here : inMode s r = true)
    (up : (portOf s r.port).state = .up) : ReportsDone s (rs ++ [r]) (emit t (sentReport s r)) := by
  refine ⟨?_, ?_, fun n => ?_⟩
  · rw [h.frame]
    rfl
  · show t.emitted ++ [sentReport s r] = _
    have goes : reachable s r = true := beq_iff_eq.2 up
    rw [h.sent, filter_concat_pos here, filter_concat_pos goes, List.map_append, List.append_assoc]
    rfl
  · have other : r.port ≠ n ∨ (portOf s n).state = .up :=
      if own : r.port = n then .inr (own ▸ up) else .inl own
    rw [unsent_concat_other here other]
    exact h.counted n

/-- A report of the present mode is counted on a port that is not UP. -/
theorem ReportsDone.count {r : Report} (h : ReportsDone s rs t) (here : inMode s r = true)
    (down : (portOf s r.port).state ≠ .up) :
    ReportsDone s (rs ++ [r]) (modCnt t r.port fun c => { c with flush := inc32 c.flush }) := by
  refine ⟨?_, ?_, fun n => ?_⟩
  · rw [h.frame]
    rfl
  · show t.emitted = _
    have stays : reachable s r = false := beq_eq_false_iff_ne.2 down
    rw [h.sent, filter_concat_pos here, filter_concat_neg stays]
  · by_cases own : r.port = n
    · subst own
      rw [unsent_concat_own here down, portOf_modCnt, h.counted]
      rfl
    · rw [unsent_concat_other here (.inl own)]
      exact (portOf_setPort_ne t _ (Ne.symm own)).trans (h.counted n)

theorem ReportsDone.next (h : ReportsDone s rs t) (r : Report) : ReportsDone s (rs ++ [r]) (sendReport r t) := by
  unfold sendReport
  rw [h.mode, h.state]
  by_cases here : r.old = olderMode s r.port r.v6
  · have mode : inMode s r = true := beq_iff_eq.2 here
    rw [if_neg fun other => other here]
    split
    next down => exact h.count mode down
    next up =>
      rw [here]
      exact h.send mode (Decidable.not_not.1 up)
  · rw [if_pos here]
    exact h.drop (beq_eq_false_iff_ne.2 here)

end

/-- The loop goes on where these reports have been done. -/
theorem ReportsDone.all {s t : State} {done : List Report} (h : ReportsDone s done t) (rs : List Report) :
    ReportsDone s (done ++ rs) (forEach rs t sendReport) := by
  induction rs generalizing done t with
  | nil =>
    rw [List.append_nil]
    exact h
  | cons r rs ih =>
    rw [List.append_cons]
    exact ih (h.next r)

theorem reportsDone_all (s : State) (rs : List Report) : ReportsDone s rs (forEach rs s sendReport) :=
  (ReportsDone.none s).all rs

/-! ## Queries -/

/-- The reports that a step queues to answer a query: each for its port, in its mode and in its time (R159). -/
structure QueryAnswers (q : MemQuery) (s t : State) (rs : List Report) : Prop where
  frame : t = { s with freeCtr := t.freeCtr, sw := { s.sw with reports := s.sw.reports ++ rs } }
  timely : ∀ r ∈ rs, s.now ≤ r.due ∧ r.due ≤ s.now + q.maxNs ∧ r.port = q.port ∧ r.v6 = q.v6 ∧ r.leave = false ∧
    r.old = olderMode s q.port q.v6

/-- One of these reports is for this group and source. -/
def Reports (rs : List Report) (group : Nat) (src : Option Nat) : Prop := ∃ r ∈ rs, r.group = group ∧ r.src = src

theorem Reports.mono {rs qs : List Report} {group : Nat} {src : Option Nat} (h : Reports rs group src) (sub : rs ⊆ qs) :
    Reports qs group src := by
  obtain ⟨r, hr, e⟩ := h
  exact ⟨r, sub hr, e⟩

theorem QueryAnswers.none (q : MemQuery) (s : State) : QueryAnswers q s s [] :=
  ⟨by rw [List.append_nil], fun _ hr => by cases hr⟩

/-- Answers change no port. -/
theorem QueryAnswers.portOf {q : MemQuery} {s t : State} {rs : List Report} (h : QueryAnswers q s t rs) (n : Nat) :
    Machine.portOf t n = Machine.portOf s n := by
  rw [h.frame]
  rfl

theorem QueryAnswers.mode {q : MemQuery} {s t : State} {rs : List Report} (h : QueryAnswers q s t rs) :
    olderMode t q.port q.v6 = olderMode s q.port q.v6 := by
  rw [h.frame]
  rfl

theorem QueryAnswers.now {q : MemQuery} {s t : State} {rs : List Report} (h : QueryAnswers q s t rs) : t.now = s.now :=
  (congrArg State.now h.frame :)

theorem QueryAnswers.trans {q : MemQuery} {s t u : State} {rs ts : List Report} (h : QueryAnswers q s t rs)
    (g : QueryAnswers q t u ts) : QueryAnswers q s u (rs ++ ts) := by
  refine ⟨?_, fun r hr => ?_⟩
  · rw [g.frame, h.frame, ← List.append_assoc]
  · rcases List.mem_append.1 hr with hr | hr
    · exact h.timely r hr
    · rw [← h.mode, ← h.now]
      exact g.timely r hr

/-- A loop whose steps each queue what their element is asked for queues what any of them is asked for, where being asked
does not depend on what is queued. -/
theorem queryAnswers_forEach {α : Type} {q : MemQuery} {f : α → State → State} (asks : α → State → Nat → Option Nat → Prop)
    (kept : ∀ x s t rs group src, QueryAnswers q s t rs → asks x s group src → asks x t group src)
    (step : ∀ x s, ∃ rs, QueryAnswers q s (f x s) rs ∧ ∀ group src, asks x s group src → Reports rs group src)
    (xs : List α) (s : State) :
    ∃ rs, QueryAnswers q s (forEach xs s f) rs ∧ ∀ x ∈ xs, ∀ group src, asks x s group src → Reports rs group src := by
  induction xs generalizing s with
  | nil => exact ⟨[], .none q s, fun _ hx => by cases hx⟩
  | cons x xs ih =>
    obtain ⟨rs, first, here⟩ := step x s
    obtain ⟨ts, others, there⟩ := ih (f x s)
    refine ⟨rs ++ ts, first.trans others, fun y hy group src asked => ?_⟩
    rcases List.mem_cons.1 hy with rfl | hy
    · exact (here group src asked).mono (List.subset_append_left rs ts)
    · exact (there y hy group src (kept y s _ rs group src first asked)).mono (List.subset_append_right rs ts)

/-- A query asks a leg of a stream for the group that it joined through the port. -/
def LegAsked (q : MemQuery) (k : Nat) (b : Bool) (s : State) (group : Nat) (src : Option Nat) : Prop :=
  (legPorts s k b).contains q.port = true ∧ (∃ mac, legGroup s k b = some (mac, some (group, src))) ∧
    fb s .RX_W2_IPV6 k = q.v6 ∧ queryAsks q group src = true

/-- A report for a group within the maximum response time of a query (R159). -/
def MemQuery.answer (q : MemQuery) (now delay group : Nat) (src : Option Nat) : Report :=
  { due := now + delay % (q.maxNs + 1), by_ := now + q.maxNs, port := q.port, v6 := q.v6, group := group, src := src
    leave := false }

/-- The answer of one leg of a stream to a query. -/
def answerLeg (q : MemQuery) (k : Nat) (b : Bool) (s : State) : State :=
  if !(legPorts s k b).contains q.port then s
  else match legGroup s k b with
    | some (_, some (group, src)) =>
      if fb s .RX_W2_IPV6 k = q.v6 ∧ queryAsks q group src then
        addReport (draw s).2 (q.answer s.now (Config.answerDelay (draw s).1).toNat group src)
      else s
    | _ => s

theorem legAsked_kept {q : MemQuery} {k : Nat} {b : Bool} {s t : State} {rs : List Report} {group : Nat} {src : Option Nat}
    (h : QueryAnswers q s t rs) (asked : LegAsked q k b s group src) : LegAsked q k b t group src := by
  rw [h.frame]
  exact asked

/-- The answer that a query gets is due within the maximum response time. -/
theorem queryAnswers_addReport (q : MemQuery) (s : State) (delay group : Nat) (src : Option Nat) :
    QueryAnswers q s (addReport (draw s).2 (q.answer s.now delay group src))
      [{ q.answer s.now delay group src with old := olderMode s q.port q.v6 }] := by
  refine ⟨rfl, fun r hr => ?_⟩
  obtain rfl := List.mem_singleton.1 hr
  have within : delay % (q.maxNs + 1) ≤ q.maxNs := Nat.lt_succ_iff.1 (Nat.mod_lt delay (Nat.succ_pos q.maxNs))
  exact ⟨Nat.le_add_right _ _, Nat.add_le_add_left within _, rfl, rfl, rfl, rfl⟩

theorem queryAnswers_leg (q : MemQuery) (k : Nat) (b : Bool) (s : State) :
    ∃ rs, QueryAnswers q s (answerLeg q k b s) rs ∧ ∀ group src, LegAsked q k b s group src → Reports rs group src := by
  unfold answerLeg
  by_cases port : (legPorts s k b).contains q.port = true
  · rw [if_neg (by rw [port]; decide)]
    split
    next mac group src joined =>
      split
      next asks =>
        refine ⟨_, queryAnswers_addReport q s _ group src, ?_⟩
        rintro g a ⟨-, ⟨m, same⟩, -⟩
        cases joined.symm.trans same
        exact ⟨_, List.mem_singleton_self _, rfl, rfl⟩
      next silent =>
        refine ⟨[], .none q s, ?_⟩
        rintro g a ⟨-, ⟨m, same⟩, family, asks⟩
        cases joined.symm.trans same
        exact absurd ⟨family, asks⟩ silent
    next other =>
      refine ⟨[], .none q s, ?_⟩
      rintro g a ⟨-, ⟨m, same⟩, -⟩
      exact absurd same (other m g a)
  · rw [if_pos (by rw [Bool.eq_false_iff.2 port]; rfl)]
    exact ⟨[], .none q s, fun _ _ asked => absurd asked.1 port⟩

/-- The enabled receive streams. -/
def enabledRx (s : State) : List Nat := s.str.rx.filterMap fun e => if e.2.enabled then some e.1 else none

/-- Every enabled stream's every leg that a query asks gets its report. -/
theorem queryAnswers_answerQuery (q : MemQuery) (s : State) : ∃ rs, QueryAnswers q s (answerQuery s q) rs ∧
    ∀ k ∈ enabledRx s, ∀ group src, (∃ b, LegAsked q k b s group src) → Reports rs group src := by
  refine queryAnswers_forEach (f := fun k s => forEach [false, true] s (answerLeg q k))
    (fun k s group src => ∃ b, LegAsked q k b s group src)
    (fun k s t rs group src h ⟨b, asked⟩ => ⟨b, legAsked_kept h asked⟩) (fun k s => ?_) (enabledRx s) s
  obtain ⟨rs, h, all⟩ := queryAnswers_forEach (f := answerLeg q k) (fun b s group src => LegAsked q k b s group src)
    (fun b s t rs group src h asked => legAsked_kept h asked) (queryAnswers_leg q k) [false, true] s
  exact ⟨rs, h, fun group src ⟨b, asked⟩ => all b (by cases b <;> decide) group src asked⟩

/-- The state in which a query is answered: its port knows an older querier (R160). -/
def heardQuery (s : State) (q : MemQuery) : State :=
  if q.v6 ∧ q.version = 1 then setPort s q.port { portOf s q.port with oldMld := s.now + olderNs }
  else if !q.v6 ∧ q.version = 2 then setPort s q.port { portOf s q.port with oldIgmp := s.now + olderNs } else s

theorem memQuery_heard {s : State} {q : MemQuery} (port : q.port < 4) (version : q.v6 = true ∨ q.version ≠ 1) :
    memQuery s q = answerQuery (cancelReports (heardQuery s q) q.port q.v6) q := by
  have known : ¬((!q.v6) = true ∧ q.version = 1) := fun h => version.elim (fun v6 => by rw [v6] at h; cases h.1) (fun v => v h.2)
  unfold memQuery
  rw [if_neg (by omega), if_neg known]
  rfl

theorem memQuery_v1 {s : State} {q : MemQuery} (port : q.port < 4) (v4 : q.v6 = false) (version : q.version = 1) :
    memQuery s q = raise s .SW_EVENT 8 := by
  unfold memQuery
  rw [if_neg (by omega), if_pos ⟨by rw [v4]; rfl, version⟩]

/-- What hearing a query changes: the times of its port, nothing more. -/
theorem heardQuery_frame (s : State) (q : MemQuery) :
    heardQuery s q = { s with sw := { s.sw with ports := (heardQuery s q).sw.ports } } := by
  unfold heardQuery
  split
  · rfl
  · split <;> rfl

theorem heardQuery_now (s : State) (q : MemQuery) : (heardQuery s q).now = s.now :=
  (congrArg State.now (heardQuery_frame s q) :)

theorem heardQuery_reports (s : State) (q : MemQuery) : (heardQuery s q).sw.reports = s.sw.reports :=
  (congrArg (fun t => t.sw.reports) (heardQuery_frame s q) :)

theorem heardQuery_mld {s : State} {q : MemQuery} (v6 : q.v6 = true) (version : q.version = 1) :
    (portOf (heardQuery s q) q.port).oldMld = s.now + 260000000000 := by
  unfold heardQuery
  rw [if_pos ⟨v6, version⟩, portOf_setPort]
  rfl

theorem heardQuery_igmp {s : State} {q : MemQuery} (v4 : q.v6 = false) (version : q.version = 2) :
    (portOf (heardQuery s q) q.port).oldIgmp = s.now + 260000000000 := by
  unfold heardQuery
  rw [if_neg (by rw [v4]; simp), if_pos ⟨by rw [v4]; rfl, version⟩, portOf_setPort]
  rfl

/-- A query that is not of IGMPv1 is answered in the mode that its port is in then. -/
theorem memQuery_answers {s : State} {q : MemQuery} (port : q.port < 4) (version : q.v6 = true ∨ q.version ≠ 1) :
    ∃ rs, QueryAnswers q (cancelReports (heardQuery s q) q.port q.v6) (memQuery s q) rs ∧
      ∀ k ∈ enabledRx s, ∀ group src, (∃ b, LegAsked q k b s group src) → Reports rs group src := by
  obtain ⟨rs, h, all⟩ := queryAnswers_answerQuery q (cancelReports (heardQuery s q) q.port q.v6)
  rw [memQuery_heard port version]
  refine ⟨rs, h, ?_⟩
  obtain ⟨ports, heard⟩ : ∃ ports, heardQuery s q = { s with sw := { s.sw with ports := ports } } := ⟨_, heardQuery_frame s q⟩
  rw [heard] at all
  exact all

/-- Settles O27: the loop over the reports that are due, the loop over the legs asked, and the answer to a request. -/
theorem membershipAndAddresses : Obligations.MembershipAndAddresses := by
  intro s hc
  refine ⟨?_, fun q port v4 version => ?_, fun q port version => ?_, fun r served port vid real own => ?_⟩
  · intro due kept
    have done : ReportsDone (s.setSw fun w => { w with reports := w.reports.filter fun r => decide (s.now < r.due) }) due
      (sendReports s) := reportsDone_all _ due
    have frame : sendReports s = { s with sw := (sendReports s).sw, emitted := (sendReports s).emitted } :=
      done.frame.trans (by rw [done.frame]; rfl)
    exact ⟨_, run_near (f := sendReports) rfl hc (Near.of_eq (by rw [frame]) (by rw [frame])), frame,
      congrArg State.sw done.frame, done.sent, done.counted⟩
  · exact run_near (f := fun s => memQuery s q) (memQuery_v1 port v4 version) hc (switchOnly_event s 8).near
  · obtain ⟨rs, h, all⟩ := memQuery_answers (s := s) port version
    have frame : memQuery s q = { s with freeCtr := (memQuery s q).freeCtr, sw := (memQuery s q).sw } := by
      rw [h.frame, heardQuery_frame]
      rfl
    have mode : olderMode (memQuery s q) q.port q.v6 = olderMode (heardQuery s q) q.port q.v6 := h.mode
    have queued : (memQuery s q).sw.reports = ((heardQuery s q).sw.reports.filter fun r =>
        r.port != q.port || r.v6 != q.v6 || r.old == olderMode (heardQuery s q) q.port q.v6) ++ rs :=
      (congrArg (fun t => t.sw.reports) h.frame :)
    have answered := run_near (f := fun s => memQuery s q) rfl hc (Near.of_eq (by rw [frame]) (by rw [frame]))
    refine ⟨memQuery s q, rs, answered, frame, ?_, fun r hr => ?_,
      fun k x b mac group src mem on asked joined family asks => ?_, fun v6 v1 => ?_, fun v4 v2 => ?_⟩
    · rw [mode, queued, heardQuery_reports]
    · rw [mode, ← heardQuery_now s q]
      exact h.timely r hr
    · have enabled : k ∈ enabledRx s := List.mem_filterMap.2 ⟨(k, x), mem, if_pos on⟩
      exact all k enabled group src ⟨b, asked, ⟨mac, joined⟩, family, asks⟩
    · rw [h.portOf]
      exact heardQuery_mld v6 v1
    · rw [h.portOf]
      exact heardQuery_igmp v4 v2
  · exact run_near (f := fun s => arpRequest s r) (if_pos ⟨served, port, vid, real, own⟩) hc (near_emit s _)

end Sys2Proof.Machine
end

section
/-! Timers and sends of the time bases, and the switch's Pdelay exchange (spec/09; O30). -/

namespace Sys2Proof.Machine

/-! ## Steps of one time base -/

/-- Beside event flags only the time bases differ, and of them only `k`. -/
def TbOnly (k : Nat) (s t : State) : Prop :=
  t = { s with rf := t.rf, evt := t.evt, tb := { s.tb with tbs := t.tb.tbs } } ∧ OnlyFlags s t ∧
    ∀ j, j ≠ k → tbOf t j = tbOf s j

theorem TbOnly.refl (k : Nat) (s : State) : TbOnly k s s := ⟨rfl, onlyFlags_refl s, fun _ _ => rfl⟩

theorem TbOnly.trans {k : Nat} {s t u : State} (h : TbOnly k s t) (g : TbOnly k t u) : TbOnly k s u := by
  refine ⟨?_, onlyFlags_trans h.2.1 g.2.1, fun j hj => (g.2.2 j hj).trans (h.2.2 j hj)⟩
  rw [g.1, h.1]

theorem TbOnly.near {k : Nat} {s t : State} (h : TbOnly k s t) : Near s t := ⟨by rw [h.1], h.2.1⟩

theorem tbOnly_setTbk (s : State) (k : Nat) (b : TimeBase) : TbOnly k s (setTbk s k b) :=
  ⟨rfl, onlyFlags_of_rf rfl, fun _ hj => Tbl.getD_put_ne _ _ _ hj⟩

theorem tbOnly_event (k : Nat) (s : State) (bits : Nat) : TbOnly k s (raise s .TB_EVENT bits) := by
  have h := raise_flagged s (r := .TB_EVENT) bits (i := 0) (by decide) (by decide) (by decide)
  exact ⟨by rw [h.1], h.2, fun j _ => by unfold tbOf; rw [h.tb]⟩

theorem tbOnly_tbState (s : State) (k : Nat) (st : TbState) : TbOnly k s (tbState s k st) := by
  unfold tbState
  split
  · exact .refl k s
  · exact (tbOnly_setTbk s k _).trans (tbOnly_event k _ _)

theorem tbOnly_tbMaster (s : State) (k : Nat) (g : Option Dataset) : TbOnly k s (tbMaster s k g) := by
  unfold tbMaster
  dsimp only
  split
  · exact tbOnly_setTbk s k _
  · exact (tbOnly_setTbk s k _).trans (tbOnly_event k _ _)

@[simp] theorem tbOf_event (s : State) (bits k : Nat) : tbOf (raise s .TB_EVENT bits) k = tbOf s k := by
  unfold tbOf
  rw [raise_tb]

@[simp] theorem tbOf_tbState (s : State) (k : Nat) (st : TbState) :
    tbOf (tbState s k st) k = { tbOf s k with state := st } := by
  unfold tbState
  split
  next same => rw [← same]
  next => rw [tbOf_event, tbOf_setTbk]

@[simp] theorem tbOf_tbMaster (s : State) (k : Nat) (g : Option Dataset) : tbOf (tbMaster s k g) k =
    { tbOf s k with gm := g, gmUtc := (g.bind (·.utc)).getD (tbOf s k).gmUtc } := by
  unfold tbMaster
  dsimp only
  split
  · exact tbOf_setTbk _ _ _
  · rw [tbOf_event, tbOf_setTbk]

/-- PTP runs while its block is not held (R454). -/
theorem tbRun_free {s : State} {f : State → State} (free : held s 2 = false) : tbRun s f = f s :=
  if_neg (by rw [free]; decide)

/-- A command of PTP whose effect leaves nothing over. -/
theorem run_tbRun {s t : State} {f : State → State} (free : held s 2 = false) (e : f s = t) (hc : calm s = true)
    (h : Near s t) : run s (fun s => tbRun s f) = .next t :=
  run_near ((tbRun_free free).trans e) hc h

/-! ## A master that is lost (R215) -/

/-- The time base counts the timeout, stops its slew and has no grandmaster. -/
def lostMaster (s : State) (k : Nat) : State :=
  tbMaster (stopSlew (setTbk s k { tbOf s k with
    annAt := some s.now, annTimeouts := satInc 0xFFFF (tbOf s k).annTimeouts }) k) k none

theorem tbOnly_lostMaster (s : State) (k : Nat) : TbOnly k s (lostMaster s k) :=
  ((tbOnly_setTbk s k _).trans (tbOnly_setTbk _ k _)).trans (tbOnly_tbMaster _ k none)

theorem tbOf_lostMaster (s : State) (k : Nat) : tbOf (lostMaster s k) k = { tbOf s k with
    annAt := some s.now, annTimeouts := satInc 0xFFFF (tbOf s k).annTimeouts, slewLeft := 0, slewRate := 0, gm := none } := by
  unfold lostMaster stopSlew
  rw [tbOf_tbMaster, tbOf_setTbk, tbOf_setTbk]
  rfl

/-- What a timeout that has run out does in a state of its time base (Table 09-4). -/
def lapsedRow (s : State) (k : Nat) : TbState → State
  | .acquiring => tbState (setTbk (lostMaster s k) k { tbOf (lostMaster s k) k with after := .holding }) k .holding
  | .tracking => tbState (lostMaster s k) k .holding
  | .jumpHeld =>
    if (tbOf s k).committed.isSome then setTbk (lostMaster s k) k { tbOf (lostMaster s k) k with after := .holding }
    else tbState (setTbk (lostMaster s k) k { tbOf (lostMaster s k) k with pend := 0, heldSince := none }) k .holding
  | .holding => if fv s .TB_CTRL_ROLE k = 1 then becomeMaster s k else s
  | .freeRun => if fv s .TB_CTRL_ROLE k = 1 then becomeMaster s k else s
  | _ => s

section
variable {s : State} {k : Nat}

theorem announceTimeout_lapsed (lapsed : annOver s k = true) (on : fb s .TB_CTRL_EN k = true) :
    announceTimeout s k = lapsedRow s k (tbOf s k).state := by
  unfold announceTimeout
  rw [if_neg (by rw [lapsed, on]; decide)]
  rfl

/-- A master can be lost: one is followed, and no step is committed. -/
abbrev LosesMaster (b : TimeBase) : Prop :=
  b.state = .acquiring ∨ b.state = .tracking ∨ b.state = .jumpHeld ∧ b.committed = none

/-- A time base that has lost its master and is in holdover from then on. -/
def TimeBase.loses (b : TimeBase) (now : Nat) : TimeBase := { b with
  annAt := some now, annTimeouts := satInc 0xFFFF b.annTimeouts, slewLeft := 0, slewRate := 0, gm := none
  state := .holding, after := if b.state = .acquiring then .holding else b.after
  pend := if b.state = .jumpHeld then 0 else b.pend
  heldSince := if b.state = .jumpHeld then none else b.heldSince }

theorem tbOnly_announceTimeout (lapsed : annOver s k = true) (on : fb s .TB_CTRL_EN k = true)
    (h : LosesMaster (tbOf s k)) : TbOnly k s (announceTimeout s k) := by
  have lost := tbOnly_lostMaster s k
  rw [announceTimeout_lapsed lapsed on]
  rcases h with h | h | ⟨h, uncommitted⟩ <;> rw [h, lapsedRow]
  · exact (lost.trans (tbOnly_setTbk _ _ _)).trans (tbOnly_tbState _ _ _)
  · exact lost.trans (tbOnly_tbState _ _ _)
  · rw [if_neg (by rw [uncommitted]; decide)]
    exact (lost.trans (tbOnly_setTbk _ _ _)).trans (tbOnly_tbState _ _ _)

theorem tbOf_announceTimeout (lapsed : annOver s k = true) (on : fb s .TB_CTRL_EN k = true)
    (h : LosesMaster (tbOf s k)) : tbOf (announceTimeout s k) k = (tbOf s k).loses s.now := by
  unfold TimeBase.loses
  rw [announceTimeout_lapsed lapsed on]
  rcases h with h | h | ⟨h, uncommitted⟩ <;> rw [h, lapsedRow]
  · rw [tbOf_tbState, tbOf_setTbk, tbOf_lostMaster]
    rfl
  · rw [tbOf_tbState, tbOf_lostMaster]
    rfl
  · rw [if_neg (by rw [uncommitted]; decide), tbOf_tbState, tbOf_setTbk, tbOf_lostMaster]
    rfl

/-! ## A held step (R213) -/

theorem persistExpire_held {t : Nat} (since : (tbOf s k).heldSince = some t) : persistExpire s k =
    if (tbOf s k).state = .jumpHeld ∧ (tbOf s k).committed = none ∧ t + 1000000000 * fv s .TB_SERVO_PERSIST k ≤ s.now ∧
        fb s .TB_SERVO_AUTO_STEP k = true then commitStep s k else s := by
  unfold persistExpire
  dsimp only
  rw [since]
  simp only [Option.isNone_iff_eq_none]

/-- While audio runs a committed step waits for its boundary (R214). -/
theorem commitStep_audio (audio : s.mix.audioOn = true) :
    commitStep s k = setTbk s k { tbOf s k with committed := some s.now, after := .tracking } := if_pos audio

end

/-! ## What the messages of a time base read -/

/-- Both time bases have one state and time, and their next delay request is due at one instant. -/
structure TimeBase.Alike (b c : TimeBase) : Prop where
  state : c.state = b.state
  time : c.t = b.t
  nextDelay : c.nextDelay = b.nextDelay

/-- What a message of time base `k` says is the same in both states: registers, addresses and ports, and what it reads of
the time base. -/
structure PtpSame (k : Nat) (s t : State) : Prop where
  regs : ∀ r i j, addr r i j ≠ addr .TB_EVENT → rd t r i j = rd s r i j
  glb : t.glb = s.glb
  sw : t.sw = s.sw
  now : t.now = s.now
  base : (tbOf s k).Alike (tbOf t k)

section
variable {s t : State} {k : Nat}

theorem PtpSame.fv (h : PtpSame k s t) (f : Fd) {i : Nat} (apart : addr f.reg i ≠ addr .TB_EVENT) :
    Machine.fv t f i = Machine.fv s f i := by
  unfold Machine.fv
  rw [h.regs _ _ _ apart]

/-- A field of a register of the time base. -/
theorem PtpSame.own (h : PtpSame k s t) (f : Fd) (hk : k < (desc f.reg).n1) (one : 0 < (desc f.reg).n2)
    (apart : f.reg ≠ .TB_EVENT) : Machine.fv t f k = Machine.fv s f k :=
  h.fv f (addr_ne apart (by decide) (by decide) hk one)

theorem PtpSame.portOf (h : PtpSame k s t) (n : Nat) : Machine.portOf t n = Machine.portOf s n := by
  unfold Machine.portOf
  rw [h.sw]

theorem PtpSame.macOf (h : PtpSame k s t) (n : Nat) : Machine.macOf t n = Machine.macOf s n := by
  unfold Machine.macOf
  rw [h.glb]

theorem PtpSame.relays (h : PtpSame k s t) (hk : k < 4) : Machine.relays t k = Machine.relays s k := by
  unfold Machine.relays
  rw [h.own .TB_CTRL_ROLE hk (by decide) (by decide)]

theorem PtpSame.isP2p (h : PtpSame k s t) (hk : k < 4) : Machine.isP2p t k = Machine.isP2p s k := by
  unfold Machine.isP2p
  rw [h.own .TB_CTRL_PROFILE hk (by decide) (by decide)]

theorem PtpSame.clkId (h : PtpSame k s t) (hk : k < 4) : Machine.clkId t k = Machine.clkId s k := by
  unfold Machine.clkId
  rw [h.own .TB_CTRL_ROLE hk (by decide) (by decide), h.own .TB_CTRL_PORT hk (by decide) (by decide), h.macOf]

theorem PtpSame.ptpTx (h : PtpSame k s t) (hk : k < 4) (port seq : Nat) :
    Machine.ptpTx t k port seq = Machine.ptpTx s k port seq := by
  unfold Machine.ptpTx
  rw [h.clkId hk, h.relays hk, h.own .TB_CTRL_TRANSPORT hk (by decide) (by decide),
    h.own .TB_CTRL_DOMAIN hk (by decide) (by decide), h.own .TB_VLAN_VID hk (by decide) (by decide),
    h.own .TB_VLAN_PCP hk (by decide) (by decide)]

theorem PtpSame.ownDs (h : PtpSame k s t) (hk : k < 4) : Machine.ownDs t k = Machine.ownDs s k := by
  unfold Machine.ownDs
  rw [h.clkId hk, h.base.state, h.regs .TB_UTC k 0 (addr_ne (by decide) (by decide) (by decide) hk (by decide)),
    h.own .TB_DS_PRIORITY1 hk (by decide) (by decide), h.own .TB_DS_CLASS hk (by decide) (by decide),
    h.own .TB_DS_ACCURACY hk (by decide) (by decide), h.own .TB_DS2_VARIANCE hk (by decide) (by decide),
    h.own .TB_DS_PRIORITY2 hk (by decide) (by decide), h.own .TB_DS2_TIME_SOURCE hk (by decide) (by decide)]

/-- The port registers lie apart from TB_EVENT, whatever the port. -/
theorem portRegs_apart (p : Nat) : addr .PORT_CTRL p ≠ addr .TB_EVENT ∧ addr .PHY_LAT p ≠ addr .TB_EVENT := by
  have ctrl : addr .PORT_CTRL p = 0x60100 + p * 256 + 0 * (desc .PORT_CTRL).st2 := rfl
  have phy : addr .PHY_LAT p = 0x20108 + p * 16 + 0 * (desc .PHY_LAT).st2 := rfl
  have event : addr .TB_EVENT = 0x20000 := by decide
  omega

theorem PtpSame.txCorr (h : PtpSame k s t) (p : Nat) : Machine.txCorr t p = Machine.txCorr s p := by
  unfold Machine.txCorr tsFix
  rw [h.portOf, h.fv .PORT_CTRL_MODE (portRegs_apart p).1, h.fv .PHY_LAT_PHY_TX (portRegs_apart p).2]

theorem PtpSame.txStamp (h : PtpSame k s t) (p : Nat) : Machine.txStamp t k p = Machine.txStamp s k p := by
  unfold Machine.txStamp tb16
  rw [h.base.time, h.txCorr]

theorem PtpSame.delayPorts (h : PtpSame k s t) (hk : k < 4) : Machine.delayPorts t k = Machine.delayPorts s k := by
  unfold Machine.delayPorts tbPorts fb
  simp only [h.portOf, h.own .TB_CTRL_EN hk (by decide) (by decide), h.base.state, h.base.nextDelay, h.now, h.isP2p hk, h.relays hk,
    h.own .TB_CTRL_PORT hk (by decide) (by decide)]

end

/-! ## Messages that are due (R199 to R201) -/

/-- Time base `k` becomes `c`, and `es` is what has left the module. -/
def ptpSent (s : State) (k : Nat) (c : TimeBase) (es : List Emission) : State := { setTbk s k c with emitted := es }

/-- A grandmaster that was not its own takes note (R215). -/
def gmNoted (s : State) (k : Nat) : State :=
  if (tbOf s k).gm.map (·.id) ≠ some (ownDs s k).id then raise s .TB_EVENT (2 ^ (12 + k)) else s

/-- A time base whose grandmaster is itself. -/
def TimeBase.owns (b : TimeBase) (d : Dataset) : TimeBase := { b with gm := some d, gmUtc := d.utc.getD b.gmUtc }

section
variable {s : State} {k : Nat}

@[simp] theorem tbOf_ptpSent (c : TimeBase) (es : List Emission) : tbOf (ptpSent s k c es) k = c := tbOf_setTbk s k c

@[simp] theorem ptpSent_ptpSent (c d : TimeBase) (es fs : List Emission) :
    ptpSent (ptpSent s k c es) k d fs = ptpSent s k d fs := by
  unfold ptpSent
  rw [← setTbk_setTbk s k c d]
  rfl

theorem flagged_gmNoted (s : State) (k : Nat) : Flagged s (gmNoted s k) := by
  unfold gmNoted
  split
  · exact raise_flagged s _ (by decide) (by decide) (by decide)
  · exact .refl s

@[simp] theorem setTbk_ptpSent (c d : TimeBase) (es : List Emission) :
    setTbk (ptpSent s k c es) k d = ptpSent s k d es := by
  unfold ptpSent
  rw [← setTbk_setTbk s k c d]
  rfl

@[simp] theorem emit_ptpSent (c : TimeBase) (es : List Emission) (e : Emission) :
    emit (ptpSent s k c es) e = ptpSent s k c (es ++ [e]) := rfl

theorem near_ptpSent (s : State) (k : Nat) (c : TimeBase) (es : List Emission) : Near s (ptpSent s k c es) :=
  Near.of_eq rfl rfl

theorem gmNoted_own (h : (tbOf s k).gm = some (ownDs s k)) : gmNoted s k = s := if_neg (by rw [h]; simp)

theorem emitted_gmNoted (s : State) (k : Nat) : (gmNoted s k).emitted = s.emitted :=
  (congrArg State.emitted (flagged_gmNoted s k).1 :)

/-- The note is in TB_EVENT. -/
theorem rd_gmNoted (s : State) (k : Nat) {r : Reg} {i j : Nat} (apart : addr r i j ≠ addr .TB_EVENT) :
    rd (gmNoted s k) r i j = rd s r i j := by
  unfold gmNoted
  split
  · exact rd_raise_ne s _ apart
  · rfl

/-- Where only TB_EVENT has changed, what was sent reads as before. -/
theorem ptpSame_of_flagged {u : State} {c : TimeBase} (es : List Emission) (flags : Flagged s u)
    (regs : ∀ r i j, addr r i j ≠ addr .TB_EVENT → rd u r i j = rd s r i j) (base : (tbOf s k).Alike c) :
    PtpSame k s (ptpSent u k c es) :=
  ⟨regs, flags.glb, flags.sw, flags.near.now, by rw [tbOf_ptpSent]; exact base⟩

theorem ptpSame_ptpSent {c : TimeBase} (es : List Emission) (base : (tbOf s k).Alike c) :
    PtpSame k s (ptpSent (gmNoted s k) k c es) :=
  ptpSame_of_flagged es (flagged_gmNoted s k) (fun _ _ _ => rd_gmNoted s k) base

/-- Leading changes the grandmaster and the instants and numbers of its messages, so the time base is alike. -/
theorem TimeBase.alike_leads (b : TimeBase) (d : Dataset) (nextAnn annNo nextSync syncNo : Nat) :
    b.Alike { b.owns d with nextAnn := nextAnn, annNo := annNo, nextSync := nextSync, syncNo := syncNo } := ⟨rfl, rfl, rfl⟩

theorem setTbk_gmNoted (s : State) (k : Nat) (b : TimeBase) :
    setTbk (gmNoted s k) k b = ptpSent (gmNoted s k) k b s.emitted := by
  rw [← emitted_gmNoted s k]
  rfl

theorem ownMaster_master (h : (tbOf s k).state = .master) :
    ownMaster s k = ptpSent (gmNoted s k) k ((tbOf s k).owns (ownDs s k)) s.emitted := by
  rw [← setTbk_gmNoted]
  unfold ownMaster
  rw [if_pos h]
  unfold tbMaster gmNoted
  dsimp only
  by_cases same : (tbOf s k).gm.map (·.id) = some (ownDs s k).id
  · rw [if_neg (Decidable.not_not.2 same)]
    exact if_pos same
  · rw [if_pos same]
    exact if_neg same

/-- What follows the note reads as before. -/
theorem ptpSame_owns (s : State) (k : Nat) :
    PtpSame k s (ptpSent (gmNoted s k) k ((tbOf s k).owns (ownDs s k)) s.emitted) :=
  ptpSame_ptpSent _ (TimeBase.alike_leads ..)

/-- The time base leads the PTP of a port that is UP. -/
abbrev Leads (s : State) (k : Nat) : Prop :=
  (tbOf s k).state = .master ∧ (portOf s (fv s .TB_CTRL_PORT k)).state = .up

abbrev AnnDue (s : State) (k : Nat) : Prop := Leads s k ∧ (tbOf s k).nextAnn ≤ s.now

abbrev SyncDue (s : State) (k : Nat) : Prop := Leads s k ∧ (tbOf s k).nextSync ≤ s.now

/-- The Announce of the time base (R200, R201). -/
def annOf (s : State) (k : Nat) : Emission :=
  .ptp k (ptpTx s k (fv s .TB_CTRL_PORT k) (tbOf s k).annNo) (.announce (ownDs s k))

/-- Its Sync, with the Follow_Up in two-step mode (R200, R201). -/
def syncOf (s : State) (k : Nat) : List Emission :=
  let p := fv s .TB_CTRL_PORT k
  let h := ptpTx s k p (tbOf s k).syncNo
  let two := fb s .TB_CTRL_TWO_STEP k
  .ptp k h (.sync two (if two then 0 else txStamp s k p) 0 0 (ownDs s k)) ::
    (if two then [.ptp k h (.followUp (txStamp s k p) 0 0)] else [])

theorem annSend_due (hk : k < 4) (due : AnnDue s k) : annSend s k = ptpSent (gmNoted s k) k
    { (tbOf s k).owns (ownDs s k) with
      nextAnn := s.now + logNs (fv s .TB_INTV_LOG_ANN k), annNo := ((tbOf s k).annNo + 1) % 65536 }
    (s.emitted ++ [annOf s k]) := by
  have same := ptpSame_owns s k
  unfold annSend annOf
  dsimp only
  rw [if_pos ⟨due.1.1, due.1.2, due.2⟩, ownMaster_master due.1.1, same.ptpTx hk, same.ownDs hk, same.now,
    same.own .TB_INTV_LOG_ANN hk (by decide) (by decide), tbOf_ptpSent, setTbk_ptpSent, emit_ptpSent]

theorem annSend_idle (h : ¬AnnDue s k) : annSend s k = s := if_neg fun due => h ⟨⟨due.1, due.2.1⟩, due.2.2⟩

theorem syncSend_due (hk : k < 4) (due : SyncDue s k) : syncSend s k = ptpSent (gmNoted s k) k
    { (tbOf s k).owns (ownDs s k) with
      nextSync := s.now + logNs (fv s .TB_INTV_LOG_SYNC k), syncNo := ((tbOf s k).syncNo + 1) % 65536 }
    (s.emitted ++ syncOf s k) := by
  have noted := ptpSame_owns s k
  have sent : PtpSame k s (ptpSent (gmNoted s k) k { (tbOf s k).owns (ownDs s k) with
      nextSync := s.now + logNs (fv s .TB_INTV_LOG_SYNC k), syncNo := ((tbOf s k).syncNo + 1) % 65536 } s.emitted) :=
    ptpSame_ptpSent _ (TimeBase.alike_leads ..)
  unfold syncSend syncOf
  dsimp only
  rw [if_pos ⟨due.1.1, due.1.2, due.2⟩, ownMaster_master due.1.1, noted.now,
    noted.own .TB_INTV_LOG_SYNC hk (by decide) (by decide), tbOf_ptpSent, setTbk_ptpSent, emit_ptpSent, emit_ptpSent,
    sent.ownDs hk, List.append_assoc]
  cases fb s .TB_CTRL_TWO_STEP k <;> rfl

theorem syncSend_idle (h : ¬SyncDue s k) : syncSend s k = s := if_neg fun due => h ⟨⟨due.1, due.2.1⟩, due.2.2⟩

end

section
variable {s t : State} {k : Nat}

theorem PtpSame.leads (h : PtpSame k s t) (hk : k < 4) : Leads t k ↔ Leads s k := by
  rw [Leads, Leads, h.base.state, h.portOf, h.own .TB_CTRL_PORT hk (by decide) (by decide)]

theorem PtpSame.syncOf (h : PtpSame k s t) (hk : k < 4) (no : (tbOf t k).syncNo = (tbOf s k).syncNo) :
    Machine.syncOf t k = Machine.syncOf s k := by
  unfold Machine.syncOf fb
  simp only [h.own .TB_CTRL_PORT hk (by decide) (by decide), h.own .TB_CTRL_TWO_STEP hk (by decide) (by decide), no,
    h.ptpTx hk, h.txStamp, h.ownDs hk]

/-- The time base once it has led. -/
def ledBase (s : State) (k : Nat) : TimeBase := { (tbOf s k).owns (ownDs s k) with
  nextAnn := if AnnDue s k then s.now + logNs (fv s .TB_INTV_LOG_ANN k) else (tbOf s k).nextAnn
  annNo := if AnnDue s k then ((tbOf s k).annNo + 1) % 65536 else (tbOf s k).annNo
  nextSync := if SyncDue s k then s.now + logNs (fv s .TB_INTV_LOG_SYNC k) else (tbOf s k).nextSync
  syncNo := if SyncDue s k then ((tbOf s k).syncNo + 1) % 65536 else (tbOf s k).syncNo }

/-- What it sends as a grandmaster. -/
def ledMsgs (s : State) (k : Nat) : List Emission :=
  (if AnnDue s k then [annOf s k] else []) ++ (if SyncDue s k then syncOf s k else [])

/-- The time base once its Announce has left. -/
def annBase (s : State) (k : Nat) : TimeBase := { (tbOf s k).owns (ownDs s k) with
  nextAnn := s.now + logNs (fv s .TB_INTV_LOG_ANN k), annNo := ((tbOf s k).annNo + 1) % 65536 }

/-- The state once its Announce has left. -/
def annLeft (s : State) (k : Nat) : State := ptpSent (gmNoted s k) k (annBase s k) (s.emitted ++ [annOf s k])

theorem ptpSame_annLeft (s : State) (k : Nat) : PtpSame k s (annLeft s k) := ptpSame_ptpSent _ (TimeBase.alike_leads ..)

theorem tbOf_annLeft (s : State) (k : Nat) : tbOf (annLeft s k) k = annBase s k := tbOf_ptpSent _ _

theorem syncDue_annLeft (hk : k < 4) : SyncDue (annLeft s k) k ↔ SyncDue s k := by
  have same := ptpSame_annLeft s k
  rw [SyncDue, SyncDue, same.leads hk, tbOf_annLeft, same.now]
  rfl

/-- The Sync that follows an Announce of the same instant. -/
theorem syncSend_annLeft (hk : k < 4) (due : SyncDue s k) : syncSend (annLeft s k) k =
    ptpSent (gmNoted s k) k { annBase s k with
      nextSync := s.now + logNs (fv s .TB_INTV_LOG_SYNC k), syncNo := ((tbOf s k).syncNo + 1) % 65536 }
      ((s.emitted ++ [annOf s k]) ++ syncOf s k) := by
  have same := ptpSame_annLeft s k
  have base := tbOf_annLeft s k
  have gm : gmNoted (annLeft s k) k = annLeft s k := gmNoted_own (by rw [base, same.ownDs hk]; rfl)
  rw [syncSend_due hk ((syncDue_annLeft hk).2 due), gm, same.ownDs hk, same.now,
    same.own .TB_INTV_LOG_SYNC hk (by decide) (by decide), same.syncOf hk (by rw [base]; rfl), base]
  unfold annLeft
  rw [ptpSent_ptpSent]
  have twice : (annBase s k).owns (ownDs s k) = annBase s k := by
    unfold annBase TimeBase.owns
    cases (ownDs s k).utc <;> rfl
  rw [twice]
  rfl

theorem leadSends (hk : k < 4) (due : AnnDue s k ∨ SyncDue s k) :
    syncSend (annSend s k) k = ptpSent (gmNoted s k) k (ledBase s k) (s.emitted ++ ledMsgs s k) := by
  unfold ledBase ledMsgs
  by_cases ann : AnnDue s k
  · rw [show annSend s k = annLeft s k from annSend_due hk ann]
    by_cases sync : SyncDue s k
    · rw [syncSend_annLeft hk sync]
      simp only [if_pos ann, if_pos sync, List.append_assoc]
      rfl
    · rw [syncSend_idle (mt (syncDue_annLeft hk).1 sync)]
      simp only [if_pos ann, if_neg sync, List.append_nil]
      rfl
  · have sync := due.resolve_left ann
    rw [annSend_idle ann, syncSend_due hk sync]
    simp only [if_neg ann, if_pos sync, List.nil_append]
    rfl

/-! ## Delay requests (Table 09-1) -/

/-- A loop that only emits, whose emissions do not depend on one another. -/
theorem forEach_emit {α : Type} (g : State → α → Emission) (kept : ∀ s e x, g (emit s e) x = g s x) (xs : List α)
    (s : State) : forEach xs s (fun x s => emit s (g s x)) = { s with emitted := s.emitted ++ xs.map (g s) } := by
  induction xs generalizing s with
  | nil =>
    rw [List.map_nil, List.append_nil]
    rfl
  | cons x xs ih =>
    show forEach xs (emit s (g s x)) _ = _
    rw [ih, show g (emit s (g s x)) = g s from funext (kept s _), List.map_cons, List.append_cons]
    rfl

/-- The time base once it has sent the delay requests that are due. -/
def delayAsked (s : State) (k : Nat) (b : TimeBase) : TimeBase :=
  let asks := delayPorts s k
  { b with
    nextDelay := if asks = [] then b.nextDelay else s.now + logNs (fv s .TB_INTV_LOG_DELAY k)
    delayNo := if asks = [] then b.delayNo else (b.delayNo + 1) % 65536
    asked := asks.foldl (fun t p => Tbl.put t p (b.delayNo, txStamp s k p)) b.asked }

/-- Those requests. -/
def delaysOf (s : State) (k no : Nat) : List Emission :=
  (delayPorts s k).map fun p => .ptp k (ptpTx s k p no) (if isP2p s k then .pdelayReq else .delayReq)

theorem delaySend_idle (none : delayPorts s k = []) : delaySend s k = s := if_pos (by rw [none]; rfl)

theorem delaySend_due (some : delayPorts s k ≠ []) : delaySend s k =
    ptpSent s k (delayAsked s k (tbOf s k)) (s.emitted ++ delaysOf s k (tbOf s k).delayNo) := by
  unfold delaySend
  dsimp only
  rw [if_neg (by rw [List.isEmpty_iff]; exact some)]
  rw [forEach_emit (fun t p => .ptp k (ptpTx t k p (tbOf s k).delayNo) (if isP2p t k then .pdelayReq else .delayReq))
    (fun _ _ _ => rfl)]
  unfold delayAsked
  simp only [if_neg some]
  rfl

theorem PtpSame.delayAsked (h : PtpSame k s t) (hk : k < 4) (b : TimeBase) :
    Machine.delayAsked t k b = Machine.delayAsked s k b := by
  unfold Machine.delayAsked
  simp only [h.delayPorts hk, h.now, h.own .TB_INTV_LOG_DELAY hk (by decide) (by decide), h.txStamp]

theorem PtpSame.delaysOf (h : PtpSame k s t) (hk : k < 4) (no : Nat) :
    Machine.delaysOf t k no = Machine.delaysOf s k no := by
  unfold Machine.delaysOf
  simp only [h.delayPorts hk, h.ptpTx hk, h.isP2p hk]

/-- The delay requests that follow what was sent at the same instant. -/
theorem delaySend_ptpSent {u : State} {c : TimeBase} {es : List Emission} (hk : k < 4)
    (same : PtpSame k s (ptpSent u k c es)) :
    delaySend (ptpSent u k c es) k = ptpSent u k (Machine.delayAsked s k c) (es ++ Machine.delaysOf s k c.delayNo) := by
  by_cases none : delayPorts s k = []
  · rw [delaySend_idle ((same.delayPorts hk).trans none)]
    unfold Machine.delayAsked Machine.delaysOf
    simp only [none, if_true, List.map_nil, List.append_nil, List.foldl_nil]
  · rw [delaySend_due (by rw [same.delayPorts hk]; exact none), tbOf_ptpSent, same.delayAsked hk, same.delaysOf hk,
      ptpSent_ptpSent]
    rfl

/-! ## Everything a time base sends at an instant -/

/-- A grandmaster sends what is due of its own, and then the delay requests. -/
theorem masterSend_leads (hk : k < 4) (due : AnnDue s k ∨ SyncDue s k) : masterSend s k =
    ptpSent (gmNoted s k) k (Machine.delayAsked s k (ledBase s k))
      ((s.emitted ++ ledMsgs s k) ++ Machine.delaysOf s k (tbOf s k).delayNo) := by
  unfold masterSend
  rw [leadSends hk due]
  exact delaySend_ptpSent hk (ptpSame_ptpSent _ (TimeBase.alike_leads ..))

theorem masterSend_follows (ann : ¬AnnDue s k) (sync : ¬SyncDue s k) : masterSend s k = delaySend s k := by
  unfold masterSend
  rw [annSend_idle ann, syncSend_idle sync]

theorem near_masterSend (hk : k < 4) : Near s (masterSend s k) := by
  by_cases due : AnnDue s k ∨ SyncDue s k
  · rw [masterSend_leads hk due]
    exact (flagged_gmNoted s k).near.trans (near_ptpSent _ _ _ _)
  · rw [not_or] at due
    rw [masterSend_follows due.1 due.2]
    by_cases none : delayPorts s k = []
    · rw [delaySend_idle none]
      exact .refl s
    · rw [delaySend_due none]
      exact near_ptpSent _ _ _ _

end

/-- PTP_MASTER_SEND has the effect of `masterSend`. -/
theorem run_masterSend {s t : State} {k : Nat} (hk : k < 4) (free : held s 2 = false) (hc : calm s = true)
    (e : masterSend s k = t) : run s (fun s => tbRun s fun s => masterSend s k) = .next t :=
  run_tbRun free e hc (e ▸ near_masterSend hk)

/-! ## The Pdelay exchange of the switch (R208) -/

section
variable {s : State} {n : Nat} (mode : tcMode s n = 2) (up : (portOf s n).state = .up)
include mode up

/-- A request is answered with both its time-stamps. -/
theorem pdelayReceive_request (q : Nat) : pdelayReceive s n q none =
    emit s (.pdelayResp n (fv s .TC_CTRL_P2P_DOMAIN) q ((16 * s.now : Nat) - (rxCorr s n : Nat))
      (16 * s.now + txCorr s n : Nat)) :=
  if_pos ⟨mode, up⟩

theorem pdelayReceive_answer {q : Nat} (t2 t3 : Int) {t1 : Int} (asked : Tbl.get? s.tb.pdelayAsked n = some (q, t1)) :
    pdelayReceive s n q (some (t2, t3)) =
      let in_ : Int := (16 * s.now : Nat) - (rxCorr s n : Nat)
      let d := (clampI 0 0xFFFFFFFF ((in_ - t1 - (t3 - t2)) / 2)).toNat
      s.setTb fun t => { t with linkDelay := Tbl.put t.linkDelay n d } := by
  unfold pdelayReceive
  dsimp only
  rw [if_pos ⟨mode, up⟩, asked]
  exact if_pos rfl

/-- An answer to no such request changes nothing. -/
theorem pdelayReceive_stray {q : Nat} (t2 t3 : Int) (other : ∀ t1, Tbl.get? s.tb.pdelayAsked n ≠ some (q, t1)) :
    pdelayReceive s n q (some (t2, t3)) = s := by
  unfold pdelayReceive
  dsimp only
  rw [if_pos ⟨mode, up⟩]
  cases asked : Tbl.get? s.tb.pdelayAsked n with
  | none => rfl
  | some a =>
    obtain ⟨p, t1⟩ := a
    refine if_neg ?_
    rintro rfl
    exact other t1 asked

end

/-- Settles O30: the rows of Table 09-4 for a lost master and a held step, the sends in their order, and the three
answers of the Pdelay exchange. -/
theorem timeBaseTimers : Obligations.TimeBaseTimers := by
  intro s hc free
  refine ⟨fun k => ?_, fun k h => ?_, fun k => ?_, fun n mode up => ?_⟩
  · intro b lapsed on holds
    have only := tbOnly_announceTimeout lapsed on holds
    exact ⟨announceTimeout s k, run_tbRun free rfl hc only.near, tbOf_announceTimeout lapsed on holds, only.2.2, only.1,
      only.2.1⟩
  · intro b since audio
    refine run_tbRun (f := fun s => persistExpire s k) free ?_ hc (near_ite (near_setTbk s k _) (.refl s))
    rw [persistExpire_held since, commitStep_audio audio]
  · intro b p leads ann sync asks two time h sent own u c
    refine ⟨fun due => run_masterSend k.isLt free hc ?_, fun noAnn noSync noAsks =>
      run_masterSend k.isLt free hc ((masterSend_follows noAnn noSync).trans (delaySend_idle noAsks))⟩
    by_cases led : ann ∨ sync
    · have e := masterSend_leads k.isLt led
      have noted : u = gmNoted s k := ite_congr (propext (and_iff_right led)) (fun _ => rfl) fun _ => rfl
      have base : c = delayAsked s k (ledBase s k) := by
        simp only [c, if_pos led]
        rfl
      rw [e, noted, base, List.append_assoc]
      rfl
    · have noAnn : ¬ann := fun h => led (.inl h)
      have noSync : ¬sync := fun h => led (.inr h)
      have some : asks ≠ [] := (due.resolve_left noAnn).resolve_left noSync
      have noted : u = s := if_neg fun h => led h.1
      have base : c = delayAsked s k b := by
        simp only [c, if_neg led, if_neg noAnn, if_neg noSync]
        rfl
      have msgs : sent = delaysOf s k b.delayNo := by
        simp only [sent, if_neg noAnn, if_neg noSync]
        rfl
      rw [masterSend_follows noAnn noSync, delaySend_due some, noted, base, msgs]
      rfl
  · intro out in_ seq
    refine ⟨fun due => ?_, fun q => ⟨?_, fun t2 t3 => ⟨fun t1 asked => ?_, fun other => ?_⟩⟩⟩
    · exact run_tbRun (f := fun s => pdelaySend s n) free (if_pos ⟨mode, up, due⟩) hc (Near.of_eq rfl rfl)
    · exact run_tbRun (f := fun s => pdelayReceive s n q none) free (pdelayReceive_request mode up q) hc (near_emit s _)
    · exact run_tbRun (f := fun s => pdelayReceive s n q (some (t2, t3))) free (pdelayReceive_answer mode up t2 t3 asked) hc
        (Near.of_eq rfl rfl)
    · exact run_tbRun (f := fun s => pdelayReceive s n q (some (t2, t3))) free (pdelayReceive_stray mode up t2 t3 other) hc
        (.refl s)

end Sys2Proof.Machine
end

section
/-! Packets of receive streams (spec/08 R174 to R180, R187, R189): PACKET_RECEIVE (O25). -/

namespace Sys2Proof.Machine

/-! ## Operations on receive streams -/

/-- Beside event flags only the streams differ. -/
def StreamsOnly (s t : State) : Prop := t = { s with rf := t.rf, evt := t.evt, str := t.str } ∧ OnlyFlags s t

theorem StreamsOnly.trans {s t u : State} (h : StreamsOnly s t) (g : StreamsOnly t u) : StreamsOnly s u := by
  refine ⟨?_, onlyFlags_trans h.2 g.2⟩
  rw [g.1, h.1]

theorem StreamsOnly.near {s t : State} (h : StreamsOnly s t) : Near s t := ⟨by rw [h.1], h.2⟩

theorem Flagged.streamsOnly {s t : State} (h : Flagged s t) : StreamsOnly s t := ⟨by rw [h.1], h.2⟩

theorem streamsOnly_refl (s : State) : StreamsOnly s s := (Flagged.refl s).streamsOnly

theorem streamsOnly_setRx (s : State) (r : Nat) (x : Rx) : StreamsOnly s (setRx s r x) := ⟨rfl, onlyFlags_of_rf rfl⟩

/-- A flag of STR_EVENT and perhaps a hit on the stream's object source. -/
theorem rxEvent_flagged (s : State) (r bits k : Nat) :
    Flagged s (hitAttached (raise s .STR_EVENT bits) .ATT_RX r k) :=
  (raise_flagged s bits (by decide) (by decide) (by decide)).trans (hitAttached_flagged _ _ _ _)

theorem Flagged.rxOf {s t : State} (h : Flagged s t) (r : Nat) : Machine.rxOf t r = Machine.rxOf s r := by
  unfold Machine.rxOf
  rw [h.str]

@[simp] theorem rxOf_setRx (s : State) (r : Nat) (x : Rx) : rxOf (setRx s r x) r = x := Tbl.getD_put_self _ _ _ _

@[simp] theorem legOf_setLeg (x : Rx) (b : Bool) (l : Leg) : legOf (setLeg x b l) b = l := by cases b <;> rfl

@[simp] theorem setLeg_ring (x : Rx) (b : Bool) (l : Leg) : (setLeg x b l).ring = x.ring := by cases b <;> rfl

/-! What the registers alone tell of a stream and of a packet on it. -/

theorem rxRate_of_rf {s t : State} (h : t.rf = s.rf) (r : Nat) : rxRate t r = rxRate s r := by
  unfold rxRate fv rd
  rw [h]

theorem pktFrames_of_rf {s t : State} (h : t.rf = s.rf) (r : Nat) (p : Pkt) : pktFrames t r p = pktFrames s r p := by
  unfold pktFrames pktSamples rxFmt rxChans fv rd
  rw [h]

/-! ## The first copy of a position stays (R180) -/

/-- One position of the ring is filled unless it holds data. -/
def ringFill (pos : Nat) (g : Tbl (List Int)) (e : List Int × Nat) : Tbl (List Int) :=
  if (Tbl.get? g (pos + e.2)).isSome then g else Tbl.put g (pos + e.2) e.1

theorem get?_ringFill (pos : Nat) (g : Tbl (List Int)) (e : List Int × Nat) (q : Nat) :
    Tbl.get? (ringFill pos g e) q = (Tbl.get? g q).or (if q = pos + e.2 then some e.1 else none) := by
  unfold ringFill
  by_cases here : q = pos + e.2
  · subst here
    cases held : Tbl.get? g (pos + e.2) <;> simp [held]
  · rw [if_neg here, Option.or_none]
    split
    · rfl
    · exact Tbl.get?_put_ne g _ here

/-- The positions of a packet from its `k`-th on, filled in order. -/
theorem get?_foldl_ringFill (pos q : Nat) (fs : List (List Int)) : ∀ (k : Nat) (g : Tbl (List Int)),
    Tbl.get? ((fs.zipIdx k).foldl (ringFill pos) g) q =
      (Tbl.get? g q).or (if pos + k ≤ q then fs[q - (pos + k)]? else none) := by
  induction fs with
  | nil => intro k g; simp
  | cons f fs ih =>
    intro k g
    rw [List.zipIdx_cons, List.foldl_cons, ih, get?_ringFill, Option.or_assoc]
    congr 1
    rcases Nat.lt_trichotomy q (pos + k) with before | here | after
    · rw [if_neg (by omega), if_neg (by omega), if_neg (by omega), Option.or_none]
    · rw [if_pos here, if_pos (Nat.le_of_eq here.symm), here, Nat.sub_self]
      rfl
    · rw [if_neg (by omega), if_pos (by omega), if_pos (by omega), Option.none_or,
        show q - (pos + k) = (q - (pos + (k + 1))) + 1 by omega, List.getElem?_cons_succ]

theorem get?_ringWrite (x : Rx) (pos : Nat) (fs : List (List Int)) (q : Nat) :
    Tbl.get? (ringWrite x pos fs).ring q = (Tbl.get? x.ring q).or (if pos ≤ q then fs[q - pos]? else none) :=
  get?_foldl_ringFill pos q fs 0 x.ring

/-! ## A packet is taken on its leg (R187), an ACR stream is anchored and carried on (R189) -/

/-- A leg after it took a packet: live, its highest number set if a step took it away (R187, R216). -/
def legTaken (s : State) (r : Nat) (b : Bool) (q : Nat × Nat) (used : Bool) : Leg :=
  let l := legOf (rxOf s r) b
  { l with
    hi := some (l.hi.getD (extSeq (if fmtIsAaf (rxFmt s r) then 8 else 16) none q.1)), restart := false
    got := (q :: l.got).take 4096, lastAcc := some s.now, live := true, used := if used then inc32 l.used else l.used }

/-- A leg that was not live is reported. -/
theorem legAccept_flagged (s : State) (r : Nat) (b : Bool) (q : Nat × Nat) (used : Bool) :
    Flagged (setRx s r (setLeg { rxOf s r with lastAcc := s.now } b (legTaken s r b q used))) (legAccept s r b q used) := by
  by_cases live : (legOf (rxOf s r) b).live = true
  · have e : legAccept s r b q used = _ := if_pos live
    rw [e]
    exact .refl _
  · have e : legAccept s r b q used = _ := if_neg live
    rw [e]
    exact rxEvent_flagged _ r 0x10 3

theorem acrAnchor_cases (s : State) (r : Nat) (p : Pkt) :
    acrAnchor s r p = s ∨ ∃ x, acrAnchor s r p = setRx s r x := by
  unfold acrAnchor
  dsimp only
  split
  · exact .inr ⟨_, rfl⟩
  · exact .inl rfl

theorem streamsOnly_acrAnchor (s : State) (r : Nat) (p : Pkt) : StreamsOnly s (acrAnchor s r p) := by
  obtain same | ⟨x, put⟩ := acrAnchor_cases s r p
  · rw [same]
    exact streamsOnly_refl s
  · rw [put]
    exact streamsOnly_setRx s r x

theorem acrAnchor_rf (s : State) (r : Nat) (p : Pkt) : (acrAnchor s r p).rf = s.rf := by
  obtain same | ⟨x, put⟩ := acrAnchor_cases s r p
  · rw [same]
  · rw [put]
    rfl

/-- Of the stream at most the ACR anchor and error change. -/
theorem acrFollow_cases (s : State) (r : Nat) (p : Pkt) (pos : Nat) : acrFollow s r p pos = s ∨
    ∃ a e, acrFollow s r p pos = setRx s r { rxOf s r with acr := a, acrErr := e } := by
  unfold acrFollow
  dsimp only
  split
  · split
    · exact .inr ⟨_, _, rfl⟩
    · exact .inl rfl
  · exact .inl rfl

theorem streamsOnly_acrFollow (s : State) (r : Nat) (p : Pkt) (pos : Nat) : StreamsOnly s (acrFollow s r p pos) := by
  obtain same | ⟨a, e, put⟩ := acrFollow_cases s r p pos
  · rw [same]
    exact streamsOnly_refl s
  · rw [put]
    exact streamsOnly_setRx s r _

/-- The legs and the ring stay. -/
theorem rxOf_acrFollow (s : State) (r : Nat) (b : Bool) (p : Pkt) (pos : Nat) :
    legOf (rxOf (acrFollow s r p pos) r) b = legOf (rxOf s r) b ∧
      (rxOf (acrFollow s r p pos) r).ring = (rxOf s r).ring := by
  obtain same | ⟨a, e, put⟩ := acrFollow_cases s r p pos
  · rw [same]
    exact ⟨rfl, rfl⟩
  · rw [put, rxOf_setRx]
    exact ⟨rfl, rfl⟩

/-- USED counts a packet whose data are taken, the leg is live, and the ring stays. -/
theorem rxOf_legAccept (s : State) (r : Nat) (b : Bool) (q : Nat × Nat) :
    (legOf (rxOf (legAccept s r b q true) r) b).used = inc32 (legOf (rxOf s r) b).used ∧
      (legOf (rxOf (legAccept s r b q true) r) b).live = true ∧
      (rxOf (legAccept s r b q true) r).ring = (rxOf s r).ring := by
  rw [(legAccept_flagged s r b q true).rxOf, rxOf_setRx, legOf_setLeg, setLeg_ring]
  exact ⟨rfl, rfl, rfl⟩

/-! ## A new packet in the window is merged (R180) -/

/-- By sequence number and position a leg, and the merged stream, know a packet again (R187). -/
def pktKey (u : State) (r : Nat) (p : Pkt) : Nat × Nat := (pktSeq p, (pktPos u r p).toNat)

/-- The stream remembers the packet, and its ring takes the packet's positions. -/
def mergedRx (u : State) (r : Nat) (p : Pkt) : Rx :=
  { ringWrite (rxOf u r) (pktPos u r p).toNat (pktFrames u r p) with
    merged := (pktKey u r p :: (rxOf u r).merged).take 4096 }

/-- Then its leg takes the packet, and an ACR stream is carried on. -/
def mergePacket (u : State) (r : Nat) (b : Bool) (p : Pkt) : State :=
  acrFollow (legAccept (setRx u r (mergedRx u r p)) r b (pktKey u r p) true) r p (pktPos u r p).toNat

theorem streamsOnly_mergePacket (u : State) (r : Nat) (b : Bool) (p : Pkt) : StreamsOnly u (mergePacket u r b p) :=
  (streamsOnly_setRx u r _).trans ((streamsOnly_setRx _ r _).trans
    ((legAccept_flagged _ r b _ true).streamsOnly.trans (streamsOnly_acrFollow _ r p _)))

/-- USED counts one more, and the leg is live. -/
theorem legOf_mergePacket (u : State) (r : Nat) (b : Bool) (p : Pkt) :
    (legOf (rxOf (mergePacket u r b p) r) b).used = inc32 (legOf (rxOf u r) b).used ∧
      (legOf (rxOf (mergePacket u r b p) r) b).live = true := by
  obtain ⟨used, live, -⟩ := rxOf_legAccept (setRx u r (mergedRx u r p)) r b (pktKey u r p)
  rw [rxOf_setRx] at used
  unfold mergePacket
  rw [(rxOf_acrFollow _ r b p _).1]
  exact ⟨used, live⟩

theorem get?_mergePacket_ring (u : State) (r : Nat) (b : Bool) (p : Pkt) (q : Nat) :
    Tbl.get? (rxOf (mergePacket u r b p) r).ring q = (Tbl.get? (rxOf u r).ring q).or
      (if (pktPos u r p).toNat ≤ q then (pktFrames u r p)[q - (pktPos u r p).toNat]? else none) := by
  obtain ⟨-, -, ring⟩ := rxOf_legAccept (setRx u r (mergedRx u r p)) r b (pktKey u r p)
  rw [rxOf_setRx] at ring
  unfold mergePacket
  rw [(rxOf_acrFollow _ r b p _).2, ring]
  exact get?_ringWrite _ _ _ q

/-! ## The judgement on a packet, branch by branch -/

section
variable {s : State} {p : Pkt} {r : Nat} {b : Bool}

/-- PACKET_RECEIVE has the effect of `packetReceive`. -/
theorem exec_packetReceive {t : State} (hc : calm s = true) (e : packetReceive s p = t) (near : Near s t) :
    exec (.packetReceive p) s = .next t := run_near (f := fun s => packetReceive s p) e hc near

theorem packetReceive_noMatch (noMatch : matchStream s p = none) :
    packetReceive s p = s.setStr fun y => { y with noMatch := inc32 y.noMatch } := by
  unfold packetReceive
  rw [noMatch]

theorem packetReceive_malformed (found : matchStream s p = some (r, b)) (bad : pktBad s r p = true) :
    packetReceive s p = setRx s r { rxOf s r with malformed := inc32 (rxOf s r).malformed } := by
  unfold packetReceive
  rw [found]
  exact if_pos bad

/-- The packet has been counted on its leg (R187). -/
def legCounted (s : State) (r : Nat) (b : Bool) (p : Pkt) : State :=
  setRx s r (setLeg (rxOf s r) b
    ((legOf (rxOf s r) b).count (if fmtIsAaf (rxFmt s r) then 8 else 16) (pktSeq p)))

theorem packetReceive_wellFormed (found : matchStream s p = some (r, b)) (good : pktBad s r p = false) :
    packetReceive s p = acceptPacket (legCounted s r b p) r b p := by
  unfold packetReceive
  rw [found]
  dsimp only
  rw [good]
  rfl

variable {u : State} (anchored : acrAnchor s r p = u)
include anchored

theorem acceptPacket_late (late : tooLate u r (pktPos u r p) = true) : acceptPacket s r b p = countLate u r := by
  subst anchored
  exact if_pos late

variable (reached : tooLate u r (pktPos u r p) = false)
include reached

theorem acceptPacket_early (early : tooEarly u r (pktPos u r p) (pktSamples s r p) = true) :
    acceptPacket s r b p = setRx u r { rxOf u r with early := inc32 (rxOf u r).early } := by
  subst anchored
  unfold acceptPacket
  dsimp only
  rw [reached, early]
  rfl

variable (inWindow : tooEarly u r (pktPos u r p) (pktSamples s r p) = false)
include inWindow

/-- The leg delivered it already. -/
theorem acceptPacket_again (got : (legOf (rxOf u r) b).got.contains (pktKey u r p) = true) :
    acceptPacket s r b p = setRx u r { rxOf u r with dup := inc32 (rxOf u r).dup } := by
  subst anchored
  unfold pktKey at got
  unfold acceptPacket
  dsimp only
  rw [reached, inWindow, got]
  rfl

theorem acceptPacket_new (got : (legOf (rxOf u r) b).got.contains (pktKey u r p) = false)
    (merged : (rxOf u r).merged.contains (pktKey u r p) = false)
    (held : allHeld (rxOf u r) (pktPos u r p).toNat (pktSamples s r p) = false) :
    acceptPacket s r b p = mergePacket u r b p := by
  subst anchored
  unfold pktKey at got merged
  unfold acceptPacket
  dsimp only
  rw [reached, inWindow, got, merged, held]
  rfl

end

/-- Settles O25: a packet that matches is counted on its leg and anchors its stream; each verdict on it is then a branch
of `acceptPacket`, and a new packet is `mergePacket`. -/
theorem packetJudged : Obligations.PacketJudged := by
  intro s p hc
  refine ⟨fun noMatch => ?_, fun r b found => ⟨fun bad => ?_, fun good => ?_⟩⟩
  · exact exec_packetReceive hc (packetReceive_noMatch noMatch) (near_setStr s _)
  · exact exec_packetReceive hc (packetReceive_malformed found bad) (near_setStr s _)
  intro bits u y n pos first beyond
  have rf : u.rf = s.rf := acrAnchor_rf (legCounted s r b p) r p
  have rate : rxRate u r = rxRate s r := rxRate_of_rf rf r
  have frames : pktFrames u r p = pktFrames s r p := pktFrames_of_rf rf r p
  have counted : StreamsOnly s u := (streamsOnly_setRx s r _).trans (streamsOnly_acrAnchor _ r p)
  have judged {t : State} (e : acceptPacket (legCounted s r b p) r b p = t) (only : StreamsOnly u t) :
      exec (.packetReceive p) s = .next t :=
    exec_packetReceive hc ((packetReceive_wellFormed found good).trans e) (counted.trans only).near
  have late : tooLate u r pos = decide (pos < first) := by
    unfold tooLate
    rw [rate]
  have early : tooEarly u r pos n = decide (beyond ≤ (pos + n - 1) * 48000) := by
    unfold tooEarly
    rw [rate]
  have reached (after : first ≤ pos) : tooLate u r pos = false := late.trans (decide_eq_false (Int.not_lt.2 after))
  have inWindow (inside : (pos + n - 1) * 48000 < beyond) : tooEarly u r pos n = false :=
    early.trans (decide_eq_false (Int.not_le.2 inside))
  refine ⟨fun before => ?_, fun after ahead => ?_, fun after inside again => ?_, fun after inside fresh new room => ?_⟩
  · exact judged (acceptPacket_late rfl (late.trans (decide_eq_true before)))
      ((streamsOnly_setRx u r _).trans (rxEvent_flagged _ r 2 1).streamsOnly)
  · exact judged (acceptPacket_early rfl (reached after) (early.trans (decide_eq_true ahead))) (streamsOnly_setRx u r _)
  · exact judged (acceptPacket_again rfl (reached after) (inWindow inside) again) (streamsOnly_setRx u r _)
  · have merges := streamsOnly_mergePacket u r b p
    obtain ⟨used, live⟩ := legOf_mergePacket u r b p
    refine ⟨mergePacket u r b p, judged (acceptPacket_new rfl (reached after) (inWindow inside) fresh new room) merges,
      used, live, fun q => ?_, (counted.trans merges).1, (counted.trans merges).2⟩
    rw [get?_mergePacket_ring, frames]
    cases Tbl.get? y.ring q <;> rfl

end Sys2Proof.Machine
end

section
/-! The offsets of a time base (R211 to R215): a Sync of the selected master is slewed, refused, held or committed (O29). -/

namespace Sys2Proof.Machine

/-! ## An offset is judged -/

section
variable {s : State} {k : Nat} {b : TimeBase} {o : Int}

/-- A measured offset is noted, and the first one of ACQUIRING is no longer to come (R211, R215). -/
def TimeBase.judged (b : TimeBase) (o : Int) : TimeBase :=
  { b with ofs := o, initDone := b.state == .acquiring || b.initDone }

theorem TimeBase.judged_acquiring (acquires : b.state = .acquiring) :
    b.judged o = { b with ofs := o, initDone := true } := by
  unfold TimeBase.judged
  rw [acquires]
  rfl

theorem TimeBase.judged_later (later : b.state ≠ .acquiring) : b.judged o = { b with ofs := o } := by
  unfold TimeBase.judged
  rw [beq_false_of_ne later]
  rfl

/-- The third refused offset is held (R212). -/
def TimeBase.heldAt (b : TimeBase) (now : Nat) (o : Int) : TimeBase := { b with
  slewLeft := 0, slewRate := 0, outRun := 0, okRun := 0, jumpGen := (b.jumpGen + 1) % 256, pend := pendOf o
  heldSince := some now, state := .jumpHeld }

/-- The time base follows its master: an offset is slewed, or refused at the threshold (R211, R212). -/
abbrev Follows (s : State) (k : Nat) (b : TimeBase) : Prop :=
  b.state = .tracking ∨ b.state = .acquiring ∧ (b.initDone = true ∨ fb s .TB_CTRL_INIT_AUTO k = false)

/-- An offset at or above the jump threshold. -/
abbrev Jumps (s : State) (k : Nat) (o : Int) : Prop := 16 * fv s .TB_JTHR_JTHR k ≤ o.natAbs

theorem tbState_setTbk {st : TbState} (moves : b.state ≠ st) :
    tbState (setTbk s k b) k st = raise (setTbk s k { b with state := st }) .TB_EVENT (2 ^ (8 + k)) := by
  unfold tbState
  rw [tbOf_setTbk, if_neg moves, setTbk_setTbk]

/-- While a step is committed an offset only moves what is pending (R214). -/
theorem measure_committed (committed : b.committed.isSome = true) :
    measure (setTbk s k b) k o = setTbk s k { b with ofs := o, pend := pendOf o } := by
  unfold measure
  simp only [tbOf_setTbk, setTbk_setTbk]
  exact if_pos committed

theorem measure_tracking (uncommitted : b.committed = none) (tracks : b.state = .tracking) :
    measure (setTbk s k b) k o =
      if Jumps s k o then refuseOffset (setTbk s k (b.judged o)) k o
      else slew (setTbk s k { b.judged o with outRun := 0 }) k o := by
  rw [TimeBase.judged_later (by rw [tracks]; decide)]
  unfold measure
  simp only [tbOf_setTbk, setTbk_setTbk, uncommitted, tracks, decide_eq_true_eq]
  rfl

theorem measure_acquiring (uncommitted : b.committed = none) (acquires : b.state = .acquiring)
    (begun : b.initDone = true ∨ fb s .TB_CTRL_INIT_AUTO k = false) :
    measure (setTbk s k b) k o =
      if Jumps s k o then refuseOffset (setTbk s k (b.judged o)) k o
      else slew (tbState (setTbk s k { b.judged o with outRun := 0 }) k .tracking) k o := by
  have later : ¬((!b.initDone) = true ∧ fb s .TB_CTRL_INIT_AUTO k = true) := by
    rcases begun with h | h <;> simp [h]
  rw [TimeBase.judged_acquiring acquires]
  unfold measure
  simp only [tbOf_setTbk, setTbk_setTbk, uncommitted, acquires, decide_eq_true_eq]
  exact if_neg later

/-- The first offset with INIT_AUTO is committed as a step (R215). -/
theorem measure_initial (uncommitted : b.committed = none) (acquires : b.state = .acquiring) (first : b.initDone = false)
    (auto : fb s .TB_CTRL_INIT_AUTO k = true) (audio : s.mix.audioOn = true) : measure (setTbk s k b) k o =
      setTbk s k { b.judged o with pend := pendOf o, committed := some s.now, after := .tracking } := by
  have now : (!b.initDone) = true ∧ fb s .TB_CTRL_INIT_AUTO k = true := ⟨by rw [first]; rfl, auto⟩
  rw [TimeBase.judged_acquiring acquires]
  unfold measure
  simp only [tbOf_setTbk, setTbk_setTbk, uncommitted, acquires]
  refine (if_pos now).trans ?_
  rw [commitStep_audio (s := setTbk s k _) audio, tbOf_setTbk, setTbk_setTbk]
  rfl

theorem measure_jumpHeld (uncommitted : b.committed = none) (holds : b.state = .jumpHeld) :
    measure (setTbk s k b) k o =
      if Jumps s k o then setTbk s k { b.judged o with pend := pendOf o, okRun := 0 }
      else if b.okRun < 2 then setTbk s k { b.judged o with pend := pendOf o, okRun := b.okRun + 1 }
      else slew (tbState (setTbk s k { b.judged o with pend := 0, okRun := 0, heldSince := none }) k .tracking) k o := by
  rw [TimeBase.judged_later (by rw [holds]; decide)]
  unfold measure
  simp only [tbOf_setTbk, setTbk_setTbk, uncommitted, holds, decide_eq_true_eq]
  rfl

/-- A time base that follows its master refuses an offset at the threshold (R212). -/
theorem measure_refuses (uncommitted : b.committed = none) (follows : Follows s k b) (jumps : Jumps s k o) :
    measure (setTbk s k b) k o = refuseOffset (setTbk s k (b.judged o)) k o := by
  rcases follows with tracks | ⟨acquires, begun⟩
  · rw [measure_tracking uncommitted tracks, if_pos jumps]
  · rw [measure_acquiring uncommitted acquires begun, if_pos jumps]

theorem Follows.moves (follows : Follows s k b) : (b.judged o).state ≠ .jumpHeld := by
  show b.state ≠ .jumpHeld
  rcases follows with h | ⟨h, -⟩ <;> rw [h] <;> decide

theorem refuseOffset_counts (few : b.outRun < 2) : refuseOffset (setTbk s k b) k o =
    setTbk s k { b with outRun := b.outRun + 1, outliers := satInc 0xFFFF b.outliers } := by
  unfold refuseOffset
  simp only [tbOf_setTbk, setTbk_setTbk]
  exact if_neg (Nat.not_le.2 few)

theorem refuseOffset_holds (third : 2 ≤ b.outRun) (moves : b.state ≠ .jumpHeld) : refuseOffset (setTbk s k b) k o =
    raise (raise (setTbk s k (b.heldAt s.now o)) .TB_EVENT (2 ^ (8 + k))) .TB_EVENT (2 ^ k) := by
  unfold refuseOffset
  simp only [tbOf_setTbk]
  rw [if_pos third]
  unfold jumpHold stopSlew
  simp only [tbOf_setTbk, setTbk_setTbk]
  rw [tbState_setTbk]
  · rfl
  · exact moves

/-! ## A slew (R211) -/

/-- The state after a slew that begins in `u`, whose free value is the one of `s` (R211). -/
def slewedFrom (s u : State) (k : Nat) (o : Int) : State := { setTbk u k { tbOf u k with
  freq := (Config.servoFreq s.freeCtr).toInt, slewLeft := -o * 16000000000
  slewRate := (Config.slewRate s.freeCtr).toNat % (fv s .TB_SERVO_MAX_SLEW k * 256000 + 1) } with
  freeCtr := s.freeCtr + 1 }

theorem slew_setTbk : slew (setTbk s k b) k o = slewedFrom s (setTbk s k b) k o := rfl

/-- Flags between the measurement and its slew leave the limit and the free value as they are. -/
theorem slew_event (hk : k < 4) (bits : Nat) : slew (raise (setTbk s k b) .TB_EVENT bits) k o =
    slewedFrom s (raise (setTbk s k b) .TB_EVENT bits) k o := by
  have ctr : (raise (setTbk s k b) .TB_EVENT bits).freeCtr = s.freeCtr := raise_freeCtr _ _ _ _
  have lim : fv (raise (setTbk s k b) .TB_EVENT bits) .TB_SERVO_MAX_SLEW k = fv s .TB_SERVO_MAX_SLEW k := by
    unfold fv
    rw [rd_raise_ne _ _ (addr_ne (by decide) (by decide) (by decide) hk (by decide))]
    rfl
  unfold slewedFrom
  rw [← ctr, ← lim]
  rfl

/-- A time base that turns to TRACKING slews the offset (R215). -/
theorem slew_tracks (hk : k < 4) (moves : b.state ≠ .tracking) : slew (tbState (setTbk s k b) k .tracking) k o =
    slewedFrom s (raise (setTbk s k { b with state := .tracking }) .TB_EVENT (2 ^ (8 + k))) k o := by
  rw [tbState_setTbk moves, slew_event hk]

theorem near_slewedFrom {u : State} (h : Near s u) : Near s (slewedFrom s u k o) := h.trans (Near.of_eq rfl rfl)

theorem near_tbEvent (s : State) (bits : Nat) : Near s (raise s .TB_EVENT bits) :=
  near_raise s bits (by decide) (by decide) (by decide)

/-- A time base that is set and flagged. -/
theorem near_setTbk_event (s : State) (k : Nat) (b : TimeBase) (bits : Nat) : Near s (raise (setTbk s k b) .TB_EVENT bits) :=
  (near_setTbk s k b).trans (near_tbEvent _ bits)

/-! ## A one-step Sync (R200, R211) -/

section
variable {port : Nat} {sender seq : Nat} {origin corr : Int}

theorem ptpReceive_sync_other (listens : tbListens s k port = true) (other : fromMaster s k port sender = false) :
    ptpReceive s k port (.sync sender seq false origin corr) = s := by
  unfold ptpReceive
  rw [if_neg (by rw [listens]; decide)]
  exact if_pos (by rw [other]; decide)

theorem ptpReceive_sync_own (listens : tbListens s k port = true) (role : fv s .TB_CTRL_ROLE k ≠ 2)
    (own : fromMaster s k port sender = true) : ptpReceive s k port (.sync sender seq false origin corr) =
      measure (setTbk s k { tbOf s k with t2t1 := rxStamp s k port - (origin + corr) }) k
        (rxStamp s k port - (origin + corr) - (tbOf s k).mpd) := by
  have ends (m : PtpBody) : relay s k port seq m = s := if_neg fun h => role (eq_of_beq h)
  unfold ptpReceive
  rw [if_neg (by rw [listens]; decide)]
  refine (if_neg (by rw [own]; decide)).trans ?_
  refine (if_neg Bool.false_ne_true).trans ?_
  rw [ends]
  unfold syncMeasured
  simp only [tbOf_setTbk]

end

end

/-- Settles O29: the state of the time base and the size of the offset give the branch of `measure`. -/
theorem syncOffsetsJudged : Obligations.SyncOffsetsJudged := by
  intro s k port sender seq origin corr hc free listens role
  refine ⟨fun other => run_tbRun (f := fun s => ptpReceive s k port (.sync sender seq false origin corr)) free
    (ptpReceive_sync_other listens other) hc (.refl s), fun own => ?_⟩
  intro b t2t1 o x big changed slewed next held_
  let c : TimeBase := { b with t2t1 := t2t1 }
  have judges {t : State} (e : measure (setTbk s k c) k o = t) (near : Near s t) : next t :=
    run_tbRun (f := fun s => ptpReceive s k port (.sync sender seq false origin corr)) free
      ((ptpReceive_sync_own listens role own).trans e) hc near
  refine ⟨fun committed => ?_, fun uncommitted => ⟨fun follows => ⟨fun jumps few => ?_, fun jumps third => ?_⟩,
    fun tracks small => ?_, fun acquires begun small => ?_, fun acquires first auto audio => ?_, fun holds => ?_⟩⟩
  · exact judges (measure_committed (b := c) committed) (near_setTbk s k _)
  · have refused := measure_refuses (b := c) uncommitted follows jumps
    exact judges (refused.trans (refuseOffset_counts few)) (near_setTbk s k _)
  · have refused := measure_refuses (b := c) uncommitted follows jumps
    exact judges (refused.trans (refuseOffset_holds third (Follows.moves (b := c) follows)))
      ((near_setTbk_event s k _ _).trans (near_tbEvent _ _))
  · have judged := measure_tracking (s := s) (k := k) (b := c) (o := o) uncommitted tracks
    exact judges ((judged.trans (if_neg small)).trans slew_setTbk) (near_slewedFrom (near_setTbk s k _))
  · have judged := measure_acquiring (s := s) (k := k) (b := c) (o := o) uncommitted acquires begun
    have moves : c.state ≠ .tracking := by
      rw [show c.state = .acquiring from acquires]
      decide
    exact judges ((judged.trans (if_neg small)).trans (slew_tracks k.isLt moves)) (near_slewedFrom (near_setTbk_event s k _ _))
  · exact judges (measure_initial (b := c) uncommitted acquires first auto audio) (near_setTbk s k _)
  · have judged := measure_jumpHeld (s := s) (k := k) (b := c) (o := o) uncommitted holds
    have moves : c.state ≠ .tracking := by
      rw [show c.state = .jumpHeld from holds]
      decide
    refine ⟨fun jumps => ?_, fun small few => ?_, fun small third => ?_⟩
    · exact judges (judged.trans (if_pos jumps)) (near_setTbk s k _)
    · exact judges ((judged.trans (if_neg small)).trans (if_pos few)) (near_setTbk s k _)
    · exact judges (((judged.trans (if_neg small)).trans (if_neg (Nat.not_lt.2 third))).trans (slew_tracks k.isLt moves))
        (near_slewedFrom (near_setTbk_event s k _ _))

end Sys2Proof.Machine
end

section
/-! Writes of the clock registers (R215, R247, R263 to R269) and the rows of the pulse outputs (O34). -/

namespace Sys2Proof.Machine

/-- An accepted write that is stored, whose other effects are on near blocks. -/
theorem write_stored_near {s t : State} (r : Reg) {i j : Nat} {v : Word} (w : Word) (hr : Reg.SES_MBOX ≠ r)
    (hi : i < (desc r).n1) (hj : j < (desc r).n2) (hc : calm s = true) (ha : Accepted s r i j v)
    (e : blockWrite (noted s r i j) r i j v = t) (h : Near (wr (noted s r i j) r w i j) t) :
    run s (fun s => regWrite s r i j v 15) = .next t :=
  write_near r hi hj ha e (calm_entry (calm_noted hc r i j) w hr hi hj) h rfl rfl

/-! ## TB_CTRL (R215) -/

section
variable {s : State} {k : Nat} {v : Word}

theorem blockWrite_TB_CTRL (s : State) (hk : k < 4) (v : Word) : blockWrite s .TB_CTRL k 0 v = tbCtrlWrite s k v :=
  blockWrite_entry s .TB_CTRL v rfl hk (by decide)

theorem tbCtrlWrite_same (same : fb s .TB_CTRL_EN k = bit v 31) :
    tbCtrlWrite s k v = wr s .TB_CTRL (kept .TB_CTRL v) k := if_pos (.inl same)

theorem tbCtrlWrite_turns (free : held s 2 = false) {on : Bool} (was : fb s .TB_CTRL_EN k = !on) (becomes : bit v 31 = on) :
    tbCtrlWrite s k v = tbEnable (wr s .TB_CTRL (kept .TB_CTRL v) k) k on := by
  subst becomes
  refine if_neg fun h => h.elim (fun same => ?_) fun safe => Bool.false_ne_true (free.symm.trans safe)
  exact (Bool.eq_not_self _).1 (same.symm.trans was)

theorem tbEnable_on (own : (tbOf s k).state ≠ .mirrored) : tbEnable s k true =
    setTbk s k { tbOf s k with annAt := some s.now, nextAnn := s.now, nextSync := s.now, nextDelay := s.now } :=
  (if_neg own).trans (if_pos rfl)

/-- A time base whose PTP has stopped: nothing is left of it but a step that is committed (R215). -/
def TimeBase.stopped (b : TimeBase) : TimeBase := { b with
  annAt := none, outRun := 0, okRun := 0, heldSince := none, after := .freeRun, syncSeq := none, asked := [], slewLeft := 0
  slewRate := 0, gm := none, state := .freeRun, pend := if b.committed.isSome then b.pend else 0 }

theorem tbEnable_off (own : (tbOf s k).state ≠ .mirrored) :
    TbOnly k s (tbEnable s k false) ∧ tbOf (tbEnable s k false) k = (tbOf s k).stopped := by
  unfold tbEnable stopSlew
  rw [if_neg own, if_neg Bool.false_ne_true]
  simp only [tbOf_setTbk, setTbk_setTbk]
  refine ⟨((tbOnly_setTbk s k _).trans (tbOnly_tbMaster _ k none)).trans (tbOnly_tbState _ k .freeRun), ?_⟩
  rw [tbOf_tbState, tbOf_tbMaster, tbOf_setTbk]
  rfl

end

/-! ## MC_CTRL and SW_FREQ (R247, R249, R370, Table 10-4) -/

section
variable {s : State} {m : Nat} {v : Word}

theorem blockWrite_MC_CTRL (s : State) (hm : m < 4) (v : Word) : blockWrite s .MC_CTRL m 0 v = mcCtrlWrite s m v :=
  blockWrite_entry s .MC_CTRL v rfl hm (by decide)

theorem mcCtrlWrite_same (same : fb s .MC_CTRL_SW m = bit v 30) :
    mcCtrlWrite s m v = wrWindow s .MC_CTRL (kept .MC_CTRL v) m := by
  unfold mcCtrlWrite
  rw [same]
  cases bit v 30 <;> rfl

theorem mcCtrlWrite_sets (was : fb s .MC_CTRL_SW m = false) (sets : bit v 30 = true) :
    mcCtrlWrite s m v = swRun (wrWindow s .MC_CTRL (kept .MC_CTRL v) m) m := by
  unfold mcCtrlWrite
  rw [was, sets]
  rfl

theorem mcCtrlWrite_clears (was : fb s .MC_CTRL_SW m = true) (clears : bit v 30 = false) :
    mcCtrlWrite s m v = swOff (wrWindow s .MC_CTRL (kept .MC_CTRL v) m) m := by
  unfold mcCtrlWrite
  rw [was, clears]
  rfl

theorem calm_wrWindow (hc : calm s = true) {r : Reg} {i j : Nat} (w : Word) (hr : Reg.SES_MBOX ≠ r)
    (hi : i < (desc r).n1) (hj : j < (desc r).n2) : calm (wrWindow s r w i j) = true :=
  calm_entry hc w hr hi hj

theorem near_swRun (s : State) (m : Nat) : Near s (swRun s m) := (near_mcRunOn s m).trans (near_setMc _ m _)

theorem near_enterLost (s : State) (m : Nat) : Near s (enterLost s m) := (near_setMc s m _).trans (near_mcState _ m .lost)

theorem near_realignOn (s : State) (m : Nat) : Near s (realignOn s m) :=
  near_forEach (fun _ s => near_ite (near_setSyn s _) (.refl s)) _ s

theorem near_mcLock (s : State) (m : Nat) : Near s (mcLock s m) :=
  near_ite ((((near_setMc s m _).trans (near_refEvent _ 4)).trans (near_realignOn _ m)).trans (near_mcState _ m .locked))
    (.refl s)

section
variable (alone : mcMirrors s = false)
include alone

theorem swOff_held (safe : held s 3 = true) : swOff s m = fallBack s m :=
  (if_neg (Bool.eq_false_iff.1 alone)).trans (if_pos safe)

variable (free : held s 3 = false)
include free

theorem swOff_locks (due : lockDue s m = true) : swOff s m = mcLock s m := by
  unfold swOff
  rw [if_neg (Bool.eq_false_iff.1 alone), if_neg (Bool.eq_false_iff.1 free), if_pos due]

variable (early : lockDue s m = false)
include early

/-- Past the lock: a row of the present state, a reversion, a limit of HOLDOVER, or the last row (log entry 77). -/
theorem swOff_rest : swOff s m = (mcRow s m).getD ((wtrOf s m).elim
    (if holdoverOver s m then enterLost s m
      else if (mcOf s m).state = .holdover ∧ hoValid s m = true then s
      else fallBack s m)
    fun w => if w.2 ≤ s.now then startSwitch s m w.1 else fallBack s m) := by
  unfold swOff
  rw [if_neg (Bool.eq_false_iff.1 alone), if_neg (Bool.eq_false_iff.1 free), if_neg (Bool.eq_false_iff.1 early)]
  cases mcRow s m with
  | some t => rfl
  | none => cases wtrOf s m <;> rfl

theorem swOff_row {t : State} (row : mcRow s m = some t) : swOff s m = t := by
  rw [swOff_rest alone free early, row]
  rfl

theorem swOff_reverts (noRow : mcRow s m = none) {e t : Nat} (wait : wtrOf s m = some (e, t)) :
    swOff s m = if t ≤ s.now then startSwitch s m e else fallBack s m := by
  rw [swOff_rest alone free early, noRow, wait]
  rfl

theorem swOff_last (noRow : mcRow s m = none) (noWait : wtrOf s m = none) : swOff s m =
    if holdoverOver s m then enterLost s m
    else if (mcOf s m).state = .holdover ∧ hoValid s m = true then s
    else fallBack s m := by
  rw [swOff_rest alone free early, noRow, noWait]
  rfl

end

/-- Whatever row of Table 10-4 fits when SW is cleared, only near blocks change. -/
theorem near_swOff (s : State) (m : Nat) : Near s (swOff s m) := by
  unfold swOff
  refine near_ite (.refl s) (near_ite (near_fallBack s m) (near_ite (near_mcLock s m) ?_))
  cases row : mcRow s m with
  | some t => exact near_mcRow row
  | none =>
    cases wtrOf s m with
    | some e => exact near_ite (near_startSwitch s m _) (near_fallBack s m)
    | none => exact near_ite (near_enterLost s m) (near_ite (.refl s) (near_fallBack s m))

theorem blockWrite_MC_SW_FREQ_LO (s : State) (hm : m < 4) (v : Word) :
    blockWrite s .MC_SW_FREQ_LO m 0 v = swFreqWrite s m v := blockWrite_entry s .MC_SW_FREQ_LO v rfl hm (by decide)

/-- A clock that runs on software runs at its software frequency (R247). -/
theorem swRun_freq (s : State) (m : Nat) : (mcOf (swRun s m) m).freq = (mcOf s m).swFreq := by
  have same : (mcOf (mcRunOn s m) m).swFreq = (mcOf s m).swFreq := by
    unfold mcRunOn
    dsimp only
    split <;> rw [mcOf_setMc]
  unfold swRun
  rw [mcOf_setMc]
  exact same

end

/-! ## MCK_CFG (R263, R265) -/

section
variable {s : State} {k : Nat} {v : Word}

theorem blockWrite_MCK_CFG (s : State) (hk : k < 4) (v : Word) :
    blockWrite s .MCK_CFG k 0 v = mckSet (wr s .MCK_CFG (kept .MCK_CFG v) k) k (bit v 31) :=
  blockWrite_entry s .MCK_CFG v rfl hk (by decide)

theorem mckRunning_mckSet_self (s : State) (j : Nat) (on : Bool) : mckRunning (mckSet s j on) j = on := by
  cases on with
  | false => simp [mckRunning, mckSet, State.setSyn]
  | true => by_cases runs : j ∈ s.syn.mck <;> simp [mckRunning, mckSet, State.setSyn, runs]

theorem mckRunning_mckSet_ne (s : State) {i j : Nat} (on : Bool) (h : i ≠ j) :
    mckRunning (mckSet s j on) i = mckRunning s i := by
  cases on with
  | false => simp [mckRunning, mckSet, State.setSyn, h]
  | true => by_cases runs : j ∈ s.syn.mck <;> simp [mckRunning, mckSet, State.setSyn, runs, h]

theorem mckHz_pos (s : State) (j : Nat) : 0 < mckHz s j := by
  unfold mckHz
  refine Nat.mul_pos (Nat.mul_pos (by decide) (Nat.two_pow_pos _)) ?_
  split <;> decide

/-- A ratio in lowest terms is the ratio. -/
theorem cross_div_gcd (d h : Nat) : d / Nat.gcd d h * h = h / Nat.gcd d h * d :=
  calc d / Nat.gcd d h * h = d * h / Nat.gcd d h := Nat.div_mul_right_comm (Nat.gcd_dvd_left d h) h
    _ = h * d / Nat.gcd d h := by rw [Nat.mul_comm]
    _ = h / Nat.gcd d h * d := (Nat.div_mul_right_comm (Nat.gcd_dvd_right d h) d).symm

/-- What a running output carries is an exact ratio of its DCO (R263). -/
theorem mckOut_running {j : Nat} (runs : mckRunning s j = true) : ∃ o, mckOut s j = some o ∧
    o.synth = serves s (fv s .MCK_CFG_SRC j) ∧ o.freq = outFreq s (fv s .MCK_CFG_SRC j) ∧ o.hz = mckHz s j ∧ o.den ≠ 0 ∧
    o.num * o.hz = o.den * dcoHz s (fv s .MCK_CFG_SRC j) := by
  refine ⟨_, if_pos runs, rfl, rfl, rfl, ?_, ?_⟩
  · exact Nat.ne_of_gt (Nat.div_gcd_pos_of_pos_right _ (mckHz_pos s j))
  · exact cross_div_gcd _ _

theorem mckOut_stopped {j : Nat} (stopped : mckRunning s j = false) : mckOut s j = none :=
  if_neg (Bool.eq_false_iff.1 stopped)

theorem rdF_wr_ne (s : State) {r q : Reg} (w : Word) {i j a b : Nat} (apart : addr q a b ≠ addr r i j) :
    rdF (wr s r w i j) q a b = rdF s q a b := by
  unfold rdF
  rw [rd_wr_ne s w apart]
  rfl

theorem fv_lt (s : State) (f : Fd) (i j : Nat) : fv s f i j < 2 ^ f.n := Nat.mod_lt _ (Nat.two_pow_pos _)

/-- The nominal DCO frequency of a media clock is not MCK_CFG's to change. -/
theorem dcoHz_mckWrite (s : State) (hk : k < 4) (w : Word) {m : Nat} (hm : m < 4) (on : Bool) :
    dcoHz (mckSet (wr s .MCK_CFG w k) k on) m = dcoHz s m := by
  unfold dcoHz ff
  rw [show rdF (mckSet (wr s .MCK_CFG w k) k on) (Fd.MC_CTRL_FAMILY).reg m = rdF s .MC_CTRL m from
    rdF_wr_ne s w (addr_ne (by decide) hk (by decide) hm (by decide))]
  rfl

end

/-! ## PLS_CFG and PLS_OFS (R268, R269) -/

section
variable {s : State} {k : Nat} {v : Word}

@[simp] theorem plsOf_setPls (s : State) (p : Nat) (x : Pls) : plsOf (setPls s p x) p = x := Tbl.getD_put_self _ _ _ _

@[simp] theorem plsOf_raise (s : State) (r : Reg) (bits i p : Nat) : plsOf (raise s r bits i) p = plsOf s p := by
  unfold plsOf
  rw [raise_syn]

theorem near_setPls (s : State) (p : Nat) (x : Pls) : Near s (setPls s p x) := near_setSyn s _

theorem blockWrite_PLS_CFG (s : State) (hk : k < 4) (v : Word) : blockWrite s .PLS_CFG k 0 v =
    if fb s .PLS_CFG_EN k = bit v 31 then wr s .PLS_CFG (kept .PLS_CFG v) k
    else setPls (wr s .PLS_CFG (kept .PLS_CFG v) k) k
      (if bit v 31 then {} else { plsOf s k with measured := false, due := false, overs := 0 }) := by
  refine (blockWrite_entry s .PLS_CFG v rfl hk (by decide)).trans ?_
  show (if fb s .PLS_CFG_EN k = bit v 31 then _ else if bit v 31 = true then _ else _) = _
  cases bit v 31 <;> rfl

theorem blockWrite_PLS_OFS (s : State) (hk : k < 4) (v : Word) : blockWrite s .PLS_OFS k 0 v =
    plsOffset (wr s .PLS_OFS (kept .PLS_OFS v) k) k (rd s .PLS_OFS k).toInt v.toInt :=
  blockWrite_entry s .PLS_OFS v rfl hk (by decide)

end

/-! ## PLS_SOURCE_PULSE (R267 to R269) -/

section
variable {s : State} {p : Nat} {edge : Int}

/-- A source pulse at `t`, in the time of the output's media clock, is measured. -/
def plsSeen (s : State) (p : Nat) (t : Int) : State :=
  let x := plsOf s p
  let goal := t + (rd s .PLS_OFS p).toInt
  let y : Pls := { x with measured := true, srcAt := some t, period := keptPeriod s p x t }
  if x.aligned then
    let e := plsErr y goal
    let far := decide (fv s .PLS_TOL_TOL p < e.natAbs) && !(mcOf s (fv s .PLS_CFG_MC p)).switching
    setPls s p { y with err := e, overs := if far then x.overs + 1 else 0, due := x.due || (far && decide (2 ≤ x.overs)) }
  else setPls s p { y with nextAt := if goal < t then goal + y.period else goal }

theorem near_plsSeen (s : State) (p : Nat) (t : Int) : Near s (plsSeen s p t) :=
  near_ite (near_setPls s p _) (near_setPls s p _)

theorem plsSource_off (off : fb s .PLS_CFG_EN p = false) : plsSource s p edge = s := if_neg (Bool.eq_false_iff.1 off)

section
variable (on : fb s .PLS_CFG_EN p = true)
include on

theorem plsSource_on : plsSource s p edge = (sourceAt s p edge).elim s (plsSeen s p) := by
  unfold plsSource
  rw [if_pos on]
  cases sourceAt s p edge <;> rfl

theorem plsSource_pin (pin : fv s .PLS_CFG_SRCKIND p = 0) :
    plsSource s p edge = plsSeen s p (mcTime s (fv s .PLS_CFG_MC p) + edge) :=
  (plsSource_on on).trans (congrArg (Option.elim · s (plsSeen s p)) (if_pos pin))

/-- A time base gives its pulse at the whole second that its time less ACC has just reached (R267). -/
theorem plsSource_timeBase (base : fv s .PLS_CFG_SRCKIND p ≠ 0) : plsSource s p edge =
    if secondPast s (fv s .PLS_CFG_INDEX p) < 2 then
      plsSeen s p (mcTime s (fv s .PLS_CFG_MC p) - secondPast s (fv s .PLS_CFG_INDEX p)) else s :=
  ((plsSource_on on).trans (congrArg (Option.elim · s (plsSeen s p)) (if_neg base))).trans
    (apply_ite (Option.elim · s (plsSeen s p)) _ _ _)

end
end

/-! ## PLS_OUTPUT_PULSE (R268, R269) -/

section
variable {s : State} {p : Nat}

/-- A realignment is due and moves the next pulse. -/
def plsMoves (s : State) (p : Nat) : Bool :=
  (plsOf s p).aligned && (plsOf s p).due && !(mcOf s (fv s .PLS_CFG_MC p)).switching

/-- The output after its next pulse: the one after it comes a period on. -/
def plsPassed (s : State) (p : Nat) : Pls := { plsOf s p with
  nextAt := plsNext s p + (plsOf s p).period, aligned := true
  due := (plsOf s p).due && (plsOf s p).aligned && !plsMoves s p }

/-- The output after a pulse that a realignment moved. -/
def plsRealigned (s : State) (p : Nat) : Pls :=
  { plsPassed s p with overs := 0, count := satInc 0xFFFF (plsOf s p).count }

/-- The pulse at `t` is sent in `u`, with the width and the polarity that the registers give in `s`. -/
def plsSent (s u : State) (p : Nat) (t : Int) (y : Pls) : State :=
  emit (setPls u p { y with lastAt := some t, lastEnd := some (t + 1000 * fv s .PLS_WIDTH_WIDTH p) })
    (.pulse p t (t - (plsOf s p).nextAt) (fv s .PLS_WIDTH_WIDTH p) (!fb s .PLS_CFG_POL p))

/-- A moved pulse would begin less than one WIDTH after the end of the pulse before. -/
abbrev PlsCrowds (s : State) (p : Nat) : Prop :=
  ((plsOf s p).lastEnd.any fun e => decide (plsNext s p < e + 1000 * fv s .PLS_WIDTH_WIDTH p)) = true

/-- The flag of a realignment leaves the polarity as it is. -/
theorem plsPol_event (hp : p < 4) (x : Pls) :
    fb (raise (setPls s p x) .SYN_EVENT 0x20) .PLS_CFG_POL p = fb s .PLS_CFG_POL p :=
  onlyFlags_fb (raise_flagged (setPls s p x) 0x20 (by decide) (by decide) (by decide)).2 .PLS_CFG_POL rfl hp (by decide)

theorem near_plsSent {u : State} (h : Near s u) (t : Int) (y : Pls) : Near s (plsSent s u p t y) :=
  (h.trans (near_setPls u p _)).trans (near_emit _ _)

theorem plsOutput_idle (idle : fb s .PLS_CFG_EN p = false ∨ (plsOf s p).measured = false ∨
    mcTime s (fv s .PLS_CFG_MC p) < plsNext s p) : plsOutput s p = s := by
  refine if_pos ?_
  rcases idle with h | h | h <;> simp [h]

section
variable (on : fb s .PLS_CFG_EN p = true) (measured : (plsOf s p).measured = true)
  (due : plsNext s p ≤ mcTime s (fv s .PLS_CFG_MC p))
include on measured due

theorem plsOutput_due : ¬((!fb s .PLS_CFG_EN p || !(plsOf s p).measured ||
    decide (mcTime s (fv s .PLS_CFG_MC p) < plsNext s p)) = true) := by
  simp [on, measured, Int.not_lt.2 due]

theorem plsOutput_steady (steady : plsMoves s p = false) :
    plsOutput s p = plsSent s (setPls s p (plsPassed s p)) p (plsNext s p) (plsPassed s p) := by
  unfold plsPassed
  rw [steady]
  have still : ((plsOf s p).aligned && (plsOf s p).due && !(mcOf s (fv s .PLS_CFG_MC p)).switching) = false := steady
  refine (if_neg (plsOutput_due on measured due)).trans ?_
  simp only [still, Bool.false_and, Bool.false_eq_true, if_false, plsOf_setPls]
  rfl

theorem plsOutput_moves (hp : p < 4) (moves : plsMoves s p = true) : plsOutput s p =
    if PlsCrowds s p then raise (setPls s p (plsRealigned s p)) .SYN_EVENT 0x20
    else plsSent s (raise (setPls s p (plsRealigned s p)) .SYN_EVENT 0x20) p (plsNext s p) (plsRealigned s p) := by
  unfold plsRealigned plsPassed
  rw [moves]
  have turned : ((plsOf s p).aligned && (plsOf s p).due && !(mcOf s (fv s .PLS_CFG_MC p)).switching) = true := moves
  refine (if_neg (plsOutput_due on measured due)).trans ?_
  simp only [turned, Bool.true_and, if_true, plsOf_raise, plsOf_setPls, plsPol_event hp]
  refine ite_congr (congrArg (· = true) ?_) (fun _ => rfl) fun _ => rfl
  cases (plsOf s p).lastEnd <;> rfl

end
end

/-- Settles O34: each register's write is the function of its block, whose branches are the clauses; the two rows of the
pulse outputs are those of `plsSource` and `plsOutput`. -/
theorem clockRegistersAct : Obligations.ClockRegistersAct := by
  intro s v k hc
  refine ⟨fun ha free own => ?_, fun ha => ?_, fun ha => ?_, fun u => swRun_freq u k, fun ha => ?_, fun ha => ?_,
    fun ha => ?_, ?_⟩
  · intro u b en
    have stored {t : State} (e : tbCtrlWrite (noted s .TB_CTRL k 0) k v = t) (near : Near u t) :
        exec (.tbCtrlWrite k v 15) s = .next t :=
      write_stored_near .TB_CTRL (kept .TB_CTRL v) (by decide) k.isLt (by decide) hc ha
        ((blockWrite_TB_CTRL _ k.isLt v).trans e) near
    refine ⟨fun same => stored (tbCtrlWrite_same same) (.refl u), fun was sets => ?_, fun was clears => ?_⟩
    · have starts := tbCtrlWrite_turns (s := noted s .TB_CTRL k 0) (k := k) (on := true) free was sets
      exact stored (starts.trans (tbEnable_on own)) (near_setTbk u k _)
    · have stops := tbCtrlWrite_turns (s := noted s .TB_CTRL k 0) (k := k) (on := false) free was clears
      obtain ⟨only, stopped⟩ := tbEnable_off (s := u) own
      refine ⟨tbEnable u k false, stored stops only.near, stopped, ?_, only.2.1⟩
      rw [only.1]
  · intro u next
    have calm_u : calm u = true := calm_wrWindow (calm_noted hc .MC_CTRL k 0) _ (by decide) k.isLt (by decide)
    have stored {t : State} (e : mcCtrlWrite (noted s .MC_CTRL k 0) k v = t) (near : Near u t) : next t :=
      write_near .MC_CTRL k.isLt (by decide) ha ((blockWrite_MC_CTRL _ k.isLt v).trans e) calm_u near rfl rfl
    refine ⟨fun same => stored (mcCtrlWrite_same same) (.refl u),
      fun was sets => stored (mcCtrlWrite_sets was sets) (near_swRun u k), fun was clears => ?_⟩
    have resumes {t : State} (e : swOff u k = t) : next t :=
      stored ((mcCtrlWrite_clears (s := noted s .MC_CTRL k 0) was clears).trans e) (e ▸ near_swOff u k)
    refine ⟨fun mirrors => resumes (if_pos mirrors), fun alone safe => resumes (swOff_held (s := u) alone safe),
      fun alone free due => resumes (swOff_locks (s := u) alone free due),
      fun alone free early => ⟨fun t row => ?_, fun noRow e t wait => ?_, fun noRow noWait => ?_⟩⟩
    · exact resumes (swOff_row (s := u) alone free early row)
    · exact resumes (swOff_reverts (s := u) alone free early noRow wait)
    · exact resumes (swOff_last (s := u) alone free early noRow noWait)
  · intro u hi t
    have calm_t : calm t = true :=
      calm_entry (calm_entry (calm_noted hc .MC_SW_FREQ_LO k 0) hi (by decide) k.isLt (by decide)) v (by decide) k.isLt
        (by decide)
    exact write_near .MC_SW_FREQ_LO (u := { t with rf := { t.rf with hi := Tbl.del s.rf.hi (addr .MC_SW_FREQ_HI k) } })
      k.isLt (by decide) ha (blockWrite_MC_SW_FREQ_LO _ k.isLt v) calm_t ((near_setMc _ k _).trans (near_swRun _ k)) rfl rfl
  · have e := blockWrite_MCK_CFG (noted s .MCK_CFG k 0) k.isLt v
    have runs := mckRunning_mckSet_self (wr (noted s .MCK_CFG k 0) .MCK_CFG (kept .MCK_CFG v) k) k (bit v 31)
    refine ⟨_, write_stored_near .MCK_CFG (kept .MCK_CFG v) (by decide) k.isLt (by decide) hc ha e (near_setSyn _ _), rfl,
      runs, fun j other => mckRunning_mckSet_ne _ _ other, fun off => mckOut_stopped (runs.trans off), fun on => ?_⟩
    obtain ⟨o, out, synth, freq, hz, den, ratio⟩ := mckOut_running (runs.trans on)
    refine ⟨o, out, synth, freq, hz, den, ratio.trans ?_⟩
    exact congrArg (o.den * ·) (dcoHz_mckWrite (noted s .MCK_CFG k 0) k.isLt _ (fv_lt _ .MCK_CFG_SRC k 0) _)
  · intro u
    refine write_stored_near .PLS_CFG (kept .PLS_CFG v) (by decide) k.isLt (by decide) hc ha (blockWrite_PLS_CFG _ k.isLt v) ?_
    exact near_ite (.refl u) (near_setPls u k _)
  · exact write_stored_near .PLS_OFS (kept .PLS_OFS v) (by decide) k.isLt (by decide) hc ha (blockWrite_PLS_OFS _ k.isLt v)
      (near_setPls _ k _)
  · intro x switching width clock
    refine ⟨fun edge => ?_, ?_⟩
    · intro second seen
      have runs {t : State} (e : plsSource s k edge = t) (near : Near s t) : exec (.plsSourcePulse k edge) s = .next t :=
        run_near (f := fun s => plsSource s k edge) e hc near
      refine ⟨fun off => runs (plsSource_off off) (.refl s), fun on pin => ?_, fun on base => ?_⟩
      · exact runs (plsSource_pin on pin) (near_plsSeen s k _)
      · exact runs (plsSource_timeBase on base) (near_ite (near_plsSeen s k _) (.refl s))
    · intro moved t
      have runs {u : State} (e : plsOutput s k = u) (near : Near s u) : exec (.plsOutputPulse k) s = .next u :=
        run_near (f := fun s => plsOutput s k) e hc near
      refine ⟨fun idle => runs (plsOutput_idle idle) (.refl s), fun on measured due => ?_⟩
      have flagged : Near s (raise (setPls s k (plsRealigned s k)) .SYN_EVENT 0x20) :=
        (near_setPls s k _).trans (near_synEvent _ _)
      refine ⟨fun steady => ?_, fun moves => ?_⟩
      · exact runs (plsOutput_steady on measured due steady) (near_plsSent (near_setPls s k _) _ _)
      · exact runs (plsOutput_moves on measured due k.isLt moves) (near_ite flagged (near_plsSent flagged _ _))

end Sys2Proof.Machine
end

section
/-! Commands of the time bases, the references and the synthesizers (O14), and the clear commands of these and of spools,
sessions, safety and the write log (O7): R222, R225, R247, R259, R270, R309, R354, R365, R458. -/

namespace Sys2Proof.Machine

/-! ## SNAP, RELEARN, SW_STEP, RETRY and TEST (R222, R247, R259, R262) -/

/-- Carrying a media clock on changes the references alone. -/
theorem mcRunOn_frame (s : State) (m : Nat) : mcRunOn s m = { s with ref := (mcRunOn s m).ref } := by
  unfold mcRunOn
  dsimp only
  split <;> rfl

/-- A phase step begins from the phase that the clock has reached (R247). -/
theorem swStep_eq (s : State) (m : Nat) : swStep s m = setMc (mcRunOn s m) m { mcOf (mcRunOn s m) m with
    stepEnd := some (s.now + stepNs s m (fineSteps s m (rd s .MC_SW_PS m).toInt))
    stepN := fineSteps s m (rd s .MC_SW_PS m).toInt, stepFrom := s.now, stepDone := 0 } := by
  unfold swStep
  rw [mcRunOn_frame]
  rfl

/-- Settles O14: each bit reaches its operation on the unit that the argument register names. -/
theorem clockCommands : Obligations.ClockCommands := by
  intro s hc k m y
  refine ⟨fun ha => ?_, fun ha => ?_, fun ha => ?_, fun ha => ?_, fun ha => ?_⟩
  · exact write_noted_near .TB_CMD (by decide) (by decide) hc ha rfl (near_setTb _ _)
  · exact write_noted_near .REF_CMD (by decide) (by decide) hc ha rfl (near_setMc _ _ _)
  · exact write_noted_near .REF_CMD (by decide) (by decide) hc ha (swStep_eq (noted s .REF_CMD 0 0) m)
      ((near_mcRunOn _ m).trans (near_setMc _ m _))
  · exact write_noted_near .SYN_CMD (by decide) (by decide) hc ha rfl (near_setSy _ _ _)
  · exact write_noted_near .SYN_CMD (by decide) (by decide) hc ha rfl (near_setSy _ _ _)

/-! ## Clear commands (R225, R249, R270, R309, R354, R365, R458) -/

/-- Clearing the session counters keeps the replies, so it leaves nothing over. -/
theorem calm_sesClrCounts {s : State} (h : calm s = true) : calm (sesClrCounts s) = true := h

/-- A change of the thimble that keeps its reports, its bars and QUIET leaves nothing over. -/
theorem calm_setSaf {s : State} (h : calm s = true) {f : Saf → Saf} (due : (f s.saf).due = s.saf.due)
    (bars : (f s.saf).bars = s.saf.bars) (quiet : (f s.saf).quiet = s.saf.quiet) : calm (s.setSaf f) = true := by
  unfold calm at h ⊢
  rw [State.setSaf_saf, due, bars, quiet]
  exact h

/-- An accepted command of SAF_CMD that keeps the reports, the bars and QUIET of the thimble. -/
theorem safCmd_setSaf {s : State} {v : Word} {f : Saf → Saf} (hc : calm s = true) (ha : Accepted s .SAF_CMD 0 0 v)
    (due : (f s.saf).due = s.saf.due) (bars : (f s.saf).bars = s.saf.bars) (quiet : (f s.saf).quiet = s.saf.quiet)
    (e : safWrite (noted s .SAF_CMD 0 0) .SAF_CMD v = (noted s .SAF_CMD 0 0).setSaf f) :
    run s (fun s => regWrite s .SAF_CMD 0 0 v 15) = .next ((noted s .SAF_CMD 0 0).setSaf f) :=
  run_entry .SAF_CMD (by decide) (by decide) ha ((blockWrite_entry _ .SAF_CMD v rfl (by decide) (by decide)).trans e)
    (calm_setSaf (calm_noted hc .SAF_CMD 0 0) due bars quiet) rfl rfl

/-- CLR_WERR drops the failed write that was captured, and sets no lock (R365, R374). -/
theorem blockWrite_clrWerr (s : State) : blockWrite s .GLB_CMD 0 0 1 = clrWerr s := rfl

/-- Settles O7: each bit reaches the operation that clears the counters of its unit. -/
theorem unitCountersClear : Obligations.UnitCountersClear := by
  intro s hc
  refine ⟨fun ha => ?_, fun ha => ?_, fun ha => ?_, fun ha => ?_, fun ha => ?_, fun ha => ?_, fun ha => ?_, fun ha => ?_⟩
  · exact write_noted_near .TB_CMD (by decide) (by decide) hc ha rfl (near_setTb _ _)
  · exact write_noted_near .REF_CMD (by decide) (by decide) hc ha rfl (near_setMc _ _ _)
  · exact write_noted_near .SYN_CMD (by decide) (by decide) hc ha rfl (near_setSy _ _ _)
  · exact write_noted_near .SPL_CMD (by decide) (by decide) hc ha rfl (near_setSp _ _ _)
  · exact run_entry .SES_CMD (by decide) (by decide) ha rfl (calm_sesClrCounts (calm_noted hc .SES_CMD 0 0)) rfl rfl
  · exact safCmd_setSaf hc ha rfl rfl rfl rfl
  · exact safCmd_setSaf hc ha rfl rfl rfl rfl
  · exact run_entry .GLB_CMD (by decide) (by decide) ha (blockWrite_clrWerr (noted s .GLB_CMD 0 0))
      (calm_setGlb (calm_noted hc .GLB_CMD 0 0) ⟨rfl, rfl⟩) rfl rfl

end Sys2Proof.Machine
end

section
/-! Qualification of the reference sources (O31): R230, R233 to R235, R249, Table 10-2. -/

namespace Sys2Proof.Machine

/-! ## Changes of state of a source (R234) -/

/-- A source that is not QUALIFIED, or no longer: what qualification had gathered is gone. -/
def RefSlot.leaves (x : RefSlot) (q : QState) (now : Nat) : RefSlot := { x with
  q := q, timer := if q = .qualifying then now else x.timer, drift := false, voted := false, hardRun := 0
  disquals := if q = .disqualified then satInc 0xFFFF x.disquals else x.disquals }

theorem near_refEventIf (c : Bool) (s : State) (b : Nat) : Near s (raiseIf c s .REF_EVENT b) :=
  (raiseIf_flagged c s b (by decide) (by decide) (by decide)).near

theorem raiseIf_not (c : Bool) (s : State) (r : Reg) (bits i : Nat) :
    raiseIf (!c) s r bits i = if c then s else raise s r bits i := by
  cases c <;> rfl

section
variable {s : State} {k : Nat}

/-- The end of QUALIFIED is flagged. -/
theorem slotState_leaves {q : QState} (h : q ≠ .qualified) : slotState s k q =
    raiseIf ((slotOf s k).q == .qualified) (setSlot s k ((slotOf s k).leaves q s.now)) .REF_EVENT 0x10 := by
  have other : (q == .qualified) = false := beq_eq_false_iff_ne.2 h
  unfold slotState raiseIf RefSlot.leaves
  by_cases was : (slotOf s k).q = .qualified <;> simp [h, other, was]

/-- Entry into QUALIFIED is flagged, and keeps what the windows have shown. -/
theorem slotState_qualified (h : (slotOf s k).q = .qualifying) : slotState s k .qualified =
    raise (setSlot s k { slotOf s k with q := .qualified, qualAt := s.now }) .REF_EVENT 8 := by
  unfold slotState
  simp [h]

/-- A source that was not QUALIFIED changes its state without a flag. -/
theorem slotState_quiet {q : QState} (h : q ≠ .qualified) (was : (slotOf s k).q ≠ .qualified) :
    slotState s k q = setSlot s k ((slotOf s k).leaves q s.now) := by
  rw [slotState_leaves h, beq_eq_false_iff_ne.2 was]
  rfl

/-! ## Edges (R233) -/

/-- The slot of a source at an edge: a physical input notes the instant. -/
def edgeSlot (s : State) (k : Nat) : RefSlot :=
  if k < 4 then { slotOf s k with lastEdge := some s.now } else slotOf s k

/-- The state in which an edge is judged. -/
def edgeSeen (s : State) (k : Nat) : State := if k < 4 then setSlot s k (edgeSlot s k) else s

theorem near_edgeSeen (s : State) (k : Nat) : Near s (edgeSeen s k) := near_ite (near_setSlot s k _) (.refl s)

theorem slotOf_edgeSeen : slotOf (edgeSeen s k) k = edgeSlot s k := by
  unfold edgeSeen
  split
  next => exact slotOf_setSlot _ _ _
  next logic => exact (if_neg logic).symm

theorem edgeSlot_q : (edgeSlot s k).q = (slotOf s k).q := by
  unfold edgeSlot
  split <;> rfl

theorem ff_edgeSeen (f : Fd) (i : Nat) : ff (edgeSeen s k) f i = ff s f i := by
  unfold edgeSeen
  split <;> rfl

/-- A source starts QUALIFYING at an edge. -/
theorem slotState_edgeSeen : slotState (edgeSeen s k) k .qualifying =
    raiseIf ((slotOf s k).q == .qualified)
      (setSlot (edgeSeen s k) k ((edgeSlot s k).leaves .qualifying s.now)) .REF_EVENT 0x10 := by
  rw [slotState_leaves (by decide), slotOf_edgeSeen, edgeSlot_q, (near_edgeSeen s k).now]

section
variable {dev : Int} (source : ¬ (k = 20 ∨ (4 ≤ k ∧ k < 8)))
include source

theorem refEdge_eq : refEdge s k dev = mcEvalAll (
    if ff s .QL_W1_JUMP k < dev.natAbs ∧ (slotOf s k).q ≠ .noSignal then slotJump (edgeSeen s k) k
    else slotUp (edgeSeen s k) k) := by
  have seen : (if k < 4 then setSlot s k { slotOf s k with lastEdge := some s.now } else s) = edgeSeen s k := by
    unfold edgeSeen edgeSlot
    split <;> rfl
  unfold refEdge
  rw [if_neg source, seen]
  dsimp only
  rw [ff_edgeSeen, slotOf_edgeSeen, edgeSlot_q]

theorem refEdge_jump (jump : ff s .QL_W1_JUMP k < dev.natAbs)
    (q : (slotOf s k).q = .qualifying ∨ (slotOf s k).q = .qualified) : refEdge s k dev =
      mcEvalAll (raiseIf ((slotOf s k).q == .qualified)
        (setSlot (edgeSeen s k) k ((edgeSlot s k).leaves .qualifying s.now)) .REF_EVENT 0x10) := by
  have signal : (slotOf s k).q ≠ .noSignal := by rcases q with q | q <;> rw [q] <;> decide
  have jumps : slotJump (edgeSeen s k) k = slotState (edgeSeen s k) k .qualifying := by
    unfold slotJump
    rw [slotOf_edgeSeen, edgeSlot_q]
    rcases q with q | q <;> rw [q]
  rw [refEdge_eq source, if_pos ⟨jump, signal⟩, jumps, slotState_edgeSeen]

variable (steady : dev.natAbs ≤ ff s .QL_W1_JUMP k)
include steady

theorem refEdge_steady : refEdge s k dev = mcEvalAll (slotUp (edgeSeen s k) k) := by
  rw [refEdge_eq source, if_neg fun h => absurd h.1 (Nat.not_lt.2 steady)]

theorem refEdge_rises (hk : k < 20) (q : (slotOf s k).q = .noSignal) (usable : slotUsable (edgeSeen s k) k = true) :
    refEdge s k dev = mcEvalAll (setSlot (edgeSeen s k) k ((edgeSlot s k).leaves .qualifying s.now)) := by
  have rises : slotUp (edgeSeen s k) k = slotState (edgeSeen s k) k .qualifying :=
    if_pos ⟨hk, by rw [slotOf_edgeSeen, edgeSlot_q, q], usable⟩
  rw [refEdge_steady source steady, rises, slotState_edgeSeen, q]
  rfl

theorem refEdge_stays (q : (slotOf s k).q ≠ .noSignal) : refEdge s k dev = mcEvalAll (edgeSeen s k) := by
  rw [refEdge_steady source steady, slotUp, if_neg]
  rintro ⟨-, none, -⟩
  rw [slotOf_edgeSeen, edgeSlot_q] at none
  exact q none

end

/-! ## The end of a signal, and of QTIME (R234) -/

theorem refSignalLoss_lost (hk : k < 20) (q : (slotOf s k).q ≠ .noSignal) (unusable : slotUsable s k = false) :
    refSignalLoss s k = mcEvalAll (raiseIf ((slotOf s k).q == .qualified)
      (setSlot s k ((slotOf s k).leaves .noSignal s.now)) .REF_EVENT 0x10) := by
  unfold refSignalLoss slotDown
  rw [if_pos ⟨hk, q, by rw [unusable]; rfl⟩, slotState_leaves (by decide)]

theorem qtimeOver_qualifying (elapsed : qtimeOver s k = true) : (slotOf s k).q = .qualifying := by
  unfold qtimeOver at elapsed
  rw [Bool.and_eq_true, Bool.and_eq_true, beq_iff_eq] at elapsed
  exact elapsed.1.1

theorem qtimeExpire_over (elapsed : qtimeOver s k = true) : qtimeExpire s k =
    mcEvalAll (raise (setSlot s k { slotOf s k with q := .qualified, qualAt := s.now }) .REF_EVENT 8) := by
  rw [qtimeExpire, if_pos elapsed, slotState_qualified (qtimeOver_qualifying elapsed)]

/-! ## The end of a window (Table 10-2) -/

section
variable {fofs : Int}

/-- A source with the offset that a window has measured. -/
abbrev withOffset (s : State) (k : Nat) (fofs : Int) : RefSlot := { slotOf s k with fofs := fofs }

abbrev BeyondHard (s : State) (k : Nat) (fofs : Int) : Prop := ff s .QL_W0_HARD k * 800 < fofs.natAbs
abbrev BeyondSoft (s : State) (k : Nat) (fofs : Int) : Prop := ff s .QL_W0_SOFT k * 800 < fofs.natAbs

/-- What a window does to a source in a state of qualification. -/
def windowRow (s : State) (k : Nat) (fofs : Int) : QState → State
  | .noSignal => setSlot s k (withOffset s k fofs)
  | .qualifying =>
    setSlot s k (if BeyondHard s k fofs then (withOffset s k fofs).leaves .qualifying s.now else withOffset s k fofs)
  | .qualified =>
    if BeyondHard s k fofs then
      if 2 ≤ (slotOf s k).hardRun then judgeSource (setSlot s k (withOffset s k fofs)) k
      else setSlot s k { withOffset s k fofs with hardRun := (slotOf s k).hardRun + 1 }
    else if BeyondSoft s k fofs then
      raiseIf (!(slotOf s k).drift) (setSlot s k { withOffset s k fofs with hardRun := 0, drift := true }) .REF_EVENT 0x40
    else setSlot s k { withOffset s k fofs with hardRun := 0, drift := false }
  | .disqualified =>
    setSlot s k (if BeyondHard s k fofs then withOffset s k fofs else (withOffset s k fofs).leaves .qualifying s.now)

/-- A change to a state short of QUALIFIED, of a source that was just measured and was not QUALIFIED. -/
theorem slotState_measured {q : QState} (h : q ≠ .qualified) (was : (slotOf s k).q ≠ .qualified) :
    slotState (setSlot s k (withOffset s k fofs)) k q = setSlot s k ((withOffset s k fofs).leaves q s.now) := by
  rw [slotState_quiet h (by rw [slotOf_setSlot]; exact was), slotOf_setSlot, setSlot_setSlot]
  rfl

theorem windowEnd_eq (other : k ≠ 20) {q : QState} (is : (slotOf s k).q = q) : windowEnd s k fofs = windowRow s k fofs q := by
  unfold windowEnd
  dsimp only
  rw [if_neg other]
  simp only [setSlot_setSlot, decide_eq_true_eq]
  split
  next noSignal =>
    obtain rfl := is.symm.trans noSignal
    rfl
  next qualifying =>
    obtain rfl := is.symm.trans qualifying
    rw [windowRow, apply_ite (setSlot s k), ← slotState_measured (by decide) (by rw [qualifying]; decide)]
    rfl
  next qualified =>
    obtain rfl := is.symm.trans qualified
    rw [windowRow, raiseIf_not]
    rfl
  next disqualified =>
    obtain rfl := is.symm.trans disqualified
    rw [windowRow, apply_ite (setSlot s k), ← slotState_measured (by decide) (by rw [disqualified]; decide)]
    rfl

/-- The third window in a row beyond HARD: without a verdict against the TCXO the source is DISQUALIFIED (R235). -/
theorem judgeSource_disqualifies (q : (slotOf s k).q = .qualified)
    (noVote : voteAgainstTcxo (setSlot s k (withOffset s k fofs)) k = false) :
    judgeSource (setSlot s k (withOffset s k fofs)) k =
      raise (setSlot s k ((withOffset s k fofs).leaves .disqualified s.now)) .REF_EVENT 0x10 := by
  unfold judgeSource
  rw [noVote, if_neg Bool.false_ne_true, slotState_leaves (by decide), slotOf_setSlot, setSlot_setSlot, q]
  rfl

end

end

/-! ## QUAL_WINDOW_END (R249) -/

/-- Words that come into force leave nothing over. -/
theorem calm_landWindow {s : State} (hc : calm s = true) : calm (landWindow s) = true := hc

theorem near_tcxoWatch (s : State) : Near s (tcxoWatch s) := near_setRef s _

/-- A window whose judgement changes only near blocks. -/
theorem exec_qualWindowEnd {s t : State} {k : Fin 21} {fofs : Int} (hc : calm s = true) (other : k.val ≠ 20)
    (row : windowRow (landWindow s) k fofs (slotOf s k).q = t) (near : Near (landWindow s) t) :
    exec (.qualWindowEnd k fofs) s = .next (mcEvalAll (tcxoWatch t)) := by
  have done : Near (landWindow s) (mcEvalAll (tcxoWatch t)) := (near.trans (near_tcxoWatch t)).trans (near_mcEvalAll _)
  refine run_is (f := fun s => qualWindowEnd s k fofs) ?_ (done.calm (calm_landWindow hc)) done.now done.pending
  unfold qualWindowEnd
  rw [windowEnd_eq other rfl]
  exact congrArg (fun t => mcEvalAll (tcxoWatch t)) row

/-- Settles O31: each row of Table 10-2 is a change of state of the source, or a note of what the window has shown, and
then the media clocks select again. -/
theorem sourcesQualify : Obligations.SourcesQualify := by
  intro s k hc hk x begun into lost
  have other : k.val ≠ 20 := fun h => hk (Fin.ext h)
  have below : k.val < 20 := by omega
  have runs {f : State → State} {t : State} (e : f s = mcEvalAll t) (near : Near s t) : run s f = .next (mcEvalAll t) :=
    run_near e hc (near.trans (near_mcEvalAll t))
  refine ⟨?_, fun q unusable => ?_, fun elapsed => ?_, ?_⟩
  · intro dev source y u
    have source : ¬ (k.val = 20 ∨ (4 ≤ k.val ∧ k.val < 8)) := not_or.2 ⟨other, source⟩
    have seen : Near s u := near_edgeSeen s k
    have judged {t : State} (e : refEdge s k dev = mcEvalAll t) (near : Near u t) :
        exec (.refEdge k dev) s = .next (mcEvalAll t) := runs (f := fun s => refEdge s k dev) e (seen.trans near)
    refine ⟨fun jump q => ?_, fun steady q usable => ?_, fun steady q => ?_⟩
    · exact judged (refEdge_jump source jump q) ((near_setSlot u k _).trans (near_refEventIf _ _ 0x10))
    · exact judged (refEdge_rises source steady below q usable) (near_setSlot u k _)
    · exact judged (refEdge_stays source steady q) (.refl u)
  · exact runs (f := fun s => refSignalLoss s k) (refSignalLoss_lost below q unusable)
      ((near_setSlot s k _).trans (near_refEventIf _ _ 0x10))
  · exact runs (f := fun s => qtimeExpire s k) (qtimeExpire_over elapsed) ((near_setSlot s k _).trans (near_refEvent _ 8))
  · intro fofs u y hard soft next
    have row {q : QState} {t : State} (was : x.q = q) (e : windowRow u k fofs q = t) (near : Near u t) : next t :=
      exec_qualWindowEnd hc other (was ▸ e) near
    refine ⟨fun q => row q rfl (near_setSlot u k _), fun q => row q rfl (near_setSlot u k _), fun q h early => ?_,
      fun q h third noVote => ?_, fun q h drifts => ?_, fun q h steady => ?_, fun q => row q rfl (near_setSlot u k _)⟩
    · exact row q ((if_pos h).trans (if_neg (Nat.not_le.2 early))) (near_setSlot u k _)
    · have judged := judgeSource_disqualifies (s := u) q noVote
      exact row q (((if_pos h).trans (if_pos third)).trans judged) ((near_setSlot u k _).trans (near_refEvent _ 0x10))
    · exact row q ((if_neg h).trans (if_pos drifts)) ((near_setSlot u k _).trans (near_refEventIf _ _ 0x40))
    · exact row q ((if_neg h).trans (if_neg steady)) (near_setSlot u k _)

end Sys2Proof.Machine
end

section
/-! Lock, reversion, the limit of HOLDOVER and the end of a phase step (O32): R238 to R241, R246, R262, R268, Table 10-4. -/

namespace Sys2Proof.Machine

section
variable {s : State} {m : Nat}

@[simp] theorem mcOf_refEvent (s : State) (bits m : Nat) : mcOf (raise s .REF_EVENT bits) m = mcOf s m := by
  unfold mcOf
  rw [raise_ref]

/-- A change of state other than to LOST raises MC_STATE alone (R239). -/
theorem mcState_change {st : McState} (moves : (mcOf s m).state ≠ st) (h : st ≠ .lost) :
    mcState s m st = raise (setMc s m { mcOf s m with state := st }) .REF_EVENT 1 := by
  unfold mcState
  dsimp only
  rw [if_neg moves, if_neg h]

/-! ## WTR_EXPIRE (R238) -/

/-- Only a LOCKED media clock waits to restore. -/
theorem wtrOf_locked {w : Nat × Nat} (h : wtrOf s m = some w) : (mcOf s m).state = .locked := by
  unfold wtrOf at h
  dsimp only at h
  split at h
  next waits => exact waits.1
  next => cases h

/-- A switch to an entry, of a media clock that is not ACQUIRING (R240). -/
theorem startSwitch_change (e : Nat) (moves : (mcOf s m).state ≠ .acquiring) : startSwitch s m e =
    raise (setMc s m { mcOf s m with
      sel := some e, switching := true, fresh := true, inWinFrom := none, base := (mcOf s m).freq
      switches := satInc 0xFFFF (mcOf s m).switches, state := .acquiring }) .REF_EVENT 1 :=
  mcState_setMc s m _ .acquiring moves

theorem wtrExpire_waits {e t : Nat} (wait : wtrOf s m = some (e, t)) (free : held s 3 = false) :
    wtrExpire s m = if t ≤ s.now then startSwitch s m e else s := by
  unfold wtrExpire
  rw [wait, free]
  simp only [Bool.not_false, and_true]

theorem near_wtrExpire (s : State) (m : Nat) : Near s (wtrExpire s m) := by
  unfold wtrExpire
  split
  · exact near_ite (near_startSwitch s m _) (.refl s)
  · exact .refl s

/-! ## MC_LOCK_ACHIEVED (R241, R269) -/

/-- A pulse of a media clock is due for one correction, a pulse of another one is not. -/
def markDue (s : State) (m : Nat) (z : Tbl Pls) (p : Nat) : Tbl Pls :=
  if fv s .PLS_CFG_MC p = m then Tbl.mod {} z p fun q => { q with due := true } else z

/-- The state with the pulse table that is given. -/
def withPls (s : State) (z : Tbl Pls) : State := s.setSyn fun y => { y with pls := z }

/-- The pulses of a media clock are marked one after another; which pulses are its own is what the registers say before. -/
theorem forEach_markDue {t : State} (same : OnlyFlags s t) (ps : List Nat) (pulses : ∀ p ∈ ps, p < 4) :
    forEach ps t (fun p s => if fv s .PLS_CFG_MC p = m then
        s.setSyn fun y => { y with pls := Tbl.mod {} y.pls p fun q => { q with due := true } }
      else s) = withPls t (ps.foldl (markDue s m) t.syn.pls) := by
  induction ps generalizing t with
  | nil => rfl
  | cons p ps ih =>
    obtain ⟨hp, rest⟩ := List.forall_mem_cons.1 pulses
    have own : fv t .PLS_CFG_MC p = fv s .PLS_CFG_MC p := onlyFlags_fv same .PLS_CFG_MC rfl hp (by decide)
    have one : (if fv t .PLS_CFG_MC p = m then
        t.setSyn fun y => { y with pls := Tbl.mod {} y.pls p fun q => { q with due := true } }
      else t) = withPls t (markDue s m t.syn.pls p) := by
      rw [own, markDue]
      split <;> rfl
    rw [forEach, List.foldl_cons, one]
    exact ih (onlyFlags_trans same (onlyFlags_of_rf rfl)) rest

theorem realignOn_eq {t : State} (same : OnlyFlags s t) :
    realignOn t m = withPls t ([0, 1, 2, 3].foldl (markDue s m) t.syn.pls) :=
  forEach_markDue same _ (by decide)

theorem lockDue_since {t : Nat} (since : (mcOf s m).inWinFrom = some t) : lockDue s m = true ↔
    (mcOf s m).state = .acquiring ∧ fb s .MC_CTRL_SW m = false ∧ mcMirrors s = false ∧
      t + 1000000000 * ff s .MC_LOCK_LOCK_TIME m ≤ s.now := by
  unfold lockDue
  dsimp only
  rw [since]
  simp only [Bool.and_eq_true, beq_iff_eq, Bool.not_eq_true', decide_eq_true_eq, and_assoc]

/-- A media clock whose switch is over. -/
abbrev Mc.settled (x : Mc) (now : Nat) : Mc := { x with switching := false, fresh := false, recAt := now }

theorem mcLock_due (due : lockDue s m = true) (acquiring : (mcOf s m).state = .acquiring) : mcLock s m =
    raise (setMc (withPls (raise (setMc s m ((mcOf s m).settled s.now)) .REF_EVENT 4)
        ([0, 1, 2, 3].foldl (markDue s m) s.syn.pls)) m
      { (mcOf s m).settled s.now with state := .locked }) .REF_EVENT 1 := by
  have same : OnlyFlags s (raise (setMc s m ((mcOf s m).settled s.now)) .REF_EVENT 4) :=
    ((near_setMc s m _).trans (near_refEvent _ 4)).2
  have own (z : Tbl Pls) : mcOf (withPls (raise (setMc s m ((mcOf s m).settled s.now)) .REF_EVENT 4) z) m =
      (mcOf s m).settled s.now := (mcOf_refEvent _ 4 m).trans (mcOf_setMc s m _)
  rw [mcLock, if_pos due]
  dsimp only
  rw [realignOn_eq same, raise_syn, mcState_change (by rw [own, acquiring]; decide) (by decide), own]
  rfl

theorem mcRun_free {f : State → State} (free : held s 3 = false) : mcRun s f = f s :=
  if_neg (Bool.eq_false_iff.1 free)

/-! ## HOLDOVER_LIMIT (R246) -/

theorem holdoverOver_iff : holdoverOver s m = true ↔
    (mcOf s m).state = .holdover ∧ fb s .MC_CTRL_SW m = false ∧ mcMirrors s = false ∧
      (ff s .MC_HO_ERR_HO_ERR_MAX m * 8000000000 < (mcOf s m).est ∨
        (mcOf s m).hoFrom + ff s .MC_HO_HO_MAX m * 60000000000 ≤ s.now) := by
  unfold holdoverOver
  simp only [Bool.and_eq_true, Bool.or_eq_true, beq_iff_eq, Bool.not_eq_true', decide_eq_true_eq, and_assoc]

/-- Entry into LOST raises MC_STATE and MC_LOST (R239). -/
theorem enterLost_change (moves : (mcOf s m).state ≠ .lost) : enterLost s m =
    raise (raise (setMc s m { mcOf s m with switching := false, state := .lost }) .REF_EVENT 1) .REF_EVENT 2 :=
  mcState_setMc s m _ .lost moves

theorem near_holdoverLimit (s : State) (m : Nat) : Near s (holdoverLimit s m) := near_ite (near_enterLost s m) (.refl s)

/-! ## PHASE_STEP_DONE (R262, R268) -/

/-- Carrying a media clock on keeps the sequence of fine steps that runs. -/
theorem mcRunOn_stepN (s : State) (m : Nat) : (mcOf (mcRunOn s m) m).stepN = (mcOf s m).stepN := by
  unfold mcRunOn
  dsimp only
  split <;> rw [mcOf_setMc]

/-- What is left of a phase step at its end, in the unit of the phase. -/
def stepLeft (s : State) (m : Nat) : Nat :=
  stepUnits (mcRunOn s m) m (mcOf s m).stepN.natAbs - stepUnits (mcRunOn s m) m (mcOf (mcRunOn s m) m).stepDone

theorem phaseStepDone_running {t : Nat} (runs : (mcOf s m).stepEnd = some t) : phaseStepDone s m =
    if t ≤ s.now then setMc (mcRunOn s m) m { mcOf (mcRunOn s m) m with
      frac := (if 0 < (mcOf s m).stepN then (mcOf (mcRunOn s m) m).frac - stepLeft s m
        else (mcOf (mcRunOn s m) m).frac + stepLeft s m)
      stepEnd := none, stepN := 0, stepFrom := s.now, stepDone := 0 }
    else s := by
  unfold phaseStepDone stepLeft
  rw [runs]
  dsimp only
  rw [mcRunOn_stepN, (near_mcRunOn s m).now]

theorem near_phaseStepDone (s : State) (m : Nat) : Near s (phaseStepDone s m) := by
  unfold phaseStepDone
  split
  · exact near_ite ((near_mcRunOn s m).trans (near_setMc _ m _)) (.refl s)
  · exact .refl s

end

/-- Settles O32: each command acts as its row of Table 10-4 says where its condition holds, and else leaves the state. -/
theorem loopEvents : Obligations.LoopEvents := by
  intro s m hc x
  have runs {f : State → State} {t : State} (e : f s = t) (near : Near s (f s)) : run s f = .next t :=
    run_near e hc (e ▸ near)
  refine ⟨fun e t wait free => ?_, fun t free since => ⟨fun acquiring alone sw elapsed => ?_, fun early => ?_⟩, ?_,
    fun t ends => ?_⟩
  · have switches := startSwitch_change e (by rw [wtrOf_locked wait]; decide)
    refine runs (f := fun s => wtrExpire s m) ?_ (near_wtrExpire s m)
    rw [wtrExpire_waits wait free, switches]
  · have due : lockDue s m = true := (lockDue_since since).2 ⟨acquiring, sw, alone, elapsed⟩
    exact runs (f := fun s => mcRun s fun s => mcLock s m) ((mcRun_free free).trans (mcLock_due due acquiring))
      (near_ite (.refl s) (near_mcLock s m))
  · have idle : lockDue s m = false := by
      rw [Bool.eq_false_iff, ne_eq, lockDue_since since]
      rintro ⟨-, -, -, elapsed⟩
      exact absurd elapsed (Nat.not_le.2 early)
    exact runs (f := fun s => mcRun s fun s => mcLock s m) ((mcRun_free free).trans (if_neg (Bool.eq_false_iff.1 idle)))
      (near_ite (.refl s) (near_mcLock s m))
  · refine runs (f := fun s => holdoverLimit s m) ?_ (near_holdoverLimit s m)
    split
    next passed => exact (if_pos (holdoverOver_iff.2 passed)).trans (enterLost_change (by rw [passed.1]; decide))
    next within => exact if_neg fun h => within (holdoverOver_iff.1 h)
  · exact runs (f := fun s => phaseStepDone s m) (phaseStepDone_running ends) (near_phaseStepDone s m)

end Sys2Proof.Machine
end

section
/-! Loss, relock, hand-over and test of the synthesizers (O33): R253, R254, R256 to R260, Table 11-4. -/

namespace Sys2Proof.Machine

/-- A command that acts where its condition holds on blocks that leave nothing over. -/
theorem run_near_where {s t : State} {f : State → State} {p : Prop} [Decidable p] (e : f s = if p then t else s)
    (hc : calm s = true) (near : Near s t) : run s f = .next (if p then t else s) :=
  run_where e hc (near.calm hc) near.now near.pending

section
variable {s : State} {k m : Nat} {errs : List Int}

@[simp] theorem mcOf_raise (s : State) (r : Reg) (bits i m : Nat) : mcOf (raise s r bits i) m = mcOf s m := by
  unfold mcOf
  rw [raise_ref]

@[simp] theorem mcOf_setSy (s : State) (k : Nat) (x : Sy) (m : Nat) : mcOf (setSy s k x) m = mcOf s m := rfl

/-- Carrying a media clock on touches no synthesizer. -/
@[simp] theorem syOf_mcRunOn (s : State) (m k : Nat) : syOf (mcRunOn s m) k = syOf s k := by
  rw [mcRunOn_frame]
  rfl

/-! ## The criteria of loss and of lock (R253, R254) -/

theorem lastAll_iff {n : Nat} {p : Int → Prop} [DecidablePred p] :
    lastAll n errs (fun e => decide (p e)) = true ↔ n ≤ errs.length ∧ ∀ e ∈ errs.reverse.take n, p e := by
  simp only [lastAll, Bool.and_eq_true, List.all_eq_true, decide_eq_true_eq]

theorem lolMet_iff {edge : Bool} : lolMet s edge errs = true ↔
    edge = true ∨ 4 ≤ errs.length ∧ ∀ e ∈ errs.reverse.take 4, 16 * fv s .SYN_LOL_LOL_WIN < e.natAbs := by
  rw [lolMet, Bool.or_eq_true, lastAll_iff]

theorem lockMet_iff : lockMet s errs = true ↔ fv s .SYN_LOCK_LOCK_N ≤ errs.length ∧
    ∀ e ∈ errs.reverse.take (fv s .SYN_LOCK_LOCK_N), e.natAbs ≤ 16 * fv s .SYN_LOCK_LOCK_WIN := lastAll_iff

theorem counterMet_iff {dev : Option Int} : counterMet dev = true ↔ ∃ d, dev = some d ∧ d.natAbs ≤ 1000 := by
  simp only [counterMet, Option.any_eq_true, decide_eq_true_eq]

/-! ## Relocking in place (R256) -/

/-- The first attempt is due 1 ms after the loss, each later one a second after the one before, without a spare. -/
theorem synTry_eq (s : State) (k : Nat) : synTry s k =
    if (syOf s k).state = .coast ∧ (syOf s k).atEdge = false ∧
        ((syOf s k).tryAt = none ∧ (syOf s k).lostAt + 1000000 ≤ s.now ∨
          ∃ t ∈ (syOf s k).tryAt, t + 1000000000 ≤ s.now ∧ (syOf s k).noSpare = true) then
      setSy s k { syOf s k with tryAt := some s.now }
    else s := by
  unfold synTry
  cases h : (syOf s k).tryAt <;> simp [h]

theorem synRelock_locked {t : Nat} (tried : (syOf s k).tryAt = some t) (coasts : (syOf s k).state = .coast)
    (phase : (syOf s k).atEdge = false) (inTime : s.now ≤ (syOf s k).lostAt + 20000000 ∨ (syOf s k).noSpare = true)
    (locked : lockMet s errs = true) : synRelock s k errs =
      mcRelocked (raise (setSy (mcRunOn s (syOf s k).mc) k { syOf s k with
        state := .live, pherr := lastErr errs (syOf s k).pherr, tryAt := none, noSpare := false
        relocks := satInc 0xFF (syOf s k).relocks }) .SYN_EVENT 2) (syOf s k).mc := by
  unfold synRelock
  dsimp only
  rw [tried]
  exact if_pos ⟨coasts, by rw [phase]; rfl, inTime, locked⟩

theorem synRelock_unlocked (unlocked : lockMet s errs ≠ true) : synRelock s k errs = s := by
  unfold synRelock
  dsimp only
  split
  · exact if_neg fun ⟨_, _, _, locked⟩ => unlocked locked
  · rfl

/-! ## A loss with no spare (R256) -/

/-- The loss is marked and flagged, and the media clock knows of it. -/
def spareMissing (s : State) (m : Nat) : State :=
  setMc (raise (setSy s (serves s m) { syOf s (serves s m) with noSpare := true }) .SYN_EVENT 0x10) m
    { mcOf s m with coast := true }

theorem near_spareMissing (s : State) (m : Nat) : Near s (spareMissing s m) :=
  ((near_setSy s _ _).trans (near_synEvent _ 0x10)).trans (near_setMc _ m _)

theorem fb_spareMissing (hm : m < 4) : fb (spareMissing s m) .MC_CTRL_SW m = fb s .MC_CTRL_SW m :=
  onlyFlags_fb (near_spareMissing s m).2 .MC_CTRL_SW rfl hm (by decide)

theorem mcMirrors_spareMissing : mcMirrors (spareMissing s m) = mcMirrors s := by
  unfold mcMirrors
  rw [(near_spareMissing s m).1]

theorem mcOf_spareMissing : mcOf (spareMissing s m) m = { mcOf s m with coast := true } := mcOf_setMc _ m _

/-- A media clock that follows a source, under its own control, falls back. -/
theorem synNoSpare_due (hm : m < 4) (coasts : (syOf s (serves s m)).state = .coast) (own : (syOf s (serves s m)).mc = m)
    (passed : (syOf s (serves s m)).lostAt + 20000000 ≤ s.now) (noSpare : spareFree s = false)
    (alone : handingOver s m = false) (first : (syOf s (serves s m)).noSpare = false) : synNoSpare s m =
      if fb s .MC_CTRL_SW m = false ∧ mcMirrors s = false ∧ ((mcOf s m).state = .acquiring ∨ (mcOf s m).state = .locked)
      then fallBack (spareMissing s m) m else spareMissing s m := by
  unfold synNoSpare
  dsimp only
  rw [if_pos ⟨coasts, own, passed, by rw [noSpare]; rfl, by rw [alone]; rfl, by rw [first]; rfl⟩, mcOf_raise, mcOf_setSy,
    ← spareMissing, fb_spareMissing hm, mcMirrors_spareMissing, mcOf_spareMissing]
  by_cases steered : fb s .MC_CTRL_SW m = true ∨ mcMirrors s = true
  · rw [if_pos steered, if_neg]
    rintro ⟨sw, mirrors, -⟩
    rw [sw, mirrors] at steered
    exact absurd steered (by decide)
  · obtain ⟨sw, mirrors⟩ := not_or.1 steered
    rw [if_neg steered]
    split
    next acquiring => exact (if_pos ⟨Bool.eq_false_iff.2 sw, Bool.eq_false_iff.2 mirrors, .inl acquiring⟩).symm
    next locked => exact (if_pos ⟨Bool.eq_false_iff.2 sw, Bool.eq_false_iff.2 mirrors, .inr locked⟩).symm
    next notAcquiring notLocked => exact (if_neg fun ⟨_, _, st⟩ => st.elim notAcquiring notLocked).symm

/-! ## Hand-over to the spare (R257 to R260) -/

/-- The spare in HANDOVER for a media clock, in a band that the model leaves free. -/
def spareTaken (s : State) (m : Nat) : State := { setSy s (spareOf s) { syOf s (spareOf s) with
  state := .handover, mc := m, retest := false, fails := 0, band := (Config.synBand s.freeCtr).toNat } with
    freeCtr := s.freeCtr + 1 }

theorem near_spareTaken (s : State) (m : Nat) : Near s (spareTaken s m) := Near.of_eq rfl rfl

theorem handoverStart_needed (needed : handoverFor s = some m) (free : spareFree s = true) :
    handoverStart s = spareTaken s m := by
  unfold handoverStart
  rw [needed]
  exact if_pos free

/-- The media clock of the spare, carried on, runs on the spare, and the synthesizer that served it is tested. -/
def spareLive (s : State) : State :=
  let y := syOf s (spareOf s)
  setSy (setSy (mcRunOn s y.mc) (serves s y.mc) { syOf s (serves s y.mc) with
    state := .test, tryAt := none, noSpare := false, fails := 0, retest := false }) (spareOf s) { y with state := .live, pherr := 0 }

theorem near_spareLive (s : State) : Near s (spareLive s) :=
  ((near_mcRunOn s _).trans (near_setSy _ _ _)).trans (near_setSy _ _ _)

theorem handoverSwitch_coasting (handover : (syOf s (spareOf s)).state = .handover)
    (coasts : (syOf s (serves s (syOf s (spareOf s)).mc)).state = .coast) : handoverSwitch s =
      mcRelocked (raise (setMc (spareLive s) (syOf s (spareOf s)).mc
        { mcOf (mcRunOn s (syOf s (spareOf s)).mc) (syOf s (spareOf s)).mc with removing := true }) .SYN_EVENT 4)
        (syOf s (spareOf s)).mc := by
  unfold handoverSwitch
  dsimp only
  rw [if_pos ⟨handover, coasts⟩, syOf_mcRunOn, mcOf_setSy, mcOf_setSy]
  rfl

/-! ## Tests (R259) -/

section
variable {dev : Option Int} {band : Nat} (test : (syOf s k).state = .test)
include test

theorem synTestDone_passed (good : counterMet dev = true) : synTestDone s k dev band =
    setSy s k { syOf s k with state := .free, fails := 0, lastTest := s.now, retest := false, band := band } :=
  (if_pos test).trans (if_pos good)

theorem synTestDone_again (bad : counterMet dev ≠ true) (early : (syOf s k).fails < 2) : synTestDone s k dev band =
    setSy s k { syOf s k with fails := (syOf s k).fails + 1, band := band } :=
  (if_pos test).trans ((if_neg bad).trans (if_pos early))

end

/-! ## A block that is not held (R454) -/

theorem synRun_free {f : State → State} (free : held s 4 = false) : synRun s f = f s := if_neg (Bool.eq_false_iff.1 free)

end

/-- Settles O33: each command acts as its row of Table 11-4 says where its condition holds, and else leaves the state. -/
theorem synthesizersHandOver : Obligations.SynthesizersHandOver := by
  intro s hc spare y
  have runs {f : State → State} {t : State} (e : f s = t) (near : Near s t) : run s f = .next t := run_near e hc near
  refine ⟨fun k edge errs => ?_, fun m => ?_, fun free => ⟨fun k => ⟨?_, fun errs => ?_, fun dev band test => ?_, ?_⟩,
    fun m needed unused => ?_, fun handover coasts => ?_, ?_⟩⟩
  · refine ⟨fun live lost => ?_, fun kept => ?_⟩
    · exact runs (f := fun s => synLoss s k edge errs) (if_pos ⟨live, lolMet_iff.2 lost⟩)
        ((near_setSy s k _).trans (near_synEvent _ 1))
    · exact runs (f := fun s => synLoss s k edge errs)
        (if_neg fun ⟨live, lost⟩ => kept.elim (· live) (· (lolMet_iff.1 lost))) (.refl s)
  · intro k x coasts own passed noSpare alone first t
    have near : Near s t := near_spareMissing s m
    exact runs (f := fun s => synNoSpare s m) (synNoSpare_due m.isLt coasts own passed noSpare alone first)
      (near_ite (near.trans (near_fallBack t m)) near)
  · exact run_near_where (f := fun s => synRun s fun s => synTry s k) ((synRun_free free).trans (synTry_eq s k)) hc
      (near_setSy s k _)
  · refine ⟨fun t tried coasts phase inTime locked => ?_, fun unlocked => ?_⟩
    · have relocks := synRelock_locked tried coasts phase inTime (lockMet_iff.2 locked)
      exact runs (f := fun s => synRun s fun s => synRelock s k errs) ((synRun_free free).trans relocks)
        ((((near_mcRunOn s _).trans (near_setSy _ k _)).trans (near_synEvent _ 2)).trans (near_mcRelocked _ _))
    · have stays := synRelock_unlocked (k := k) (mt lockMet_iff.1 unlocked)
      exact runs (f := fun s => synRun s fun s => synRelock s k errs) ((synRun_free free).trans stays) (.refl s)
  · have tested {t : State} (e : synTestDone s k dev band = t) (near : Near s t) : exec (.synTestDone k dev band) s = .next t :=
      runs (f := fun s => synRun s fun s => synTestDone s k dev band) ((synRun_free free).trans e) near
    refine ⟨fun good => ?_, fun bad early => ?_⟩
    · exact tested (synTestDone_passed test (counterMet_iff.2 good)) (near_setSy s k _)
    · exact tested (synTestDone_again test (mt counterMet_iff.1 bad) early) (near_setSy s k _)
  · exact run_near_where (f := fun s => synRun s fun s => synRetest s k) (synRun_free free) hc (near_setSy s k _)
  · exact runs (f := fun s => synRun s handoverStart) ((synRun_free free).trans (handoverStart_needed needed unused))
      (near_spareTaken s m)
  · exact runs (f := fun s => synRun s handoverSwitch) ((synRun_free free).trans (handoverSwitch_coasting handover coasts))
      ((((near_spareLive s).trans (near_setMc _ _ _)).trans (near_synEvent _ 4)).trans (near_mcRelocked _ _))
  · exact run_near_where (f := fun s => synRun s handoverFail) (synRun_free free) hc (near_setSy s spare _)

end Sys2Proof.Machine
end

section
/-! Redundant pair: the witness never grants both units (R419). -/

namespace Sys2Proof.Machine

/-- No command leaves the witness granting both units: its meaning does not. -/
theorem exec_grant {s next : State} (hs : oneGrant s.wit = true) :
    (c : Instr) → exec c s = .next next → oneGrant next.wit = true
  | .stitchBoundary env, he => execStitchBoundary_grant env hs he
  | .rampEnd, he => execRampEnd_grant hs he
  | .naRelease k, he => execNaRelease_grant k hs he
  | .meterHoldExpire m, he => execMeterHoldExpire_grant m hs he
  | .voxOn k, he => execVoxOn_grant k hs he
  | .voxOff k, he => execVoxOff_grant k hs he
  | .audioStart, he => execAudioStart_grant hs he
  | .heartbeatSend workDone, he => execHeartbeatSend_grant workDone hs he
  | .fence m, he => execFence_grant m hs he
  | .admissionDecide, he => execAdmissionDecide_grant hs he
  | .vcoreSettled, he => execVcoreSettled_grant hs he
  | .vcoreConfirmed, he => execVcoreConfirmed_grant hs he
  | .vcoreHoldExpire, he => execVcoreHoldExpire_grant hs he
  | .vcoreStepDown, he => execVcoreStepDown_grant hs he
  | .fabVcapWrite v be, he => execFabVcapWrite_grant v be hs he
  | .fabReserve0Write v be, h => execFabReserve0Write_grant v be hs h
  | .clrSlack, he => execClrSlack_grant hs he
  | .fabClrCounts, he => execFabClrCounts_grant hs he
  | .bsCmdOpen k, he => execBsCmdOpen_grant k hs he
  | .bsCmdAdd k, he => execBsCmdAdd_grant k hs he
  | .bsCmdCommit k, he => execBsCmdCommit_grant k hs he
  | .bsCmdAbort k, he => execBsCmdAbort_grant k hs he
  | .hemClr, he => execHemClr_grant hs he
  | .clrHold, he => execClrHold_grant hs he
  | .clrClip, he => execClrClip_grant hs he
  | .meterEn, he => execMeterEn_grant hs he
  | .meterDis, he => execMeterDis_grant hs he
  | .voxEn, he => execVoxEn_grant hs he
  | .voxDis, he => execVoxDis_grant hs he
  | .seamEn, he => execSeamEn_grant hs he
  | .seamDis, he => execSeamDis_grant hs he
  | .scEn, he => execScEn_grant hs he
  | .scDis, he => execScDis_grant hs he
  | .clrSlips, he => execClrSlips_grant hs he
  | .seamTrainEnd m, he => execSeamTrainEnd_grant m hs he
  | .seamReanchor x, he => execSeamReanchor_grant x hs he
  | .seamInputStop m, he => execSeamInputStop_grant m hs he
  | .seamRatioMeasured m ratio, he => execSeamRatioMeasured_grant m ratio hs he
  | .seamRangeRecover m, he => execSeamRangeRecover_grant m hs he
  | .laneFrameStart g f, he => execLaneFrameStart_grant g f hs he
  | .cgStop g, he => execCgStop_grant g hs he
  | .cgAnchor g, he => execCgAnchor_grant g hs he
  | .cgRateSettled g, he => execCgRateSettled_grant g hs he
  | .cgStopDone g, he => execCgStopDone_grant g hs he
  | .cgEnWrite g v be, he => execCgEnWrite_grant g v be hs he
  | .cgClrCounts g, he => execCgClrCounts_grant g hs he
  | .hostClrCounts, he => execHostClrCounts_grant hs he
  | .slotMapWrite lane slot v be, he => execSlotMapWrite_grant lane slot v be hs he
  | .hostMapWrite c v be, he => execHostMapWrite_grant c v be hs he
  | .txChannelMapWrite t c v be, he => execTxChannelMapWrite_grant t c v be hs he
  | .portEnWrite n v be, he => execPortEnWrite_grant n v be hs he
  | .linkUp n kx fec, he => execLinkUp_grant n kx fec hs he
  | .negotiationFault n fault, he => execNegotiationFault_grant n fault hs he
  | .linkDown n, he => execLinkDown_grant n hs he
  | .frameIngress n f, he => execFrameIngress_grant n f hs he
  | .frameEgress n, he => execFrameEgress_grant n hs he
  | .macAgeOut, he => execMacAgeOut_grant hs he
  | .gateEntryChange n, he => execGateEntryChange_grant n hs he
  | .gateConfigTakeover n, he => execGateConfigTakeover_grant n hs he
  | .macAdd, he => execMacAdd_grant hs he
  | .macDel, he => execMacDel_grant hs he
  | .flushLearned, he => execFlushLearned_grant hs he
  | .portClrCounts n, he => execPortClrCounts_grant n hs he
  | .gateApply n, he => execGateApply_grant n hs he
  | .gateCancel n, he => execGateCancel_grant n hs he
  | .membershipReportSend, he => execMembershipReportSend_grant hs he
  | .packetReceive p, he => execPacketReceive_grant p hs he
  | .rxTimeout k, he => execRxTimeout_grant k hs he
  | .legLiveTimeout k legB, he => execLegLiveTimeout_grant k legB hs he
  | .txPacketStart t, he => execTxPacketStart_grant t hs he
  | .rxEn, he => execRxEn_grant hs he
  | .rxDis, he => execRxDis_grant hs he
  | .txEn, he => execTxEn_grant hs he
  | .txDis, he => execTxDis_grant hs he
  | .clrRx, he => execClrRx_grant hs he
  | .clrTx, he => execClrTx_grant hs he
  | .clrHank, he => execClrHank_grant hs he
  | .rxOffsetWrite k v be, he => execRxOffsetWrite_grant k v be hs he
  | .hankOffsetWrite h v be, he => execHankOffsetWrite_grant h v be hs he
  | .ptpMessageReceive k port msg, he => execPtpMessageReceive_grant k port msg hs he
  | .announceTimeout k, he => execAnnounceTimeout_grant k hs he
  | .ptpMasterSend k, he => execPtpMasterSend_grant k hs he
  | .pdelaySend n, he => execPdelaySend_grant n hs he
  | .persistExpire k, he => execPersistExpire_grant k hs he
  | .tbCtrlWrite k v be, he => execTbCtrlWrite_grant k v be hs he
  | .snap, he => execSnap_grant hs he
  | .tbClrCounts, he => execTbClrCounts_grant hs he
  | .refEdge k dev, he => execRefEdge_grant k dev hs he
  | .refSignalLoss k, he => execRefSignalLoss_grant k hs he
  | .qualWindowEnd k fofs, he => execQualWindowEnd_grant k fofs hs he
  | .qtimeExpire k, he => execQtimeExpire_grant k hs he
  | .tcxoFaultClear, he => execTcxoFaultClear_grant hs he
  | .wtrExpire m, he => execWtrExpire_grant m hs he
  | .mcLockAchieved m, he => execMcLockAchieved_grant m hs he
  | .holdoverLimit m, he => execHoldoverLimit_grant m hs he
  | .mcSwWrite m v be, he => execMcSwWrite_grant m v be hs he
  | .swFreqWrite m v be, he => execSwFreqWrite_grant m v be hs he
  | .swStep, he => execSwStep_grant hs he
  | .phaseStepDone m, he => execPhaseStepDone_grant m hs he
  | .relearn, he => execRelearn_grant hs he
  | .refClrCounts, he => execRefClrCounts_grant hs he
  | .synLossOfLock k atEdge pherr, he => execSynLossOfLock_grant k atEdge pherr hs he
  | .synRelockAttempt k, he => execSynRelockAttempt_grant k hs he
  | .noSpare m, he => execNoSpare_grant m hs he
  | .handoverStart, he => execHandoverStart_grant hs he
  | .handoverSwitchover, he => execHandoverSwitchover_grant hs he
  | .handoverFail, he => execHandoverFail_grant hs he
  | .synTestDone k pass band, he => execSynTestDone_grant k pass band hs he
  | .synRetestTimer k, he => execSynRetestTimer_grant k hs he
  | .retry, he => execRetry_grant hs he
  | .synTest, he => execSynTest_grant hs he
  | .synClrCounts, he => execSynClrCounts_grant hs he
  | .mckCfgWrite j v be, he => execMckCfgWrite_grant j v be hs he
  | .plsCfgWrite p v be, he => execPlsCfgWrite_grant p v be hs he
  | .plsOfsWrite p v be, he => execPlsOfsWrite_grant p v be hs he
  | .plsSourcePulse p err, he => execPlsSourcePulse_grant p err hs he
  | .plsOutputPulse p, he => execPlsOutputPulse_grant p hs he
  | .gpioEdge g level, he => execGpioEdge_grant g level hs he
  | .gpioDebounced g, he => execGpioDebounced_grant g hs he
  | .coReadback k a b, he => execCoReadback_grant k a b hs he
  | .coClr, he => execCoClr_grant hs he
  | .clrEdges, he => execClrEdges_grant hs he
  | .seWrite, he => execSeWrite_grant hs he
  | .seDel, he => execSeDel_grant hs he
  | .scheduleFire, he => execScheduleFire_grant hs he
  | .schedulePulseEnd g, he => execSchedulePulseEnd_grant g hs he
  | .gpOutWrite v be, he => execGpOutWrite_grant v be hs he
  | .coCfgWrite k v be, he => execCoCfgWrite_grant k v be hs he
  | .pOpen n v be, he => execPOpen_grant n v be hs he
  | .pData n w v be poison, he => execPData_grant n w v be poison hs he
  | .pEnd n v be, he => execPEnd_grant n v be hs he
  | .pEndAbort n, he => execPEndAbort_grant n hs he
  | .advance n k, he => execAdvance_grant n k hs he
  | .drop n, he => execDrop_grant n hs he
  | .mark n, he => execMark_grant n hs he
  | .rewind n, he => execRewind_grant n hs he
  | .consumerReadStall n off, he => execConsumerReadStall_grant n off hs he
  | .internalItemCommit n item, he => execInternalItemCommit_grant n item hs he
  | .flush, he => execFlush_grant hs he
  | .splClrCounts, he => execSplClrCounts_grant hs he
  | .spoolEnWrite n v be, he => execSpoolEnWrite_grant n v be hs he
  | .spoolResetDone n, he => execSpoolResetDone_grant n hs he
  | .eventAssert src, he => execEventAssert_grant src hs he
  | .moderationIntervalEnd g, he => execModerationIntervalEnd_grant g hs he
  | .holdoffEnd g, he => execHoldoffEnd_grant g hs he
  | .msixDeliver t, he => execMsixDeliver_grant t hs he
  | .tgtEoi t v be, he => execTgtEoi_grant t v be hs he
  | .force, he => execForce_grant hs he
  | .clrPend, he => execClrPend_grant hs he
  | .evCfgWrite src v be, he => execEvCfgWrite_grant src v be hs he
  | .tgtCtrlWrite t v be, he => execTgtCtrlWrite_grant t v be hs he
  | .pciePowerStateChange d l msix, he => execPciePowerStateChange_grant d l msix hs he
  | .hello c body, he => execHello_grant c body hs he
  | .proof c id body, he => execProof_grant c id body hs he
  | .challengeLapse, he => execChallengeLapse_grant hs he
  | .authBlockExpire, he => execAuthBlockExpire_grant hs he
  | .sessionIdleTimeout, he => execSessionIdleTimeout_grant hs he
  | .commandStart, he => execCommandStart_grant hs he
  | .replySend, he => execReplySend_grant hs he
  | .nop q, he => execNop_grant q hs he
  | .regRead q, he => execRegRead_grant q hs he
  | .regWrite q, he => execRegWrite_grant q hs he
  | .bsOpen q, he => execBsOpen_grant q hs he
  | .bsAdd q, he => execBsAdd_grant q hs he
  | .bsCommit q, he => execBsCommit_grant q hs he
  | .bsAbort q, he => execBsAbort_grant q hs he
  | .change q, he => execChange_grant q hs he
  | .schedWrite q, he => execSchedWrite_grant q hs he
  | .schedDel q, he => execSchedDel_grant q hs he
  | .enable q, he => execEnable_grant q hs he
  | .release q, he => execRelease_grant q hs he
  | .meterRead q, he => execMeterRead_grant q hs he
  | .subscribe q, he => execSubscribe_grant q hs he
  | .acceptStep q, he => execAcceptStep_grant q hs he
  | .imgBegin q, he => execImgBegin_grant q hs he
  | .imgData q, he => execImgData_grant q hs he
  | .imgEnd q, he => execImgEnd_grant q hs he
  | .imgAbort q, he => execImgAbort_grant q hs he
  | .cfgReset q, he => execCfgReset_grant q hs he
  | .fullReset q, he => execFullReset_grant q hs he
  | .close q, he => execClose_grant q hs he
  | .kill, he => execKill_grant hs he
  | .sesClrCounts, he => execSesClrCounts_grant hs he
  | .sesConfigWrite x v be, he => execSesConfigWrite_grant x v be hs he
  | .registerWrite bar2 off v be poison, he => execRegisterWrite_grant bar2 off v be poison hs he
  | .postedWriteApply, he => execPostedWriteApply_grant hs he
  | .scrubPass bad, he => execScrubPass_grant bad hs he
  | .lockHem, he => execLockHem_grant hs he
  | .lockCo, he => execLockCo_grant hs he
  | .lockVcap, he => execLockVcap_grant hs he
  | .lockRoles, he => execLockRoles_grant hs he
  | .lockKeys, he => execLockKeys_grant hs he
  | .clrWerr, he => execClrWerr_grant hs he
  | .glbResetFull, he => execGlbResetFull_grant hs he
  | .glbResetCfg, he => execGlbResetCfg_grant hs he
  | .cfgResetDecide loadMs, he => execCfgResetDecide_grant loadMs hs he
  | .powerOn, he => execPowerOn_grant hs he
  | .rstAssert, he => execRstAssert_grant hs he
  | .resetRelease env, he => execResetRelease_grant env hs he
  | .watchdogExpire, he => execWatchdogExpire_grant hs he
  | .perstAssert, he => execPerstAssert_grant hs he
  | .bareModeTimer, he => execBareModeTimer_grant hs he
  | .ejectDebounced, he => execEjectDebounced_grant hs he
  | .eject, he => execEject_grant hs he
  | .rescan, he => execRescan_grant hs he
  | .heartbeatReceive unitB bytes start, he => execHeartbeatReceive_grant unitB bytes start hs he
  | .witnessDecision, he => execWitnessDecision_grant hs he
  | .witnessFrameReceive bytes, he => execWitnessFrameReceive_grant bytes hs he
  | .outputGateUpdate, he => execOutputGateUpdate_grant hs he
  | .liningMessageReceive msg, he => execLiningMessageReceive_grant msg hs he
  | .liningDown lockLost, he => execLiningDown_grant lockLost hs he
  | .liningUp, he => execLiningUp_grant hs he
  | .joinStart, he => execJoinStart_grant hs he
  | .joinTimeout, he => execJoinTimeout_grant hs he
  | .reversionWtrExpire, he => execReversionWtrExpire_grant hs he
  | .claimTimeout, he => execClaimTimeout_grant hs he
  | .yieldTimeout, he => execYieldTimeout_grant hs he
  | .remirror, he => execRemirror_grant hs he
  | .relinquish, he => execRelinquish_grant hs he
  | .prClrCounts, he => execPrClrCounts_grant hs he
  | .prCfgWrite v be, he => execPrCfgWrite_grant v be hs he
  | .faultDetect code detail region, he => execFaultDetect_grant code detail region hs he
  | .quietLaneRelease, he => execQuietLaneRelease_grant hs he
  | .lockstepResetTimer, he => execLockstepResetTimer_grant hs he
  | .tempBarEnd, he => execTempBarEnd_grant hs he
  | .eccHourEnd ce, he => execEccHourEnd_grant ce hs he
  | .digestCompare ok, he => execDigestCompare_grant ok hs he
  | .clrLog, he => execClrLog_grant hs he
  | .safClrCounts, he => execSafClrCounts_grant hs he
  | .safInject v be, he => execSafInject_grant v be hs he
  | .oeAllowPinChange level, he => execOeAllowPinChange_grant level hs he
  | .pciePerstRelease, he => execPciePerstRelease_grant hs he
  | .tjRisesThroughTempWarn tj, he => execTjRisesThroughTempWarn_grant tj hs he
  | .rescanComplete, he => execRescanComplete_grant hs he
  | .arpRequestReceive q, he => execArpRequestReceive_grant q hs he
  | .membershipQueryReceive q, he => execMembershipQueryReceive_grant q hs he
  | .pdelayReqReceive n msg, he => execPdelayReqReceive_grant n msg hs he
  | .malformedMessage c bytes, he => execMalformedMessage_grant c bytes hs he
  | .inPlaceRelock x, he => execInPlaceRelock_grant x hs he

/-- Settles O55: a nanosecond leaves the witness alone, and no command leaves it granting both units. -/
theorem stepKeepsOneGrant : Obligations.StepKeepsOneGrant := by
  intro s t hs h
  unfold step at h
  split at h
  · cases h
    exact oneGrant_eq (tick_wit s) hs
  · rename_i c rest _
    exact exec_grant (s := { s with pending := rest }) hs c h

/-- Settles O56: a witness that has just been reset drives neither line. -/
theorem noGrantAfterReset : Obligations.NoGrantAfterReset := ⟨rfl, rfl, rfl⟩

end Sys2Proof.Machine
end

section
/-! The register interface: the map (R355, R356) and the locks (R374). -/

namespace Sys2Proof.Machine

/-! ## Addresses of the map (O60) -/

/-- The registers lie in the 4 MiB of BAR0 (Table 16-1). -/
theorem Desc.last_lt (r : Reg) : (desc r).last < 2 ^ 22 := by cases r <;> decide

theorem addr_lt (r : Reg) {i j : Nat} (hi : i < (desc r).n1) (hj : j < (desc r).n2) : addr r i j < 2 ^ 22 :=
  Nat.lt_of_le_of_lt (Desc.entry_le_last hi hj) (Desc.last_lt r)

/-- An address at which a register is found is a multiple of 4. -/
theorem findReg_aligned {off : Nat} {e : Reg × Nat × Nat} (h : findReg off = some e) : off % 4 = 0 := by
  unfold findReg at h
  split at h
  · assumption
  · cases h

/-- An address that is no entry's is refused (R356). -/
theorem writeCode_reserved {off : Nat} (h : findReg off = none) (o : Origin) (s : State) (v : Word) :
    writeCode o s off v = .access := by
  unfold writeCode
  rw [h]

/-- Settles O60: the lookup inverts the address, so entries with one address are one entry. -/
theorem registersShareNoAddress : Obligations.RegistersShareNoAddress := by
  refine ⟨fun r i j hi hj => ?_, fun r q i j k l hi hj hk hl same => ?_, fun o s off v h => writeCode_reserved h o s v⟩
  · exact ⟨findReg_addr r hi hj, findReg_aligned (findReg_addr r hi hj), addr_lt r hi hj⟩
  · have found := findReg_addr r hi hj
    rw [same, findReg_addr q hk hl] at found
    cases found
    exact ⟨rfl, rfl, rfl⟩

/-! ## Locks (O13) -/

/-- Of a unit that is alone, a lock bit is set at once and reported when it is new. -/
theorem lockBits_alone {s : State} {bits : Nat} (alone : isPair s = false) (some_ : bits ≠ 0) : lockBits s bits =
    if s.glb.locks ||| bits = s.glb.locks then s
    else raise (s.setGlb fun g => { g with locks := g.locks ||| bits }) .GLB_EVENT 4 := by
  unfold lockBits
  rw [if_neg some_, if_neg (by rw [alone]; simp)]

/-- Setting locks leaves nothing over. -/
theorem calm_locked {s : State} (h : calm s = true) (bits : Nat) :
    calm (raise (s.setGlb fun g => { g with locks := g.locks ||| bits }) .GLB_EVENT 4) = true :=
  calm_raise (calm_setGlb h ⟨rfl, rfl⟩) 4 (by decide)

/-- An accepted lock command: the bits of GLB_CMD from 4 on are those of LOCKS. -/
theorem run_lock {s : State} {v : Word} {bits : Nat} (hc : calm s = true) (ha : Accepted s .GLB_CMD 0 0 v)
    (noClear : bit v 0 = false) (locks : fld v 4 5 = bits) (some_ : bits ≠ 0) :
    run s (fun s => regWrite s .GLB_CMD 0 0 v 15) = .next (
      if s.glb.locks ||| bits = s.glb.locks then noted s .GLB_CMD 0 0
      else raise ((noted s .GLB_CMD 0 0).setGlb fun g => { g with locks := g.locks ||| bits }) .GLB_EVENT 4) := by
  have hn := calm_noted hc .GLB_CMD 0 0
  have e : blockWrite (noted s .GLB_CMD 0 0) .GLB_CMD 0 0 v = lockBits (noted s .GLB_CMD 0 0) bits := by
    rw [blockWrite_entry _ .GLB_CMD v rfl (by decide) (by decide)]
    show lockBits (onBit v 0 _ clrWerr) (fld v 4 5) = _
    rw [locks, onBit, if_neg (by rw [noClear]; simp)]
  rw [lockBits_alone (calm_alone hn) some_] at e
  refine run_entry .GLB_CMD (by decide) (by decide) ha e ?_ ?_ ?_ <;> split
  · exact hn
  · exact calm_locked hn bits
  · rfl
  · rw [raise_now]; rfl
  · rfl
  · rw [raise_pending]; rfl

/-- Settles O13: each lock command is a write of GLB_CMD with the bit of its lock. -/
theorem locksSet : Obligations.LocksSet := by
  intro s hc n locked
  refine ⟨fun ha => ?_, fun ha => ?_, fun ha => ?_, fun ha => ?_, fun ha => ?_⟩
  · exact run_lock hc ha (by decide) (by decide) (by decide)
  · exact run_lock hc ha (by decide) (by decide) (by decide)
  · exact run_lock hc ha (by decide) (by decide) (by decide)
  · exact run_lock hc ha (by decide) (by decide) (by decide)
  · exact run_lock hc ha (by decide) (by decide) (by decide)

end Sys2Proof.Machine
end

section
/-! GPIO inputs (R272, R273). -/

namespace Sys2Proof.Machine

/-! ## The debounced level of a pin (O35) -/

theorem near_setPin (s : State) (g : Nat) (x : Pin) : Near s (setPin s g x) := near_setCio s _

theorem near_cioEvent (s : State) (b : Nat) : Near s (raise s .CIO_EVENT b) :=
  near_raise s b (by decide) (by decide) (by decide)

theorem pinOf_setPin (s : State) (g : Nat) (x : Pin) : pinOf (setPin s g x) g = x := Tbl.getD_put_self _ _ _ _

theorem setPin_setPin (s : State) (g : Nat) (x y : Pin) : setPin (setPin s g x) g y = setPin s g y := by
  show { s with cio := { s.cio with pins := Tbl.put (Tbl.put s.cio.pins g x) g y } } = _
  rw [Tbl.put_put]; rfl

/-- A pin whose debounced level takes the raw one of `y`. -/
def pinFollows (s : State) (g : Nat) (y : Pin) : State :=
  if fv s .GP_CFG_EDGE g = 3 ∨ fv s .GP_CFG_EDGE g = 1 ∧ y.raw = true ∨ fv s .GP_CFG_EDGE g = 2 ∧ y.raw = false then
    raise (setPin s g { y with deb := y.raw, tack := y.rawTack, edges := satInc 0xFFFF y.edges }) .CIO_EVENT 1
  else setPin s g { y with deb := y.raw }

theorem near_pinFollows (s : State) (g : Nat) (y : Pin) : Near s (pinFollows s g y) :=
  near_ite ((near_setPin s g _).trans (near_cioEvent _ 1)) (near_setPin s g _)

theorem takeLevel_same {s : State} {g : Nat} (h : (pinOf s g).deb = (pinOf s g).raw) : takeLevel s g = s := if_pos h

theorem takeLevel_changes {s : State} {g : Nat} (h : (pinOf s g).deb ≠ (pinOf s g).raw) :
    takeLevel s g = pinFollows s g (pinOf s g) := by
  unfold takeLevel pinFollows
  dsimp only
  rw [if_neg h]
  simp only [Bool.or_eq_true, Bool.and_eq_true, beq_iff_eq, Bool.not_eq_true', or_assoc]

/-- A pin that has just been put follows as one that was there before. -/
theorem takeLevel_setPin {s : State} {g : Nat} {y : Pin} (h : y.deb ≠ y.raw) :
    takeLevel (setPin s g y) g = pinFollows s g y := by
  rw [takeLevel_changes (by rw [pinOf_setPin]; exact h), pinOf_setPin]
  unfold pinFollows
  rw [setPin_setPin, setPin_setPin]
  rfl

section
variable {s : State} {g : Nat} {level : Bool}

/-- The raw level of a pin at an edge, with its instant and its tack (R273). -/
def edgeAt (s : State) (g : Nat) (level : Bool) : Pin :=
  { pinOf s g with raw := level, rawAt := s.now, rawTack := tack s (fv s .GP_CFG_TB g) / 8 * 8 }

theorem gpioEdge_same (h : (pinOf s g).raw = level) : gpioEdge s g level = s := if_pos h

theorem gpioEdge_at_once (h : (pinOf s g).raw ≠ level) (deb : fv s .GP_CFG_DEB g = 0) :
    gpioEdge s g level = takeLevel (setPin s g (edgeAt s g level)) g := by
  unfold gpioEdge
  dsimp only
  rw [if_neg h]
  exact if_pos deb

theorem gpioEdge_waits (h : (pinOf s g).raw ≠ level) (deb : fv s .GP_CFG_DEB g ≠ 0) :
    gpioEdge s g level = setPin s g (edgeAt s g level) := by
  unfold gpioEdge
  dsimp only
  rw [if_neg h]
  exact if_neg deb

theorem gpioDebounced_early (h : s.now < (pinOf s g).rawAt + 1000000 * fv s .GP_CFG_DEB g ∨ (pinOf s g).deb = (pinOf s g).raw) :
    gpioDebounced s g = s := by
  unfold gpioDebounced
  rcases h with early | same
  · exact if_neg (Nat.not_le.2 early)
  · rw [takeLevel_same same, ite_self]

theorem gpioDebounced_due (h : (pinOf s g).rawAt + 1000000 * fv s .GP_CFG_DEB g ≤ s.now)
    (differs : (pinOf s g).deb ≠ (pinOf s g).raw) : gpioDebounced s g = pinFollows s g (pinOf s g) := by
  unfold gpioDebounced
  rw [if_pos h, takeLevel_changes differs]

end

/-- Settles O35: an edge is noted, and the debounced level follows it at once or when the raw level has held. -/
theorem debouncedEdgesTimed : Obligations.DebouncedEdgesTimed := by
  intro s g hc x edge follow
  have follows {y : Pin} (h : y.deb ≠ y.raw) : follow s y = pinFollows s g y := if_neg h
  refine ⟨fun level => ⟨fun same => ?_, fun moves deb => ?_, fun moves deb => ?_⟩, fun stays => ?_, fun due differs => ?_⟩
  · exact run_near (f := fun s => gpioEdge s g level) (gpioEdge_same same) hc (.refl s)
  · have e := gpioEdge_at_once moves deb
    let y := edgeAt s g level
    by_cases same : y.deb = y.raw
    · have stays : takeLevel (setPin s g y) g = setPin s g y := takeLevel_same (by rw [pinOf_setPin]; exact same)
      exact run_near (f := fun s => gpioEdge s g level) ((e.trans stays).trans (if_pos same).symm) hc
        (near_ite (near_setPin s g y) (near_pinFollows s g y))
    · exact run_near (f := fun s => gpioEdge s g level) ((e.trans (takeLevel_setPin same)).trans (follows same).symm) hc
        (near_ite (near_setPin s g y) (near_pinFollows s g y))
  · exact run_near (f := fun s => gpioEdge s g level) (gpioEdge_waits moves deb) hc (near_setPin s g _)
  · exact run_near (f := fun s => gpioDebounced s g) (gpioDebounced_early stays) hc (.refl s)
  · rw [follows differs]
    exact run_near (f := fun s => gpioDebounced s g) (gpioDebounced_due due differs) hc (near_pinFollows s g x)

end Sys2Proof.Machine
end

section
/-! Spools: host operations on the windows, internal ends, flush and reset (spec/13). -/

namespace Sys2Proof.Machine

/-! ## Operations on a spool window (R297, R364) -/

section
variable {s t : State} {n off : Nat} {v : Word} {poison : Bool}

/-- A write of an open window reaches the operation at its offset. -/
theorem writeWindow_open (opens : windowsOpen s = true) (hn : n < 4096) (hoff : off < 4096) (field : windowField off = true)
    (noFlags : off ≠ 4 ∧ off ≠ 0x18) : writeWindow s (4096 * n + off) v poison = windowWrite s n off v poison := by
  simp only [windowsOpen, Bool.and_eq_true, Bool.not_eq_true', bne_iff_ne] at opens
  obtain ⟨⟨⟨active, notBare⟩, notQuiet⟩, unit⟩ := opens
  have eo : (4096 * n + off) % 4096 = off := by omega
  have en : (4096 * n + off) / 4096 = n := by omega
  unfold writeWindow
  simp only [eo, en]
  rw [if_neg (by rw [field]; simp; omega), if_neg (by rw [active]; simp), if_neg fun q => by omega,
    if_neg (by simp [notBare, notQuiet, unit])]

/-- An operation in a window that answers OK is reported in REG_WSTATUS. -/
theorem windowOp_ok (opens : windowsOpen s = true) (hn : n < 4096) (hoff : off < 4096) (field : windowField off = true)
    (noFlags : off ≠ 4 ∧ off ≠ 0x18) (e : windowWrite s n off v poison = (.ok, t)) :
    windowOp s n off v 15 poison = notedWindow t n off := by
  unfold windowOp pcieWrite
  rw [if_neg (by decide), if_neg (by decide), writeWindow_open opens hn hoff field noFlags, e]
  rfl

/-- A window operation of a calm module whose effect leaves nothing over. -/
theorem run_window (hc : calm s = true) (opens : windowsOpen s = true) (hn : n < 4096) (hoff : off < 4096)
    (field : windowField off = true) (noFlags : off ≠ 4 ∧ off ≠ 0x18) (e : windowWrite s n off v poison = (.ok, t))
    (near : Near s t) : run s (fun s => windowOp s n off v 15 poison) = .next (notedWindow t n off) :=
  run_is (windowOp_ok opens hn hoff field noFlags e) (calm_setGlb (near.calm hc) ⟨rfl, rfl⟩) near.now near.pending

theorem windowsOpen_active (opens : windowsOpen s = true) : s.glb.passive = false := by
  simp only [windowsOpen, Bool.and_eq_true, Bool.not_eq_true'] at opens
  exact opens.1.1.1

/-! ### Which operation an offset is (Table 13-2) -/

theorem windowWrite_cCmd (active : s.glb.passive = false) : windowWrite s n 8 v poison = cCmd s n v := by
  unfold windowWrite
  rw [if_neg (by rw [active]; simp)]; rfl

theorem windowWrite_pOpen (active : s.glb.passive = false) : windowWrite s n 0x10 v poison = pOpen s n v := by
  unfold windowWrite
  rw [if_neg (by rw [active]; simp)]; rfl

theorem windowWrite_pEnd (active : s.glb.passive = false) : windowWrite s n 0x14 v poison = pEndWrite s n v := by
  unfold windowWrite
  rw [if_neg (by rw [active]; simp)]; rfl

theorem windowWrite_pData (active : s.glb.passive = false) (h : 0x400 ≤ off) (h' : off < 0x800) :
    windowWrite s n off v poison = pData s n v poison := by
  unfold windowWrite
  rw [if_neg (by rw [active]; simp), if_neg (by omega), if_neg (by omega), if_neg (by omega), if_neg (by omega),
    if_neg (by omega), if_pos ⟨h, h'⟩]

end

/-! ## Producer operations (R298) -/

section
variable {s : State} {n : Nat} {v : Word} {poison : Bool}

theorem pOpen_opens {y : Spool} (host : hostProd s n = true) (zero : fld v 0 16 = 0) (none_ : (spOf s n).openItem = none)
    (room : makeRoom s n (spOf s n) 1 = some y) : pOpen s n v =
      (.ok, putSpool s n { y with openItem := some { tag := fld v 16 16, tack := tack s (fv s .SP_W0_TB n) } }) := by
  unfold pOpen
  dsimp only
  rw [if_neg (by simp [zero]), if_neg (by simp [host, none_]), room]

/-- The open item with one word more, its poison tag kept. -/
def OpenItem.append (o : OpenItem) (v : Word) (poison : Bool) : OpenItem := { o with
  words := o.words ++ [v], poison := if poison then o.poison ++ [o.words.length + 4] else o.poison }

section
variable {o : OpenItem} (host : hostProd s n = true) (open_ : (spOf s n).openItem = some o) (short : o.words.length < 16384)
include host open_ short

theorem pData_eq : pData s n v poison =
    let more := (o.append v poison).cells - o.cells
    if o.cut ∧ (makeRoom s n (spOf s n) more).isNone then (.ok, s)
    else match makeRoom s n (spOf s n) more with
      | some y => (.ok, putSpool s n { y with openItem := some (o.append v poison) })
      | none => (.noCapacity, s) := by
  unfold pData
  dsimp only
  rw [if_neg (by simp [host]), open_]
  exact if_neg (by omega)

theorem pData_appends {y : Spool} (room : makeRoom s n (spOf s n) ((o.append v poison).cells - o.cells) = some y) :
    pData s n v poison = (.ok, putSpool s n { y with openItem := some (o.append v poison) }) := by
  rw [pData_eq host open_ short]
  dsimp only
  rw [room]
  exact if_neg (by simp)

theorem pData_drops (cut : o.cut = true)
    (full : makeRoom s n (spOf s n) ((o.append v poison).cells - o.cells) = none) : pData s n v poison = (.ok, s) := by
  rw [pData_eq host open_ short]
  dsimp only
  rw [full]
  exact if_pos ⟨cut, rfl⟩

end

/-- The spool after P_END: a cut item is freed, any other one committed (R298, R305). -/
def Spool.ended (x : Spool) (s : State) (n : Nat) (o : OpenItem) (pad : Nat) : Spool :=
  if o.cut then { x with openItem := none }
  else Spool.commit { x with openItem := none } o.tag (fv s .SP_W0_TB n) n o.tack (4 * o.words.length - pad)
    (zeroPad pad o.words) o.poison (arrival s)

theorem pEndWrite_ends {o : OpenItem} (host : hostProd s n = true) (open_ : (spOf s n).openItem = some o)
    (zero : fld v 2 30 = 0) (hpad : fld v 0 2 ≠ 0 → o.words.length ≠ 0) (fits : 4 * o.words.length - fld v 0 2 ≤ 65535) :
    pEndWrite s n v = (.ok, answerStalled (putSpool s n ((spOf s n).ended s n o (fld v 0 2))) n) := by
  have low : fld v 2 29 = 0 ∧ bit v 31 = false := by
    simp only [bit, fld, beq_eq_false_iff_ne] at zero ⊢
    omega
  unfold pEndWrite
  rw [if_neg (by simp [low.1, low.2]), if_neg (by simp [low.2])]
  unfold pEnd openWords
  dsimp only
  rw [open_]
  dsimp only
  rw [if_neg (by rintro (⟨hp, hk⟩ | h) <;> [exact hpad hp hk; omega]), if_neg (by simp [host])]
  rfl

theorem pEndWrite_aborts (host : hostProd s n = true) (open_ : (spOf s n).openItem.isSome = true) :
    pEndWrite s n (word (2 ^ 31)) = (.ok, putSpool s n { spOf s n with openItem := none }) := by
  have e : pEndWrite s n (word (2 ^ 31)) = pAbort s n := by
    unfold pEndWrite
    rw [if_neg (by decide), if_pos (by decide)]
  rw [e]
  unfold pAbort
  exact if_neg (by simp [host, Option.isSome_iff_ne_none.1 open_])

theorem near_ended (s : State) (n : Nat) (x : Spool) : Near s (answerStalled (putSpool s n x) n) :=
  (near_putSpool s n x).trans (near_answerStalled _ n)

/-! ## Room (R294, R295, R303) -/

theorem makeRoom_some {x y : Spool} {more : Nat} (h : makeRoom s n x more = some y) :
    roomFor s n y more = true ∧ (fb s .SP_W0_REPLAY n = false → y = x) := by
  unfold makeRoom at h
  rw [Option.ite_none_right_eq_some] at h
  obtain ⟨room, e⟩ := h
  obtain rfl := Option.some.inj e
  exact ⟨room, fun plain => if_neg (by rw [plain]; decide)⟩

/-! ## Internal producers (R295) -/

section
variable {it : NewItem} (on : fb s .SP_W0_EN n = true) (ready : (spOf s n).resetting = false) (fits : it.body.length ≤ 65535)
include on ready fits

theorem internalCommit_eq : internalCommit s n it =
    match makeRoom s n (spOf s n) (cellsOf (wordsOf it.body).length) with
    | some y => (answerStalled (putSpool s n
        (y.commit it.tag it.tb n it.tack it.body.length (wordsOf it.body) it.poison (arrival s))) n, true)
    | none => (raise (setSp s n { spOf s n with drops := satInc 0xFF (spOf s n).drops }) .SPL_EVENT 2, false) := by
  unfold internalCommit
  exact if_neg (by simp [on, ready]; omega)

theorem producerCommit_commits {y : Spool} (own : internalProd s n = true)
    (room : makeRoom s n (spOf s n) (cellsOf (wordsOf it.body).length) = some y) : producerCommit s n it =
      answerStalled (putSpool s n (y.commit it.tag it.tb n it.tack it.body.length (wordsOf it.body) it.poison (arrival s))) n := by
  unfold producerCommit
  rw [if_pos own, internalCommit_eq on ready fits, room]

theorem producerCommit_drops (own : internalProd s n = true)
    (full : makeRoom s n (spOf s n) (cellsOf (wordsOf it.body).length) = none) : producerCommit s n it =
      raise (setSp s n { spOf s n with drops := satInc 0xFF (spOf s n).drops }) .SPL_EVENT 2 := by
  unfold producerCommit
  rw [if_pos own, internalCommit_eq on ready fits, full]

end

theorem producerCommit_foreign {it : NewItem} (h : internalProd s n = false) : producerCommit s n it = s :=
  if_neg (by rw [h]; decide)

/-! ## What a commit adds, and what putting a spool back changes -/

/-- The words of a committed item have their parity (R306). -/
theorem Item.withParity_parity (i : Item) {w : Nat} (h : w < i.withParity.total) :
    i.withParity.parity[w]? = some (parityOf (i.withParity.at_ w)) := by
  show ((List.range i.total).map fun w => parityOf (i.at_ w))[w]? = _
  rw [List.getElem?_map, List.getElem?_range (show w < i.total from h)]
  rfl

/-- Putting a spool back changes the spools, the watch of the store, and flags. -/
theorem putSpool_frame (s : State) (n : Nat) (x : Spool) : putSpool s n x = { s with
    rf := (putSpool s n x).rf, evt := (putSpool s n x).evt
    spl := { s.spl with spools := (putSpool s n x).spl.spools, armed := (putSpool s n x).spl.armed } } := by
  have watch (t : State) : storeWatch t = { t with
      rf := (storeWatch t).rf, evt := (storeWatch t).evt, spl := { t.spl with armed := (storeWatch t).spl.armed } } := by
    unfold storeWatch
    dsimp only
    split
    · obtain ⟨rf, evt, e, -⟩ := raise_eq (t.setSpl fun y => { y with armed := false }) .SPL_EVENT 1 0
      rw [e]; rfl
    · split <;> rfl
  unfold putSpool
  dsimp only
  rw [watch]
  split
  · rw [(hitSource_flagged _ _).1]; rfl
  · rfl

end

/-- Settles O37: each operation reaches its function in the window, whose branches are the clauses. -/
theorem itemsProduced : Obligations.ItemsProduced := by
  intro s n v hc x
  have internal {it : NewItem} {t : State} (e : producerCommit s n it = t) (near : Near s t) :
      exec (.internalItemCommit n it) s = .next t := run_near (f := fun s => producerCommit s n it) e hc near
  refine ⟨fun opens host => ⟨fun y zero none_ room => ?_, fun o i poison open_ short => ⟨fun y room => ?_, fun cut full => ?_⟩,
      fun o open_ zero hpad fits => ?_, fun open_ => ?_⟩, fun it => ⟨fun foreign => ?_, fun own on ready fits => ⟨fun y hy => ?_, fun hn => ?_⟩⟩,
    fun y tag tb src at_ len words poison => ?_, fun more y h => makeRoom_some h, fun y => ?_⟩
  · exact run_window hc opens n.isLt (by decide) (by decide) (by decide)
      ((windowWrite_pOpen (windowsOpen_active opens)).trans (pOpen_opens host zero none_ room)) (near_putSpool s n _)
  · exact run_window hc opens n.isLt (by omega) (by simp [windowField]; omega) (by omega)
      ((windowWrite_pData (windowsOpen_active opens) (by omega) (by omega)).trans (pData_appends host open_ short room)) (near_putSpool s n _)
  · exact run_window hc opens n.isLt (by omega) (by simp [windowField]; omega) (by omega)
      ((windowWrite_pData (windowsOpen_active opens) (by omega) (by omega)).trans (pData_drops host open_ short cut full)) (.refl s)
  · exact run_window hc opens n.isLt (by decide) (by decide) (by decide)
      ((windowWrite_pEnd (windowsOpen_active opens)).trans (pEndWrite_ends host open_ zero hpad fits)) (near_ended s n _)
  · exact run_window hc opens n.isLt (by decide) (by decide) (by decide)
      ((windowWrite_pEnd (windowsOpen_active opens)).trans (pEndWrite_aborts host open_)) (near_putSpool s n _)
  · exact internal (producerCommit_foreign foreign) (.refl s)
  · exact internal (producerCommit_commits on ready fits own hy) (near_ended s n _)
  · exact internal (producerCommit_drops on ready fits own hn) ((near_setSp s n _).trans (near_splEvent _ 2))
  · exact ⟨_, rfl, rfl, rfl, rfl, rfl, fun w hw => Item.withParity_parity _ hw⟩
  · exact ⟨(near_putSpool s n y).2, putSpool_frame s n y, spOf_putSpool s n y⟩

/-! ## Consumer operations (R299, R300, R304) -/

theorem remain_head {s : State} {n : Nat} {it : Item} (head : (spOf s n).head = some it) : (spOf s n).remain = it.total - (spOf s n).pos := by
  unfold Spool.remain
  rw [head]

section
variable {s : State} {n : Nat} {it : Item} (host : hostCons s n = true)
include host

section
variable (head : (spOf s n).head = some it)
include head

theorem cDrop_finishes : cDrop s n = (.ok, putSpool s n ((spOf s n).finish (fb s .SP_W0_REPLAY n))) := by
  unfold cDrop
  exact if_neg (by simp [host, head])

theorem cMark_marks (replay : fb s .SP_W0_REPLAY n = true) :
    cMark s n = (.ok, setSp s n { spOf s n with mark := some it.seq, markLost := false }) := by
  unfold cMark
  dsimp only
  rw [head]
  exact if_pos ⟨host, replay⟩

theorem cAdvance_finishes {k : Nat} (all : k = it.total - (spOf s n).pos) :
    cAdvance s n k = (.ok, putSpool s n ((spOf s n).finish (fb s .SP_W0_REPLAY n))) := by
  have r := remain_head head
  unfold cAdvance
  dsimp only
  rw [if_neg (by simp [head]), if_neg (by omega), if_neg (by simp [host]), if_pos (by omega)]

theorem cAdvance_moves {k : Nat} (part : k < it.total - (spOf s n).pos) :
    cAdvance s n k = (.ok, putSpool s n { spOf s n with pos := (spOf s n).pos + k }) := by
  have r := remain_head head
  unfold cAdvance
  dsimp only
  rw [if_neg (by simp [head]), if_neg (by omega), if_neg (by simp [host]), if_neg (by omega)]

end

theorem cRewind_rewinds {q i : Nat} (replay : fb s .SP_W0_REPLAY n = true) (mark : (spOf s n).mark = some q)
    (found : (spOf s n).items.findIdx? (fun it => it.seq == q) = some i) :
    cRewind s n = (.ok, setSp s n { spOf s n with cur := i, pos := 0 }) := by
  unfold cRewind
  dsimp only
  rw [if_neg (by simp [host, replay]), mark]
  dsimp only
  rw [found]

end

/-- A word of C_CMD with ADV alone advances (R299). -/
theorem cCmd_advance {k : Nat} (s : State) (n : Nat) (some_ : k ≠ 0) (hk : k < 32768) : cCmd s n (word k) = cAdvance s n k := by
  have field (lo m : Nat) : fld (word k) lo m = k / 2 ^ lo % 2 ^ m := by
    unfold fld word
    rw [BitVec.toNat_ofNat, Nat.mod_eq_of_lt (a := k) (by omega)]
  have adv : fld (word k) 0 15 = k := by rw [field]; omega
  have high (b : Nat) (h : 15 ≤ b) : bit (word k) b = false := by
    unfold bit
    rw [field, Nat.div_eq_of_lt (Nat.lt_of_lt_of_le hk (Nat.pow_le_pow_right (n := 2) (by decide) h))]
    rfl
  have rest : fld (word k) 15 14 = 0 := by rw [field]; omega
  unfold cCmd
  dsimp only
  rw [high 31 (by omega), high 30 (by omega), high 29 (by omega), adv, rest]
  simp [some_, b2n]

section
variable {s : State} {n off : Nat}

theorem windowRead_empty (h : s.glb.passive = true ∨ stalls s n (off / 4 * 4) = true ∧ fv s .SPL_STALL_STALL = 0) :
    windowReadEvent s n off = emit s (.hostRead n (off / 4 * 4) 0xFFFFFFFF) := by
  unfold windowReadEvent
  dsimp only
  rcases h with standby | ⟨empty, noWait⟩
  · exact if_pos standby
  · rw [if_pos empty, if_pos noWait, ite_self]

theorem windowRead_waits (active : s.glb.passive = false) (empty : stalls s n (off / 4 * 4) = true)
    (waits : fv s .SPL_STALL_STALL ≠ 0) : windowReadEvent s n off = s.setSpl fun y => { y with
      stalled := y.stalled ++ [(n, off / 4 * 4, s.now + 1000 * fv s .SPL_STALL_STALL)] } := by
  unfold windowReadEvent
  dsimp only
  rw [if_neg (by rw [active]; decide), if_pos empty, if_neg waits]

theorem windowRead_answers (active : s.glb.passive = false) (ready : stalls s n (off / 4 * 4) = false) :
    windowReadEvent s n off = emit s (.hostRead n (off / 4 * 4) (windowRead s n (off / 4 * 4))) := by
  unfold windowReadEvent
  dsimp only
  rw [if_neg (by rw [active]; decide), if_neg (by rw [ready]; decide)]

end

/-- Settles O38: each bit of C_CMD reaches its operation, and a read is answered, waits or is empty. -/
theorem itemsConsumed : Obligations.ItemsConsumed := by
  intro s n hc x
  have cmd {v : Word} {t : State} (opens : windowsOpen s = true) (e : cCmd s n v = (.ok, t)) (near : Near s t) :
      run s (fun s => windowOp s n 8 v 15 false) = .next (notedWindow t n 8) :=
    run_window hc opens n.isLt (by decide) (by decide) (by decide) ((windowWrite_cCmd (windowsOpen_active opens)).trans e) near
  have read {off : Nat} {t : State} (e : windowReadEvent s n off = t) (near : Near s t) :
      run s (fun s => windowReadEvent s n off) = .next t := run_near e hc near
  refine ⟨fun opens host it head => ⟨fun k hk part => ?_, fun k hk all => ?_, ?_, fun replay => ?_⟩,
    fun opens host replay q i mark found => ?_, fun off => ⟨fun empty => ?_, fun active empty waits => ?_, fun active ready => ?_⟩⟩
  · exact cmd opens ((cCmd_advance s n hk k.isLt).trans (cAdvance_moves host head part)) (near_putSpool s n _)
  · exact cmd opens ((cCmd_advance s n hk k.isLt).trans (cAdvance_finishes host head all)) (near_putSpool s n _)
  · exact cmd opens (cDrop_finishes host head) (near_putSpool s n _)
  · exact cmd opens (cMark_marks host head replay) (near_setSp s n _)
  · exact cmd opens (cRewind_rewinds host replay mark found) (near_setSp s n _)
  · exact read (windowRead_empty empty) (near_emit s _)
  · exact read (windowRead_waits active empty waits) (near_setSpl s _)
  · exact read (windowRead_answers active ready) (near_emit s _)

/-! ## Flush, EN and reset (R305, R307) -/

theorem setFd_now (s : State) (f : Fd) (v i j : Nat) : (setFd s f v i j).now = s.now := wr_now _ _ _ _ _
theorem setFd_pending (s : State) (f : Fd) (v i j : Nat) : (setFd s f v i j).pending = s.pending := wr_pending _ _ _ _ _

/-- The spool's ends are the host's no more (R305). -/
def bindingsGone (s : State) (n : Nat) : State := setFd (setFd s .SP_W0_HOST_P 0 n) .SP_W0_HOST_C 0 n

theorem bindingsGone_now (s : State) (n : Nat) : (bindingsGone s n).now = s.now :=
  (setFd_now _ _ _ _ _).trans (setFd_now _ _ _ _ _)

theorem bindingsGone_pending (s : State) (n : Nat) : (bindingsGone s n).pending = s.pending :=
  (setFd_pending _ _ _ _ _).trans (setFd_pending _ _ _ _ _)

theorem calm_bindingsGone {s : State} (h : calm s = true) {n : Nat} (hn : n < 4096) : calm (bindingsGone s n) = true :=
  calm_entry (calm_entry h _ (by decide) hn (by decide)) _ (by decide) hn (by decide)

/-- The flushed spool without its open item, its numbers starting again (R305). -/
def emptied (s : State) (n : Nat) : State :=
  putSpool (flushSpool s n) n { spOf (flushSpool s n) n with openItem := none, seq := 0 }

theorem near_emptied (s : State) (n : Nat) : Near s (emptied s n) := (near_putSpool s n _).trans (near_putSpool _ n _)

theorem disableSpool_eq (s : State) (n : Nat) : disableSpool s n = bindingsGone (emptied s n) n := rfl

theorem blockWrite_SP_W0 (s : State) {n : Nat} (hn : n < 4096) (v : Word) :
    blockWrite s .SP_W0 n 0 v = spW0Write s n (kept .SP_W0 v) := by
  rw [blockWrite_entry s .SP_W0 v rfl hn (by decide)]; rfl

theorem spW0Write_stores {s : State} {n : Nat} {v : Word} (h : fb s .SP_W0_EN n = false ∨ bit v 31 = true) :
    spW0Write s n v = wr s .SP_W0 v n := by
  unfold spW0Write
  dsimp only
  exact if_neg (by rcases h with off | on <;> simp [*])

theorem spW0Write_disables {s : State} {n : Nat} {v : Word} (on : fb s .SP_W0_EN n = true) (off : bit v 31 = false) :
    spW0Write s n v = disableSpool (wr s .SP_W0 v n) n := by
  unfold spW0Write
  dsimp only
  exact if_pos ⟨on, by rw [off]; rfl⟩

theorem spoolReady_eq (s : State) (n : Nat) : spoolReady s n =
    if held s 12 = false ∧ (spOf s n).resetting = true then setSp s n { spOf s n with resetting := false } else s := by
  unfold spoolReady spoolResetDone
  dsimp only
  cases held s 12 <;> simp

/-- Settles O39: FLUSH is `flushSpool`, clearing EN is `disableSpool`, and a reset that is over is no more. -/
theorem spoolControl : Obligations.SpoolControl := by
  intro s n hc x flushed
  refine ⟨fun ha arg => ?_, fun v ha => ⟨fun stores => ?_, fun on off => ?_⟩, ?_⟩
  · have e : blockWrite (noted s .SPL_CMD 0 0) .SPL_CMD 0 0 1 = flushSpool (noted s .SPL_CMD 0 0) n := by
      show flushSpool (noted s .SPL_CMD 0 0) (fv s .SPL_CMD_ARG_INDEX) = _
      rw [arg]
    exact write_noted_near .SPL_CMD (by decide) (by decide) hc ha e (near_putSpool _ n _)
  · exact run_entry .SP_W0 n.isLt (by decide) ha ((blockWrite_SP_W0 _ n.isLt v).trans (spW0Write_stores stores))
      (calm_entry (calm_noted hc .SP_W0 n 0) _ (by decide) n.isLt (by decide)) rfl rfl
  · intro f
    have e := (blockWrite_SP_W0 (noted s .SP_W0 n 0) n.isLt v).trans (spW0Write_disables on off)
    have near := near_emptied (wr (noted s .SP_W0 n 0) .SP_W0 (kept .SP_W0 v) n) n
    have calm' := calm_entry (r := .SP_W0) (i := n) (j := 0) (calm_noted hc .SP_W0 n 0) (kept .SP_W0 v) (by decide) n.isLt (by decide)
    rw [disableSpool_eq] at e
    exact run_entry .SP_W0 n.isLt (by decide) ha e (calm_bindingsGone (near.calm calm') n.isLt)
      ((bindingsGone_now _ _).trans near.now) ((bindingsGone_pending _ _).trans near.pending)
  · exact run_near_where (f := fun s => spoolReady s n) (spoolReady_eq s n) hc (near_setSp s n _)

end Sys2Proof.Machine
end

section
/-! FORCE of a source in a reserved group (R310, Table 14-5). -/

namespace Sys2Proof.Machine

/-- A module alone runs; EVT_CMD_ARG names source 1152, the first of group 18, which no block has (Table 14-1). -/
def reservedNamed : State :=
  let s := setFd State.reset .EVT_CMD_ARG_INDEX 1152
  { s with glb := { s.glb with inReset := false, mode := .running } }

theorem reservedNamed_forces : calm reservedNamed = true ∧ reservedNamed.rf.regs.wf = true ∧
    Accepted reservedNamed .EVT_CMD 0 0 2 ∧ fv reservedNamed .EVT_CMD_ARG_INDEX = 1152 := by decide +kernel

/-- The state of source 1152 after a command. -/
def reservedSource : Out → EvState
  | .next t => (evSrc t 1152).state
  | _ => .idle

/-- FORCE leaves the source IDLE: a source in a reserved group never asserts. -/
theorem reservedSource_force : reservedSource (exec .force reservedNamed) = .idle := by decide +kernel

/-- An assertion would latch it. -/
theorem reservedSource_assertSrc :
    reservedSource (.next (assertSrc (noted reservedNamed .EVT_CMD 0 0) 1152)) = .latched := by decide +kernel

/-- Refutes O43: an accepted FORCE that names a source of a reserved group does nothing (R310); the statement has the
source asserted. -/
theorem not_eventControls : ¬ Obligations.EventControls := by
  intro h
  obtain ⟨quiet, canonical, accepted, named⟩ := reservedNamed_forces
  obtain ⟨forces, -⟩ := h reservedNamed quiet canonical
  have forced := congrArg reservedSource (forces accepted)
  rw [named, reservedSource_force, reservedSource_assertSrc] at forced
  cases forced

end Sys2Proof.Machine
end

section
/-! Event sources: sensing, moderation, release, delivery and EOI (spec/14, Table 14-3). -/

namespace Sys2Proof.Machine

/-! ## What releases change -/

/-- Only sources, groups and what has been released differ. -/
def Releases (s t : State) : Prop :=
  t = { s with evt := { s.evt with srcs := t.evt.srcs, grps := t.evt.grps, released := t.evt.released } }

theorem Releases.refl (s : State) : Releases s s := rfl

theorem Releases.trans {s t u : State} (h : Releases s t) (g : Releases t u) : Releases s u := by
  unfold Releases at h g ⊢
  rw [g, h]

theorem releases_forEach {α : Type} {f : α → State → State} (h : ∀ x s, Releases s (f x s)) (xs : List α) (s : State) :
    Releases s (forEach xs s f) := forEach_rel Releases.refl Releases.trans h xs s

theorem releases_setSrc (s : State) (k : Nat) (x : EvSrc) : Releases s (setSrc s k x) := rfl
theorem releases_setGrp (s : State) (g : Nat) (x : EvGrp) : Releases s (setGrp s g x) := rfl

/-- A release noted, where the source is enabled (R328). -/
def noteRelease (s : State) (k : Nat) : State :=
  if evEn s k then s.setEvt fun e => { e with released := e.released ++ [(k, tack s 0, subscribers s k)] } else s

/-- A release counted for its group (R315). -/
def countRelease (s : State) (k : Nat) : State :=
  setGrp s (k / 64) { evGrp s (k / 64) with releases := satInc 0xFFFF (evGrp s (k / 64)).releases }

theorem releaseSrc_eq (s : State) (k : Nat) : releaseSrc s k =
    setSrcState (noteRelease (countRelease s k) k) k
      (if (noteRelease (countRelease s k) k).evt.reachedL0 then .queued else .idle) := rfl

theorem releases_noteRelease (s : State) (k : Nat) : Releases s (noteRelease s k) := by
  unfold noteRelease
  split <;> rfl

theorem releases_releaseSrc (s : State) (k : Nat) : Releases s (releaseSrc s k) :=
  ((releases_setGrp s _ _).trans (releases_noteRelease (countRelease s k) k)).trans (releases_setSrc _ _ _)

theorem releases_releaseHeld (s : State) (g : Nat) : Releases s (releaseHeld s g) :=
  releases_forEach (fun k s => releases_releaseSrc s k) _ s

theorem releases_releaseDue (s : State) : Releases s (releaseDue s) :=
  releases_forEach (fun g s => by
    split
    · exact (releases_releaseHeld s g).trans (releases_setGrp _ _ _)
    · exact (releases_releaseHeld s g).trans (releases_setGrp _ _ _)) _ s

section
variable {s t : State} (h : Releases s t)
include h

theorem Releases.rf : t.rf = s.rf := (congrArg State.rf h :)
theorem Releases.now : t.now = s.now := (congrArg State.now h :)
theorem Releases.saf : t.saf = s.saf := (congrArg State.saf h :)
theorem Releases.glb : t.glb = s.glb := (congrArg State.glb h :)
theorem Releases.rd (r : Reg) (i j : Nat) : Machine.rd t r i j = Machine.rd s r i j := by unfold Machine.rd; rw [h.rf]
theorem Releases.fv (f : Fd) (i j : Nat) : Machine.fv t f i j = Machine.fv s f i j := by unfold Machine.fv; rw [h.rd]
theorem Releases.fb (f : Fd) (i j : Nat) : Machine.fb t f i j = Machine.fb s f i j := by unfold Machine.fb; rw [h.fv]
theorem Releases.evTgt (k : Nat) : Machine.evTgt t k = Machine.evTgt s k := by rw [h]; rfl

theorem Releases.evCfg (k : Nat) : Machine.evCfg t k = Machine.evCfg s k := by
  unfold Machine.evCfg; rw [h.rd, h.rd]

theorem Releases.evTarget (k : Nat) : Machine.evTarget t k = Machine.evTarget s k := by
  unfold Machine.evTarget; rw [h.evCfg]

theorem Releases.evPrio (k : Nat) : Machine.evPrio t k = Machine.evPrio s k := by unfold Machine.evPrio; rw [h.evCfg]
theorem Releases.evVec (k : Nat) : Machine.evVec t k = Machine.evVec s k := by unfold Machine.evVec; rw [h.evCfg]

theorem Releases.asleep (k : Nat) : Machine.asleep t k = Machine.asleep s k := by
  unfold Machine.asleep
  rw [h.fb, h]

theorem Releases.vecFree (k : Nat) : Machine.vecFree t k = Machine.vecFree s k := by
  unfold Machine.vecFree vecMasked
  rw [h.fb, h]

theorem Releases.tgtFree (k : Nat) : Machine.tgtFree t k = Machine.tgtFree s k := by
  unfold Machine.tgtFree held
  rw [h.fb, h.asleep, h.glb, h.saf]

theorem Releases.msixOf (k : Nat) : Machine.msixOf t k = Machine.msixOf s k := by
  unfold Machine.msixOf; rw [h.rd, h.rd, h.rd]

theorem Releases.runPri (k : Nat) : Machine.runPri t k = Machine.runPri s k := by
  unfold Machine.runPri; rw [h.evTgt]

end

/-! ## Sensing (R311, R313, R314) -/

section
variable {s : State} {k : Nat}

theorem assertSrc_eq (s t : State) (k : Nat) (same : evSrc t k = evSrc s k) (cfg : evEn t k = evEn s k) : assertSrc t k = wakeUpdate (
    if (evSrc s k).state = .idle then (if evEn s k = true then moderate t k else setSrcState t k .latched)
    else if (evSrc s k).state = .held then countAgain t k
    else if (evSrc s k).state = .inService then setSrc t k { evSrc s k with again := true }
    else t) := by
  unfold assertSrc
  rw [same, cfg]
  cases (evSrc s k).state <;> rfl

theorem senseSrc_object (object : 1792 ≤ k) : senseSrc s k =
    if k ∈ s.evt.hits then assertSrc (s.setEvt fun e => { e with hits := e.hits.erase k }) k else s := by
  unfold senseSrc
  rw [if_pos object]
  simp only [List.contains_iff_mem]

/-- SENSE counts an edge of the source (R313). -/
theorem sensed_iff (up : Bool) : sensed s k up = true ↔
    evSense s k = 0 ∧ ((evSrc s k).state = .idle ∧ evInput s k = true) ∨ evSense s k = 1 ∧ up = true ∨
      evSense s k = 2 ∧ up = false ∨ 2 < evSense s k := by
  unfold sensed
  split
  · rename_i e; simp [e, and_comm]
  · rename_i e; simp [e]
  · rename_i e; simp [e]
  · rename_i h0 h1 h2
    have : 2 < evSense s k := by
      have : evSense s k ≠ 0 ∧ evSense s k ≠ 1 ∧ evSense s k ≠ 2 := ⟨h0, h1, h2⟩
      omega
    simp [this]

theorem senseSrc_edge {up : Bool} {rest : List (Nat × Bool)} (block : k < 1792)
    (edge : takeEdge s.evt.edges k = (some up, rest)) : senseSrc s k =
      if sensed s k up = true then assertSrc (s.setEvt fun e => { e with edges := rest }) k
      else s.setEvt fun e => { e with edges := rest } := by
  unfold senseSrc
  rw [if_neg (by omega), edge]
  rfl

theorem senseSrc_level {rest : List (Nat × Bool)} (block : k < 1792) (edge : takeEdge s.evt.edges k = (none, rest)) :
    senseSrc s k = if evSense s k = 0 ∧ (evSrc s k).state = .idle ∧ evInput s k = true then assertSrc s k else s := by
  unfold senseSrc
  rw [if_neg (by omega), edge]
  dsimp only
  by_cases level : evSense s k = 0
  · simp only [sensed_iff, level, true_and]
    simp
  · simp [level]

end

/-! ## Intervals and hold-offs (R315, R316) -/

/-- The interval or the hold-off of a group has run out. -/
abbrev Lapsed (s : State) (g : Nat) : Prop := ∃ t, (evGrp s g).from_ = some t ∧ t + 1000 * (evGrp s g).time ≤ s.now

theorem intervalOver_iff (s : State) (g : Nat) : intervalOver s g = true ↔ Lapsed s g := by
  unfold intervalOver Lapsed
  cases (evGrp s g).from_ <;> simp

/-- The group with an interval that an assertion opens (R315). -/
def EvGrp.opens (x : EvGrp) (s : State) (g : Nat) : EvGrp := { x with
  from_ := some s.now, time := fv s .EV_GRP_TIME g, cnt := fv s .EV_GRP_CNT g, count := 1
  due := decide (fv s .EV_GRP_CNT g ≤ 1) }

/-- The group with one assertion more in its interval. -/
def EvGrp.counts (x : EvGrp) : EvGrp := { x with count := x.count + 1, due := decide (x.cnt ≤ x.count + 1) }

theorem evGrp_setGrp (s : State) (g : Nat) (x : EvGrp) : evGrp (setGrp s g x) g = x := Tbl.getD_put_self _ _ _ _

section
variable {s : State} {g : Nat}

theorem countIn_opens (h : (evGrp s g).from_ = none) : countIn s g = setGrp s g ((evGrp s g).opens s g) := by
  unfold countIn
  dsimp only
  rw [h]
  rfl

theorem countIn_counts {t : Nat} (h : (evGrp s g).from_ = some t) : countIn s g = setGrp s g (evGrp s g).counts := by
  unfold countIn
  dsimp only
  simp only [h]
  rw [EvGrp.counts, h]

theorem not_lapsed_none (h : (evGrp s g).from_ = none) : ¬ Lapsed s g := by
  rintro ⟨t, e, -⟩
  rw [h] at e
  cases e

theorem not_lapsed_before {t : Nat} (h : (evGrp s g).from_ = some t) (early : s.now < t + 1000 * (evGrp s g).time) :
    ¬ Lapsed s g := by
  rintro ⟨u, e, ends⟩
  obtain rfl : t = u := Option.some.inj (h.symm.trans e)
  omega

/-- The group has released and its interval is closed. -/
theorem releaseGroup_closed (s : State) (g : Nat) : (evGrp (releaseGroup s g) g).from_ = none := by
  unfold releaseGroup
  rw [evGrp_setGrp]

theorem releases_releaseGroup (s : State) (g : Nat) : Releases s (releaseGroup s g) :=
  (releases_releaseHeld s g).trans (releases_setGrp _ _ _)

end

/-- After a release the interval opens with the same TIME and CNT at the same instant. -/
theorem countIn_released {s t : State} (h : Releases s t) {g : Nat} (closed : (evGrp t g).from_ = none) :
    countIn t g = setGrp t g ((evGrp t g).opens s g) := by
  rw [countIn_opens closed]
  unfold EvGrp.opens
  rw [h.now, h.fv, h.fv]

/-! ## Moderation (R315, R316, R325) -/

section
variable {s : State} {k : Nat}

theorem moderate_asleep (h : asleep s (evTarget s k) = true) : moderate s k = releaseSrc s k := if_pos h

section
variable (awake : asleep s (evTarget s k) = false)
include awake

theorem moderate_block (block : k / 64 < 28) : moderate s k =
    countIn (setSrcState (if intervalOver s (k / 64) then releaseGroup s (k / 64) else s) k .held) (k / 64) := by
  unfold moderate
  dsimp only
  rw [if_neg (by rw [awake]; decide), if_pos block]

theorem moderate_opens (block : k / 64 < 28) (closed : (evGrp s (k / 64)).from_ = none) :
    moderate s k = setGrp (setSrcState s k .held) (k / 64) ((evGrp s (k / 64)).opens s (k / 64)) := by
  rw [moderate_block awake block, if_neg (mt (intervalOver_iff _ _).1 (not_lapsed_none closed))]
  exact countIn_opens (s := setSrcState s k .held) closed

theorem moderate_counts {t : Nat} (block : k / 64 < 28) (begun : (evGrp s (k / 64)).from_ = some t)
    (early : s.now < t + 1000 * (evGrp s (k / 64)).time) :
    moderate s k = setGrp (setSrcState s k .held) (k / 64) (evGrp s (k / 64)).counts := by
  rw [moderate_block awake block, if_neg (mt (intervalOver_iff _ _).1 (not_lapsed_before begun early))]
  exact countIn_counts (s := setSrcState s k .held) begun

theorem moderate_lapsed (block : k / 64 < 28) (lapsed : Lapsed s (k / 64)) : moderate s k =
    setGrp (setSrcState (releaseGroup s (k / 64)) k .held) (k / 64) ((evGrp (releaseGroup s (k / 64)) (k / 64)).opens s (k / 64)) := by
  rw [moderate_block awake block, if_pos ((intervalOver_iff _ _).2 lapsed)]
  exact countIn_released ((releases_releaseGroup s _).trans (releases_setSrc _ k _)) (releaseGroup_closed s _)

theorem moderate_object (object : 28 ≤ k / 64) : moderate s k =
    if (evGrp s (k / 64)).from_ = none ∨ Lapsed s (k / 64) then
      setGrp (setSrcState s k .held) (k / 64) { evGrp s (k / 64) with due := true }
    else setSrcState s k .held := by
  unfold moderate
  dsimp only
  rw [if_neg (by rw [awake]; decide), if_neg (by omega)]
  have iff : ((evGrp s (k / 64)).from_.isNone = true ∨ intervalOver s (k / 64) = true) ↔
      ((evGrp s (k / 64)).from_ = none ∨ Lapsed s (k / 64)) := by
    rw [Option.isNone_iff_eq_none, intervalOver_iff]
  by_cases due : (evGrp s (k / 64)).from_ = none ∨ Lapsed s (k / 64)
  · rw [if_pos due]
    exact if_pos (iff.2 due)
  · rw [if_neg due]
    exact if_neg (mt iff.1 due)

end

theorem countAgain_counts {t : Nat} (block : k / 64 < 28) (begun : (evGrp s (k / 64)).from_ = some t)
    (early : s.now < t + 1000 * (evGrp s (k / 64)).time) : countAgain s k = setGrp s (k / 64) (evGrp s (k / 64)).counts := by
  unfold countAgain
  dsimp only
  rw [if_pos block, if_neg (mt (intervalOver_iff _ _).1 (not_lapsed_before begun early)), countIn_counts begun]

theorem countAgain_lapsed (block : k / 64 < 28) (lapsed : Lapsed s (k / 64)) : countAgain s k =
    let u := releaseGroup s (k / 64)
    setGrp (if (evSrc u k).state = .idle then setSrcState u k .held else u) (k / 64) ((evGrp u (k / 64)).opens s (k / 64)) := by
  unfold countAgain
  dsimp only
  rw [if_pos block, if_pos ((intervalOver_iff _ _).2 lapsed)]
  split
  · exact countIn_released ((releases_releaseGroup s _).trans (releases_setSrc _ k _)) (releaseGroup_closed s _)
  · exact countIn_released (releases_releaseGroup s _) (releaseGroup_closed s _)

end

/-! ## Releases (R315, R316, R327, R328) -/

section
variable {s : State} {k : Nat}

theorem noteRelease_srcs (s : State) (k : Nat) : (noteRelease s k).evt.srcs = s.evt.srcs := by
  unfold noteRelease
  split <;> rfl

theorem noteRelease_grps (s : State) (k : Nat) : (noteRelease s k).evt.grps = s.evt.grps := by
  unfold noteRelease
  split <;> rfl

theorem noteRelease_released (s : State) (k : Nat) : (noteRelease s k).evt.released =
    s.evt.released ++ (if evEn s k = true then [(k, tack s 0, subscribers s k)] else []) := by
  unfold noteRelease
  split
  · rfl
  · exact (List.append_nil _).symm

/-- What a release leaves of the source, its group and the notes. -/
theorem releaseSrc_leaves (canonical : s.evt.srcs.wf = true) :
    evSrc (releaseSrc s k) k = { evSrc s k with state := if s.evt.reachedL0 = true then .queued else .idle } ∧
    evGrp (releaseSrc s k) (k / 64) =
      { evGrp s (k / 64) with releases := satInc 0xFFFF (evGrp s (k / 64)).releases } ∧
    (releaseSrc s k).evt.released =
      s.evt.released ++ (if evEn s k = true then [(k, tack s 0, subscribers s k)] else []) := by
  have counted := (releases_setGrp s (k / 64) { evGrp s (k / 64) with releases := satInc 0xFFFF (evGrp s (k / 64)).releases }).trans
    (releases_noteRelease (countRelease s k) k)
  have srcs := noteRelease_srcs (countRelease s k) k
  have same : evSrc (noteRelease (countRelease s k) k) k = evSrc s k := by
    unfold evSrc
    rw [srcs]
    rfl
  have l0 : (noteRelease (countRelease s k) k).evt.reachedL0 = s.evt.reachedL0 := by rw [counted]
  rw [releaseSrc_eq]
  refine ⟨?_, ?_, noteRelease_released (countRelease s k) k⟩
  · rw [l0, setSrcState, same]
    exact Tbl.getD_set_self _ _ _ (by rw [srcs]; exact canonical)
  · show Tbl.getD (noteRelease (countRelease s k) k).evt.grps (k / 64) {} = _
    rw [noteRelease_grps]
    exact evGrp_setGrp s _ _

end

theorem moderationEnd_due {s : State} {g : Nat} (h : g < 28 ∧ Lapsed (releaseDue s) g) :
    moderationEnd s g = releaseGroup (releaseDue s) g := if_pos ⟨h.1, (intervalOver_iff _ _).2 h.2⟩

theorem moderationEnd_else {s : State} {g : Nat} (h : ¬ (g < 28 ∧ Lapsed (releaseDue s) g)) :
    moderationEnd s g = releaseDue s := if_neg fun q => h ⟨q.1, (intervalOver_iff _ _).1 q.2⟩

theorem holdoffOver_due {s : State} {g : Nat} (h : 28 ≤ g ∧ Lapsed (releaseDue s) g) :
    holdoffOver s g = if heldIn (releaseDue s) g = [] then
        setGrp (releaseDue s) g { evGrp (releaseDue s) g with from_ := none }
      else openHoldoff (releaseHeld (releaseDue s) g) g := by
  unfold holdoffOver
  dsimp only
  rw [if_pos ⟨h.1, (intervalOver_iff _ _).2 h.2⟩]
  unfold endHoldoff
  simp only [List.isEmpty_iff]

theorem holdoffOver_else {s : State} {g : Nat} (h : ¬ (28 ≤ g ∧ Lapsed (releaseDue s) g)) :
    holdoffOver s g = releaseDue s := if_neg fun q => h ⟨q.1, (intervalOver_iff _ _).1 q.2⟩

/-- Settles O40, clause by clause: sensing, the three ways of moderation, releases, and the ends of intervals and
hold-offs. -/
theorem eventsModerated : Obligations.EventsModerated := by
  intro s src g hc x k gr high asserted lapsed freed released holdoff opened counted r
  have sense {t : State} (e : senseSrc s src = t) : exec (.eventAssert src) s = .next t :=
    run_near (f := fun s => senseSrc s src) e hc (by rw [← e]; exact near_senseSrc s src)
  have asserts {t : State} (same : t.evt.srcs = s.evt.srcs) (rf : t.rf = s.rf) : assertSrc t src = asserted t :=
    assertSrc_eq s t src (by unfold evSrc; rw [same]) (by unfold evEn evCfg rd; rw [rf])
  refine ⟨fun object => ?_, fun block up rest edge => ?_, fun block rest edge => ?_, moderate_asleep,
    fun awake block => ⟨moderate_opens awake block, fun t => moderate_counts awake block, moderate_lapsed awake block⟩,
    fun block _ => ⟨fun t => countAgain_counts block, countAgain_lapsed block⟩, moderate_object, rfl, releaseSrc_leaves,
    fun due => ?_, fun other => ?_, fun due => ?_, fun other => ?_⟩
  · exact sense ((senseSrc_object object).trans (if_congr Iff.rfl (asserts rfl rfl) rfl))
  · exact sense ((senseSrc_edge block edge).trans (if_congr (sensed_iff up) (asserts rfl rfl) rfl))
  · exact sense ((senseSrc_level block edge).trans (if_congr Iff.rfl (asserts rfl rfl) rfl))
  · exact run_near (f := fun s => moderationEnd s g) (moderationEnd_due due) hc ((near_releaseDue s).trans (near_releaseGroup _ g))
  · exact run_near (f := fun s => moderationEnd s g) (moderationEnd_else other) hc (near_releaseDue s)
  · exact run_near (f := fun s => holdoffOver s g) (holdoffOver_due due) hc ((near_releaseDue s).trans
      (near_ite (near_setGrp _ g _) ((near_releaseHeld _ g).trans (near_openHoldoff _ g))))
  · exact run_near (f := fun s => holdoffOver s g) (holdoffOver_else other) hc (near_releaseDue s)

/-! ## Delivery (R318, R319, R321) -/

/-- The fault message of a target goes out (R321). -/
def sendFault (s r : State) (t : Nat) : State :=
  emit (setTgt r t { evTgt s t with faultDue := false, delivered := satInc 0xFFFFFFFF (evTgt s t).delivered })
    (msixOf s (fv s .TGT_CTRL_FAULT_VEC t))

/-- The message of a source goes out, and the source is pushed (R318, R320). -/
def pushSource (s r : State) (t k : Nat) : State :=
  emit (setTgt (setSrcState r k .inService) t { evTgt s t with
      stack := { vec := evVec s k, prio := evPrio s k, src := k } :: (evTgt s t).stack
      delivered := satInc 0xFFFFFFFF (evTgt s t).delivered })
    (msixOf s (evVec s k))

section
variable {s : State} {t : Nat}

/-- The fault message of the target is due and may go. -/
def faultGoes (s : State) (t : Nat) : Prop :=
  (evTgt s t).faultDue = true ∧ tgtFree s t = true ∧ vecFree s (fv s .TGT_CTRL_FAULT_VEC t) = true

theorem deliver_fault (h : faultGoes s t) : deliver s t = sendFault s (releaseDue s) t := by
  have r := releases_releaseDue s
  unfold deliver
  dsimp only
  rw [r.evTgt, r.fv, r.tgtFree, r.vecFree, r.msixOf]
  exact if_pos h

theorem deliver_source (h : ¬ faultGoes s t) : deliver s t =
    match pickSrc (releaseDue s) t with
    | some k => pushSource s (releaseDue s) t k
    | none => releaseDue s := by
  have r := releases_releaseDue s
  unfold deliver
  dsimp only
  rw [r.evTgt, r.fv, r.tgtFree, r.vecFree]
  refine (if_neg h).trans ?_
  cases pickSrc (releaseDue s) t with
  | none => rfl
  | some k =>
    have q := r.trans (releases_setSrc _ k { evSrc (releaseDue s) k with state := .inService })
    have vec : evVec (setSrcState (releaseDue s) k .inService) k = evVec s k := q.evVec k
    have prio : evPrio (setSrcState (releaseDue s) k .inService) k = evPrio s k := q.evPrio k
    have msg : msixOf (setSrcState (releaseDue s) k .inService) (evVec s k) = msixOf s (evVec s k) := q.msixOf _
    dsimp only
    rw [vec, prio, msg]
    rfl

theorem near_sendFault (s : State) (t : Nat) : Near s (sendFault s (releaseDue s) t) :=
  ((near_releaseDue s).trans (near_setTgt _ t _)).trans (near_emit _ _)

theorem near_pushSource (s : State) (t k : Nat) : Near s (pushSource s (releaseDue s) t k) :=
  (((near_releaseDue s).trans (near_setSrcState _ k _)).trans (near_setTgt _ t _)).trans (near_emit _ _)

theorem near_deliver (s : State) (t : Nat) : Near s (deliver s t) := by
  by_cases h : faultGoes s t
  · rw [deliver_fault h]; exact near_sendFault s t
  · rw [deliver_source h]
    split
    · exact near_pushSource s t _
    · exact near_releaseDue s

theorem evTgt_setTgt (s : State) (t : Nat) (x : Tgt) : evTgt (setTgt s t x) t = x := Tbl.getD_put_self _ _ _ _

/-- A fault message that may not go stays due. -/
theorem deliver_faultDue (due : (evTgt s t).faultDue = true) (h : ¬ faultGoes s t) : (evTgt (deliver s t) t).faultDue = true := by
  rw [deliver_source h]
  split
  · show (evTgt (setTgt _ t _) t).faultDue = true
    rw [evTgt_setTgt]
    exact due
  · rw [(releases_releaseDue s).evTgt]
    exact due

end

/-! ### The source that goes first (R318) -/

/-- One step of the search for the source that goes first. -/
def pickStep (s : State) (t : Nat) (best : Option Nat) (e : Nat × EvSrc) : Option Nat :=
  if eligible s t e.1 e.2 then
    match best with
    | none => some e.1
    | some b => if evPrio s e.1 < evPrio s b then some e.1 else some b
  else best

theorem pickSrc_eq (s : State) (t : Nat) : pickSrc s t = s.evt.srcs.foldl (pickStep s t) none := rfl

/-- The keys of a table rise. -/
abbrev Rising {α : Type} (l : List (Nat × α)) : Prop := l.Pairwise fun d e => d.1 < e.1

theorem Tbl.rising {α : Type} {l : Tbl α} {lo : Nat} (h : Tbl.risingFrom lo l = true) : Rising l ∧ ∀ e ∈ l, lo ≤ e.1 := by
  induction l generalizing lo with
  | nil => exact ⟨.nil, fun _ m => by cases m⟩
  | cons e l ih =>
    simp only [Tbl.risingFrom, Bool.and_eq_true, decide_eq_true_eq] at h
    obtain ⟨rest, above⟩ := ih h.2
    refine ⟨.cons (fun d m => above d m) rest, fun d m => ?_⟩
    rcases List.mem_cons.1 m with rfl | m
    · exact h.1
    · exact Nat.le_trans h.1 (Nat.le_of_succ_le (above d m))

/-- What the search has found among the entries seen. -/
def FirstOf (s : State) (t : Nat) (l : List (Nat × EvSrc)) : Option Nat → Prop
  | none => ∀ e ∈ l, eligible s t e.1 e.2 = false
  | some k => ∃ x, (k, x) ∈ l ∧ eligible s t k x = true ∧ ∀ e ∈ l, eligible s t e.1 e.2 = true →
      evPrio s k ≤ evPrio s e.1 ∧ (Rising l → evPrio s k = evPrio s e.1 → k ≤ e.1)

theorem rising_concat {α : Type} {l : List (Nat × α)} {e : Nat × α} (h : Rising (l ++ [e])) : Rising l ∧ ∀ d ∈ l, d.1 < e.1 := by
  obtain ⟨rise, -, below⟩ := List.pairwise_append.1 h
  exact ⟨rise, fun d m => below d m e (List.mem_singleton.2 rfl)⟩

theorem FirstOf.step {s : State} {t : Nat} {l : List (Nat × EvSrc)} {b : Option Nat} (h : FirstOf s t l b)
    (e : Nat × EvSrc) : FirstOf s t (l ++ [e]) (pickStep s t b e) := by
  have cases_ {d : Nat × EvSrc} (m : d ∈ l ++ [e]) : d ∈ l ∨ d = e := by simpa using m
  have last : e ∈ l ++ [e] := by simp
  unfold pickStep
  by_cases el : eligible s t e.1 e.2 = true
  · rw [if_pos el]
    cases b with
    | none =>
      refine ⟨e.2, last, el, fun d m ed => ?_⟩
      rcases cases_ m with m | rfl
      · rw [h d m] at ed; cases ed
      · exact ⟨le_rfl, fun _ _ => le_rfl⟩
    | some k =>
      obtain ⟨x, mx, ex, first⟩ := h
      dsimp only
      split
      · rename_i lower
        refine ⟨e.2, last, el, fun d m ed => ?_⟩
        rcases cases_ m with m | rfl
        · have := (first d m ed).1
          exact ⟨by omega, fun _ same => by omega⟩
        · exact ⟨le_rfl, fun _ _ => le_rfl⟩
      · refine ⟨x, List.mem_append_left _ mx, ex, fun d m ed => ?_⟩
        rcases cases_ m with m | rfl
        · exact ⟨(first d m ed).1, fun rise => (first d m ed).2 (rising_concat rise).1⟩
        · exact ⟨by omega, fun rise _ => Nat.le_of_lt ((rising_concat rise).2 _ mx)⟩
  · rw [if_neg el]
    cases b with
    | none =>
      intro d m
      rcases cases_ m with m | rfl
      · exact h d m
      · exact Bool.eq_false_iff.2 el
    | some k =>
      obtain ⟨x, mx, ex, first⟩ := h
      refine ⟨x, List.mem_append_left _ mx, ex, fun d m ed => ?_⟩
      rcases cases_ m with m | rfl
      · exact ⟨(first d m ed).1, fun rise => (first d m ed).2 (rising_concat rise).1⟩
      · exact absurd ed el

theorem firstOf_pickSrc (s : State) (t : Nat) : FirstOf s t s.evt.srcs (pickSrc s t) := by
  rw [pickSrc_eq]
  induction s.evt.srcs using List.reverseRecOn with
  | nil => exact fun _ m => by cases m
  | append_singleton l e ih =>
    rw [List.foldl_append]
    exact ih.step e

/-! ## End of interrupt (R320, R321) -/

section
variable {s : State} {t vec : Nat}

theorem eoi_idle (h : (evTgt s t).stack = []) :
    eoi s t vec = setTgt s t { evTgt s t with eoiIdle := satInc 0xFF (evTgt s t).eoiIdle } := by
  unfold eoi
  dsimp only
  rw [h]

theorem eoi_pops {p : Pushed} {rest : List Pushed} (h : (evTgt s t).stack = p :: rest) (top : p.vec = vec) :
    eoi s t vec = wakeUpdate (endService (setTgt s t { evTgt s t with stack := rest }) p.src) := by
  unfold eoi
  dsimp only
  rw [h]
  exact if_pos top

theorem eoi_faults {p : Pushed} {rest : List Pushed} (h : (evTgt s t).stack = p :: rest) (other : p.vec ≠ vec) :
    eoi s t vec = wakeUpdate (raise (forEach (p :: rest)
      (setTgt s t { evTgt s t with stack := [], faultDue := true, stackFaults := satInc 0xFF (evTgt s t).stackFaults })
      fun q s => endService s q.src) .EVT_EVENT (2 ^ t)) := by
  unfold eoi
  dsimp only
  rw [h]
  exact if_neg other

theorem near_eoi (s : State) (t vec : Nat) : Near s (eoi s t vec) := by
  cases h : (evTgt s t).stack with
  | nil => rw [eoi_idle h]; exact near_setTgt s t _
  | cons p rest =>
    by_cases top : p.vec = vec
    · rw [eoi_pops h top]
      exact ((near_setTgt s t _).trans (near_endService _ _)).trans (near_wakeUpdate _)
    · rw [eoi_faults h top]
      have served (u : State) : Near u (forEach (p :: rest) u fun q s => endService s q.src) :=
        near_forEach (fun (q : Pushed) s => near_endService s q.src) _ u
      exact (((near_setTgt s t _).trans (served _)).trans (near_evtEvent _ _)).trans (near_wakeUpdate _)

end

/-- An accepted write of TGT_EOI stores VEC; EOI = 1 ends the interrupt. -/
theorem blockWrite_TGT_EOI (s : State) {t : Nat} (ht : t < 8) (v : Word) : blockWrite s .TGT_EOI t 0 v =
    if bit v 31 = true then eoi (wr s .TGT_EOI (kept .TGT_EOI v) t) t (fld v 0 6) else wr s .TGT_EOI (kept .TGT_EOI v) t := by
  rw [blockWrite_entry s .TGT_EOI v rfl ht (by decide)]
  rfl

theorem exec_tgtEoi {s : State} {t : Fin 8} {v : Word} (hc : calm s = true) (ha : Accepted s .TGT_EOI t 0 v) :
    exec (.tgtEoi t v 15) s = .next (
      if bit v 31 = true then eoi (wr (noted s .TGT_EOI t 0) .TGT_EOI (kept .TGT_EOI v) t) t (fld v 0 6)
      else wr (noted s .TGT_EOI t 0) .TGT_EOI (kept .TGT_EOI v) t) := by
  have hu : calm (wr (noted s .TGT_EOI t 0) .TGT_EOI (kept .TGT_EOI v) t) = true :=
    calm_entry (calm_noted hc .TGT_EOI t 0) _ (by decide) t.isLt (by decide)
  exact write_near .TGT_EOI t.isLt (by decide) ha (blockWrite_TGT_EOI _ t.isLt v) hu (near_ite (near_eoi _ t _) (.refl _)) rfl rfl

/-- A source leaves service (Table 14-3). -/
theorem endService_eq (s : State) (k : Nat) : endService s k =
    if (evSrc s k).again = true ∨ evSense s k = 0 ∧ evInput s k = true then
      (if evEn s k = true then moderate (setSrc s k { state := .latched }) k else setSrc s k { state := .latched })
    else setSrc s k {} := rfl

/-- Settles O41: an EOI of another vector is the last branch of `eoi`, and the fault message the first one of `deliver`. -/
theorem stackFaults : Obligations.StackFaults := by
  intro s t v hc x
  have delivers : exec (.msixDeliver t) s = .next (deliver s t) :=
    run_near (f := fun s => deliver s t) rfl hc (near_deliver s t)
  refine ⟨fun p rest ha on stack other => ?_, fun due => ⟨fun free => ?_, fun u stays e => ?_⟩, fun src => endService_eq s src⟩
  · intro u
    rw [exec_tgtEoi hc ha, if_pos on]
    exact congrArg _ (eoi_faults (s := wr _ _ _ _) stack other)
  · exact ⟨releaseDue s, releases_releaseDue s, by rw [delivers, deliver_fault ⟨due, free⟩]; rfl⟩
  · obtain rfl := Host.Outcome.next.inj (delivers.symm.trans e)
    exact deliver_faultDue due fun goes => stays goes.2

/-- Settles O42: with no fault message to send `deliver` pushes what `pickSrc` finds, and the EOI clauses are the branches
of `eoi`. -/
theorem deliveryAndEoi : Obligations.DeliveryAndEoi := by
  intro s t v hc x fvec r ready push u
  have delivers : exec (.msixDeliver t) s = .next (deliver s t) :=
    run_near (f := fun s => deliver s t) rfl hc (near_deliver s t)
  have rel := releases_releaseDue s
  have ready_iff (e : Nat × EvSrc) : ready e ↔ e ∈ r.evt.srcs ∧ eligible r t e.1 e.2 = true := by
    simp only [eligible, rel.evTarget, rel.evPrio, rel.runPri, rel.tgtFree, rel.vecFree, rel.evVec, r, Bool.and_eq_true, beq_iff_eq,
      decide_eq_true_eq, and_assoc]
    rfl
  refine ⟨fun noFault => ?_, fun ha => ⟨fun off => ?_, fun on empty => ?_, fun on p rest stack top => ?_⟩⟩
  · have none_ : ¬ faultGoes s t := by
      rintro ⟨due, free, vec⟩
      rcases noFault with h | h | h
      · exact absurd due (by rw [h]; decide)
      · exact absurd free (by rw [h]; decide)
      · exact absurd vec (by rw [h]; decide)
    have first := firstOf_pickSrc r t
    rw [delivers, deliver_source none_]
    refine ⟨fun nobody => ?_, fun e he => ?_⟩
    · cases hp : pickSrc r t with
      | none => rfl
      | some k =>
        rw [hp] at first
        obtain ⟨y, m, el, -⟩ := first
        exact absurd ((ready_iff (k, y)).2 ⟨m, el⟩) (nobody _)
    · obtain ⟨m, el⟩ := (ready_iff e).1 he
      cases hp : pickSrc r t with
      | none =>
        rw [hp] at first
        exact absurd (first e m) (by rw [el]; decide)
      | some k =>
        rw [hp] at first
        obtain ⟨y, my, ey, least⟩ := first
        have le := least e m el
        rw [rel.evPrio, rel.evPrio] at le
        exact ⟨(k, y), (ready_iff (k, y)).2 ⟨my, ey⟩, rfl, le.1, fun canonical => le.2 (Tbl.rising canonical).1⟩
  · rw [exec_tgtEoi hc ha, if_neg (by rw [off]; decide)]
  · rw [exec_tgtEoi hc ha, if_pos on]
    exact congrArg _ (eoi_idle (s := u) empty)
  · rw [exec_tgtEoi hc ha, if_pos on]
    exact congrArg _ (eoi_pops (s := u) stack top)

end Sys2Proof.Machine
end

section
/-! The witness: which heartbeats it keeps and how it decides (R415 to R419). -/

namespace Sys2Proof.Machine

/-! ## Heartbeats -/

/-- No witness service takes no heartbeat. -/
theorem heartbeatReceive_off {s : State} (h : witnessOn s = false) (line : Nat) (bs : List Byte) (start : Nat) :
    heartbeatReceive s line bs start = s := by
  unfold heartbeatReceive
  rw [if_pos (by rw [h]; rfl)]

/-- Bytes that are no heartbeat are not kept. -/
theorem heartbeatReceive_bad {s : State} {bs : List Byte} (h : parseHeartbeat bs = none) (line start : Nat) :
    heartbeatReceive s line bs start = s := by
  unfold heartbeatReceive
  rw [h]
  exact ite_self s

/-- A heartbeat of the other unit is not kept. -/
theorem heartbeatReceive_other {s : State} {bs : List Byte} {x : Heartbeat} {line : Nat} (hp : parseHeartbeat bs = some x)
    (hu : x.unit ≠ line) (start : Nat) : heartbeatReceive s line bs start = s := by
  unfold heartbeatReceive
  rw [hp]
  dsimp only
  rw [if_pos hu]
  exact ite_self s

/-- A heartbeat on the line of its unit is kept with its start. -/
theorem heartbeatReceive_right {s : State} {bs : List Byte} {x : Heartbeat} {line : Bool} (hw : witnessOn s = true)
    (hp : parseHeartbeat bs = some x) (hu : x.unit = b2n line) (start : Nat) :
    heartbeatReceive s (b2n line) bs start = s.setWit fun w =>
      if line then { w with hbB := some (x, start) } else { w with hbA := some (x, start) } := by
  unfold heartbeatReceive
  rw [if_neg (by rw [hw]; decide), hp]
  dsimp only
  rw [if_neg (not_not_intro hu)]
  cases line <;> rfl

/-! ## The decision -/

/-- Equal STITCH and OUTCRC of two valid heartbeats (R417). -/
def hbMatch : Option Heartbeat → Option Heartbeat → Bool
  | some x, some y => x.stitch == y.stitch && x.outcrc == y.outcrc
  | _, _ => false

/-- What the witness judges at D_n. -/
def judgedBy (s : State) : Judged :=
  let a := (validHb s.wit (expectedStart s s.wit) false).map (·.1)
  let b := (validHb s.wit (expectedStart s s.wit) true).map (·.1)
  { a := a, b := b, isMatch := hbMatch a b }

/-- The state the witness decides for. -/
def decidedState (s : State) : WitState := witDecide s.wit.state (judgedBy s)

/-- The frame the witness sends. -/
def decidedFrame (s : State) : WitFrame :=
  let j := judgedBy s
  { oeA := (witLines (decidedState s)).1, oeB := (witLines (decidedState s)).2, seenA := j.a.isSome, seenB := j.b.isSome
    isMatch := j.isMatch, stitch := witStitch (decidedState s) s.wit.sent j, id := Config.uid.toNat % 2 ^ 32 }

/-- A line moves. -/
def lineMoves (s : State) : Bool :=
  (witLines (decidedState s)).1 != s.wit.lineA || (witLines (decidedState s)).2 != s.wit.lineB

/-- The levels the lines go through when they move: the falling one first. -/
def lineLevels (s : State) : List Emission :=
  if lineMoves s = true then
    (if s.wit.lineA || s.wit.lineB then [.oeLines false false] else []) ++
      [.oeLines (witLines (decidedState s)).1 (witLines (decidedState s)).2]
  else []

/-- The start of the heartbeats expected in the next stitch. -/
def nextStart (s : State) : Nat :=
  let w := s.wit
  let e := expectedStart s w
  let va := validHb w e false
  let vb := validHb w e true
  let after := follows { w with
    state := decidedState s
    agoA := if (judgedBy s).a.isSome then 0 else satInc 64 w.agoA, agoB := if (judgedBy s).b.isSome then 0 else satInc 64 w.agoB }
  match (if after then vb else va), (if after then va else vb) with
  | some x, _ => x.2 + 125000
  | none, some x => x.2 + 125000
  | none, none => e + 125000

/-- The witness after its decision. -/
def decidedWit (s : State) : Witness :=
  let w := s.wit
  let j := judgedBy s
  { w with
    state := decidedState s, hbA := none, hbB := none, expect := some (nextStart s)
    agoA := if j.a.isSome then 0 else satInc 64 w.agoA, agoB := if j.b.isSome then 0 else satInc 64 w.agoB
    seenA := j.a.isSome, seenB := j.b.isSome, isMatch := j.isMatch, sent := some (decidedFrame s).stitch
    missA := if j.a.isSome then w.missA else satInc 0xFFFF w.missA
    missB := if j.b.isSome then w.missB else satInc 0xFFFF w.missB
    moves := if lineMoves s then satInc 0xFFFFFFFF w.moves else w.moves
    lineA := (witLines (decidedState s)).1, lineB := (witLines (decidedState s)).2 }

/-- A decision sets the witness, sends the frame and moves the lines, nothing else. -/
theorem witnessDecision_on {s : State} (h : witnessOn s = true) :
    witnessDecision s =
      { s with wit := decidedWit s, emitted := s.emitted ++ [.witness (decidedFrame s).bytes] ++ lineLevels s } := by
  have e : witnessDecision s =
      (let t := emit (s.setWit fun _ => decidedWit s) (.witness (decidedFrame s).bytes)
       if !lineMoves s then t
       else emit (if s.wit.lineA || s.wit.lineB then emit t (.oeLines false false) else t)
         (.oeLines (witLines (decidedState s)).1 (witLines (decidedState s)).2)) := by
    unfold witnessDecision
    rw [if_neg (by rw [h]; decide)]
    rfl
  rw [e]
  unfold lineLevels
  cases lineMoves s
  · simp [emit, State.setWit]
  · cases s.wit.lineA || s.wit.lineB <;> simp [emit, State.setWit]


theorem hbFailed_eq (x : Option Heartbeat) : hbFailed x = x.all fun h => !h.healthy || h.yielding := by cases x <;> rfl

theorem takeoverOk_eq (x : Option Heartbeat) :
    takeoverOk x = x.any fun h => h.healthy && !h.yielding && h.role == 2 && (h.synced || h.claim) := by cases x <;> rfl

theorem claimant_eq (x : Option Heartbeat) : claimant x = x.any fun h => h.healthy && !h.yielding && h.claim := by
  cases x <;> rfl

theorem hbActive_eq (x : Option Heartbeat) : hbActive x = x.any fun h => h.role == 1 := by cases x <;> rfl

/-- Reversion asks for a synced claimant and MATCH beside what a takeover asks for. -/
theorem reversionOk_eq (m : Bool) (x : Option Heartbeat) :
    reversionOk m x =
      x.any fun h => h.healthy && !h.yielding && h.role == 2 && h.synced && h.claim && m := by
  cases x with
  | none => simp [reversionOk]
  | some h =>
    simp only [reversionOk, takeoverOk, Option.any_some]
    cases h.synced <;> cases h.claim <;> cases m <;> simp

/-- The lines of a state: A is high in ACT_A alone, B in ACT_B alone. -/
theorem witLines_eq (st : WitState) : witLines st = (st == .actA, st == .actB) := by cases st <;> rfl

/-- The lines move to the other unit when the one that holds the grant has failed and the other may take over, or has
not and the other may take back. -/
theorem grant_moves {f t r : Bool} {x y : WitState} :
    (if f then (if t then y else x) else if r then y else x) = if (f && t) || (!f && r) then y else x := by
  cases f <;> cases t <;> cases r <;> rfl

theorem lineMoves_false {s : State} :
    lineMoves s = false ↔ (decidedWit s).lineA = s.wit.lineA ∧ (decidedWit s).lineB = s.wit.lineB := by
  simp [lineMoves, decidedWit]

/-- What the decision is, row by row of Table 18-5. -/
theorem decidedState_rows (s : State) :
    (s.wit.state = .none → decidedState s =
      if hbActive (judgedBy s).a then .actA else if hbActive (judgedBy s).b then .actB
      else if claimant (judgedBy s).a then .actA else if claimant (judgedBy s).b then .actB else .none) ∧
    (s.wit.state = .actA → decidedState s =
      if (hbFailed (judgedBy s).a && takeoverOk (judgedBy s).b) ||
        (!hbFailed (judgedBy s).a && reversionOk (judgedBy s).isMatch (judgedBy s).b) then .actB else .actA) ∧
    (s.wit.state = .actB → decidedState s =
      if (hbFailed (judgedBy s).b && takeoverOk (judgedBy s).a) ||
        (!hbFailed (judgedBy s).b && reversionOk (judgedBy s).isMatch (judgedBy s).a) then .actA else .actB) := by
  refine ⟨fun h => ?_, fun h => ?_, fun h => ?_⟩ <;> unfold decidedState <;> rw [h]
  · rfl
  · exact grant_moves
  · exact grant_moves

/-- Settles O47: the service keeps the right heartbeats, and its decision is `decidedWit`. -/
theorem witnessDecides : Obligations.WitnessDecides := by
  intro s hc
  refine ⟨fun line bs start => ⟨fun x hw hp hu => ?_, fun h => ?_⟩, fun h => ?_, fun h => ?_⟩
  · exact run_is (f := fun s => heartbeatReceive s (b2n line) bs start) (heartbeatReceive_right hw hp hu start) hc rfl rfl
  · refine run_is (f := fun s => heartbeatReceive s (b2n line) bs start) ?_ hc rfl rfl
    rcases h with h | h | ⟨x, hp, hu⟩
    · exact heartbeatReceive_off h _ _ _
    · exact heartbeatReceive_bad h _ _
    · exact heartbeatReceive_other hp hu _
  · exact run_is (f := witnessDecision) (by unfold witnessDecision; rw [if_pos (by rw [h]; rfl)]) hc rfl rfl
  · intro w a b same failed takes reverts claims holds
    obtain ⟨h0, hA, hB⟩ := decidedState_rows s
    simp only [hbActive_eq, claimant_eq, hbFailed_eq, takeoverOk_eq, reversionOk_eq] at h0 hA hB
    refine ⟨_, run_is (f := witnessDecision) (witnessDecision_on h) hc rfl rfl, rfl, ?_, ?_, ?_, ?_, ?_, rfl, rfl, rfl, rfl, rfl,
      ?_, ?_, ?_, ?_, ⟨decidedFrame s, rfl, rfl, rfl, rfl, rfl, rfl, rfl, ?_⟩, ?_, ?_⟩
    · exact h0
    · exact hA
    · exact hB
    · exact congrArg Prod.fst (witLines_eq _)
    · exact congrArg Prod.snd (witLines_eq _)
    · intro e
      exact if_neg (by rw [show (judgedBy s).a = none from e]; decide)
    · intro e
      exact if_neg (by rw [show (judgedBy s).b = none from e]; decide)
    · intro e
      have e' : (judgedBy s).a.isSome = true := Option.isSome_iff_ne_none.mpr e
      exact ⟨if_pos e', if_pos e'⟩
    · intro e
      have e' : (judgedBy s).b.isSome = true := Option.isSome_iff_ne_none.mpr e
      exact ⟨if_pos e', if_pos e'⟩
    · refine congrArg (s.emitted ++ [.witness (decidedFrame s).bytes] ++ ·) ?_
      cases hm : lineMoves s with
      | false => rw [if_pos (lineMoves_false.mp hm)]; unfold lineLevels; rw [hm]; rfl
      | true =>
        rw [if_neg (fun e => by rw [lineMoves_false.mpr e] at hm; cases hm)]
        unfold lineLevels
        rw [hm]
        rfl
    · intro e
      exact if_neg (by rw [lineMoves_false.mpr e]; decide)
    · intro e
      refine if_pos ?_
      rw [← Bool.not_eq_false]
      exact fun hm => e (lineMoves_false.mp hm)

end Sys2Proof.Machine
end

section
/-! A unit of a pair takes witness frames and its gate follows the witness (R420 to R425). -/

namespace Sys2Proof.Machine

/-! ## Commands that change the role and the gate alone -/

/-- Beside what `Beside` allows, nothing is mirrored and of the module's globals only the gate differs. -/
def Gated (s t : State) : Prop := Beside s t ∧ t.pr.outbox = s.pr.outbox ∧ t.glb = { s.glb with gate := t.glb.gate }

theorem Gated.trans {s t u : State} (h : Gated s t) (g : Gated t u) : Gated s u := by
  obtain ⟨hb, ho, hg⟩ := h
  obtain ⟨gb, go, gg⟩ := g
  exact ⟨hb.trans gb, go.trans ho, by rw [gg, hg]⟩

theorem gated_setPr (s : State) {f : Pair → Pair} (h : (f s.pr).outbox = s.pr.outbox) : Gated s (s.setPr f) :=
  ⟨beside_setPr s f, h, rfl⟩

theorem gated_event (s : State) (bits : Nat) : Gated s (raise s .PR_EVENT bits) := by
  refine ⟨beside_raise s bits (by decide) (by decide) (by decide), by rw [raise_pr], ?_⟩
  rw [raise_glb]

theorem gated_gate (s : State) (on : Bool) : Gated s (setGate s on) := by
  obtain ⟨hp, hg, -⟩ := gate_own s on
  exact ⟨beside_gate s on, by rw [hp], by rw [hg]⟩

theorem settled_outbox {s : State} (h : settled s = true) : s.pr.outbox = [] := by
  unfold settled at h
  simp only [Bool.and_eq_true, List.isEmpty_iff] at h
  exact h.1.1.1.1.1.2

/-- A command of a settled module that changes the role and the gate alone. -/
theorem run_gated {s t : State} {f : State → State} (e : f s = t) (h : Gated s t) (hs : settled s = true)
    (h1 : s.cio.sched.wf = true) (h2 : s.ses.ses.wf = true)
    (hg : t.glb.gate = s.glb.gate ∨ t.glb.gate = false ∨ s.saf.quiet ≠ some .inOrder) : run s f = .next t := by
  obtain ⟨hb, ho, hl⟩ := h
  exact run_beside e hb hs h1 h2 (by rw [hl]) (by rw [hl]) (by rw [hl]) (ho.trans (settled_outbox hs)) hg

/-! ## Witness frames -/

theorem witnessFrame_off {s : State} (h : unitOn s = false) (bs : List Byte) : witnessFrame s bs = s := by
  unfold witnessFrame
  exact if_pos (by rw [h]; rfl)

/-- An invalid frame is counted. -/
theorem witnessFrame_bad {s : State} {bs : List Byte} (h : unitOn s = true) (hp : parseWitFrame bs = none) :
    witnessFrame s bs = s.setPr fun p => { p with witBad := satInc 0xFFFF p.witBad } := by
  unfold witnessFrame
  rw [if_neg (by rw [h]; decide), hp]

/-- A frame of another stitch is invalid once this unit has a stitch number of its own. -/
theorem witnessFrame_stale {s : State} {bs : List Byte} {f : WitFrame} (h : unitOn s = true) (hp : parseWitFrame bs = some f)
    (ha : s.mix.audioOn = true) (hf : f.stitch ≠ s.mix.stitch % 65536) :
    witnessFrame s bs = s.setPr fun p => { p with witBad := satInc 0xFFFF p.witBad } := by
  have hv : frameValid s f = false := by simp [frameValid, ha, hf]
  unfold witnessFrame
  rw [if_neg (by rw [h]; decide), hp]
  exact if_pos (by rw [hv]; rfl)

/-- How many stitches the peer was not seen in, after a frame. -/
def unseenAfter (s : State) (f : WitFrame) : Nat := if f.peerSeen s then 0 else satInc 8 s.pr.unseen

/-- A frame as it is kept, before a claim of last resort is looked at. -/
def withFrame (s : State) (f : WitFrame) : State :=
  s.setPr fun p => { p with
    frame := some f, lastFrame := some f, witId := f.id, unseen := unseenAfter s f, resort := p.resort && !f.peerSeen s }

/-- A frame as it is kept. -/
def frameKept (s : State) (f : WitFrame) : State :=
  s.setPr fun p => { p with
    frame := some f, lastFrame := some f, witId := f.id, unseen := unseenAfter s f
    resort := (p.resort && !f.peerSeen s) || (p.state == .unsynced && fb s .PR_CFG_LAST_RESORT &&
      decide (8 ≤ unseenAfter s f) && (p.cause == 1 || p.cause == 2)) }

/-- A claim of last resort stands until the peer is seen, or is made (R425). -/
theorem noteResort_frame (s : State) (f : WitFrame) : noteResort (withFrame s f) = frameKept s f := by
  have e : lastResort (withFrame s f) = ((s.pr.resort && !f.peerSeen s) || (fb s .PR_CFG_LAST_RESORT &&
      decide (8 ≤ unseenAfter s f) && (s.pr.cause == 1 || s.pr.cause == 2))) := rfl
  unfold noteResort
  rw [e, show (withFrame s f).pr.state = s.pr.state from rfl]
  unfold withFrame frameKept State.setPr
  by_cases hst : s.pr.state = .unsynced
  · simp only [hst, beq_self_eq_true, Bool.true_and, true_and]
    cases s.pr.resort && !f.peerSeen s <;>
      cases fb s .PR_CFG_LAST_RESORT && decide (8 ≤ unseenAfter s f) && (s.pr.cause == 1 || s.pr.cause == 2) <;> rfl
  · rw [if_neg fun q => hst q.1]
    simp [hst]

/-- A valid frame is kept for the gate, and shows whether the peer is seen. -/
theorem witnessFrame_valid {s : State} {bs : List Byte} {f : WitFrame} (h : unitOn s = true) (hp : parseWitFrame bs = some f)
    (hv : s.mix.audioOn = false ∨ f.stitch = s.mix.stitch % 65536) (hc : ¬ (s.pr.state = .claiming ∧ f.peerOe s = true)) :
    witnessFrame s bs = frameKept s f := by
  have hv' : frameValid s f = true := by rcases hv with e | e <;> simp [frameValid, e]
  have e : witnessFrame s bs = (let t := noteResort (withFrame s f)
      if t.pr.state = .claiming ∧ f.peerOe t then beginJoin (dropAudio t) else t) := by
    unfold witnessFrame
    rw [if_neg (by rw [h]; decide), hp]
    dsimp only
    rw [if_neg (by rw [hv']; decide)]
    rfl
  rw [e, noteResort_frame]
  exact if_neg hc

/-! ## The gate -/

theorem gateUpdate_off {s : State} (h : unitOn s = false) : gateUpdate s = s := by
  unfold gateUpdate
  exact if_pos (by rw [h]; rfl)

/-- A stitch without a valid frame, as it counts. -/
def missNoted (s : State) : State :=
  s.setPr fun p => { p with
    missed := satInc 0xFFFF p.missed, missRun := p.missRun + 1, agreeRun := 0, otherRun := 0, unseen := 0 }

/-- The third stitch without a valid frame freezes the unit. -/
theorem gateUpdate_missed {s : State} (h : unitOn s = true) (hf : s.pr.frame = none) :
    gateUpdate s = if 2 ≤ s.pr.missRun ∧ s.pr.frozen = false then
      raise ((missNoted s).setPr fun p => { p with frozen := true, witOk := false, matchCnt := 0, wtrFrom := none })
        .PR_EVENT 0x10
    else missNoted s := by
  have e : gateUpdate s = frameMissed s := by
    unfold gateUpdate
    rw [if_neg (by rw [h]; decide), hf]
  rw [e]
  refine if_congr ?_ rfl rfl
  show 3 ≤ s.pr.missRun + 1 ∧ (!s.pr.frozen) = true ↔ _
  rw [Bool.not_eq_true']
  exact and_congr_left fun _ => by omega

/-- A valid frame has come: nothing is missed. -/
def frameUsed (s : State) : State := s.setPr fun p => { p with frame := none, missRun := 0 }

theorem gateUpdate_frozen {s : State} {f : WitFrame} (h : unitOn s = true) (hf : s.pr.frame = some f)
    (hz : s.pr.frozen = true) : gateUpdate s = frameFrozen (frameUsed s) (f.ownOe s) := by
  unfold gateUpdate
  rw [if_neg (by rw [h]; decide), hf]
  exact if_pos hz

theorem gateUpdate_frame {s : State} {f : WitFrame} (h : unitOn s = true) (hf : s.pr.frame = some f)
    (hz : s.pr.frozen = false) :
    gateUpdate s = gateFollow ((frameUsed s).setPr fun p => { p with witOk := true }) (f.ownOe s) := by
  unfold gateUpdate
  rw [if_neg (by rw [h]; decide), hf]
  exact if_neg (by show ¬ s.pr.frozen = true; rw [hz]; decide)

/-- The 64th frame in a row that agrees with the gate ends FROZEN. -/
theorem frameFrozen_agrees {s : State} {oe : Bool} (h : oe = s.glb.gate) :
    frameFrozen s oe = if 63 ≤ s.pr.agreeRun then
      raise (s.setPr fun p => { p with frozen := false, witOk := true, agreeRun := 0, otherRun := 0 }) .PR_EVENT 0x10
    else s.setPr fun p => { p with agreeRun := p.agreeRun + 1, otherRun := 0 } := by
  unfold frameFrozen
  rw [if_pos h]
  exact if_congr (by omega) rfl rfl

/-- The 64th frame in a row of the other level raises WIT_MISMATCH. -/
theorem frameFrozen_differs {s : State} {oe : Bool} (h : oe ≠ s.glb.gate) :
    frameFrozen s oe = (let w := s.setPr fun p => { p with agreeRun := 0, otherRun := p.otherRun + 1 }
      if s.pr.otherRun = 63 then raise w .PR_EVENT 0x100 else w) := by
  unfold frameFrozen raiseIf
  rw [if_neg h]
  refine if_congr ?_ rfl rfl
  rw [beq_iff_eq]
  omega

theorem lineSteady_iff (s : State) (oe : Bool) :
    lineSteady s oe = true ↔ s.pr.line = oe ∧ s.pr.lineAt + 3500 ≤ s.now := by
  simp [lineSteady]

theorem gateFollow_stays {s : State} {oe : Bool}
    (h : oe = s.glb.gate ∨ ¬ (s.pr.line = oe ∧ s.pr.lineAt + 3500 ≤ s.now)) : gateFollow s oe = s := by
  unfold gateFollow
  refine if_pos (h.imp_right fun q => ?_)
  rw [Bool.not_eq_true']
  exact Bool.eq_false_iff.mpr fun e => q ((lineSteady_iff s oe).mp e)

/-- The states in which the gate may rise (R420). -/
theorem mayRise_iff (s : State) : mayRise s = true ↔ s.pr.state = .claiming ∨ s.pr.state = .standby ∨
    s.pr.state = .unsynced ∨ s.pr.riseStands = true ∧ (s.pr.state = .joining ∨ s.pr.state = .yielded) := by
  unfold mayRise
  cases s.pr.state <;> simp

theorem gateFollow_rise {s : State} (hg : s.glb.gate = false) (hs : s.pr.line = true ∧ s.pr.lineAt + 3500 ≤ s.now) :
    gateFollow s true = if mayRise s = true ∧ s.glb.mode ≠ .quiet then setGate s true else s := by
  unfold gateFollow
  rw [if_neg (by rw [hg, (lineSteady_iff s true).mpr hs]; decide)]
  rfl

theorem gateFollow_fall {s : State} (hg : s.glb.gate = true) (hs : s.pr.line = false ∧ s.pr.lineAt + 3500 ≤ s.now) :
    gateFollow s false = if s.pr.state = .yielded then yieldDone (setGate s false) else setGate s false := by
  unfold gateFollow
  rw [if_neg (by rw [hg, (lineSteady_iff s false).mpr hs]; decide), if_neg (by decide)]
  dsimp only
  rw [(gate_own s false).1]

/-- A yielding unit that does not remove itself has only its yield to end. -/
theorem yieldDone_stays {s : State} (h : s.pl.eject = false) :
    yieldDone s = s.setPr fun p => { p with yieldRun := none } :=
  if_neg (by show ¬ s.pl.eject = true; rw [h]; decide)

theorem gate_pl (s : State) (on : Bool) : (setGate s on).pl = s.pl := by rw [(beside_gate s on).1]

theorem yieldTimeout_due {s : State} {n : Nat} (h : s.pr.yieldRun = some n) (hs : s.pr.state = .yielded) (hn : 64 ≤ n)
    (hg : s.glb.gate = true) : yieldTimeout s = yieldDone (setGate s false) := by
  unfold yieldTimeout
  rw [h]
  exact if_pos ⟨hs, hn, hg⟩

theorem yieldTimeout_idle {s : State} (h : ∀ n, s.pr.yieldRun = some n → s.pr.state = .yielded → 64 ≤ n → s.glb.gate = false) :
    yieldTimeout s = s := by
  unfold yieldTimeout
  split
  · rename_i n hn
    exact if_neg fun ⟨hs, h64, hg⟩ => by rw [h n hn hs h64] at hg; cases hg
  · rfl

/-- The level of the OE_ALLOW line and its instant. -/
def lineNoted (s : State) (level : Bool) : State := s.setPr fun p => { p with line := level, lineAt := s.now }

theorem oePin_noted {s : State} (h : isPair s = true ∨ isWitness s = true ∨ s.glb.inReset = true) (level : Bool) :
    oePin s level = lineNoted s level := by
  unfold oePin
  exact if_pos (h.imp_right fun q => q.imp_right .inl)

/-- Alone the gate follows the pin (R421). -/
theorem oePin_alone {s : State} (hp : isPair s = false) (hw : isWitness s = false) (hr : s.glb.inReset = false)
    (hq : s.glb.mode ≠ .quiet) (level : Bool) : oePin s level = setGate (lineNoted s level) level := by
  unfold oePin
  refine if_neg ?_
  rintro (h | h | h | h)
  · rw [show isPair s = true from h] at hp; cases hp
  · rw [show isWitness s = true from h] at hw; cases hw
  · rw [show s.glb.inReset = true from h] at hr; cases hr
  · simp only [Bool.and_eq_true, beq_iff_eq] at h
    exact hq h.1

/-- Settles O48: frames are kept and the gate follows them, by the branches of `gateUpdate`. -/
theorem gateFollowsWitness : Obligations.GateFollowsWitness := by
  intro s hs h1 h2
  have still : ∀ {t : State} {f : State → State}, f s = t → Gated s t → t.glb.gate = s.glb.gate → run s f = .next t :=
    fun e g hg => run_gated e g hs h1 h2 (.inl hg)
  refine ⟨fun bs => ?_, fun h => ?_, fun h hf => ?_, fun f h hf => ?_, fun n hy hst hn hg he => ?_, fun h => ?_, fun level => ?_⟩
  · intro bad
    refine ⟨fun h => ?_, fun h hp => ?_, fun f h hp => ⟨fun ha hn => ?_, fun hv hc => ?_⟩⟩
    · exact run_idle (f := fun s => witnessFrame s bs) (witnessFrame_off h bs) hs h1 h2
    · exact still (f := fun s => witnessFrame s bs) (witnessFrame_bad h hp) (gated_setPr s rfl) rfl
    · exact still (f := fun s => witnessFrame s bs) (witnessFrame_stale h hp ha hn) (gated_setPr s rfl) rfl
    · exact still (f := fun s => witnessFrame s bs) (witnessFrame_valid h hp hv hc) (gated_setPr s rfl) rfl
  · exact run_idle (f := gateUpdate) (gateUpdate_off h) hs h1 h2
  · refine still (f := gateUpdate) (gateUpdate_missed h hf) ?_ ?_
    · split
      · exact ((gated_setPr s rfl).trans (gated_setPr _ rfl)).trans (gated_event _ _)
      · exact gated_setPr s rfl
    · split
      · rw [raise_glb]; rfl
      · rfl
  · intro u oe steady v
    have hu : Gated s u := gated_setPr s rfl
    have hv : Gated s v := hu.trans (gated_setPr u rfl)
    refine ⟨fun hz ho => ?_, fun hz ho => ?_, fun hz ho => ?_, fun hz ho hst hoe hq => ⟨fun hm => ?_, fun hm => ?_⟩,
      fun hz ho hst hoe => ⟨fun hy => ?_, fun hy he => ?_⟩⟩
    · refine still (f := gateUpdate) ((gateUpdate_frozen h hf hz).trans (frameFrozen_agrees ho)) ?_ ?_
      · split
        · exact (hu.trans (gated_setPr u rfl)).trans (gated_event _ _)
        · exact hu.trans (gated_setPr u rfl)
      · split
        · rw [raise_glb]; rfl
        · rfl
    · refine still (f := gateUpdate) ((gateUpdate_frozen h hf hz).trans (frameFrozen_differs ho)) ?_ ?_
      · split
        · exact (hu.trans (gated_setPr u rfl)).trans (gated_event _ _)
        · exact hu.trans (gated_setPr u rfl)
      · split
        · rw [raise_glb]; rfl
        · rfl
    · exact still (f := gateUpdate) ((gateUpdate_frame h hf hz).trans (gateFollow_stays ho)) hv rfl
    · have hg : s.glb.gate = false := by rw [Bool.eq_not.mpr (Ne.symm ho), hoe]; rfl
      have hst' : v.pr.line = true ∧ v.pr.lineAt + 3500 ≤ v.now := hoe ▸ hst
      have e := (gateUpdate_frame h hf hz).trans ((congrArg (gateFollow v) hoe).trans (gateFollow_rise (s := v) hg hst'))
      rw [if_pos ⟨(mayRise_iff v).mpr hm.1, hm.2⟩] at e
      exact ⟨run_gated (f := gateUpdate) e (hv.trans (gated_gate v true)) hs h1 h2 (.inr (.inr (by rw [hq]; decide))),
        by rw [(gate_own v true).2.1]⟩
    · have hg : s.glb.gate = false := by rw [Bool.eq_not.mpr (Ne.symm ho), hoe]; rfl
      have hst' : v.pr.line = true ∧ v.pr.lineAt + 3500 ≤ v.now := hoe ▸ hst
      have e := (gateUpdate_frame h hf hz).trans ((congrArg (gateFollow v) hoe).trans (gateFollow_rise (s := v) hg hst'))
      rw [if_neg fun q => hm ⟨(mayRise_iff v).mp q.1, q.2⟩] at e
      exact still (f := gateUpdate) e hv rfl
    · have hg : s.glb.gate = true := by rw [Bool.eq_not.mpr (Ne.symm ho), hoe]; rfl
      have hst' : v.pr.line = false ∧ v.pr.lineAt + 3500 ≤ v.now := hoe ▸ hst
      have e := (gateUpdate_frame h hf hz).trans ((congrArg (gateFollow v) hoe).trans (gateFollow_fall (s := v) hg hst'))
      rw [if_neg (show ¬ v.pr.state = .yielded from hy)] at e
      have hl : (setGate v false).glb.gate = false := by rw [(gate_own v false).2.1]
      exact ⟨run_gated (f := gateUpdate) e (hv.trans (gated_gate v false)) hs h1 h2 (.inr (.inl hl)), hl⟩
    · have hg : s.glb.gate = true := by rw [Bool.eq_not.mpr (Ne.symm ho), hoe]; rfl
      have hst' : v.pr.line = false ∧ v.pr.lineAt + 3500 ≤ v.now := hoe ▸ hst
      have e := (gateUpdate_frame h hf hz).trans ((congrArg (gateFollow v) hoe).trans (gateFollow_fall (s := v) hg hst'))
      rw [if_pos (show v.pr.state = .yielded from hy), yieldDone_stays (by rw [gate_pl]; exact he)] at e
      have hl : (setGate v false).glb.gate = false := by rw [(gate_own v false).2.1]
      exact run_gated (f := gateUpdate) e ((hv.trans (gated_gate v false)).trans (gated_setPr _ rfl)) hs h1 h2 (.inr (.inl hl))
  · have e := yieldTimeout_due hy hst hn hg
    rw [yieldDone_stays (by rw [gate_pl]; exact he)] at e
    have hl : (setGate s false).glb.gate = false := by rw [(gate_own s false).2.1]
    exact ⟨run_gated (f := yieldTimeout) e ((gated_gate s false).trans (gated_setPr _ rfl)) hs h1 h2 (.inr (.inl hl)), hl⟩
  · exact run_idle (f := yieldTimeout) (yieldTimeout_idle h) hs h1 h2
  · intro u
    refine ⟨fun h => ?_, fun hp hw hr hm hq => ?_⟩
    · exact still (f := fun s => oePin s level) (oePin_noted h level) (gated_setPr s rfl) rfl
    · exact ⟨run_gated (f := fun s => oePin s level) (oePin_alone hp hw hr hm level)
        ((gated_setPr s rfl).trans (gated_gate _ level)) hs h1 h2 (.inr (.inr (by rw [hq]; decide))), by rw [(gate_own u level).2.1]⟩

end Sys2Proof.Machine
end

section
/-! A unit of a pair changes its state: what each change may touch, and what it leaves of its role (Table 18-6, 18-7). -/

namespace Sys2Proof.Machine

/-! ## Flags of the pair stay -/

/-- A flag that is up stays up when others are raised. -/
theorem bit_or_stays {a : Word} (k : Nat) {b : Nat} (h : bit a b = true) : bit (word (a.toNat ||| k)) b = true := by
  rw [bit_eq_testBit] at h ⊢
  have hb : b < 32 := by
    by_contra hb
    rw [Nat.testBit_lt_two_pow (Nat.lt_of_lt_of_le a.isLt (Nat.pow_le_pow_right (by decide) (Nat.le_of_not_lt hb)))] at h
    cases h
  rw [word, BitVec.toNat_ofNat, Nat.testBit_mod_two_pow, Nat.testBit_or, h]
  simp [hb]

/-- The register map stays well formed, and every flag of PR_EVENT that is up stays up. -/
def EventsStay (s t : State) : Prop :=
  s.rf.regs.wf = true → t.rf.regs.wf = true ∧ ∀ b, bit (rd s .PR_EVENT) b = true → bit (rd t .PR_EVENT) b = true

theorem EventsStay.of_rf {s t : State} (h : t.rf = s.rf) : EventsStay s t := by
  intro hw
  unfold rd
  rw [h]
  exact ⟨hw, fun _ q => q⟩

theorem EventsStay.trans {s t u : State} (h : EventsStay s t) (g : EventsStay t u) : EventsStay s u := fun hw =>
  ⟨(g (h hw).1).1, fun b q => (g (h hw).1).2 b ((h hw).2 b q)⟩

theorem eventsStay_event (s : State) (bits : Nat) : EventsStay s (raise s .PR_EVENT bits) := fun hw =>
  ⟨raise_wf hw _ _ _, fun b q => by rw [rd_raise_self hw]; exact bit_or_stays bits q⟩

theorem eventsStay_raise (s : State) {r : Reg} (bits : Nat) (hr : Reg.PR_EVENT ≠ r) (hi : 0 < (desc r).n1) (hj : 0 < (desc r).n2) :
    EventsStay s (raise s r bits) := fun hw =>
  ⟨raise_wf hw _ _ _, fun b q => by rw [rd_raise_ne s bits (addr_ne hr hi hj (by decide) (by decide))]; exact q⟩

theorem bit_event {s : State} (hw : s.rf.regs.wf = true) {bits b : Nat} (hb : b < 32) (hk : bits.testBit b = true) :
    bit (rd (raise s .PR_EVENT bits) .PR_EVENT) b = true := by
  rw [rd_raise_self hw]
  exact bit_or hb hk

/-! ## Changes of role -/

/-- Beside what `Beside` allows, only streams' senders differ, the gate does not rise, flags of the pair stay, and the
lining and what is to be mirrored are as they were. -/
structure RoleStep (s t : State) : Prop where
  beside : Beside s t
  str : t.str = { s.str with tx := t.str.tx, tails := t.str.tails }
  mode : t.glb.mode = s.glb.mode
  cfgFault : t.glb.cfgFault = s.glb.cfgFault
  led : t.glb.ledEject = s.glb.ledEject
  gate : t.glb.gate = s.glb.gate ∨ t.glb.gate = false
  straps : t.glb.straps = s.glb.straps
  outbox : t.pr.outbox = s.pr.outbox
  events : EventsStay s t

theorem RoleStep.refl (s : State) : RoleStep s s :=
  ⟨Beside.refl s, rfl, rfl, rfl, rfl, .inl rfl, rfl, rfl, EventsStay.of_rf rfl⟩

theorem RoleStep.trans {s t u : State} (h : RoleStep s t) (g : RoleStep t u) : RoleStep s u where
  beside := h.beside.trans g.beside
  str := by rw [g.str, h.str]
  mode := g.mode.trans h.mode
  cfgFault := g.cfgFault.trans h.cfgFault
  led := g.led.trans h.led
  gate := by
    rcases g.gate with e | e
    · rw [e]; exact h.gate
    · exact .inr e
  straps := g.straps.trans h.straps
  outbox := g.outbox.trans h.outbox
  events := h.events.trans g.events

theorem roleStep_setPr (s : State) {f : Pair → Pair} (h : (f s.pr).outbox = s.pr.outbox) : RoleStep s (s.setPr f) :=
  ⟨beside_setPr s f, rfl, rfl, rfl, rfl, .inl rfl, rfl, h, EventsStay.of_rf rfl⟩

theorem roleStep_event (s : State) (bits : Nat) : RoleStep s (raise s .PR_EVENT bits) where
  beside := beside_raise s bits (by decide) (by decide) (by decide)
  str := by rw [raise_str]
  mode := by rw [raise_glb]
  cfgFault := by rw [raise_glb]
  led := by rw [raise_glb]
  gate := .inl (by rw [raise_glb])
  straps := by rw [raise_glb]
  outbox := by rw [raise_pr]
  events := eventsStay_event s bits

theorem roleStep_emit (s : State) (e : Emission) : RoleStep s (emit s e) :=
  ⟨beside_emit s e, rfl, rfl, rfl, rfl, .inl rfl, rfl, rfl, EventsStay.of_rf rfl⟩

theorem roleStep_lining (s : State) (m : LinMsg) : RoleStep s (lining s m) := by
  unfold lining
  split
  · exact roleStep_emit s _
  · exact RoleStep.refl s

theorem lining_pr (s : State) (m : LinMsg) : (lining s m).pr = s.pr ∧ (lining s m).glb = s.glb ∧ (lining s m).rf = s.rf ∧
    (lining s m).pl = s.pl := by
  unfold lining
  split <;> exact ⟨rfl, rfl, rfl, rfl⟩

theorem roleStep_gateOff (s : State) : RoleStep s (setGate s false) := by
  obtain ⟨hp, hg, hr⟩ := gate_own s false
  have hb := beside_gate s false
  have hs : (setGate s false).str = s.str := by
    unfold setGate
    split
    · rfl
    · have a : ∀ u : State, (coGateAll u).str = u.str := fun u =>
        forEach_rel (R := fun s t => t.str = s.str) (fun _ => rfl) (fun f g => g.trans f) (fun k s => by
          split
          · unfold coSettle; dsimp only
            split
            · rfl
            · split <;> rfl
          · rfl) _ u
      have b : ∀ u : State, (laneGate u).str = u.str := fun u =>
        forEach_rel (R := fun s t => t.str = s.str) (fun _ => rfl) (fun f g => g.trans f) (fun e s => by exact rfl) _ u
      exact (a _).trans (b _)
  exact ⟨hb, by rw [hs], by rw [hg], by rw [hg], by rw [hg], .inr (by rw [hg]), by rw [hg], by rw [hp], EventsStay.of_rf hr⟩

/-- Senders alone learn of the role. -/
theorem txRole_frame (s : State) (was : Bool) :
    txRole s was = { s with str := { s.str with tx := (txRole s was).str.tx, tails := (txRole s was).str.tails } } := by
  unfold txRole
  split <;> rfl

/-- What a state of the unit lets it do (Table 18-6). -/
def powersOf (s : State) (g : Glb) : Glb :=
  if s.pr.state = .solo then { g with passive := false, active := true, sendA := true, sendB := true, sendOne := true }
  else if s.pr.leaving then { g with passive := true }
  else
    let own := s.pr.state == .active || s.pr.state == .standby
    { g with
      passive := s.pr.state != .active, active := s.pr.state == .active
      sendA := own && !unitB s, sendB := own && unitB s, sendOne := s.pr.state == .active }

theorem powersOf_kept (s : State) (g : Glb) : powersOf s g = { g with
    passive := (powersOf s g).passive, active := (powersOf s g).active, sendA := (powersOf s g).sendA
    sendB := (powersOf s g).sendB, sendOne := (powersOf s g).sendOne } := by
  unfold powersOf
  (repeat' split) <;> rfl

/-- The powers change the module's globals and what senders know of the role. -/
theorem rolePowers_frame (s : State) : rolePowers s = { s with
    glb := powersOf s s.glb
    str := { s.str with tx := (rolePowers s).str.tx, tails := (rolePowers s).str.tails } } :=
  txRole_frame (s.setGlb (powersOf s)) s.glb.sendOne

theorem roleStep_powers (s : State) : RoleStep s (rolePowers s) := by
  have e := rolePowers_frame s
  have k := powersOf_kept s s.glb
  have hg : (rolePowers s).glb = powersOf s s.glb := by rw [e]
  refine ⟨beside_powers s, ?_, ?_, ?_, ?_, .inl ?_, ?_, by rw [e], EventsStay.of_rf (by rw [e])⟩
  · exact congrArg State.str e
  all_goals rw [hg, k]

/-- A command of a settled module that changes its role. -/
theorem run_role {s t : State} {f : State → State} (e : f s = t) (h : RoleStep s t) (hs : settled s = true)
    (h1 : s.cio.sched.wf = true) (h2 : s.ses.ses.wf = true) : run s f = .next t :=
  run_beside e h.beside hs h1 h2 h.mode h.cfgFault h.led (h.outbox.trans (settled_outbox hs))
    (h.gate.imp_right .inl)

/-! ## What a role that ends leaves -/

/-- The unit sends nothing, takes no writes, and claims and matches nothing. -/
structure Silenced (t : State) : Prop where
  passive : t.glb.passive = true
  active : t.glb.active = false
  sendA : t.glb.sendA = false
  sendB : t.glb.sendB = false
  sendOne : t.glb.sendOne = false
  matchCnt : t.pr.matchCnt = 0
  wtrFrom : t.pr.wtrFrom = none
  claim : t.pr.claim = false

/-- What a state other than ACTIVE, STANDBY and alone lets the unit do, once no role is to be given up. -/
theorem powersOf_silent {s : State} (h0 : s.pr.state ≠ .solo) (h1 : s.pr.state ≠ .active) (h2 : s.pr.state ≠ .standby)
    (hl : s.pr.leaving = false) (g : Glb) :
    powersOf s g = { g with passive := true, active := false, sendA := false, sendB := false, sendOne := false } := by
  unfold powersOf
  rw [if_neg h0, if_neg (by rw [hl]; decide)]
  simp [h1, h2]

/-- The pair as it enters a state. -/
def entered (p : Pair) (st : PrState) : Pair :=
  { p with
    state := st, matchCnt := 0, wtrFrom := none, leaving := p.state == .active && st == .yielded
    claim := p.claim && st == .standby, resort := p.resort && st == .unsynced
    cause := if st = .unsynced ∨ st = .joining then p.cause else 0
    peerSync := p.peerSync && p.state != .active }

/-- A change of state, stage by stage. -/
theorem prState_eq {s : State} {st : PrState} (h : s.pr.state ≠ st) : prState s st =
    let leaves := s.pr.state == .active && st == .yielded
    let u := rolePowers (s.setPr fun p => entered p st)
    let u := if (s.pr.state == .active) != (st == .active) ∧ !leaves then roleChange u else u
    let u := if (s.pr.state == .standby) != (st == .standby) then lining (raise u .PR_EVENT 8) (.peer (st == .standby)) else u
    if st = .active then takeActive u else if s.pr.state = .active ∧ !leaves then leaveActive u else u := by
  unfold prState
  exact if_neg h

/-- Leaving STANDBY is raised and told to the peer. -/
def syncLeft (s : State) (old : PrState) : State :=
  if old = .standby then lining (raise s .PR_EVENT 8) (.peer false) else s

/-- Into JOINING or UNSYNCED from a state other than ACTIVE: only leaving STANDBY is raised and told to the peer. -/
theorem prState_left {s : State} {st : PrState} (hst : st = .joining ∨ st = .unsynced) (ha : s.pr.state ≠ .active)
    (hne : s.pr.state ≠ st) :
    prState s st = syncLeft (rolePowers (s.setPr fun p => entered p st)) s.pr.state := by
  have h1 : (s.pr.state == .active) = false := by simp [ha]
  have h2 : (st == .active) = false := by rcases hst with rfl | rfl <;> rfl
  have h3 : (st == .standby) = false := by rcases hst with rfl | rfl <;> rfl
  have h4 : st ≠ .active := by rcases hst with rfl | rfl <;> decide
  rw [prState_eq hne]
  dsimp only
  rw [if_neg h4, if_neg fun q => ha q.1, h1, h2, h3, Bool.bne_false]
  exact if_congr beq_iff_eq rfl rfl

theorem rolePowers_pr (s : State) : (rolePowers s).pr = s.pr := (powers_own s).1

theorem syncLeft_pr (s : State) (old : PrState) : (syncLeft s old).pr = s.pr := by
  unfold syncLeft
  split
  · rw [(lining_pr _ _).1, raise_pr]
  · rfl

theorem syncLeft_glb (s : State) (old : PrState) : (syncLeft s old).glb = s.glb := by
  unfold syncLeft
  split
  · rw [(lining_pr _ _).2.1, raise_glb]
  · rfl

theorem roleStep_syncLeft (s : State) (old : PrState) : RoleStep s (syncLeft s old) := by
  unfold syncLeft
  split
  · exact (roleStep_event s 8).trans (roleStep_lining _ _)
  · exact RoleStep.refl s

/-- What the end of a role in JOINING or UNSYNCED comes to. -/
structure Left (s t : State) (st : PrState) : Prop where
  step : RoleStep s t
  silenced : Silenced t
  pr : t.pr = entered s.pr st
  sync : s.pr.state = .standby → s.rf.regs.wf = true → bit (rd t .PR_EVENT) 3 = true
  told : t.emitted = s.emitted ++
    if s.pr.state = .standby ∧ isPair s = true ∧ s.pr.linUp = true then [.lining (.peer false)] else []

theorem prState_leaves {s : State} {st : PrState} (hst : st = .joining ∨ st = .unsynced) (ha : s.pr.state ≠ .active)
    (hne : s.pr.state ≠ st) : Left s (prState s st) st := by
  rw [prState_left hst ha hne]
  set u := s.setPr fun p => entered p st with hu
  have hl : u.pr.leaving = false := by
    show (s.pr.state == .active && st == .yielded) = false
    simp [ha]
  have hno {x : PrState} (h1 : x ≠ .joining) (h2 : x ≠ .unsynced) : u.pr.state ≠ x := by
    rintro rfl
    exact hst.elim h1 h2
  have hpow : (rolePowers u).glb = _ := (congrArg State.glb (rolePowers_frame u)).trans
    (powersOf_silent (hno (by decide) (by decide)) (hno (by decide) (by decide)) (hno (by decide) (by decide)) hl u.glb)
  have hpr : (syncLeft (rolePowers u) s.pr.state).pr = entered s.pr st := by
    rw [syncLeft_pr, rolePowers_pr]; rfl
  have hstep : RoleStep s (rolePowers u) := (roleStep_setPr s rfl).trans (roleStep_powers u)
  refine ⟨hstep.trans (roleStep_syncLeft _ _), ⟨?_, ?_, ?_, ?_, ?_, ?_, ?_, ?_⟩, hpr, fun hs hw => ?_, ?_⟩
  · rw [syncLeft_glb, hpow]
  · rw [syncLeft_glb, hpow]
  · rw [syncLeft_glb, hpow]
  · rw [syncLeft_glb, hpow]
  · rw [syncLeft_glb, hpow]
  · rw [hpr]; rfl
  · rw [hpr]; rfl
  · rw [hpr]
    show (s.pr.claim && st == .standby) = false
    rcases hst with rfl | rfl <;> exact Bool.and_false _
  · unfold syncLeft rd
    rw [if_pos hs, (lining_pr _ _).2.2.1]
    exact bit_event (hstep.events hw).1 (by decide) (by decide)
  · have he : (rolePowers u).emitted = s.emitted := by rw [rolePowers_frame u]; rfl
    have hp : isPair (rolePowers u) = isPair s := by unfold isPair; rw [hstep.straps]
    have hlin : (rolePowers u).pr.linUp = s.pr.linUp := by rw [rolePowers_pr]; rfl
    unfold syncLeft
    by_cases hs : s.pr.state = .standby
    · rw [if_pos hs]
      unfold lining
      rw [raise_pr, hlin, show isPair (raise (rolePowers u) .PR_EVENT 8) = isPair s by unfold isPair at hp ⊢; rw [raise_glb, hp]]
      by_cases hc : isPair s = true ∧ s.pr.linUp = true
      · rw [if_pos (by rw [hc.1, hc.2]; rfl), if_pos ⟨hs, hc⟩]
        show (raise (rolePowers u) .PR_EVENT 8).emitted ++ _ = _
        rw [raise_emitted, he]
      · rw [if_neg (by simpa using hc), if_neg fun q => hc q.2, raise_emitted, he, List.append_nil]
    · rw [if_neg hs, if_neg fun q => hs q.1, he, List.append_nil]

/-! ## Into UNSYNCED, and into a join -/

/-- A claim of last resort touches the role alone. -/
theorem noteResort_eq (s : State) : ∃ r, noteResort s = s.setPr fun p => { p with resort := r } := by
  unfold noteResort
  split
  · exact ⟨true, rfl⟩
  · exact ⟨s.pr.resort, rfl⟩

/-- The unit that was in `s` is UNSYNCED of a cause. -/
structure Unsynced (s t : State) (cause : Nat) : Prop where
  step : RoleStep s t
  silenced : Silenced t
  state : t.pr.state = .unsynced
  cause_eq : t.pr.cause = cause
  join : t.pr.join = none
  linUp : t.pr.linUp = s.pr.linUp
  peerSync : t.pr.peerSync = s.pr.peerSync
  sync : s.pr.state = .standby → s.rf.regs.wf = true → bit (rd t .PR_EVENT) 3 = true

theorem unsync_ends {s : State} (ha : s.pr.state ≠ .active) (hu : s.pr.state ≠ .unsynced) (cause : Nat) :
    Unsynced s (unsync s cause) cause := by
  have h := prState_leaves (s := s.setPr fun p => { p with join := none, cause := cause }) (.inr rfl) ha hu
  obtain ⟨hstep, ⟨p1, p2, p3, p4, p5, p6, p7, p8⟩, hpr, hsync, -⟩ := h
  unfold unsync
  set v := prState (s.setPr fun p => { p with join := none, cause := cause }) .unsynced with hv
  obtain ⟨r, e⟩ := noteResort_eq v
  rw [e]
  refine ⟨((roleStep_setPr s rfl).trans hstep).trans (roleStep_setPr v rfl), ⟨p1, p2, p3, p4, p5, p6, p7, p8⟩, ?_, ?_, ?_, ?_, ?_, hsync⟩
  · show v.pr.state = _; rw [hpr]; rfl
  · show v.pr.cause = _; rw [hpr]; rfl
  · show v.pr.join = _; rw [hpr]; rfl
  · show v.pr.linUp = _; rw [hpr]; rfl
  · show v.pr.peerSync = _
    rw [hpr]
    show (s.pr.peerSync && s.pr.state != .active) = _
    simp [ha]

/-- The unit before it asks: in JOINING, its join begun now. -/
def joinBegun (s : State) : State := prState (s.setPr fun p => { p with join := some { from_ := s.now } }) .joining

theorem beginJoin_eq (s : State) : beginJoin s =
    if !(joinBegun s).pr.linUp then unsync (joinBegun s) 2
    else if (joinBegun s).pr.peerDigest ≠ [] ∧ (joinBegun s).pr.peerDigest ≠ (joinBegun s).pl.digest then
      unsync (raise (joinBegun s) .PR_EVENT 0x80) 3
    else lining (joinBegun s) (.joinAsk (joinBegun s).pl.digest) := rfl

theorem joinBegun_left {s : State} (ha : s.pr.state ≠ .active) (hj : s.pr.state ≠ .joining) :
    Left (s.setPr fun p => { p with join := some { from_ := s.now } }) (joinBegun s) .joining := prState_leaves (.inl rfl) ha hj

/-- A join that ends as it begins. -/
theorem Unsynced.of_join {s u : State} {cause : Nat} (ha : s.pr.state ≠ .active) (hj : s.pr.state ≠ .joining)
    (hu : RoleStep (joinBegun s) u) (hp : u.pr = (joinBegun s).pr) :
    Unsynced s (unsync u cause) cause := by
  obtain ⟨hstep, -, hpr, hsync, -⟩ := joinBegun_left ha hj
  have hst : u.pr.state = .joining := by rw [hp, hpr]; rfl
  obtain ⟨ustep, usil, ustate, ucause, ujoin, ulin, upeer, -⟩ :=
    unsync_ends (s := u) (by rw [hst]; decide) (by rw [hst]; decide) cause
  have hall : RoleStep u (unsync u cause) := ustep
  refine ⟨((roleStep_setPr s rfl).trans hstep).trans (hu.trans ustep), usil, ustate, ucause, ujoin, ?_, ?_, fun hs hw => ?_⟩
  · rw [ulin, hp, hpr]; rfl
  · rw [upeer, hp, hpr]
    show (s.pr.peerSync && s.pr.state != .active) = _
    simp [ha]
  · have hw' : (joinBegun s).rf.regs.wf = true := (hstep.events hw).1
    exact ((hu.trans ustep).events hw').2 3 (hsync hs hw)

theorem joinBegun_digests {s : State} (ha : s.pr.state ≠ .active) (hj : s.pr.state ≠ .joining) :
    (joinBegun s).pr.peerDigest = s.pr.peerDigest ∧ (joinBegun s).pl.digest = s.pl.digest ∧
      (joinBegun s).pr.linUp = s.pr.linUp := by
  obtain ⟨hstep, -, hpr, -, -⟩ := joinBegun_left ha hj
  refine ⟨by rw [hpr]; rfl, ?_, by rw [hpr]; rfl⟩
  rw [hstep.beside.1]
  rfl

/-- With the lining down a join fails. -/
theorem beginJoin_deaf {s : State} (ha : s.pr.state ≠ .active) (hj : s.pr.state ≠ .joining) (hl : s.pr.linUp = false) :
    Unsynced s (beginJoin s) 2 := by
  rw [beginJoin_eq, if_pos (by rw [(joinBegun_digests ha hj).2.2, hl]; rfl)]
  exact Unsynced.of_join ha hj (RoleStep.refl _) rfl

/-- Another DIGEST of the peer stops a join, with JOIN_REFUSED. -/
theorem beginJoin_refused {s : State} (ha : s.pr.state ≠ .active) (hj : s.pr.state ≠ .joining) (hl : s.pr.linUp = true)
    (hd : s.pr.peerDigest ≠ []) (hne : s.pr.peerDigest ≠ s.pl.digest) :
    Unsynced s (beginJoin s) 3 ∧ (s.rf.regs.wf = true → bit (rd (beginJoin s) .PR_EVENT) 7 = true) := by
  obtain ⟨e1, e2, e3⟩ := joinBegun_digests ha hj
  have e : beginJoin s = unsync (raise (joinBegun s) .PR_EVENT 0x80) 3 := by
    rw [beginJoin_eq, e1, e2, e3, if_neg (by rw [hl]; decide), if_pos ⟨hd, hne⟩]
  have hpr : (raise (joinBegun s) .PR_EVENT 0x80).pr = (joinBegun s).pr := raise_pr _ _ _ _
  have hst : (raise (joinBegun s) .PR_EVENT 0x80).pr.state = .joining := by
    rw [hpr, (joinBegun_left ha hj).pr]; rfl
  rw [e]
  refine ⟨Unsynced.of_join ha hj (roleStep_event _ _) hpr, fun hw => ?_⟩
  have hw' := ((joinBegun_left ha hj).step.events hw).1
  exact ((unsync_ends (by rw [hst]; decide) (by rw [hst]; decide) 3).step.events (raise_wf hw' _ _ _)).2 7
    (bit_event hw' (by decide) (by decide))

/-- Otherwise the unit asks to join with its DIGEST. -/
theorem beginJoin_asks {s : State} (hp : isPair s = true) (ha : s.pr.state ≠ .active) (hj : s.pr.state ≠ .joining)
    (hl : s.pr.linUp = true) (hd : s.pr.peerDigest = [] ∨ s.pr.peerDigest = s.pl.digest) :
    beginJoin s = emit (joinBegun s) (.lining (.joinAsk s.pl.digest)) := by
  obtain ⟨e1, e2, e3⟩ := joinBegun_digests ha hj
  have hp' : isPair (joinBegun s) = true := by
    unfold isPair
    rw [(joinBegun_left ha hj).step.straps]
    exact hp
  rw [beginJoin_eq, e1, e2, e3, if_neg (by rw [hl]; decide), if_neg fun q => hd.elim q.1 q.2]
  exact if_pos (by rw [hp', e3, hl]; rfl)

end Sys2Proof.Machine
end

section
/-! A unit of a pair changes its state: the statement. -/

namespace Sys2Proof.Machine

theorem RoleStep.within {s t : State} (h : RoleStep s t) : OnlyFlags s t ∧ t = { s with
    rf := t.rf, evt := t.evt, emitted := t.emitted, cio := { s.cio with cos := t.cio.cos }, tb := t.tb, pr := t.pr, glb := t.glb
    str := { s.str with tx := t.str.tx, tails := t.str.tails } } :=
  ⟨h.beside.2.1, h.beside.1.trans (congrArg (fun x : Streams => ({ s with
    rf := t.rf, evt := t.evt, emitted := t.emitted, cio := { s.cio with cos := t.cio.cos }, tb := t.tb, pr := t.pr, glb := t.glb
    str := x } : State)) h.str)⟩

/-- The unit that was in `s` has asked to join. -/
structure Asked (s t : State) : Prop where
  step : RoleStep s t
  silenced : Silenced t
  state : t.pr.state = .joining
  join : t.pr.join = some { from_ := s.now }
  emitted : t.emitted = s.emitted ++ (if s.pr.state = .standby then [.lining (.peer false)] else []) ++
    [.lining (.joinAsk s.pl.digest)]
  sync : s.pr.state = .standby → s.rf.regs.wf = true → bit (rd t .PR_EVENT) 3 = true

theorem beginJoin_asked {s : State} (hp : isPair s = true) (ha : s.pr.state ≠ .active) (hj : s.pr.state ≠ .joining)
    (hl : s.pr.linUp = true) (hd : s.pr.peerDigest = [] ∨ s.pr.peerDigest = s.pl.digest) : Asked s (beginJoin s) := by
  obtain ⟨hstep, ⟨p1, p2, p3, p4, p5, p6, p7, p8⟩, hpr, hsync, htold⟩ := joinBegun_left ha hj
  rw [beginJoin_asks hp ha hj hl hd]
  refine ⟨((roleStep_setPr s rfl).trans hstep).trans (roleStep_emit _ _), ⟨p1, p2, p3, p4, p5, p6, p7, p8⟩, ?_, ?_, ?_, hsync⟩
  · show (joinBegun s).pr.state = _
    rw [hpr]; rfl
  · show (joinBegun s).pr.join = _
    rw [hpr]; rfl
  · show (joinBegun s).emitted ++ _ = _
    rw [htold]
    exact congrArg (fun x => s.emitted ++ x ++ _) (if_congr ⟨fun q => q.1, fun q => ⟨q, hp, hl⟩⟩ rfl rfl)

/-! ## The lining -/

theorem liningUp_rises {s : State} (hu : unitOn s = true) (hl : s.pr.linUp = false) (hr : 64 ≤ s.pr.linRun)
    (hd : s.pr.peerDeaf = false) : liningUp s =
      emit (raise (s.setPr fun p => { p with linUp := true }) .PR_EVENT 0x20) (.lining (.digest s.pl.digest)) := by
  have hp : isPair s = true := by
    unfold unitOn at hu
    exact (Bool.and_eq_true _ _ ▸ hu).1
  unfold liningUp
  rw [if_neg (by
    rintro (q | q | q | q)
    · rw [hu] at q; cases q
    · rw [hl] at q; cases q
    · omega
    · rw [hd] at q; cases q)]
  refine if_pos ?_
  rw [raise_pr]
  unfold isPair at hp ⊢
  rw [raise_glb]
  exact Bool.and_eq_true _ _ ▸ ⟨hp, rfl⟩

theorem liningUp_idle {s : State} (h : unitOn s = false ∨ s.pr.linUp = true ∨ s.pr.linRun < 64 ∨ s.pr.peerDeaf = true) :
    liningUp s = s := by
  unfold liningUp
  exact if_pos (h.imp_left fun q => by rw [q]; rfl)

/-- The lining is up and fails. -/
abbrev LiningFails (s : State) (lost : Bool) : Prop :=
  unitOn s = true ∧ s.pr.linUp = true ∧ (lost = true ∨ 3 ≤ s.pr.linMiss ∨ s.pr.peerDeaf = true)

theorem liningDown_idle {s : State} {lost : Bool} (h : ¬ LiningFails s lost) : liningDown s lost = s := by
  unfold liningDown
  refine if_pos ?_
  by_contra q
  simp only [not_or, Bool.not_eq_true, Bool.not_eq_false', Bool.or_eq_true, decide_eq_true_eq] at q
  obtain ⟨hu, hl, hm⟩ := q
  exact h ⟨hu, hl, by rcases hm with (q | q) | q <;> simp [q]⟩

/-- The lining is down: raised, and the peer counts as not synced. -/
def liningLost (s : State) : State :=
  raise (s.setPr fun p => { p with linUp := false, linRun := 0, peerSync := false }) .PR_EVENT 0x20

theorem liningDown_falls {s : State} {lost : Bool} (h : LiningFails s lost) : liningDown s lost =
    match (liningLost s).pr.state with
    | .standby => unsync (liningLost s) 2
    | .joining => unsync (liningLost s) 2
    | .active => (match (liningLost s).pl.net with
      | some x => if x.acceptedAt.isNone then cfgName (liningLost s) else liningLost s
      | none => liningLost s)
    | _ => liningLost s := by
  obtain ⟨hu, hl, hm⟩ := h
  unfold liningDown
  rw [if_neg (by
    rintro (q | q | q)
    · rw [hu] at q; cases q
    · rw [hl] at q; cases q
    · rw [Bool.not_eq_true', Bool.or_eq_false_iff, Bool.or_eq_false_iff, decide_eq_false_iff_not] at q
      obtain ⟨⟨q1, q2⟩, q3⟩ := q
      rcases hm with e | e | e
      · rw [q1] at e; cases e
      · exact q2 e
      · rw [q3] at e; cases e)]
  rfl

theorem roleStep_liningLost (s : State) : RoleStep s (liningLost s) := (roleStep_setPr s rfl).trans (roleStep_event _ _)

theorem liningLost_pr (s : State) :
    (liningLost s).pr = { s.pr with linUp := false, linRun := 0, peerSync := false } := raise_pr _ _ _ _

/-! ## Yielding -/

/-- The pair as its active unit yields. -/
def yielding (s : State) (p : Pair) : Pair :=
  entered { p with yieldRun := if s.glb.gate then some 0 else none, join := none, riseStands := mayRise s } .yielded

theorem yieldRole_yields {s : State} (hp : isPair s = true) (ha : s.pr.state = .active) : yieldRole s =
    let t := rolePowers (s.setPr (yielding s))
    if s.glb.gate ∧ s.pr.frozen then setGate (t.setPr fun p => { p with yieldRun := none }) false else t := by
  set v := s.setPr fun p => { p with yieldRun := if s.glb.gate then some 0 else none, join := none, riseStands := mayRise s } with hv
  have e : prState v .yielded = rolePowers (s.setPr (yielding s)) := by
    have hs : v.pr.state = .active := ha
    rw [prState_eq (by rw [hs]; decide), hs]
    rfl
  unfold yieldRole
  rw [if_neg (by rw [hp, ha]; decide)]
  dsimp only
  rw [← hv, e, rolePowers_pr]
  rfl

/-- What yielding comes to: writes are no longer taken, and a FROZEN unit releases its gate. -/
structure Yielded (s t : State) : Prop where
  step : RoleStep s t
  pr : t.pr = { yielding s s.pr with yieldRun := if s.glb.gate = true ∧ s.pr.frozen = false then some 0 else none }
  glb : t.glb = { s.glb with passive := true, gate := s.glb.gate && !s.pr.frozen }

theorem yieldRole_yielded {s : State} (hp : isPair s = true) (ha : s.pr.state = .active) : Yielded s (yieldRole s) := by
  have hs : RoleStep s (rolePowers (s.setPr (yielding s))) := (roleStep_setPr s rfl).trans (roleStep_powers _)
  have hl : (yielding s s.pr).leaving = true := by
    show (s.pr.state == .active && _) = true
    rw [ha]; rfl
  have hg : (rolePowers (s.setPr (yielding s))).glb = { s.glb with passive := true } := by
    rw [rolePowers_frame]
    show powersOf (s.setPr (yielding s)) s.glb = _
    exact (if_neg (by intro q; cases q)).trans (if_pos hl)
  have hpr : (rolePowers (s.setPr (yielding s))).pr = yielding s s.pr := rolePowers_pr _
  rw [yieldRole_yields hp ha]
  dsimp only
  by_cases hc : s.glb.gate = true ∧ s.pr.frozen = true
  · rw [if_pos hc]
    set v := (rolePowers (s.setPr (yielding s))).setPr fun p => { p with yieldRun := none } with hv
    obtain ⟨g1, g2, -⟩ := gate_own v false
    refine ⟨(hs.trans (roleStep_setPr _ rfl)).trans (roleStep_gateOff v), ?_, ?_⟩
    · rw [g1, if_neg (by rw [hc.2]; rintro ⟨-, q⟩; cases q)]
      show { (rolePowers (s.setPr (yielding s))).pr with yieldRun := none } = _
      rw [hpr]
    · rw [g2, show v.glb = _ from hg, hc.2, Bool.not_true, Bool.and_false]
  · rw [if_neg hc]
    refine ⟨hs, ?_, ?_⟩
    · have e : (if s.glb.gate = true ∧ s.pr.frozen = false then some 0 else none) = (yielding s s.pr).yieldRun := by
        show _ = if s.glb.gate = true then some 0 else none
        cases hg : s.glb.gate with
        | false => rfl
        | true =>
          have hf : s.pr.frozen = false := by simpa [hg] using hc
          rw [hf]; rfl
      rw [hpr, e]
    · rw [hg]
      cases hg : s.glb.gate with
      | false => rw [Bool.false_and, ← hg]
      | true =>
        have hf : s.pr.frozen = false := by simpa [hg] using hc
        rw [hf, Bool.not_false, Bool.and_true, ← hg]

/-! ## The end of a yielding unit's role -/

/-- Mirrored time bases and closed sessions leave the role, the powers and the flags of the pair. -/
def RoleKept (s t : State) : Prop := t.pr = s.pr ∧ t.glb = s.glb ∧ EventsStay s t

theorem RoleKept.trans {s t u : State} (h : RoleKept s t) (g : RoleKept t u) : RoleKept s u :=
  ⟨g.1.trans h.1, g.2.1.trans h.2.1, h.2.2.trans g.2.2⟩

theorem RoleKept.of_eq {s t : State} (h1 : t.pr = s.pr) (h2 : t.glb = s.glb) (h3 : t.rf = s.rf) : RoleKept s t :=
  ⟨h1, h2, EventsStay.of_rf h3⟩

theorem RoleKept.refl (s : State) : RoleKept s s := RoleKept.of_eq rfl rfl rfl

theorem roleKept_raise (s : State) {r : Reg} (bits : Nat) (hr : Reg.PR_EVENT ≠ r) (hi : 0 < (desc r).n1) (hj : 0 < (desc r).n2) :
    RoleKept s (raise s r bits) := ⟨raise_pr _ _ _ _, raise_glb _ _ _ _, eventsStay_raise s bits hr hi hj⟩

theorem roleKept_tbState (s : State) (k : Nat) (st : TbState) : RoleKept s (tbState s k st) := by
  unfold tbState
  split
  · exact RoleKept.refl s
  · exact (RoleKept.of_eq rfl rfl rfl).trans (roleKept_raise _ _ (by decide) (by decide) (by decide))

theorem roleKept_tbMirror (s : State) (k : Nat) (on : Bool) : RoleKept s (tbMirror s k on) := by
  unfold tbMirror
  dsimp only
  split
  · split
    · exact RoleKept.refl s
    · exact (RoleKept.of_eq rfl rfl rfl).trans (roleKept_tbState _ _ _)
  · split
    · exact (RoleKept.of_eq rfl rfl rfl).trans (roleKept_tbState _ _ _)
    · exact RoleKept.refl s

theorem roleKept_forEach {α : Type} {f : α → State → State} (h : ∀ x s, RoleKept s (f x s)) (xs : List α) (s : State) :
    RoleKept s (forEach xs s f) := forEach_rel (R := RoleKept) RoleKept.refl RoleKept.trans h xs s

theorem roleKept_ownerGone (s : State) (who : Requester) : RoleKept s (bsOwnerGone s who) :=
  roleKept_forEach (fun k s => by
    dsimp only
    split
    · exact RoleKept.refl s
    · split <;> exact RoleKept.of_eq rfl rfl rfl) _ s

theorem roleKept_setSes (s : State) (f : Sessions → Sessions) : RoleKept s (s.setSes f) := RoleKept.of_eq rfl rfl rfl

theorem roleKept_orphan (s : State) (k : Nat) : RoleKept s (orphanRequests s k) := RoleKept.of_eq rfl rfl rfl

theorem roleKept_closeSession (s : State) (k : Nat) : RoleKept s (closeSession s k) := by
  unfold closeSession
  split
  · refine RoleKept.trans ?_ (roleKept_raise _ _ (by decide) (by decide) (by decide))
    refine RoleKept.trans ?_ (roleKept_setSes _ _)
    refine RoleKept.trans ?_ (roleKept_orphan _ _)
    refine RoleKept.trans ?_ (roleKept_ownerGone _ _)
    split <;> exact RoleKept.of_eq rfl rfl rfl
  · exact RoleKept.refl s

theorem roleKept_closeWhere (s : State) (p : Ses → Bool) : RoleKept s (closeWhere s p) :=
  roleKept_forEach (fun k s => roleKept_closeSession s k) _ s

theorem roleKept_leaveActive (s : State) : RoleKept s (leaveActive s) :=
  (roleKept_forEach (f := fun k s => tbMirror s k true) (fun k s => roleKept_tbMirror s k true) _ s).trans
    (roleKept_closeWhere _ _)

theorem roleEnds_drives {s : State} (hg : s.glb.gate = true) : roleEnds s = s :=
  if_neg fun q => by rw [hg] at q; cases q.2

/-- Once its gate has fallen, the role ends: it is counted and raised, and nothing is sent. -/
theorem roleEnds_ends {s : State} (hl : s.pr.leaving = true) (hs : s.pr.state = .yielded) (hg : s.glb.gate = false) :
    (roleEnds s).pr = { s.pr with leaving := false, lastRole := s.mix.stitch, roleChanges := satInc 0xFFFF s.pr.roleChanges } ∧
      (roleEnds s).glb = { s.glb with passive := true, active := false, sendA := false, sendB := false, sendOne := false } ∧
      (s.rf.regs.wf = true → bit (rd (roleEnds s) .PR_EVENT) 0 = true) := by
  set u := rolePowers (s.setPr fun p => { p with leaving := false }) with hu
  have e : roleEnds s = leaveActive (roleChange u) := if_pos ⟨hl, by rw [hg]; rfl⟩
  have hp : u.pr = { s.pr with leaving := false } := rolePowers_pr _
  have hm : u.mix = s.mix := by rw [hu, rolePowers_frame]; rfl
  have hglb : u.glb = { s.glb with passive := true, active := false, sendA := false, sendB := false, sendOne := false } := by
    rw [hu, rolePowers_frame]
    have hno {x : PrState} (h : x ≠ .yielded) : (s.setPr fun p => { p with leaving := false }).pr.state ≠ x := fun q => h (q.symm.trans hs)
    exact powersOf_silent (hno (by decide)) (hno (by decide)) (hno (by decide)) rfl s.glb
  obtain ⟨k1, k2, k3⟩ := roleKept_leaveActive (roleChange u)
  rw [e]
  refine ⟨?_, ?_, fun hw => ?_⟩
  · rw [k1]
    unfold roleChange
    rw [raise_pr]
    show { u.pr with lastRole := u.mix.stitch, roleChanges := satInc 0xFFFF u.pr.roleChanges } = _
    rw [hp, hm]
  · rw [k2]
    unfold roleChange
    rw [raise_glb]
    exact hglb
  · have hw' : u.rf.regs.wf = true := by rw [hu, rolePowers_frame]; exact hw
    refine (k3 ?_).2 0 ?_
    · exact raise_wf (s := u.setPr _) hw' _ _ _
    · exact bit_event (s := u.setPr _) hw' (by decide) (by decide)

/-! ## Waiting to revert -/

/-- WTR has passed for a preferred STANDBY unit. -/
abbrev MayClaim (s : State) : Prop :=
  ∃ a, s.pr.wtrFrom = some a ∧ s.pr.state = .standby ∧ s.pr.frozen = false ∧ preferred s = true ∧
    a + 1000000000 * fv s .PR_CFG_WTR ≤ s.now

theorem prWtrExpire_claims {s : State} (h : MayClaim s) :
    prWtrExpire s = s.setPr fun p => { p with claim := true, claimRun := 0, wtrFrom := none } := by
  obtain ⟨a, ha, hs, hf, hp, hn⟩ := h
  unfold prWtrExpire
  rw [ha]
  exact if_pos ⟨hs, by rw [hf]; rfl, hp, hn⟩

theorem prWtrExpire_idle {s : State} (h : ¬ MayClaim s) : prWtrExpire s = s := by
  unfold prWtrExpire
  split
  · rename_i t ht
    refine if_neg fun ⟨hs, hf, hp, hn⟩ => h ⟨t, ht, hs, ?_, hp, hn⟩
    rwa [Bool.not_eq_true'] at hf
  · rfl

/-- A claim of a STANDBY unit has gone 64 stitches without the gate. -/
abbrev ClaimLapses (s : State) : Prop :=
  s.pr.state = .standby ∧ s.pr.claim = true ∧ 64 ≤ s.pr.claimRun ∧ s.glb.gate = false

theorem claimTimeout_eq (s : State) : claimTimeout s = if ClaimLapses s then
    s.setPr fun p => { p with claim := false, claimRun := 0, matchCnt := 0, wtrFrom := none } else s := by
  unfold claimTimeout
  refine if_congr ?_ rfl rfl
  rw [Bool.not_eq_true']

/-! ## Joins -/

/-- The standing condition of Table 18-7. -/
abbrev MayJoin (s : State) : Prop :=
  unitOn s = true ∧ s.pr.state = .unsynced ∧ s.pr.linUp = true ∧ s.pr.missRun = 0 ∧
    (∃ f, s.pr.lastFrame = some f ∧ f.peerOe s = true) ∧ s.pr.peerDigest = s.pl.digest

theorem joinStart_joins {s : State} (h : MayJoin s) : joinStart s = beginJoin s := by
  obtain ⟨hu, hs, hl, hm, ⟨f, hf, ho⟩, hd⟩ := h
  unfold joinStart
  dsimp only
  rw [hf]
  exact if_pos ⟨hu, hs, hl, hm, ho, hd⟩

theorem joinStart_idle {s : State} (h : ¬ MayJoin s) : joinStart s = s := by
  unfold joinStart
  dsimp only
  split
  · rename_i f hf
    exact if_neg fun ⟨hu, hs, hl, hm, ho, hd⟩ => h ⟨hu, hs, hl, hm, ⟨f, hf, ho⟩, hd⟩
  · exact if_neg fun q => by cases q.2.2.2.2.1

theorem joinTimeout_due {s : State} {j : Join} (hj : s.pr.join = some j) (hs : s.pr.state = .joining)
    (ht : j.from_ + 2000000000 ≤ s.now) : joinTimeout s = unsync s 2 := by
  unfold joinTimeout
  rw [hj]
  exact if_pos ⟨hs, ht⟩

theorem joinTimeout_idle {s : State}
    (h : ∀ j, s.pr.join = some j → ¬ (s.pr.state = .joining ∧ j.from_ + 2000000000 ≤ s.now)) : joinTimeout s = s := by
  unfold joinTimeout
  split
  · rename_i j hj
    exact if_neg (h j hj)
  · rfl

/-! ## Commands -/

theorem roleStep_noted (s : State) (r : Reg) (i j : Nat) : RoleStep s (noted s r i j) :=
  ⟨beside_setGlb s _, rfl, rfl, rfl, rfl, .inl rfl, rfl, rfl, EventsStay.of_rf rfl⟩

/-- What a write of the pair's registers does is not forwarded. -/
theorem regWrite_pair {s : State} {r : Reg} (hr : r = .PR_CMD ∨ r = .PR_CFG) {v : Word} (ha : Accepted s r 0 0 v) :
    regWrite s r 0 0 v 15 = prWrite (noted s r 0 0) r v := by
  have hi : 0 < (desc r).n1 := by rcases hr with rfl | rfl <;> decide
  have hj : 0 < (desc r).n2 := by rcases hr with rfl | rfl <;> decide
  rw [regWrite_ok (findReg_addr r hi hj) ha]
  have hb : blockWrite (noted s r 0 0) r 0 0 v = prWrite (noted s r 0 0) r v := by
    rcases hr with rfl | rfl <;> rfl
  rw [hb]
  unfold forwardWrite
  refine if_neg fun ⟨_, _, hn, ho, _⟩ => ?_
  rcases hr with rfl | rfl
  · cases ho
  · exact hn rfl

/-- A command of the pair that is refused in some state is accepted in others only. -/
theorem prCmd_allowed {s : State} {v : Word} (ha : Accepted s .PR_CMD 0 0 v) {b : Bool}
    (hm : (Code.wrongState, b) ∈ prFails s .PR_CMD v) : b = false := by
  cases b with
  | false => rfl
  | true => exact absurd hm (accepted_blockFails (r := .PR_CMD) (by decide) (by decide) ha (by decide))

/-- Of the registers only what waits to be posted differs. -/
theorem settled_posted {s : State} (h : settled s = true) (r : Reg) (i j : Nat) (ps : List (Nat × Nat × Word)) :
    settled { noted s r i j with rf := { s.rf with posted := ps } } = true := h

/-- Settles O49: each event is a `RoleStep` to the state Table 18-7 names, or changes nothing. -/
theorem unitChangesState : Obligations.UnitChangesState := by
  intro s hs h1 h2 hw within silent unsynced joins
  have idle : ∀ {f : State → State}, f s = s → run s f = .next s := fun e => run_idle e hs h1 h2
  have role : ∀ {t : State} {f : State → State}, f s = t → RoleStep s t → run s f = .next t := fun e h => run_role e h hs h1 h2
  have toSilent : ∀ {t : State}, RoleStep s t → Silenced t →
      (s.pr.state = .standby → bit (rd t .PR_EVENT) 3 = true) → silent t := by
    intro t h ⟨p1, p2, p3, p4, p5, p6, p7, p8⟩ hb
    exact ⟨p1, p2, p3, p4, p5, p6, p7, p8, hb, h.within⟩
  have toUnsynced : ∀ {t : State} {c : Nat}, Unsynced s t c → unsynced c t := fun h =>
    ⟨h.state, h.cause_eq, h.join, toSilent h.step h.silenced fun q => h.sync q hw⟩
  have toJoins : ∀ {t : State}, Asked s t → joins t := fun h =>
    ⟨h.state, h.join, h.emitted, toSilent h.step h.silenced fun q => h.sync q hw⟩
  refine ⟨fun hu hl hr hd => ?_, fun h => ?_, fun lost => ?_, ⟨fun h => ?_, fun h => ?_⟩, fun j hj hst => ⟨fun ht => ?_, fun ht => ?_⟩,
    fun h => ?_, ⟨fun h => ?_, fun h => ?_⟩, ⟨fun h => ?_, fun h => ?_⟩, fun ha => ?_, fun ha => ?_, fun u hl hst => ?_, fun ha => ?_,
    fun v ha => ?_⟩
  · exact role (f := liningUp) (liningUp_rises hu hl hr hd)
      (((roleStep_setPr s rfl).trans (roleStep_event _ _)).trans (roleStep_emit _ _))
  · exact idle (f := liningUp) (liningUp_idle h)
  · intro down
    have hl := roleStep_liningLost s
    have hp := liningLost_pr s
    refine ⟨fun h => idle (f := fun s => liningDown s lost) (liningDown_idle h), fun h hst => ?_, fun h hn1 hn2 hnet => ?_⟩
    · have e : liningDown s lost = unsync (liningLost s) 2 := by
        rw [liningDown_falls h, hp]
        rcases hst with e | e <;> simp only [e]
      have hst' : (liningLost s).pr.state = s.pr.state := by rw [hp]
      have g := unsync_ends (s := liningLost s) (by rw [hst']; rcases hst with e | e <;> rw [e] <;> decide)
        (by rw [hst']; rcases hst with e | e <;> rw [e] <;> decide) 2
      have hw' := (hl.events hw).1
      refine ⟨_, role (f := fun s => liningDown s lost) e (hl.trans g.step), ⟨g.state, g.cause_eq, g.join,
        toSilent (hl.trans g.step) g.silenced fun q => g.sync (hst'.trans q) hw'⟩, ?_, ?_, ?_⟩
      · rw [g.linUp, hp]
      · rw [g.peerSync, hp]
      · exact (g.step.events hw').2 5 (bit_event (s := s.setPr _) hw (by decide) (by decide))
    · have e : liningDown s lost = liningLost s := by
        have hnet' : (liningLost s).pl.net = none := by rw [hl.beside.1]; exact hnet
        rw [liningDown_falls h, hnet', hp]
        dsimp only
        split
        · rename_i q; exact absurd q hn1
        · rename_i q; exact absurd q hn2
        · rfl
        · rfl
      exact role (f := fun s => liningDown s lost) e hl
  · obtain ⟨hu, hst, hl, hm, hf, hd⟩ := h
    have hp : isPair s = true := (Bool.and_eq_true _ _ ▸ hu).1
    have g := beginJoin_asked hp (by rw [hst]; decide) (by rw [hst]; decide) hl (.inr hd)
    exact ⟨_, role (f := joinStart) (joinStart_joins ⟨hu, hst, hl, hm, hf, hd⟩) g.step, toJoins g⟩
  · exact idle (f := joinStart) (joinStart_idle h)
  · have g := unsync_ends (s := s) (by rw [hst]; decide) (by rw [hst]; decide) 2
    exact ⟨_, role (f := joinTimeout) (joinTimeout_due hj hst ht) g.step, toUnsynced g⟩
  · refine idle (f := joinTimeout) (joinTimeout_idle fun k hk q => ?_)
    obtain rfl := Option.some.inj (hj.symm.trans hk)
    omega
  · refine idle (f := joinTimeout) (joinTimeout_idle fun k hk q => ?_)
    rcases h with h | h
    · rw [h] at hk; cases hk
    · exact h q.1
  · exact role (f := prWtrExpire) (prWtrExpire_claims h) (roleStep_setPr s rfl)
  · exact idle (f := prWtrExpire) (prWtrExpire_idle h)
  · exact role (f := claimTimeout) ((claimTimeout_eq s).trans (if_pos h)) (roleStep_setPr s rfl)
  · exact idle (f := claimTimeout) ((claimTimeout_eq s).trans (if_neg h))
  · have e : cmdBit s .PR_CMD 0 1 = beginJoin (noted s .PR_CMD 0 0) := regWrite_pair (v := 2) (.inl rfl) ha
    have hst : s.pr.state = .standby ∨ s.pr.state = .unsynced := by
      have q := prCmd_allowed ha (b := !(s.pr.state == .standby || (s.pr.state == .unsynced && (s.pr.cause == 1 || s.pr.cause == 2))))
        (List.mem_cons_of_mem _ (List.mem_cons_of_mem _ List.mem_cons_self))
      rw [Bool.not_eq_false', Bool.or_eq_true, Bool.and_eq_true, beq_iff_eq, beq_iff_eq] at q
      exact q.imp_right fun q => q.1
    have hn1 : (noted s .PR_CMD 0 0).pr.state ≠ .active := by
      show s.pr.state ≠ _; rcases hst with q | q <;> rw [q] <;> decide
    have hn2 : (noted s .PR_CMD 0 0).pr.state ≠ .joining := by
      show s.pr.state ≠ _; rcases hst with q | q <;> rw [q] <;> decide
    have hnoted := roleStep_noted s .PR_CMD 0 0
    have done : ∀ {c : Nat}, Unsynced (noted s .PR_CMD 0 0) (beginJoin (noted s .PR_CMD 0 0)) c →
        ∃ t, exec .remirror s = .next t ∧ t = beginJoin (noted s .PR_CMD 0 0) ∧ unsynced c t := fun g =>
      ⟨_, role (f := fun s => cmdBit s .PR_CMD 0 1) e (hnoted.trans g.step), rfl, g.state, g.cause_eq, g.join,
        toSilent (hnoted.trans g.step) g.silenced fun q => g.sync q hw⟩
    refine ⟨hst, fun hl => ?_, fun hl hd hne => ?_, fun hp hl hd => ?_⟩
    · obtain ⟨t, ht, -, hu⟩ := done (beginJoin_deaf hn1 hn2 hl)
      exact ⟨t, ht, hu⟩
    · have g := beginJoin_refused hn1 hn2 hl hd hne
      obtain ⟨t, ht, rfl, hu⟩ := done g.1
      exact ⟨_, ht, hu, g.2 hw⟩
    · have g := beginJoin_asked (s := noted s .PR_CMD 0 0) hp hn1 hn2 hl hd
      exact ⟨_, role (f := fun s => cmdBit s .PR_CMD 0 1) e (hnoted.trans g.step), g.state, g.join, g.emitted,
        toSilent (hnoted.trans g.step) g.silenced fun q => g.sync q hw⟩
  · have e : cmdBit s .PR_CMD 0 0 = yieldRole (noted s .PR_CMD 0 0) := regWrite_pair (v := 1) (.inl rfl) ha
    have hst : s.pr.state = .active := by
      have q := prCmd_allowed ha (b := s.pr.state != .active) (List.mem_cons_of_mem _ List.mem_cons_self)
      simpa using q
    refine ⟨hst, fun hp => ?_⟩
    have g := yieldRole_yielded (s := noted s .PR_CMD 0 0) hp hst
    obtain ⟨gs, gp, gg⟩ := g
    have hstep := (roleStep_noted s .PR_CMD 0 0).trans gs
    refine ⟨_, role (f := fun s => cmdBit s .PR_CMD 0 0) e hstep, ?_, ?_, hstep.within, ?_, ?_, ?_, ?_, ?_, ?_, ?_, ?_, ?_, ?_, ?_⟩
    · rw [gp]; rfl
    · rw [gp]; rfl
    · rw [gp]
      show (s.pr.state == .active && _) = true
      rw [hst]; rfl
    · rw [gg]
    · rw [gg]; rfl
    · rw [gp]; rfl
    · rw [gp]; rfl
    · rw [gp]
      exact Bool.and_false _
    · rw [gg]; rfl
    · rw [gp]; rfl
    · rw [gp]; rfl
    · rw [gp]; rfl
    · rw [gg]; rfl
  · refine ⟨fun hg => roleEnds_drives hg, fun hg => ?_⟩
    obtain ⟨ep, eg, eb⟩ := roleEnds_ends hl hst hg
    refine ⟨?_, ?_, ?_, ?_, ?_, eb, ?_⟩
    · rw [ep]
    · rw [eg]
    · rw [eg]
    · rw [ep]
    · rw [ep]
    · rw [eg]
  · exact role (f := fun s => cmdBit s .PR_CMD 0 2) (regWrite_pair (v := 4) (.inl rfl) ha)
      ((roleStep_noted s .PR_CMD 0 0).trans (roleStep_setPr _ rfl))
  · exact run_settled (f := fun s => regWrite s .PR_CFG 0 0 v 15) (regWrite_pair (.inr rfl) ha) (settled_posted hs _ _ _ _)
      (sameMirrored_of_settled (settled_posted hs _ _ _ _) ⟨rfl, rfl, rfl, rfl, rfl, rfl, rfl, rfl, rfl, rfl⟩ h1 h2) rfl rfl

end Sys2Proof.Machine
end

section
/-! Units of a pair compare their outputs (R413, R427, R432). -/

namespace Sys2Proof.Machine

/-! ## Engine work leaves the role alone -/

theorem hemBlock_pr (s : State) (d : Nat) (h a b : List Int) : (hemBlock s d h a b).2.pr = s.pr := by
  unfold hemBlock
  dsimp only
  split
  · rfl
  · split
    · exact raise_pr _ _ _ _
    · rfl

theorem runDst_pr (xs : Tbl (List Int)) (errs : List (Nat × List Int × List Int)) (d : Nat) (s : State) :
    (runDst xs errs d s).pr = s.pr := by
  unfold runDst
  split
  · rfl
  · extract_lets h e
    exact hemBlock_pr s d h e.1 e.2

theorem engine_pr (s : State) (errs : List (Nat × List Int × List Int)) : (engine s errs).pr = s.pr := by
  have same {α : Type} {f : α → State → State} (h : ∀ x s, (f x s).pr = s.pr) (l : List α) (s : State) :
      (forEach l s f).pr = s.pr := forEach_rel (R := fun s t => t.pr = s.pr) (fun _ => rfl) (fun f g => g.trans f) h l s
  unfold engine
  extract_lets a xs b c d
  have hb : b.pr = s.pr := same (runDst_pr xs errs) _ a
  have hc : c.pr = b.pr := same (fun v s => by split <;> rfl) _ b
  have hd : d.pr = c.pr := by show (if _ then _ else c).pr = _; split <;> rfl
  exact hd.trans (hc.trans hb)

/-! ## The heartbeat -/

/-- What a unit notes of a stitch whose work may be complete: its OUTCRC, how long it has claimed, whether it is fit. -/
def crcKept (s : State) (done : Bool) : State :=
  s.setPr fun p => { p with
    crcs := ((s.mix.stitch, outCrc s) :: p.crcs).take 4, claimRun := if p.claim then p.claimRun + 1 else 0
    hbFit := done && healthy s && s.pr.state != .yielded }

/-- A heartbeat of complete work. -/
def heartbeatSent (s : State) (done : Bool) : State :=
  if done then (emit (crcKept s done) (.heartbeat (heartbeatOf s).bytes)).setPr fun p => { p with hbAt := some s.now }
  else crcKept s done

/-- The OUTCRC goes to the peer. -/
def crcTold (s : State) (done : Bool) : State :=
  emit (heartbeatSent s done) (.lining (.outcrc s.mix.stitch (outCrc s) (deaf s) (done && healthy s && s.pr.state != .yielded)))

/-- The OUTCRC of the peer is used up. -/
def crcKnown (s : State) (done : Bool) : State := (crcTold s done).setPr fun p => { p with peerCrc := none }

theorem heartbeatSend_off {s : State} (h : unitOn s = false ∨ s.glb.mode = .quiet) (done : Bool) : heartbeatSend s done = s := by
  unfold heartbeatSend
  exact if_pos (h.imp_left fun q => by rw [q]; rfl)

theorem crcTold_peerCrc (s : State) (done : Bool) : (crcTold s done).pr.peerCrc = s.pr.peerCrc := by
  cases done <;> rfl

/-- A stitch that is computed: its OUTCRC is kept and told, and compared where the peer's is known. -/
def stitchTold (s : State) (done : Bool) : State :=
  match s.pr.peerCrc with
  | some e => if e.1 = s.mix.stitch then crcCompare (crcKnown s done) (outCrc s) e.2 else crcTold s done
  | none => crcTold s done

theorem heartbeatSend_on {s : State} (hu : unitOn s = true) (hq : s.glb.mode ≠ .quiet) (done : Bool) :
    heartbeatSend s done = stitchTold (runOwed s) done := by
  have e : heartbeatSend s done =
      match (crcTold (runOwed s) done).pr.peerCrc with
      | some e => if e.1 = (runOwed s).mix.stitch then crcCompare (crcKnown (runOwed s) done) (outCrc (runOwed s)) e.2
        else crcTold (runOwed s) done
      | none => crcTold (runOwed s) done := by
    unfold heartbeatSend
    rw [if_neg fun q => q.elim (fun q => by rw [hu] at q; cases q) hq]
    cases done <;> rfl
  rw [e, crcTold_peerCrc]
  rfl

/-- A follower computes its stitch first. -/
theorem heartbeatSend_owed {s : State} {errs : List (Nat × List Int × List Int)} (ho : s.pr.owed = some errs)
    (hu : unitOn s = true) (hq : s.glb.mode ≠ .quiet) (done : Bool) :
    heartbeatSend s done = heartbeatSend (engine (s.setPr fun p => { p with owed := none }) errs) done := by
  set t := engine (s.setPr fun p => { p with owed := none }) errs with ht
  have hg : t.glb = s.glb := (engineOnly_engine _ _).1
  have hr : runOwed s = t := by unfold runOwed; rw [ho]
  have ht' : runOwed t = t := by
    have hn : t.pr.owed = none := by rw [ht, engine_pr]; rfl
    unfold runOwed
    rw [hn]
  have hu' : unitOn t = true := by
    unfold unitOn isPair at hu ⊢
    rw [hg]
    exact hu
  rw [heartbeatSend_on hu hq, heartbeatSend_on hu' (by rw [hg]; exact hq), hr, ht']

theorem heartbeatSend_sends {s : State} (hu : unitOn s = true) (hq : s.glb.mode ≠ .quiet) (ho : s.pr.owed = none) (done : Bool) :
    heartbeatSend s done = stitchTold s done := by
  rw [heartbeatSend_on hu hq]
  unfold runOwed
  rw [ho]

theorem roleStep_crcTold (s : State) (done : Bool) : RoleStep s (crcTold s done) := by
  have hk : RoleStep s (crcKept s done) := roleStep_setPr s rfl
  cases done
  · exact hk.trans (roleStep_emit _ _)
  · exact ((hk.trans (roleStep_emit _ _)).trans (roleStep_setPr _ rfl)).trans (roleStep_emit _ _)

/-! ## Two OUTCRC that are equal -/

/-- A STANDBY unit counts a match, and the preferred one waits to revert from 8,000 on. -/
def crcMatched (u : State) : State :=
  let n := if u.pr.frozen then 0 else satInc 16383 u.pr.matchCnt
  if u.pr.state = .standby then
    u.setPr fun p => { p with
      matchCnt := n, wtrFrom := if 8000 ≤ n ∧ preferred u = true ∧ p.claim = false then some (p.wtrFrom.getD u.now) else none }
  else u

theorem crcEqual_matched {u : State} (h : u.pr.state ≠ .joining) : crcEqual u = crcMatched u := by
  unfold crcEqual crcMatched
  split
  · rename_i hs
    rw [if_pos hs]
    unfold State.setPr
    cases hw : u.pr.wtrFrom <;> simp [hw]
  · rename_i hs; exact absurd hs h
  · rename_i hs _; exact (if_neg hs).symm

theorem roleStep_crcMatched (u : State) : RoleStep u (crcMatched u) := by
  unfold crcMatched
  dsimp only
  split
  · exact roleStep_setPr u rfl
  · exact RoleStep.refl u

/-! ## Two OUTCRC that differ -/

/-- What a change of state leaves of the unit's counts, its gate and a rise that stands. -/
def Standing (s t : State) : Prop :=
  t.pr.diverges = s.pr.diverges ∧ t.pr.riseStands = s.pr.riseStands ∧ t.glb.gate = s.glb.gate

theorem Standing.refl (s : State) : Standing s s := ⟨rfl, rfl, rfl⟩

theorem Standing.trans {s t u : State} (h : Standing s t) (g : Standing t u) : Standing s u := by
  obtain ⟨h1, h2, h3⟩ := h
  obtain ⟨g1, g2, g3⟩ := g
  exact ⟨g1.trans h1, g2.trans h2, g3.trans h3⟩

theorem standing_left {s : State} {st : PrState} (hst : st = .joining ∨ st = .unsynced) (ha : s.pr.state ≠ .active)
    (hne : s.pr.state ≠ st) : Standing s (prState s st) := by
  rw [prState_left hst ha hne]
  refine ⟨?_, ?_, ?_⟩
  · rw [syncLeft_pr, rolePowers_pr]; rfl
  · rw [syncLeft_pr, rolePowers_pr]; rfl
  · rw [syncLeft_glb]
    exact (powers_own _).2.2.2.2

theorem standing_unsync {s : State} (ha : s.pr.state ≠ .active) (hu : s.pr.state ≠ .unsynced) (cause : Nat) :
    Standing s (unsync s cause) := by
  unfold unsync
  obtain ⟨r, e⟩ := noteResort_eq (prState (s.setPr fun p => { p with join := none, cause := cause }) .unsynced)
  rw [e]
  exact (standing_left (s := s.setPr fun p => { p with join := none, cause := cause }) (.inr rfl) ha hu).trans (.refl _)

theorem standing_joinBegun {s : State} (ha : s.pr.state ≠ .active) (hj : s.pr.state ≠ .joining) : Standing s (joinBegun s) :=
  standing_left (s := s.setPr fun p => { p with join := some { from_ := s.now } }) (.inl rfl) ha hj

theorem standing_lining (s : State) (m : LinMsg) : Standing s (lining s m) := by
  obtain ⟨hp, hg, -, -⟩ := lining_pr s m
  exact ⟨by rw [hp], by rw [hp], by rw [hg]⟩

theorem standing_event (s : State) (bits : Nat) : Standing s (raise s .PR_EVENT bits) :=
  ⟨by rw [raise_pr], by rw [raise_pr], by rw [raise_glb]⟩

theorem standing_beginJoin {s : State} (ha : s.pr.state ≠ .active) (hj : s.pr.state ≠ .joining) : Standing s (beginJoin s) := by
  have hb := standing_joinBegun ha hj
  have hst : (joinBegun s).pr.state = .joining := by rw [(joinBegun_left ha hj).pr]; rfl
  rw [beginJoin_eq]
  split
  · exact hb.trans (standing_unsync (by rw [hst]; decide) (by rw [hst]; decide) 2)
  · split
    · refine (hb.trans (standing_event _ _)).trans (standing_unsync ?_ ?_ 3) <;> rw [raise_pr, hst] <;> decide
    · exact hb.trans (standing_lining _ _)

/-- The lining is up, and the peer's DIGEST is not another. -/
abbrev JoinGoes (u : State) : Prop := u.pr.linUp = true ∧ (u.pr.peerDigest = [] ∨ u.pr.peerDigest = u.pl.digest)

theorem beginJoin_cause {s : State} (hp : isPair s = true) (ha : s.pr.state ≠ .active) (hj : s.pr.state ≠ .joining)
    (hg : JoinGoes s) : (beginJoin s).pr.cause = s.pr.cause := by
  rw [beginJoin_asks hp ha hj hg.1 hg.2]
  show (joinBegun s).pr.cause = _
  rw [(joinBegun_left ha hj).pr]
  rfl

/-- What the beginning of a join of a STANDBY unit comes to, whether it goes on or not. -/
structure JoinTried (s t : State) : Prop where
  step : RoleStep s t
  silenced : Silenced t
  sync : s.rf.regs.wf = true → bit (rd t .PR_EVENT) 3 = true
  standing : Standing s t
  goes : JoinGoes s → t.pr.state = .joining ∧ t.pr.cause = s.pr.cause
  stops : ¬ JoinGoes s → t.pr.state = .unsynced

theorem beginJoin_tried {s : State} (hp : isPair s = true) (hs : s.pr.state = .standby) : JoinTried s (beginJoin s) := by
  have ha : s.pr.state ≠ .active := by rw [hs]; decide
  have hj : s.pr.state ≠ .joining := by rw [hs]; decide
  have hb := standing_beginJoin ha hj
  by_cases hg : JoinGoes s
  · have h := beginJoin_asked hp ha hj hg.1 hg.2
    exact ⟨h.step, h.silenced, h.sync hs, hb, fun _ => ⟨h.state, beginJoin_cause hp ha hj hg⟩, fun q => absurd hg q⟩
  · have stops {c : Nat} (h : Unsynced s (beginJoin s) c) : JoinTried s (beginJoin s) :=
      ⟨h.step, h.silenced, h.sync hs, hb, fun q => absurd q hg, fun _ => h.state⟩
    cases hl : s.pr.linUp with
    | false => exact stops (beginJoin_deaf ha hj hl)
    | true =>
      have hd := not_or.mp fun q => hg ⟨hl, q⟩
      exact stops (beginJoin_refused ha hj hl hd.1 hd.2).1

/-- A STANDBY unit whose OUTCRC differs, before it joins. -/
def divergedStandby (u : State) : State :=
  (clearMatches (diverge u)).setPr fun p => { p with cause := 1, riseStands := true }

theorem crcDiffers_standby {u : State} (hs : u.pr.state = .standby) : crcDiffers u = beginJoin (divergedStandby u) := by
  unfold crcDiffers
  rw [hs]
  rfl

theorem crcDiffers_active {u : State} (hs : u.pr.state = .active) (hp : u.pr.peerSync = true) :
    crcDiffers u = (diverge u).setPr fun p => { p with peerSync := false, diverged := true } := by
  unfold crcDiffers
  rw [hs]
  exact if_pos hp

theorem roleStep_diverge (u : State) : RoleStep u (diverge u) := (roleStep_setPr u rfl).trans (roleStep_event _ _)

theorem divergedStandby_step (u : State) : RoleStep u (divergedStandby u) :=
  ((roleStep_diverge u).trans (roleStep_setPr _ rfl)).trans (roleStep_setPr _ rfl)

theorem divergedStandby_pr (u : State) : (divergedStandby u).pr =
    { u.pr with diverges := satInc 0xFFFF u.pr.diverges, matchCnt := 0, wtrFrom := none, cause := 1, riseStands := true } := by
  have e : (diverge u).pr = { u.pr with diverges := satInc 0xFFFF u.pr.diverges } := raise_pr _ _ _ _
  show { (diverge u).pr with matchCnt := 0, wtrFrom := none, cause := 1, riseStands := true } = _
  rw [e]

/-- What a differing OUTCRC comes to. -/
structure Diverged (u t : State) : Prop where
  step : RoleStep u t
  active : u.pr.state = .active → t = (diverge u).setPr fun p => { p with peerSync := false, diverged := true }
  standby : u.pr.state = .standby → t.pr.diverges = satInc 0xFFFF u.pr.diverges ∧
    (u.rf.regs.wf = true → bit (rd t .PR_EVENT) 2 = true ∧ bit (rd t .PR_EVENT) 3 = true) ∧ Silenced t ∧
    t.glb.gate = u.glb.gate ∧ t.pr.riseStands = true ∧ (JoinGoes u → t.pr.state = .joining ∧ t.pr.cause = 1) ∧
    (¬ JoinGoes u → t.pr.state = .unsynced)

theorem crcDiffers_diverged {u : State} (hp : isPair u = true)
    (h : (u.pr.state = .active ∧ u.pr.peerSync = true) ∨ u.pr.state = .standby) : Diverged u (crcDiffers u) := by
  rcases h with ⟨hs, hy⟩ | hs
  · rw [crcDiffers_active hs hy]
    exact ⟨(roleStep_diverge u).trans (roleStep_setPr _ rfl), fun _ => rfl, fun q => (by rw [hs] at q; cases q)⟩
  · rw [crcDiffers_standby hs]
    have hd := divergedStandby_step u
    have hpr := divergedStandby_pr u
    have hp' : isPair (divergedStandby u) = true := by
      unfold isPair
      rw [hd.straps]
      exact hp
    have hgo : JoinGoes (divergedStandby u) ↔ JoinGoes u := by
      have hpl : (divergedStandby u).pl = u.pl := by rw [hd.beside.1]
      unfold JoinGoes
      rw [hpr, hpl]
    obtain ⟨tstep, tsil, tsync, ⟨t1, t2, t3⟩, tgoes, tstops⟩ := beginJoin_tried hp' (by rw [hpr]; exact hs)
    refine ⟨hd.trans tstep, fun q => (by rw [hs] at q; cases q), fun _ => ⟨?_, fun hw => ⟨?_, tsync (hd.events hw).1⟩, tsil, ?_, ?_, ?_, ?_⟩⟩
    · rw [t1, hpr]
    · exact (tstep.events (hd.events hw).1).2 2 (bit_event (s := u.setPr _) hw (by decide) (by decide))
    · rw [t3]
      show (diverge u).glb.gate = _
      unfold diverge
      rw [raise_glb]
      rfl
    · rw [t2, hpr]
    · intro q
      obtain ⟨q1, q2⟩ := tgoes (hgo.mpr q)
      exact ⟨q1, by rw [q2, hpr]⟩
    · exact fun q => tstops fun r => q (hgo.mp r)

/-! ## Messages of the lining -/

theorem liningMessage_off {s : State} (h : unitOn s = false) (m : LinMsg) : liningMessage s m = s := by
  unfold liningMessage
  exact if_pos (by rw [h]; rfl)

theorem liningHeard_linUp (s : State) (m : LinMsg) : (liningHeard s m).pr.linUp = s.pr.linUp := by cases m <;> rfl

theorem roleStep_liningHeard (s : State) (m : LinMsg) : RoleStep s (liningHeard s m) := by
  unfold liningHeard
  split
  · exact RoleStep.refl s
  · exact roleStep_setPr s rfl
  · exact roleStep_setPr s rfl

theorem liningMessage_down {s : State} (hu : unitOn s = true) (hl : s.pr.linUp = false) (m : LinMsg) :
    liningMessage s m = liningHeard s m := by
  unfold liningMessage
  rw [if_neg (by rw [hu]; decide)]
  exact if_neg (by rw [liningHeard_linUp, hl]; decide)

theorem liningMessage_up {s : State} (hu : unitOn s = true) (hl : s.pr.linUp = true) (m : LinMsg) :
    liningMessage s m = takeMessage (liningHeard s m) m := by
  unfold liningMessage
  rw [if_neg (by rw [hu]; decide)]
  exact if_pos (by rw [liningHeard_linUp, hl])

/-- A message with an OUTCRC has come. -/
def crcHeard (s : State) (deaf fit : Bool) : State :=
  s.setPr fun p => { p with linSeen := true, peerDeaf := deaf, peerFit := fit }

theorem liningMessage_outcrc {s : State} (hu : unitOn s = true) (hl : s.pr.linUp = true) (k d : Nat) (deaf fit : Bool) :
    liningMessage s (.outcrc k d deaf fit) = peerCrc (crcHeard s deaf fit) k d := liningMessage_up hu hl _

theorem peerCrc_waits {s : State} {k : Nat} (h : s.pr.crcs.find? (fun e => e.1 == k) = none) (d : Nat) :
    peerCrc s k d = s.setPr fun p => { p with peerCrc := some (k, d) } := by
  unfold peerCrc
  rw [h]

theorem peerCrc_compares {s : State} {k own : Nat} (h : s.pr.crcs.find? (fun e => e.1 == k) = some (k, own)) (d : Nat) :
    peerCrc s k d = crcCompare s own d := by
  unfold peerCrc
  rw [h]

theorem takeMirrors_unused {s : State} (h1 : s.pr.state ≠ .standby) (h2 : s.pr.state ≠ .joining) (xs : List Mirrored) :
    takeMirrors s xs = s := by
  unfold takeMirrors
  exact if_pos (by simp [follower, h1, h2])

theorem isPair_of_unitOn {s : State} (h : unitOn s = true) : isPair s = true := (Bool.and_eq_true _ _ ▸ h).1

/-- Settles O50: both paths come to `crcCompare`, whose outcomes are `crcMatched` and `Diverged`. -/
theorem peersCompareOutputs : Obligations.PeersCompareOutputs := by
  intro s hs h1 h2 hw within joins equal differs n c heard crcHeard
  have idle : ∀ {f : State → State}, f s = s → run s f = .next s := fun e => run_idle e hs h1 h2
  have role : ∀ {t : State} {f : State → State}, f s = t → RoleStep s t → run s f = .next t := fun e h => run_role e h hs h1 h2
  have toDiffers : ∀ {u t : State}, RoleStep s u → Diverged u t → differs u t := by
    intro u t hu ⟨hstep, hact, hstb⟩
    have hwu := (hu.events hw).1
    refine ⟨fun q _ => hact q, fun q => ?_⟩
    obtain ⟨g1, g2, ⟨p1, _, p3, p4, _, _, _, _⟩, g4, g5, g6, g7⟩ := hstb q
    exact ⟨(hu.trans hstep).within, g1, (g2 hwu).1, (g2 hwu).2, p1, p3, p4, g4, g5, g6, g7⟩
  have compares : ∀ {u : State} {own d : Nat}, RoleStep s u → isPair s = true → own ≠ d →
      (u.pr.state = .active ∧ u.pr.peerSync = true) ∨ u.pr.state = .standby → Diverged u (crcCompare u own d) := by
    intro u own d hu hp hne h
    unfold crcCompare
    rw [if_neg hne]
    exact crcDiffers_diverged (by unfold isPair; rw [hu.straps]; exact hp) h
  refine ⟨fun done h => ?_, fun done errs ho hu hq => ?_, fun done hu hq ho => ?_, fun m h => ?_, fun m hu hl => ?_, fun hu hl => ?_⟩
  · exact idle (f := fun s => heartbeatSend s done) (heartbeatSend_off h done)
  · exact heartbeatSend_owed ho hu hq done
  · intro fit kept sent told known
    have htold : told = crcTold s done := by
      show emit sent _ = _
      unfold crcTold heartbeatSent
      rfl
    have ht : RoleStep s (crcTold s done) := roleStep_crcTold s done
    have hk : RoleStep s (crcKnown s done) := ht.trans (roleStep_setPr _ rfl)
    have hkp : (crcKnown s done).pr.state = s.pr.state ∧ (crcKnown s done).pr.peerSync = s.pr.peerSync := by
      cases done <;> exact ⟨rfl, rfl⟩
    have hknown : known = crcKnown s done := congrArg (fun u : State => u.setPr fun p => { p with peerCrc := none }) htold
    have e := heartbeatSend_sends hu hq ho done
    unfold stitchTold at e
    refine ⟨fun h => ?_, fun h hj => ?_, fun d h hd hst => ?_⟩
    · rw [htold]
      refine role (f := fun s => heartbeatSend s done) (e.trans ?_) ht
      split
      · rename_i x hx
        exact if_neg (h x hx)
      · rfl
    · rw [hknown]
      rw [h] at e
      have e' : heartbeatSend s done = crcMatched (crcKnown s done) :=
        (e.trans (if_pos rfl)).trans ((if_pos rfl).trans (crcEqual_matched (by rw [hkp.1]; exact hj)))
      exact role (f := fun s => heartbeatSend s done) e' (hk.trans (roleStep_crcMatched _))
    · rw [h] at e
      have g := compares hk (isPair_of_unitOn hu) (Ne.symm hd) (by rw [hkp.1, hkp.2]; exact hst)
      refine ⟨_, role (f := fun s => heartbeatSend s done) (e.trans (if_pos rfl)) (hk.trans g.step), ?_⟩
      rw [hknown]
      exact toDiffers hk g
  · exact idle (f := fun s => liningMessage s m) (liningMessage_off h m)
  · refine role (f := fun s => liningMessage s m) ((liningMessage_down hu hl m).trans ?_) ?_
    · cases m <;> rfl
    · have g := roleStep_liningHeard s m
      cases m <;> exact g
  · have hp := isPair_of_unitOn hu
    have hc (deaf fit : Bool) : RoleStep s (crcHeard deaf fit) := roleStep_setPr s rfl
    have hh : RoleStep s heard := roleStep_setPr s rfl
    refine ⟨fun k d deaf fit h => ?_, fun k d deaf fit h hj => ?_, fun k d own deaf fit h hne hst => ?_, fun xs hn1 hn2 => ?_,
      fun on => ?_, fun hn => ?_, fun hst hg => ?_, fun e d => ?_⟩
    · exact role (f := fun s => liningMessage s (.outcrc k d deaf fit))
        ((liningMessage_outcrc hu hl k d deaf fit).trans (peerCrc_waits (s := crcHeard deaf fit) h d))
        ((hc deaf fit).trans (roleStep_setPr _ rfl))
    · exact role (f := fun s => liningMessage s (.outcrc k d deaf fit))
        ((liningMessage_outcrc hu hl k d deaf fit).trans ((peerCrc_compares (s := crcHeard deaf fit) h d).trans
          ((if_pos rfl).trans (crcEqual_matched (u := crcHeard deaf fit) hj))))
        ((hc deaf fit).trans (roleStep_crcMatched _))
    · have g := compares (hc deaf fit) hp hne hst
      exact ⟨_, role (f := fun s => liningMessage s (.outcrc k d deaf fit))
        ((liningMessage_outcrc hu hl k d deaf fit).trans (peerCrc_compares (s := crcHeard deaf fit) h d))
        ((hc deaf fit).trans g.step), toDiffers (hc deaf fit) g⟩
    · exact role (f := fun s => liningMessage s (.mirror xs))
        ((liningMessage_up hu hl _).trans (takeMirrors_unused (s := heard) hn1 hn2 xs)) hh
    · exact role (f := fun s => liningMessage s (.peer on)) (liningMessage_up hu hl _) (hh.trans (roleStep_setPr _ rfl))
    · exact idle (f := fun s => liningMessage s .late) ((liningMessage_up hu hl _).trans (if_neg hn))
    · have g := beginJoin_tried (s := s.setPr fun p => { p with cause := 1 }) hp hst
      have hstep : RoleStep s _ := (roleStep_setPr s rfl).trans g.step
      obtain ⟨q1, q2⟩ := g.goes hg
      exact ⟨_, role (f := fun s => liningMessage s .late) ((liningMessage_up hu hl _).trans (if_pos hst)) hstep,
        hstep.within, q1, q2, g.sync hw, g.silenced.passive⟩
    · exact role (f := fun s => liningMessage s (.measure e d)) (liningMessage_up hu hl _) (hh.trans (roleStep_setPr _ rfl))

end Sys2Proof.Machine
end

section
/-! PERST#, the MODE trials of BARE, removal, RESCAN and LED_STAT (R384, R406 to R409, R476). -/

namespace Sys2Proof.Machine

/-! ## Loops -/

theorem forEach_congr {α : Type} {xs : List α} {f g : α → State → State} (h : ∀ x ∈ xs, ∀ s, f x s = g x s) (s : State) :
    forEach xs s f = forEach xs s g := by
  induction xs generalizing s with
  | nil => rfl
  | cons x xs ih =>
    show forEach xs (f x s) f = forEach xs (g x s) g
    rw [h x List.mem_cons_self, ih fun y hy => h y (List.mem_cons_of_mem _ hy)]

/-- What each step reaches for its element, and no other step undoes, a loop reaches for all of them. -/
theorem forEach_reaches {α : Type} {I : State → Prop} {Q : α → State → Prop} {f : α → State → State}
    (keeps : ∀ x s, I s → I (f x s)) (reaches : ∀ x s, I s → Q x (f x s)) (stays : ∀ x y s, I s → Q x s → Q x (f y s))
    {xs : List α} {s : State} (h : I s) : I (forEach xs s f) ∧ ∀ x ∈ xs, Q x (forEach xs s f) := by
  have along (x : α) : ∀ (ys : List α) (t : State), I t → Q x t → Q x (forEach ys t f) := by
    intro ys
    induction ys with
    | nil => exact fun _ _ q => q
    | cons y ys ih => exact fun t ht q => ih (f y t) (keeps y t ht) (stays x y t ht q)
  induction xs generalizing s with
  | nil => exact ⟨h, fun x hx => by cases hx⟩
  | cons y ys ih =>
    obtain ⟨i1, i2⟩ := ih (keeps y s h)
    refine ⟨i1, fun x hx => ?_⟩
    rcases List.mem_cons.mp hx with rfl | hx
    · exact along x ys (f x s) (keeps x s h) (reaches x s h)
    · exact i2 x hx

/-! ## PERST# (R476) -/

theorem Tbl.get?_filter {α : Type} (t : Tbl α) (p : Nat → Bool) (k : Nat) :
    Tbl.get? (t.filter fun e => p e.1) k = if p k then Tbl.get? t k else none := by
  induction t with
  | nil => exact (ite_self none).symm
  | cons e t ih =>
    obtain ⟨j, v⟩ := e
    simp only [List.filter_cons, Tbl.get?]
    by_cases hj : j = k
    · subst hj
      cases hp : p j
      · rw [if_neg (by decide), ih, hp, if_neg (by decide), if_neg (by decide)]
      · rw [if_pos rfl, if_pos rfl, if_pos rfl]
        exact if_pos rfl
    · cases hp : p j
      · rw [if_neg (by decide), ih, if_neg hj]
      · rw [if_pos rfl, if_neg hj]
        exact (if_neg hj).trans ih

/-- An offset that a reset of the PCIe function leaves alone. -/
def outsidePcie (off : Nat) : Bool := match findReg off with | some (r, _, _) => !ofPcie r | none => true

/-- The registers of the PCIe function are at reset. -/
def pcieReset (s : State) : State := { s with rf := { s.rf with regs := s.rf.regs.filter fun e => outsidePcie e.1 } }

theorem rd_pcieReset (s : State) (r : Reg) {i j : Nat} (hi : i < (desc r).n1) (hj : j < (desc r).n2) :
    rd (pcieReset s) r i j = if ofPcie r = true then word (desc r).reset else rd s r i j := by
  have e : outsidePcie (addr r i j) = !ofPcie r := by unfold outsidePcie; rw [findReg_addr r hi hj]
  unfold rd Tbl.getD pcieReset
  rw [Tbl.get?_filter, e]
  cases ofPcie r <;> rfl

theorem calm_pcieReset {s : State} (h : calm s = true) (evt : Evt) : calm { pcieReset s with evt := evt } = true :=
  calm_rf (s := s) (rf := (pcieReset s).rf) evt h (rd_pcieReset s .SES_MBOX (i := 0) (j := 0) (by decide) (by decide))

/-- PERST# holds the link down and the function in D0 with MSI-X off. -/
def perstHeld (s : State) : State :=
  (pcieReset s).setEvt fun e => { e with perst := true, msixEn := false, msixMask := false, dstate := .d0, link := .down }

theorem perstLow_eq (s : State) : perstLow s = wakeUpdate (fallAsleep (perstHeld s) (asleep s)) := by
  have e : perstLow s = wakeUpdate (fallAsleep ((pcieReset s).setEvt fun e => { e with
      perst := true, msixEn := false, msixMask := false, dstate := .d0, link := .down, reachedL0 := e.reachedL0 || false })
      (asleep ((pcieReset s).setEvt fun e => { e with perst := true, msixEn := false, msixMask := false }))) := rfl
  rw [e]
  simp only [Bool.or_false]
  refine congrArg wakeUpdate (forEach_congr (fun k hk t => if_congr (and_congr_right fun _ => ?_) rfl rfl) _)
  have hk' : k < 8 := by
    have : k ∈ List.range 8 := hk
    exact List.mem_range.mp this
  have hs : asleep ((pcieReset s).setEvt fun e => { e with perst := true, msixEn := false, msixMask := false }) k = asleep s k := by
    have hr : fb (pcieReset s) .TGT_CTRL_SLEEP k = fb s .TGT_CTRL_SLEEP k := by
      unfold fb fv
      rw [rd_pcieReset s Fd.TGT_CTRL_SLEEP.reg (i := k) (j := 0) hk' (by decide)]
      rfl
    unfold asleep
    rw [show fb ((pcieReset s).setEvt fun e => { e with perst := true, msixEn := false, msixMask := false }) .TGT_CTRL_SLEEP k =
      fb s .TGT_CTRL_SLEEP k from hr]
    rfl
  rw [hs]

theorem exec_perstAssert {s : State} (h : calm s = true) :
    exec .perstAssert s = .next (wakeUpdate (fallAsleep (perstHeld s) (asleep s))) := by
  have hn : Near (perstHeld s) _ := (near_fallAsleep (perstHeld s) (asleep s)).trans (near_wakeUpdate _)
  exact run_is (f := perstLow) (perstLow_eq s) (hn.calm (calm_pcieReset h _)) hn.now hn.pending

/-! ## BARE (R384) -/

/-- Another MODE of N0 is tried. -/
def bareFields (s : State) (k : Nat) : State :=
  setFd (setFd (setFd s .PORT_CTRL_MODE (bareMode k)) .PORT_CTRL_KX_ADV 1) .PORT_CTRL_EN 1

theorem setFd_frame (s : State) (f : Fd) (v i j : Nat) : ∃ rf, setFd s f v i j = { s with rf := rf } := ⟨_, rfl⟩

theorem bareFields_frame (s : State) (k : Nat) : ∃ rf, bareFields s k = { s with rf := rf } := by
  unfold bareFields
  obtain ⟨rf, e⟩ := setFd_frame s .PORT_CTRL_MODE (bareMode k) 0 0
  rw [e]
  obtain ⟨rf, e⟩ := setFd_frame { s with rf := rf } .PORT_CTRL_KX_ADV 1 0 0
  rw [e]
  exact setFd_frame _ _ _ _ _

theorem calm_setFd {s : State} (h : calm s = true) (f : Fd) (v : Nat) (hr : addr .SES_MBOX ≠ addr f.reg) :
    calm (setFd s f v) = true := calm_wr h _ hr

theorem calm_bareFields {s : State} (h : calm s = true) (k : Nat) : calm (bareFields s k) = true :=
  calm_setFd (calm_setFd (calm_setFd h _ _ (by decide)) _ _ (by decide)) _ _ (by decide)

theorem switchOnly_portState (s : State) (n : Nat) (st : PortState) : SwitchOnly s (portState s n st) := by
  by_cases h : (portOf s n).state = st
  · rw [portState, if_pos h]
    exact .refl s
  · rw [portState_moves h]
    exact switchOnly_portMoves s n _

theorem switchOnly_portEnable (s : State) (n : Nat) (on : Bool) : SwitchOnly s (portEnable s n on) := by
  unfold portEnable
  split
  · split
    · exact switchOnly_portState s n _
    · exact .refl s
  · split
    · exact .refl s
    · exact (switchOnly_flushPort s n).trans (switchOnly_portState _ n _)

theorem portOf_portState (s : State) (n : Nat) (st : PortState) : (portOf (portState s n st) n).state = st := by
  by_cases h : (portOf s n).state = st
  · rw [portState, if_pos h]
    exact h
  · rw [portState_moves h]
    unfold portMoves portOf
    rw [raise_sw]
    exact congrArg Port.state (portOf_setPort s n _)

theorem portOf_disabled (s : State) (n : Nat) : (portOf (portEnable s n false) n).state = .disabled := by
  unfold portEnable
  rw [if_neg (by decide)]
  split
  · rename_i h; exact h
  · exact portOf_portState _ n _

theorem portOf_enabled {s : State} {n : Nat} (h : (portOf s n).state = .disabled) :
    (portOf (portEnable s n true) n).state = .negotiating := by
  unfold portEnable
  rw [if_pos rfl, if_pos h]
  exact portOf_portState s n _

/-- What a trial of a MODE comes to. -/
structure Tries (s t : State) (k : Nat) : Prop where
  frame : t = { s with rf := t.rf, evt := t.evt, sw := t.sw, pl := t.pl }
  pl : t.pl = { s.pl with bareIdx := k % 4, bareAt := s.now }
  negotiates : (portOf t 0).state = .negotiating
  calm : calm s = true → Machine.calm t = true

theorem bareTry_tries (s : State) (k : Nat) : Tries s (bareTry s k) k := by
  have off := switchOnly_portEnable s 0 false
  have e : bareTry s k = portEnable ((bareFields (portEnable s 0 false) k).setPl fun p => { p with
      bareIdx := k % 4, bareAt := (bareFields (portEnable s 0 false) k).now }) 0 true := rfl
  have hcalm := fun h : Machine.calm s = true => calm_bareFields (off.near.calm h) k
  obtain ⟨rf, er⟩ := bareFields_frame (portEnable s 0 false) k
  rw [e]
  rw [er] at hcalm ⊢
  have hd := portOf_disabled s 0
  have on := switchOnly_portEnable
    (State.setPl { portEnable s 0 false with rf := rf } fun p => { p with bareIdx := k % 4, bareAt := (portEnable s 0 false).now }) 0 true
  refine ⟨?_, ?_, ?_, fun h => ?_⟩
  · rw [on.1, off.1]
    rfl
  · rw [on.1, off.1]
    rfl
  · exact portOf_enabled hd
  · exact on.near.calm (hcalm h)

/-- N0 tries the next MODE of BARE. -/
abbrev BareDue (s : State) : Prop := s.glb.mode = .bare ∧ (portOf s 0).state ≠ .up ∧ s.pl.bareAt + 2000000000 ≤ s.now

theorem exec_bareModeTimer_due {s : State} (h : calm s = true) (hd : BareDue s) :
    ∃ t, exec .bareModeTimer s = .next t ∧ Tries s t (s.pl.bareIdx + 1) := by
  have g := bareTry_tries s (s.pl.bareIdx + 1)
  refine ⟨_, run_is (f := bareTimer) (if_pos hd) (g.calm h) ?_ ?_, g⟩
  · rw [g.frame]
  · rw [g.frame]

/-! ## Removal (R406) -/

/-- A step of a removal: near, and PL_EVENT reads as before. -/
def RemovalStep (s t : State) : Prop := Near s t ∧ rd t .PL_EVENT = rd s .PL_EVENT

theorem RemovalStep.refl (s : State) : RemovalStep s s := ⟨Near.refl s, rfl⟩

theorem RemovalStep.trans {s t u : State} (h : RemovalStep s t) (g : RemovalStep t u) : RemovalStep s u :=
  ⟨h.1.trans g.1, g.2.trans h.2⟩

theorem removalStep_raise (s : State) {r : Reg} (bits : Nat) (hr : (evtGroup r).isSome) (hne : Reg.PL_EVENT ≠ r)
    (hi : 0 < (desc r).n1) (hj : 0 < (desc r).n2) : RemovalStep s (raise s r bits) :=
  ⟨near_raise s bits hr hi hj, rd_raise_ne s bits (addr_ne hne hi hj (by decide) (by decide))⟩

theorem removalStep_groupMoves (s : State) (g : Nat) (x : Group) : RemovalStep s (groupMoves s g x) := by
  refine ⟨(groupOnly_groupMoves s g x).near, ?_⟩
  unfold groupMoves
  have h := removalStep_raise (setGroup s g x) (r := .LN_EVENT) 1 (by decide) (by decide) (by decide) (by decide)
  unfold rd
  rw [hitAttached_rf]
  exact h.2

theorem removalStep_cgStopping (s : State) (g : Nat) : RemovalStep s (cgStopping s g) := by
  by_cases h : (groupOf s g).state = .off ∨ (groupOf s g).state = .stopping
  · rw [cgStopping_stays h]
    exact .refl s
  · obtain ⟨h1, h2⟩ := not_or.mp h
    rw [cgStopping_on h1 h2]
    exact removalStep_groupMoves s g _

theorem groupOf_groupMoves (s : State) (g : Nat) (x : Group) : groupOf (groupMoves s g x) g = x := by
  have h := hitAttached_flagged (raise (setGroup s g x) .LN_EVENT 1) .ATT_CG g 0
  unfold groupMoves
  rw [h.groupOf, groupOf_raise, groupOf_setGroup]

/-- A group that is stopped: OFF stays OFF, any other one stops. -/
theorem groupOf_cgStopping (s : State) (g h : Nat) : (groupOf (cgStopping s h) g).state =
    if g = h ∧ (groupOf s g).state ≠ .off then .stopping else (groupOf s g).state := by
  by_cases hst : (groupOf s h).state = .off ∨ (groupOf s h).state = .stopping
  · rw [cgStopping_stays hst]
    split
    · rename_i q
      obtain ⟨rfl, q⟩ := q
      exact hst.resolve_left q
    · rfl
  · obtain ⟨h1, h2⟩ := not_or.mp hst
    rw [cgStopping_on h1 h2]
    by_cases hg : g = h
    · subst hg
      rw [groupOf_groupMoves, if_pos ⟨rfl, h1⟩]
      rfl
    · rw [if_neg fun q => hg q.1, (groupOnly_groupMoves s h _).others hg]

theorem removalStep_stopLanes (s : State) : RemovalStep s (stopLanes s) :=
  forEach_rel RemovalStep.refl RemovalStep.trans (fun g s => removalStep_cgStopping s g) _ s

/-- No group runs on, and those that were OFF are OFF alone. -/
theorem stopLanes_stops (s : State) : (∀ g < 8, (groupOf (stopLanes s) g).state = .off ∨ (groupOf (stopLanes s) g).state = .stopping) ∧
    ∀ g, (groupOf (stopLanes s) g).state = .off ↔ (groupOf s g).state = .off := by
  have h := forEach_reaches (I := fun t => ∀ g, (groupOf t g).state = .off ↔ (groupOf s g).state = .off)
    (Q := fun g t => (groupOf t g).state = .off ∨ (groupOf t g).state = .stopping) (f := fun g s => cgStopping s g)
    (xs := List.range 8) (s := s) (fun k t i g => ?_) (fun k t _ => ?_) (fun g k t _ q => ?_) fun _ => Iff.rfl
  · exact ⟨fun g hg => h.2 g (List.mem_range.mpr hg), h.1⟩
  · show (groupOf (cgStopping t k) g).state = .off ↔ _
    rw [groupOf_cgStopping, ← i g]
    split
    · rename_i q
      exact ⟨fun e => (by cases e), fun e => absurd e q.2⟩
    · exact Iff.rfl
  · show (groupOf (cgStopping t k) k).state = .off ∨ (groupOf (cgStopping t k) k).state = .stopping
    rw [groupOf_cgStopping]
    by_cases hk : (groupOf t k).state = .off
    · rw [if_neg fun q => q.2 hk]; exact .inl hk
    · rw [if_pos ⟨rfl, hk⟩]; exact .inr rfl
  · show (groupOf (cgStopping t k) g).state = .off ∨ (groupOf (cgStopping t k) g).state = .stopping
    rw [groupOf_cgStopping]
    split
    · exact .inr rfl
    · exact q

theorem gateAll_frame (s : State) : coGateAll s = { s with cio := (coGateAll s).cio } := by
  refine forEach_rel (R := fun s t => t = { s with cio := t.cio }) (fun _ => rfl) (fun h g => by rw [g, h]) (fun k s => ?_) _ s
  split
  · unfold coSettle
    dsimp only
    (repeat' split) <;> rfl
  · rfl

theorem removalStep_gateAll (s : State) : RemovalStep s (coGateAll s) := by
  rw [gateAll_frame]
  exact ⟨Near.of_eq rfl rfl, rfl⟩

theorem removalStep_wakeUpdate (s : State) : RemovalStep s (wakeUpdate s) := by
  refine ⟨near_wakeUpdate s, ?_⟩
  unfold wakeUpdate
  dsimp only
  split
  · rfl
  · split
    · exact rd_raise_ne _ _ (addr_ne (by decide) (by decide) (by decide) (by decide) (by decide))
    · rfl

theorem wakeUpdate_ln (s : State) : (wakeUpdate s).ln = s.ln := by rw [(atMostWakes_wakeUpdate s).1]

/-- Nothing is sent any more, and no removal waits. -/
def legsEnded (s : State) : State :=
  (s.setPl fun p => { p with eject := false }).setGlb fun g => { g with sendA := false, sendB := false, sendOne := false }

theorem removalSteps_eq (s : State) : removalSteps s = wakeUpdate (closeAll (coGateAll (stopLanes (legsEnded s)))) := rfl

theorem closeAll_none {s : State} (h : s.ses.ses = []) : closeAll s = s := by
  unfold closeAll closeWhere
  rw [h]
  rfl

/-- Without sessions a removal stops groups and outputs. -/
theorem removalSteps_alone {s : State} (h : s.ses.ses = []) :
    RemovalStep (legsEnded s) (removalSteps s) ∧ (removalSteps s).ln = (stopLanes (legsEnded s)).ln := by
  have h1 := (removalStep_stopLanes (legsEnded s)).trans (removalStep_gateAll (stopLanes (legsEnded s)))
  have hses : (coGateAll (stopLanes (legsEnded s))).ses.ses = [] := by rw [h1.1.1]; exact h
  rw [removalSteps_eq, closeAll_none hses]
  refine ⟨h1.trans (removalStep_wakeUpdate _), ?_⟩
  rw [wakeUpdate_ln, gateAll_frame]

theorem lanesDone_iff (s : State) : lanesDone s = true ↔ ∀ g < 8, (groupOf s g).state = .off := by
  simp [lanesDone, List.all_eq_true]

/-- The end of a command of a module alone with nothing to deliver or report. -/
theorem finish_removal {old t : State} (hr : Ready t) (hd : t.saf.due = []) (hb : t.saf.bars = [])
    (he : t.shed.exhausted = false) (hq : t.saf.quiet ≠ some .inOrder) (hp : isPair t = false) (hm : t.glb.mode = .removing) :
    finish old t = ejectDone t := by
  have hc : ¬ calm t = true := fun c => (calm_out c).2.2.2.2.2.2.2.2.1 hm
  have e1 : exhaustedQuiet t = t := if_neg (by rw [he]; simp)
  have hdel : ∀ c, t.setSaf (fun y => { y with bars := Tbl.del y.bars c }) = t := by
    intro c
    show { t with saf := { t.saf with bars := Tbl.del t.saf.bars c } } = t
    rw [Tbl.del_absent (by rw [hb]; rfl)]
  have e2 : barsEnd t = t := by
    unfold barsEnd; dsimp only
    rw [hdel, ite_self, hdel, ite_self]
  have e3 : quietGate t = t := if_neg fun q => hq q.1
  have e4 : mirrorChanges old (ejectDone t) = ejectDone t := by
    have hp' : isPair (ejectDone t) = false := by
      unfold ejectDone
      split <;> exact hp
    unfold mirrorChanges
    dsimp only
    exact if_pos (by rw [hp', Bool.not_false, Bool.or_true])
  unfold finish
  rw [if_neg hc, finishAll_ready hr, takeReports_nil hd, e1, e2, e3, e4]

/-- The hand-off has begun: EJECT_REQ is raised and MODE is REMOVING. -/
def removing (s : State) : State := (raise s .PL_EVENT 0x10).setGlb fun g => { g with mode := .removing }

/-- What an ejection of a module alone without sessions comes to. -/
structure Leaves (s t : State) : Prop where
  glb : t.glb = { s.glb with
    mode := .removing, sendA := false, sendB := false, sendOne := false, ledEject := (s.glb.ledEject || lanesDone s) }
  pl : t.pl = { s.pl with eject := false }
  event : s.rf.regs.wf = true → bit (rd t .PL_EVENT) 4 = true
  flags : OnlyFlags s t
  mix : t.mix = s.mix
  groups : ∀ g < 8, (groupOf t g).state = .off ∨ (groupOf t g).state = .stopping

theorem yieldRole_alone {s : State} (h : isPair s = false) : yieldRole s = s := by
  unfold yieldRole
  exact if_pos (.inl (by rw [h]; rfl))

theorem ejectStart_alone {s : State} (hc : calm s = true) (hq : s.glb.mode ≠ .quiet) (hb : s.glb.mode ≠ .bare)
    (hy : s.pr.state ≠ .yielded) : ejectStart s = removalSteps (removing s) := by
  have hglb : (raise s .PL_EVENT 0x10).glb = s.glb := raise_glb _ _ _ _
  have hp : isPair (removing s) = false := by
    show ((raise s .PL_EVENT 0x10).glb.straps == 1 || (raise s .PL_EVENT 0x10).glb.straps == 2) = false
    rw [hglb]
    exact calm_alone hc
  unfold ejectStart
  rw [if_neg (calm_out hc).2.2.2.2.2.2.2.2.1]
  dsimp only
  rw [hglb, if_neg hq, if_neg (by simp [hb])]
  show (if (yieldRole (removing s)).pr.state = .yielded ∧ (yieldRole (removing s)).glb.gate = true then
    (yieldRole (removing s)).setPl fun p => { p with eject := true } else removalSteps (yieldRole (removing s))) = _
  rw [yieldRole_alone hp]
  refine if_neg fun q => hy ?_
  have hpr : (removing s).pr = s.pr := raise_pr _ _ _ _
  rw [← hpr]
  exact q.1

/-- LED_EJECT lights at once where no lane is left to stop. -/
theorem ejectDone_lights {t : State} (hm : t.glb.mode = .removing) (he : t.pl.eject = false) : ∃ e, ejectDone t = { t with
    glb := { t.glb with ledEject := t.glb.ledEject || lanesDone t }, emitted := e } := by
  unfold ejectDone
  cases hl : t.glb.ledEject with
  | true => exact ⟨t.emitted, (if_neg (by simp)).trans (by rw [Bool.true_or, ← hl])⟩
  | false =>
    cases hd : lanesDone t with
    | true => exact ⟨_, (if_pos ⟨hm, by rw [he]; rfl, rfl, rfl⟩).trans rfl⟩
    | false => exact ⟨t.emitted, (if_neg (by simp)).trans (by rw [Bool.or_false, ← hl])⟩

theorem run_leaves {s u : State} {f : State → State} (hc : calm u = true) (hq : u.glb.mode ≠ .quiet) (hb : u.glb.mode ≠ .bare)
    (hy : u.pr.state ≠ .yielded) (hses : u.ses.ses = []) (e : f s = ejectStart u) :
    ∃ t, run s f = .next t ∧ Leaves u t := by
  obtain ⟨hd, ho, hx, hmb, hdue, hbars, hexh, hquiet, -, hpair, hsets⟩ := calm_out hc
  have hraise : Near u (raise u .PL_EVENT 0x10) := near_raise u _ (by decide) (by decide) (by decide)
  have hrses : (removing u).ses.ses = [] := by
    show (raise u .PL_EVENT 0x10).ses.ses = []
    rw [raise_ses]; exact hses
  obtain ⟨⟨hnear, hev⟩, hln⟩ := removalSteps_alone hrses
  set t := removalSteps (removing u) with ht
  have frame : t = { u with
      rf := t.rf, evt := t.evt, ln := t.ln, rb := t.rb, sw := t.sw, tb := t.tb, ref := t.ref, syn := t.syn, cio := t.cio
      spl := t.spl, dyn := t.dyn, str := t.str, emitted := t.emitted, freeCtr := t.freeCtr, pl := { u.pl with eject := false }
      glb := { u.glb with mode := .removing, sendA := false, sendB := false, sendOne := false } } := by
    rw [hnear.1]
    unfold legsEnded removing State.setPl State.setGlb
    dsimp only
    rw [hraise.1]
  have flags : OnlyFlags u t :=
    onlyFlags_trans hraise.2 (onlyFlags_from (t := legsEnded (removing u)) rfl hnear.2)
  have hfb : fb t .SES_MBOX_EN = false := (onlyFlags_fb flags .SES_MBOX_EN rfl (by decide) (by decide)).trans hmb
  have ready : Ready t := by
    refine ⟨by rw [frame]; exact hd, by rw [frame]; exact ho, by rw [frame]; exact hx, hfb, ?_⟩
    rw [frame]
    simpa only [List.all_eq_true, Bool.or_eq_true, bne_iff_ne] using hsets
  have hmode : t.glb.mode = .removing := by rw [frame]
  have hstart : (legsEnded (removing u)).ln = u.ln := raise_ln _ _ _ _
  have hgroup : ∀ g, groupOf (legsEnded (removing u)) g = groupOf u g := fun g => by unfold groupOf; rw [hstart]
  obtain ⟨s1, s2⟩ := stopLanes_stops (legsEnded (removing u))
  have hgt : ∀ g, groupOf t g = groupOf (stopLanes (legsEnded (removing u))) g := fun g => by unfold groupOf; rw [hln]
  have hlanes : lanesDone t = lanesDone u := by
    rw [Bool.eq_iff_iff, lanesDone_iff, lanesDone_iff]
    exact forall₂_congr fun g _ => by rw [hgt, s2 g, hgroup]
  obtain ⟨em, el⟩ := ejectDone_lights hmode (by rw [frame])
  have hfin : finish s t = ejectDone t := finish_removal ready (by rw [frame]; exact hdue) (by rw [frame]; exact hbars)
    (by rw [frame]; exact hexh) (by rw [frame]; exact hquiet) (by unfold isPair; rw [frame]; exact hpair) hmode
  refine ⟨{ ejectDone t with now := s.now, pending := s.pending }, ?_, ?_, ?_, fun hw => ?_, ?_, ?_, fun g hg => ?_⟩
  · unfold run
    rw [e, ejectStart_alone hc hq hb hy, ← ht, hfin]
  · show (ejectDone t).glb = _
    rw [el, hlanes]
    dsimp only
    rw [frame]
  · show (ejectDone t).pl = _
    rw [el, frame]
  · show bit (rd (ejectDone t) .PL_EVENT) 4 = true
    rw [el]
    show bit (rd t .PL_EVENT) 4 = true
    rw [hev]
    show bit (rd (raise u .PL_EVENT 0x10) .PL_EVENT) 4 = true
    rw [rd_raise_self hw]
    exact bit_or (by decide) (by decide)
  · refine onlyFlags_trans flags (onlyFlags_of_rf ?_)
    show (ejectDone t).rf = _
    rw [el]
  · show (ejectDone t).mix = _
    rw [el, frame]
  · show (groupOf (ejectDone t) g).state = .off ∨ (groupOf (ejectDone t) g).state = .stopping
    rw [el]
    show (groupOf t g).state = .off ∨ (groupOf t g).state = .stopping
    rw [hgt]
    exact s1 g hg

/-! ## Removal in BARE -/

theorem ownerGone_ses (s : State) (who : Requester) : (bsOwnerGone s who).ses = s.ses :=
  forEach_rel (R := fun s t => t.ses = s.ses) (fun _ => rfl) (fun f g => g.trans f) (fun k s => by
    dsimp only
    split
    · rfl
    · split <;> rfl) _ s

theorem orphanRequests_ses (s : State) (k : Nat) : (orphanRequests s k).ses = s.ses := rfl

theorem closeSession_ses (s : State) (k : Nat) : (closeSession s k).ses.ses = Tbl.del s.ses.ses k := by
  unfold closeSession
  split
  · have e (t : State) : (orphanRequests (bsOwnerGone t (.session k)) k).ses = t.ses :=
      (orphanRequests_ses _ k).trans (ownerGone_ses t _)
    rw [raise_ses]
    simp only [State.setSes, e]
    split <;> rfl
  · rename_i h
    exact (Tbl.del_absent h).symm

/-- Closing all sessions leaves none. -/
theorem closeAll_empties {s : State} (hw : s.ses.ses.wf = true) : (closeAll s).ses.ses = [] := by
  set ks := s.ses.ses.filterMap fun e => if (fun _ => true) e.2 = true then some e.1 else none with hks
  have h := forEach_reaches (I := fun t => t.ses.ses.wf = true ∧ ∀ e ∈ t.ses.ses, e.1 ∈ ks)
    (Q := fun k t => Tbl.get? t.ses.ses k = none) (f := fun k s => closeSession s k) (xs := ks) (s := s)
    (fun k t i => ?_) (fun k t i => ?_) (fun j k t i q => ?_) ⟨hw, fun e he => ?_⟩
  · obtain ⟨⟨hwf, hin⟩, hgone⟩ := h
    rw [List.eq_nil_iff_forall_not_mem]
    intro e he
    have hsome := Tbl.get?_mem hwf he
    cases (hgone e.1 (hin e he)).symm.trans hsome
  · rw [closeSession_ses]
    exact ⟨Tbl.wf_del k i.1, fun e he => i.2 e (Tbl.mem_del he)⟩
  · show Tbl.get? (closeSession t k).ses.ses k = none
    rw [closeSession_ses]
    exact Tbl.get?_del_self k i.1
  · show Tbl.get? (closeSession t k).ses.ses j = none
    rw [closeSession_ses]
    by_cases hj : j = k
    · rw [hj]; exact Tbl.get?_del_self k i.1
    · rw [Tbl.get?_del_ne _ hj]; exact q
  · exact List.mem_filterMap.mpr ⟨e, he, if_pos rfl⟩

/-- A removal in BARE: its steps at once, and LED_EJECT lights. -/
def bareLeaves (u : State) : State :=
  emit ((removalSteps (removing u)).setGlb fun g => { g with ledEject := true }) .ledEject

theorem ejectStart_bare {u : State} (hb : u.glb.mode = .bare) : ejectStart u = bareLeaves u := by
  have hglb : (raise u .PL_EVENT 0x10).glb = u.glb := raise_glb _ _ _ _
  unfold ejectStart
  rw [if_neg (by rw [hb]; decide)]
  dsimp only
  rw [hglb, hb, if_neg (show ¬ Mode.bare = Mode.quiet by decide)]
  exact if_pos rfl

/-- Before its sessions close, a removal has stopped groups and outputs. -/
theorem removalStops_near (s : State) : Near (legsEnded s) (coGateAll (stopLanes (legsEnded s))) :=
  ((removalStep_stopLanes (legsEnded s)).trans (removalStep_gateAll _)).1

theorem removalSteps_ses {s : State} (hw : s.ses.ses.wf = true) : (removalSteps s).ses.ses = [] := by
  rw [removalSteps_eq, (near_wakeUpdate _).1]
  refine closeAll_empties ?_
  rw [(removalStops_near s).1]
  exact hw

theorem removalSteps_glb (s : State) : (removalSteps s).glb = (legsEnded s).glb := by
  rw [removalSteps_eq, (near_wakeUpdate _).1]
  exact (roleKept_closeWhere _ _).2.1.trans (by rw [(removalStops_near s).1])

theorem bareLeaves_alone {u : State} (h : isPair u = false) : isPair (bareLeaves u) = false := by
  have e : (bareLeaves u).glb.straps = u.glb.straps := by
    show (removalSteps (removing u)).glb.straps = _
    rw [removalSteps_glb]
    show (raise u .PL_EVENT 0x10).glb.straps = _
    rw [raise_glb]
  unfold isPair
  rw [e]
  exact h

theorem bareLeaves_ses {u : State} (hw : u.ses.ses.wf = true) : (bareLeaves u).ses.ses = [] := by
  refine removalSteps_ses (s := removing u) ?_
  show (raise u .PL_EVENT 0x10).ses.ses.wf = true
  rw [raise_ses]
  exact hw

theorem run_bareLeaves {s u : State} {f : State → State} (hb : u.glb.mode = .bare) (hp : isPair u = false)
    (e : f s = ejectStart u) (hs : settled (bareLeaves u) = true) :
    run s f = .next { bareLeaves u with now := s.now, pending := s.pending } := by
  unfold run
  rw [e, ejectStart_bare hb, finish_settled hs]
  refine ⟨settled_outbox hs, .inl ?_⟩
  unfold mirrors unitOn
  rw [bareLeaves_alone hp]
  rfl

/-! ## PL_CMD -/

/-- An accepted write of a unit that stays alone. -/
theorem regWrite_alone {s t : State} {r : Reg} {i j : Nat} {v : Word} (hi : i < (desc r).n1) (hj : j < (desc r).n2)
    (ha : Accepted s r i j v) (e : blockWrite (noted s r i j) r i j v = t) (hp : isPair t = false) :
    regWrite s r i j v 15 = t := by
  rw [regWrite_ok (findReg_addr r hi hj) ha, e]
  exact forward_alone hp _ _ _

theorem ejectStart_isPair {u : State} (hp : isPair u = false) : isPair (ejectStart u) = false := by
  have hglb : (raise u .PL_EVENT 0x10).glb = u.glb := raise_glb _ _ _ _
  have hmove {t : State} (h : isPair t = false) : isPair (removalSteps t) = false := by
    unfold isPair at h ⊢
    rw [removalSteps_glb]
    exact h
  unfold ejectStart
  split
  · exact hp
  · extract_lets bare a b c
    have hb : isPair b = false := by
      show isPair (if _ then a else _) = false
      split
      · unfold isPair
        rw [show a.glb = u.glb from hglb]
        exact hp
      · show (a.glb.straps == 1 || a.glb.straps == 2) = false
        rw [show a.glb = u.glb from hglb]
        exact hp
    split
    · exact hmove hb
    · have hc : c = b := yieldRole_alone hb
      rw [hc]
      split
      · exact hb
      · exact hmove hb

theorem exec_eject {s : State} (hp : isPair s = false) (ha : Accepted s .PL_CMD 0 0 2) :
    cmdBit s .PL_CMD 0 1 = ejectStart (noted s .PL_CMD 0 0) :=
  regWrite_alone (v := 2) (by decide) (by decide) ha rfl (ejectStart_isPair hp)

/-! ## RESCAN (R409) -/

theorem rescanDone_stores {s : State} (h : s.pl.rescan = true) : rescanDone s = s.setPl fun p => { p with
    rescan := false, validA := (checkOf s false).fail == 0, failA := (checkOf s false).fail, seqA := (checkOf s false).seq
    validB := (checkOf s true).fail == 0, failB := (checkOf s true).fail, seqB := (checkOf s true).seq } := by
  unfold rescanDone
  rw [if_pos h]
  generalize checkOf s false = a
  generalize checkOf s true = b
  rfl

/-! ## LED_STAT (R408) -/

theorem ledStat_running {u : State} (hr : u.glb.inReset = false) (hm : u.glb.mode = .running) :
    ledStat u = if isPair u = true ∧ u.pr.state ≠ .active then .dips else .on := by
  unfold ledStat
  rw [hr, hm, if_neg (by decide)]
  refine if_congr ?_ rfl rfl
  rw [Bool.and_eq_true, bne_iff_ne]

/-- In reset the pin is high-impedance; in the other modes LED_STAT shows the mode alone. -/
theorem ledStat_mode {u : State} (hr : u.glb.inReset = false) :
    (u.glb.mode = .starting → ledStat u = .blinks 2000) ∧ (u.glb.mode = .bare → ledStat u = .blinks 500) ∧
      (u.glb.mode = .quiet → ledStat u = .blinks 8000) ∧ (u.glb.mode = .removing → ledStat u = .off) := by
  unfold ledStat
  rw [hr, if_neg (by decide)]
  refine ⟨fun h => ?_, fun h => ?_, fun h => ?_, fun h => ?_⟩ <;> rw [h]

/-- Settles O52, clause by clause. -/
theorem removalAndScan : Obligations.RemovalAndScan := by
  intro s hc hw isMsix stays base fallen leaves bareLeaves' bareGoes
  have hmsix : ∀ r, isMsix r = ofPcie r := fun r => by cases r <;> rfl
  have hstays : stays = outsidePcie := by
    funext off
    show (match findReg off with | some (r, _, _) => !isMsix r | none => true) = outsidePcie off
    unfold outsidePcie
    cases findReg off with
    | none => rfl
    | some x => exact congrArg (! ·) (hmsix x.1)
  have hbase : base = pcieReset s := by
    show { s with rf := { s.rf with regs := s.rf.regs.filter fun e => stays e.1 } } = _
    rw [hstays]
    rfl
  have hleft : ∀ {f : State → State} {u : State}, calm u = true → u.rf.regs.wf = true → OnlyFlags s u → u.mix = s.mix →
      u.pl = s.pl → lanesDone u = lanesDone s → u.glb.mode = s.glb.mode → u.pr = s.pr → u.ses = s.ses →
      s.glb.mode ≠ .quiet → s.glb.mode ≠ .bare → s.pr.state ≠ .yielded → s.ses.ses = [] → f s = ejectStart u →
      leaves u (run s f) := by
    intro f u uc uw uf um upl ul ug upr us hq hb hy hs e
    obtain ⟨t, ht, tglb, tpl, tev, tf, tm, tg⟩ :=
      run_leaves uc (by rw [ug]; exact hq) (by rw [ug]; exact hb) (by rw [upr]; exact hy) (by rw [us]; exact hs) e
    exact ⟨t, ht, by rw [tglb, ul], by rw [tpl, upl], tev uw, onlyFlags_trans uf tf, tm.trans um, tg⟩
  refine ⟨?_, fun r i j hi hj => ?_, fun h => ?_, fun h => ?_, ⟨fun h => ?_, fun h => ?_⟩, fun hq hb hy hses => ⟨?_, fun ha => ?_⟩,
    fun hb => ⟨⟨fun hs => ?_, fun h1 h2 h3 => ?_⟩, fun ha => ⟨fun hs => ?_, fun h1 h2 h3 => ?_⟩⟩, ?_, fun ha => ?_, fun h => ?_, fun h => ?_,
    fun u hr => ?_⟩
  · rw [hbase]
    exact exec_perstAssert hc
  · rw [hbase, rd_pcieReset s r hi hj, hmsix]
  · exact run_is (f := perstHigh) (if_pos h) hc rfl rfl
  · exact run_is (f := perstHigh) (if_neg (by rw [h]; decide)) hc rfl rfl
  · obtain ⟨t, ht, g⟩ := exec_bareModeTimer_due hc h
    exact ⟨t, ht, g.frame, g.pl, g.negotiates⟩
  · exact run_is (f := bareTimer) (if_neg h) hc rfl rfl
  · exact hleft (f := ejectStart) hc hw (onlyFlags_refl s) rfl rfl rfl rfl rfl rfl hq hb hy hses rfl
  · exact hleft (f := fun s => cmdBit s .PL_CMD 0 1) (u := noted s .PL_CMD 0 0) hc hw (onlyFlags_of_rf rfl) rfl rfl rfl rfl rfl rfl
      hq hb hy hses (exec_eject (calm_alone hc) ha)
  · exact bareLeaves_ses hs
  · exact run_bareLeaves (f := ejectStart) (u := s) hb (calm_alone hc) rfl h1
  · exact bareLeaves_ses (u := noted s .PL_CMD 0 0) hs
  · exact run_bareLeaves (f := fun s => cmdBit s .PL_CMD 0 1) (u := noted s .PL_CMD 0 0) hb (calm_alone hc)
      (exec_eject (calm_alone hc) ha) h1
  · exact fun h1 h2 h3 => run_idle (f := ejectStart) (if_pos rfl) h1 h2 h3
  · exact run_is (f := fun s => cmdBit s .PL_CMD 0 0)
      (regWrite_alone (v := 1) (t := (noted s .PL_CMD 0 0).setPl fun p => { p with rescan := true }) (by decide) (by decide) ha rfl (calm_alone hc))
      ((calm_iff _).mpr ((calm_iff s).mp hc)) rfl rfl
  · exact run_is (f := rescanDone) (rescanDone_stores h) ((calm_iff _).mpr ((calm_iff s).mp hc)) rfl rfl
  · exact run_is (f := rescanDone) (if_neg (by rw [h]; decide)) hc rfl rfl
  · obtain ⟨l1, l2, l3, l4⟩ := ledStat_mode hr
    exact ⟨l1, l2, l3, l4, ledStat_running hr⟩

end Sys2Proof.Machine
end

section
/-! Control sessions open and close (R332 to R340, R354). -/

namespace Sys2Proof.Machine

/-! ## A fresh SESSION_ID (R337) -/

/-- The SESSION_IDs in use. -/
def usedIds (s : State) : List Nat := s.ses.ses.map (fun e => e.2.id) ++ s.ses.chals.map (·.id)

theorem idUsed_iff (s : State) (v : Nat) : idUsed s v = true ↔ v ∈ usedIds s := by
  simp [idUsed, usedIds, List.any_eq_true]

/-- The candidates for a SESSION_ID from a random one on. -/
def idCandidates (base : Nat) : List Nat := (List.range 24).map fun i => (base + i) % 2 ^ 32

theorem idCandidates_nodup (base : Nat) : (idCandidates base).Nodup := by
  refine List.Nodup.map_on (fun i hi j hj h => ?_) List.nodup_range
  rw [List.mem_range] at hi hj
  omega

/-- Of 24 candidates at most 21 are zero or in use. -/
theorem freshId_fresh {s : State} (hs : s.ses.ses.length ≤ 16) (hc : s.ses.chals.length ≤ 4) (base : Nat) :
    freshId s base ≠ 0 ∧ idUsed s (freshId s base) = false := by
  unfold freshId
  cases hf : (idCandidates base).find? (fun v => v != 0 && !idUsed s v) with
  | some v =>
    have h := List.find?_some hf
    rw [show ((List.range 24).map fun i => (base + i) % 2 ^ 32).find? (fun v => v != 0 && !idUsed s v) = some v from hf]
    simpa using h
  | none =>
    have hsub : idCandidates base ⊆ 0 :: usedIds s := by
      intro v hv
      have h := List.find?_eq_none.mp hf v hv
      rw [List.mem_cons, ← idUsed_iff]
      by_cases h0 : v = 0
      · exact .inl h0
      · exact .inr (by simpa [h0] using h)
    have hlen := (List.subperm_of_subset (idCandidates_nodup base) hsub).length_le
    simp only [idCandidates, usedIds, List.length_map, List.length_range, List.length_cons, List.length_append] at hlen
    omega

/-! ## HELLO (R337) -/

/-- A challenge as HELLO notes it. -/
def challengeOf (s : State) (c : Client) (body : List Byte) : Chal :=
  { id := freshId s (Config.sessionId s.freeCtr).toNat, client := c, role := leNat (body.take 1), idle := leAt body 20 2
    cnonce := (body.drop 4).take 16, dnonce := leBytes 16 (Config.nonce (s.freeCtr + 1)).toNat, at_ := s.now }

theorem heard_not {s : State} {c : Client} (h1 : sesServed s = true) (h2 : reaches s c = true) :
    ¬ ((!sesServed s) = true ∨ (!reaches s c) = true) := by
  rw [h1, h2]
  decide

theorem hello_heard {s : State} {c : Client} (h1 : sesServed s = true) (h2 : reaches s c = true) (hh : held s 14 = false) :
    ¬ ((!sesServed s) = true ∨ (!reaches s c) = true ∨ held s 14 = true) := by
  rw [h1, h2, hh]
  decide

theorem hello_challenges {s : State} {c : Client} {body : List Byte} (h1 : sesServed s = true) (h2 : reaches s c = true)
    (hm : c.mbox = false) (hh : held s 14 = false) (hl : body.length = 32)
    (hb : ∀ b ∈ s.ses.blocked, sameSource b.1 c = true → b.2 ≤ s.now) :
    hello s c body = emit { s with
      freeCtr := s.freeCtr + 2
      ses := { s.ses with
        chals := (if s.ses.chals.length < 4 then s.ses.chals else s.ses.chals.drop 1) ++ [challengeOf s c body] } }
      (.firyn c (message 0x02 (challengeOf s c body).id 0 0 0 (challengeOf s c body).dnonce)) := by
  have hblock : ¬ (s.ses.blocked.any fun b => sameSource b.1 c && decide (s.now < b.2)) = true := by
    rw [List.any_eq_true]
    rintro ⟨b, hin, hq⟩
    rw [Bool.and_eq_true, decide_eq_true_eq] at hq
    exact absurd (hb b hin hq.1) (Nat.not_le.mpr hq.2)
  unfold hello
  rw [if_neg (hello_heard h1 h2 hh), if_neg (by rw [hl]; decide), if_neg hblock]
  unfold sendTo
  exact if_neg (by rw [hm]; decide)

theorem hello_malformed {s : State} {c : Client} {body : List Byte} (h1 : sesServed s = true) (h2 : reaches s c = true)
    (hh : held s 14 = false) (hl : body.length ≠ 32) : hello s c body = malformed s := by
  unfold hello
  rw [if_neg (hello_heard h1 h2 hh)]
  exact if_pos hl

/-! ## PROOF (R339) -/

/-- The challenge is used up. -/
def challengeUsed (s : State) (id : Nat) : State :=
  s.setSes fun y => { y with chals := y.chals.filter fun x => x.id != id }

theorem proof_unknown {s : State} {c : Client} {id : Nat} (h1 : sesServed s = true) (h2 : reaches s c = true)
    (hf : s.ses.chals.find? (fun ch => ch.id == id) = none) (body : List Byte) :
    proof s c id body = if idUsed s id = true then s else malformed s := by
  unfold proof
  rw [if_neg (heard_not h1 h2), hf]

theorem proof_malformed {s : State} {c : Client} {id : Nat} {ch : Chal} {body : List Byte} (h1 : sesServed s = true)
    (h2 : reaches s c = true) (hf : s.ses.chals.find? (fun ch => ch.id == id) = some ch) (hl : body.length ≠ 16) :
    proof s c id body = malformed s := by
  unfold proof
  rw [if_neg (heard_not h1 h2), hf]
  exact if_pos hl

theorem proof_judged {s : State} {c : Client} {id : Nat} {ch : Chal} {body : List Byte} (h1 : sesServed s = true) (h2 : reaches s c = true)
    (hf : s.ses.chals.find? (fun ch => ch.id == id) = some ch) (hl : body.length = 16) :
    proof s c id body =
      let u := challengeUsed s id
      let code := firstCode (proofFails u ch body)
      if code = .ok then openSession u ch c
      else if code = .integrity then
        welcome (raise (u.setSes fun y => { y with
          authFails := satInc 0xFFFF y.authFails, blocked := y.blocked ++ [(c, u.now + 1000000000)] }) .SES_EVENT 4) c id code []
      else welcome u c id code [] := by
  unfold proof
  rw [if_neg (heard_not h1 h2), hf]
  exact if_neg (not_not_intro hl)

theorem welcome_network {c : Client} (hm : c.mbox = false) (s : State) (id : Nat) (code : Code) (body : List Byte) :
    welcome s c id code body = emit s (.firyn c (message 0x04 id 0 0 code.num body)) := by
  unfold welcome sendTo
  exact if_neg (by rw [hm]; decide)

theorem calm_sesEvent {s : State} (h : calm s = true) (bits : Nat) : calm (raise s .SES_EVENT bits) = true :=
  calm_raise h bits (by decide)

/-! ## Closing (R340) -/

/-- Registers beside the flags of SES_EVENT are as they were. -/
def SesFlags (s t : State) : Prop :=
  t.rf = { s.rf with regs := t.rf.regs } ∧ (s.rf.regs.wf = true → t.rf.regs.wf = true) ∧
    ∀ r i j, r ≠ .SES_EVENT → i < (desc r).n1 → j < (desc r).n2 → rd t r i j = rd s r i j

theorem SesFlags.of_rf {s t : State} (h : t.rf = s.rf) : SesFlags s t := by
  refine ⟨by rw [h], fun w => by rw [h]; exact w, fun r i j _ _ _ => ?_⟩
  unfold rd
  rw [h]

theorem SesFlags.refl (s : State) : SesFlags s s := .of_rf rfl

theorem SesFlags.trans {s t u : State} (h : SesFlags s t) (g : SesFlags t u) : SesFlags s u := by
  obtain ⟨h1, h2, h3⟩ := h
  obtain ⟨g1, g2, g3⟩ := g
  exact ⟨by rw [g1, h1], fun w => g2 (h2 w), fun r i j hr hi hj => (g3 r i j hr hi hj).trans (h3 r i j hr hi hj)⟩

theorem sesFlags_event (s : State) (bits : Nat) : SesFlags s (raise s .SES_EVENT bits) := by
  refine ⟨(raise_flagged s bits (by decide) (by decide) (by decide)).2.1, fun w => raise_wf w _ _ _, fun r i j hr hi hj => ?_⟩
  exact rd_raise_ne s bits (addr_ne hr (by decide) (by decide) hi hj)

theorem ownerGone_rf (s : State) (who : Requester) : (bsOwnerGone s who).rf = s.rf :=
  forEach_rel (R := fun s t => t.rf = s.rf) (fun _ => rfl) (fun f g => g.trans f) (fun k s => by
    dsimp only
    split
    · rfl
    · split <;> rfl) _ s

/-- The closing before SES_EVENT reports it. -/
def sessionGone (s : State) (k : Nat) : State :=
  (orphanRequests (bsOwnerGone (if ownsXfer s k then abortXfer s else s) (.session k)) k).setSes fun y => { y with
    ses := Tbl.del y.ses k
    out := y.out.filter fun r => r.ses != k || r.after == .cfgReset || r.after == .fullReset }

theorem closeSession_open {s : State} {k : Nat} {x : Ses} (h : sesOf s k = some x) :
    closeSession s k = raise (sessionGone s k) .SES_EVENT 2 := by
  unfold closeSession
  rw [h]
  rfl

theorem sessionGone_rf (s : State) (k : Nat) : (sessionGone s k).rf = s.rf := by
  have h := ownerGone_rf (if ownsXfer s k then abortXfer s else s) (.session k)
  unfold sessionGone
  generalize bsOwnerGone (if ownsXfer s k then abortXfer s else s) (.session k) = t at h ⊢
  refine Eq.trans (show _ = t.rf from rfl) (h.trans ?_)
  split <;> rfl

theorem sesFlags_closeSession (s : State) (k : Nat) : SesFlags s (closeSession s k) := by
  cases h : sesOf s k with
  | none =>
    have e : closeSession s k = s := by unfold closeSession; rw [h]
    rw [e]
    exact .refl s
  | some x =>
    rw [closeSession_open h]
    exact (SesFlags.of_rf (sessionGone_rf s k)).trans (sesFlags_event _ 2)

theorem sesFlags_closeWhere (s : State) (p : Ses → Bool) : SesFlags s (closeWhere s p) :=
  forEach_rel SesFlags.refl SesFlags.trans (fun k s => sesFlags_closeSession s k) _ s

theorem ownerGone_pl (s : State) (who : Requester) : (bsOwnerGone s who).pl = s.pl :=
  forEach_rel (R := fun s t => t.pl = s.pl) (fun _ => rfl) (fun f g => g.trans f) (fun k s => by
    dsimp only
    split
    · rfl
    · split <;> rfl) _ s

theorem sessionGone_pl (s : State) (k : Nat) : (sessionGone s k).pl = if ownsXfer s k then { s.pl with xfer := none } else s.pl := by
  have h := ownerGone_pl (if ownsXfer s k then abortXfer s else s) (.session k)
  unfold sessionGone
  generalize bsOwnerGone (if ownsXfer s k then abortXfer s else s) (.session k) = t at h ⊢
  refine Eq.trans (show _ = t.pl from rfl) (h.trans ?_)
  split <;> rfl

/-! ## Sets of a requester that is gone (Table 03-3) -/

theorem setOf_putSet {s : State} (hw : s.mix.sets.wf = true) (k : Nat) (x : BSet) : setOf (putSet s k x) k = x :=
  Tbl.getD_set_self _ k x hw

theorem setOf_putSet_ne (s : State) {k j : Nat} (x : BSet) (h : j ≠ k) : setOf (putSet s k x) j = setOf s j :=
  Tbl.getD_set_ne _ _ _ _ h

/-- One set of a requester that is gone. -/
def ownerLeaves (who : Requester) (k : Nat) (s : State) : State :=
  let x := setOf s k
  if x.owner ≠ some who then s
  else if x.state = .open then bsFree s k
  else putSet s k { x with owner := none }

/-- It is left alone, or put with no owner. -/
theorem ownerLeaves_eq (who : Requester) (k : Nat) (s : State) :
    (ownerLeaves who k s = s ∧ (setOf s k).owner ≠ some who) ∨ ∃ x : BSet, ownerLeaves who k s = putSet s k x ∧ x.owner = none := by
  unfold ownerLeaves
  dsimp only
  split
  · rename_i h; exact .inl ⟨rfl, h⟩
  · split
    · exact .inr ⟨_, rfl, rfl⟩
    · exact .inr ⟨_, rfl, rfl⟩

theorem ownerGone_disowns {s : State} (hw : s.mix.sets.wf = true) (who : Requester) :
    ∀ b < 8, (setOf (bsOwnerGone s who) b).owner ≠ some who := by
  have h := forEach_reaches (I := fun t => t.mix.sets.wf = true) (Q := fun k t => (setOf t k).owner ≠ some who)
    (f := ownerLeaves who) (xs := List.range 8) (s := s) (fun k t i => ?_) (fun k t i => ?_) (fun b k t i q => ?_) hw
  · exact fun b hb => h.2 b (List.mem_range.mpr hb)
  · rcases ownerLeaves_eq who k t with ⟨e, -⟩ | ⟨x, e, -⟩
    · rw [e]; exact i
    · rw [e]; exact Tbl.wf_set _ _ _ i
  · rcases ownerLeaves_eq who k t with ⟨e, g⟩ | ⟨x, e, hx⟩
    · rw [e]; exact g
    · rw [e, setOf_putSet i, hx]; exact fun q => by cases q
  · rcases ownerLeaves_eq who k t with ⟨e, -⟩ | ⟨x, e, hx⟩
    · rw [e]; exact q
    · rw [e]
      by_cases hb : b = k
      · rw [hb, setOf_putSet i, hx]; exact fun q => by cases q
      · rw [setOf_putSet_ne _ _ hb]; exact q

/-- A session that closes is removed and reported, its transfer aborted, and no set is in its name. -/
theorem closeSession_closes {u : State} {k : Nat} {x : Ses} (h : sesOf u k = some x) (hs : u.ses.ses.wf = true)
    (hr : u.rf.regs.wf = true) (hm : u.mix.sets.wf = true) :
    sesOf (closeSession u k) k = none ∧ bit (rd (closeSession u k) .SES_EVENT) 1 = true ∧
      (ownsXfer u k = true → (closeSession u k).pl.xfer = none) ∧
      ∀ b < 8, (setOf (closeSession u k) b).owner ≠ some (.session k) := by
  refine ⟨?_, ?_, fun ho => ?_, fun b hb => ?_⟩
  · unfold sesOf
    rw [closeSession_ses]
    exact Tbl.get?_del_self k hs
  · have hw : (sessionGone u k).rf.regs.wf = true := by rw [sessionGone_rf]; exact hr
    rw [closeSession_open h, rd_raise_self hw]
    exact bit_or (by decide) (by decide)
  · rw [closeSession_open h, raise_pl, sessionGone_pl, if_pos ho]
  · have hw : (if ownsXfer u k then abortXfer u else u).mix.sets.wf = true := by split <;> exact hm
    have hg := ownerGone_disowns hw (.session k) b hb
    rw [closeSession_open h]
    unfold setOf at hg ⊢
    rw [raise_mix]
    unfold sessionGone
    generalize bsOwnerGone (if ownsXfer u k then abortXfer u else u) (.session k) = t at hg ⊢
    exact hg

/-! ## Registers that close sessions (R354) -/

theorem still_wr {s : State} (h : Still s) {r : Reg} (v : Word) {i j : Nat} (hr : Reg.SES_MBOX ≠ r) (hi : i < (desc r).n1)
    (hj : j < (desc r).n2) : Still (wr s r v i j) :=
  h.of_eq rfl (rd_wr_ne s v (addr_ne hr hi hj (by decide) (by decide))) rfl rfl rfl rfl rfl

/-- A mailbox that is off leaves nothing to take. -/
theorem still_wr_mbox {s : State} (h : Still s) (hw : s.rf.regs.wf = true) {v : Word} (hv : bit v 31 = false) :
    Still (wr s .SES_MBOX v) := by
  obtain ⟨a, -, c⟩ := h
  refine ⟨a, ?_, c⟩
  unfold fb fv
  rw [show rd (wr s .SES_MBOX v) Fd.SES_MBOX_EN.reg = v from rd_wr_self hw .SES_MBOX v 0 0]
  exact hv

theorem still_noted {s : State} (h : calm s = true) (r : Reg) (i j : Nat) : Still (noted s r i j) ∧ (noted s r i j).ses.out = [] :=
  ⟨((calm_iff _).mp (calm_noted h r i j)).1, ((calm_iff _).mp (calm_noted h r i j)).2.1⟩

theorem isPair_closeWhere (s : State) (p : Ses → Bool) : isPair (closeWhere s p) = isPair s := by
  unfold isPair
  rw [(roleKept_closeWhere s p).2.1]

/-- An accepted write of a session register closes sessions and is stored. -/
theorem run_closingWrite {s u : State} {r : Reg} {i : Nat} {v : Word} {p : Ses → Bool} (hi : i < (desc r).n1)
    (hj : 0 < (desc r).n2) (hc : calm s = true) (ha : Accepted s r i 0 v)
    (e : blockWrite (noted s r i 0) r i 0 v = u) (hu : Still (closeWhere (noted s r i 0) p) → Still u)
    (hf : u = { closeWhere (noted s r i 0) p with rf := u.rf }) :
    run s (fun s => regWrite s r i 0 v 15) = .next u := by
  obtain ⟨h1, h2⟩ := still_noted hc r i 0
  obtain ⟨hn, hp, ho, -⟩ := closeWhere_frame (noted s r i 0) p
  have hal : isPair u = false := by
    rw [hf]
    exact (isPair_closeWhere _ p).trans (calm_alone hc)
  refine run_still (f := fun s => regWrite s r i 0 v 15) (regWrite_alone hi hj ha e hal) (hu (still_closeWhere h1 p)) ?_ ?_ ?_
  · rw [hf]; exact ho h2
  · rw [hf]; exact hn
  · rw [hf]; exact hp

/-- A register of the session network changes: the sessions of the network close. -/
theorem run_networkWrite {s : State} {r : Reg} {v : Word} (hi : 0 < (desc r).n1) (hj : 0 < (desc r).n2) (hr : Reg.SES_MBOX ≠ r)
    (hc : calm s = true) (ha : Accepted s r 0 0 v)
    (e : blockWrite (noted s r 0 0) r 0 0 v = put (closeWhere (noted s r 0 0) fun x => !x.client.mbox) r 0 0 v) :
    run s (fun s => regWrite s r 0 0 v 15) =
      .next (wr (closeWhere (noted s r 0 0) fun x => !x.client.mbox) r (kept r v)) :=
  run_closingWrite hi hj hc ha e (fun h => still_wr h _ hr hi hj) rfl

/-- A word of SES_IP6 as its whole takes it: what waits, else what stands. -/
def ip6Word (s : State) (i : Nat) : Word := Tbl.getD s.rf.hi (addr .SES_IP6 i) (rd s .SES_IP6 i)

/-- The words of SES_IP6 that waited. -/
def ip6Left (s : State) : Tbl Word :=
  Tbl.del (Tbl.del (Tbl.del s.rf.hi (addr .SES_IP6 0)) (addr .SES_IP6 1)) (addr .SES_IP6 2)

/-- The words of SES_IP6 that waited are written. -/
def ip6Taken (u s : State) : State :=
  wr (wr (wr u .SES_IP6 (ip6Word s 0) 0) .SES_IP6 (ip6Word s 1) 1) .SES_IP6 (ip6Word s 2) 2

/-- A word of SES_IP6 does not change with another one. -/
theorem ip6Word_wr (s : State) (w : Word) {i j : Nat} (h : i ≠ j) :
    ip6Word (wr s .SES_IP6 w j) i = ip6Word s i := by
  have ha : addr .SES_IP6 i ≠ addr .SES_IP6 j := by
    simp only [addr, desc]
    omega
  unfold ip6Word
  rw [rd_wr_ne s w ha]
  rfl

theorem ip6Taken_eq (u : State) : forEach [0, 1, 2] u (fun k s => wr s .SES_IP6 (ip6Word s k) k) = ip6Taken u u := by
  show wr (wr (wr u .SES_IP6 (ip6Word u 0) 0) .SES_IP6 (ip6Word (wr u .SES_IP6 (ip6Word u 0) 0) 1) 1) .SES_IP6
    (ip6Word (wr (wr u .SES_IP6 (ip6Word u 0) 0) .SES_IP6 (ip6Word (wr u .SES_IP6 (ip6Word u 0) 0) 1) 1) 2) 2 = _
  rw [ip6Word_wr u _ (by decide), ip6Word_wr _ _ (by decide), ip6Word_wr u _ (by decide)]
  rfl

/-- SES_IP6 takes effect as a whole with its word 3. -/
theorem ip6Write_whole (s : State) (v : Word) : ip6Write s 3 v =
    let u := closeWhere s fun x => !x.client.mbox
    put { ip6Taken u u with rf := { (ip6Taken u u).rf with hi := ip6Left u } } .SES_IP6 3 0 v := by
  have e : ip6Write s 3 v = (let t := forEach [0, 1, 2] (closeWhere s fun x => !x.client.mbox) fun k s => wr s .SES_IP6 (ip6Word s k) k
      put { t with rf := { t.rf with hi := ip6Left t } } .SES_IP6 3 0 v) := by
    unfold ip6Write
    exact if_neg (by decide)
  rw [e, ip6Taken_eq]
  rfl

/-- Closing sessions changes no word of SES_IP6. -/
theorem ip6_closeWhere (s : State) (p : Ses → Bool) :
    ip6Left (closeWhere s p) = ip6Left s ∧ ∀ i < 4, ip6Word (closeWhere s p) i = ip6Word s i := by
  obtain ⟨h1, -, h3⟩ := sesFlags_closeWhere s p
  have hh : (closeWhere s p).rf.hi = s.rf.hi := by rw [h1]
  refine ⟨by unfold ip6Left; rw [hh], fun i hi => ?_⟩
  unfold ip6Word
  rw [hh, h3 .SES_IP6 i 0 (by decide) hi (by decide)]

/-! ## Messages as bytes (R335) -/

theorem run_congr {s : State} {f g : State → State} (h : f s = g s) : run s f = run s g := by
  unfold run
  rw [h]

/-- The bytes are a Firyn message. -/
abbrev Formed (bs : List Byte) : Prop :=
  bs.take 3 = [0x46, 0x59, 1] ∧ 16 ≤ bs.length ∧ leAt bs 12 2 = (bs.drop 16).length ∧ (bs.drop 16).length ≤ 1400

section
variable {s : State} {c : Client} {bs : List Byte}

theorem firynBytes_malformed (h1 : sesServed s = true) (h2 : reaches s c = true) (h : ¬ Formed bs) :
    firynBytes s c bs = malformed s := by
  unfold firynBytes firynBytesAt
  rw [if_neg (heard_not h1 h2)]
  refine if_pos ?_
  by_contra q
  simp only [not_or, not_not, not_lt] at q
  exact h q

/-- A message acts as its type says. -/
theorem firynBytes_formed (h1 : sesServed s = true) (h2 : reaches s c = true) (h : Formed bs) : firynBytes s c bs =
    if leAt bs 3 1 = 0x01 then hello s c (bs.drop 16)
    else if leAt bs 3 1 = 0x03 then proof s c (leAt bs 4 4) (bs.drop 16)
    else if leAt bs 3 1 = 0x10 then
      requestArrive s (leAt bs 14 1) { client := c, id := leAt bs 4 4, seq := leAt bs 8 4, body := bs.drop 16 }
    else malformed s := by
  unfold firynBytes firynBytesAt
  rw [if_neg (heard_not h1 h2)]
  refine if_neg ?_
  simp only [not_or, not_not, not_lt]
  exact h

end

/-! ## The obligation -/

/-- The session opens under the lowest free number, and WELCOME says so. -/
theorem openSession_network {u : State} {c : Client} (hm : c.mbox = false) (ch : Chal) :
    let k := (Tbl.freeFrom u.ses.ses 16 0).getD 0
    let idle := if ch.idle = 0 then fv u .SES_CFG_IDLE_DEF else ch.idle
    openSession u ch c = emit (raise (putSes u k
        { id := ch.id, role := ch.role, client := c, idle := idle, lastReq := u.now }) .SES_EVENT 1)
      (.firyn c (message 0x04 ch.id 0 0 Code.ok.num (leBytes 1 k ++ leBytes 1 ch.role ++ leBytes 2 idle ++
        leBytes 4 0x53566480 ++ firynMac ((roleKey u ch.role).getD []) 0x32#8 ch.dnonce ch.cnonce ch.id ch.role idle))) :=
  welcome_network hm _ _ _ _

/-- A MAC that is wrong is counted and blocks its source for 1 s. -/
def macWrong (u : State) (c : Client) : State :=
  u.setSes fun y => { y with authFails := satInc 0xFFFF y.authFails, blocked := y.blocked ++ [(c, u.now + 1000000000)] }

section
variable {s : State} {c : Client} {id : Nat} {ch : Chal} {body : List Byte} (hc : calm s = true) (h1 : sesServed s = true)
  (h2 : reaches s c = true) (hm : c.mbox = false) (hf : s.ses.chals.find? (fun ch => ch.id == id) = some ch)
  (hl : body.length = 16)
include hc h1 h2 hm hf hl

theorem run_proof_ok (hok : firstCode (proofFails (challengeUsed s id) ch body) = .ok) (hid : ch.id = id) :
    let k := (Tbl.freeFrom s.ses.ses 16 0).getD 0
    let idle := if ch.idle = 0 then fv s .SES_CFG_IDLE_DEF else ch.idle
    run s (fun s => proof s c id body) = .next (emit (raise (putSes (challengeUsed s id) k
        { id := id, role := ch.role, client := c, idle := idle, lastReq := s.now }) .SES_EVENT 1)
      (.firyn c (message 0x04 id 0 0 Code.ok.num (leBytes 1 k ++ leBytes 1 ch.role ++ leBytes 2 idle ++
        leBytes 4 0x53566480 ++ firynMac ((roleKey s ch.role).getD []) 0x32#8 ch.dnonce ch.cnonce id ch.role idle)))) := by
  subst hid
  have e : proof s c ch.id body = openSession (challengeUsed s ch.id) ch c := (proof_judged h1 h2 hf hl).trans (if_pos hok)
  exact run_is (f := fun s => proof s c ch.id body) (e.trans (openSession_network hm ch))
    (calm_sesEvent (s := putSes (challengeUsed s ch.id) _ _) hc 1) (raise_now _ _ _ _) (raise_pending _ _ _ _)

theorem run_proof_wrong (hin : firstCode (proofFails (challengeUsed s id) ch body) = .integrity) :
    run s (fun s => proof s c id body) = .next (emit (raise (macWrong (challengeUsed s id) c) .SES_EVENT 4)
      (.firyn c (message 0x04 id 0 0 Code.integrity.num []))) := by
  have hne : ¬ firstCode (proofFails (challengeUsed s id) ch body) = .ok := by rw [hin]; decide
  have e : proof s c id body = welcome (raise (macWrong (challengeUsed s id) c) .SES_EVENT 4) c id
      (firstCode (proofFails (challengeUsed s id) ch body)) [] :=
    (proof_judged h1 h2 hf hl).trans ((if_neg hne).trans (if_pos hin))
  rw [hin, welcome_network hm] at e
  exact run_is (f := fun s => proof s c id body) e (calm_sesEvent (s := macWrong (challengeUsed s id) c) hc 4)
    (raise_now _ _ _ _) (raise_pending _ _ _ _)

theorem run_proof_refused (hn1 : firstCode (proofFails (challengeUsed s id) ch body) ≠ .ok)
    (hn2 : firstCode (proofFails (challengeUsed s id) ch body) ≠ .integrity) :
    run s (fun s => proof s c id body) = .next (emit (challengeUsed s id)
      (.firyn c (message 0x04 id 0 0 (firstCode (proofFails (challengeUsed s id) ch body)).num []))) := by
  have e := (proof_judged h1 h2 hf hl).trans ((if_neg hn1).trans (if_neg hn2))
  rw [welcome_network hm] at e
  exact run_is (f := fun s => proof s c id body) e hc rfl rfl

end

/-- An accepted KILL closes the session it names. -/
theorem run_kill {s : State} (hc : calm s = true) (ha : Accepted s .SES_CMD 0 0 1) :
    run s (fun s => regWrite s .SES_CMD 0 0 1 15) =
      .next (closeSession (noted s .SES_CMD 0 0) (fv s .SES_CMD_ARG_SESSION)) := by
  obtain ⟨h1, h2⟩ := still_noted hc .SES_CMD 0 0
  obtain ⟨hn, hp, ho, -⟩ := close_frame (noted s .SES_CMD 0 0) (fv s .SES_CMD_ARG_SESSION)
  have hal : isPair (closeSession (noted s .SES_CMD 0 0) (fv s .SES_CMD_ARG_SESSION)) = false := by
    unfold isPair
    rw [(roleKept_closeSession _ _).2.1]
    exact calm_alone hc
  exact run_still (f := fun s => regWrite s .SES_CMD 0 0 1 15) (regWrite_alone (by decide) (by decide) ha rfl hal)
    (still_closeSession h1 _) (ho h2) hn hp

/-- Word 3 of SES_IP6 brings the others with it. -/
theorem run_ip6Whole {s : State} {v : Word} (hc : calm s = true) (ha : Accepted s .SES_IP6 3 0 v) :
    let u := closeWhere (noted s .SES_IP6 3 0) fun x => !x.client.mbox
    run s (fun s => regWrite s .SES_IP6 3 0 v 15) =
      .next (wr { ip6Taken u s with rf := { (ip6Taken u s).rf with hi := ip6Left s } } .SES_IP6 (kept .SES_IP6 v) 3) := by
  obtain ⟨hl, hw⟩ := ip6_closeWhere (noted s .SES_IP6 3 0) fun x => !x.client.mbox
  have he : blockWrite (noted s .SES_IP6 3 0) .SES_IP6 3 0 v = _ := ip6Write_whole (noted s .SES_IP6 3 0) v
  unfold ip6Taken at he
  dsimp only at he
  rw [hl, hw 0 (by decide), hw 1 (by decide), hw 2 (by decide)] at he
  have hne {i : Nat} (hi : i < 4) (w : Word) {t : State} (h : Still t) : Still (wr t .SES_IP6 w i) :=
    still_wr h w (by decide) hi (by decide)
  refine run_closingWrite (by decide) (by decide) hc ha he (fun h => ?_) rfl
  have h3 := hne (i := 2) (by decide) (ip6Word s 2) (hne (i := 1) (by decide) (ip6Word s 1) (hne (i := 0) (by decide) (ip6Word s 0) h))
  exact hne (by decide) _ (h3.of_eq rfl rfl rfl rfl rfl rfl rfl)

/-- Settles O45: each command is carried out on a calm unit (`run_is`, `run_close`, `run_closingWrite`) from the lemmas that
say what `hello`, `proof` and `firynBytes` do; a fresh SESSION_ID exists by counting the candidates. -/
theorem sessionsOpenAndClose : Obligations.SessionsOpenAndClose := by
  unfold Obligations.SessionsOpenAndClose
  intro s c hc hears gone counted
  have hcount : run s (fun s => malformed s) = .next counted := run_is (f := fun s => malformed s) rfl hc rfl rfl
  have hstay : run s (fun s => s) = .next s := run_is (f := fun s => s) rfl hc rfl rfl
  refine ⟨fun body ⟨h1, h2, hm⟩ hh hl hb => ?_, fun body ⟨h1, h2, hm⟩ hh hl => ?_, fun id body ⟨h1, h2, hm⟩ hf => ?_,
    fun id body ch ⟨h1, h2, hm⟩ hf hl => ?_, fun n hs hl => freshId_fresh hs hl n, fun id body ch ⟨h1, h2, hm⟩ hf hl => ?_,
    run_is (f := challengeLapse) rfl hc rfl rfl, run_is (f := authExpire) rfl hc rfl rfl,
    run_close (f := idleTimeout) rfl hc rfl rfl, run_kill hc, fun v j => ⟨fun ha => ?_, fun ha => ?_, fun ha => ?_, fun ha hj => ?_,
      fun ha => ?_, fun ha hv hw => ?_⟩, fun bs ⟨h1, h2, hm⟩ => ?_, fun u k x hx hs hr hm => closeSession_closes hx hs hr hm⟩
  · exact run_is (f := fun s => hello s c body) (hello_challenges h1 h2 hm hh hl hb) hc rfl rfl
  · exact (run_congr (f := fun s => hello s c body) (hello_malformed h1 h2 hh hl)).trans hcount
  · have e := proof_unknown (c := c) h1 h2 hf body
    show run s (fun s => proof s c id body) = _
    split
    · rename_i hu
      rw [if_pos hu] at e
      exact (run_congr (f := fun s => proof s c id body) (g := fun s => s) e).trans hstay
    · rename_i hu
      rw [if_neg hu] at e
      exact (run_congr (f := fun s => proof s c id body) e).trans hcount
  · exact (run_congr (f := fun s => proof s c id body) (proof_malformed h1 h2 hf hl)).trans hcount
  · exact ⟨run_proof_ok hc h1 h2 hm hf hl, run_proof_wrong hc h1 h2 hm hf hl, run_proof_refused hc h1 h2 hm hf hl⟩
  · exact run_networkWrite (by decide) (by decide) (by decide) hc ha rfl
  · exact run_networkWrite (by decide) (by decide) (by decide) hc ha rfl
  · exact run_networkWrite (by decide) (by decide) (by decide) hc ha rfl
  · have e : blockWrite (noted s .SES_IP6 j 0) .SES_IP6 j 0 v = stageHi (noted s .SES_IP6 j 0) .SES_IP6 j v := by
      rw [blockWrite_entry _ .SES_IP6 v rfl j.isLt (by decide)]
      exact if_pos fun q => hj (Fin.ext q)
    exact run_entry .SES_IP6 j.isLt (by decide) ha e hc rfl rfl
  · exact fun _ => run_ip6Whole hc ha
  · refine run_closingWrite (r := .SES_MBOX) (by decide) (by decide) hc ha rfl (fun h => ?_) rfl
    exact still_wr_mbox h ((sesFlags_closeWhere _ _).2.1 hw) hv
  · intro body formed
    show (_ → run s (fun s => firynBytes s c bs) = _) ∧ _
    refine ⟨fun h => ?_, fun h ht => ?_, fun h ht => ?_, fun h ht ho => ?_, fun h n1 n2 n3 => ?_⟩
    · exact (run_congr (f := fun s => firynBytes s c bs) (firynBytes_malformed h1 h2 h)).trans hcount
    · exact run_congr (f := fun s => firynBytes s c bs) (g := fun s => hello s c body)
        ((firynBytes_formed h1 h2 h).trans (if_pos ht))
    · exact run_congr (f := fun s => firynBytes s c bs) (g := fun s => proof s c (leAt bs 4 4) body)
        ((firynBytes_formed h1 h2 h).trans ((if_neg (by rw [ht]; decide)).trans (if_pos ht)))
    · have e := (firynBytes_formed h1 h2 h).trans ((if_neg (by rw [ht]; decide)).trans ((if_neg (by rw [ht]; decide)).trans
        (if_pos ht)))
      rw [ho] at e
      exact run_congr (f := fun s => firynBytes s c bs)
        (g := fun s => requestArrive s 0x00 { client := c, id := leAt bs 4 4, seq := leAt bs 8 4, body := body }) e
    · exact (run_congr (f := fun s => firynBytes s c bs) ((firynBytes_formed h1 h2 h).trans ((if_neg n1).trans ((if_neg n2).trans
        (if_neg n3))))).trans hcount

end Sys2Proof.Machine
end

section
/-! Over-temperature ends the time below 105 °C (R450). -/

namespace Sys2Proof.Machine

/-- A module alone runs; Tj has been below 105 °C since the instant 0. -/
def cooled : State :=
  { State.reset with
    glb := { State.reset.glb with inReset := false, mode := .running }
    saf := { State.reset.saf with cool := some 0 } }

theorem cooled_settled : settled cooled = true ∧ cooled.cio.sched.wf = true ∧ cooled.ses.ses.wf = true := by decide +kernel

/-- Since when Tj has been below 105 °C after a command. -/
def coolSince : Out → Option Nat
  | .next t => t.saf.cool
  | _ => none

/-- Fault 0x04, Tj at or above 110 °C, ends that time. -/
theorem coolSince_overTemperature : coolSince (exec (.faultDetect 4 0 0) cooled) = none := by decide +kernel

/-- Refutes O53: fault 0x04 also ends the time that Tj has stayed below 105 °C, from which its bar counts 60 s (R450); the
statement has nothing differ beside the log, bars, counts and mute. -/
theorem not_thimbleReacts : ¬ Obligations.ThimbleReacts := by
  intro h
  obtain ⟨quiet, sched, sessions⟩ := cooled_settled
  obtain ⟨-, logged, -⟩ := h cooled quiet sched sessions
  obtain ⟨t, stepped, -, same⟩ := logged (0x04, 3, 0, true) (by decide) 4 0 0 rfl
  have ends := congrArg coolSince stepped
  rw [coolSince_overTemperature] at ends
  have stays : t.saf.cool = some 0 := by rw [same]; rfl
  exact absurd (ends.trans stays) (by decide)

end Sys2Proof.Machine
end

section
/-! Full resets, configuration resets and start-up (R384 to R401). -/

namespace Sys2Proof.Machine

/-! ## Full resets (R393 to R395) -/

theorem cutHeartbeat_emitted (s : State) : (cutHeartbeat s).emitted =
    s.emitted ++ if (s.pr.hbAt.any fun t => decide (s.now < t + 5760)) = true then [.heartbeatCut] else [] := by
  unfold cutHeartbeat
  cases s.pr.hbAt with
  | none => exact (List.append_nil _).symm
  | some t =>
    dsimp only [Option.any]
    simp only [decide_eq_true_eq]
    split
    · rfl
    · exact (List.append_nil _).symm

theorem settled_fullReset (s : State) (cause : Nat) : settled (fullReset s cause) = true := by
  have reset : settled State.reset = true := by decide +kernel
  rw [← reset]
  unfold fullReset settled
  split <;> rfl

theorem mirrors_alone {s : State} (h : isPair s = false) : mirrors s = false := by
  unfold mirrors unitOn
  rw [h]
  rfl

theorem mirrors_fullReset (s : State) (cause : Nat) : mirrors (fullReset s cause) = false := by
  unfold mirrors
  rw [show unitOn (fullReset s cause) = false from Bool.and_false _]
  rfl

/-- A command that comes to a full reset. -/
theorem run_fullReset {s u : State} {f : State → State} {cause : Nat} (e : f s = fullReset u cause) (hn : u.now = s.now)
    (hp : u.pending = s.pending) : run s f = .next (fullReset u cause) :=
  run_settled e (settled_fullReset u cause) ⟨rfl, .inl (mirrors_fullReset u cause)⟩ hn hp

theorem fullReset_noted (s : State) (r : Reg) (i j cause : Nat) : fullReset (noted s r i j) cause = fullReset s cause := by
  unfold fullReset
  rw [cutHeartbeat_emitted, cutHeartbeat_emitted]
  rfl

theorem forward_fullReset (s : State) (cause : Nat) (r : Reg) (off : Nat) (v : Word) :
    forwardWrite (fullReset s cause) r off v = fullReset s cause :=
  if_neg fun q => absurd q.2.1 (by show ¬ PrState.start = .active; decide)

/-- An accepted GLB_RESET that comes to a full reset. -/
theorem run_resetWrite {s : State} {v : Word} (ha : Accepted s .GLB_RESET 0 0 v)
    (e : glbResetWrite (noted s .GLB_RESET 0 0) v = fullReset (noted s .GLB_RESET 0 0) 2) :
    run s (fun s => regWrite s .GLB_RESET 0 0 v 15) = .next (fullReset s 2) := by
  have hw : regWrite s .GLB_RESET 0 0 v 15 = fullReset (noted s .GLB_RESET 0 0) 2 := by
    rw [regWrite_ok (findReg_addr .GLB_RESET (by decide) (by decide)) ha]
    rw [show blockWrite (noted s .GLB_RESET 0 0) .GLB_RESET 0 0 v = fullReset (noted s .GLB_RESET 0 0) 2 from e]
    exact forward_fullReset _ _ _ _ _
  rw [← fullReset_noted s .GLB_RESET 0 0 2]
  exact run_fullReset (f := fun s => regWrite s .GLB_RESET 0 0 v 15) hw rfl rfl

/-- In BARE a configuration reset is a full reset (R385). -/
theorem cfgReset_bare {s : State} (h : s.glb.mode = .bare) : glbResetWrite s (word 0x53560001) = fullReset s 2 := by
  have e : glbResetWrite s (word 0x53560001) = closeAll (startCfgReset s) := rfl
  rw [e, show startCfgReset s = fullReset s 2 from if_pos h]
  exact closeAll_none rfl

/-- Outside BARE it runs from now on, and every session closes. -/
theorem run_cfgReset {s : State} (ha : Accepted s .GLB_RESET 0 0 (word 0x53560001)) (hm : s.glb.mode ≠ .bare) (hc : calm s = true) :
    run s (fun s => regWrite s .GLB_RESET 0 0 (word 0x53560001) 15) =
      .next (closeAll ((noted s .GLB_RESET 0 0).setPl fun p => { p with cfgRun := true, cfgAt := s.now })) := by
  have e : blockWrite (noted s .GLB_RESET 0 0) .GLB_RESET 0 0 (word 0x53560001) =
      closeAll ((noted s .GLB_RESET 0 0).setPl fun p => { p with cfgRun := true, cfgAt := s.now }) := by
    have e1 : blockWrite (noted s .GLB_RESET 0 0) .GLB_RESET 0 0 (word 0x53560001) = closeAll (startCfgReset (noted s .GLB_RESET 0 0)) := rfl
    rw [e1]
    exact congrArg closeAll (if_neg hm)
  have ha' := regWrite_alone (by decide) (by decide) ha e ((isPair_closeWhere _ _).trans (calm_alone hc))
  exact run_close (f := fun s => regWrite s .GLB_RESET 0 0 (word 0x53560001) 15) ha' hc rfl rfl

/-! ## The watchdog (R393) -/

theorem raise_perst (s : State) (r : Reg) (bits i : Nat) :
    (raise s r bits i).evt.perst = s.evt.perst ∧ (raise s r bits i).evt.perstUp = s.evt.perstUp := by
  unfold raise pushEdges
  cases evtGroup r <;> exact ⟨rfl, rfl⟩

/-- What a full reset keeps is the same but for the fault log. -/
def Logged (s t : State) : Prop :=
  t = { s with rf := t.rf, evt := t.evt, saf := t.saf } ∧ t.evt.perst = s.evt.perst ∧ t.evt.perstUp = s.evt.perstUp

theorem Logged.trans {s t u : State} (h : Logged s t) (g : Logged t u) : Logged s u := by
  obtain ⟨h1, h2, h3⟩ := h
  obtain ⟨g1, g2, g3⟩ := g
  exact ⟨by rw [g1, h1], g2.trans h2, g3.trans h3⟩

theorem logged_setSaf (s : State) (f : Saf → Saf) : Logged s (s.setSaf f) := ⟨rfl, rfl, rfl⟩

theorem logged_raise (s : State) (bits : Nat) : Logged s (raise s .SAF_EVENT bits) := by
  obtain ⟨rf, evt, e, -⟩ := raise_eq s .SAF_EVENT bits 0
  obtain ⟨h1, h2⟩ := raise_perst s .SAF_EVENT bits 0
  exact ⟨by rw [e], h1, h2⟩

theorem logged_logFault (s : State) (r : Report1) : Logged s (logFault s r) := (logged_setSaf s _).trans (logged_raise _ 1)

/-- A bar leaves the log alone. -/
theorem logged_barOn (s : State) (code : Nat) : Logged s (barOn s code) ∧
    (barOn s code).saf = { s.saf with bars := (barOn s code).saf.bars } := by
  unfold barOn
  split
  · exact ⟨⟨rfl, rfl, rfl⟩, rfl⟩
  · exact ⟨(logged_setSaf s _).trans (logged_raise _ 2), by rw [raise_saf]; rfl⟩

theorem fullReset_logged {s t : State} (h : Logged s t) : fullReset t 3 = { fullReset s 3 with
    saf := { (fullReset s 3).saf with log := t.saf.log, next := t.saf.next, lost := t.saf.lost } } := by
  obtain ⟨h1, h2, h3⟩ := h
  unfold fullReset
  rw [cutHeartbeat_emitted, cutHeartbeat_emitted, h2, h3, h1]
  rfl

/-- The report of a watchdog that has expired. -/
def watchReport : Report1 := { code := 0x16, detail := 0, region := 2, inj := false }

/-- Its fault, as a module logs it. -/
def watchFault (s : State) : Flt :=
  { code := 0x16, region := 2, reaction := 6, bar := true, inj := false, boot := s.glb.boots % 65536, detail := 0
    stitch := s.mix.stitch % 2 ^ 32, tack := tack s 0 }

/-- A fault of reaction 6 is logged and barred, and nothing else happens before the reset. -/
theorem watch_noted (s : State) : noteFault s watchReport = barOn (logFault s watchReport) 0x16 ∧
    ∀ t, reactAll t [watchReport] = t := ⟨rfl, fun _ => rfl⟩

/-- What the watchdog's full reset starts from. -/
def watchLogged (s : State) : State := barOn (logFault s watchReport) 0x16

theorem watchLogged_logged (s : State) : Logged s (watchLogged s) ∧
    (watchLogged s).saf.log = Tbl.put s.saf.log s.saf.next (watchFault s) ∧ (watchLogged s).saf.next = (s.saf.next + 1) % 64 ∧
    (watchLogged s).saf.lost = if (Tbl.getD s.saf.log s.saf.next {}).code ≠ 0 then satInc 0xFFFF s.saf.lost else s.saf.lost := by
  obtain ⟨hl, hs⟩ := logged_barOn (logFault s watchReport) 0x16
  have hf := logged_logFault s watchReport
  obtain ⟨rf, evt, e⟩ := logFault_eq s watchReport
  refine ⟨hf.trans hl, ?_, ?_, ?_⟩
  · unfold watchLogged; rw [hs, e]; rfl
  · unfold watchLogged; rw [hs, e]
  · unfold watchLogged; rw [hs, e]

theorem run_watchdog {s : State} (hs : settled s = true) : run s (fun s => reportFault s 0x16 0 2) =
    .next { fullReset s 3 with saf := { (fullReset s 3).saf with
      log := Tbl.put s.saf.log s.saf.next (watchFault s), next := (s.saf.next + 1) % 64
      lost := if (Tbl.getD s.saf.log s.saf.next {}).code ≠ 0 then satInc 0xFFFF s.saf.lost else s.saf.lost } } := by
  have hdue : s.saf.due = [] := by
    unfold settled at hs
    simp only [Bool.and_eq_true, List.isEmpty_iff] at hs
    exact hs.1.1.1.1.1.1.1.2
  obtain ⟨hl, hlog, hnext, hlost⟩ := watchLogged_logged s
  rw [← hlog, ← hnext, ← hlost, ← fullReset_logged hl]
  have hreport : (reportFault s 0x16 0 2).saf.due = [watchReport] := by
    show s.saf.due ++ _ = _
    rw [hdue]
    rfl
  have hnone : (reportFault s 0x16 0 2).setSaf (fun y => { y with due := [] }) = s := by
    show { s with saf := { s.saf with due := [] } } = s
    rw [← hdue]
  have htake : takeReports (reportFault s 0x16 0 2) = fullReset (watchLogged s) 3 := by
    rw [takeReports_one hreport, hnone, (watch_noted s).1]
    dsimp only
    rw [(watch_noted s).2, ite_self, if_pos (c := watchReport.code = 0x16) rfl, if_neg fun q => absurd q.2 (by decide)]
    exact rfl
  have hr := ready_of_settled hs
  exact run_reports (f := fun s => reportFault s 0x16 0 2) rfl hr (by rw [hreport]; exact List.cons_ne_nil _ _) htake
    (settled_fullReset _ 3) ⟨rfl, .inl (mirrors_fullReset _ 3)⟩ (by show (watchLogged s).now = _; rw [hl.1])
    (by show (watchLogged s).pending = _; rw [hl.1])

theorem lockstepReset_due {s : State} {a : Nat} (h : s.saf.lockstepAt = some a) (hd : a + 10000000 ≤ s.now) :
    lockstepReset s = fullReset s 3 := by
  unfold lockstepReset
  rw [h]
  exact if_pos hd

theorem lockstepReset_early {s : State} (h : ∀ a, s.saf.lockstepAt = some a → s.now < a + 10000000) : lockstepReset s = s := by
  unfold lockstepReset
  split
  · rename_i a ha
    exact if_neg (Nat.not_le.mpr (h a ha))
  · rfl

/-! ## Deciding a configuration reset (R396) -/

theorem cfgDecide_waits {s : State} (ms : Nat) (h : s.pl.cfgRun = false ∨ s.fab.vstate = .raising ∨ s.fab.vstate = .confirming ∨
    ∃ x, s.pl.net = some x ∧ x.rising = false) : cfgDecide s ms = s := by
  unfold cfgDecide
  rcases h with h | h | h | ⟨x, hx, hr⟩
  · exact if_pos (.inl (by rw [h]; rfl))
  · exact if_pos (.inr (.inl h))
  · exact if_pos (.inr (.inr h))
  · rw [hx]
    dsimp only
    rw [hr]
    exact ite_self _

/-- What was found of the images is noted, nothing else. -/
structure ImagesNoted (s t : State) : Prop where
  frame : t = { s with rf := t.rf, evt := t.evt, pl := t.pl }
  flags : OnlyFlags s t
  wf : s.rf.regs.wf = true → t.rf.regs.wf = true
  pl : t.pl = { s.pl with
    validA := t.pl.validA, validB := t.pl.validB, failA := t.pl.failA, failB := t.pl.failB, seqA := t.pl.seqA, seqB := t.pl.seqB }

theorem ImagesNoted.refl (s : State) : ImagesNoted s s := ⟨rfl, onlyFlags_refl s, id, rfl⟩

theorem ImagesNoted.trans {s t u : State} (h : ImagesNoted s t) (g : ImagesNoted t u) : ImagesNoted s u :=
  ⟨by rw [g.frame, h.frame], onlyFlags_trans h.flags g.flags, fun w => g.wf (h.wf w), by rw [g.pl, h.pl]⟩

theorem imagesNoted_raise (s : State) (bits : Nat) : ImagesNoted s (raise s .PL_EVENT bits) := by
  have h := raise_flagged s (r := .PL_EVENT) bits (i := 0) (by decide) (by decide) (by decide)
  exact ⟨by rw [h.1], h.2, fun w => raise_wf w _ _ _, by rw [raise_pl]⟩

theorem imagesNoted_noteImage (s : State) (b : Bool) (c : ImgCheck) : ImagesNoted s (noteImage s b c) := by
  cases b <;> exact ⟨rfl, onlyFlags_of_rf rfl, id, rfl⟩

theorem imagesNoted_noteHeader (s : State) (b : Bool) : ImagesNoted s (noteHeader s b) := by
  unfold noteHeader
  dsimp only
  split
  · exact (imagesNoted_noteImage s b _).trans (imagesNoted_raise _ 2)
  · cases b <;> exact ⟨rfl, onlyFlags_of_rf rfl, id, rfl⟩

theorem ImagesNoted.checkOf {s t : State} (h : ImagesNoted s t) (b : Bool) : checkOf t b = Machine.checkOf s b := by
  unfold Machine.checkOf imageOf absentB
  rw [h.pl]

theorem ImagesNoted.tryOrder {s t : State} (h : ImagesNoted s t) : tryOrder t = Machine.tryOrder s := by
  unfold Machine.tryOrder absentB
  rw [h.pl]

/-- The first image that passes every check is taken, or none passes. -/
def Selects (s : State) (bs : List Bool) (r : State × Option (Nat × ImgCheck)) : Prop :=
  ImagesNoted s r.1 ∧ ((r.2 = none ∧ ∀ b ∈ bs, (checkOf s b).fail ≠ 0) ∨
    ∃ b ∈ bs, (checkOf s b).fail = 0 ∧ r.2 = some (b2n b, checkOf s b))

theorem Selects.after {s t : State} {bs : List Bool} {r : State × Option (Nat × ImgCheck)} (h : ImagesNoted s t)
    (g : Selects t bs r) : Selects s bs r := by
  simp only [Selects, h.checkOf] at g
  exact ⟨h.trans g.1, g.2⟩

theorem tryImages_selects (s : State) (bs : List Bool) : Selects s bs (tryImages s bs) := by
  induction bs generalizing s with
  | nil => exact ⟨.refl s, .inl ⟨rfl, fun b hb => by cases hb⟩⟩
  | cons b bs ih =>
    unfold tryImages
    dsimp only
    by_cases hc : (checkOf s b).fail = 0
    · rw [if_pos hc]
      exact ⟨imagesNoted_noteImage s b _, .inr ⟨b, List.mem_cons_self, hc, rfl⟩⟩
    · rw [if_neg hc]
      obtain ⟨hn, hr⟩ := (ih _).after ((imagesNoted_noteImage s b (checkOf s b)).trans (imagesNoted_raise _ 2))
      refine ⟨hn, hr.imp (fun ⟨h1, h2⟩ => ⟨h1, ?_⟩) fun ⟨d, hd, h1, h2⟩ => ⟨d, List.mem_cons_of_mem b hd, h1, h2⟩⟩
      intro d hd
      rcases List.mem_cons.mp hd with rfl | hd
      · exact hc
      · exact h2 d hd

theorem selectImage_selects (s : State) : Selects s (tryOrder s) (selectImage s) := by
  have hn := (imagesNoted_noteHeader s false).trans (imagesNoted_noteHeader (noteHeader s false) true)
  have h := (tryImages_selects (noteHeader (noteHeader s false) true) (tryOrder (noteHeader (noteHeader s false) true))).after hn
  rw [hn.tryOrder] at h
  unfold selectImage
  dsimp only
  rw [hn.tryOrder]
  exact h

/-- A settled unit that is alone stays settled while only flags, status and VCORE change. -/
theorem settled_decides {s t : State} (h : settled s = true) (ho : OnlyFlags s t)
    (e : t = { s with rf := t.rf, evt := t.evt, pl := t.pl, fab := t.fab }) (hd : t.fab.decided = s.fab.decided)
    (hx : t.pl.xfer = s.pl.xfer) (hj : t.pl.eject = s.pl.eject) : settled t = true := by
  have em : fb t .SES_MBOX_EN = fb s .SES_MBOX_EN := onlyFlags_fb ho .SES_MBOX_EN rfl (by decide) (by decide)
  have el : lanesDone t = lanesDone s := by rw [e]; rfl
  unfold settled at h ⊢
  rw [em, el, hd, hx, hj, e]
  exact h

theorem run_decides_alone {s t : State} {f : State → State} (ef : f s = t) (h : settled s = true) (ha : isPair s = false)
    (ho : OnlyFlags s t) (e : t = { s with rf := t.rf, evt := t.evt, pl := t.pl, fab := t.fab })
    (hd : t.fab.decided = s.fab.decided) (hx : t.pl.xfer = s.pl.xfer) (hj : t.pl.eject = s.pl.eject) : run s f = .next t := by
  have hout : t.pr.outbox = [] := by
    have hs := settled_decides h ho e hd hx hj
    unfold settled at hs
    simp only [Bool.and_eq_true, List.isEmpty_iff] at hs
    exact hs.1.1.1.1.1.2
  exact run_settled ef (settled_decides h ho e hd hx hj) ⟨hout, .inl (mirrors_alone (by rw [e]; exact ha))⟩ (by rw [e]) (by rw [e])

/-- No image is selected for the configuration reset. -/
theorem cfgSelect_none {s : State} (h : isWitness s = true ∨ ∀ b ∈ tryOrder s, (checkOf s b).fail ≠ 0) (ms : Nat) :
    ∃ t, ImagesNoted s t ∧ cfgSelect s ms = cfgFailed t s := by
  unfold cfgSelect
  by_cases hw : isWitness s = true
  · rw [if_pos hw]
    exact ⟨s, .refl s, rfl⟩
  · rw [if_neg hw]
    obtain ⟨hn, ⟨h1, -⟩ | ⟨b, hb, hc, -⟩⟩ := selectImage_selects s
    · exact ⟨(selectImage s).1, hn, by
        generalize selectImage s = r at h1
        obtain ⟨t, sel⟩ := r
        dsimp only at h1
        rw [h1]⟩
    · exact absurd hc ((h.resolve_left hw) b hb)

/-- The first image that passes every check is selected for the configuration reset. -/
theorem cfgSelect_some {s : State} (hw : isWitness s = false) (h : ∃ b ∈ tryOrder s, (checkOf s b).fail = 0) (ms : Nat) :
    ∃ b ∈ tryOrder s, (checkOf s b).fail = 0 ∧ ∃ t, ImagesNoted s t ∧ cfgSelect s ms = t.setPl fun p => { p with
      net := some { acceptedAt := none, image := b2n b, check := checkOf s b }, loadMs := min ms 0xFFFF } := by
  unfold cfgSelect
  rw [if_neg (by rw [hw]; decide)]
  obtain ⟨hn, ⟨-, h2⟩ | ⟨b, hb, hc, hr⟩⟩ := selectImage_selects s
  · obtain ⟨b, hb, hc⟩ := h
    exact absurd hc (h2 b hb)
  · refine ⟨b, hb, hc, (selectImage s).1, hn, ?_⟩
    generalize selectImage s = r at hr
    obtain ⟨t, sel⟩ := r
    dsimp only at hr
    rw [hr]

theorem cfgDecide_judges {s : State} (hr : s.fab.vstate ≠ .raising) (hc : s.fab.vstate ≠ .confirming) (hrun : s.pl.cfgRun = true)
    (hn : s.pl.net = none) (ms : Nat) : cfgDecide s ms = cfgJudge (cfgSelect s ms) := by
  unfold cfgDecide
  rw [if_neg (by simp [hr, hc, hrun]), hn]

theorem vRaise_from {s : State} (h : s.fab.vstate ≠ .raising) (target : Nat) : vRaise s target = s.setFab fun f => { f with
    vstate := .raising, vfrom := f.vnow, vtarget := target, vAt := s.now, confirm := 0, holdFrom := none } := by
  have e : vPresent s = s.fab.vnow := if_pos h
  unfold vRaise
  rw [e]
  rfl

theorem afterDecision_fab (s : State) : ∃ f, afterDecision s = { s with fab := f } ∧ f.decided = s.fab.decided := by
  unfold afterDecision
  split
  · split
    · exact ⟨_, rfl, rfl⟩
    · exact ⟨_, rfl, rfl⟩
  · exact ⟨_, rfl, rfl⟩
  · exact ⟨_, rfl, rfl⟩

/-- A decision changes VCORE control alone. -/
theorem decision_fab (s : State) : ∃ f, afterDecision (vcoreEval s) = { s with fab := f } ∧ f.decided = s.fab.decided := by
  obtain ⟨f, e, hf⟩ := vcoreEval_fab s
  obtain ⟨g, e', hg⟩ := afterDecision_fab { s with fab := f }
  exact ⟨g, by rw [e, e'], hg.trans hf⟩

/-- A configuration that is decided now. -/
def decidedNet (now : Nat) (u : State) (x : CfgNet) : CfgNet :=
  { acceptedAt := some now, image := x.image, check := x.check
    adds := cfgAdds u (cfgApply u { acceptedAt := none, image := x.image, check := x.check }) }

theorem cfgJudge_fits {u : State} {x : CfgNet} (hn : u.pl.net = some x) (ha : isPair u = false)
    (h : selected (cfgApply u x) ≤ u.fab.vnow) :
    cfgJudge u = afterDecision (vcoreEval (u.setPl fun p => { p with net := some (decidedNet u.now u x) })) := by
  have hp : ¬ cfgWithPeer u = true := by
    unfold cfgWithPeer
    rw [ha]
    exact Bool.false_ne_true
  unfold cfgJudge
  rw [hn]
  dsimp only
  rw [if_neg (Nat.not_lt.mpr h)]
  unfold cfgDecided
  dsimp only
  rw [if_neg hp]
  rfl

theorem cfgJudge_rises {u : State} {x : CfgNet} (hn : u.pl.net = some x) (hr : u.fab.vstate ≠ .raising)
    (h : u.fab.vnow < selected (cfgApply u x)) :
    cfgJudge u = { u with
      pl := { u.pl with net := some { x with rising := true } }
      fab := { u.fab with
        vstate := .raising, vfrom := u.fab.vnow, vtarget := selected (cfgApply u x), vAt := u.now, confirm := 0, holdFrom := none } } := by
  unfold cfgJudge
  rw [hn]
  dsimp only
  rw [if_pos h]
  exact vRaise_from (s := u.setPl _) hr _

/-- A configuration reset that fails tells why, and the present configuration stays. -/
theorem cfgFailed_fails {s u : State} (h : ImagesNoted s u) (hw : s.rf.regs.wf = true) :
    OnlyFlags s (cfgFailed u s) ∧ cfgFailed u s = { s with
      rf := (cfgFailed u s).rf, evt := (cfgFailed u s).evt, pl := (cfgFailed u s).pl } ∧
      (cfgFailed u s).pl = { s.pl with
        failA := (cfgFailed u s).pl.failA, failB := (cfgFailed u s).pl.failB, cfgRun := false, net := none } ∧
      bit (rd (cfgFailed u s) .PL_EVENT) 3 = true := by
  let v := u.setPl fun p => { s.pl with failA := p.failA, failB := p.failB, cfgRun := false, net := none }
  have hr := raise_flagged v (r := .PL_EVENT) 8 (i := 0) (by decide) (by decide) (by decide)
  have e : cfgFailed u s = raise v .PL_EVENT 8 := rfl
  have hv : v = { s with rf := u.rf, evt := u.evt, pl := v.pl } := by
    show u.setPl _ = _
    rw [h.frame]
    rfl
  rw [e]
  refine ⟨onlyFlags_trans (onlyFlags_trans h.flags (onlyFlags_of_rf rfl)) hr.2, ?_, ?_, ?_⟩
  · rw [hr.1, hv]
  · rw [raise_pl]
    rfl
  · rw [rd_raise_self (show v.rf.regs.wf = true from h.wf hw)]
    exact bit_or (by decide) (by decide)

/-- A configuration that fits is decided; the others wait for VCORE. -/
def NetJudged (s t v : State) (x : CfgNet) : Prop :=
  let need := selected (cfgApply v x)
  (need ≤ s.fab.vnow → t.pl.net = some (decidedNet s.now v x) ∧
    t.fab = (afterDecision (vcoreEval (v.setPl fun p => { p with net := some (decidedNet s.now v x) }))).fab) ∧
  (s.fab.vnow < need → t.pl.net = some { x with rising := true } ∧ t.fab = { s.fab with
    vstate := .raising, vfrom := s.fab.vnow, vtarget := need, vAt := s.now, confirm := 0, holdFrom := none })

theorem cfgJudge_judged {s v : State} {x : CfgNet} (hf : v.fab = s.fab) (hnow : v.now = s.now) (hn : v.pl.net = some x)
    (ha : isPair v = false) (hr : s.fab.vstate ≠ .raising) :
    ∃ fab net, cfgJudge v = { v with fab := fab, pl := { v.pl with net := net } } ∧ fab.decided = s.fab.decided ∧
      NetJudged s (cfgJudge v) v x := by
  by_cases h : selected (cfgApply v x) ≤ v.fab.vnow
  · have e := cfgJudge_fits hn ha h
    rw [hnow] at e
    obtain ⟨f, ef, hd⟩ := decision_fab (v.setPl fun p => { p with net := some (decidedNet s.now v x) })
    refine ⟨f, some (decidedNet s.now v x), e.trans ef, hd.trans (congrArg Fab.decided hf), fun _ => ⟨?_, ?_⟩, fun hl => ?_⟩
    · rw [e, ef]
      rfl
    · rw [e]
    · rw [hf] at h
      exact absurd h (Nat.not_le.mpr hl)
  · have e := cfgJudge_rises hn (by rw [hf]; exact hr) (Nat.not_le.mp h)
    refine ⟨_, some { x with rising := true }, e, by show v.fab.decided = _; rw [hf], fun hl => ?_, fun _ => ⟨?_, ?_⟩⟩
    · rw [hf] at h
      exact absurd hl h
    · rw [e]
    · rw [e, hf, hnow]

/-- A configuration is chosen for a reset. -/
def chosen (u : State) (x : CfgNet) (ms : Nat) : State := u.setPl fun p => { p with net := some x, loadMs := min ms 0xFFFF }

/-- What is chosen and how VCORE goes on differ from `v`. -/
def netPut (v : State) (fab : Fab) (net : Option CfgNet) : State := { v with fab := fab, pl := { v.pl with net := net } }

theorem netPut_chosen {u : State} {fab : Fab} (h : u.fab = fab) (x : CfgNet) (ms : Nat) (fab' : Fab) (net : Option CfgNet) :
    netPut (netPut (chosen u x ms) fab' net) fab (some x) = chosen u x ms := by
  rw [← h]
  rfl

theorem netPut_frame {s u : State} (h : ImagesNoted s u) (x : CfgNet) (ms : Nat) (fab : Fab) (net : Option CfgNet) :
    let t := netPut (chosen u x ms) fab net
    t = { s with rf := t.rf, evt := t.evt, pl := t.pl, fab := t.fab } :=
  congrArg (fun y => netPut (chosen { y with pl := u.pl } x ms) fab net) h.frame

/-- A decision of a unit that is alone leaves nothing over. -/
structure Decides (s t : State) (ms : Nat) : Prop where
  runs : run s (fun s => cfgDecide s ms) = .next t
  flags : OnlyFlags s t
  frame : t = { s with rf := t.rf, evt := t.evt, pl := t.pl, fab := t.fab }

section
variable {s : State} {ms : Nat} (hs : settled s = true) (ha : isPair s = false)
  (hr : s.fab.vstate ≠ .raising) (hc : s.fab.vstate ≠ .confirming) (hrun : s.pl.cfgRun = true) (hn : s.pl.net = none)
include hs ha hr hc hrun hn

theorem cfgDecide_fails (hw : s.rf.regs.wf = true) (h : isWitness s = true ∨ ∀ b ∈ tryOrder s, (checkOf s b).fail ≠ 0) :
    ∃ t, Decides s t ms ∧ t.fab = s.fab ∧
      t.pl = { s.pl with failA := t.pl.failA, failB := t.pl.failB, cfgRun := false, net := none } ∧ bit (rd t .PL_EVENT) 3 = true := by
  obtain ⟨u, hu, e⟩ := cfgSelect_none h ms
  obtain ⟨h1, h2, h3, h4⟩ := cfgFailed_fails hu hw
  have en : (cfgFailed u s).pl.net = none := by rw [h3]
  have ef : cfgDecide s ms = cfgFailed u s := by
    rw [cfgDecide_judges hr hc hrun hn ms, e]
    unfold cfgJudge
    rw [en]
  have hfab : (cfgFailed u s).fab = s.fab := by rw [h2]
  generalize cfgFailed u s = t at h1 h2 h3 h4 ef hfab
  have hfr : t = { s with rf := t.rf, evt := t.evt, pl := t.pl, fab := t.fab } := by rw [hfab]; exact h2
  exact ⟨t, ⟨run_decides_alone (f := fun s => cfgDecide s ms) ef hs ha h1 hfr (by rw [hfab]) (by rw [h3]) (by rw [h3]), h1, hfr⟩,
    hfab, h3, h4⟩

theorem cfgDecide_selects (hw : isWitness s = false) (h : ∃ b ∈ tryOrder s, (checkOf s b).fail = 0) :
    ∃ t, Decides s t ms ∧ ∃ b ∈ tryOrder s, (checkOf s b).fail = 0 ∧ t.pl.cfgRun = true ∧ t.pl.loadMs = min ms 0xFFFF ∧
      let x : CfgNet := { acceptedAt := none, image := b2n b, check := checkOf s b }
      NetJudged s t { t with fab := s.fab, pl := { t.pl with net := some x } } x := by
  obtain ⟨b, hb, hok, u, hu, e⟩ := cfgSelect_some hw h ms
  let x : CfgNet := { acceptedAt := none, image := b2n b, check := checkOf s b }
  have huf : u.fab = s.fab := by rw [hu.frame]
  have hun : u.now = s.now := by rw [hu.frame]
  have hua : isPair u = false := by
    unfold isPair
    rw [hu.frame]
    exact ha
  have hupl : u.pl.xfer = s.pl.xfer ∧ u.pl.eject = s.pl.eject ∧ u.pl.cfgRun = s.pl.cfgRun := by rw [hu.pl]; exact ⟨rfl, rfl, rfl⟩
  obtain ⟨hx, hj, hcr⟩ := hupl
  obtain ⟨fab, net, ej, hd, hjd⟩ := cfgJudge_judged (v := chosen u x ms) huf hun rfl hua hr
  have ef : cfgDecide s ms = cfgJudge (chosen u x ms) := (cfgDecide_judges hr hc hrun hn ms).trans (congrArg cfgJudge e)
  rw [show cfgJudge (chosen u x ms) = netPut (chosen u x ms) fab net from ej] at hjd ef
  have hfl : OnlyFlags s (netPut (chosen u x ms) fab net) := onlyFlags_trans hu.flags (onlyFlags_of_rf rfl)
  have hfr := netPut_frame hu x ms fab net
  refine ⟨_, ⟨run_decides_alone (f := fun s => cfgDecide s ms) ef hs ha hfl hfr hd hx hj, hfl, hfr⟩, b, hb, hok, hcr.trans hrun, rfl, ?_⟩
  rw [← netPut_chosen huf x ms fab net] at hjd
  exact hjd

end

/-- A configuration whose higher step VCORE has reached is decided. -/
theorem cfgDecide_risen {s : State} {x : CfgNet} (hs : settled s = true) (ha : isPair s = false) (hr : s.fab.vstate ≠ .raising)
    (hc : s.fab.vstate ≠ .confirming) (hrun : s.pl.cfgRun = true) (hn : s.pl.net = some x) (hx : x.rising = true)
    (hl : selected (cfgApply s x) ≤ s.fab.vnow) (ms : Nat) : run s (fun s => cfgDecide s ms) =
      .next (afterDecision (vcoreEval (s.setPl fun p => { p with net := some (decidedNet s.now s x) }))) := by
  have e : cfgDecide s ms = cfgJudge s := by
    unfold cfgDecide
    rw [if_neg (by simp [hr, hc, hrun]), hn]
    exact if_pos hx
  obtain ⟨f, ef, hd⟩ := decision_fab (s.setPl fun p => { p with net := some (decidedNet s.now s x) })
  rw [ef]
  exact run_decides_alone (f := fun s => cfgDecide s ms) (e.trans ((cfgJudge_fits hn ha hl).trans ef)) hs ha (onlyFlags_of_rf rfl) rfl hd rfl rfl

/-! ## Start-up (R387 to R390) -/

/-- What a start-up leaves alone before it reads a pattern. -/
structure Starts (s t : State) : Prop where
  frame : t = { s with
    rf := t.rf, evt := t.evt, emitted := t.emitted, freeCtr := t.freeCtr, pl := t.pl, glb := t.glb, pr := t.pr, str := t.str
    cio := t.cio, sw := t.sw, syn := t.syn }
  mbox : fb t .SES_MBOX_EN = fb s .SES_MBOX_EN
  fault : t.glb.cfgFault = s.glb.cfgFault
  outbox : t.pr.outbox = s.pr.outbox
  xfer : t.pl.xfer = s.pl.xfer

theorem Starts.trans {s t u : State} (h : Starts s t) (g : Starts t u) : Starts s u :=
  ⟨by rw [g.frame, h.frame], g.mbox.trans h.mbox, g.fault.trans h.fault, g.outbox.trans h.outbox, g.xfer.trans h.xfer⟩

theorem starts_settled {s t : State} (h : Starts s t) (hs : settled s = true) (hq : s.saf.quiet = none)
    (hm : t.glb.mode ≠ .removing) : settled t = true := by
  obtain ⟨frame, mbox, fault, outbox, xfer⟩ := h
  have e1 : (t.glb.mode == .removing) = false := by simpa using hm
  unfold settled at hs ⊢
  rw [mbox, fault, outbox, xfer, e1, frame]
  simp only [hq, Bool.and_eq_true] at hs ⊢
  obtain ⟨⟨rest, -⟩, -⟩ := hs
  exact ⟨⟨rest, rfl⟩, rfl⟩

theorem starts_run {s t : State} {f : State → State} (h : Starts s t) (e : f s = t) (hs : settled s = true)
    (hq : s.saf.quiet = none) (hm : t.glb.mode ≠ .removing) (ha : isPair t = false) : run s f = .next t := by
  have ht := starts_settled h hs hq hm
  have ho : t.pr.outbox = [] := by
    unfold settled at ht
    simp only [Bool.and_eq_true, List.isEmpty_iff] at ht
    exact ht.1.1.1.1.1.2
  exact run_settled e ht ⟨ho, .inl (mirrors_alone ha)⟩ (by rw [h.frame]) (by rw [h.frame])

theorem synStart_frame (s : State) : synStart s = { s with freeCtr := (synStart s).freeCtr, syn := (synStart s).syn } :=
  forEach_rel (R := fun s t => t = { s with freeCtr := t.freeCtr, syn := t.syn }) (fun _ => rfl) (fun h g => by rw [g, h])
    (fun _ _ => rfl) _ s

/-- A unit that is alone starts with every power. -/
theorem startRole_alone {s : State} (ha : isPair s = false) (hst : s.pr.state = .start) :
    startRole s = rolePowers (s.setPr fun p => entered p .solo) := by
  unfold startRole
  rw [if_neg (by rw [ha]; decide), prState_eq (by rw [hst]; decide), hst]
  rfl

/-- The beginning of every start-up: straps, synthesizers, role. -/
def begun (s : State) (env : StartEnv) : State := startRole (synStart (senseStart s env))

theorem begun_starts {s : State} {env : StartEnv} (hst : s.pr.state = .start) (ha : isPair (senseStart s env) = false) :
    Starts s (begun s env) ∧ (begun s env).pl = (senseStart s env).pl ∧ (begun s env).glb.inReset = false ∧
      (begun s env).glb.straps = env.straps % 4 := by
  have hf := synStart_frame (senseStart s env)
  have ha' : isPair (synStart (senseStart s env)) = false := by
    unfold isPair
    rw [hf]
    exact ha
  have hst' : (synStart (senseStart s env)).pr.state = .start := by rw [hf]; exact hst
  have e := startRole_alone ha' hst'
  have hk := powersOf_kept ((synStart (senseStart s env)).setPr fun p => entered p .solo) (synStart (senseStart s env)).glb
  rw [rolePowers_frame] at e
  unfold begun
  generalize synStart (senseStart s env) = u at e hf hk
  refine ⟨⟨?_, ?_, ?_, ?_, ?_⟩, ?_, ?_, ?_⟩
  · rw [e, hf]
    rfl
  · rw [e, hf]
    rfl
  · rw [e]
    show (powersOf _ u.glb).cfgFault = _
    rw [hk, hf]
    rfl
  · rw [e, hf]
    rfl
  · rw [e, hf]
    rfl
  · rw [e, hf]
    rfl
  · rw [e]
    show (powersOf _ u.glb).inReset = _
    rw [hk, hf]
    rfl
  · rw [e]
    show (powersOf _ u.glb).straps = _
    rw [hk, hf]
    rfl

theorem isPair_begun {s : State} {env : StartEnv} (h : (begun s env).glb.straps = env.straps % 4)
    (hn : env.straps % 4 = 0 ∨ env.straps % 4 = 3) : isPair (begun s env) = false := by
  unfold isPair
  rw [h]
  rcases hn with hn | hn <;> rw [hn] <;> rfl

theorem startUp_begun {s : State} (h : s.glb.inReset = true) (env : StartEnv) : startUp s env = startAs (begun s env) env := by
  unfold startUp
  rw [if_neg (by rw [h]; decide)]
  rfl

/-- A witness starts its service (R390). -/
theorem startAs_witness {u : State} {env : StartEnv} (hb : env.bootOk = true) (hd : env.dramOk = true) (h : isWitness u = true) :
    startAs u env = (u.setGlb fun g => { g with mode := .running }).setPl fun p => { p with phase := 6 } := by
  unfold startAs
  rw [if_neg (by rw [hb]; decide), if_neg (by rw [hd]; decide), if_pos h]

theorem startAs_unit {u : State} {env : StartEnv} (hb : env.bootOk = true) (hd : env.dramOk = true) (h : isWitness u = false) :
    startAs u env = startUnit u env := by
  unfold startAs
  rw [if_neg (by rw [hb]; decide), if_neg (by rw [hd]; decide), if_neg (by rw [h]; decide)]

theorem run_witnessStarts {s : State} {env : StartEnv} (hs : settled s = true) (hr : s.glb.inReset = true)
    (hst : s.pr.state = .start) (hq : s.saf.quiet = none) (hb : env.bootOk = true) (hd : env.dramOk = true)
    (hw : env.straps % 4 = 3) : ∃ t, run s (fun s => startUp s env) = .next t ∧ t.glb.inReset = false ∧ t.glb.mode = .running ∧
      t.glb.straps = 3 ∧ t.pl.phase = 6 ∧ t.pl.releaseAt = s.now := by
  have ha : isPair (senseStart s env) = false := by
    show (env.straps % 4 == 1 || env.straps % 4 == 2) = false
    rw [hw]
    rfl
  obtain ⟨hst', hpl, hir, hsp⟩ := begun_starts hst ha
  have hp := isPair_begun hsp (.inr hw)
  rw [hw] at hsp
  have hwit : isWitness (begun s env) = true := by unfold isWitness; rw [hsp]; rfl
  have e := (startUp_begun hr env).trans (startAs_witness hb hd hwit)
  generalize begun s env = u at hst' hpl hir hsp hp e
  have step : Starts u ((u.setGlb fun g => { g with mode := .running }).setPl fun p => { p with phase := 6 }) :=
    ⟨rfl, rfl, rfl, rfl, rfl⟩
  refine ⟨_, starts_run (f := fun s => startUp s env) (hst'.trans step) e hs hq (fun q => by cases q) hp, hir, rfl, hsp, rfl, ?_⟩
  show u.pl.releaseAt = _
  rw [hpl]
  rfl

/-! ### Entering BARE (R384) -/

theorem laneGate_frame (s : State) : laneGate s = { s with emitted := (laneGate s).emitted } :=
  forEach_rel (R := fun s t => t = { s with emitted := t.emitted }) (fun _ => rfl) (fun h g => by rw [g, h]) (fun _ _ => rfl) _ s

theorem setGate_starts (s : State) (on : Bool) : Starts s (setGate s on) ∧ (setGate s on).pl = s.pl := by
  obtain ⟨hp, hg, hr⟩ := gate_own s on
  have hf : setGate s on = { s with glb := { s.glb with gate := on }, cio := (setGate s on).cio, emitted := (setGate s on).emitted } := by
    unfold setGate
    split
    · rename_i h
      rw [← h]
    · generalize hu : emit (s.setGlb fun g => { g with gate := on }) (.gate on) = u
      have e : coGateAll (laneGate u) = { u with cio := (coGateAll (laneGate u)).cio, emitted := (coGateAll (laneGate u)).emitted } := by
        rw [gateAll_frame, laneGate_frame]
      rw [e, ← hu]
      rfl
  have hm : fb (setGate s on) .SES_MBOX_EN = fb s .SES_MBOX_EN := by
    unfold fb fv rd
    rw [hr]
  refine ⟨⟨?_, hm, by rw [hg], by rw [hp], by rw [hf]⟩, by rw [hf]⟩
  rw [hf]

theorem imagesNoted_starts {s t : State} (h : ImagesNoted s t) : Starts s t := by
  refine ⟨?_, onlyFlags_fb h.flags .SES_MBOX_EN rfl (by decide) (by decide), ?_, ?_, by rw [h.pl]⟩
  · rw [h.frame]
  · rw [h.frame]
  · rw [h.frame]

/-- An erased image has no valid header. -/
theorem norSeq_erased (absent : Bool) : norSeq absent (.bytes []) = 0 := by
  cases absent <;> decide +kernel

theorem tryOrder_erased {s : State} (h1 : s.pl.norA = .bytes []) (h2 : s.pl.norB = .bytes []) : tryOrder s = [] := by
  unfold tryOrder
  rw [h1, h2, norSeq_erased, norSeq_erased]
  rfl

theorem setFd_mbox (s : State) {f : Fd} (v : Nat) (h : addr .SES_MBOX ≠ addr f.reg) : rd (setFd s f v) .SES_MBOX = rd s .SES_MBOX :=
  rd_wr_ne s _ h

theorem bareFields_mbox (s : State) (k : Nat) : rd (bareFields s k) .SES_MBOX = rd s .SES_MBOX :=
  (setFd_mbox _ 1 (by decide)).trans ((setFd_mbox _ 1 (by decide)).trans (setFd_mbox s _ (by decide)))

theorem rd_setPl (s : State) (f : Loader → Loader) (r : Reg) (i j : Nat) : rd (s.setPl f) r i j = rd s r i j := rfl

theorem bareTry_mbox (s : State) (k : Nat) : fb (bareTry s k) .SES_MBOX_EN = fb s .SES_MBOX_EN := by
  have e : bareTry s k = portEnable ((bareFields (portEnable s 0 false) k).setPl fun p => { p with
      bareIdx := k % 4, bareAt := (bareFields (portEnable s 0 false) k).now }) 0 true := rfl
  have reads (t : State) (on : Bool) : rd (portEnable t 0 on) .SES_MBOX = rd t .SES_MBOX :=
    (switchOnly_portEnable t 0 on).2.2 .SES_MBOX 0 0 (by decide) (by decide) rfl
  have h : rd (bareTry s k) .SES_MBOX = rd s .SES_MBOX := by
    rw [e, reads, rd_setPl, bareFields_mbox, reads]
  unfold fb fv
  rw [show rd (bareTry s k) Fd.SES_MBOX_EN.reg = rd s Fd.SES_MBOX_EN.reg from h]

theorem enterBare_starts (s : State) : Starts s (enterBare s) ∧ (enterBare s).glb = { s.glb with mode := .bare } ∧
    (enterBare s).pl = { s.pl with active := none, phase := 7, bareIdx := 0, bareAt := s.now } ∧
    (portOf (enterBare s) 0).state = .negotiating := by
  let u := (s.setGlb fun g => { g with mode := .bare }).setPl fun p => { p with active := none, phase := 7 }
  have h := bareTry_tries u 0
  have e : enterBare s = bareTry u 0 := rfl
  have hm := bareTry_mbox u 0
  obtain ⟨hf, hpl, hn, -⟩ := h
  rw [e]
  refine ⟨⟨?_, hm, ?_, ?_, ?_⟩, ?_, hpl, hn⟩
  · rw [hf]
    rfl
  · rw [hf]
    rfl
  · rw [hf]
    rfl
  · rw [hpl]
    rfl
  · rw [hf]
    rfl

/-- A lone unit whose images are both erased enters BARE. -/
theorem startUnit_erased {u : State} {env : StartEnv} (ha : isPair u = false) (h1 : u.pl.norA = .bytes []) (h2 : u.pl.norB = .bytes []) :
    ∃ v, ImagesNoted (readStart (setGate u env.oePin) env) v ∧ startUnit u env = enterBare v := by
  have hpl := (setGate_starts u env.oePin).2
  have ho : tryOrder (readStart (setGate u env.oePin) env) = [] := by
    refine tryOrder_erased ?_ ?_
    · show (setGate u env.oePin).pl.norA = _
      rw [hpl, h1]
    · show (setGate u env.oePin).pl.norB = _
      rw [hpl, h2]
  have hsel := selectImage_selects (readStart (setGate u env.oePin) env)
  rw [ho] at hsel
  obtain ⟨hn, ⟨hnone, -⟩ | ⟨b, hb, -⟩⟩ := hsel
  · refine ⟨_, hn, ?_⟩
    unfold startUnit
    rw [if_neg (by rw [ha]; decide)]
    dsimp only
    rw [hnone]
  · cases hb

theorem run_bareStarts {s : State} {env : StartEnv} (hs : settled s = true) (hr : s.glb.inReset = true)
    (hst : s.pr.state = .start) (hq : s.saf.quiet = none) (hb : env.bootOk = true) (hd : env.dramOk = true)
    (hw : env.straps % 4 = 0) (hA : env.norA = some (.bytes [])) (hB : env.norB = some (.bytes [])) :
    ∃ t, run s (fun s => startUp s env) = .next t ∧ t.glb.inReset = false ∧ t.glb.mode = .bare ∧ t.pl.phase = 7 ∧
      t.pl.active = none ∧ t.glb.gate = env.oePin ∧ t.pl.bareIdx = 0 ∧ t.pl.bareAt = s.now ∧ (portOf t 0).state = .negotiating := by
  have ha : isPair (senseStart s env) = false := by
    show (env.straps % 4 == 1 || env.straps % 4 == 2) = false
    rw [hw]
    rfl
  obtain ⟨hst', hpl, hir, hsp⟩ := begun_starts hst ha
  have hp := isPair_begun hsp (.inl hw)
  rw [hw] at hsp
  have hwit : isWitness (begun s env) = false := by unfold isWitness; rw [hsp]; rfl
  have h1 : (begun s env).pl.norA = .bytes [] := by
    rw [hpl]
    show env.norA.getD _ = _
    rw [hA]
    rfl
  have h2 : (begun s env).pl.norB = .bytes [] := by
    rw [hpl]
    show env.norB.getD _ = _
    rw [hB]
    rfl
  obtain ⟨v, hv, ev⟩ := startUnit_erased (env := env) hp h1 h2
  have e := (startUp_begun hr env).trans ((startAs_unit hb hd hwit).trans ev)
  have gate := (setGate_starts (begun s env) env.oePin).1
  have gateGlb := (gate_own (begun s env) env.oePin).2.1
  have read : Starts (setGate (begun s env) env.oePin) (readStart (setGate (begun s env) env.oePin) env) := ⟨rfl, rfl, rfl, rfl, rfl⟩
  obtain ⟨bare, bareGlb, barePl, negotiates⟩ := enterBare_starts v
  have steps : Starts s (enterBare v) := hst'.trans (gate.trans (read.trans ((imagesNoted_starts hv).trans bare)))
  have hg : (enterBare v).glb = { (begun s env).glb with gate := env.oePin, mode := .bare } := by
    have hvg : v.glb = (setGate (begun s env) env.oePin).glb := by rw [hv.frame]; rfl
    rw [bareGlb, hvg, gateGlb]
  have hnow : v.now = s.now := ((imagesNoted_starts hv).frame ▸ rfl : v.now = (readStart (setGate (begun s env) env.oePin) env).now).trans
    (by show (setGate (begun s env) env.oePin).now = _; rw [gate.frame, hst'.frame])
  refine ⟨enterBare v, starts_run (f := fun s => startUp s env) steps e hs hq (by rw [hg]; exact fun q => by cases q) ?_,
    by rw [hg]; exact hir, by rw [hg], by rw [barePl], by rw [barePl], by rw [hg], by rw [barePl], by rw [barePl, hnow], negotiates⟩
  unfold isPair
  rw [hg]
  exact hp

/-! ## The obligation -/

/-- Settles O51: full resets come to `fullReset`, which is settled whatever was before (`run_fullReset`); what CFG_RESET_DECIDE
selects is `selectImage_selects`, and a start-up is followed step by step (`Starts`). -/
theorem resetsReturnEverything : Obligations.ResetsReturnEverything := by
  unfold Obligations.ResetsReturnEverything
  intro s full watch
  have hfull (cause : Nat) : fullReset s cause = full cause := by
    unfold fullReset
    rw [cutHeartbeat_emitted]
  have reset {f : State → State} {cause : Nat} (e : f s = fullReset s cause) : run s f = .next (full cause) := by
    rw [← hfull cause]
    exact run_fullReset e rfl rfl
  refine ⟨reset (f := fun s => fullReset s 0) rfl, reset (f := fun s => fullReset s 1) rfl, fun ha => ?_, fun ha hm => ?_,
    run_cfgReset, fun hs => ?_, fun a ha hd => reset (f := lockstepReset) (lockstepReset_due ha hd),
    fun hs hc hx => ⟨fun h => ?_, fun ms h => ?_, fun env h => ?_⟩, fun hs ha hw hr hc ms hrun hn => ?_,
    fun hs ha _ _ hr hc hrun ms x hn hx hl => cfgDecide_risen hs ha hr hc hrun hn hx hl ms,
    fun hs hr hst hq env hb hd => ⟨run_witnessStarts hs hr hst hq hb hd, run_bareStarts hs hr hst hq hb hd⟩⟩
  · rw [← hfull 2]
    exact run_resetWrite ha rfl
  · rw [← hfull 2]
    exact run_resetWrite ha (cfgReset_bare hm)
  · rw [← hfull 3]
    exact run_watchdog hs
  · exact run_idle (f := lockstepReset) (lockstepReset_early h) hs hc hx
  · exact run_idle (f := fun s => cfgDecide s ms) (cfgDecide_waits ms h) hs hc hx
  · exact run_idle (f := fun s => startUp s env) (if_pos (by rw [h]; rfl)) hs hc hx
  · by_cases h : isWitness s = true ∨ ∀ b ∈ tryOrder s, (checkOf s b).fail ≠ 0
    · obtain ⟨t, ⟨h1, h2, h3⟩, fails⟩ := cfgDecide_fails (ms := ms) hs ha hr hc hrun hn hw h
      refine ⟨t, h1, h2, h3, fun _ => fails, fun hno ⟨b, hb, hok⟩ => ?_⟩
      rcases h with h | h
      · rw [h] at hno
        cases hno
      · exact absurd hok (h b hb)
    · obtain ⟨hno, hex⟩ := not_or.mp h
      have hex' : ∃ b ∈ tryOrder s, (checkOf s b).fail = 0 := by
        by_contra q
        exact hex fun b hb hok => q ⟨b, hb, hok⟩
      obtain ⟨t, ⟨h1, h2, h3⟩, selects⟩ := cfgDecide_selects (ms := ms) hs ha hr hc hrun hn (Bool.eq_false_iff.mpr hno) hex'
      refine ⟨t, h1, h2, h3, fun hf => absurd ?_ h, fun _ _ => selects⟩
      rcases hf with hf | hf | hf
      · exact .inl hf
      · exact .inr fun b hb => by rw [hf] at hb; cases hb
      · exact .inr hf

end Sys2Proof.Machine
end
